-- ==== Sys2Proof/Word.lean ====
section
/-! DEFINITION. The plainest word types of the package: a byte, and the place of a bit field in a number. -/

namespace Sys2Proof

/-- One byte of any memory of the package (R6: multi-byte fields are little-endian). -/
abbrev Byte := BitVec 8

/-- Bits [lo + w - 1 : lo] of a number (the field notation of R5). -/
def bits (v lo w : Nat) : Nat := (v >>> lo) % 2 ^ w

/-- One bit of a number. -/
def bit (v i : Nat) : Bool := v.testBit i

/-- The number with bits [lo + w - 1 : lo] replaced by `x`. -/
def setBits (v lo w x : Nat) : Nat := v - (bits v lo w <<< lo) + ((x % 2 ^ w) <<< lo)

/-- The signed value of a `w`-bit two's-complement number. -/
def signed (w v : Nat) : Int :=
  let u := v % 2 ^ w
  if u < 2 ^ (w - 1) then (u : Int) else (u : Int) - (2 ^ w : Nat)

/-- The `w`-bit two's-complement number of an integer, wrapping. -/
def unsigned (w : Nat) (i : Int) : Nat := (i % (2 ^ w : Nat)).toNat

end Sys2Proof
end

