-- ==== Sys2Proof/Syntax.lean ====
section
/-! DEFINITION. The commands the block takes: one constructor per row of spec/opcode_table.json. An event of the package or
of a party outside it (a die leaving reset, a flit arriving, a host TLP, a sensor reading) is a command like a register
write. Operands carry what the row cannot know from the state: which instance it concerns, and what arrives from outside. -/

namespace Sys2Proof

/-- What one 32-byte sector access reports (R267): the on-die ECC report (0 no error, 1 corrected, 2 uncorrected) and the
controller's SEC-DED result (0 no error, 1 single bit, 2 double bit or wider); and whether a spare row remains in its bank (R268). -/
structure Ecc where
  onDie : Nat
  secDed : Nat
  spareRow : Bool
  deriving DecidableEq, Repr

/-- A request that reaches a home agent (R343): one the state already holds, sent by a master port of the package, or one
that comes in from a bay chiplet (R373): the bytes of its stream with the request flit and the data flits that follow it, each flit after its tag
(R325, R328, R371). In CXL mode the bay port makes the flits of the chiplet's request (R372). -/
inductive Arrival where
  | req (rid : Nat)
  | bay (bay : Nat) (stream : List Nat)
  deriving DecidableEq, Repr

/-- A request at a master port (R284, R492): the `k`-th remaining piece of a tile's transfer, or a memory request of one of a die's two Pack cores. -/
inductive LeashSrc where
  | piece (xfer k : Nat)
  | pack (die core : Nat)
  deriving DecidableEq, Repr


/-- The commands. Each docstring is its row of the table. -/
inductive Instr where
  /-- REG_WRITE (R10): A register write with no row of its own applies each covered field under its change class, R14 drop rules and R15 per-field handling. -/
  | regWrite (die : Nat) (off : Nat) (len : Nat) (value : Nat) (dt : Nat)
  /-- COUNTER_LOW_READ (R91): A read of the low word of a 64-bit counter latches the high word for the next read. -/
  | counterLowRead (die : Nat) (off : Nat)
  /-- CLU_DBG_DATA_READ (R93): A read of CLU_DBG_DATA returns 8 bytes of a held cluster's state, and a read of the high word advances OFFSET by 8. -/
  | cluDbgDataRead (cluster : Nat) (high : Bool)
  /-- HUB_ISLAND_WRITE (R32): A write to HUB_ISLAND reshapes the coherent islands or is dropped; islands that contain DOWN dies start DOWN. -/
  | hubIslandWrite (value : Nat)
  /-- TICK_BOUNDARY (R240): At each tick boundary the tick number rises and the latch, slot, telemetry, epoch, stream, hard-limit, debt, swap, admission, status and interrupt steps run in order. -/
  | tickBoundary
  /-- STANDIN_BLOCK (R85): After 16 boundaries without a swap, admission to the target stops until its unit ends. -/
  | standinBlock (die : Nat)
  /-- SLOT_FRAME_START (R243): Every 1,024 FCLK a new slot frame starts and the Leash refills each class counter with EFF. -/
  | slotFrameStart (dt : Nat)
  /-- DIE_RESET_RELEASE (R20): A die leaves reset, samples PKG_POS and checks it against FUSED_POS. -/
  | dieResetRelease (die : Nat) (pos : Nat)
  /-- NOP (R145): The tile issues NOP, with optional token waits and signals. -/
  | nop (tile : Nat)
  /-- TOKEN (R146): The tile issues TOKEN with one wait and two signals. -/
  | token (tile : Nat)
  /-- END (R145): The tile issues END and ends its part of the unit once every issued command completes. -/
  | tileEnd (tile : Nat)
  /-- LOOP (R142): The tile issues LOOP and pushes a loop frame. -/
  | loop (tile : Nat)
  /-- MOVE (R150): The data mover copies shaped rows between tile memory, cluster buffer and Flial memory. -/
  | move (tile : Nat)
  /-- SETBASE (R148): The tile sets an address base register from the command. -/
  | setbase (tile : Nat)
  /-- LDBASE (R148): The tile loads an address base register from 16 bytes of the cluster buffer. -/
  | ldbase (tile : Nat)
  /-- SETSHAPE (R148): The tile sets a shape register. -/
  | setshape (tile : Nat)
  /-- FILL (R148): The tile writes a 32-bit pattern over lines of tile memory. -/
  | fill (tile : Nat)
  /-- GATHER (R153): The tile reads indexed rows through the narrow path into tile memory. -/
  | gather (tile : Nat)
  /-- SCATTER (R153): The tile writes rows from tile memory to indexed addresses through the narrow path. -/
  | scatter (tile : Nat)
  /-- SEND (R154): The tile sends slots on an outbound channel against credits. -/
  | send (tile : Nat)
  /-- RECV (R154): The tile receives arrived slots from an inbound channel and returns their credits. -/
  | recv (tile : Nat)
  /-- CUBE (R47): The cube runs matrix steps into an accumulator bank, or skips the command in adaptive dial mode. -/
  | cube (tile : Nat)
  /-- ACCZ (R156): The tile zeroes an accumulator bank and sets its type. -/
  | accz (tile : Nat)
  /-- ACCLD (R156): The tile loads an accumulator bank from tile memory and sets its type. -/
  | accld (tile : Nat)
  /-- ACCST (R156): The tile drains an accumulator bank to tile memory. -/
  | accst (tile : Nat)
  /-- DIAL (R160): The tile reads headers, the dispatcher returns s_block, and the tile sets S_BLOCK and writes the descriptor word. -/
  | dial (tile : Nat)
  /-- PLANES (R156): The tile sets its PLANES value. -/
  | planes (tile : Nat)
  /-- VADD (R164): The vector unit computes a + b. -/
  | vadd (tile : Nat)
  /-- VSUB (R164): The vector unit computes a − b. -/
  | vsub (tile : Nat)
  /-- VMUL (R164): The vector unit computes a × b. -/
  | vmul (tile : Nat)
  /-- VFMA (R164): The vector unit computes a × b + d with one rounding. -/
  | vfma (tile : Nat)
  /-- VMIN (R164): The vector unit computes minimumNumber. -/
  | vmin (tile : Nat)
  /-- VMAX (R164): The vector unit computes maximumNumber. -/
  | vmax (tile : Nat)
  /-- VCEQ (R164): The vector unit compares for equality. -/
  | vceq (tile : Nat)
  /-- VCNE (R164): The vector unit compares for inequality. -/
  | vcne (tile : Nat)
  /-- VCLT (R164): The vector unit compares less-than. -/
  | vclt (tile : Nat)
  /-- VCLE (R164): The vector unit compares less-or-equal. -/
  | vcle (tile : Nat)
  /-- VAND (R164): The vector unit computes bitwise AND. -/
  | vand (tile : Nat)
  /-- VOR (R164): The vector unit computes bitwise OR. -/
  | vor (tile : Nat)
  /-- VXOR (R164): The vector unit computes bitwise XOR. -/
  | vxor (tile : Nat)
  /-- VSEL (R164): The vector unit selects bitwise between a and b by d. -/
  | vsel (tile : Nat)
  /-- VABS (R164): The vector unit clears the sign of each lane. -/
  | vabs (tile : Nat)
  /-- VNEG (R164): The vector unit inverts the sign of each lane. -/
  | vneg (tile : Nat)
  /-- VMOV (R164): The vector unit copies lanes and canonicalises NaNs. -/
  | vmov (tile : Nat)
  /-- VRSUM (R164): The vector unit adds every lane of every pass into lane 0 of D. -/
  | vrsum (tile : Nat)
  /-- VRMAX (R164): The vector unit takes the maximum of every lane into lane 0 of D. -/
  | vrmax (tile : Nat)
  /-- VEXP (R164): The vector unit computes exp. -/
  | vexp (tile : Nat)
  /-- VEXP2 (R164): The vector unit computes exp2. -/
  | vexp2 (tile : Nat)
  /-- VLOG (R164): The vector unit computes log. -/
  | vlog (tile : Nat)
  /-- VLOG2 (R164): The vector unit computes log2. -/
  | vlog2 (tile : Nat)
  /-- VRCP (R164): The vector unit computes the reciprocal. -/
  | vrcp (tile : Nat)
  /-- VSQRT (R164): The vector unit computes the square root. -/
  | vsqrt (tile : Nat)
  /-- VRSQRT (R164): The vector unit computes the reciprocal square root. -/
  | vrsqrt (tile : Nat)
  /-- VSIN (R164): The vector unit computes sin. -/
  | vsin (tile : Nat)
  /-- VCOS (R164): The vector unit computes cos. -/
  | vcos (tile : Nat)
  /-- VTANH (R164): The vector unit computes tanh. -/
  | vtanh (tile : Nat)
  /-- VSIGM (R164): The vector unit computes the sigmoid. -/
  | vsigm (tile : Nat)
  /-- VERF (R164): The vector unit computes erf. -/
  | verf (tile : Nat)
  /-- VRCMB (R165): The vector unit recombines dial diagonals of a 4 × 4 block into FP64. -/
  | vrcmb (tile : Nat)
  /-- CVT (R168): The vector unit converts elements between formats, with RNE or SR. -/
  | cvt (tile : Nat)
  /-- CVTMX (R169): The vector unit converts values into MX blocks and their scales. -/
  | cvtmx (tile : Nat)
  /-- CVTXM (R169): The vector unit converts MX blocks back into floats. -/
  | cvtxm (tile : Nat)
  /-- SLICE (R170): The vector unit slices FP64 or FP32 rows into planes and headers and sets PLANES. -/
  | slice (tile : Nat)
  /-- COMMAND_START (R138): An issued command starts on its unit once its predecessors and resources allow, and start-time faults are detected. -/
  | commandStart (tile : Nat) (unit : Nat)
  /-- COMMAND_COMPLETE (R71): A command completes and applies its token signals, or faults with TOKEN_OVERFLOW. -/
  | commandComplete (tile : Nat) (seq : Nat)
  /-- TOKEN_SIGNAL_ARRIVE (R59): A token signal reaches its target tile's counter, one or two TCLK after completion. -/
  | tokenSignalArrive (tile : Nat) (k : Nat)
  /-- CHANNEL_SLOT_ARRIVE (R66): A channel slot arrives in its receive ring, in send order. -/
  | channelSlotArrive (tile : Nat) (ch : Nat)
  /-- CREDIT_RETURN (R64): Credits of a receive reach the sending tile's channel counter, or fault with CREDIT_OVERFLOW. -/
  | creditReturn (tile : Nat) (ch : Nat)
  /-- UNIT_STOP (R75): The dispatcher stops the unit's other tiles within 16 TCLK and the Sheepdog stops its other clusters within 1 µs. -/
  | unitStop (uid : Nat)
  /-- CLUSTER_UNIT_END (R80): When every masked tile has ended, the dispatcher reports the end to the Sheepdog. -/
  | clusterUnitEnd (cluster : Nat)
  /-- DISPATCH_LOAD (R80): The dispatcher receives an assignment, scrubs if needed, reads headers, fills rings and arguments, and reports ready. -/
  | dispatchLoad (cluster : Nat) (host : List (BitVec 8))
  /-- START_RELEASE (R81): Once every cluster of a unit has finished loading, the Sheepdog releases them and all masked tiles start in one TCLK. -/
  | startRelease (uid : Nat) (dt : Nat)
  /-- RING_REFILL (R80): The dispatcher writes further program entries into a tile ring as room frees. -/
  | ringRefill (tile : Nat)
  /-- CLU_RELEASE (R91): A write of RELEASE ends HELD, scrubs the cluster and returns it to IDLE. -/
  | cluRelease (cluster : Nat)
  /-- CLU_PERF_CLEAR (R91): A write of PERF_CLEAR clears every CLU and TIL counter of the cluster. -/
  | cluPerfClear (cluster : Nat)
  /-- DOORBELL_READ_RETURN (R205): A partition's doorbell block returns; the Sheepdog checks counts, fetches descriptors and tests fetched descriptors for admission. -/
  | doorbellReadReturn (part : Nat) (queue : Nat) (ok : Bool) (data : List (BitVec 8))
  /-- FETCH_DEADLINE (R208): The fetch deadline passes without a doorbell block, so the partition admits nothing at that boundary. -/
  | fetchDeadline (part : Nat) (queue : Nat)
  /-- DESCRIPTOR_READ_RETURN (R205): Fetched descriptors return and become available for admission. -/
  | descriptorReadReturn (part : Nat) (ring : Nat) (ok : Bool) (data : List (BitVec 8))
  /-- KERNEL (R205): A KERNEL descriptor is checked, placed and admitted to idle clusters, or completes with BAD_DESCRIPTOR or NO_PLACEMENT. -/
  | kernel (part : Nat) (ring : Nat) (dt : Nat)
  /-- MARKER (R204): A MARKER descriptor completes OK at admission without using a cluster. -/
  | marker (part : Nat) (ring : Nat) (dt : Nat)
  /-- COPY (R319): A Retriever COPY copies BYTES from SRC to DST in the order of R320. -/
  | copy (part : Nat) (ring : Nat) (dt : Nat) (host : List (BitVec 8))
  /-- MIGRATE (R319): A Retriever MIGRATE copies, writes its PTE list, invalidates, and completes after the drain. -/
  | migrate (part : Nat) (ring : Nat) (dt : Nat) (host : List (BitVec 8))
  /-- WARM (R319): A Retriever WARM translates every page of a range into the named die TLBs. -/
  | warm (part : Nat) (ring : Nat) (dt : Nat)
  /-- STC_FILL (R319): A Retriever STC_FILL reads a range into the stack cache. -/
  | stcFill (part : Nat) (ring : Nat) (dt : Nat) (host : List (BitVec 8))
  /-- STC_CLEAN (R319): A Retriever STC_CLEAN writes back every dirty sector of a range. -/
  | stcClean (part : Nat) (ring : Nat) (dt : Nat)
  /-- COMPLETION_RECORD_WRITE (R211): After every write of a unit is acknowledged, the Sheepdog writes its completion record, advances DONE and charges any overrun. -/
  | completionRecordWrite (uid : Nat) (dt : Nat)
  /-- RING_ENABLE (R229): A write of ENABLE = 1 to WRK_RING_CFG moves an IDLE ring to ACTIVE, or to STOPPED for a stopped context. -/
  | ringEnable (part : Nat) (ring : Nat) (value : Nat)
  /-- RING_STOP (R221): STOP ends a ring's unadmitted descriptors ABORTED and drains its admitted units. -/
  | ringStop (part : Nat) (ring : Nat)
  /-- RING_RESET (R221): RESET resets a ring's counts and returns it to IDLE when IN_FLIGHT is 0. -/
  | ringReset (part : Nat) (ring : Nat)
  /-- MGMT_QUEUE_ENABLE (R225): A write of ENABLE to WRK_MGMT_CFG enables the partition's management queue. -/
  | mgmtQueueEnable (part : Nat) (value : Nat)
  /-- SHD_CLEAR_STATS (R228): A write of CLEAR_STATS clears every SHD counter and WINDOW_MAX. -/
  | shdClearStats
  /-- REGISTER_IMAGE (R187): Management command that copies, digests, checks and registers a kernel image and returns a handle. -/
  | registerImage (part : Nat) (host : List (BitVec 8))
  /-- UNREGISTER_IMAGE (R226): Management command that unregisters an image handle. -/
  | unregisterImage (part : Nat)
  /-- STOP_CONTEXT (R222): Management command that stops a context at the next boundary, ending its units and stopping its rings. -/
  | stopContext (part : Nat)
  /-- RESUME_CONTEXT (R226): Management command that returns a context's STOPPED rings to ACTIVE at the next boundary. -/
  | resumeContext (part : Nat)
  /-- INVALIDATE (R313): Management command that starts a translation invalidation with drain for a context's range. -/
  | invalidate (part : Nat)
  /-- MGMT_BUSY_TIMEOUT (R227): A command not started by the Pack within 64 ticks of fetch is answered BUSY. -/
  | mgmtBusyTimeout (part : Nat)
  /-- BUDGET_END (R203): A unit still running at its budget end is marked OVERRAN. -/
  | budgetEnd (uid : Nat)
  /-- HARD_LIMIT (R245): At the fourth boundary after admission an unended unit is stopped and the Sheepdog acts on its whole context. -/
  | hardLimit (uid : Nat)
  /-- TICK_IN_EDGE (R235): A rising edge on TICK_IN marks a boundary if it lies within the window, or sets TICKIN_FAULT. -/
  | tickInEdge (dt : Nat)
  /-- TICK_IN_MISSED (R235): The window closes without an edge; the package generates the boundary and enters LOST after 8 in a row. -/
  | tickInMissed
  /-- SYNC_SEND (R236): A master sends a sync frame every 10 µs. -/
  | syncSend
  /-- SYNC_FRAME (R236): A follower receives a sync frame, steers its time of day, locks, adds its correction and forwards the frame. -/
  | syncFrame (crcOk : Bool) (src : Nat) (seq : Nat) (tickNo : Nat) (tod : Nat) (correction : Nat) (period : Nat) (nextAt : Nat) (residence : Nat) (k : Nat) (dtPs : Nat)
  /-- SYNC_HOLDOVER (R238): No valid sync frame arrives within the holdover threshold and the follower enters HOLDOVER. -/
  | syncHoldover (dt : Nat)
  /-- SYNC_LOST (R238): After 64 ticks in HOLDOVER the follower enters LOST. -/
  | syncLost
  /-- TCK_NEXT_AT_ARM (R248): The write of the low word of TCK_NEXT_AT arms a period change or is dropped. -/
  | tckNextAtArm (low : Nat)
  /-- TCK_PERIOD_CANCEL (R248): A write of NEXT_PERIOD = 0 cancels a pending period change. -/
  | tckPeriodCancel
  /-- TCK_CLEAR_STATS (R249): A write of CLEAR_STATS clears TCK_MISSED. -/
  | tckClearStats
  /-- RD_CUR (R343): A home agent serves a current-read request, snooping an owner if needed. -/
  | rdCur (a : Arrival) (dt : Nat) (ecc : List Ecc)
  /-- RD_SHARED (R343): A home agent serves a bay's shared read and updates the directory. -/
  | rdShared (a : Arrival) (dt : Nat) (ecc : List Ecc)
  /-- RD_OWN (R343): A home agent grants a bay ownership, invalidating other holders. -/
  | rdOwn (a : Arrival) (dt : Nat) (ecc : List Ecc)
  /-- UPGRADE (R343): A home agent upgrades a bay's shared copy to owned. -/
  | upgrade (a : Arrival) (dt : Nat) (ecc : List Ecc)
  /-- WB_DIRTY (R343): A home agent writes back a bay's dirty line and clears its entry. -/
  | wbDirty (a : Arrival) (dt : Nat) (ecc : List Ecc)
  /-- EVICT_CLEAN (R343): A home agent removes a bay from a line's entry. -/
  | evictClean (a : Arrival) (dt : Nat) (ecc : List Ecc)
  /-- WR_INV (R343): A home agent performs a write, invalidating every bay copy. -/
  | wrInv (a : Arrival) (dt : Nat) (ecc : List Ecc)
  /-- WR_PLACE (R347): A home agent performs a write and tries to push the line into the named bay. -/
  | wrPlace (a : Arrival) (dt : Nat) (ecc : List Ecc)
  /-- ATOMIC (R343): A home agent performs an atomic operation and returns the old value. -/
  | atomic (a : Arrival) (dt : Nat) (ecc : List Ecc)
  /-- CFG_RD (R325): A register-read request arrives at a register block over Flial. -/
  | cfgRd (die : Nat) (off : Nat) (len : Nat)
  /-- CFG_WR (R325): A register-write request arrives at a register block over Flial. -/
  | cfgWr (pack : Bool) (die : Nat) (off : Nat) (len : Nat) (value : Nat) (dt : Nat)
  /-- DRAM_COMMAND_ISSUE (R281): A pseudo-channel able to take a command chooses a waiting request by the keys and accesses DRAM, classifying and correcting ECC. -/
  | dramCommandIssue (q : Nat) (dt : Nat) (openIds : List Nat) (ecc : List Ecc)
  /-- RD_DATA (R326): Read data reaches its requester, or ends its unit if the status is not OK. -/
  | rdData (rid : Nat)
  /-- WR_ACK (R326): A write acknowledgement reaches its requester. -/
  | wrAck (rid : Nat)
  /-- GRANT_E (R326): An exclusive grant with data reaches a bay agent. -/
  | grantE (rid : Nat)
  /-- GRANT_S (R326): A shared grant with data reaches a bay agent. -/
  | grantS (rid : Nat)
  /-- GRANT_UPG (R326): An upgrade grant reaches a bay agent. -/
  | grantUpg (rid : Nat)
  /-- WB_ACK (R326): A write-back acknowledgement reaches a bay agent. -/
  | wbAck (rid : Nat)
  /-- ATOMIC_DATA (R326): The old value of an atomic reaches its requester. -/
  | atomicData (rid : Nat)
  /-- RSP_I (R344): A bay's invalid snoop answer reaches the home. -/
  | rspI (tag : Nat) (dt : Nat)
  /-- RSP_S (R344): A bay's shared snoop answer reaches the home. -/
  | rspS (tag : Nat) (dt : Nat)
  /-- RSP_DATA (R344): A bay's snoop answer with data reaches the home, which writes or forwards it. -/
  | rspData (tag : Nat) (dt : Nat)
  /-- PUSH_ACK (R347): A bay accepts a pushed line and the directory becomes S(bay). -/
  | pushAck (tag : Nat) (dt : Nat)
  /-- PUSH_NACK (R347): A bay declines a pushed line and the directory stays I. -/
  | pushNack (tag : Nat) (dt : Nat)
  /-- CREDIT (R326): A channel credit-return flit arrives over Flial. -/
  | credit (tile : Nat) (ch : Nat)
  /-- CFG_DATA (R326): A register-read answer arrives. -/
  | cfgData (id : Nat)
  /-- CFG_ACK (R326): A register-write or work-port answer arrives. -/
  | cfgAck (id : Nat)
  /-- SNP_CUR (R344): A bay agent receives a current snoop and answers it. -/
  | snpCur (tag : Nat) (holds : Nat) (data : List (BitVec 8))
  /-- SNP_SHARE (R344): A bay agent receives a share snoop and answers it. -/
  | snpShare (tag : Nat) (holds : Nat) (data : List (BitVec 8))
  /-- SNP_INV (R344): A bay agent receives an invalidating snoop and answers it. -/
  | snpInv (tag : Nat) (holds : Nat) (data : List (BitVec 8))
  /-- SNP_PUSH (R344): A bay agent receives a pushed line and acknowledges or declines it. -/
  | snpPush (tag : Nat) (accept : Bool)
  /-- STC_FLUSH (R263): A write of FLUSH starts writing every dirty stack-cache sector of the die to DRAM. -/
  | stcFlush (die : Nat)
  /-- STC_FLUSH_DONE (R263): The last flush write-back is acknowledged and FLUSH_BUSY clears. -/
  | stcFlushDone (die : Nat)
  /-- STC_DISABLE (R275): Clearing ENABLE writes back dirty sectors and makes every request behave as STREAM. -/
  | stcDisable (die : Nat)
  /-- STC_CLEAR_STATS (R275): A write of CLEAR_STATS clears every STC counter of the die. -/
  | stcClearStats (die : Nat)
  /-- MEM_CLEAR_STATS (R274): A write of CLEAR_STATS clears every MEM counter of the die. -/
  | memClearStats (die : Nat)
  /-- PATROL_SCRUB (R270): The patrol scrub reads a sector in an unused command slot and corrects or logs it. -/
  | patrolScrub (q : Nat) (sector : Nat) (dt : Nat) (ecc : List Ecc)
  /-- STACK_TEMP_READ (R266): Every 1 ms a controller reads its stack temperature and applies the band's refresh rate and cap. -/
  | stackTempRead (stack : Nat) (temp : Nat)
  /-- CHANNEL_RECAL (R272): Every RECAL_MS a channel retunes and repairs lanes, dropping to half rate or retiring if needed. -/
  | channelRecal (chan : Nat) (lanes : Nat) (spare : Bool) (halfOk : Bool)
  /-- LOOPBACK_START (R273): A write of START runs a PHY loop-back pattern on the selected channels. -/
  | loopbackStart (port128 : Nat) (value : Nat)
  /-- LOOPBACK_DONE (R273): A loop-back run finishes, setting DONE and MEM_PORT_LB_ERR. -/
  | loopbackDone (port128 : Nat) (errors : Nat)
  /-- LSH_READMIT (R288): A write of READMIT makes admission run at the next boundary. -/
  | lshReadmit
  /-- LSH_CLEAR_STATS (R294): A write of CLEAR_STATS clears every LSH counter of the die. -/
  | lshClearStats (die : Nat)
  /-- LEASH_REQUEST (R284): A master port sends a request as guaranteed or best effort against its class counter, or holds it in strict mode. -/
  | leashRequest (src : LeashSrc) (dt : Nat)
  /-- TLB_MISS (R307): A stream's request misses its TLBs and joins the stream's pending misses. -/
  | tlbMiss (xfer : Nat) (k : Nat)
  /-- PAGE_WALK (R308): A walker serves a pending miss, reads tables, checks quota and fills the TLBs or faults. -/
  | pageWalk (miss : Nat)
  /-- ATS_TRANSLATION_COMPLETION (R310): An ATS completion arrives and fills the TLBs or leads to a page request. -/
  | atsTranslationCompletion (miss : Nat) (timedOut : Bool) (ok : Bool) (r : Bool) (w : Bool) (size : Nat) (pa : Nat)
  /-- PRG_RESPONSE (R310): A PRG response arrives and the translation is retried, or it is discarded as late. -/
  | prgResponse (miss : Nat) (success : Bool)
  /-- ATS_INVALIDATE_REQUEST (R312): An ATS Invalidate Request from the host starts an invalidation of the matching contexts. -/
  | atsInvalidateRequest (fn : Nat) (tag : Nat) (pasid : Nat) (va : Nat) (size : Nat)
  /-- INVALIDATION_COMPLETE (R311): No older-epoch request of the context remains, and the invalidation completes. -/
  | invalidationComplete (inval : Nat)
  /-- DRAIN_CUT (R311): At the first boundary after an invalidation starts, older-epoch requests still in flight are cut off and their units end WITHDRAWN. -/
  | drainCut (inval : Nat)
  /-- XLT_CLEAR_STATS (R322): A write of CLEAR_STATS clears the die's XLT counters and, on HD0, the ATS counters. -/
  | xltClearStats (die : Nat)
  /-- SNOOP_TIMEOUT (R350): A bay misses the island's snoop timeout and the island goes down with cause 0x1. -/
  | snoopTimeout (tag : Nat)
  /-- FLIT_PARITY_ERROR (R350): A router detects a flit parity error and the island goes down with cause 0x3. -/
  | flitParityError (die : Nat) (lost : List Nat)
  /-- ISLAND_DOWN_NOTICE (R351): The island goes down: ports enter Heel, transactions end ISLAND_DOWN, directories are discarded and the state becomes DOWN. -/
  | islandDownNotice (island : Nat)
  /-- COH_FORCE_DOWN (R350): A write of FORCE_DOWN takes an island down with cause 0x8. -/
  | cohForceDown (island : Nat)
  /-- COH_REINIT (R353): A write of REINIT starts re-initialisation of a DOWN island. -/
  | cohReinit (island : Nat)
  /-- ISLAND_REINIT_DONE (R353): Re-initialisation finishes, Heel is released and the island becomes UP. -/
  | islandReinitDone (island : Nat) (chans : List Nat) (clus : List Nat) (ports : List Nat) (mods : List Nat) (bays : List Nat) (engines : List Nat)
  /-- COH_CLEAR_STATS (R355): A write of CLEAR_STATS clears every COH counter of the die. -/
  | cohClearStats (die : Nat)
  /-- FLL_CLEAR_STATS (R354): A write of CLEAR_STATS clears every FLL counter of the die. -/
  | fllClearStats (die : Nat)
  /-- BAY_ADMISSION (R367): The Collar powers, probes, checks, trains and admits a bay, or refuses it into Heel. -/
  | bayAdmission (bay : Nat) (answers : Bool) (record : List (BitVec 8)) (cert : List (BitVec 8)) (fail4Tx : List Nat) (fail4Rx : List Nat) (fail2Tx : List Nat) (fail2Rx : List Nat) (repTx : List Nat) (repRx : List Nat)
  /-- BAY_PARITY_POLL (R361): Every 100 µs the hub reads STS_RX_PARITY and retrains, repairs or disables failing groups. -/
  | bayParityPoll (bay : Nat) (toBay : Bool) (group : Nat) (lanes : Nat) (clockLane : Bool)
  /-- BAY_LINK_LOST (R362): A flit replayed 64 times or a silent sideband loses the link and the bay enters Heel without evacuation. -/
  | bayLinkLost (bay : Nat)
  /-- BW_END (R380): A bay reports a unit's end and the hub writes its completion record. -/
  | bwEnd (bay : Nat) (uid : Nat) (gen : Nat) (status : Nat) (d0 : Nat) (d1 : Nat) (dt : Nat)
  /-- BW_XLATE (R376): A bay asks for a translation and is answered with RD_DATA. -/
  | bwXlate (bay : Nat) (wq : Nat) (part : Nat) (ctx : Nat) (va : Nat) (write : Bool) (gen : Nat)
  /-- BW_INVAL_DONE (R376): A bay reports that its invalidation has drained. -/
  | bwInvalDone (bay : Nat) (part : Nat) (ctx : Nat) (epoch : Nat) (gen : Nat)
  /-- BAY_ABORT_TIMEOUT (R381): No BW_END arrives within ABORT_TIMEOUT; the hub writes the record and the bay enters Heel. -/
  | bayAbortTimeout (uid : Nat) (dt : Nat)
  /-- BAY_POWER_POLL (R383): Every 1 ms the hub reads the bay's rail, STS_TEMP and STS_POWER and limits, records or evacuates. -/
  | bayPowerPoll (bay : Nat) (temp : Nat) (rail : Nat) (rail10 : Nat)
  /-- BAY_EVAC_DONE (R384): STS_EVAC_DONE is set and no entry names the bay, so the bay enters Heel. -/
  | bayEvacDone (bay : Nat)
  /-- BAY_EVAC_TIMEOUT (R384): Evacuation passes 10 ms and the bay enters Heel. -/
  | bayEvacTimeout (bay : Nat)
  /-- BAY_FORCE_HEEL (R388): A write of FORCE_HEEL evacuates the bay into Heel with cause FORCED. -/
  | bayForceHeel (bay : Nat)
  /-- BAY_READMIT (R386): A write of READMIT re-runs admission of a bay in Heel. -/
  | bayReadmit (bay : Nat)
  /-- BAY_CLEAR_STATS (R388): A write of CLEAR_STATS clears the bay's counters. -/
  | bayClearStats (bay : Nat)
  /-- BAY_Q_STOP (R390): A write of STOP to BAY_Q_CTRL stops a bay queue as R221 gives. -/
  | bayQStop (part : Nat) (bq : Nat)
  /-- BAY_Q_RESET (R390): A write of RESET to BAY_Q_CTRL resets a bay queue as R221 gives. -/
  | bayQReset (part : Nat) (bq : Nat)
  /-- BAY_Q_ENABLE (R377): A write of ENABLE in BAY_Q_CFG starts a bay queue, or is dropped if the queue is not owned. -/
  | bayQEnable (part : Nat) (bq : Nat) (value : Nat)
  /-- RING_BEAT (R395): A ring-link module receives a beat, checks its CRC, delivers items, and handles ACK, NAK, REPLAY and MARK. -/
  | ringBeat (die : Nat) (dir : Nat) (module : Nat) (payload : List (BitVec 8)) (noise : List (BitVec 8)) (dt : Nat)
  /-- RING_MODULE_RETRAIN (R398): Replays or CRC errors retrain a module direction, repairing lanes or degrading it to HALF or OFF. -/
  | ringModuleRetrain (die : Nat) (dir : Nat) (module : Nat) (failing : List Nat)
  /-- RING_RESTRIPE (R400): After the module list changes, the sender resends lost items, sends MARK beats and restripes. -/
  | ringRestripe (die : Nat) (dir : Nat) (srcs : List Nat)
  /-- RING_LINK_LOST (R402): GOODBYE or loss of clock on every module loses the link; the edge enters Heel and flows re-route. -/
  | ringLinkLost (goodbye : Bool) (die : Nat) (dir : Nat)
  /-- RING_LINK_TRAIN (R397): The Collars train a ring link and raise LINK_GEN. -/
  | ringLinkTrain (die : Nat) (dir : Nat) (tx : Nat) (rx : Nat) (latency : Nat)
  /-- DDL_CLEAR_STATS (R428): A write of CLEAR_STATS clears the link's counters. -/
  | ddlClearStats (die : Nat) (dir : Nat)
  /-- TORUS_PORT_TRAIN (R406): An enabled torus port trains full or half width, runs its pattern and enters UP, or stays DOWN. -/
  | torusPortTrain (port : Nat) (full : Bool) (lo : Bool) (hi : Bool) (pattern : Bool) (room : Nat)
  /-- TORUS_CODEWORD (R407): A torus port receives a codeword, corrects it or NAKs its block, and handles ACK, NAK and credits. -/
  | torusCodeword (port : Nat) (corrected : Bool) (lost : Bool) (seq : Nat) (replay : Bool) (block : List (BitVec 8))
  /-- TORUS_RETRAIN (R407): A block replayed 8 times retrains the port and raises PORT_GEN. -/
  | torusRetrain (port : Nat)
  /-- PUT (R414): A target package checks and executes a PUT packet's writes. -/
  | put (port : Nat) (vc : Nat) (last : Bool)
  /-- GET (R414): A target package checks a GET packet and returns data. -/
  | get (port : Nat) (vc : Nat)
  /-- GET_DATA (R413): GET data arrives and is written to the local destination. -/
  | getData (port : Nat) (vc : Nat)
  /-- TORUS_ATOMIC (R414): A target package runs an atomic at the home. -/
  | torusAtomic (port : Nat) (vc : Nat)
  /-- TORUS_ATOMIC_DATA (R413): The old value of a remote atomic arrives. -/
  | torusAtomicData (port : Nat) (vc : Nat)
  /-- PUT_ACK (R414): A PUT acknowledgement arrives at the sending queue. -/
  | putAck (port : Nat) (vc : Nat)
  /-- REDUCE (R416): A package combines a child's reduction chunk and forwards it to its parent. -/
  | reduce (port : Nat) (vc : Nat)
  /-- REDUCE_RESULT (R416): A reduction result arrives, is written and forwarded to the children. -/
  | reduceResult (port : Nat) (vc : Nat)
  /-- STREAM (R417): A stream-channel packet is written into its chunk slot or discarded as late or early. -/
  | stream (port : Nat) (vc : Nat)
  /-- PACKET_FORWARD (R411): A packet in transit crosses the package to its departure port or detours over W. -/
  | packetForward (port : Nat) (vc : Nat)
  /-- TORUS_QUEUE_POLL (R413): Every POLL_US the port engine reads a queue's tail word and fetches new commands. -/
  | torusQueuePoll (part : Nat) (q : Nat)
  /-- TQ_PUT (R413): A torus-queue PUT command sends its data in packets. -/
  | tqPut (part : Nat) (q : Nat) (host : List (BitVec 8))
  /-- TQ_GET (R413): A torus-queue GET command requests remote data. -/
  | tqGet (part : Nat) (q : Nat)
  /-- TQ_ATOMIC (R413): A torus-queue ATOMIC command sends a remote atomic. -/
  | tqAtomic (part : Nat) (q : Nat)
  /-- TQ_REDUCE (R416): A torus-queue REDUCE command contributes a buffer chunk by chunk to a group. -/
  | tqReduce (part : Nat) (q : Nat) (host : List (BitVec 8))
  /-- TORUS_CMD_TIMEOUT (R415): A command with no answer within TOR_TIMEOUT completes with TIMEOUT. -/
  | torusCmdTimeout (part : Nat) (q : Nat) (id : Nat)
  /-- STREAM_CHUNK_CLOSE (R417): At the deadline boundary a stream channel closes a chunk and writes its status entry. -/
  | streamChunkClose (ch : Nat)
  /-- KENNEL_CHECKPOINT (R419): Every INTERVAL-th epoch Kennel freezes the dirty bitmaps and starts streaming, or skips or overflows. -/
  | kennelCheckpoint
  /-- KENNEL_GRANULE_STAGED (R420): Kennel copies a frozen granule into KNL_STAGE and releases held writes. -/
  | kennelGranuleStaged (granule : Nat)
  /-- KENNEL_COMMIT (R419): The buddy receives a commit, checks it and applies the log to its image. -/
  | kennelCommit (tick : Nat) (count : Nat) (digest : List (BitVec 8)) (granules : List Nat) (data : List (BitVec 8))
  /-- KNL_RESTORE (R422): RESTORE makes the buddy apply its log and stream its image back into the protected regions. -/
  | knlRestore (asBuddy : Bool) (same : Bool) (granules : Nat)
  /-- KNL_CLEAR_STATS (R432): A write of CLEAR_STATS clears the KNL counters. -/
  | knlClearStats
  /-- MGMT_FRAME (R424): A sideband MGMT frame carrying MCTP is received and answered with MGMT_ACK. -/
  | mgmtFrame (crcOk : Bool) (dest : Nat) (src : Nat) (seq : Nat) (payload : List (BitVec 8)) (query : Bool) (restore : Bool) (same : Bool) (granules : Nat)
  /-- ATTEST_FRAME (R424): A sideband ATTEST frame is received and answered. -/
  | attestFrame (crcOk : Bool) (dest : Nat) (src : Nat) (seq : Nat) (payload : List (BitVec 8))
  /-- TRAIN_FRAME (R426): A TRAIN frame assigns positions or carries hop delays. -/
  | trainFrame (kind : Nat) (value : Nat) (ok : Bool) (hop : Nat)
  /-- MGMT_ACK (R425): A MGMT_ACK frame arrives for an earlier frame. -/
  | mgmtAck (crcOk : Bool) (dest : Nat) (src : Nat) (seq : Nat)
  /-- SBR_RETRY (R425): A frame with no answer after 100 µs is resent, up to 3 times, then RETRY_FAIL is set. -/
  | sbrRetry (seq : Nat)
  /-- SBR_LEAVE (R433): A write of LEAVE closes the sideband bypass. -/
  | sbrLeave
  /-- BYPASS_OPEN (R427): Collar's receiver locks and the bypass opens, then the hop delay is measured. -/
  | bypassOpen (ok : Bool) (hop : Nat)
  /-- SBR_CLEAR_STATS (R433): A write of CLEAR_STATS clears the SBR counters. -/
  | sbrClearStats
  /-- I3C_MCTP (R574): An MCTP message arrives over I3C at the lead Collar. -/
  | i3cMctp (query : Bool) (restore : Bool) (same : Bool) (granules : Nat)
  /-- BAR0_ACCESS (R437): A host TLP to PF0 or VF BAR0 reaches the register space, or is refused for its size. -/
  | bar0Access (fn : Nat) (off : Nat) (len : Nat) (write : Bool) (value : Nat) (dt : Nat)
  /-- BAR2_READ (R441): A host read through PF0 or VF BAR2 is decoded and completed, or answered Completer Abort. -/
  | bar2Read (fn : Nat) (off : Nat) (len : Nat)
  /-- BAR2_WRITE (R441): A host write through PF0 or VF BAR2 is decoded and performed, or discarded. -/
  | bar2Write (fn : Nat) (off : Nat) (data : List (BitVec 8))
  /-- EXPANSION_ROM_READ (R443): A host read of the expansion ROM window returns the UEFI image or the resource directory. -/
  | expansionRomRead (off : Nat) (len : Nat)
  /-- CONFIG_REQUEST (R462): A configuration request is answered, or gets CRS before READY or during an FLR. -/
  | configRequest (fn : Nat) (key : Nat) (write : Bool) (value : Nat)
  /-- UNSUPPORTED_REQUEST (R441): A request matching no BAR, an AtomicOp or an I/O request is answered Unsupported Request. -/
  | unsupportedRequest (fn : Nat)
  /-- POISONED_WRITE (R441): A posted write with EP set is discarded and logged. -/
  | poisonedWrite (fn : Nat)
  /-- HOST_COMPLETION (R449): A completion for a device read arrives and is delivered, failed, or discarded as late, stale or unexpected. -/
  | hostCompletion (tag : Nat) (status : Nat) (ep : Bool) (data : List (BitVec 8))
  /-- HOST_COMPLETION_TIMEOUT (R449): A host read's completion timeout expires, the read fails and the host port enters Heel. -/
  | hostCompletionTimeout (tag : Nat) (dt : Nat)
  /-- HOST_LINK_ERROR (R449): A malformed TLP or protocol error fails every outstanding read and puts the host port in Heel. -/
  | hostLinkError (aerBit : Nat)
  /-- LINK_DOWN (R449): DL_Down or Surprise Down fails every outstanding read and puts the host port in Heel. -/
  | linkDown (byReset : Bool)
  /-- HEL_RELEASE (R457): A write of RELEASE leaves Heel and sends held writes and MSI-X, or is refused. -/
  | helRelease
  /-- HEL_FORCE (R454): A write of FORCE puts the host port in Heel with cause FORCED. -/
  | helForce
  /-- TAG_REUSE (R450): A tag becomes reusable after twice the function's timeout has passed. -/
  | tagReuse (tag : Nat) (dt : Nat)
  /-- BME_CLEAR (R451): Clearing Bus Master Enable stops the function, raises FGEN and aborts its partition's units. -/
  | bmeClear (fn : Nat)
  /-- FLR (R452): A Function Level Reset of a VF aborts the partition's units, ends its contexts and resets its pages. -/
  | flr (fn : Nat)
  /-- FLR_DONE (R452): An FLR completes within 100 ms and configuration requests stop getting CRS. -/
  | flrDone (fn : Nat)
  /-- PF0_FLR (R453): A Function Level Reset of PF0 clears VF Enable and resets every VF and PF0. -/
  | pf0Flr
  /-- VF_DISABLE (R453): Clearing VF Enable or lowering NumVFs resets each VF that ceases to exist. -/
  | vfDisable (enable : Bool) (n : Nat)
  /-- PERST (R453): PERST# acts as an FLR of PF0, discards held writes and retrains the link. -/
  | perst
  /-- HOT_RESET (R453): A Hot Reset or Link Disable acts as an FLR of PF0 and discards held writes. -/
  | hotReset
  /-- PCIE_LINK_TRAIN (R462): The link trains within 100 ms of PERST# deassertion. -/
  | pcieLinkTrain (speed : Nat) (width : Nat) (flit : Bool)
  /-- POWER_STATE_CHANGE (R459): A PowerState change of PF0 or a VF gates or restores clusters, memory and traffic. -/
  | powerStateChange (fn : Nat) (state : Nat)
  /-- WAKE_EVENT (R460): A wake event sends PME in D3hot or drives WAKE# in D3cold. -/
  | wakeEvent (kind : Nat) (port : Nat)
  /-- L0P_REQUEST (R461): After a light tick the endpoint requests L0p, and returns to ×16 when a request waits. -/
  | l0pRequest (width : Nat)
  /-- MSIX_UNMASK (R446): Clearing a mask sends one message for each pending vector at once. -/
  | msixUnmask (fn : Nat) (vector : Nat)
  /-- PCI_CLEAR_STATS (R463): A write of CLEAR_STATS clears every PCI counter. -/
  | pciClearStats
  /-- PAR_RESET (R483): A write of RESET aborts the partition's units, raises its generation, ends its contexts and scrubs its clusters. -/
  | parReset (part : Nat)
  /-- RESET_BUSY_CLEAR (R482): No request with the previous generation remains and RESET_BUSY clears. -/
  | resetBusyClear (part : Nat)
  /-- PAR_ZERO (R484): A write of ZERO writes 0 over the partition's quota and image store. -/
  | parZero (part : Nat)
  /-- PAR_ZERO_DONE (R485): Every ZERO write is acknowledged or failed, ZERO_BUSY clears and ZERO_FAIL reports failures. -/
  | parZeroDone (part : Nat)
  /-- CTX_ENABLE (R480): A write of ENABLE = 1 moves a FREE context to ACTIVE, with or without CONFIDENTIAL. -/
  | ctxEnable (part : Nat) (ctx : Nat) (value : Nat)
  /-- CTX_DISABLE (R480): A write of ENABLE = 0 moves a context to ENDING and invalidates both halves. -/
  | ctxDisable (part : Nat) (ctx : Nat) (value : Nat)
  /-- ATTEST (R503): Management command that snapshots the package and writes a signed report. -/
  | attest (part : Nat)
  /-- LOAD_KEY (R507): Management command that decapsulates a key blob and installs a weight key in a slot. -/
  | loadKey (part : Nat) (host : List (BitVec 8))
  /-- DECRYPT_WEIGHTS (R508): Management command that decrypts weights to DST, checks the tag and logs the weight entry. -/
  | decryptWeights (part : Nat) (host : List (BitVec 8))
  /-- GET_IDENTITY (R502): Management command that writes the signed identity certificate to a buffer. -/
  | getIdentity (part : Nat)
  /-- SIGN_TOKEN_REFILL (R501): Every PERIOD_MS the signing bucket gains one token. -/
  | signTokenRefill (dt : Nat)
  /-- EK_GENERATED (R506): The lead Collar finishes generating a confidential context's ML-KEM key pair. -/
  | ekGenerated (part : Nat) (ctx : Nat)
  /-- JTAG_INSTRUCTION (R510): An IEEE 1149.1 or 1687 access through the test port. -/
  | jtagInstruction (die : Nat) (target : Nat) (kind : Nat)
  /-- PACK_STAGE (R497): A write of STAGE reads, verifies and writes a Pack image to the inactive slot. -/
  | packStage
  /-- PACK_STAGE_DONE (R497): A stage finishes, or fails and sets PACK_REJECT. -/
  | packStageDone
  /-- PACK_ACTIVATE (R497): A write of ACTIVATE resets every Pack into the staged image at the next boundary. -/
  | packActivate
  /-- PACK_ACTIVATE_DONE (R497): All four new Packs are measured and running and PACK_ACTIVE is set. -/
  | packActivateDone
  /-- COMMIT_SVN (R497): A write of COMMIT_SVN burns PACK_SVN_FLOOR up to the active image's SVN. -/
  | commitSvn
  /-- SEC_CLEAR_STATS (R518): A write of CLEAR_STATS clears every SEC counter. -/
  | secClearStats
  /-- LCS_ARM (R512): A write of LCS_ARM arms a life-cycle command for 1 s. -/
  | lcsArm (value : Nat) (dt : Nat)
  /-- GEN_IDENTITY (R512): Life-cycle command that generates and burns the device seeds into the next bank. -/
  | genIdentity (dt : Nat)
  /-- INSTALL_CERT (R512): Life-cycle command that checks and stores the identity certificate. -/
  | installCert (dt : Nat)
  /-- TO_PRODUCTION (R513): Life-cycle command that runs the TEST to PRODUCTION transition. -/
  | toProduction (dt : Nat)
  /-- TO_END_OF_LIFE (R513): Life-cycle command that runs the END_OF_LIFE transition. -/
  | toEndOfLife (dt : Nat)
  /-- LCS_COMMAND_DONE (R512): A life-cycle command finishes and LCS_RESULT gives its outcome. -/
  | lcsCommandDone
  /-- PACKAGE_START (R520): MAIN_PWRGD rises or a package reset ends, and the lead Collar decides whether the start is cold or warm. -/
  | packageStart
  /-- START_STEP (R521): Every die has finished a start step and the next step begins, up to READY. -/
  | startStep (die : Nat) (ms : Nat) (fallback : Bool) (fatal : Bool) (mis : List Nat) (vids : List Nat) (chans : List Nat) (clus : List Nat) (ports : List Nat) (mods : List Nat) (bays : List Nat) (engines : List Nat) (repairs : List Nat)
  /-- START_STEP_TIMEOUT (R525): A start step passes its limit and the start ends FATAL-PACKAGE. -/
  | startStepTimeout (die : Nat)
  /-- POWER_WAVE (R537): A wave of nine clusters is powered once VDD_CORE has recovered. -/
  | powerWave (die : Nat) (dt : Nat)
  /-- BIST_NOMINATE (R533): INTERVAL_MS after the last slice the BIST controller nominates the next exposed cluster. -/
  | bistNominate (die : Nat) (dt : Nat)
  /-- BIST_SLICE_DONE (R535): A rotating BIST slice ends and the cluster joins the spares or enters the fail map. -/
  | bistSliceDone (die : Nat) (pass : Bool) (dt : Nat)
  /-- BIST_NOMINATION_WITHDRAW (R536): A target still HELD 64 boundaries after nomination is withdrawn. -/
  | bistNominationWithdraw (die : Nat)
  /-- BST_CLEAR_FAILS (R532): A write of CLEAR_FAILS empties the fail map at the next cold start. -/
  | bstClearFails (die : Nat)
  /-- BST_CLEAR_STATS (R538): A write of CLEAR_STATS clears the die's BST counters. -/
  | bstClearStats (die : Nat)
  /-- POWER_DOWN (R571): MAIN_PWRGD falls; Collar saves the store, drops the enables and asserts reset. -/
  | powerDown (inTime : Bool)
  /-- HELD_RECORD_RETRY (R546): Kept records are written with HELD when memory enters SERVICE and at each later boundary. -/
  | heldRecordRetry (die : Nat)
  /-- ERR_Q_ACK (R543): A write of ERR_Q_ACK acknowledges records and ends their folding. -/
  | errQAck (die : Nat) (source : Nat) (value : Nat)
  /-- ERR_CLEAR_STATS (R564): A write of CLEAR_STATS clears every LOST and RESETS count of the die. -/
  | errClearStats (die : Nat)
  /-- DIE_RESET_WRITE (R550): A write of DIE_RESET bit n resets HDn. -/
  | dieResetWrite (value : Nat)
  /-- DIE_RESET (R551): A die enters reset, sends GOODBYE and its island goes down. -/
  | dieReset (die : Nat)
  /-- CLOCK_LOSS (R550): A PLL unlocks or CORE_REFCLK is absent for 1 µs and the die is reset. -/
  | clockLoss (die : Nat)
  /-- DEPUTY_SILENT (R550): A deputy Collar sends no frame for 100 ms and its die is reset. -/
  | deputySilent (die : Nat)
  /-- RAIL_FAULT (R569): A rail leaves its operating range and the die or package is reset, or the bay is checked. -/
  | railFault (rail : Nat) (n : Nat)
  /-- THERMAL_SAMPLE (R553): Every 10 µs the thermal controller reads the hottest hub sensor and changes level. -/
  | thermalSample (die : Nat) (temp : Nat)
  /-- TCLK_ADJUST (R553): On its timer TCLK steps down or up by 1/16 under throttle, power cap or PROCHOT. -/
  | tclkAdjust (package : Bool) (die : Nat) (dt : Nat)
  /-- THERMAL_TRIP (R553): The die reads 105 °C for 100 µs and is reset. -/
  | thermalTrip (die : Nat)
  /-- PKG_POWER_SAMPLE (R554): Every 1 ms the lead Collar sums package power and starts or ends a power cap. -/
  | pkgPowerSample (power : Nat)
  /-- PROCHOT (R576): PROCHOT_N held low for 1 ms lowers TCLK on every die to 8/16. -/
  | prochot
  /-- SRAM_ERROR (R556): A cluster SRAM error is corrected, or stops the unit and marks the cluster for replacement or withdrawal. -/
  | sramError (cluster : Nat) (corrected : Bool)
  /-- CLUSTER_WITHDRAW (R556): At the first idle boundary a failed cluster is replaced by a spare or its number is withdrawn. -/
  | clusterWithdraw (cluster : Nat)
  /-- PACK_WDT_EXPIRE (R558): A Pack core misses its watchdog; Collar resets and reloads Pack, or gives up after three expiries. -/
  | packWdtExpire (die : Nat) (dt : Nat)
  /-- PACK_RESTART_DONE (R558): The restarted Pack runs again and waiting commands proceed. -/
  | packRestartDone (die : Nat)
  /-- TEL_SNAPSHOT (R560): Every TEL_EVERY ticks each die writes a telemetry snapshot slot. -/
  | telSnapshot (die : Nat)
  /-- AGE_DAILY_FIT (R562): Once a day Collar fits the ageing data and updates EOL_DAYS and the AGE events. -/
  | ageDailyFit (die : Nat) (mins : List Nat) (hours85 : List Nat) (hours90 : List Nat) (ret : List Nat) (lanes : List Nat) (eol : Nat) (low : Nat) (high : Nat) (kind : Nat) (index : Nat)
  /-- RESOURCE_DIRECTORY_REWRITE (R445): Collar rewrites the resource directory, raising GENERATION before and after. -/
  | resourceDirectoryRewrite (finish : Bool)
  /-- ILLEGAL_OPCODE (R144): The tile meets a command whose OPCODE is not in the opcode map and faults with ILLEGAL_OPCODE. -/
  | illegalOpcode (tile : Nat)
  /-- UNDEFINED_MGMT_COMMAND (R226): A management command whose code is defined nowhere is answered BAD_DESCRIPTOR with reason 0x01. -/
  | undefinedMgmtCommand (part : Nat)
  /-- RTR_BAD_OP (R321): A RETRIEVER descriptor with an undefined OP, or a DIE that is not valid for its OP, completes with RTR_BAD_OP. -/
  | rtrBadOp (part : Nat) (ring : Nat) (dt : Nat)
  /-- FLIAL_UNDEFINED_OPCODE (R350): A flit with an undefined opcode, a bay stream byte that is not a valid tag, or a work-port opcode 0x35-0x37 or 0x3B-0x3F takes the island down with cause 0x2. -/
  | flialUndefinedOpcode (die : Nat) (node : Nat) (line : Nat)
  /-- RING_MODULE_CLOCK_LOSS (R398): The forwarded clock is absent on some modules of a ring link only, and each of those module directions goes to OFF. -/
  | ringModuleClockLoss (die : Nat) (dir : Nat) (modules : List Nat)
  /-- DIE_MANAGEMENT_FRAME (R396): A management frame arrives on a ring-link module sideband carrying a deputy report, health data or a LINK_GEN exchange, and is discarded if its LINK_GEN is older. -/
  | dieManagementFrame (die : Nat) (dir : Nat) (gen : Nat) (kind : Nat) (src : Nat) (data : List Nat)
  /-- CLUSTER_SCRUB_DONE (R83): A scrub started by RELEASE or by a partition reset ends and the cluster leaves SCRUBBING for IDLE. -/
  | clusterScrubDone (cluster : Nat)
  /-- KENNEL_STREAM_END (R419): The source has sent every frozen granule and the commit, and Kennel leaves STREAMING so that the next checkpoint may run. -/
  | kennelStreamEnd (committed : Bool)
  /-- KENNEL_RESTORE_DONE (R422): The buddy has streamed its whole image back into the protected regions, RESTORED is set and KNL_LAST gives the checkpoint restored. -/
  | kennelRestoreDone (refused : Bool) (tick : Nat) (image : List (BitVec 8))
  /-- VAUX_POWER_ON (R570): VAUX comes within range, and Collar, the sideband ring receiver and I3C management start on it before MAIN_PWRGD rises. -/
  | vauxPowerOn
  /-- PROCHOT_RELEASE (R576): PROCHOT_N has been high for 10 ms, the episode ends, TCLK begins to return under R554 and thermal protection is no longer active. -/
  | prochotRelease
  deriving DecidableEq, Repr

end Sys2Proof
end

