-- ==== Sys2Proof/WellFormed.lean ====
section
/-! DEFINITION. Which commands are well formed: every operand names something the package has. -/

namespace Sys2Proof

/-- A request at a master port names a die and one of its two Pack cores. -/
def LeashSrc.wf : LeashSrc → Bool
  | .piece _ _ => true
  | .pack die core => decide (die < 4) && decide (core < 2)

/-- Every number operand lies in the range of what it names (R23, R38, R199). -/
def Instr.wf : Instr → Bool
  | .regWrite die off _ value _ => decide (die < 4) && decide (off < 2 ^ 26) && decide (value < 2 ^ 64)
  | .counterLowRead die off => decide (die < 4) && decide (off < 2 ^ 26)
  | .cluDbgDataRead cluster _ => decide (cluster < 512)
  | .hubIslandWrite value => decide (value < 2 ^ 32)
  | .tickBoundary => true
  | .standinBlock die => decide (die < 4)
  | .slotFrameStart _ => true
  | .dieResetRelease die pos => decide (die < 4) && decide (pos < 4)
  | .nop tile => decide (tile < 8192)
  | .token tile => decide (tile < 8192)
  | .tileEnd tile => decide (tile < 8192)
  | .loop tile => decide (tile < 8192)
  | .move tile => decide (tile < 8192)
  | .setbase tile => decide (tile < 8192)
  | .ldbase tile => decide (tile < 8192)
  | .setshape tile => decide (tile < 8192)
  | .fill tile => decide (tile < 8192)
  | .gather tile => decide (tile < 8192)
  | .scatter tile => decide (tile < 8192)
  | .send tile => decide (tile < 8192)
  | .recv tile => decide (tile < 8192)
  | .cube tile => decide (tile < 8192)
  | .accz tile => decide (tile < 8192)
  | .accld tile => decide (tile < 8192)
  | .accst tile => decide (tile < 8192)
  | .dial tile => decide (tile < 8192)
  | .planes tile => decide (tile < 8192)
  | .vadd tile => decide (tile < 8192)
  | .vsub tile => decide (tile < 8192)
  | .vmul tile => decide (tile < 8192)
  | .vfma tile => decide (tile < 8192)
  | .vmin tile => decide (tile < 8192)
  | .vmax tile => decide (tile < 8192)
  | .vceq tile => decide (tile < 8192)
  | .vcne tile => decide (tile < 8192)
  | .vclt tile => decide (tile < 8192)
  | .vcle tile => decide (tile < 8192)
  | .vand tile => decide (tile < 8192)
  | .vor tile => decide (tile < 8192)
  | .vxor tile => decide (tile < 8192)
  | .vsel tile => decide (tile < 8192)
  | .vabs tile => decide (tile < 8192)
  | .vneg tile => decide (tile < 8192)
  | .vmov tile => decide (tile < 8192)
  | .vrsum tile => decide (tile < 8192)
  | .vrmax tile => decide (tile < 8192)
  | .vexp tile => decide (tile < 8192)
  | .vexp2 tile => decide (tile < 8192)
  | .vlog tile => decide (tile < 8192)
  | .vlog2 tile => decide (tile < 8192)
  | .vrcp tile => decide (tile < 8192)
  | .vsqrt tile => decide (tile < 8192)
  | .vrsqrt tile => decide (tile < 8192)
  | .vsin tile => decide (tile < 8192)
  | .vcos tile => decide (tile < 8192)
  | .vtanh tile => decide (tile < 8192)
  | .vsigm tile => decide (tile < 8192)
  | .verf tile => decide (tile < 8192)
  | .vrcmb tile => decide (tile < 8192)
  | .cvt tile => decide (tile < 8192)
  | .cvtmx tile => decide (tile < 8192)
  | .cvtxm tile => decide (tile < 8192)
  | .slice tile => decide (tile < 8192)
  | .commandStart tile unit => decide (tile < 8192) && decide (unit < 5)
  | .commandComplete tile _ => decide (tile < 8192)
  | .tokenSignalArrive tile _ => decide (tile < 8192)
  | .channelSlotArrive tile ch => decide (tile < 8192) && decide (ch < 8)
  | .creditReturn tile ch => decide (tile < 8192) && decide (ch < 8)
  | .unitStop _ => true
  | .clusterUnitEnd cluster => decide (cluster < 512)
  | .dispatchLoad cluster _ => decide (cluster < 512)
  | .startRelease _ _ => true
  | .ringRefill tile => decide (tile < 8192)
  | .cluRelease cluster => decide (cluster < 512)
  | .cluPerfClear cluster => decide (cluster < 512)
  | .doorbellReadReturn part queue _ _ => decide (part < 64) && decide (queue < 17)
  | .fetchDeadline part queue => decide (part < 64) && decide (queue < 17)
  | .descriptorReadReturn part ring _ _ => decide (part < 64) && decide (ring < 81)
  | .kernel part ring _ => decide (part < 64) && decide (ring < 80)
  | .marker part ring _ => decide (part < 64) && decide (ring < 80)
  | .copy part ring _ _ => decide (part < 64) && decide (ring < 64)
  | .migrate part ring _ _ => decide (part < 64) && decide (ring < 64)
  | .warm part ring _ => decide (part < 64) && decide (ring < 64)
  | .stcFill part ring _ _ => decide (part < 64) && decide (ring < 64)
  | .stcClean part ring _ => decide (part < 64) && decide (ring < 64)
  | .completionRecordWrite _ _ => true
  | .ringEnable part ring value => decide (part < 64) && decide (ring < 64) && decide (value < 2 ^ 32)
  | .ringStop part ring => decide (part < 64) && decide (ring < 64)
  | .ringReset part ring => decide (part < 64) && decide (ring < 64)
  | .mgmtQueueEnable part value => decide (part < 64) && decide (value < 2 ^ 32)
  | .shdClearStats => true
  | .registerImage part _ => decide (part < 64)
  | .unregisterImage part => decide (part < 64)
  | .stopContext part => decide (part < 64)
  | .resumeContext part => decide (part < 64)
  | .invalidate part => decide (part < 64)
  | .mgmtBusyTimeout part => decide (part < 64)
  | .budgetEnd _ => true
  | .hardLimit _ => true
  | .tickInEdge _ => true
  | .tickInMissed => true
  | .syncSend => true
  | .syncFrame _ src _ tickNo tod correction period nextAt _ _ _ => decide (src < 256) && decide (tickNo < 2 ^ 64) && decide (tod < 2 ^ 64) && decide (correction < 2 ^ 64) && decide (period < 256) && decide (nextAt < 2 ^ 64)
  | .syncHoldover _ => true
  | .syncLost => true
  | .tckNextAtArm low => decide (low < 2 ^ 32)
  | .tckPeriodCancel => true
  | .tckClearStats => true
  | .rdCur _ _ _ => true
  | .rdShared _ _ _ => true
  | .rdOwn _ _ _ => true
  | .upgrade _ _ _ => true
  | .wbDirty _ _ _ => true
  | .evictClean _ _ _ => true
  | .wrInv _ _ _ => true
  | .wrPlace _ _ _ => true
  | .atomic _ _ _ => true
  | .cfgRd die off _ => decide (die < 4) && decide (off < 2 ^ 26)
  | .cfgWr _ die off _ value _ => decide (die < 4) && decide (off < 2 ^ 26) && decide (value < 2 ^ 64)
  | .dramCommandIssue q _ _ _ => decide (q < 1024)
  | .rdData _ => true
  | .wrAck _ => true
  | .grantE _ => true
  | .grantS _ => true
  | .grantUpg _ => true
  | .wbAck _ => true
  | .atomicData _ => true
  | .rspI _ _ => true
  | .rspS _ _ => true
  | .rspData _ _ => true
  | .pushAck _ _ => true
  | .pushNack _ _ => true
  | .credit tile ch => decide (tile < 8192) && decide (ch < 8)
  | .cfgData _ => true
  | .cfgAck _ => true
  | .snpCur _ _ _ => true
  | .snpShare _ _ _ => true
  | .snpInv _ _ _ => true
  | .snpPush _ _ => true
  | .stcFlush die => decide (die < 4)
  | .stcFlushDone die => decide (die < 4)
  | .stcDisable die => decide (die < 4)
  | .stcClearStats die => decide (die < 4)
  | .memClearStats die => decide (die < 4)
  | .patrolScrub q sector _ _ => decide (q < 1024) && decide (sector < 768 * 2 ^ 15)
  | .stackTempRead stack _ => decide (stack < 16)
  | .channelRecal chan _ _ _ => decide (chan < 512)
  | .loopbackStart port128 value => decide (port128 < 128) && decide (value < 2 ^ 32)
  | .loopbackDone port128 _ => decide (port128 < 128)
  | .lshReadmit => true
  | .lshClearStats die => decide (die < 4)
  | .leashRequest src _ => src.wf
  | .tlbMiss _ _ => true
  | .pageWalk _ => true
  | .atsTranslationCompletion _ _ _ _ _ _ _ => true
  | .prgResponse _ _ => true
  | .atsInvalidateRequest fn _ _ _ _ => decide (fn < 65)
  | .invalidationComplete _ => true
  | .drainCut _ => true
  | .xltClearStats die => decide (die < 4)
  | .snoopTimeout _ => true
  | .flitParityError die _ => decide (die < 4)
  | .islandDownNotice island => decide (island < 4)
  | .cohForceDown island => decide (island < 4)
  | .cohReinit island => decide (island < 4)
  | .islandReinitDone island _ _ _ _ _ _ => decide (island < 4)
  | .cohClearStats die => decide (die < 4)
  | .fllClearStats die => decide (die < 4)
  | .bayAdmission bay _ _ _ _ _ _ _ _ _ => decide (bay < 8)
  | .bayParityPoll bay _ group _ _ => decide (bay < 8) && decide (group < 128)
  | .bayLinkLost bay => decide (bay < 8)
  | .bwEnd bay _ _ status _ _ _ => decide (bay < 8) && decide (status < 256)
  | .bwXlate bay wq part ctx _ _ _ => decide (bay < 8) && decide (wq < 64) && decide (part < 64) && decide (ctx < 16)
  | .bwInvalDone bay part ctx _ _ => decide (bay < 8) && decide (part < 64) && decide (ctx < 16)
  | .bayAbortTimeout _ _ => true
  | .bayPowerPoll bay _ _ _ => decide (bay < 8)
  | .bayEvacDone bay => decide (bay < 8)
  | .bayEvacTimeout bay => decide (bay < 8)
  | .bayForceHeel bay => decide (bay < 8)
  | .bayReadmit bay => decide (bay < 8)
  | .bayClearStats bay => decide (bay < 8)
  | .bayQStop part bq => decide (part < 64) && decide (bq < 16)
  | .bayQReset part bq => decide (part < 64) && decide (bq < 16)
  | .bayQEnable part bq value => decide (part < 64) && decide (bq < 16) && decide (value < 2 ^ 32)
  | .ringBeat die dir module _ _ _ => decide (die < 4) && decide (dir < 2) && decide (module < 16)
  | .ringModuleRetrain die dir module _ => decide (die < 4) && decide (dir < 2) && decide (module < 16)
  | .ringRestripe die dir _ => decide (die < 4) && decide (dir < 2)
  | .ringLinkLost _ die dir => decide (die < 4) && decide (dir < 2)
  | .ringLinkTrain die dir _ _ _ => decide (die < 4) && decide (dir < 2)
  | .ddlClearStats die dir => decide (die < 4) && decide (dir < 2)
  | .torusPortTrain port _ _ _ _ _ => decide (port < 8)
  | .torusCodeword port _ _ _ _ _ => decide (port < 8)
  | .torusRetrain port => decide (port < 8)
  | .put port vc _ => decide (port < 9) && decide (vc < 8)
  | .get port vc => decide (port < 9) && decide (vc < 8)
  | .getData port vc => decide (port < 9) && decide (vc < 8)
  | .torusAtomic port vc => decide (port < 9) && decide (vc < 8)
  | .torusAtomicData port vc => decide (port < 9) && decide (vc < 8)
  | .putAck port vc => decide (port < 9) && decide (vc < 8)
  | .reduce port vc => decide (port < 9) && decide (vc < 8)
  | .reduceResult port vc => decide (port < 9) && decide (vc < 8)
  | .stream port vc => decide (port < 9) && decide (vc < 8)
  | .packetForward port vc => decide (port < 8) && decide (vc < 8)
  | .torusQueuePoll part q => decide (part < 64) && decide (q < 8)
  | .tqPut part q _ => decide (part < 64) && decide (q < 8)
  | .tqGet part q => decide (part < 64) && decide (q < 8)
  | .tqAtomic part q => decide (part < 64) && decide (q < 8)
  | .tqReduce part q _ => decide (part < 64) && decide (q < 8)
  | .torusCmdTimeout part q _ => decide (part < 64) && decide (q < 8)
  | .streamChunkClose ch => decide (ch < 64)
  | .kennelCheckpoint => true
  | .kennelGranuleStaged _ => true
  | .kennelCommit _ _ _ _ _ => true
  | .knlRestore _ _ _ => true
  | .knlClearStats => true
  | .mgmtFrame _ dest src _ _ _ _ _ _ => decide (dest < 256) && decide (src < 256)
  | .attestFrame _ dest src _ _ => decide (dest < 256) && decide (src < 256)
  | .trainFrame _ _ _ _ => true
  | .mgmtAck _ dest src _ => decide (dest < 256) && decide (src < 256)
  | .sbrRetry _ => true
  | .sbrLeave => true
  | .bypassOpen _ _ => true
  | .sbrClearStats => true
  | .i3cMctp _ _ _ _ => true
  | .bar0Access fn _ _ _ value _ => decide (fn < 65) && decide (value < 2 ^ 64)
  | .bar2Read fn _ _ => decide (fn < 65)
  | .bar2Write fn _ _ => decide (fn < 65)
  | .expansionRomRead off len => decide (off + len ≤ 2 ^ 20)
  | .configRequest fn key _ value => decide (fn < 65) && decide (key < 4096) && decide (value < 2 ^ 32)
  | .unsupportedRequest fn => decide (fn < 65)
  | .poisonedWrite fn => decide (fn < 65)
  | .hostCompletion _ _ _ _ => true
  | .hostCompletionTimeout _ _ => true
  | .hostLinkError aerBit => decide (aerBit < 32)
  | .linkDown _ => true
  | .helRelease => true
  | .helForce => true
  | .tagReuse _ _ => true
  | .bmeClear fn => decide (fn < 65)
  | .flr fn => decide (1 ≤ fn) && decide (fn < 65)
  | .flrDone fn => decide (fn < 65)
  | .pf0Flr => true
  | .vfDisable _ n => decide (n < 65)
  | .perst => true
  | .hotReset => true
  | .pcieLinkTrain speed width _ => decide (1 ≤ speed) && decide (speed < 7) && decide (1 ≤ width) && decide (width < 17)
  | .powerStateChange fn state => decide (fn < 65) && decide (state < 4)
  | .wakeEvent kind port => decide (kind < 2) && decide (port < 8)
  | .l0pRequest width => width == 8 || width == 16
  | .msixUnmask fn vector => decide (fn < 65) && (vector == 64 || decide (vector < (if fn = 0 then 64 else 31)))
  | .pciClearStats => true
  | .parReset part => decide (part < 64)
  | .resetBusyClear part => decide (part < 64)
  | .parZero part => decide (part < 64)
  | .parZeroDone part => decide (part < 64)
  | .ctxEnable part ctx value => decide (part < 64) && decide (ctx < 16) && decide (value < 2 ^ 32)
  | .ctxDisable part ctx value => decide (part < 64) && decide (ctx < 16) && decide (value < 2 ^ 32)
  | .attest part => decide (part < 64)
  | .loadKey part _ => decide (part < 64)
  | .decryptWeights part _ => decide (part < 64)
  | .getIdentity part => decide (part < 64)
  | .signTokenRefill _ => true
  | .ekGenerated part ctx => decide (part < 64) && decide (ctx < 16)
  | .jtagInstruction die target kind => decide (die < 4) && decide (target < 3) && decide (kind < 3)
  | .packStage => true
  | .packStageDone => true
  | .packActivate => true
  | .packActivateDone => true
  | .commitSvn => true
  | .secClearStats => true
  | .lcsArm value _ => decide (value < 2 ^ 32)
  | .genIdentity _ => true
  | .installCert _ => true
  | .toProduction _ => true
  | .toEndOfLife _ => true
  | .lcsCommandDone => true
  | .packageStart => true
  | .startStep die _ _ _ _ _ _ _ _ _ _ _ _ => decide (die < 4)
  | .startStepTimeout die => decide (die < 4)
  | .powerWave die _ => decide (die < 4)
  | .bistNominate die _ => decide (die < 4)
  | .bistSliceDone die _ _ => decide (die < 4)
  | .bistNominationWithdraw die => decide (die < 4)
  | .bstClearFails die => decide (die < 4)
  | .bstClearStats die => decide (die < 4)
  | .powerDown _ => true
  | .heldRecordRetry die => decide (die < 4)
  | .errQAck die source value => decide (die < 4) && decide (source < 11) && decide (value < 2 ^ 32)
  | .errClearStats die => decide (die < 4)
  | .dieResetWrite value => decide (value < 2 ^ 32)
  | .dieReset die => decide (die < 4)
  | .clockLoss die => decide (die < 4)
  | .deputySilent die => decide (die < 4)
  | .railFault rail n => decide (rail < 6) && decide (n < 8)
  | .thermalSample die _ => decide (die < 4)
  | .tclkAdjust _ die _ => decide (die < 4)
  | .thermalTrip die => decide (die < 4)
  | .pkgPowerSample _ => true
  | .prochot => true
  | .sramError cluster _ => decide (cluster < 512)
  | .clusterWithdraw cluster => decide (cluster < 512)
  | .packWdtExpire die _ => decide (die < 4)
  | .packRestartDone die => decide (die < 4)
  | .telSnapshot die => decide (die < 4)
  | .ageDailyFit die _ _ _ _ _ _ _ _ _ _ => decide (die < 4)
  | .resourceDirectoryRewrite _ => true
  | .illegalOpcode tile => decide (tile < 8192)
  | .undefinedMgmtCommand part => decide (part < 64)
  | .rtrBadOp part ring _ => decide (part < 64) && decide (ring < 64)
  | .flialUndefinedOpcode die _ _ => decide (die < 4)
  | .ringModuleClockLoss die dir _ => decide (die < 4) && decide (dir < 2)
  | .dieManagementFrame die dir _ _ _ _ => decide (die < 4) && decide (dir < 2)
  | .clusterScrubDone cluster => decide (cluster < 512)
  | .kennelStreamEnd _ => true
  | .kennelRestoreDone _ _ _ => true
  | .vauxPowerOn => true
  | .prochotRelease => true

end Sys2Proof
end

