-- ==== Sys2Proof/Decode.lean ====
section
/-! DEFINITION. Decoding of command words. The table gives no row any bits: the commands are events and register accesses, which
no word spells. -/

namespace Sys2Proof

/-- The command a word spells by the table's bits: the table gives no row bits, so no word spells one. -/
def decodeTableWord (_nbits _w : Nat) : Option Instr := none

end Sys2Proof
end

