-- ==== Sys2Proof/Config.lean ====
section
/-! DEFINITION. What the spec leaves open: free values without a body, so that nothing can evaluate them or prove a value
of them, and the cryptographic functions, which the spec names by their public standards. -/

namespace Sys2Proof.Config

/-- A free number, one per value of the state's counter `free` (log entry 3). -/
opaque freeNat : Nat → Nat

/-- The result the device gives for a transcendental, before the limits the spec sets are applied:
operation code, lane format code and lane bits (R117; log entry 4). -/
opaque transcendental : Nat → Nat → Nat → Nat

/-- Whether an XMSS^MT signature over a message verifies under a public key (log entry 5). -/
opaque xmssVerify : List (BitVec 8) → List (BitVec 8) → List (BitVec 8) → Bool

/-- The XMSS^MT signature of a message made with a key at an index (log entry 5). -/
opaque xmssSign : Nat → Nat → List (BitVec 8) → List (BitVec 8)

/-- ML-KEM key generation, encapsulation key and decapsulation (log entry 5). -/
opaque mlkemPublic : Nat → List (BitVec 8)
opaque mlkemByte : Nat → List (BitVec 8) → Nat → BitVec 8
def mlkemDecap (key : Nat) (ct : List (BitVec 8)) : List (BitVec 8) := (List.range 32).map (mlkemByte key ct)

/-- The public keys Collar holds in ROM, by purpose (0 qualification, 1 firmware, 2 provisioning, 3 identity) and index. -/
opaque authorityKey : Nat → Nat → List (BitVec 8)

/-- The package's public identity key: 0 the test identity, 1 and 2 the identities in banks A and B (R499). -/
opaque devicePublic : Nat → List (BitVec 8)

/-- The identity certificate, Collar image and Pack image a package is made with (R495, R499). -/
opaque factoryCert : List (BitVec 8)
opaque factoryCollar : List (BitVec 8)
opaque factoryPack : List (BitVec 8)

/-- What a firmware image says of itself, whose layout the spec does not give (R495 to R497): whether its signature verifies under an authority
key, its SVN, and whether it is a Collar image. -/
opaque fwSigned : List (BitVec 8) → Bool
opaque fwSvn : List (BitVec 8) → Nat
opaque fwIsCollar : List (BitVec 8) → Bool

/-- The UEFI driver in the expansion ROM (R443), the qualified-part table (R444: slot and byte offset), and the router of each edge attachment
(R330: die, kind, index). -/
opaque uefiByte : Nat → BitVec 8
opaque partByte : Nat → Nat → BitVec 8
opaque router : Nat → Nat → Nat → Nat

/-- Whether an OID names an XMSS^MT parameter set of the SHAKE256 family (NIST SP 800-208). -/
opaque xmssOid : Nat → Bool

end Sys2Proof.Config
end

