-- ==== Sys2Proof/Machine/SMap.lean ====
section
/-! DEFINITION. Sparse maps: lists of (number, value) pairs with strictly rising numbers and no entry equal to what an
unlisted number reads as. Every memory, register and per-index store of the state is one of these. -/

namespace Sys2Proof.Machine

/-- A sparse store by number. A memory is `SMap Byte`, which is a list of `Host.Cell`. -/
abbrev SMap (α : Type) := List (Nat × α)

/-- The listed value of a number, if it is listed. -/
def SMap.look {α : Type} : SMap α → Nat → Option α
  | [], _ => none
  | (j, v) :: m, k => if j = k then some v else SMap.look m k

/-- The value of a number: the listed one, or the default `d`. -/
def SMap.get {α : Type} (d : α) (m : SMap α) (k : Nat) : α := (SMap.look m k).getD d

/-- The map without a number. -/
def SMap.del {α : Type} : SMap α → Nat → SMap α
  | [], _ => []
  | (j, v) :: m, k => if j = k then SMap.del m k else (j, v) :: SMap.del m k

/-- The map with a number listed, in rising order. -/
def SMap.ins {α : Type} : SMap α → Nat → α → SMap α
  | [], k, v => [(k, v)]
  | (j, w) :: m, k, v =>
    if k < j then (k, v) :: (j, w) :: m
    else if j = k then (k, v) :: m
    else (j, w) :: SMap.ins m k v

/-- Writing a value: the default value removes the entry, so equal maps are equal lists. -/
def SMap.put {α : Type} [DecidableEq α] (d : α) (m : SMap α) (k : Nat) (v : α) : SMap α :=
  if v = d then SMap.del m k else SMap.ins m k v

/-- The canonical form: numbers strictly rising, and no entry equal to the default. -/
def SMap.wf {α : Type} [DecidableEq α] (d : α) : SMap α → Bool
  | [] => true
  | [(_, v)] => v != d
  | (j, v) :: (k, w) :: m => decide (j < k) && v != d && SMap.wf d ((k, w) :: m)

/-- Keep only the entries whose number satisfies `p`. -/
def SMap.keep {α : Type} (p : Nat → Bool) (m : SMap α) : SMap α := m.filter (fun e => p e.1)

/-- The canonical form of a memory. -/
def Memory.wf (m : SMap Byte) : Bool := SMap.wf 0 m

/-- One byte of a memory. A byte nothing has written reads 0 (DESIGN CHOICE, log entry 2). -/
def memRead (m : SMap Byte) (a : Nat) : Byte := SMap.get 0 m a

/-- Write one byte. -/
def memWrite (m : SMap Byte) (a : Nat) (b : Byte) : SMap Byte := SMap.put 0 m a b

/-- `n` bytes from `a` upward. -/
def memBytes (m : SMap Byte) (a : Nat) : Nat → List Byte
  | 0 => []
  | n + 1 => memRead m a :: memBytes m (a + 1) n

/-- Write a list of bytes from `a` upward. -/
def memPut (m : SMap Byte) (a : Nat) : List Byte → SMap Byte
  | [] => m
  | b :: bs => memPut (memWrite m a b) (a + 1) bs

/-- A byte of a memory whose unwritten bytes are 0, or free values from a number on (R78; log entry 3). -/
def fillRead (fill : Option Nat) (m : SMap Byte) (a : Nat) : Byte :=
  match SMap.look m a with
  | some b => b
  | none => match fill with
    | none => 0
    | some k => BitVec.ofNat 8 (Config.freeNat (k + a))

def fillBytes (fill : Option Nat) (m : SMap Byte) (a n : Nat) : List Byte := (List.range n).map (fun i => fillRead fill m (a + i))

/-- Write bytes of such a memory: what is listed is exactly what has been written. -/
def fillPut (m : SMap Byte) (a : Nat) : List Byte → SMap Byte
  | [] => m
  | b :: bs => fillPut (SMap.ins m a b) (a + 1) bs

/-- The little-endian bytes of a number (R6). -/
def leBytes : Nat → Nat → List Byte
  | 0, _ => []
  | n + 1, v => BitVec.ofNat 8 v :: leBytes n (v / 256)

/-- The number that little-endian bytes spell (R6). -/
def leNat : List Byte → Nat
  | [] => 0
  | b :: bs => b.toNat + 256 * leNat bs

/-- A little-endian field of `n` bytes in a memory. -/
def memNat (m : SMap Byte) (a n : Nat) : Nat := leNat (memBytes m a n)

/-- Write a little-endian field of `n` bytes. -/
def memPutNat (m : SMap Byte) (a n v : Nat) : SMap Byte := memPut m a (leBytes n v)

end Sys2Proof.Machine
end

