-- ==== Sys2Proof/Machine/Crypto.lean ====
section
/-! DEFINITION. The public functions the spec names: SHAKE256 (FIPS 202) for image digests, measurements and key derivation (R186, R496, R506),
and AES-256-GCM (FIPS 197, NIST SP 800-38D) for key blobs and weights (R506, R508). Their definitions are PRESUMED from those standards (log entry 5). -/

namespace Sys2Proof.Machine

/-! ### SHAKE256 -/

/-- A 64-bit lane rotated left by `n` < 64. -/
def rotl64 (x n : Nat) : Nat := ((x <<< n) ||| (x >>> (64 - n))) % 2 ^ 64

/-- A Keccak state holds 25 lanes of 64 bits in one number; lane x + 5 y. -/
def lane (s i : Nat) : Nat := (s >>> (64 * i)) % 2 ^ 64
def ofLanes (f : Nat → Nat) : Nat := (List.range 25).foldl (fun n i => n + (f i <<< (64 * i))) 0

/-- The rotation of lane x + 5 y. -/
def keccakRot (i : Nat) : Nat :=
  [0, 1, 62, 28, 27, 36, 44, 6, 55, 20, 3, 10, 43, 25, 39, 41, 45, 15, 21, 8, 18, 2, 61, 56, 14].getD i 0

/-- The constants of the 24 rounds. -/
def keccakConst : List Nat :=
  [0x0000000000000001, 0x0000000000008082, 0x800000000000808A, 0x8000000080008000, 0x000000000000808B, 0x0000000080000001,
   0x8000000080008081, 0x8000000000008009, 0x000000000000008A, 0x0000000000000088, 0x0000000080008009, 0x000000008000000A,
   0x000000008000808B, 0x800000000000008B, 0x8000000000008089, 0x8000000000008003, 0x8000000000008002, 0x8000000000000080,
   0x000000000000800A, 0x800000008000000A, 0x8000000080008081, 0x8000000000008080, 0x0000000080000001, 0x8000000080008008]

def keccakTheta (s : Nat) : Nat :=
  let c (x : Nat) : Nat := lane s (x % 5) ^^^ lane s (x % 5 + 5) ^^^ lane s (x % 5 + 10) ^^^ lane s (x % 5 + 15) ^^^ lane s (x % 5 + 20)
  ofLanes (fun i => lane s i ^^^ c (i + 4) ^^^ rotl64 (c (i + 1)) 1)
def keccakRhoPi (s : Nat) : Nat :=
  ofLanes (fun i => let j := (i % 5 + 3 * (i / 5)) % 5 + 5 * (i % 5); rotl64 (lane s j) (keccakRot j))
def keccakChi (s : Nat) : Nat :=
  ofLanes (fun i =>
    let y := i / 5 * 5
    let c := lane s (y + (i + 2) % 5)
    lane s i ^^^ c ^^^ (lane s (y + (i + 1) % 5) &&& c))

/-- Keccak-f[1600]. -/
def keccakF (s : Nat) : Nat := keccakConst.foldl (fun s rc => keccakChi (keccakRhoPi (keccakTheta s)) ^^^ rc) s

/-- Absorb whole blocks of 136 bytes. -/
def absorb : Nat → Nat → List Byte → Nat
  | 0, s, _ => s
  | n + 1, s, bs => absorb n (keccakF (s ^^^ leNat (bs.take 136))) (bs.drop 136)

/-- A message with the padding of SHAKE to whole blocks of 136 bytes. -/
def shakePad (bs : List Byte) : List Byte :=
  let k := 136 - bs.length % 136
  bs ++ (if k = 1 then [0x9F] else [0x1F] ++ List.replicate (k - 2) 0 ++ [0x80])

/-- `k` blocks of output. -/
def squeeze : Nat → Nat → List Byte
  | 0, _ => []
  | k + 1, s => leBytes 136 s ++ squeeze k (keccakF s)

/-- SHAKE256 of a byte string: the first `n` bytes of output. -/
def shake256 (n : Nat) (bs : List Byte) : List Byte :=
  (squeeze ((n + 135) / 136) (absorb (bs.length / 136 + 1) 0 (shakePad bs))).take n

/-! ### AES-256-GCM -/

/-- The S-box of AES, byte `b` at bits [8 b + 7 : 8 b]. -/
def aesBox : Nat :=
  0x16bb54b00f2d99416842e6bf0d89a18cdf2855cee9871e9b948ed9691198f8e1_9e1dc186b95735610ef6034866b53e708a8bbd4b1f74dde8c6b4a61c2e2578ba_08ae7a65eaf4566ca94ed58d6d37c8e779e4959162acd3c25c2406490a3a32e0_db0b5ede14b8ee4688902a22dc4f816073195d643d7ea7c41744975fec130ccd_d2f3ff1021dab6bcf5389d928f40a351a89f3c507f02f94585334d43fbaaefd0_cf584c4a39becb6a5bb1fc20ed00d153842fe329b3d63b52a05a6e1b1a2c8309_75b227ebe28012079a059618c323c7041531d871f1e5a534ccf73f362693fdb7_c072a49cafa2d4adf04759fa7dc982ca76abd7fe2b670130c56f6bf27b777c63
def subByte (b : Nat) : Nat := (aesBox >>> (8 * (b % 256))) % 256

/-- Doubling in the field of AES. -/
def xtime (b : Nat) : Nat := if b < 128 then 2 * b else (2 * b % 256) ^^^ 0x1B

/-- The 60 words of the expanded key of AES-256, as lists of four bytes, newest first. -/
def aesWords (key : List Nat) : List (List Nat) :=
  (List.range 52).foldl (fun (w : List (List Nat)) k =>
    let i := k + 8
    let t := w.headD []
    let t := if i % 8 = 0 then
        let u := (t.drop 1 ++ t.take 1).map subByte
        ((u.headD 0) ^^^ 2 ^ (i / 8 - 1)) :: u.drop 1
      else if i % 8 = 4 then t.map subByte else t
    (List.zipWith (· ^^^ ·) (w.getD 7 []) t) :: w) ((List.range 8).reverse.map (fun j => (key.drop (4 * j)).take 4))
def aesKeys (key : List Nat) : List Nat := (aesWords key).reverse.flatten

/-- The round key of round `r` added. -/
def addKey (ks : List Nat) (r : Nat) (b : List Nat) : List Nat := List.zipWith (· ^^^ ·) b ((ks.drop (16 * r)).take 16)
def shiftRows (b : List Nat) : List Nat := (List.range 16).map (fun i => b.getD ((i + 4 * (i % 4)) % 16) 0)
def mixColumns (b : List Nat) : List Nat :=
  (List.range 16).map (fun i =>
    let a (k : Nat) : Nat := b.getD (i / 4 * 4 + (i + k) % 4) 0
    xtime (a 0) ^^^ xtime (a 1) ^^^ a 1 ^^^ a 2 ^^^ a 3)

/-- One block under AES-256 with its expanded key. -/
def aesBlock (ks : List Nat) (b : List Nat) : List Nat :=
  let b := (List.range 13).foldl (fun b r => addKey ks (r + 1) (mixColumns (shiftRows (b.map subByte)))) (addKey ks 0 b)
  addKey ks 14 (shiftRows (b.map subByte))

/-- The number that big-endian bytes spell, and its `n` bytes. -/
def beNat (bs : List Nat) : Nat := bs.foldl (fun n b => 256 * n + b % 256) 0
def beBytes (n v : Nat) : List Nat := (List.range n).map (fun i => (v >>> (8 * (n - 1 - i))) % 256)

/-- The counter block `k` of a 12-byte nonce, encrypted. -/
def gcmStream (ks : List Nat) (iv : List Byte) (k : Nat) : List Nat := aesBlock ks ((iv.take 12).map (·.toNat) ++ beBytes 4 k)

/-- Multiplication in the field of GHASH. -/
def ghashMul (x y : Nat) : Nat :=
  ((List.range 128).foldl (fun (zv : Nat × Nat) i =>
    (if bit x (127 - i) then zv.1 ^^^ zv.2 else zv.1, if bit zv.2 0 then (zv.2 >>> 1) ^^^ (0xE1 <<< 120) else zv.2 >>> 1)) (0, y)).1

/-- Hash 16-byte blocks, the last one filled with zeros. -/
def ghash (h : Nat) : Nat → Nat → List Nat → Nat
  | 0, y, _ => y
  | n + 1, y, bs => let b := bs.take 16; ghash h n (ghashMul (y ^^^ beNat (b ++ List.replicate (16 - b.length) 0)) h) (bs.drop 16)

/-- The plaintext of a ciphertext under a 32-byte key and a 12-byte nonce. -/
def gcmPlain (key iv ct : List Byte) : List Byte :=
  let ks := aesKeys (key.map (·.toNat))
  let stream := (List.range ((ct.length + 15) / 16)).flatMap (fun k => gcmStream ks iv (k + 2))
  List.zipWith (fun (c : Byte) (x : Nat) => c ^^^ BitVec.ofNat 8 x) ct stream

/-- The 16-byte tag over associated data and a ciphertext. -/
def gcmTag (key iv aad ct : List Byte) : List Byte :=
  let ks := aesKeys (key.map (·.toNat))
  let h := beNat (aesBlock ks (List.replicate 16 0))
  let y := ghash h ((aad.length + 15) / 16) 0 (aad.map (·.toNat))
  let y := ghash h ((ct.length + 15) / 16) y (ct.map (·.toNat))
  let y := ghashMul (y ^^^ (8 * aad.length * 2 ^ 64 + 8 * ct.length)) h
  (beBytes 16 (y ^^^ beNat (gcmStream ks iv 1))).map (BitVec.ofNat 8)

end Sys2Proof.Machine
end

