-- ==== Sys2Proof/Machine/Fld.lean ====
section
/-! DEFINITION. What a register field is: place, change class (R10), access code (R8), reset value, and the block that
records its dropped writes (R14). -/

namespace Sys2Proof.Machine

/-- The change classes of R10. -/
inductive Cls where
  | L   -- live
  | T   -- tick-latched
  | Q   -- quiesce-only
  | K   -- lock
  deriving DecidableEq, Repr

/-- The access codes of R8. -/
inductive Acc where
  | RW
  | RO
  | W1C
  | WO
  deriving DecidableEq, Repr

/-- The register blocks that own a configuration-error register (R14). -/
inductive Blk where
  | HUB | CLU | SHD | WRK | TCK | MEM | STC | LSH | XLT | XLT_P | FLL | COH | BAY | BAY_P | DDL | TOR | TOR_P | KNL | SBR
  | PCI | HEL | PAR | PAR_P | SEC | LCS | BST | PWR | ERR | AGE
  deriving DecidableEq, Repr

/-- How the reset value depends on the instance: on the die (R23, R24, R543), or on entry 0 of a table (R259, R355). -/
inductive RstKind where
  | const     -- the same for every instance
  | lead      -- 1 on HD0 only
  | pos       -- the die number
  | role0     -- role of T0 (R24)
  | role1     -- role of T1 (R24)
  | entry0    -- the value at index 0, 0 elsewhere
  | errQueue  -- the value plus the die number (R543)
  | fuse      -- every physical cluster good (R529; log entry 8)
  deriving DecidableEq, Repr

/-- A register field. `dims` lists each index as (count, stride), widest stride first; the index list of an access
follows the same order. -/
structure Fld where
  base : Nat
  dims : List (Nat × Nat)
  lo : Nat
  width : Nat
  cls : Cls
  acc : Acc
  rst : Nat
  kind : RstKind
  hd0 : Bool
  blk : Blk
  vmin : Nat
  vmax : Nat
  deriving DecidableEq, Repr

end Sys2Proof.Machine
end

