-- ==== Sys2Proof/Machine/RegMap.lean ====
section
/-! DEFINITION. The register fields of the package, as the register tables of spec/ give them: offset within a die's
64 MiB register space (R7), the repeats of the block, bit place and width, change class (R10), access code (R8), reset value,
whether the field exists on HD0 only, the block that records its dropped writes (R14), and the range of values that are not
dropped. The rule of each table stands above its fields. A field's address of instance indices is its base plus each index
times its stride. -/

namespace Sys2Proof.Machine


-- R42 (spec/01_package_topology.md)
def R.HUB_ID_PART : Fld := ⟨0x0, [], 16, 16, .L, .RO, 0xA16, .const, false, .HUB, 0, 65535⟩
/-- A fused value that the spec does not give; the model takes 0 at reset (DESIGN CHOICE, log entry 8). -/
def R.HUB_ID_DIE_REV : Fld := ⟨0x0, [], 8, 8, .L, .RO, 0, .const, false, .HUB, 0, 255⟩
def R.HUB_POS_MISMATCH : Fld := ⟨0x4, [], 7, 1, .L, .RO, 0, .const, false, .HUB, 0, 1⟩
def R.HUB_POS_LEAD : Fld := ⟨0x4, [], 6, 1, .L, .RO, 0, .lead, false, .HUB, 0, 1⟩
def R.HUB_POS_FUSED_POS : Fld := ⟨0x4, [], 4, 2, .L, .RO, 0, .pos, false, .HUB, 0, 3⟩
def R.HUB_POS_STRAP_POS : Fld := ⟨0x4, [], 0, 2, .L, .RO, 0, .pos, false, .HUB, 0, 3⟩
def R.HUB_CLUSTERS_SPARE : Fld := ⟨0x8, [], 16, 8, .L, .RO, 0x10, .const, false, .HUB, 0, 255⟩
def R.HUB_CLUSTERS_EXPOSED : Fld := ⟨0x8, [], 8, 8, .L, .RO, 0x80, .const, false, .HUB, 0, 255⟩
def R.HUB_RING_CW_DEGRADED : Fld := ⟨0xC, [], 3, 1, .L, .RO, 0, .const, false, .HUB, 0, 1⟩
def R.HUB_RING_CCW_DEGRADED : Fld := ⟨0xC, [], 2, 1, .L, .RO, 0, .const, false, .HUB, 0, 1⟩
def R.HUB_RING_CW_UP : Fld := ⟨0xC, [], 1, 1, .L, .RO, 0, .const, false, .HUB, 0, 1⟩
def R.HUB_RING_CCW_UP : Fld := ⟨0xC, [], 0, 1, .L, .RO, 0, .const, false, .HUB, 0, 1⟩
def R.HUB_TORUS_ROLE_T1_ROLE : Fld := ⟨0x10, [], 4, 4, .L, .RO, 0, .role1, false, .HUB, 0, 15⟩
def R.HUB_TORUS_ROLE_T0_ROLE : Fld := ⟨0x10, [], 0, 4, .L, .RO, 0, .role0, false, .HUB, 0, 15⟩
def R.HUB_ISLAND_HD3_ISL : Fld := ⟨0x20, [], 6, 2, .Q, .RW, 0, .const, true, .HUB, 0, 3⟩
def R.HUB_ISLAND_HD2_ISL : Fld := ⟨0x20, [], 4, 2, .Q, .RW, 0, .const, true, .HUB, 0, 3⟩
def R.HUB_ISLAND_HD1_ISL : Fld := ⟨0x20, [], 2, 2, .Q, .RW, 0, .const, true, .HUB, 0, 3⟩
def R.HUB_ISLAND_HD0_ISL : Fld := ⟨0x20, [], 0, 2, .Q, .RW, 0, .const, true, .HUB, 0, 3⟩
def R.HUB_CFG_ERR_CFG_ERR : Fld := ⟨0x30, [], 31, 1, .L, .W1C, 0, .const, false, .HUB, 0, 1⟩
def R.HUB_CFG_ERR_MULTI : Fld := ⟨0x30, [], 30, 1, .L, .W1C, 0, .const, false, .HUB, 0, 1⟩
def R.HUB_CFG_ERR_OFFSET : Fld := ⟨0x30, [], 0, 26, .L, .RO, 0, .const, false, .HUB, 0, 67108863⟩

-- R91 (spec/02_tensor_tiles.md)
def R.CLU_STATUS_STATE : Fld := ⟨0x1000000, [(128, 0x10000)], 28, 4, .L, .RO, 0, .const, false, .CLU, 0, 15⟩
def R.CLU_STATUS_PARTITION : Fld := ⟨0x1000000, [(128, 0x10000)], 22, 6, .L, .RO, 0, .const, false, .CLU, 0, 63⟩
def R.CLU_STATUS_CONTEXT : Fld := ⟨0x1000000, [(128, 0x10000)], 18, 4, .L, .RO, 0, .const, false, .CLU, 0, 15⟩
def R.CLU_STATUS_TILE_MASK : Fld := ⟨0x1000000, [(128, 0x10000)], 0, 16, .L, .RO, 0, .const, false, .CLU, 0, 65535⟩
def R.CLU_UNIT_RING : Fld := ⟨0x1000004, [(128, 0x10000)], 16, 16, .L, .RO, 0, .const, false, .CLU, 0, 65535⟩
def R.CLU_UNIT_INDEX : Fld := ⟨0x1000004, [(128, 0x10000)], 0, 16, .L, .RO, 0, .const, false, .CLU, 0, 65535⟩
def R.CLU_CTRL_PERF_CLEAR : Fld := ⟨0x1000008, [(128, 0x10000)], 31, 1, .L, .WO, 0, .const, false, .CLU, 0, 1⟩
def R.CLU_CTRL_RELEASE : Fld := ⟨0x1000008, [(128, 0x10000)], 2, 1, .L, .WO, 0, .const, false, .CLU, 0, 1⟩
def R.CLU_CTRL_HOLD_ON_FAULT : Fld := ⟨0x1000008, [(128, 0x10000)], 1, 1, .T, .RW, 0, .const, false, .CLU, 0, 1⟩
def R.CLU_CTRL_PERF_ENABLE : Fld := ⟨0x1000008, [(128, 0x10000)], 0, 1, .L, .RW, 1, .const, false, .CLU, 0, 1⟩
def R.CLU_FAULT_VALID : Fld := ⟨0x100000C, [(128, 0x10000)], 31, 1, .L, .W1C, 0, .const, false, .CLU, 0, 1⟩
def R.CLU_FAULT_TILE : Fld := ⟨0x100000C, [(128, 0x10000)], 27, 4, .L, .RO, 0, .const, false, .CLU, 0, 15⟩
def R.CLU_FAULT_CODE : Fld := ⟨0x100000C, [(128, 0x10000)], 16, 8, .L, .RO, 0, .const, false, .CLU, 0, 255⟩
def R.CLU_FAULT_INDEX : Fld := ⟨0x100000C, [(128, 0x10000)], 0, 12, .L, .RO, 0, .const, false, .CLU, 0, 4095⟩
def R.CLU_CFG_ERR_CFG_ERR : Fld := ⟨0x1000010, [(128, 0x10000)], 31, 1, .L, .W1C, 0, .const, false, .CLU, 0, 1⟩
def R.CLU_CFG_ERR_MULTI : Fld := ⟨0x1000010, [(128, 0x10000)], 30, 1, .L, .W1C, 0, .const, false, .CLU, 0, 1⟩
def R.CLU_CFG_ERR_OFFSET : Fld := ⟨0x1000010, [(128, 0x10000)], 0, 26, .L, .RO, 0, .const, false, .CLU, 0, 67108863⟩
def R.CLU_PERF_CUBE : Fld := ⟨0x1000020, [(128, 0x10000)], 0, 64, .L, .RO, 0, .const, false, .CLU, 0, 18446744073709551615⟩
def R.CLU_PERF_TOKEN : Fld := ⟨0x1000028, [(128, 0x10000)], 0, 64, .L, .RO, 0, .const, false, .CLU, 0, 18446744073709551615⟩
def R.CLU_PERF_CREDIT : Fld := ⟨0x1000030, [(128, 0x10000)], 0, 64, .L, .RO, 0, .const, false, .CLU, 0, 18446744073709551615⟩
def R.CLU_PERF_FETCH : Fld := ⟨0x1000038, [(128, 0x10000)], 0, 64, .L, .RO, 0, .const, false, .CLU, 0, 18446744073709551615⟩
def R.CLU_PERF_UNITS : Fld := ⟨0x1000040, [(128, 0x10000)], 0, 32, .L, .RO, 0, .const, false, .CLU, 0, 4294967295⟩
def R.CLU_DBG_ADDR_SPACE : Fld := ⟨0x1000050, [(128, 0x10000)], 28, 4, .L, .RW, 0, .const, false, .CLU, 0, 2⟩
def R.CLU_DBG_ADDR_TILE : Fld := ⟨0x1000050, [(128, 0x10000)], 24, 4, .L, .RW, 0, .const, false, .CLU, 0, 15⟩
def R.CLU_DBG_ADDR_OFFSET : Fld := ⟨0x1000050, [(128, 0x10000)], 0, 21, .L, .RW, 0, .const, false, .CLU, 0, 2097151⟩
def R.CLU_DBG_DATA : Fld := ⟨0x1000058, [(128, 0x10000)], 0, 64, .L, .RO, 0, .const, false, .CLU, 0, 18446744073709551615⟩

-- R94 (spec/02_tensor_tiles.md)
def R.TIL_STATUS_STATE : Fld := ⟨0x1001000, [(128, 0x10000), (16, 0x100)], 28, 4, .L, .RO, 0, .const, false, .CLU, 0, 15⟩
def R.TIL_STATUS_UNIT_BUSY : Fld := ⟨0x1001000, [(128, 0x10000), (16, 0x100)], 16, 5, .L, .RO, 0, .const, false, .CLU, 0, 31⟩
def R.TIL_STATUS_HEAD : Fld := ⟨0x1001000, [(128, 0x10000), (16, 0x100)], 0, 12, .L, .RO, 0, .const, false, .CLU, 0, 4095⟩
def R.TIL_FAULT_CODE : Fld := ⟨0x1001004, [(128, 0x10000), (16, 0x100)], 24, 8, .L, .RO, 0, .const, false, .CLU, 0, 255⟩
def R.TIL_FAULT_OPCODE : Fld := ⟨0x1001004, [(128, 0x10000), (16, 0x100)], 16, 7, .L, .RO, 0, .const, false, .CLU, 0, 127⟩
def R.TIL_FAULT_INDEX : Fld := ⟨0x1001004, [(128, 0x10000), (16, 0x100)], 0, 12, .L, .RO, 0, .const, false, .CLU, 0, 4095⟩
def R.TIL_FAULT_INFO : Fld := ⟨0x1001008, [(128, 0x10000), (16, 0x100)], 0, 32, .L, .RO, 0, .const, false, .CLU, 0, 4294967295⟩
def R.TIL_TOKEN : Fld := ⟨0x1001010, [(128, 0x10000), (16, 0x100), (4, 0x4)], 0, 32, .L, .RO, 0, .const, false, .CLU, 0, 4294967295⟩
def R.TIL_CREDIT : Fld := ⟨0x1001020, [(128, 0x10000), (16, 0x100), (4, 0x4)], 0, 32, .L, .RO, 0, .const, false, .CLU, 0, 4294967295⟩
def R.TIL_FILL : Fld := ⟨0x1001030, [(128, 0x10000), (16, 0x100), (4, 0x4)], 0, 32, .L, .RO, 0, .const, false, .CLU, 0, 4294967295⟩
def R.TIL_SEED_LO : Fld := ⟨0x1001040, [(128, 0x10000), (16, 0x100)], 0, 32, .Q, .RW, 0, .const, false, .CLU, 0, 4294967295⟩
def R.TIL_SEED_HI : Fld := ⟨0x1001044, [(128, 0x10000), (16, 0x100)], 0, 32, .Q, .RW, 0, .const, false, .CLU, 0, 4294967295⟩
def R.TIL_PERF_CUBE : Fld := ⟨0x1001048, [(128, 0x10000), (16, 0x100)], 0, 32, .L, .RO, 0, .const, false, .CLU, 0, 4294967295⟩
def R.TIL_PERF_VEC : Fld := ⟨0x100104C, [(128, 0x10000), (16, 0x100)], 0, 32, .L, .RO, 0, .const, false, .CLU, 0, 4294967295⟩
def R.TIL_TOKEN_HI : Fld := ⟨0x1001050, [(128, 0x10000), (16, 0x100), (4, 0x4)], 0, 32, .L, .RO, 0, .const, false, .CLU, 0, 4294967295⟩

-- R96 (spec/02_tensor_tiles.md)
def R.CLU_STANDIN_ACTIVE : Fld := ⟨0x1800000, [], 31, 1, .L, .RO, 0, .const, false, .CLU, 0, 1⟩
def R.CLU_STANDIN_TARGET : Fld := ⟨0x1800000, [], 8, 7, .L, .RO, 0, .const, false, .CLU, 0, 127⟩
def R.CLU_STANDIN_SPARES_FREE : Fld := ⟨0x1800000, [], 0, 5, .L, .RO, 0x10, .const, false, .CLU, 0, 31⟩

-- R97 (spec/02_tensor_tiles.md)
def R.CLU_WITHDRAWN : Fld := ⟨0x1800010, [(4, 0x4)], 0, 32, .L, .RO, 0, .const, false, .CLU, 0, 4294967295⟩

-- R228 (spec/06_work_rings.md)
def R.SHD_CTRL_CLEAR_STATS : Fld := ⟨0x200000, [], 31, 1, .L, .WO, 0, .const, true, .SHD, 0, 1⟩
def R.SHD_CTRL_FETCH_DEADLINE : Fld := ⟨0x200000, [], 0, 8, .T, .RW, 0xA, .const, true, .SHD, 1, 255⟩
def R.SHD_WINDOW_WINDOW_MAX : Fld := ⟨0x200004, [], 16, 16, .L, .RO, 0, .const, true, .SHD, 0, 65535⟩
def R.SHD_WINDOW_WINDOW_LAST : Fld := ⟨0x200004, [], 0, 16, .L, .RO, 0, .const, true, .SHD, 0, 65535⟩
def R.SHD_DB_LATE : Fld := ⟨0x200008, [], 0, 32, .L, .RO, 0, .const, true, .SHD, 0, 4294967295⟩
def R.SHD_DESC_LATE : Fld := ⟨0x20000C, [], 0, 32, .L, .RO, 0, .const, true, .SHD, 0, 4294967295⟩
def R.SHD_ADMITTED : Fld := ⟨0x200010, [], 0, 64, .L, .RO, 0, .const, true, .SHD, 0, 18446744073709551615⟩
def R.SHD_EVENT_PART : Fld := ⟨0x200018, [], 0, 64, .L, .RO, 0, .const, true, .SHD, 0, 18446744073709551615⟩
def R.SHD_CFG_ERR_CFG_ERR : Fld := ⟨0x200020, [], 31, 1, .L, .W1C, 0, .const, true, .SHD, 0, 1⟩
def R.SHD_CFG_ERR_MULTI : Fld := ⟨0x200020, [], 30, 1, .L, .W1C, 0, .const, true, .SHD, 0, 1⟩
def R.SHD_CFG_ERR_OFFSET : Fld := ⟨0x200020, [], 0, 26, .L, .RO, 0, .const, true, .SHD, 0, 67108863⟩

-- R229 (spec/06_work_rings.md)
def R.WRK_DB_LO_ADDR : Fld := ⟨0x2000000, [(64, 0x10000)], 11, 21, .Q, .RW, 0, .const, true, .WRK, 0, 2097151⟩
def R.WRK_DB_LO_LOC : Fld := ⟨0x2000000, [(64, 0x10000)], 0, 1, .Q, .RW, 0, .const, true, .WRK, 0, 1⟩
def R.WRK_DB_HI_ADDR : Fld := ⟨0x2000004, [(64, 0x10000)], 0, 32, .Q, .RW, 0, .const, true, .WRK, 0, 4294967295⟩
def R.WRK_STAT_LO_ADDR : Fld := ⟨0x2000008, [(64, 0x10000)], 11, 21, .Q, .RW, 0, .const, true, .WRK, 0, 2097151⟩
def R.WRK_STAT_LO_LOC : Fld := ⟨0x2000008, [(64, 0x10000)], 0, 1, .Q, .RW, 0, .const, true, .WRK, 0, 1⟩
def R.WRK_STAT_HI : Fld := ⟨0x200000C, [(64, 0x10000)], 0, 32, .Q, .RW, 0, .const, true, .WRK, 0, 4294967295⟩
def R.WRK_CTRL_DB_ENABLE : Fld := ⟨0x2000010, [(64, 0x10000)], 31, 1, .Q, .RW, 0, .const, true, .WRK, 0, 1⟩
def R.WRK_CTRL_EVENT_BAY : Fld := ⟨0x2000010, [(64, 0x10000)], 15, 1, .L, .RW, 0, .const, true, .WRK, 0, 1⟩
def R.WRK_CTRL_EVENT_BAY_NUM : Fld := ⟨0x2000010, [(64, 0x10000)], 12, 3, .L, .RW, 0, .const, true, .WRK, 0, 7⟩
def R.WRK_CTRL_EVENT_VECTOR : Fld := ⟨0x2000010, [(64, 0x10000)], 0, 5, .L, .RW, 0, .const, true, .WRK, 0, 30⟩
def R.WRK_EVENT_ISLAND_DOWN : Fld := ⟨0x2000014, [(64, 0x10000)], 3, 1, .L, .W1C, 0, .const, true, .WRK, 0, 1⟩
def R.WRK_EVENT_HARD_LIMIT : Fld := ⟨0x2000014, [(64, 0x10000)], 2, 1, .L, .W1C, 0, .const, true, .WRK, 0, 1⟩
def R.WRK_EVENT_RING_ERROR : Fld := ⟨0x2000014, [(64, 0x10000)], 1, 1, .L, .W1C, 0, .const, true, .WRK, 0, 1⟩
def R.WRK_EVENT_DB_FAIL : Fld := ⟨0x2000014, [(64, 0x10000)], 0, 1, .L, .W1C, 0, .const, true, .WRK, 0, 1⟩
def R.WRK_EVENT_MASK : Fld := ⟨0x2000018, [(64, 0x10000)], 0, 4, .L, .RW, 0, .const, true, .WRK, 0, 15⟩
def R.WRK_CFG_ERR_CFG_ERR : Fld := ⟨0x200001C, [(64, 0x10000)], 31, 1, .L, .W1C, 0, .const, true, .WRK, 0, 1⟩
def R.WRK_CFG_ERR_MULTI : Fld := ⟨0x200001C, [(64, 0x10000)], 30, 1, .L, .W1C, 0, .const, true, .WRK, 0, 1⟩
def R.WRK_CFG_ERR_OFFSET : Fld := ⟨0x200001C, [(64, 0x10000)], 0, 26, .L, .RO, 0, .const, true, .WRK, 0, 67108863⟩
def R.WRK_DB_FAILS : Fld := ⟨0x2000020, [(64, 0x10000)], 0, 32, .L, .RO, 0, .const, true, .WRK, 0, 4294967295⟩
def R.WRK_MGMT_LO_ADDR : Fld := ⟨0x2000040, [(64, 0x10000)], 6, 26, .Q, .RW, 0, .const, true, .WRK, 0, 67108863⟩
def R.WRK_MGMT_LO_LOC : Fld := ⟨0x2000040, [(64, 0x10000)], 0, 1, .Q, .RW, 0, .const, true, .WRK, 0, 1⟩
def R.WRK_MGMT_HI : Fld := ⟨0x2000044, [(64, 0x10000)], 0, 32, .Q, .RW, 0, .const, true, .WRK, 0, 4294967295⟩
def R.WRK_MRSP_LO_ADDR : Fld := ⟨0x2000048, [(64, 0x10000)], 6, 26, .Q, .RW, 0, .const, true, .WRK, 0, 67108863⟩
def R.WRK_MRSP_LO_LOC : Fld := ⟨0x2000048, [(64, 0x10000)], 0, 1, .Q, .RW, 0, .const, true, .WRK, 0, 1⟩
def R.WRK_MRSP_HI : Fld := ⟨0x200004C, [(64, 0x10000)], 0, 32, .Q, .RW, 0, .const, true, .WRK, 0, 4294967295⟩
def R.WRK_MGMT_CFG_ENABLE : Fld := ⟨0x2000050, [(64, 0x10000)], 31, 1, .Q, .RW, 0, .const, true, .WRK, 0, 1⟩
def R.WRK_MGMT_CFG_SIZE_LOG2 : Fld := ⟨0x2000050, [(64, 0x10000)], 16, 5, .Q, .RW, 6, .const, true, .WRK, 6, 12⟩
def R.WRK_MGMT_CFG_VECTOR : Fld := ⟨0x2000050, [(64, 0x10000)], 0, 5, .Q, .RW, 0, .const, true, .WRK, 0, 30⟩
def R.WRK_RING_LO_ADDR : Fld := ⟨0x2001000, [(64, 0x10000), (64, 0x40)], 6, 26, .Q, .RW, 0, .const, true, .WRK, 0, 67108863⟩
def R.WRK_RING_LO_LOC : Fld := ⟨0x2001000, [(64, 0x10000), (64, 0x40)], 0, 1, .Q, .RW, 0, .const, true, .WRK, 0, 1⟩
def R.WRK_RING_HI : Fld := ⟨0x2001004, [(64, 0x10000), (64, 0x40)], 0, 32, .Q, .RW, 0, .const, true, .WRK, 0, 4294967295⟩
def R.WRK_CPL_LO_ADDR : Fld := ⟨0x2001008, [(64, 0x10000), (64, 0x40)], 6, 26, .Q, .RW, 0, .const, true, .WRK, 0, 67108863⟩
def R.WRK_CPL_HI : Fld := ⟨0x200100C, [(64, 0x10000), (64, 0x40)], 0, 32, .Q, .RW, 0, .const, true, .WRK, 0, 4294967295⟩
def R.WRK_RING_CFG_ENABLE : Fld := ⟨0x2001010, [(64, 0x10000), (64, 0x40)], 31, 1, .Q, .RW, 0, .const, true, .WRK, 0, 1⟩
def R.WRK_RING_CFG_IRQ_ALL : Fld := ⟨0x2001010, [(64, 0x10000), (64, 0x40)], 30, 1, .Q, .RW, 0, .const, true, .WRK, 0, 1⟩
def R.WRK_RING_CFG_CONTEXT : Fld := ⟨0x2001010, [(64, 0x10000), (64, 0x40)], 24, 4, .Q, .RW, 0, .const, true, .WRK, 0, 15⟩
def R.WRK_RING_CFG_SIZE_LOG2 : Fld := ⟨0x2001010, [(64, 0x10000), (64, 0x40)], 16, 5, .Q, .RW, 6, .const, true, .WRK, 6, 16⟩
def R.WRK_RING_CFG_INT_BAY : Fld := ⟨0x2001010, [(64, 0x10000), (64, 0x40)], 15, 1, .Q, .RW, 0, .const, true, .WRK, 0, 1⟩
def R.WRK_RING_CFG_BAY : Fld := ⟨0x2001010, [(64, 0x10000), (64, 0x40)], 12, 3, .Q, .RW, 0, .const, true, .WRK, 0, 7⟩
def R.WRK_RING_CFG_VECTOR : Fld := ⟨0x2001010, [(64, 0x10000), (64, 0x40)], 0, 5, .Q, .RW, 0, .const, true, .WRK, 0, 30⟩
def R.WRK_RING_LIMIT_FETCH_MAX : Fld := ⟨0x2001014, [(64, 0x10000), (64, 0x40)], 0, 7, .Q, .RW, 0x10, .const, true, .WRK, 1, 64⟩
def R.WRK_RING_STATE_STATE : Fld := ⟨0x2001018, [(64, 0x10000), (64, 0x40)], 28, 4, .L, .RO, 0, .const, true, .WRK, 0, 15⟩
def R.WRK_RING_STATE_REASON : Fld := ⟨0x2001018, [(64, 0x10000), (64, 0x40)], 24, 4, .L, .RO, 0, .const, true, .WRK, 0, 15⟩
def R.WRK_RING_STATE_IN_FLIGHT : Fld := ⟨0x2001018, [(64, 0x10000), (64, 0x40)], 0, 7, .L, .RO, 0, .const, true, .WRK, 0, 127⟩
def R.WRK_RING_CTRL_RESET : Fld := ⟨0x200101C, [(64, 0x10000), (64, 0x40)], 1, 1, .L, .WO, 0, .const, true, .WRK, 0, 1⟩
def R.WRK_RING_CTRL_STOP : Fld := ⟨0x200101C, [(64, 0x10000), (64, 0x40)], 0, 1, .L, .WO, 0, .const, true, .WRK, 0, 1⟩
def R.WRK_RING_HEAD : Fld := ⟨0x2001020, [(64, 0x10000), (64, 0x40)], 0, 32, .L, .RO, 0, .const, true, .WRK, 0, 4294967295⟩
def R.WRK_RING_DONE : Fld := ⟨0x2001024, [(64, 0x10000), (64, 0x40)], 0, 32, .L, .RO, 0, .const, true, .WRK, 0, 4294967295⟩
def R.WRK_RING_ABORTS : Fld := ⟨0x2001028, [(64, 0x10000), (64, 0x40)], 0, 32, .L, .RO, 0, .const, true, .WRK, 0, 4294967295⟩

-- R249 (spec/07_tick.md)
def R.TCK_CTRL_CLEAR_STATS : Fld := ⟨0x210000, [], 31, 1, .L, .WO, 0, .const, true, .TCK, 0, 1⟩
def R.TCK_CTRL_SOURCE : Fld := ⟨0x210000, [], 0, 2, .Q, .RW, 0, .const, true, .TCK, 0, 3⟩
def R.TCK_STATUS_MASTER : Fld := ⟨0x210004, [], 8, 1, .L, .RO, 0, .const, true, .TCK, 0, 1⟩
def R.TCK_STATUS_STATE : Fld := ⟨0x210004, [], 0, 4, .L, .RO, 0, .const, true, .TCK, 0, 15⟩
def R.TCK_PERIOD_CURRENT : Fld := ⟨0x210008, [], 0, 8, .L, .RO, 0xA, .const, true, .TCK, 0, 255⟩
def R.TCK_NEXT_PENDING : Fld := ⟨0x21000C, [], 31, 1, .L, .RO, 0, .const, true, .TCK, 0, 1⟩
def R.TCK_NEXT_NEXT_PERIOD : Fld := ⟨0x21000C, [], 0, 8, .L, .RW, 0, .const, true, .TCK, 0, 200⟩
def R.TCK_NEXT_AT : Fld := ⟨0x210010, [], 0, 64, .L, .RW, 0, .const, true, .TCK, 0, 18446744073709551615⟩
def R.TCK_NUMBER : Fld := ⟨0x210018, [], 0, 64, .Q, .RW, 0, .const, true, .TCK, 0, 18446744073709551615⟩
def R.TCK_TOD : Fld := ⟨0x210020, [], 0, 64, .L, .RO, 0, .const, true, .TCK, 0, 18446744073709551615⟩
def R.TCK_HOP_DELAY : Fld := ⟨0x210028, [], 0, 32, .L, .RO, 0, .const, true, .TCK, 0, 4294967295⟩
def R.TCK_MASTER_DELAY : Fld := ⟨0x21002C, [], 0, 32, .L, .RO, 0, .const, true, .TCK, 0, 4294967295⟩
def R.TCK_OFFSET : Fld := ⟨0x210030, [], 0, 32, .L, .RO, 0, .const, true, .TCK, 0, 4294967295⟩
def R.TCK_EVENT_NUMBER_JUMP : Fld := ⟨0x210034, [], 5, 1, .L, .W1C, 0, .const, true, .TCK, 0, 1⟩
def R.TCK_EVENT_MASTER_CONFLICT : Fld := ⟨0x210034, [], 4, 1, .L, .W1C, 0, .const, true, .TCK, 0, 1⟩
def R.TCK_EVENT_PERIOD_CHANGED : Fld := ⟨0x210034, [], 3, 1, .L, .W1C, 0, .const, true, .TCK, 0, 1⟩
def R.TCK_EVENT_TICK_LOST : Fld := ⟨0x210034, [], 2, 1, .L, .W1C, 0, .const, true, .TCK, 0, 1⟩
def R.TCK_EVENT_HOLDOVER : Fld := ⟨0x210034, [], 1, 1, .L, .W1C, 0, .const, true, .TCK, 0, 1⟩
def R.TCK_EVENT_TICKIN_FAULT : Fld := ⟨0x210034, [], 0, 1, .L, .W1C, 0, .const, true, .TCK, 0, 1⟩
def R.TCK_MISSED : Fld := ⟨0x210038, [], 0, 32, .L, .RO, 0, .const, true, .TCK, 0, 4294967295⟩
def R.TCK_CFG_ERR_CFG_ERR : Fld := ⟨0x21003C, [], 31, 1, .L, .W1C, 0, .const, true, .TCK, 0, 1⟩
def R.TCK_CFG_ERR_MULTI : Fld := ⟨0x21003C, [], 30, 1, .L, .W1C, 0, .const, true, .TCK, 0, 1⟩
def R.TCK_CFG_ERR_OFFSET : Fld := ⟨0x21003C, [], 0, 26, .L, .RO, 0, .const, true, .TCK, 0, 67108863⟩
def R.TCK_DEBT : Fld := ⟨0x211000, [(1024, 0x4)], 0, 32, .L, .RO, 0, .const, true, .TCK, 0, 4294967295⟩

-- R274 (spec/08_memory_system.md)
def R.MEM_STATUS_STATE : Fld := ⟨0x300000, [], 28, 4, .L, .RO, 0, .const, false, .MEM, 0, 15⟩
def R.MEM_STATUS_STACK_UP : Fld := ⟨0x300000, [], 0, 4, .L, .RO, 0, .const, false, .MEM, 0, 15⟩
def R.MEM_CTRL_CLEAR_STATS : Fld := ⟨0x300004, [], 31, 1, .L, .WO, 0, .const, false, .MEM, 0, 1⟩
def R.MEM_CTRL_SCRUB_HOURS : Fld := ⟨0x300004, [], 16, 8, .T, .RW, 0x18, .const, false, .MEM, 0, 255⟩
def R.MEM_CTRL_RECAL_MS : Fld := ⟨0x300004, [], 8, 8, .T, .RW, 1, .const, false, .MEM, 0, 255⟩
def R.MEM_CTRL_CE_THRESH : Fld := ⟨0x300004, [], 0, 8, .T, .RW, 0x10, .const, false, .MEM, 0, 255⟩
def R.MEM_EVENT_RETIRED : Fld := ⟨0x300008, [], 4, 1, .L, .W1C, 0, .const, false, .MEM, 0, 1⟩
def R.MEM_EVENT_HALF_RATE : Fld := ⟨0x300008, [], 3, 1, .L, .W1C, 0, .const, false, .MEM, 0, 1⟩
def R.MEM_EVENT_THROTTLE : Fld := ⟨0x300008, [], 2, 1, .L, .W1C, 0, .const, false, .MEM, 0, 1⟩
def R.MEM_EVENT_UE : Fld := ⟨0x300008, [], 1, 1, .L, .W1C, 0, .const, false, .MEM, 0, 1⟩
def R.MEM_EVENT_REPAIR : Fld := ⟨0x300008, [], 0, 1, .L, .W1C, 0, .const, false, .MEM, 0, 1⟩
def R.MEM_CFG_ERR_CFG_ERR : Fld := ⟨0x300010, [], 31, 1, .L, .W1C, 0, .const, false, .MEM, 0, 1⟩
def R.MEM_CFG_ERR_MULTI : Fld := ⟨0x300010, [], 30, 1, .L, .W1C, 0, .const, false, .MEM, 0, 1⟩
def R.MEM_CFG_ERR_OFFSET : Fld := ⟨0x300010, [], 0, 26, .L, .RO, 0, .const, false, .MEM, 0, 67108863⟩
def R.MEM_STACK_TEMP_TEMP : Fld := ⟨0x300100, [(4, 0x20)], 24, 8, .L, .RO, 0, .const, false, .MEM, 0, 255⟩
def R.MEM_STACK_TEMP_BAND : Fld := ⟨0x300100, [(4, 0x20)], 0, 3, .L, .RO, 0, .const, false, .MEM, 0, 7⟩
def R.MEM_STACK_SPARES_ROWS : Fld := ⟨0x300104, [(4, 0x20)], 16, 16, .L, .RO, 0, .const, false, .MEM, 0, 65535⟩
def R.MEM_STACK_SPARES_LANES : Fld := ⟨0x300104, [(4, 0x20)], 0, 16, .L, .RO, 0, .const, false, .MEM, 0, 65535⟩
def R.MEM_STACK_REPAIRS : Fld := ⟨0x300108, [(4, 0x20)], 0, 32, .L, .RO, 0, .const, false, .MEM, 0, 4294967295⟩
def R.MEM_PORT_STATUS_RETIRED : Fld := ⟨0x301000, [(32, 0x40)], 8, 4, .L, .RO, 0, .const, false, .MEM, 0, 15⟩
def R.MEM_PORT_STATUS_HALF : Fld := ⟨0x301000, [(32, 0x40)], 4, 4, .L, .RO, 0, .const, false, .MEM, 0, 15⟩
def R.MEM_PORT_STATUS_UP : Fld := ⟨0x301000, [(32, 0x40)], 0, 4, .L, .RO, 0, .const, false, .MEM, 0, 15⟩
def R.MEM_PORT_CE : Fld := ⟨0x301004, [(32, 0x40)], 0, 32, .L, .RO, 0, .const, false, .MEM, 0, 4294967295⟩
def R.MEM_PORT_UE : Fld := ⟨0x301008, [(32, 0x40)], 0, 32, .L, .RO, 0, .const, false, .MEM, 0, 4294967295⟩
def R.MEM_PORT_LAST_UE : Fld := ⟨0x301010, [(32, 0x40)], 0, 64, .L, .RO, 0, .const, false, .MEM, 0, 18446744073709551615⟩
def R.MEM_PORT_SECTORS : Fld := ⟨0x301018, [(32, 0x40)], 0, 64, .L, .RO, 0, .const, false, .MEM, 0, 18446744073709551615⟩
def R.MEM_PORT_LB_CTRL_START : Fld := ⟨0x301020, [(32, 0x40)], 31, 1, .Q, .WO, 0, .const, false, .MEM, 0, 1⟩
def R.MEM_PORT_LB_CTRL_MODE : Fld := ⟨0x301020, [(32, 0x40)], 8, 2, .Q, .RW, 0, .const, false, .MEM, 0, 1⟩
def R.MEM_PORT_LB_CTRL_PATTERN : Fld := ⟨0x301020, [(32, 0x40)], 4, 2, .Q, .RW, 0, .const, false, .MEM, 0, 2⟩
def R.MEM_PORT_LB_CTRL_CHANNELS : Fld := ⟨0x301020, [(32, 0x40)], 0, 4, .Q, .RW, 0, .const, false, .MEM, 0, 15⟩
def R.MEM_PORT_LB_STATUS_DONE : Fld := ⟨0x301024, [(32, 0x40)], 31, 1, .L, .W1C, 0, .const, false, .MEM, 0, 1⟩
def R.MEM_PORT_LB_ERR : Fld := ⟨0x301028, [(32, 0x40)], 0, 32, .L, .RO, 0, .const, false, .MEM, 0, 4294967295⟩
def R.MEM_REGION_VALID : Fld := ⟨0x340000, [(64, 0x10)], 31, 1, .T, .RW, 1, .entry0, true, .MEM, 0, 1⟩
def R.MEM_REGION_MODE : Fld := ⟨0x340000, [(64, 0x10)], 16, 2, .T, .RW, 0, .const, true, .MEM, 0, 3⟩
def R.MEM_REGION_TARGET : Fld := ⟨0x340000, [(64, 0x10)], 8, 4, .T, .RW, 0, .const, true, .MEM, 0, 15⟩
def R.MEM_REGION_STREAM : Fld := ⟨0x340000, [(64, 0x10)], 0, 1, .T, .RW, 0, .const, true, .MEM, 0, 1⟩
def R.MEM_REGION_BASE_BASE : Fld := ⟨0x340004, [(64, 0x10)], 0, 18, .T, .RW, 0, .const, true, .MEM, 0, 262143⟩
def R.MEM_REGION_BANDS_BANDS : Fld := ⟨0x340008, [(64, 0x10)], 16, 10, .T, .RW, 0x300, .entry0, true, .MEM, 0, 1023⟩
def R.MEM_REGION_BANDS_BAND_FIRST : Fld := ⟨0x340008, [(64, 0x10)], 0, 10, .T, .RW, 0, .const, true, .MEM, 0, 1023⟩
def R.MEM_REGION_STATUS_REJECT : Fld := ⟨0x340400, [], 31, 1, .L, .W1C, 0, .const, true, .MEM, 0, 1⟩
def R.MEM_REGION_STATUS_ENTRY : Fld := ⟨0x340400, [], 16, 6, .L, .RO, 0, .const, true, .MEM, 0, 63⟩
def R.MEM_REGION_STATUS_REASON : Fld := ⟨0x340400, [], 0, 3, .L, .RO, 0, .const, true, .MEM, 0, 7⟩

-- R275 (spec/08_memory_system.md)
def R.STC_CTRL_FLUSH : Fld := ⟨0x380000, [], 31, 1, .L, .WO, 0, .const, false, .STC, 0, 1⟩
def R.STC_CTRL_CLEAR_STATS : Fld := ⟨0x380000, [], 30, 1, .L, .WO, 0, .const, false, .STC, 0, 1⟩
def R.STC_CTRL_ENABLE : Fld := ⟨0x380000, [], 0, 1, .Q, .RW, 1, .const, false, .STC, 0, 1⟩
def R.STC_STATUS_FLUSH_BUSY : Fld := ⟨0x380004, [], 31, 1, .L, .RO, 0, .const, false, .STC, 0, 1⟩
def R.STC_CFG_ERR_CFG_ERR : Fld := ⟨0x380008, [], 31, 1, .L, .W1C, 0, .const, false, .STC, 0, 1⟩
def R.STC_CFG_ERR_MULTI : Fld := ⟨0x380008, [], 30, 1, .L, .W1C, 0, .const, false, .STC, 0, 1⟩
def R.STC_CFG_ERR_OFFSET : Fld := ⟨0x380008, [], 0, 26, .L, .RO, 0, .const, false, .STC, 0, 67108863⟩
def R.STC_HITS : Fld := ⟨0x380010, [], 0, 64, .L, .RO, 0, .const, false, .STC, 0, 18446744073709551615⟩
def R.STC_MISSES : Fld := ⟨0x380018, [], 0, 64, .L, .RO, 0, .const, false, .STC, 0, 18446744073709551615⟩
def R.STC_WRITEBACKS : Fld := ⟨0x380020, [], 0, 64, .L, .RO, 0, .const, false, .STC, 0, 18446744073709551615⟩
def R.STC_BYPASS : Fld := ⟨0x380028, [], 0, 64, .L, .RO, 0, .const, false, .STC, 0, 18446744073709551615⟩
def R.STC_SECTOR_ERR : Fld := ⟨0x380030, [], 0, 32, .L, .RO, 0, .const, false, .STC, 0, 4294967295⟩
def R.STC_PART_WAYS_WAYS : Fld := ⟨0x381000, [(64, 0x4)], 0, 16, .T, .RW, 0xFFFF, .const, false, .STC, 0, 65535⟩

-- R294 (spec/09_regulation.md)
def R.LSH_CTRL_CLEAR_STATS : Fld := ⟨0x3C0000, [], 31, 1, .L, .WO, 0, .const, false, .LSH, 0, 1⟩
def R.LSH_CTRL_READMIT : Fld := ⟨0x3C0000, [], 30, 1, .L, .WO, 0, .const, false, .LSH, 0, 1⟩
def R.LSH_LAT_LO_RD : Fld := ⟨0x3C0004, [], 16, 16, .T, .RW, 0x7D0, .const, false, .LSH, 1, 65535⟩
def R.LSH_LAT_LO_LCR : Fld := ⟨0x3C0004, [], 0, 16, .T, .RW, 0x190, .const, false, .LSH, 1, 65535⟩
def R.LSH_LAT_HI_BG : Fld := ⟨0x3C0008, [], 16, 16, .T, .RW, 0x4E20, .const, false, .LSH, 1, 65535⟩
def R.LSH_LAT_HI_WR : Fld := ⟨0x3C0008, [], 0, 16, .T, .RW, 0xFA0, .const, false, .LSH, 1, 65535⟩
def R.LSH_EVENT_SCALED : Fld := ⟨0x3C000C, [], 1, 1, .L, .W1C, 0, .const, false, .LSH, 0, 1⟩
def R.LSH_EVENT_ADMIT_REJECT : Fld := ⟨0x3C000C, [], 0, 1, .L, .W1C, 0, .const, false, .LSH, 0, 1⟩
def R.LSH_CFG_ERR_CFG_ERR : Fld := ⟨0x3C0010, [], 31, 1, .L, .W1C, 0, .const, false, .LSH, 0, 1⟩
def R.LSH_CFG_ERR_MULTI : Fld := ⟨0x3C0010, [], 30, 1, .L, .W1C, 0, .const, false, .LSH, 0, 1⟩
def R.LSH_CFG_ERR_OFFSET : Fld := ⟨0x3C0010, [], 0, 26, .L, .RO, 0, .const, false, .LSH, 0, 67108863⟩
def R.LSH_ADMIT_REJECT : Fld := ⟨0x3C0100, [], 31, 1, .L, .W1C, 0, .const, true, .LSH, 0, 1⟩
def R.LSH_ADMIT_REASON : Fld := ⟨0x3C0100, [], 28, 3, .L, .RO, 0, .const, true, .LSH, 0, 7⟩
def R.LSH_ADMIT_DIE : Fld := ⟨0x3C0100, [], 26, 2, .L, .RO, 0, .const, true, .LSH, 0, 3⟩
def R.LSH_ADMIT_MPORT : Fld := ⟨0x3C0100, [], 18, 8, .L, .RO, 0, .const, true, .LSH, 0, 255⟩
def R.LSH_ADMIT_CLASS : Fld := ⟨0x3C0100, [], 16, 2, .L, .RO, 0, .const, true, .LSH, 0, 3⟩
def R.LSH_ADMIT_STACK : Fld := ⟨0x3C0100, [], 0, 4, .L, .RO, 0, .const, true, .LSH, 0, 15⟩
def R.LSH_STACK_CAP_CAP_ADM : Fld := ⟨0x3C0200, [(16, 0x10)], 16, 16, .L, .RO, 0x7AE1, .const, true, .LSH, 0, 65535⟩
def R.LSH_STACK_CAP_CAP_NOW : Fld := ⟨0x3C0200, [(16, 0x10)], 0, 16, .L, .RO, 0x7AE1, .const, true, .LSH, 0, 65535⟩
def R.LSH_STACK_LOAD : Fld := ⟨0x3C0204, [(16, 0x10)], 0, 32, .L, .RO, 0, .const, true, .LSH, 0, 4294967295⟩

-- R295 (spec/09_regulation.md)
def R.LSH_M_CFG_STRICT : Fld := ⟨0x3C1000, [(137, 0x80)], 31, 1, .L, .RO, 0, .const, false, .LSH, 0, 1⟩
def R.LSH_M_CFG_PARTITION : Fld := ⟨0x3C1000, [(137, 0x80)], 0, 8, .L, .RO, 0xFF, .const, false, .LSH, 0, 255⟩
def R.LSH_M_WEIGHT_BG : Fld := ⟨0x3C1004, [(137, 0x80)], 24, 8, .T, .RW, 0x10, .const, false, .LSH, 0, 255⟩
def R.LSH_M_WEIGHT_WR : Fld := ⟨0x3C1004, [(137, 0x80)], 16, 8, .T, .RW, 0x10, .const, false, .LSH, 0, 255⟩
def R.LSH_M_WEIGHT_RD : Fld := ⟨0x3C1004, [(137, 0x80)], 8, 8, .T, .RW, 0x10, .const, false, .LSH, 0, 255⟩
def R.LSH_M_WEIGHT_LCR : Fld := ⟨0x3C1004, [(137, 0x80)], 0, 8, .T, .RW, 0x10, .const, false, .LSH, 0, 255⟩
def R.LSH_M_MIN_MIN : Fld := ⟨0x3C1008, [(137, 0x80), (4, 0x4)], 16, 16, .T, .RW, 0, .const, false, .LSH, 0, 65535⟩
def R.LSH_M_MIN_MODE : Fld := ⟨0x3C1008, [(137, 0x80), (4, 0x4)], 6, 2, .T, .RW, 0, .const, false, .LSH, 0, 3⟩
def R.LSH_M_MIN_TARGET : Fld := ⟨0x3C1008, [(137, 0x80), (4, 0x4)], 0, 4, .T, .RW, 0, .const, false, .LSH, 0, 15⟩
def R.LSH_M_EFF_EFF : Fld := ⟨0x3C1018, [(137, 0x80), (4, 0x4)], 0, 16, .L, .RO, 0, .const, false, .LSH, 0, 65535⟩
def R.LSH_M_GUAR : Fld := ⟨0x3C1040, [(137, 0x80), (4, 0x8)], 0, 64, .L, .RO, 0, .const, false, .LSH, 0, 18446744073709551615⟩
def R.LSH_M_BE : Fld := ⟨0x3C1060, [(137, 0x80), (4, 0x8)], 0, 64, .L, .RO, 0, .const, false, .LSH, 0, 18446744073709551615⟩

-- R296 (spec/09_regulation.md)
def R.LSH_PORT_UNITS : Fld := ⟨0x3C8000, [(32, 0x40), (4, 0x8)], 0, 64, .L, .RO, 0, .const, false, .LSH, 0, 18446744073709551615⟩
def R.LSH_PORT_LATE : Fld := ⟨0x3C8020, [(32, 0x40), (4, 0x4)], 0, 32, .L, .RO, 0, .const, false, .LSH, 0, 4294967295⟩

-- R322 (spec/10_translation.md)
def R.XLT_CTRL_CLEAR_STATS : Fld := ⟨0x400000, [], 31, 1, .L, .WO, 0, .const, false, .XLT, 0, 1⟩
def R.XLT_CTRL_MAX_WALK : Fld := ⟨0x400000, [], 0, 6, .T, .RW, 8, .const, false, .XLT, 1, 63⟩
def R.XLT_EVENT_DRAIN_CUT : Fld := ⟨0x400004, [], 0, 1, .L, .W1C, 0, .const, false, .XLT, 0, 1⟩
def R.XLT_CFG_ERR_CFG_ERR : Fld := ⟨0x400008, [], 31, 1, .L, .W1C, 0, .const, false, .XLT, 0, 1⟩
def R.XLT_CFG_ERR_MULTI : Fld := ⟨0x400008, [], 30, 1, .L, .W1C, 0, .const, false, .XLT, 0, 1⟩
def R.XLT_CFG_ERR_OFFSET : Fld := ⟨0x400008, [], 0, 26, .L, .RO, 0, .const, false, .XLT, 0, 67108863⟩
def R.XLT_DTLB_HITS : Fld := ⟨0x400010, [], 0, 64, .L, .RO, 0, .const, false, .XLT, 0, 18446744073709551615⟩
def R.XLT_DTLB_MISSES : Fld := ⟨0x400018, [], 0, 64, .L, .RO, 0, .const, false, .XLT, 0, 18446744073709551615⟩
def R.XLT_WALK_READS : Fld := ⟨0x400020, [], 0, 64, .L, .RO, 0, .const, false, .XLT, 0, 18446744073709551615⟩
def R.XLT_INVALS : Fld := ⟨0x400028, [], 0, 64, .L, .RO, 0, .const, false, .XLT, 0, 18446744073709551615⟩
def R.XLT_CUT : Fld := ⟨0x400030, [], 0, 64, .L, .RO, 0, .const, false, .XLT, 0, 18446744073709551615⟩
def R.XLT_ATS_CTRL_ATS_MAX : Fld := ⟨0x440000, [], 0, 9, .T, .RW, 0x100, .const, true, .XLT, 1, 256⟩
def R.XLT_ATS_STATUS_ATS_OUT : Fld := ⟨0x440004, [], 16, 9, .L, .RO, 0, .const, true, .XLT, 0, 511⟩
def R.XLT_ATS_STATUS_PRG_OUT : Fld := ⟨0x440004, [], 0, 9, .L, .RO, 0, .const, true, .XLT, 0, 511⟩
def R.XLT_ATS_REQS : Fld := ⟨0x440010, [], 0, 64, .L, .RO, 0, .const, true, .XLT, 0, 18446744073709551615⟩
def R.XLT_PRI_REQS : Fld := ⟨0x440018, [], 0, 64, .L, .RO, 0, .const, true, .XLT, 0, 18446744073709551615⟩
def R.XLT_PRI_LATE : Fld := ⟨0x440020, [], 0, 32, .L, .RO, 0, .const, true, .XLT, 0, 4294967295⟩
def R.XLT_ATS_INV : Fld := ⟨0x440024, [], 0, 32, .L, .RO, 0, .const, true, .XLT, 0, 4294967295⟩
def R.XLT_P_FAULT_VA : Fld := ⟨0x2400000, [(64, 0x10000)], 0, 64, .L, .RO, 0, .const, true, .XLT_P, 0, 18446744073709551615⟩
def R.XLT_P_FAULT_INFO_VALID : Fld := ⟨0x2400008, [(64, 0x10000)], 31, 1, .L, .W1C, 0, .const, true, .XLT_P, 0, 1⟩
def R.XLT_P_FAULT_INFO_KIND : Fld := ⟨0x2400008, [(64, 0x10000)], 8, 4, .L, .RO, 0, .const, true, .XLT_P, 0, 15⟩
def R.XLT_P_FAULT_INFO_CONTEXT : Fld := ⟨0x2400008, [(64, 0x10000)], 0, 4, .L, .RO, 0, .const, true, .XLT_P, 0, 15⟩
def R.XLT_P_CFG_ERR_CFG_ERR : Fld := ⟨0x240000C, [(64, 0x10000)], 31, 1, .L, .W1C, 0, .const, true, .XLT_P, 0, 1⟩
def R.XLT_P_CFG_ERR_MULTI : Fld := ⟨0x240000C, [(64, 0x10000)], 30, 1, .L, .W1C, 0, .const, true, .XLT_P, 0, 1⟩
def R.XLT_P_CFG_ERR_OFFSET : Fld := ⟨0x240000C, [(64, 0x10000)], 0, 26, .L, .RO, 0, .const, true, .XLT_P, 0, 67108863⟩
def R.XLT_CTX_CFG_ENABLE : Fld := ⟨0x2400100, [(64, 0x10000), (16, 0x20)], 31, 1, .Q, .RW, 0, .const, true, .XLT_P, 0, 1⟩
def R.XLT_CTX_CFG_HOST : Fld := ⟨0x2400100, [(64, 0x10000), (16, 0x20)], 30, 1, .Q, .RW, 0, .const, true, .XLT_P, 0, 1⟩
def R.XLT_CTX_CFG_PASID : Fld := ⟨0x2400100, [(64, 0x10000), (16, 0x20)], 0, 20, .Q, .RW, 0, .const, true, .XLT_P, 0, 1048575⟩
def R.XLT_CTX_ROOT_ROOT : Fld := ⟨0x2400108, [(64, 0x10000), (16, 0x20)], 11, 33, .Q, .RW, 0, .const, true, .XLT_P, 0, 8589934591⟩
def R.XLT_CTX_EPOCH_DRAINS : Fld := ⟨0x2400110, [(64, 0x10000), (16, 0x20)], 8, 4, .L, .RO, 0, .const, true, .XLT_P, 0, 15⟩
def R.XLT_CTX_EPOCH_EPOCH : Fld := ⟨0x2400110, [(64, 0x10000), (16, 0x20)], 0, 4, .L, .RO, 0, .const, true, .XLT_P, 0, 15⟩
def R.XLT_CTX_FAULTS : Fld := ⟨0x2400118, [(64, 0x10000), (16, 0x20)], 0, 64, .L, .RO, 0, .const, true, .XLT_P, 0, 18446744073709551615⟩

-- R354 (spec/11_fabric_coherence.md)
def R.FLL_CTRL_CLEAR_STATS : Fld := ⟨0x480000, [], 31, 1, .L, .WO, 0, .const, false, .FLL, 0, 1⟩
def R.FLL_EVENT_SLOT_REJECT : Fld := ⟨0x480004, [], 1, 1, .L, .W1C, 0, .const, false, .FLL, 0, 1⟩
def R.FLL_EVENT_PARITY : Fld := ⟨0x480004, [], 0, 1, .L, .W1C, 0, .const, false, .FLL, 0, 1⟩
def R.FLL_CFG_ERR_CFG_ERR : Fld := ⟨0x480008, [], 31, 1, .L, .W1C, 0, .const, false, .FLL, 0, 1⟩
def R.FLL_CFG_ERR_MULTI : Fld := ⟨0x480008, [], 30, 1, .L, .W1C, 0, .const, false, .FLL, 0, 1⟩
def R.FLL_CFG_ERR_OFFSET : Fld := ⟨0x480008, [], 0, 26, .L, .RO, 0, .const, false, .FLL, 0, 67108863⟩
def R.FLL_DISCARDS : Fld := ⟨0x480010, [], 0, 64, .L, .RO, 0, .const, false, .FLL, 0, 18446744073709551615⟩
def R.FLL_SLOT_CHECK_REJECT : Fld := ⟨0x480018, [], 31, 1, .L, .W1C, 0, .const, false, .FLL, 0, 1⟩
def R.FLL_SLOT_CHECK_REASON : Fld := ⟨0x480018, [], 28, 3, .L, .RO, 0, .const, false, .FLL, 0, 7⟩
def R.FLL_SLOT_CHECK_SLOT : Fld := ⟨0x480018, [], 22, 6, .L, .RO, 0, .const, false, .FLL, 0, 63⟩
def R.FLL_SLOT_CHECK_DIE : Fld := ⟨0x480018, [], 20, 2, .L, .RO, 0, .const, false, .FLL, 0, 3⟩
def R.FLL_SLOT_CHECK_MPORT : Fld := ⟨0x480018, [], 12, 8, .L, .RO, 0, .const, false, .FLL, 0, 255⟩
def R.FLL_SLOT_CHECK_MEMPORT : Fld := ⟨0x480018, [], 7, 5, .L, .RO, 0, .const, false, .FLL, 0, 31⟩
def R.FLL_SLOT_CHECK_DIR : Fld := ⟨0x480018, [], 6, 1, .L, .RO, 0, .const, false, .FLL, 0, 1⟩
def R.FLL_CW_FLITS : Fld := ⟨0x480100, [], 0, 64, .L, .RO, 0, .const, false, .FLL, 0, 18446744073709551615⟩
def R.FLL_CW_SLOTTED : Fld := ⟨0x480108, [], 0, 64, .L, .RO, 0, .const, false, .FLL, 0, 18446744073709551615⟩
def R.FLL_CCW_FLITS : Fld := ⟨0x480110, [], 0, 64, .L, .RO, 0, .const, false, .FLL, 0, 18446744073709551615⟩
def R.FLL_CCW_SLOTTED : Fld := ⟨0x480118, [], 0, 64, .L, .RO, 0, .const, false, .FLL, 0, 18446744073709551615⟩
def R.FLL_M_SLOTS : Fld := ⟨0x481000, [(137, 0x20)], 0, 64, .T, .RW, 0, .const, false, .FLL, 0, 18446744073709551615⟩
def R.FLL_M_SLOT_CFG_FLITS : Fld := ⟨0x481008, [(137, 0x20)], 24, 8, .T, .RW, 0, .const, false, .FLL, 0, 255⟩
def R.FLL_M_SLOT_CFG_MODE : Fld := ⟨0x481008, [(137, 0x20)], 8, 2, .T, .RW, 0, .const, false, .FLL, 0, 3⟩
def R.FLL_M_SLOT_CFG_TARGET : Fld := ⟨0x481008, [(137, 0x20)], 0, 4, .T, .RW, 0, .const, false, .FLL, 0, 15⟩
def R.FLL_M_SLOTTED : Fld := ⟨0x481010, [(137, 0x20)], 0, 64, .L, .RO, 0, .const, false, .FLL, 0, 18446744073709551615⟩
def R.FLL_M_STALL : Fld := ⟨0x481018, [(137, 0x20)], 0, 64, .L, .RO, 0, .const, false, .FLL, 0, 18446744073709551615⟩

-- R355 (spec/11_fabric_coherence.md)
def R.COH_CTRL_CLEAR_STATS : Fld := ⟨0x4C0000, [], 31, 1, .L, .WO, 0, .const, false, .COH, 0, 1⟩
def R.COH_STATUS_ISLAND : Fld := ⟨0x4C0004, [], 30, 2, .L, .RO, 0, .const, false, .COH, 0, 3⟩
def R.COH_STATUS_STATE : Fld := ⟨0x4C0004, [], 28, 2, .L, .RO, 0, .const, false, .COH, 0, 3⟩
def R.COH_EVENT_PROTOCOL : Fld := ⟨0x4C0008, [], 1, 1, .L, .W1C, 0, .const, false, .COH, 0, 1⟩
def R.COH_EVENT_SNOOP_TIMEOUT : Fld := ⟨0x4C0008, [], 0, 1, .L, .W1C, 0, .const, false, .COH, 0, 1⟩
def R.COH_CFG_ERR_CFG_ERR : Fld := ⟨0x4C000C, [], 31, 1, .L, .W1C, 0, .const, false, .COH, 0, 1⟩
def R.COH_CFG_ERR_MULTI : Fld := ⟨0x4C000C, [], 30, 1, .L, .W1C, 0, .const, false, .COH, 0, 1⟩
def R.COH_CFG_ERR_OFFSET : Fld := ⟨0x4C000C, [], 0, 26, .L, .RO, 0, .const, false, .COH, 0, 67108863⟩
def R.COH_DOWN_CAUSE_CAUSE : Fld := ⟨0x4C0010, [], 28, 4, .L, .RO, 0, .const, false, .COH, 0, 15⟩
def R.COH_DOWN_CAUSE_NODE : Fld := ⟨0x4C0010, [], 16, 12, .L, .RO, 0, .const, false, .COH, 0, 4095⟩
def R.COH_DOWN_LINE_LINE : Fld := ⟨0x4C0018, [], 0, 38, .L, .RO, 0, .const, false, .COH, 0, 274877906943⟩
def R.COH_DIR_USED : Fld := ⟨0x4C0020, [], 0, 32, .L, .RO, 0, .const, false, .COH, 0, 4294967295⟩
def R.COH_DIR_EVICTS : Fld := ⟨0x4C0028, [], 0, 64, .L, .RO, 0, .const, false, .COH, 0, 18446744073709551615⟩
def R.COH_SNOOPS : Fld := ⟨0x4C0030, [], 0, 64, .L, .RO, 0, .const, false, .COH, 0, 18446744073709551615⟩
def R.COH_PUSH_ACK : Fld := ⟨0x4C0038, [], 0, 64, .L, .RO, 0, .const, false, .COH, 0, 18446744073709551615⟩
def R.COH_PUSH_DROP : Fld := ⟨0x4C0040, [], 0, 64, .L, .RO, 0, .const, false, .COH, 0, 18446744073709551615⟩
def R.COH_NOT_ISLAND : Fld := ⟨0x4C0048, [], 0, 64, .L, .RO, 0, .const, false, .COH, 0, 18446744073709551615⟩
def R.COH_LOST_OWNED : Fld := ⟨0x4C0050, [], 0, 32, .L, .RO, 0, .const, false, .COH, 0, 4294967295⟩
def R.COH_ISL_CFG_SNOOP_TIMEOUT : Fld := ⟨0x4E0000, [], 0, 10, .T, .RW, 0x32, .const, true, .COH, 1, 1000⟩
def R.COH_ISL_STATE_STATE : Fld := ⟨0x4E0010, [(4, 0x10)], 28, 4, .L, .RO, 0, .const, true, .COH, 0, 15⟩
def R.COH_ISL_STATE_DIES : Fld := ⟨0x4E0010, [(4, 0x10)], 24, 4, .L, .RO, 0xF, .entry0, true, .COH, 0, 15⟩
def R.COH_ISL_STATE_RESET_DIES : Fld := ⟨0x4E0010, [(4, 0x10)], 20, 4, .L, .RO, 0, .const, true, .COH, 0, 15⟩
def R.COH_ISL_STATE_CAUSE : Fld := ⟨0x4E0010, [(4, 0x10)], 16, 4, .L, .RO, 0, .const, true, .COH, 0, 15⟩
def R.COH_ISL_STATE_DOWN_COUNT : Fld := ⟨0x4E0010, [(4, 0x10)], 0, 16, .L, .RO, 0, .const, true, .COH, 0, 65535⟩
def R.COH_ISL_CTRL_FORCE_DOWN : Fld := ⟨0x4E0014, [(4, 0x10)], 1, 1, .L, .WO, 0, .const, true, .COH, 0, 1⟩
def R.COH_ISL_CTRL_REINIT : Fld := ⟨0x4E0014, [(4, 0x10)], 0, 1, .L, .WO, 0, .const, true, .COH, 0, 1⟩

-- R388 (spec/12_bays.md)
def R.BAY_STATUS_STATE : Fld := ⟨0x500000, [(2, 0x1000)], 28, 4, .L, .RO, 0, .const, false, .BAY, 0, 15⟩
def R.BAY_STATUS_HEEL_CAUSE : Fld := ⟨0x500000, [(2, 0x1000)], 24, 4, .L, .RO, 0, .const, false, .BAY, 0, 15⟩
def R.BAY_STATUS_PROTO : Fld := ⟨0x500000, [(2, 0x1000)], 22, 2, .L, .RO, 0, .const, false, .BAY, 0, 3⟩
def R.BAY_STATUS_RATE2 : Fld := ⟨0x500000, [(2, 0x1000)], 21, 1, .L, .RO, 0, .const, false, .BAY, 0, 1⟩
def R.BAY_STATUS_HALF : Fld := ⟨0x500000, [(2, 0x1000)], 20, 1, .L, .RO, 0, .const, false, .BAY, 0, 1⟩
def R.BAY_STATUS_UNCERT : Fld := ⟨0x500000, [(2, 0x1000)], 19, 1, .L, .RO, 0, .const, false, .BAY, 0, 1⟩
def R.BAY_STATUS_BGEN : Fld := ⟨0x500000, [(2, 0x1000)], 8, 8, .L, .RO, 0, .const, false, .BAY, 0, 255⟩
def R.BAY_STATUS_REFUSE : Fld := ⟨0x500000, [(2, 0x1000)], 0, 8, .L, .RO, 0, .const, false, .BAY, 0, 255⟩
def R.BAY_CFG_FORCE_CXL : Fld := ⟨0x500004, [(2, 0x1000)], 2, 1, .Q, .RW, 0, .const, false, .BAY, 0, 1⟩
def R.BAY_CFG_HALF : Fld := ⟨0x500004, [(2, 0x1000)], 1, 1, .Q, .RW, 0, .const, false, .BAY, 0, 1⟩
def R.BAY_CFG_RATE_2 : Fld := ⟨0x500004, [(2, 0x1000)], 0, 1, .Q, .RW, 0, .const, false, .BAY, 0, 1⟩
def R.BAY_CTRL_CLEAR_STATS : Fld := ⟨0x500008, [(2, 0x1000)], 31, 1, .L, .WO, 0, .const, false, .BAY, 0, 1⟩
def R.BAY_CTRL_FORCE_HEEL : Fld := ⟨0x500008, [(2, 0x1000)], 1, 1, .L, .WO, 0, .const, false, .BAY, 0, 1⟩
def R.BAY_CTRL_READMIT : Fld := ⟨0x500008, [(2, 0x1000)], 0, 1, .L, .WO, 0, .const, false, .BAY, 0, 1⟩
def R.BAY_EVENT_ABORT_TIMEOUT : Fld := ⟨0x50000C, [(2, 0x1000)], 6, 1, .L, .W1C, 0, .const, false, .BAY, 0, 1⟩
def R.BAY_EVENT_POWER : Fld := ⟨0x50000C, [(2, 0x1000)], 5, 1, .L, .W1C, 0, .const, false, .BAY, 0, 1⟩
def R.BAY_EVENT_THERMAL : Fld := ⟨0x50000C, [(2, 0x1000)], 4, 1, .L, .W1C, 0, .const, false, .BAY, 0, 1⟩
def R.BAY_EVENT_HEEL : Fld := ⟨0x50000C, [(2, 0x1000)], 3, 1, .L, .W1C, 0, .const, false, .BAY, 0, 1⟩
def R.BAY_EVENT_DEGRADE : Fld := ⟨0x50000C, [(2, 0x1000)], 2, 1, .L, .W1C, 0, .const, false, .BAY, 0, 1⟩
def R.BAY_EVENT_REPAIR : Fld := ⟨0x50000C, [(2, 0x1000)], 1, 1, .L, .W1C, 0, .const, false, .BAY, 0, 1⟩
def R.BAY_EVENT_REFUSED : Fld := ⟨0x50000C, [(2, 0x1000)], 0, 1, .L, .W1C, 0, .const, false, .BAY, 0, 1⟩
def R.BAY_CFG_ERR_CFG_ERR : Fld := ⟨0x500010, [(2, 0x1000)], 31, 1, .L, .W1C, 0, .const, false, .BAY, 0, 1⟩
def R.BAY_CFG_ERR_MULTI : Fld := ⟨0x500010, [(2, 0x1000)], 30, 1, .L, .W1C, 0, .const, false, .BAY, 0, 1⟩
def R.BAY_CFG_ERR_OFFSET : Fld := ⟨0x500010, [(2, 0x1000)], 0, 26, .L, .RO, 0, .const, false, .BAY, 0, 67108863⟩
def R.BAY_IDENT_VENDOR : Fld := ⟨0x500014, [(2, 0x1000)], 16, 16, .L, .RO, 0, .const, false, .BAY, 0, 65535⟩
def R.BAY_IDENT_PART : Fld := ⟨0x500014, [(2, 0x1000)], 0, 16, .L, .RO, 0, .const, false, .BAY, 0, 65535⟩
def R.BAY_CLASS_SLOT : Fld := ⟨0x500018, [(2, 0x1000)], 8, 8, .L, .RO, 0, .const, false, .BAY, 0, 255⟩
def R.BAY_CLASS_CLASS : Fld := ⟨0x500018, [(2, 0x1000)], 0, 4, .L, .RO, 0, .const, false, .BAY, 0, 15⟩
def R.BAY_LANES_TX_GROUPS : Fld := ⟨0x50001C, [(2, 0x1000)], 24, 8, .L, .RO, 0, .const, false, .BAY, 0, 255⟩
def R.BAY_LANES_RX_GROUPS : Fld := ⟨0x50001C, [(2, 0x1000)], 16, 8, .L, .RO, 0, .const, false, .BAY, 0, 255⟩
def R.BAY_LANES_SPARES : Fld := ⟨0x50001C, [(2, 0x1000)], 0, 10, .L, .RO, 0, .const, false, .BAY, 0, 1023⟩
def R.BAY_TEMP_TEMP : Fld := ⟨0x500020, [(2, 0x1000)], 24, 8, .L, .RO, 0, .const, false, .BAY, 0, 255⟩
def R.BAY_TEMP_POWER : Fld := ⟨0x500020, [(2, 0x1000)], 0, 16, .L, .RO, 0, .const, false, .BAY, 0, 65535⟩
def R.BAY_PLIMIT : Fld := ⟨0x500024, [(2, 0x1000)], 0, 8, .T, .RW, 0x96, .const, false, .BAY, 0, 255⟩
def R.BAY_GRANT : Fld := ⟨0x500028, [(2, 0x1000)], 0, 64, .T, .RW, 0, .const, false, .BAY, 0, 18446744073709551615⟩
def R.BAY_REPAIRS : Fld := ⟨0x500030, [(2, 0x1000)], 0, 32, .L, .RO, 0, .const, false, .BAY, 0, 4294967295⟩
def R.BAY_REPLAYS : Fld := ⟨0x500034, [(2, 0x1000)], 0, 32, .L, .RO, 0, .const, false, .BAY, 0, 4294967295⟩
def R.BAY_DENIED : Fld := ⟨0x500038, [(2, 0x1000)], 0, 32, .L, .RO, 0, .const, false, .BAY, 0, 4294967295⟩
def R.BAY_DIGEST : Fld := ⟨0x500040, [(2, 0x1000), (8, 0x4)], 0, 32, .L, .RO, 0, .const, false, .BAY, 0, 4294967295⟩
def R.BAY_WQ_OWNER : Fld := ⟨0x500400, [(2, 0x1000), (64, 0x4)], 0, 8, .Q, .RW, 0xFF, .const, false, .BAY, 0, 255⟩

-- R390 (spec/12_bays.md)
def R.BAY_P_CFG_ERR_CFG_ERR : Fld := ⟨0x2800000, [(64, 0x10000)], 31, 1, .L, .W1C, 0, .const, true, .BAY_P, 0, 1⟩
def R.BAY_P_CFG_ERR_MULTI : Fld := ⟨0x2800000, [(64, 0x10000)], 30, 1, .L, .W1C, 0, .const, true, .BAY_P, 0, 1⟩
def R.BAY_P_CFG_ERR_OFFSET : Fld := ⟨0x2800000, [(64, 0x10000)], 0, 26, .L, .RO, 0, .const, true, .BAY_P, 0, 67108863⟩
def R.BAY_Q_DB_LO_ADDR : Fld := ⟨0x2801000, [(64, 0x10000), (16, 0x40)], 4, 28, .Q, .RW, 0, .const, true, .BAY_P, 0, 268435455⟩
def R.BAY_Q_DB_LO_LOC : Fld := ⟨0x2801000, [(64, 0x10000), (16, 0x40)], 0, 1, .Q, .RW, 0, .const, true, .BAY_P, 0, 1⟩
def R.BAY_Q_DB_HI : Fld := ⟨0x2801004, [(64, 0x10000), (16, 0x40)], 0, 32, .Q, .RW, 0, .const, true, .BAY_P, 0, 4294967295⟩
def R.BAY_Q_STAT_LO_ADDR : Fld := ⟨0x2801008, [(64, 0x10000), (16, 0x40)], 4, 28, .Q, .RW, 0, .const, true, .BAY_P, 0, 268435455⟩
def R.BAY_Q_STAT_LO_LOC : Fld := ⟨0x2801008, [(64, 0x10000), (16, 0x40)], 0, 1, .Q, .RW, 0, .const, true, .BAY_P, 0, 1⟩
def R.BAY_Q_STAT_HI : Fld := ⟨0x280100C, [(64, 0x10000), (16, 0x40)], 0, 32, .Q, .RW, 0, .const, true, .BAY_P, 0, 4294967295⟩
def R.BAY_Q_RING_LO_ADDR : Fld := ⟨0x2801010, [(64, 0x10000), (16, 0x40)], 6, 26, .Q, .RW, 0, .const, true, .BAY_P, 0, 67108863⟩
def R.BAY_Q_RING_LO_LOC : Fld := ⟨0x2801010, [(64, 0x10000), (16, 0x40)], 0, 1, .Q, .RW, 0, .const, true, .BAY_P, 0, 1⟩
def R.BAY_Q_RING_HI : Fld := ⟨0x2801014, [(64, 0x10000), (16, 0x40)], 0, 32, .Q, .RW, 0, .const, true, .BAY_P, 0, 4294967295⟩
def R.BAY_Q_CPL_LO_ADDR : Fld := ⟨0x2801018, [(64, 0x10000), (16, 0x40)], 6, 26, .Q, .RW, 0, .const, true, .BAY_P, 0, 67108863⟩
def R.BAY_Q_CPL_HI : Fld := ⟨0x280101C, [(64, 0x10000), (16, 0x40)], 0, 32, .Q, .RW, 0, .const, true, .BAY_P, 0, 4294967295⟩
def R.BAY_Q_CFG_ENABLE : Fld := ⟨0x2801020, [(64, 0x10000), (16, 0x40)], 31, 1, .Q, .RW, 0, .const, true, .BAY_P, 0, 1⟩
def R.BAY_Q_CFG_IRQ_ALL : Fld := ⟨0x2801020, [(64, 0x10000), (16, 0x40)], 30, 1, .Q, .RW, 0, .const, true, .BAY_P, 0, 1⟩
def R.BAY_Q_CFG_CONTEXT : Fld := ⟨0x2801020, [(64, 0x10000), (16, 0x40)], 24, 4, .Q, .RW, 0, .const, true, .BAY_P, 0, 15⟩
def R.BAY_Q_CFG_SIZE_LOG2 : Fld := ⟨0x2801020, [(64, 0x10000), (16, 0x40)], 16, 5, .Q, .RW, 6, .const, true, .BAY_P, 6, 16⟩
def R.BAY_Q_CFG_INT_BAY : Fld := ⟨0x2801020, [(64, 0x10000), (16, 0x40)], 15, 1, .Q, .RW, 0, .const, true, .BAY_P, 0, 1⟩
def R.BAY_Q_CFG_BAY : Fld := ⟨0x2801020, [(64, 0x10000), (16, 0x40)], 12, 3, .Q, .RW, 0, .const, true, .BAY_P, 0, 7⟩
def R.BAY_Q_CFG_VECTOR : Fld := ⟨0x2801020, [(64, 0x10000), (16, 0x40)], 0, 5, .Q, .RW, 0, .const, true, .BAY_P, 0, 30⟩
def R.BAY_Q_BIND_BAY : Fld := ⟨0x2801024, [(64, 0x10000), (16, 0x40)], 8, 3, .Q, .RW, 0, .const, true, .BAY_P, 0, 7⟩
def R.BAY_Q_BIND_WQ : Fld := ⟨0x2801024, [(64, 0x10000), (16, 0x40)], 0, 6, .Q, .RW, 0, .const, true, .BAY_P, 0, 63⟩
def R.BAY_Q_LIMIT_FETCH_MAX : Fld := ⟨0x2801028, [(64, 0x10000), (16, 0x40)], 0, 7, .Q, .RW, 1, .const, true, .BAY_P, 1, 64⟩
def R.BAY_Q_STATE_STATE : Fld := ⟨0x280102C, [(64, 0x10000), (16, 0x40)], 28, 4, .L, .RO, 0, .const, true, .BAY_P, 0, 15⟩
def R.BAY_Q_STATE_REASON : Fld := ⟨0x280102C, [(64, 0x10000), (16, 0x40)], 24, 4, .L, .RO, 0, .const, true, .BAY_P, 0, 15⟩
def R.BAY_Q_STATE_IN_FLIGHT : Fld := ⟨0x280102C, [(64, 0x10000), (16, 0x40)], 0, 7, .L, .RO, 0, .const, true, .BAY_P, 0, 127⟩
def R.BAY_Q_CTRL_RESET : Fld := ⟨0x2801030, [(64, 0x10000), (16, 0x40)], 1, 1, .L, .WO, 0, .const, true, .BAY_P, 0, 1⟩
def R.BAY_Q_CTRL_STOP : Fld := ⟨0x2801030, [(64, 0x10000), (16, 0x40)], 0, 1, .L, .WO, 0, .const, true, .BAY_P, 0, 1⟩
def R.BAY_Q_HEAD : Fld := ⟨0x2801034, [(64, 0x10000), (16, 0x40)], 0, 32, .L, .RO, 0, .const, true, .BAY_P, 0, 4294967295⟩
def R.BAY_Q_DONE : Fld := ⟨0x2801038, [(64, 0x10000), (16, 0x40)], 0, 32, .L, .RO, 0, .const, true, .BAY_P, 0, 4294967295⟩
def R.BAY_Q_ABORTS : Fld := ⟨0x280103C, [(64, 0x10000), (16, 0x40)], 0, 32, .L, .RO, 0, .const, true, .BAY_P, 0, 4294967295⟩

-- R428 (spec/13_links_scaleout.md)
def R.DDL_STATUS_STATE : Fld := ⟨0x540000, [(2, 0x100)], 28, 4, .L, .RO, 0, .const, false, .DDL, 0, 15⟩
def R.DDL_STATUS_LINK_GEN : Fld := ⟨0x540000, [(2, 0x100)], 8, 8, .L, .RO, 0, .const, false, .DDL, 0, 255⟩
def R.DDL_CTRL_CLEAR_STATS : Fld := ⟨0x540004, [(2, 0x100)], 31, 1, .L, .WO, 0, .const, false, .DDL, 0, 1⟩
def R.DDL_EVENT_HEEL : Fld := ⟨0x540008, [(2, 0x100)], 3, 1, .L, .W1C, 0, .const, false, .DDL, 0, 1⟩
def R.DDL_EVENT_SCALED : Fld := ⟨0x540008, [(2, 0x100)], 2, 1, .L, .W1C, 0, .const, false, .DDL, 0, 1⟩
def R.DDL_EVENT_DEGRADE : Fld := ⟨0x540008, [(2, 0x100)], 1, 1, .L, .W1C, 0, .const, false, .DDL, 0, 1⟩
def R.DDL_EVENT_REPAIR : Fld := ⟨0x540008, [(2, 0x100)], 0, 1, .L, .W1C, 0, .const, false, .DDL, 0, 1⟩
def R.DDL_TX_MODS : Fld := ⟨0x54000C, [(2, 0x100)], 0, 32, .L, .RO, 0, .const, false, .DDL, 0, 4294967295⟩
def R.DDL_RX_MODS : Fld := ⟨0x540010, [(2, 0x100)], 0, 32, .L, .RO, 0, .const, false, .DDL, 0, 4294967295⟩
def R.DDL_CAP_C_ADM_TX : Fld := ⟨0x540014, [(2, 0x100)], 16, 16, .L, .RO, 0x20, .const, false, .DDL, 0, 65535⟩
def R.DDL_CAP_C_TX : Fld := ⟨0x540014, [(2, 0x100)], 0, 16, .L, .RO, 0x20, .const, false, .DDL, 0, 65535⟩
def R.DDL_LATENCY : Fld := ⟨0x540018, [(2, 0x100)], 0, 16, .L, .RO, 0x50, .const, false, .DDL, 0, 65535⟩
def R.DDL_REPLAYS : Fld := ⟨0x540020, [(2, 0x100)], 0, 64, .L, .RO, 0, .const, false, .DDL, 0, 18446744073709551615⟩
def R.DDL_CRC_ERR : Fld := ⟨0x540028, [(2, 0x100)], 0, 64, .L, .RO, 0, .const, false, .DDL, 0, 18446744073709551615⟩
def R.DDL_REPAIRS : Fld := ⟨0x540030, [(2, 0x100)], 0, 32, .L, .RO, 0, .const, false, .DDL, 0, 4294967295⟩
def R.DDL_CFG_ERR_CFG_ERR : Fld := ⟨0x540200, [], 31, 1, .L, .W1C, 0, .const, false, .DDL, 0, 1⟩
def R.DDL_CFG_ERR_MULTI : Fld := ⟨0x540200, [], 30, 1, .L, .W1C, 0, .const, false, .DDL, 0, 1⟩
def R.DDL_CFG_ERR_OFFSET : Fld := ⟨0x540200, [], 0, 26, .L, .RO, 0, .const, false, .DDL, 0, 67108863⟩

-- R430 (spec/13_links_scaleout.md)
def R.TOR_PORT_STATUS_STATE : Fld := ⟨0x580000, [(2, 0x100)], 28, 4, .L, .RO, 0, .const, false, .TOR, 0, 15⟩
def R.TOR_PORT_STATUS_HALF : Fld := ⟨0x580000, [(2, 0x100)], 27, 1, .L, .RO, 0, .const, false, .TOR, 0, 1⟩
def R.TOR_PORT_STATUS_PORT_GEN : Fld := ⟨0x580000, [(2, 0x100)], 0, 16, .L, .RO, 0, .const, false, .TOR, 0, 65535⟩
def R.TOR_PORT_CFG_ENABLE : Fld := ⟨0x580004, [(2, 0x100)], 31, 1, .Q, .RW, 0, .const, false, .TOR, 0, 1⟩
def R.TOR_PORT_CFG_MEDIUM : Fld := ⟨0x580004, [(2, 0x100)], 0, 2, .Q, .RW, 0, .const, false, .TOR, 0, 2⟩
def R.TOR_PORT_EVENT_DOWN : Fld := ⟨0x580008, [(2, 0x100)], 2, 1, .L, .W1C, 0, .const, false, .TOR, 0, 1⟩
def R.TOR_PORT_EVENT_RETRAIN : Fld := ⟨0x580008, [(2, 0x100)], 1, 1, .L, .W1C, 0, .const, false, .TOR, 0, 1⟩
def R.TOR_PORT_EVENT_HALF : Fld := ⟨0x580008, [(2, 0x100)], 0, 1, .L, .W1C, 0, .const, false, .TOR, 0, 1⟩
def R.TOR_FEC_CORR : Fld := ⟨0x580010, [(2, 0x100)], 0, 64, .L, .RO, 0, .const, false, .TOR, 0, 18446744073709551615⟩
def R.TOR_FEC_UNCORR : Fld := ⟨0x580018, [(2, 0x100)], 0, 64, .L, .RO, 0, .const, false, .TOR, 0, 18446744073709551615⟩
def R.TOR_NOROUTE : Fld := ⟨0x580020, [(2, 0x100)], 0, 32, .L, .RO, 0, .const, false, .TOR, 0, 4294967295⟩
def R.TOR_CFG_ERR_CFG_ERR : Fld := ⟨0x580400, [], 31, 1, .L, .W1C, 0, .const, false, .TOR, 0, 1⟩
def R.TOR_CFG_ERR_MULTI : Fld := ⟨0x580400, [], 30, 1, .L, .W1C, 0, .const, false, .TOR, 0, 1⟩
def R.TOR_CFG_ERR_OFFSET : Fld := ⟨0x580400, [], 0, 26, .L, .RO, 0, .const, false, .TOR, 0, 67108863⟩
def R.TOR_COORD : Fld := ⟨0x5A0000, [], 0, 14, .K, .RW, 0, .const, true, .TOR, 0, 16383⟩
def R.TOR_TIMEOUT : Fld := ⟨0x5A0004, [], 0, 16, .T, .RW, 0x3E8, .const, true, .TOR, 1, 65535⟩
def R.TOR_RED_VALID : Fld := ⟨0x5A0100, [(64, 0x4)], 31, 1, .Q, .RW, 0, .const, true, .TOR, 0, 1⟩
def R.TOR_RED_OP : Fld := ⟨0x5A0100, [(64, 0x4)], 28, 3, .Q, .RW, 0, .const, true, .TOR, 0, 7⟩
def R.TOR_RED_PARENT : Fld := ⟨0x5A0100, [(64, 0x4)], 24, 4, .Q, .RW, 0, .const, true, .TOR, 0, 15⟩
def R.TOR_RED_CHILDREN : Fld := ⟨0x5A0100, [(64, 0x4)], 16, 8, .Q, .RW, 0, .const, true, .TOR, 0, 255⟩
def R.TOR_RED_FMT : Fld := ⟨0x5A0100, [(64, 0x4)], 13, 3, .Q, .RW, 0, .const, true, .TOR, 0, 7⟩
def R.TOR_RED_PARTITION : Fld := ⟨0x5A0100, [(64, 0x4)], 0, 6, .Q, .RW, 0, .const, true, .TOR, 0, 63⟩
def R.TOR_S_CFG_ENABLE : Fld := ⟨0x5A1000, [(64, 0x40)], 31, 1, .Q, .RW, 0, .const, true, .TOR, 0, 1⟩
def R.TOR_S_CFG_SOURCE : Fld := ⟨0x5A1000, [(64, 0x40)], 16, 14, .Q, .RW, 0, .const, true, .TOR, 0, 16383⟩
def R.TOR_S_CFG_DEADLINE : Fld := ⟨0x5A1000, [(64, 0x40)], 12, 4, .Q, .RW, 1, .const, true, .TOR, 1, 15⟩
def R.TOR_S_CFG_SLOTS_LOG2 : Fld := ⟨0x5A1000, [(64, 0x40)], 8, 4, .Q, .RW, 2, .const, true, .TOR, 1, 12⟩
def R.TOR_S_CFG_CHUNK_LOG2 : Fld := ⟨0x5A1000, [(64, 0x40)], 4, 4, .Q, .RW, 0, .const, true, .TOR, 0, 14⟩
def R.TOR_S_CFG_CONTEXT : Fld := ⟨0x5A1000, [(64, 0x40)], 0, 4, .Q, .RW, 0, .const, true, .TOR, 0, 15⟩
def R.TOR_S_OWNER : Fld := ⟨0x5A1004, [(64, 0x40)], 0, 6, .Q, .RW, 0, .const, true, .TOR, 0, 63⟩
def R.TOR_S_RING : Fld := ⟨0x5A1008, [(64, 0x40)], 0, 48, .Q, .RW, 0, .const, true, .TOR, 0, 281474976710655⟩
def R.TOR_S_STATUS_RING : Fld := ⟨0x5A1010, [(64, 0x40)], 0, 48, .Q, .RW, 0, .const, true, .TOR, 0, 281474976710655⟩
def R.TOR_S_LATE : Fld := ⟨0x5A1018, [(64, 0x40)], 0, 32, .L, .RO, 0, .const, true, .TOR, 0, 4294967295⟩
def R.TOR_S_EARLY : Fld := ⟨0x5A101C, [(64, 0x40)], 0, 32, .L, .RO, 0, .const, true, .TOR, 0, 4294967295⟩
def R.TOR_S_BYTES : Fld := ⟨0x5A1020, [(64, 0x40)], 0, 64, .L, .RO, 0, .const, true, .TOR, 0, 18446744073709551615⟩

-- R431 (spec/13_links_scaleout.md)
def R.TOR_P_CFG_ERR_CFG_ERR : Fld := ⟨0x2C00000, [(64, 0x10000)], 31, 1, .L, .W1C, 0, .const, true, .TOR_P, 0, 1⟩
def R.TOR_P_CFG_ERR_MULTI : Fld := ⟨0x2C00000, [(64, 0x10000)], 30, 1, .L, .W1C, 0, .const, true, .TOR_P, 0, 1⟩
def R.TOR_P_CFG_ERR_OFFSET : Fld := ⟨0x2C00000, [(64, 0x10000)], 0, 26, .L, .RO, 0, .const, true, .TOR_P, 0, 67108863⟩
def R.TOR_P_ACCEPT_CTX_MASK : Fld := ⟨0x2C00004, [(64, 0x10000)], 16, 16, .T, .RW, 0, .const, true, .TOR_P, 0, 65535⟩
def R.TOR_P_ACCEPT_JOB : Fld := ⟨0x2C00004, [(64, 0x10000)], 0, 16, .T, .RW, 0, .const, true, .TOR_P, 0, 65535⟩
def R.TOR_Q_RING : Fld := ⟨0x2C01000, [(64, 0x10000), (8, 0x40)], 0, 48, .Q, .RW, 0, .const, true, .TOR_P, 0, 281474976710655⟩
def R.TOR_Q_CPL : Fld := ⟨0x2C01008, [(64, 0x10000), (8, 0x40)], 0, 48, .Q, .RW, 0, .const, true, .TOR_P, 0, 281474976710655⟩
def R.TOR_Q_TAIL : Fld := ⟨0x2C01010, [(64, 0x10000), (8, 0x40)], 0, 48, .Q, .RW, 0, .const, true, .TOR_P, 0, 281474976710655⟩
def R.TOR_Q_STAT : Fld := ⟨0x2C01018, [(64, 0x10000), (8, 0x40)], 0, 48, .Q, .RW, 0, .const, true, .TOR_P, 0, 281474976710655⟩
def R.TOR_Q_CFG_ENABLE : Fld := ⟨0x2C01020, [(64, 0x10000), (8, 0x40)], 31, 1, .Q, .RW, 0, .const, true, .TOR_P, 0, 1⟩
def R.TOR_Q_CFG_POLL_US : Fld := ⟨0x2C01020, [(64, 0x10000), (8, 0x40)], 24, 7, .Q, .RW, 1, .const, true, .TOR_P, 1, 127⟩
def R.TOR_Q_CFG_CONTEXT : Fld := ⟨0x2C01020, [(64, 0x10000), (8, 0x40)], 20, 4, .Q, .RW, 0, .const, true, .TOR_P, 0, 15⟩
def R.TOR_Q_CFG_SIZE : Fld := ⟨0x2C01020, [(64, 0x10000), (8, 0x40)], 16, 4, .Q, .RW, 0, .const, true, .TOR_P, 0, 10⟩
def R.TOR_Q_CFG_JOB : Fld := ⟨0x2C01020, [(64, 0x10000), (8, 0x40)], 0, 16, .Q, .RW, 0, .const, true, .TOR_P, 0, 65535⟩
def R.TOR_Q_DONE : Fld := ⟨0x2C01024, [(64, 0x10000), (8, 0x40)], 0, 32, .L, .RO, 0, .const, true, .TOR_P, 0, 4294967295⟩

-- R432 (spec/13_links_scaleout.md)
def R.KNL_CTRL_CLEAR_STATS : Fld := ⟨0x5C0000, [], 31, 1, .L, .WO, 0, .const, true, .KNL, 0, 1⟩
def R.KNL_CTRL_RESTORE : Fld := ⟨0x5C0000, [], 1, 1, .L, .WO, 0, .const, true, .KNL, 0, 1⟩
def R.KNL_CTRL_ENABLE : Fld := ⟨0x5C0000, [], 0, 1, .Q, .RW, 0, .const, true, .KNL, 0, 1⟩
def R.KNL_CFG_INTERVAL : Fld := ⟨0x5C0004, [], 0, 16, .T, .RW, 0x258, .const, true, .KNL, 1, 65535⟩
def R.KNL_STATUS_STATE : Fld := ⟨0x5C0008, [], 28, 4, .L, .RO, 0, .const, true, .KNL, 0, 15⟩
def R.KNL_STATUS_BUDDY_UP : Fld := ⟨0x5C0008, [], 27, 1, .L, .RO, 0, .const, true, .KNL, 0, 1⟩
def R.KNL_EVENT_MISMATCH : Fld := ⟨0x5C000C, [], 4, 1, .L, .W1C, 0, .const, true, .KNL, 0, 1⟩
def R.KNL_EVENT_RESTORED : Fld := ⟨0x5C000C, [], 3, 1, .L, .W1C, 0, .const, true, .KNL, 0, 1⟩
def R.KNL_EVENT_ABANDONED : Fld := ⟨0x5C000C, [], 2, 1, .L, .W1C, 0, .const, true, .KNL, 0, 1⟩
def R.KNL_EVENT_SKIPPED : Fld := ⟨0x5C000C, [], 1, 1, .L, .W1C, 0, .const, true, .KNL, 0, 1⟩
def R.KNL_EVENT_OVERFLOW : Fld := ⟨0x5C000C, [], 0, 1, .L, .W1C, 0, .const, true, .KNL, 0, 1⟩
def R.KNL_CFG_ERR_CFG_ERR : Fld := ⟨0x5C0010, [], 31, 1, .L, .W1C, 0, .const, true, .KNL, 0, 1⟩
def R.KNL_CFG_ERR_MULTI : Fld := ⟨0x5C0010, [], 30, 1, .L, .W1C, 0, .const, true, .KNL, 0, 1⟩
def R.KNL_CFG_ERR_OFFSET : Fld := ⟨0x5C0010, [], 0, 26, .L, .RO, 0, .const, true, .KNL, 0, 67108863⟩
def R.KNL_LAST : Fld := ⟨0x5C0018, [], 0, 64, .L, .RO, 0, .const, true, .KNL, 0, 18446744073709551615⟩
def R.KNL_STORE_BASE : Fld := ⟨0x5C0020, [], 16, 28, .Q, .RW, 0, .const, true, .KNL, 0, 268435455⟩
def R.KNL_STORE_SIZE : Fld := ⟨0x5C0028, [], 0, 32, .Q, .RW, 0, .const, true, .KNL, 0, 4294967295⟩
def R.KNL_LOG_SIZE : Fld := ⟨0x5C0030, [], 0, 32, .Q, .RW, 0, .const, true, .KNL, 0, 4294967295⟩
def R.KNL_STAGE_BASE : Fld := ⟨0x5C0038, [], 16, 28, .Q, .RW, 0, .const, true, .KNL, 0, 268435455⟩
def R.KNL_STAGE_SIZE : Fld := ⟨0x5C0040, [], 0, 32, .Q, .RW, 0, .const, true, .KNL, 0, 4294967295⟩
def R.KNL_SENT : Fld := ⟨0x5C0050, [], 0, 64, .L, .RO, 0, .const, true, .KNL, 0, 18446744073709551615⟩
def R.KNL_HELD : Fld := ⟨0x5C0058, [], 0, 64, .L, .RO, 0, .const, true, .KNL, 0, 18446744073709551615⟩
def R.KNL_REGION_VALID : Fld := ⟨0x5C0100, [(16, 0x10)], 63, 1, .Q, .RW, 0, .const, true, .KNL, 0, 1⟩
def R.KNL_REGION_BASE : Fld := ⟨0x5C0100, [(16, 0x10)], 16, 28, .Q, .RW, 0, .const, true, .KNL, 0, 268435455⟩
def R.KNL_REGION_SIZE : Fld := ⟨0x5C0108, [(16, 0x10)], 0, 23, .Q, .RW, 0, .const, true, .KNL, 0, 8388607⟩

-- R433 (spec/13_links_scaleout.md)
def R.SBR_STATUS_STATE : Fld := ⟨0x600000, [], 28, 4, .L, .RO, 0, .const, true, .SBR, 0, 15⟩
def R.SBR_STATUS_POSITION : Fld := ⟨0x600000, [], 8, 8, .L, .RO, 0, .const, true, .SBR, 0, 255⟩
def R.SBR_STATUS_RING_SIZE : Fld := ⟨0x600000, [], 0, 8, .L, .RO, 0, .const, true, .SBR, 0, 255⟩
def R.SBR_CTRL_CLEAR_STATS : Fld := ⟨0x600004, [], 31, 1, .L, .WO, 0, .const, true, .SBR, 0, 1⟩
def R.SBR_CTRL_LEAVE : Fld := ⟨0x600004, [], 0, 1, .L, .WO, 0, .const, true, .SBR, 0, 1⟩
def R.SBR_EVENT_RETRY_FAIL : Fld := ⟨0x600008, [], 3, 1, .L, .W1C, 0, .const, true, .SBR, 0, 1⟩
def R.SBR_EVENT_HOP_FAIL : Fld := ⟨0x600008, [], 2, 1, .L, .W1C, 0, .const, true, .SBR, 0, 1⟩
def R.SBR_EVENT_CRC : Fld := ⟨0x600008, [], 1, 1, .L, .W1C, 0, .const, true, .SBR, 0, 1⟩
def R.SBR_EVENT_RELOCK : Fld := ⟨0x600008, [], 0, 1, .L, .W1C, 0, .const, true, .SBR, 0, 1⟩
def R.SBR_HOP_DOWN : Fld := ⟨0x60000C, [], 0, 32, .L, .RO, 0, .const, true, .SBR, 0, 4294967295⟩
def R.SBR_FRAMES : Fld := ⟨0x600010, [], 0, 64, .L, .RO, 0, .const, true, .SBR, 0, 18446744073709551615⟩
def R.SBR_CRC_ERR : Fld := ⟨0x600018, [], 0, 64, .L, .RO, 0, .const, true, .SBR, 0, 18446744073709551615⟩
def R.SBR_CFG_ERR_CFG_ERR : Fld := ⟨0x600020, [], 31, 1, .L, .W1C, 0, .const, true, .SBR, 0, 1⟩
def R.SBR_CFG_ERR_MULTI : Fld := ⟨0x600020, [], 30, 1, .L, .W1C, 0, .const, true, .SBR, 0, 1⟩
def R.SBR_CFG_ERR_OFFSET : Fld := ⟨0x600020, [], 0, 26, .L, .RO, 0, .const, true, .SBR, 0, 67108863⟩

-- R463 (spec/14_host_interface.md)
def R.PCI_STATUS_READY : Fld := ⟨0x640000, [], 31, 1, .L, .RO, 0, .const, true, .PCI, 0, 1⟩
def R.PCI_STATUS_HEEL : Fld := ⟨0x640000, [], 30, 1, .L, .RO, 0, .const, true, .PCI, 0, 1⟩
def R.PCI_STATUS_SPEED : Fld := ⟨0x640000, [], 20, 4, .L, .RO, 0, .const, true, .PCI, 0, 15⟩
def R.PCI_STATUS_WIDTH : Fld := ⟨0x640000, [], 15, 5, .L, .RO, 0, .const, true, .PCI, 0, 31⟩
def R.PCI_STATUS_FLIT : Fld := ⟨0x640000, [], 14, 1, .L, .RO, 0, .const, true, .PCI, 0, 1⟩
def R.PCI_STATUS_LPOWER : Fld := ⟨0x640000, [], 12, 2, .L, .RO, 0, .const, true, .PCI, 0, 3⟩
def R.PCI_STATUS_DSTATE : Fld := ⟨0x640000, [], 6, 2, .L, .RO, 0, .const, true, .PCI, 0, 3⟩
def R.PCI_STATUS_D2_DEFERRED : Fld := ⟨0x640000, [], 5, 1, .L, .RO, 0, .const, true, .PCI, 0, 1⟩
def R.PCI_CTRL_CLEAR_STATS : Fld := ⟨0x640004, [], 31, 1, .L, .WO, 0, .const, true, .PCI, 0, 1⟩
def R.PCI_CTRL_L0P_AUTO : Fld := ⟨0x640004, [], 30, 1, .L, .RW, 0, .const, true, .PCI, 0, 1⟩
def R.PCI_CTRL_WAKE_SBR : Fld := ⟨0x640004, [], 29, 1, .L, .RW, 1, .const, true, .PCI, 0, 1⟩
def R.PCI_CTRL_WAKE_STREAM : Fld := ⟨0x640004, [], 28, 1, .L, .RW, 0, .const, true, .PCI, 0, 1⟩
def R.PCI_BAR2_BASE_BASE : Fld := ⟨0x640008, [], 0, 14, .L, .RW, 0, .const, true, .PCI, 0, 16383⟩
def R.PCI_CFG_ERR_CFG_ERR : Fld := ⟨0x64000C, [], 31, 1, .L, .W1C, 0, .const, true, .PCI, 0, 1⟩
def R.PCI_CFG_ERR_MULTI : Fld := ⟨0x64000C, [], 30, 1, .L, .W1C, 0, .const, true, .PCI, 0, 1⟩
def R.PCI_CFG_ERR_OFFSET : Fld := ⟨0x64000C, [], 0, 26, .L, .RO, 0, .const, true, .PCI, 0, 67108863⟩
def R.PCI_TAG_LIMIT_VF_TAGS : Fld := ⟨0x640010, [], 0, 13, .L, .RW, 0x200, .const, true, .PCI, 1, 3584⟩
def R.PCI_TAGS_OUT : Fld := ⟨0x640014, [], 0, 13, .L, .RO, 0, .const, true, .PCI, 0, 8191⟩
def R.PCI_LATE : Fld := ⟨0x640020, [], 0, 32, .L, .RO, 0, .const, true, .PCI, 0, 4294967295⟩
def R.PCI_DISCARDS : Fld := ⟨0x640024, [], 0, 32, .L, .RO, 0, .const, true, .PCI, 0, 4294967295⟩
def R.PCI_UNEXPECTED : Fld := ⟨0x640028, [], 0, 32, .L, .RO, 0, .const, true, .PCI, 0, 4294967295⟩
def R.PCI_BAR_ERR : Fld := ⟨0x64002C, [], 0, 32, .L, .RO, 0, .const, true, .PCI, 0, 4294967295⟩
def R.PCI_RD_BYTES : Fld := ⟨0x640030, [], 0, 64, .L, .RO, 0, .const, true, .PCI, 0, 18446744073709551615⟩
def R.PCI_WR_BYTES : Fld := ⟨0x640038, [], 0, 64, .L, .RO, 0, .const, true, .PCI, 0, 18446744073709551615⟩
def R.PCI_PF_PARTIRQ : Fld := ⟨0x640040, [], 0, 64, .L, .W1C, 0, .const, true, .PCI, 0, 18446744073709551615⟩
def R.PCI_FN_STATE_FLR_BUSY : Fld := ⟨0x640100, [(65, 0x4)], 17, 1, .L, .RO, 0, .const, true, .PCI, 0, 1⟩
def R.PCI_FN_STATE_BME : Fld := ⟨0x640100, [(65, 0x4)], 16, 1, .L, .RO, 0, .const, true, .PCI, 0, 1⟩
def R.PCI_FN_STATE_FGEN : Fld := ⟨0x640100, [(65, 0x4)], 0, 16, .L, .RO, 0, .const, true, .PCI, 0, 65535⟩
def R.PCI_MSIX_ADDR : Fld := ⟨0x648000, [(64, 0x10)], 0, 64, .L, .RW, 0, .const, true, .PCI, 0, 18446744073709551615⟩
def R.PCI_MSIX_DATA : Fld := ⟨0x648008, [(64, 0x10)], 0, 32, .L, .RW, 0, .const, true, .PCI, 0, 4294967295⟩
def R.PCI_MSIX_MASK : Fld := ⟨0x64800C, [(64, 0x10)], 0, 1, .L, .RW, 1, .const, true, .PCI, 0, 1⟩
def R.PCI_MSIX_PBA : Fld := ⟨0x649000, [], 0, 64, .L, .RO, 0, .const, true, .PCI, 0, 18446744073709551615⟩

-- R464 (spec/14_host_interface.md)
def R.PCI_VF_MSIX_ADDR : Fld := ⟨0x3000000, [(64, 0x10000), (31, 0x10)], 0, 64, .L, .RW, 0, .const, true, .PCI, 0, 18446744073709551615⟩
def R.PCI_VF_MSIX_DATA : Fld := ⟨0x3000008, [(64, 0x10000), (31, 0x10)], 0, 32, .L, .RW, 0, .const, true, .PCI, 0, 4294967295⟩
def R.PCI_VF_MSIX_MASK : Fld := ⟨0x300000C, [(64, 0x10000), (31, 0x10)], 0, 1, .L, .RW, 1, .const, true, .PCI, 0, 1⟩
def R.PCI_VF_MSIX_PBA : Fld := ⟨0x3000800, [(64, 0x10000)], 0, 31, .L, .RO, 0, .const, true, .PCI, 0, 2147483647⟩
def R.PCI_VF_STATUS_READY : Fld := ⟨0x3001000, [(64, 0x10000)], 17, 1, .L, .RO, 0, .const, true, .PCI, 0, 1⟩
def R.PCI_VF_STATUS_HEEL : Fld := ⟨0x3001000, [(64, 0x10000)], 16, 1, .L, .RO, 0, .const, true, .PCI, 0, 1⟩
def R.PCI_VF_STATUS_FGEN : Fld := ⟨0x3001000, [(64, 0x10000)], 0, 16, .L, .RO, 0, .const, true, .PCI, 0, 65535⟩
def R.PCI_VF_APT_ENABLE : Fld := ⟨0x3001008, [(64, 0x10000)], 31, 1, .L, .RW, 0, .const, true, .PCI, 0, 1⟩
def R.PCI_VF_APT_CONTEXT : Fld := ⟨0x3001008, [(64, 0x10000)], 17, 4, .L, .RW, 0, .const, true, .PCI, 0, 15⟩
def R.PCI_VF_APT_APT_BASE : Fld := ⟨0x3001008, [(64, 0x10000)], 0, 17, .L, .RW, 0, .const, true, .PCI, 0, 131071⟩
def R.PCI_VF_APT_FAULTS : Fld := ⟨0x3001010, [(64, 0x10000)], 0, 32, .L, .RO, 0, .const, true, .PCI, 0, 4294967295⟩

-- R465 (spec/14_host_interface.md)
def R.HEL_SUMMARY_HOST : Fld := ⟨0x680000, [], 20, 1, .L, .RO, 0, .const, true, .HEL, 0, 1⟩
def R.HEL_SUMMARY_EDGE : Fld := ⟨0x680000, [], 16, 4, .L, .RO, 0, .const, true, .HEL, 0, 15⟩
def R.HEL_SUMMARY_BAY : Fld := ⟨0x680000, [], 8, 8, .L, .RO, 0, .const, true, .HEL, 0, 255⟩
def R.HEL_SUMMARY_ISLAND : Fld := ⟨0x680000, [], 0, 4, .L, .RO, 0, .const, true, .HEL, 0, 15⟩
def R.HEL_HOST_STATUS_ACTIVE : Fld := ⟨0x680004, [], 31, 1, .L, .RO, 0, .const, true, .HEL, 0, 1⟩
def R.HEL_HOST_STATUS_REFUSED : Fld := ⟨0x680004, [], 5, 1, .L, .W1C, 0, .const, true, .HEL, 0, 1⟩
def R.HEL_HOST_STATUS_CAUSE : Fld := ⟨0x680004, [], 0, 5, .L, .W1C, 0, .const, true, .HEL, 0, 31⟩
def R.HEL_RELEASE_FORCE : Fld := ⟨0x680008, [], 1, 1, .L, .WO, 0, .const, true, .HEL, 0, 1⟩
def R.HEL_RELEASE_RELEASE : Fld := ⟨0x680008, [], 0, 1, .L, .WO, 0, .const, true, .HEL, 0, 1⟩
def R.HEL_CFG_ERR_CFG_ERR : Fld := ⟨0x68000C, [], 31, 1, .L, .W1C, 0, .const, true, .HEL, 0, 1⟩
def R.HEL_CFG_ERR_MULTI : Fld := ⟨0x68000C, [], 30, 1, .L, .W1C, 0, .const, true, .HEL, 0, 1⟩
def R.HEL_CFG_ERR_OFFSET : Fld := ⟨0x68000C, [], 0, 26, .L, .RO, 0, .const, true, .HEL, 0, 67108863⟩
def R.HEL_ENTRY_TICK : Fld := ⟨0x680010, [], 0, 64, .L, .RO, 0, .const, true, .HEL, 0, 18446744073709551615⟩
def R.HEL_HELD : Fld := ⟨0x680018, [], 0, 32, .L, .RO, 0, .const, true, .HEL, 0, 4294967295⟩
def R.HEL_FAILED : Fld := ⟨0x68001C, [], 0, 32, .L, .RO, 0, .const, true, .HEL, 0, 4294967295⟩
def R.HEL_DISCARDED : Fld := ⟨0x680020, [], 0, 32, .L, .RO, 0, .const, true, .HEL, 0, 4294967295⟩

-- R489 (spec/15_partitions.md)
def R.PAR_CHECK_REJECT : Fld := ⟨0x6C0000, [], 31, 1, .L, .W1C, 0, .const, true, .PAR, 0, 1⟩
def R.PAR_CHECK_REASON : Fld := ⟨0x6C0000, [], 28, 3, .L, .RO, 0, .const, true, .PAR, 0, 7⟩
def R.PAR_CHECK_PARTITION : Fld := ⟨0x6C0000, [], 22, 6, .L, .RO, 0, .const, true, .PAR, 0, 63⟩
def R.PAR_CHECK_CLUSTER : Fld := ⟨0x6C0000, [], 10, 9, .L, .RO, 0, .const, true, .PAR, 0, 511⟩
def R.PAR_CHECK_MOVES_PENDING : Fld := ⟨0x6C0000, [], 0, 10, .L, .RO, 0, .const, true, .PAR, 0, 1023⟩
def R.PAR_CFG_ERR_CFG_ERR : Fld := ⟨0x6C0004, [], 31, 1, .L, .W1C, 0, .const, true, .PAR, 0, 1⟩
def R.PAR_CFG_ERR_MULTI : Fld := ⟨0x6C0004, [], 30, 1, .L, .W1C, 0, .const, true, .PAR, 0, 1⟩
def R.PAR_CFG_ERR_OFFSET : Fld := ⟨0x6C0004, [], 0, 26, .L, .RO, 0, .const, true, .PAR, 0, 67108863⟩
def R.PAR_CFG_ENABLE : Fld := ⟨0x6C1000, [(64, 0x100)], 31, 1, .T, .RW, 0, .const, true, .PAR, 0, 1⟩
def R.PAR_CFG_STRICT : Fld := ⟨0x6C1000, [(64, 0x100)], 30, 1, .T, .RW, 0, .const, true, .PAR, 0, 1⟩
def R.PAR_CFG_ISLAND : Fld := ⟨0x6C1000, [(64, 0x100)], 24, 2, .T, .RW, 0, .const, true, .PAR, 0, 3⟩
def R.PAR_CFG_IMG_STORE : Fld := ⟨0x6C1000, [(64, 0x100)], 0, 8, .T, .RW, 1, .const, true, .PAR, 0, 255⟩
def R.PAR_CTRL_ZERO : Fld := ⟨0x6C1004, [(64, 0x100)], 1, 1, .L, .WO, 0, .const, true, .PAR, 0, 1⟩
def R.PAR_CTRL_RESET : Fld := ⟨0x6C1004, [(64, 0x100)], 0, 1, .L, .WO, 0, .const, true, .PAR, 0, 1⟩
def R.PAR_STATUS_RESET_BUSY : Fld := ⟨0x6C1008, [(64, 0x100)], 31, 1, .L, .RO, 0, .const, true, .PAR, 0, 1⟩
def R.PAR_STATUS_ZERO_BUSY : Fld := ⟨0x6C1008, [(64, 0x100)], 30, 1, .L, .RO, 0, .const, true, .PAR, 0, 1⟩
def R.PAR_STATUS_DRAINING : Fld := ⟨0x6C1008, [(64, 0x100)], 29, 1, .L, .RO, 0, .const, true, .PAR, 0, 1⟩
def R.PAR_STATUS_ZERO_FAIL : Fld := ⟨0x6C1008, [(64, 0x100)], 28, 1, .L, .RO, 0, .const, true, .PAR, 0, 1⟩
def R.PAR_STATUS_CLUSTERS : Fld := ⟨0x6C1008, [(64, 0x100)], 16, 10, .L, .RO, 0, .const, true, .PAR, 0, 1023⟩
def R.PAR_STATUS_GEN : Fld := ⟨0x6C1008, [(64, 0x100)], 0, 16, .L, .RO, 0, .const, true, .PAR, 0, 65535⟩
def R.PAR_QUOTA_VALID : Fld := ⟨0x6C1010, [(64, 0x100), (8, 0x8)], 63, 1, .T, .RW, 0, .const, true, .PAR, 0, 1⟩
def R.PAR_QUOTA_SIZE : Fld := ⟨0x6C1010, [(64, 0x100), (8, 0x8)], 32, 14, .T, .RW, 0, .const, true, .PAR, 0, 16383⟩
def R.PAR_QUOTA_BASE : Fld := ⟨0x6C1010, [(64, 0x100), (8, 0x8)], 0, 18, .T, .RW, 0, .const, true, .PAR, 0, 262143⟩
def R.PAR_CLU_OWNER : Fld := ⟨0x6C8000, [(512, 0x4)], 0, 8, .T, .RW, 0xFF, .const, true, .PAR, 0, 255⟩

-- R490 (spec/15_partitions.md)
def R.PAR_P_CFG_ERR_CFG_ERR : Fld := ⟨0x3400000, [(64, 0x10000)], 31, 1, .L, .W1C, 0, .const, true, .PAR_P, 0, 1⟩
def R.PAR_P_CFG_ERR_MULTI : Fld := ⟨0x3400000, [(64, 0x10000)], 30, 1, .L, .W1C, 0, .const, true, .PAR_P, 0, 1⟩
def R.PAR_P_CFG_ERR_OFFSET : Fld := ⟨0x3400000, [(64, 0x10000)], 0, 26, .L, .RO, 0, .const, true, .PAR_P, 0, 67108863⟩
def R.PAR_P_STATUS_STRICT : Fld := ⟨0x3400004, [(64, 0x10000)], 31, 1, .L, .RO, 0, .const, true, .PAR_P, 0, 1⟩
def R.PAR_P_STATUS_ISLAND : Fld := ⟨0x3400004, [(64, 0x10000)], 26, 2, .L, .RO, 0, .const, true, .PAR_P, 0, 3⟩
def R.PAR_P_STATUS_CLUSTERS : Fld := ⟨0x3400004, [(64, 0x10000)], 16, 10, .L, .RO, 0, .const, true, .PAR_P, 0, 1023⟩
def R.PAR_P_STATUS_GEN : Fld := ⟨0x3400004, [(64, 0x10000)], 0, 16, .L, .RO, 0, .const, true, .PAR_P, 0, 65535⟩
def R.PAR_P_QUOTA : Fld := ⟨0x3400010, [(64, 0x10000), (8, 0x8)], 0, 64, .L, .RO, 0, .const, true, .PAR_P, 0, 18446744073709551615⟩
def R.PAR_CTX_CFG_ENABLE : Fld := ⟨0x3400100, [(64, 0x10000), (16, 0x10)], 31, 1, .Q, .RW, 0, .const, true, .PAR_P, 0, 1⟩
def R.PAR_CTX_CFG_CONFIDENTIAL : Fld := ⟨0x3400100, [(64, 0x10000), (16, 0x10)], 30, 1, .Q, .RW, 0, .const, true, .PAR_P, 0, 1⟩
def R.PAR_CTX_CFG_STATE : Fld := ⟨0x3400100, [(64, 0x10000), (16, 0x10)], 0, 4, .L, .RO, 0, .const, true, .PAR_P, 0, 15⟩
def R.PAR_CTX_SCHED : Fld := ⟨0x3400104, [(64, 0x10000), (16, 0x10)], 0, 16, .T, .RW, 0xFFFF, .const, true, .PAR_P, 0, 65535⟩

-- R518 (spec/16_security_lifecycle.md)
def R.SEC_STATUS_IDENTITY : Fld := ⟨0x700000, [], 31, 1, .L, .RO, 0, .const, true, .SEC, 0, 1⟩
def R.SEC_STATUS_TEST_KEY : Fld := ⟨0x700000, [], 30, 1, .L, .RO, 0, .const, true, .SEC, 0, 1⟩
def R.SEC_STATUS_ACTIVATING : Fld := ⟨0x700000, [], 29, 1, .L, .RO, 0, .const, true, .SEC, 0, 1⟩
def R.SEC_STATUS_STAGING : Fld := ⟨0x700000, [], 28, 1, .L, .RO, 0, .const, true, .SEC, 0, 1⟩
def R.SEC_STATUS_PACK_UNSIGNED : Fld := ⟨0x700000, [], 27, 1, .L, .RO, 0, .const, true, .SEC, 0, 1⟩
def R.SEC_STATUS_BLOCKS_USED : Fld := ⟨0x700000, [], 0, 13, .L, .RO, 0, .const, true, .SEC, 0, 8191⟩
def R.SEC_CTRL_CLEAR_STATS : Fld := ⟨0x700004, [], 31, 1, .L, .WO, 0, .const, true, .SEC, 0, 1⟩
def R.SEC_CTRL_COMMIT_SVN : Fld := ⟨0x700004, [], 2, 1, .L, .WO, 0, .const, true, .SEC, 0, 1⟩
def R.SEC_CTRL_ACTIVATE : Fld := ⟨0x700004, [], 1, 1, .L, .WO, 0, .const, true, .SEC, 0, 1⟩
def R.SEC_CTRL_STAGE : Fld := ⟨0x700004, [], 0, 1, .Q, .WO, 0, .const, true, .SEC, 0, 1⟩
def R.SEC_ATT_RATE_BURST : Fld := ⟨0x700008, [], 16, 8, .T, .RW, 0x40, .const, true, .SEC, 1, 255⟩
def R.SEC_ATT_RATE_PERIOD_MS : Fld := ⟨0x700008, [], 0, 16, .T, .RW, 0x3E8, .const, true, .SEC, 100, 60000⟩
def R.SEC_EVENT_DEBUG_TOUCH : Fld := ⟨0x70000C, [], 5, 1, .L, .W1C, 0, .const, true, .SEC, 0, 1⟩
def R.SEC_EVENT_AUTH_FAIL : Fld := ⟨0x70000C, [], 4, 1, .L, .W1C, 0, .const, true, .SEC, 0, 1⟩
def R.SEC_EVENT_PACK_ACTIVE : Fld := ⟨0x70000C, [], 3, 1, .L, .W1C, 0, .const, true, .SEC, 0, 1⟩
def R.SEC_EVENT_PACK_REJECT : Fld := ⟨0x70000C, [], 2, 1, .L, .W1C, 0, .const, true, .SEC, 0, 1⟩
def R.SEC_EVENT_SIGN_EXHAUSTED : Fld := ⟨0x70000C, [], 1, 1, .L, .W1C, 0, .const, true, .SEC, 0, 1⟩
def R.SEC_EVENT_SIGN_LOW : Fld := ⟨0x70000C, [], 0, 1, .L, .W1C, 0, .const, true, .SEC, 0, 1⟩
def R.SEC_CFG_ERR_CFG_ERR : Fld := ⟨0x700010, [], 31, 1, .L, .W1C, 0, .const, true, .SEC, 0, 1⟩
def R.SEC_CFG_ERR_MULTI : Fld := ⟨0x700010, [], 30, 1, .L, .W1C, 0, .const, true, .SEC, 0, 1⟩
def R.SEC_CFG_ERR_OFFSET : Fld := ⟨0x700010, [], 0, 26, .L, .RO, 0, .const, true, .SEC, 0, 67108863⟩
def R.SEC_SIGN_LEFT_LEFT : Fld := ⟨0x700014, [], 0, 17, .L, .RO, 0, .const, true, .SEC, 0, 131071⟩
def R.SEC_PACK_SRC_SRC : Fld := ⟨0x700018, [], 0, 44, .Q, .RW, 0, .const, true, .SEC, 0, 17592186044415⟩
def R.SEC_PACK_LEN_LEN : Fld := ⟨0x700020, [], 0, 24, .Q, .RW, 0, .const, true, .SEC, 0, 16777215⟩
def R.SEC_PACK_RESULT : Fld := ⟨0x700024, [], 0, 8, .L, .RO, 0, .const, true, .SEC, 0, 255⟩
def R.SEC_ATT_COUNT : Fld := ⟨0x700028, [], 0, 64, .L, .RO, 0, .const, true, .SEC, 0, 18446744073709551615⟩
def R.SEC_ATT_BUSY : Fld := ⟨0x700030, [], 0, 32, .L, .RO, 0, .const, true, .SEC, 0, 4294967295⟩
def R.SEC_DEBUG_TICKS : Fld := ⟨0x700034, [], 0, 32, .L, .RO, 0, .const, true, .SEC, 0, 4294967295⟩
def R.SEC_PACK_DENIED : Fld := ⟨0x700038, [], 0, 32, .L, .RO, 0, .const, true, .SEC, 0, 4294967295⟩
def R.SEC_DIE_STATE_STATE : Fld := ⟨0x700100, [(4, 0x100)], 28, 4, .L, .RO, 0, .const, true, .SEC, 0, 15⟩
def R.SEC_DIE_STATE_DIE_GEN : Fld := ⟨0x700100, [(4, 0x100)], 0, 16, .L, .RO, 0, .const, true, .SEC, 0, 65535⟩
def R.SEC_DIE_SVN_COLLAR : Fld := ⟨0x700104, [(4, 0x100)], 16, 16, .L, .RO, 0, .const, true, .SEC, 0, 65535⟩
def R.SEC_DIE_SVN_PACK : Fld := ⟨0x700104, [(4, 0x100)], 0, 16, .L, .RO, 0, .const, true, .SEC, 0, 65535⟩
def R.SEC_COLLAR_MEAS : Fld := ⟨0x700140, [(4, 0x100), (16, 0x4)], 0, 32, .L, .RO, 0, .const, true, .SEC, 0, 4294967295⟩
def R.SEC_PACK_MEAS : Fld := ⟨0x700180, [(4, 0x100), (16, 0x4)], 0, 32, .L, .RO, 0, .const, true, .SEC, 0, 4294967295⟩
def R.SEC_PACK_STAGED : Fld := ⟨0x7001C0, [(4, 0x100), (16, 0x4)], 0, 32, .L, .RO, 0, .const, true, .SEC, 0, 4294967295⟩
def R.SEC_DISCLOSE : Fld := ⟨0x701000, [(1024, 0x4)], 0, 32, .L, .RO, 0, .const, true, .SEC, 0, 4294967295⟩

-- R519 (spec/16_security_lifecycle.md)
def R.LCS_STATE_STATE : Fld := ⟨0x740000, [], 28, 4, .L, .RO, 2, .const, true, .LCS, 0, 15⟩
def R.LCS_STATE_TARGET : Fld := ⟨0x740000, [], 24, 4, .L, .RO, 0xF, .const, true, .LCS, 0, 15⟩
def R.LCS_STATE_LAST_MARK : Fld := ⟨0x740000, [], 20, 4, .L, .RO, 0, .const, true, .LCS, 0, 15⟩
def R.LCS_STATE_ID_BANK : Fld := ⟨0x740000, [], 15, 1, .L, .RO, 0, .const, true, .LCS, 0, 1⟩
def R.LCS_STATE_ID_READY : Fld := ⟨0x740000, [], 14, 1, .L, .RO, 1, .const, true, .LCS, 0, 1⟩
def R.LCS_STATE_BANK_A_SPOILED : Fld := ⟨0x740000, [], 13, 1, .L, .RO, 0, .const, true, .LCS, 0, 1⟩
def R.LCS_STATE_BANK_B_SPOILED : Fld := ⟨0x740000, [], 12, 1, .L, .RO, 0, .const, true, .LCS, 0, 1⟩
def R.LCS_STATE_CERT : Fld := ⟨0x740000, [], 11, 1, .L, .RO, 0, .const, true, .LCS, 0, 1⟩
def R.LCS_ARM : Fld := ⟨0x740004, [], 0, 32, .L, .WO, 0, .const, true, .LCS, 0, 4294967295⟩
def R.LCS_CMD_CMD : Fld := ⟨0x740008, [], 0, 4, .L, .WO, 0, .const, true, .LCS, 0, 15⟩
def R.LCS_RESULT_DONE : Fld := ⟨0x74000C, [], 31, 1, .L, .W1C, 0, .const, true, .LCS, 0, 1⟩
def R.LCS_RESULT_REASON : Fld := ⟨0x74000C, [], 0, 8, .L, .RO, 0, .const, true, .LCS, 0, 255⟩
def R.LCS_CFG_ERR_CFG_ERR : Fld := ⟨0x740010, [], 31, 1, .L, .W1C, 0, .const, true, .LCS, 0, 1⟩
def R.LCS_CFG_ERR_MULTI : Fld := ⟨0x740010, [], 30, 1, .L, .W1C, 0, .const, true, .LCS, 0, 1⟩
def R.LCS_CFG_ERR_OFFSET : Fld := ⟨0x740010, [], 0, 26, .L, .RO, 0, .const, true, .LCS, 0, 67108863⟩
def R.LCS_BLOB_ADDR_ADDR : Fld := ⟨0x740018, [], 0, 44, .Q, .RW, 0, .const, true, .LCS, 0, 17592186044415⟩
def R.LCS_BLOB_LEN_LEN : Fld := ⟨0x740020, [], 0, 14, .Q, .RW, 0, .const, true, .LCS, 0, 16383⟩
def R.LCS_SERIAL : Fld := ⟨0x740028, [], 0, 64, .L, .RO, 0, .const, true, .LCS, 0, 18446744073709551615⟩
def R.LCS_ID_DIGEST : Fld := ⟨0x740040, [(8, 0x4)], 0, 32, .L, .RO, 0, .const, true, .LCS, 0, 4294967295⟩

-- R538 (spec/17_bringup_test.md)
def R.BST_CTRL_CLEAR_STATS : Fld := ⟨0x780000, [], 31, 1, .L, .WO, 0, .const, false, .BST, 0, 1⟩
def R.BST_CTRL_CLEAR_FAILS : Fld := ⟨0x780000, [], 30, 1, .L, .WO, 0, .const, false, .BST, 0, 1⟩
def R.BST_CTRL_ROT_ENABLE : Fld := ⟨0x780000, [], 0, 1, .T, .RW, 1, .const, false, .BST, 0, 1⟩
def R.BST_ROT_CFG_INTERVAL_MS : Fld := ⟨0x780004, [], 0, 16, .T, .RW, 0x3E8, .const, false, .BST, 10, 60000⟩
def R.BST_STATUS_ROT_STATE : Fld := ⟨0x780008, [], 28, 4, .L, .RO, 0, .const, false, .BST, 0, 15⟩
def R.BST_STATUS_OFF_REASON : Fld := ⟨0x780008, [], 24, 4, .L, .RO, 0, .const, false, .BST, 0, 15⟩
def R.BST_STATUS_FAILED : Fld := ⟨0x780008, [], 0, 8, .L, .RO, 0, .const, false, .BST, 0, 255⟩
def R.BST_EVENT_DEGRADED : Fld := ⟨0x78000C, [], 3, 1, .L, .W1C, 0, .const, false, .BST, 0, 1⟩
def R.BST_EVENT_KAT_FAIL : Fld := ⟨0x78000C, [], 2, 1, .L, .W1C, 0, .const, false, .BST, 0, 1⟩
def R.BST_EVENT_START_FAIL : Fld := ⟨0x78000C, [], 1, 1, .L, .W1C, 0, .const, false, .BST, 0, 1⟩
def R.BST_EVENT_SLICE_FAIL : Fld := ⟨0x78000C, [], 0, 1, .L, .W1C, 0, .const, false, .BST, 0, 1⟩
def R.BST_CFG_ERR_CFG_ERR : Fld := ⟨0x780010, [], 31, 1, .L, .W1C, 0, .const, false, .BST, 0, 1⟩
def R.BST_CFG_ERR_MULTI : Fld := ⟨0x780010, [], 30, 1, .L, .W1C, 0, .const, false, .BST, 0, 1⟩
def R.BST_CFG_ERR_OFFSET : Fld := ⟨0x780010, [], 0, 26, .L, .RO, 0, .const, false, .BST, 0, 67108863⟩
def R.BST_START_RESULT_CLU_FAIL : Fld := ⟨0x780014, [], 24, 8, .L, .RO, 0, .const, false, .BST, 0, 255⟩
def R.BST_START_RESULT_PORT_FAIL : Fld := ⟨0x780014, [], 16, 8, .L, .RO, 0, .const, false, .BST, 0, 255⟩
def R.BST_START_RESULT_MOD_FAIL : Fld := ⟨0x780014, [], 8, 8, .L, .RO, 0, .const, false, .BST, 0, 255⟩
def R.BST_START_RESULT_REPAIRS : Fld := ⟨0x780014, [], 0, 8, .L, .RO, 0, .const, false, .BST, 0, 255⟩
def R.BST_SLICES : Fld := ⟨0x780020, [], 0, 64, .L, .RO, 0, .const, false, .BST, 0, 18446744073709551615⟩
def R.BST_SLICE_FAILS : Fld := ⟨0x780028, [], 0, 32, .L, .RO, 0, .const, false, .BST, 0, 4294967295⟩
def R.BST_FUSE_GOOD : Fld := ⟨0x780040, [(5, 0x4)], 0, 32, .L, .RO, 0, .fuse, false, .BST, 0, 4294967295⟩
def R.BST_FAIL_MAP : Fld := ⟨0x780060, [(5, 0x4)], 0, 32, .L, .RO, 0, .const, false, .BST, 0, 4294967295⟩

-- R539 (spec/17_bringup_test.md)
def R.BST_START_STEP : Fld := ⟨0x7A0000, [], 28, 4, .L, .RO, 1, .const, true, .BST, 0, 15⟩
def R.BST_START_DIE : Fld := ⟨0x7A0000, [], 26, 2, .L, .RO, 0, .const, true, .BST, 0, 3⟩
def R.BST_START_COLD : Fld := ⟨0x7A0000, [], 25, 1, .L, .RO, 1, .const, true, .BST, 0, 1⟩
def R.BST_START_FALLBACK : Fld := ⟨0x7A0000, [], 24, 1, .L, .RO, 0, .const, true, .BST, 0, 1⟩
def R.BST_START_FAILED : Fld := ⟨0x7A0000, [], 23, 1, .L, .RO, 0, .const, true, .BST, 0, 1⟩
def R.BST_START_ELAPSED_MS : Fld := ⟨0x7A0000, [], 0, 23, .L, .RO, 0, .const, true, .BST, 0, 8388607⟩
def R.BST_NEXT_NEXT_COLD : Fld := ⟨0x7A0004, [], 0, 1, .L, .RW, 0, .const, true, .BST, 0, 1⟩
def R.BST_STEP_MS_EVEN : Fld := ⟨0x7A0010, [(6, 0x4)], 16, 16, .L, .RO, 0, .const, true, .BST, 0, 65535⟩
def R.BST_STEP_MS_ODD : Fld := ⟨0x7A0010, [(6, 0x4)], 0, 16, .L, .RO, 0, .const, true, .BST, 0, 65535⟩

-- R540 (spec/17_bringup_test.md)
def R.PWR_STATUS_FCLK_LOCK : Fld := ⟨0x7C0000, [], 9, 1, .L, .RO, 0, .const, false, .PWR, 0, 1⟩
def R.PWR_STATUS_TCLK_LOCK : Fld := ⟨0x7C0000, [], 8, 1, .L, .RO, 0, .const, false, .PWR, 0, 1⟩
def R.PWR_STATUS_BAY_B_GOOD : Fld := ⟨0x7C0000, [], 7, 1, .L, .RO, 0, .const, false, .PWR, 0, 1⟩
def R.PWR_STATUS_BAY_A_GOOD : Fld := ⟨0x7C0000, [], 6, 1, .L, .RO, 0, .const, false, .PWR, 0, 1⟩
def R.PWR_STATUS_HBM_GOOD : Fld := ⟨0x7C0000, [], 5, 1, .L, .RO, 0, .const, false, .PWR, 0, 1⟩
def R.PWR_STATUS_SRAM_GOOD : Fld := ⟨0x7C0000, [], 4, 1, .L, .RO, 0, .const, false, .PWR, 0, 1⟩
def R.PWR_STATUS_CORE_GOOD : Fld := ⟨0x7C0000, [], 3, 1, .L, .RO, 0, .const, false, .PWR, 0, 1⟩
def R.PWR_STATUS_IO_GOOD : Fld := ⟨0x7C0000, [], 2, 1, .L, .RO, 0, .const, false, .PWR, 0, 1⟩
def R.PWR_STATUS_VAUX_GOOD : Fld := ⟨0x7C0000, [], 1, 1, .L, .RO, 1, .const, false, .PWR, 0, 1⟩
def R.PWR_CORE_VID_MV : Fld := ⟨0x7C0004, [], 16, 10, .L, .RO, 0x2EE, .const, false, .PWR, 0, 1023⟩
def R.PWR_CORE_POWER_W : Fld := ⟨0x7C0004, [], 0, 16, .L, .RO, 0, .const, false, .PWR, 0, 65535⟩
def R.PWR_WAVE_WAVE_US : Fld := ⟨0x7C0008, [], 0, 10, .T, .RW, 0xC8, .const, false, .PWR, 100, 1000⟩
def R.PWR_EVENT_RAIL_FAULT : Fld := ⟨0x7C000C, [], 1, 1, .L, .W1C, 0, .const, false, .PWR, 0, 1⟩
def R.PWR_EVENT_AVS_LIMIT : Fld := ⟨0x7C000C, [], 0, 1, .L, .W1C, 0, .const, false, .PWR, 0, 1⟩
def R.PWR_CFG_ERR_CFG_ERR : Fld := ⟨0x7C0010, [], 31, 1, .L, .W1C, 0, .const, false, .PWR, 0, 1⟩
def R.PWR_CFG_ERR_MULTI : Fld := ⟨0x7C0010, [], 30, 1, .L, .W1C, 0, .const, false, .PWR, 0, 1⟩
def R.PWR_CFG_ERR_OFFSET : Fld := ⟨0x7C0010, [], 0, 26, .L, .RO, 0, .const, false, .PWR, 0, 67108863⟩
def R.PWR_CLU_ON : Fld := ⟨0x7C0020, [(5, 0x4)], 0, 32, .L, .RO, 0, .const, false, .PWR, 0, 4294967295⟩

-- R564 (spec/18_ras_telemetry.md)
def R.ERR_CTRL_CLEAR_STATS : Fld := ⟨0x800000, [], 31, 1, .L, .WO, 0, .const, false, .ERR, 0, 1⟩
def R.ERR_EVENT_PACK_WDT : Fld := ⟨0x800004, [], 3, 1, .L, .W1C, 0, .const, false, .ERR, 0, 1⟩
def R.ERR_EVENT_THERMAL : Fld := ⟨0x800004, [], 2, 1, .L, .W1C, 0, .const, false, .ERR, 0, 1⟩
def R.ERR_EVENT_QWRITE_FAIL : Fld := ⟨0x800004, [], 1, 1, .L, .W1C, 0, .const, false, .ERR, 0, 1⟩
def R.ERR_EVENT_LOST : Fld := ⟨0x800004, [], 0, 1, .L, .W1C, 0, .const, false, .ERR, 0, 1⟩
def R.ERR_CFG_ERR_CFG_ERR : Fld := ⟨0x800008, [], 31, 1, .L, .W1C, 0, .const, false, .ERR, 0, 1⟩
def R.ERR_CFG_ERR_MULTI : Fld := ⟨0x800008, [], 30, 1, .L, .W1C, 0, .const, false, .ERR, 0, 1⟩
def R.ERR_CFG_ERR_OFFSET : Fld := ⟨0x800008, [], 0, 26, .L, .RO, 0, .const, false, .ERR, 0, 67108863⟩
def R.ERR_SEQ : Fld := ⟨0x80000C, [], 0, 32, .L, .RO, 0, .const, false, .ERR, 0, 4294967295⟩
def R.ERR_QUEUE_BASE_BASE : Fld := ⟨0x800010, [], 14, 30, .Q, .RW, 0x2FFFFFC, .errQueue, false, .ERR, 0, 1073741823⟩
def R.ERR_TEL_BASE_BASE : Fld := ⟨0x800018, [], 16, 28, .Q, .RW, 0, .const, false, .ERR, 0, 268435455⟩
def R.ERR_TEL_CFG_TEL_EVERY : Fld := ⟨0x800020, [], 8, 8, .T, .RW, 0, .const, false, .ERR, 0, 255⟩
def R.ERR_TEL_CFG_TEL_LOG2 : Fld := ⟨0x800020, [], 0, 4, .Q, .RW, 0, .const, false, .ERR, 0, 10⟩
def R.ERR_THERMAL_TEMP : Fld := ⟨0x800024, [], 24, 8, .L, .RO, 0, .const, false, .ERR, 0, 255⟩
def R.ERR_THERMAL_LEVEL : Fld := ⟨0x800024, [], 20, 4, .L, .RO, 0, .const, false, .ERR, 0, 15⟩
def R.ERR_THERMAL_TCLK_16 : Fld := ⟨0x800024, [], 15, 5, .L, .RO, 0x10, .const, false, .ERR, 0, 31⟩
def R.ERR_THERMAL_THROTTLE_C : Fld := ⟨0x800024, [], 8, 7, .T, .RW, 0x5F, .const, false, .ERR, 85, 100⟩
def R.ERR_WDT_PACK_STATE : Fld := ⟨0x800028, [], 30, 2, .L, .RO, 0, .const, false, .ERR, 0, 3⟩
def R.ERR_WDT_RESETS : Fld := ⟨0x800028, [], 16, 8, .L, .RO, 0, .const, false, .ERR, 0, 255⟩
def R.ERR_WDT_WDT_MS : Fld := ⟨0x800028, [], 0, 16, .T, .RW, 0x1F4, .const, false, .ERR, 100, 10000⟩
def R.ERR_Q_HEAD : Fld := ⟨0x800100, [(11, 0x10)], 0, 32, .L, .RO, 0, .const, false, .ERR, 0, 4294967295⟩
def R.ERR_Q_ACK : Fld := ⟨0x800104, [(11, 0x10)], 0, 32, .L, .RW, 0, .const, false, .ERR, 0, 4294967295⟩
def R.ERR_Q_STATUS_LOST_SEV : Fld := ⟨0x800108, [(11, 0x10)], 30, 2, .L, .RO, 0, .const, false, .ERR, 0, 3⟩
def R.ERR_Q_STATUS_LOST : Fld := ⟨0x800108, [(11, 0x10)], 16, 14, .L, .RO, 0, .const, false, .ERR, 0, 16383⟩
def R.ERR_Q_STATUS_UNHANDLED : Fld := ⟨0x800108, [(11, 0x10)], 0, 5, .L, .RO, 0, .const, false, .ERR, 0, 31⟩

-- R565 (spec/18_ras_telemetry.md)
def R.ERR_MIRROR_LO_ADDR : Fld := ⟨0x820000, [], 16, 16, .Q, .RW, 0, .const, true, .ERR, 0, 65535⟩
def R.ERR_MIRROR_LO_ENABLE : Fld := ⟨0x820000, [], 0, 1, .L, .RW, 0, .const, true, .ERR, 0, 1⟩
def R.ERR_MIRROR_HI_ADDR : Fld := ⟨0x820004, [], 0, 32, .Q, .RW, 0, .const, true, .ERR, 0, 4294967295⟩
def R.ERR_PKG_CTRL_DIE_RESET : Fld := ⟨0x820008, [], 1, 3, .L, .WO, 0, .const, true, .ERR, 0, 7⟩
def R.ERR_PKG_EVENT_MIRROR_GAP : Fld := ⟨0x82000C, [], 1, 1, .L, .W1C, 0, .const, true, .ERR, 0, 1⟩
def R.ERR_PKG_EVENT_POWER_CAP : Fld := ⟨0x82000C, [], 0, 1, .L, .W1C, 0, .const, true, .ERR, 0, 1⟩
def R.ERR_PKG_POWER_LIMIT_W : Fld := ⟨0x820010, [], 16, 16, .T, .RW, 0xD48, .const, true, .ERR, 1000, 3400⟩
def R.ERR_PKG_POWER_POWER_W : Fld := ⟨0x820010, [], 0, 16, .L, .RO, 0, .const, true, .ERR, 0, 65535⟩

-- R566 (spec/18_ras_telemetry.md)
def R.AGE_STATUS_VALID : Fld := ⟨0x840000, [], 31, 1, .L, .RO, 0, .const, false, .AGE, 0, 1⟩
def R.AGE_STATUS_DAYS : Fld := ⟨0x840000, [], 0, 16, .L, .RO, 0, .const, false, .AGE, 0, 65535⟩
def R.AGE_EOL_EOL_DAYS : Fld := ⟨0x840004, [], 16, 16, .L, .RO, 0, .const, false, .AGE, 0, 65535⟩
def R.AGE_EOL_FIT_DAY : Fld := ⟨0x840004, [], 0, 16, .L, .RO, 0, .const, false, .AGE, 0, 65535⟩
def R.AGE_EOL_BAND_HIGH : Fld := ⟨0x840008, [], 16, 16, .L, .RO, 0, .const, false, .AGE, 0, 65535⟩
def R.AGE_EOL_BAND_LOW : Fld := ⟨0x840008, [], 0, 16, .L, .RO, 0, .const, false, .AGE, 0, 65535⟩
def R.AGE_EOL_SOURCE_KIND : Fld := ⟨0x84000C, [], 24, 8, .L, .RO, 0, .const, false, .AGE, 0, 255⟩
def R.AGE_EOL_SOURCE_INDEX : Fld := ⟨0x84000C, [], 0, 8, .L, .RO, 0, .const, false, .AGE, 0, 255⟩
def R.AGE_CFG_WARN_PS : Fld := ⟨0x840010, [], 24, 8, .T, .RW, 0x28, .const, false, .AGE, 0, 255⟩
def R.AGE_CFG_CRIT_PS : Fld := ⟨0x840010, [], 16, 8, .T, .RW, 0x14, .const, false, .AGE, 1, 255⟩
def R.AGE_CFG_NEAR_DAYS : Fld := ⟨0x840010, [], 0, 16, .T, .RW, 0xB4, .const, false, .AGE, 0, 65535⟩
def R.AGE_EVENT_EOL_NEAR : Fld := ⟨0x840014, [], 2, 1, .L, .W1C, 0, .const, false, .AGE, 0, 1⟩
def R.AGE_EVENT_CRIT : Fld := ⟨0x840014, [], 1, 1, .L, .W1C, 0, .const, false, .AGE, 0, 1⟩
def R.AGE_EVENT_WARN : Fld := ⟨0x840014, [], 0, 1, .L, .W1C, 0, .const, false, .AGE, 0, 1⟩
def R.AGE_CFG_ERR_CFG_ERR : Fld := ⟨0x840018, [], 31, 1, .L, .W1C, 0, .const, false, .AGE, 0, 1⟩
def R.AGE_CFG_ERR_MULTI : Fld := ⟨0x840018, [], 30, 1, .L, .W1C, 0, .const, false, .AGE, 0, 1⟩
def R.AGE_CFG_ERR_OFFSET : Fld := ⟨0x840018, [], 0, 26, .L, .RO, 0, .const, false, .AGE, 0, 67108863⟩
def R.AGE_SENSOR_MARGIN0 : Fld := ⟨0x840100, [(64, 0x4)], 16, 16, .L, .RO, 0, .const, false, .AGE, 0, 65535⟩
def R.AGE_SENSOR_MARGIN : Fld := ⟨0x840100, [(64, 0x4)], 0, 16, .L, .RO, 0, .const, false, .AGE, 0, 65535⟩
def R.AGE_STACK_HOURS_85 : Fld := ⟨0x840200, [(4, 0x8)], 16, 16, .L, .RO, 0, .const, false, .AGE, 0, 65535⟩
def R.AGE_STACK_HOURS_90 : Fld := ⟨0x840200, [(4, 0x8)], 0, 16, .L, .RO, 0, .const, false, .AGE, 0, 65535⟩
def R.AGE_STACK_RET : Fld := ⟨0x840204, [(4, 0x8)], 0, 32, .L, .RO, 0, .const, false, .AGE, 0, 4294967295⟩
def R.AGE_LANE_HBM : Fld := ⟨0x840300, [], 24, 8, .L, .RO, 0, .const, false, .AGE, 0, 255⟩
def R.AGE_LANE_RING : Fld := ⟨0x840300, [], 16, 8, .L, .RO, 0, .const, false, .AGE, 0, 255⟩
def R.AGE_LANE_BAY : Fld := ⟨0x840300, [], 8, 8, .L, .RO, 0, .const, false, .AGE, 0, 255⟩
def R.AGE_LANE_TORUS : Fld := ⟨0x840300, [], 0, 8, .L, .RO, 0, .const, false, .AGE, 0, 255⟩

-- R567 (spec/18_ras_telemetry.md)
def R.AGE_PKG_EOL_DAYS : Fld := ⟨0x860000, [], 16, 16, .L, .RO, 0, .const, true, .AGE, 0, 65535⟩
def R.AGE_PKG_DIE : Fld := ⟨0x860000, [], 14, 2, .L, .RO, 0, .const, true, .AGE, 0, 3⟩
def R.AGE_PKG_VALID : Fld := ⟨0x860000, [], 13, 1, .L, .RO, 0, .const, true, .AGE, 0, 1⟩

-- The whole table, in pieces.
def R.table0 : List Fld := [R.HUB_ID_PART, R.HUB_ID_DIE_REV, R.HUB_POS_MISMATCH, R.HUB_POS_LEAD, R.HUB_POS_FUSED_POS, R.HUB_POS_STRAP_POS, R.HUB_CLUSTERS_SPARE, R.HUB_CLUSTERS_EXPOSED, R.HUB_RING_CW_DEGRADED, R.HUB_RING_CCW_DEGRADED, R.HUB_RING_CW_UP, R.HUB_RING_CCW_UP, R.HUB_TORUS_ROLE_T1_ROLE, R.HUB_TORUS_ROLE_T0_ROLE, R.HUB_ISLAND_HD3_ISL, R.HUB_ISLAND_HD2_ISL, R.HUB_ISLAND_HD1_ISL, R.HUB_ISLAND_HD0_ISL, R.HUB_CFG_ERR_CFG_ERR, R.HUB_CFG_ERR_MULTI, R.HUB_CFG_ERR_OFFSET, R.CLU_STATUS_STATE, R.CLU_STATUS_PARTITION, R.CLU_STATUS_CONTEXT, R.CLU_STATUS_TILE_MASK, R.CLU_UNIT_RING, R.CLU_UNIT_INDEX, R.CLU_CTRL_PERF_CLEAR, R.CLU_CTRL_RELEASE, R.CLU_CTRL_HOLD_ON_FAULT, R.CLU_CTRL_PERF_ENABLE, R.CLU_FAULT_VALID, R.CLU_FAULT_TILE, R.CLU_FAULT_CODE, R.CLU_FAULT_INDEX, R.CLU_CFG_ERR_CFG_ERR, R.CLU_CFG_ERR_MULTI, R.CLU_CFG_ERR_OFFSET, R.CLU_PERF_CUBE, R.CLU_PERF_TOKEN, R.CLU_PERF_CREDIT, R.CLU_PERF_FETCH, R.CLU_PERF_UNITS, R.CLU_DBG_ADDR_SPACE, R.CLU_DBG_ADDR_TILE, R.CLU_DBG_ADDR_OFFSET, R.CLU_DBG_DATA, R.TIL_STATUS_STATE, R.TIL_STATUS_UNIT_BUSY, R.TIL_STATUS_HEAD]
def R.table1 : List Fld := [R.TIL_FAULT_CODE, R.TIL_FAULT_OPCODE, R.TIL_FAULT_INDEX, R.TIL_FAULT_INFO, R.TIL_TOKEN, R.TIL_CREDIT, R.TIL_FILL, R.TIL_SEED_LO, R.TIL_SEED_HI, R.TIL_PERF_CUBE, R.TIL_PERF_VEC, R.TIL_TOKEN_HI, R.CLU_STANDIN_ACTIVE, R.CLU_STANDIN_TARGET, R.CLU_STANDIN_SPARES_FREE, R.CLU_WITHDRAWN, R.SHD_CTRL_CLEAR_STATS, R.SHD_CTRL_FETCH_DEADLINE, R.SHD_WINDOW_WINDOW_MAX, R.SHD_WINDOW_WINDOW_LAST, R.SHD_DB_LATE, R.SHD_DESC_LATE, R.SHD_ADMITTED, R.SHD_EVENT_PART, R.SHD_CFG_ERR_CFG_ERR, R.SHD_CFG_ERR_MULTI, R.SHD_CFG_ERR_OFFSET, R.WRK_DB_LO_ADDR, R.WRK_DB_LO_LOC, R.WRK_DB_HI_ADDR, R.WRK_STAT_LO_ADDR, R.WRK_STAT_LO_LOC, R.WRK_STAT_HI, R.WRK_CTRL_DB_ENABLE, R.WRK_CTRL_EVENT_BAY, R.WRK_CTRL_EVENT_BAY_NUM, R.WRK_CTRL_EVENT_VECTOR, R.WRK_EVENT_ISLAND_DOWN, R.WRK_EVENT_HARD_LIMIT, R.WRK_EVENT_RING_ERROR, R.WRK_EVENT_DB_FAIL, R.WRK_EVENT_MASK, R.WRK_CFG_ERR_CFG_ERR, R.WRK_CFG_ERR_MULTI, R.WRK_CFG_ERR_OFFSET, R.WRK_DB_FAILS, R.WRK_MGMT_LO_ADDR, R.WRK_MGMT_LO_LOC, R.WRK_MGMT_HI, R.WRK_MRSP_LO_ADDR]
def R.table2 : List Fld := [R.WRK_MRSP_LO_LOC, R.WRK_MRSP_HI, R.WRK_MGMT_CFG_ENABLE, R.WRK_MGMT_CFG_SIZE_LOG2, R.WRK_MGMT_CFG_VECTOR, R.WRK_RING_LO_ADDR, R.WRK_RING_LO_LOC, R.WRK_RING_HI, R.WRK_CPL_LO_ADDR, R.WRK_CPL_HI, R.WRK_RING_CFG_ENABLE, R.WRK_RING_CFG_IRQ_ALL, R.WRK_RING_CFG_CONTEXT, R.WRK_RING_CFG_SIZE_LOG2, R.WRK_RING_CFG_INT_BAY, R.WRK_RING_CFG_BAY, R.WRK_RING_CFG_VECTOR, R.WRK_RING_LIMIT_FETCH_MAX, R.WRK_RING_STATE_STATE, R.WRK_RING_STATE_REASON, R.WRK_RING_STATE_IN_FLIGHT, R.WRK_RING_CTRL_RESET, R.WRK_RING_CTRL_STOP, R.WRK_RING_HEAD, R.WRK_RING_DONE, R.WRK_RING_ABORTS, R.TCK_CTRL_CLEAR_STATS, R.TCK_CTRL_SOURCE, R.TCK_STATUS_MASTER, R.TCK_STATUS_STATE, R.TCK_PERIOD_CURRENT, R.TCK_NEXT_PENDING, R.TCK_NEXT_NEXT_PERIOD, R.TCK_NEXT_AT, R.TCK_NUMBER, R.TCK_TOD, R.TCK_HOP_DELAY, R.TCK_MASTER_DELAY, R.TCK_OFFSET, R.TCK_EVENT_NUMBER_JUMP, R.TCK_EVENT_MASTER_CONFLICT, R.TCK_EVENT_PERIOD_CHANGED, R.TCK_EVENT_TICK_LOST, R.TCK_EVENT_HOLDOVER, R.TCK_EVENT_TICKIN_FAULT, R.TCK_MISSED, R.TCK_CFG_ERR_CFG_ERR, R.TCK_CFG_ERR_MULTI, R.TCK_CFG_ERR_OFFSET, R.TCK_DEBT]
def R.table3 : List Fld := [R.MEM_STATUS_STATE, R.MEM_STATUS_STACK_UP, R.MEM_CTRL_CLEAR_STATS, R.MEM_CTRL_SCRUB_HOURS, R.MEM_CTRL_RECAL_MS, R.MEM_CTRL_CE_THRESH, R.MEM_EVENT_RETIRED, R.MEM_EVENT_HALF_RATE, R.MEM_EVENT_THROTTLE, R.MEM_EVENT_UE, R.MEM_EVENT_REPAIR, R.MEM_CFG_ERR_CFG_ERR, R.MEM_CFG_ERR_MULTI, R.MEM_CFG_ERR_OFFSET, R.MEM_STACK_TEMP_TEMP, R.MEM_STACK_TEMP_BAND, R.MEM_STACK_SPARES_ROWS, R.MEM_STACK_SPARES_LANES, R.MEM_STACK_REPAIRS, R.MEM_PORT_STATUS_RETIRED, R.MEM_PORT_STATUS_HALF, R.MEM_PORT_STATUS_UP, R.MEM_PORT_CE, R.MEM_PORT_UE, R.MEM_PORT_LAST_UE, R.MEM_PORT_SECTORS, R.MEM_PORT_LB_CTRL_START, R.MEM_PORT_LB_CTRL_MODE, R.MEM_PORT_LB_CTRL_PATTERN, R.MEM_PORT_LB_CTRL_CHANNELS, R.MEM_PORT_LB_STATUS_DONE, R.MEM_PORT_LB_ERR, R.MEM_REGION_VALID, R.MEM_REGION_MODE, R.MEM_REGION_TARGET, R.MEM_REGION_STREAM, R.MEM_REGION_BASE_BASE, R.MEM_REGION_BANDS_BANDS, R.MEM_REGION_BANDS_BAND_FIRST, R.MEM_REGION_STATUS_REJECT, R.MEM_REGION_STATUS_ENTRY, R.MEM_REGION_STATUS_REASON, R.STC_CTRL_FLUSH, R.STC_CTRL_CLEAR_STATS, R.STC_CTRL_ENABLE, R.STC_STATUS_FLUSH_BUSY, R.STC_CFG_ERR_CFG_ERR, R.STC_CFG_ERR_MULTI, R.STC_CFG_ERR_OFFSET, R.STC_HITS]
def R.table4 : List Fld := [R.STC_MISSES, R.STC_WRITEBACKS, R.STC_BYPASS, R.STC_SECTOR_ERR, R.STC_PART_WAYS_WAYS, R.LSH_CTRL_CLEAR_STATS, R.LSH_CTRL_READMIT, R.LSH_LAT_LO_RD, R.LSH_LAT_LO_LCR, R.LSH_LAT_HI_BG, R.LSH_LAT_HI_WR, R.LSH_EVENT_SCALED, R.LSH_EVENT_ADMIT_REJECT, R.LSH_CFG_ERR_CFG_ERR, R.LSH_CFG_ERR_MULTI, R.LSH_CFG_ERR_OFFSET, R.LSH_ADMIT_REJECT, R.LSH_ADMIT_REASON, R.LSH_ADMIT_DIE, R.LSH_ADMIT_MPORT, R.LSH_ADMIT_CLASS, R.LSH_ADMIT_STACK, R.LSH_STACK_CAP_CAP_ADM, R.LSH_STACK_CAP_CAP_NOW, R.LSH_STACK_LOAD, R.LSH_M_CFG_STRICT, R.LSH_M_CFG_PARTITION, R.LSH_M_WEIGHT_BG, R.LSH_M_WEIGHT_WR, R.LSH_M_WEIGHT_RD, R.LSH_M_WEIGHT_LCR, R.LSH_M_MIN_MIN, R.LSH_M_MIN_MODE, R.LSH_M_MIN_TARGET, R.LSH_M_EFF_EFF, R.LSH_M_GUAR, R.LSH_M_BE, R.LSH_PORT_UNITS, R.LSH_PORT_LATE, R.XLT_CTRL_CLEAR_STATS, R.XLT_CTRL_MAX_WALK, R.XLT_EVENT_DRAIN_CUT, R.XLT_CFG_ERR_CFG_ERR, R.XLT_CFG_ERR_MULTI, R.XLT_CFG_ERR_OFFSET, R.XLT_DTLB_HITS, R.XLT_DTLB_MISSES, R.XLT_WALK_READS, R.XLT_INVALS, R.XLT_CUT]
def R.table5 : List Fld := [R.XLT_ATS_CTRL_ATS_MAX, R.XLT_ATS_STATUS_ATS_OUT, R.XLT_ATS_STATUS_PRG_OUT, R.XLT_ATS_REQS, R.XLT_PRI_REQS, R.XLT_PRI_LATE, R.XLT_ATS_INV, R.XLT_P_FAULT_VA, R.XLT_P_FAULT_INFO_VALID, R.XLT_P_FAULT_INFO_KIND, R.XLT_P_FAULT_INFO_CONTEXT, R.XLT_P_CFG_ERR_CFG_ERR, R.XLT_P_CFG_ERR_MULTI, R.XLT_P_CFG_ERR_OFFSET, R.XLT_CTX_CFG_ENABLE, R.XLT_CTX_CFG_HOST, R.XLT_CTX_CFG_PASID, R.XLT_CTX_ROOT_ROOT, R.XLT_CTX_EPOCH_DRAINS, R.XLT_CTX_EPOCH_EPOCH, R.XLT_CTX_FAULTS, R.FLL_CTRL_CLEAR_STATS, R.FLL_EVENT_SLOT_REJECT, R.FLL_EVENT_PARITY, R.FLL_CFG_ERR_CFG_ERR, R.FLL_CFG_ERR_MULTI, R.FLL_CFG_ERR_OFFSET, R.FLL_DISCARDS, R.FLL_SLOT_CHECK_REJECT, R.FLL_SLOT_CHECK_REASON, R.FLL_SLOT_CHECK_SLOT, R.FLL_SLOT_CHECK_DIE, R.FLL_SLOT_CHECK_MPORT, R.FLL_SLOT_CHECK_MEMPORT, R.FLL_SLOT_CHECK_DIR, R.FLL_CW_FLITS, R.FLL_CW_SLOTTED, R.FLL_CCW_FLITS, R.FLL_CCW_SLOTTED, R.FLL_M_SLOTS, R.FLL_M_SLOT_CFG_FLITS, R.FLL_M_SLOT_CFG_MODE, R.FLL_M_SLOT_CFG_TARGET, R.FLL_M_SLOTTED, R.FLL_M_STALL, R.COH_CTRL_CLEAR_STATS, R.COH_STATUS_ISLAND, R.COH_STATUS_STATE, R.COH_EVENT_PROTOCOL, R.COH_EVENT_SNOOP_TIMEOUT]
def R.table6 : List Fld := [R.COH_CFG_ERR_CFG_ERR, R.COH_CFG_ERR_MULTI, R.COH_CFG_ERR_OFFSET, R.COH_DOWN_CAUSE_CAUSE, R.COH_DOWN_CAUSE_NODE, R.COH_DOWN_LINE_LINE, R.COH_DIR_USED, R.COH_DIR_EVICTS, R.COH_SNOOPS, R.COH_PUSH_ACK, R.COH_PUSH_DROP, R.COH_NOT_ISLAND, R.COH_LOST_OWNED, R.COH_ISL_CFG_SNOOP_TIMEOUT, R.COH_ISL_STATE_STATE, R.COH_ISL_STATE_DIES, R.COH_ISL_STATE_RESET_DIES, R.COH_ISL_STATE_CAUSE, R.COH_ISL_STATE_DOWN_COUNT, R.COH_ISL_CTRL_FORCE_DOWN, R.COH_ISL_CTRL_REINIT, R.BAY_STATUS_STATE, R.BAY_STATUS_HEEL_CAUSE, R.BAY_STATUS_PROTO, R.BAY_STATUS_RATE2, R.BAY_STATUS_HALF, R.BAY_STATUS_UNCERT, R.BAY_STATUS_BGEN, R.BAY_STATUS_REFUSE, R.BAY_CFG_FORCE_CXL, R.BAY_CFG_HALF, R.BAY_CFG_RATE_2, R.BAY_CTRL_CLEAR_STATS, R.BAY_CTRL_FORCE_HEEL, R.BAY_CTRL_READMIT, R.BAY_EVENT_ABORT_TIMEOUT, R.BAY_EVENT_POWER, R.BAY_EVENT_THERMAL, R.BAY_EVENT_HEEL, R.BAY_EVENT_DEGRADE, R.BAY_EVENT_REPAIR, R.BAY_EVENT_REFUSED, R.BAY_CFG_ERR_CFG_ERR, R.BAY_CFG_ERR_MULTI, R.BAY_CFG_ERR_OFFSET, R.BAY_IDENT_VENDOR, R.BAY_IDENT_PART, R.BAY_CLASS_SLOT, R.BAY_CLASS_CLASS, R.BAY_LANES_TX_GROUPS]
def R.table7 : List Fld := [R.BAY_LANES_RX_GROUPS, R.BAY_LANES_SPARES, R.BAY_TEMP_TEMP, R.BAY_TEMP_POWER, R.BAY_PLIMIT, R.BAY_GRANT, R.BAY_REPAIRS, R.BAY_REPLAYS, R.BAY_DENIED, R.BAY_DIGEST, R.BAY_WQ_OWNER, R.BAY_P_CFG_ERR_CFG_ERR, R.BAY_P_CFG_ERR_MULTI, R.BAY_P_CFG_ERR_OFFSET, R.BAY_Q_DB_LO_ADDR, R.BAY_Q_DB_LO_LOC, R.BAY_Q_DB_HI, R.BAY_Q_STAT_LO_ADDR, R.BAY_Q_STAT_LO_LOC, R.BAY_Q_STAT_HI, R.BAY_Q_RING_LO_ADDR, R.BAY_Q_RING_LO_LOC, R.BAY_Q_RING_HI, R.BAY_Q_CPL_LO_ADDR, R.BAY_Q_CPL_HI, R.BAY_Q_CFG_ENABLE, R.BAY_Q_CFG_IRQ_ALL, R.BAY_Q_CFG_CONTEXT, R.BAY_Q_CFG_SIZE_LOG2, R.BAY_Q_CFG_INT_BAY, R.BAY_Q_CFG_BAY, R.BAY_Q_CFG_VECTOR, R.BAY_Q_BIND_BAY, R.BAY_Q_BIND_WQ, R.BAY_Q_LIMIT_FETCH_MAX, R.BAY_Q_STATE_STATE, R.BAY_Q_STATE_REASON, R.BAY_Q_STATE_IN_FLIGHT, R.BAY_Q_CTRL_RESET, R.BAY_Q_CTRL_STOP, R.BAY_Q_HEAD, R.BAY_Q_DONE, R.BAY_Q_ABORTS, R.DDL_STATUS_STATE, R.DDL_STATUS_LINK_GEN, R.DDL_CTRL_CLEAR_STATS, R.DDL_EVENT_HEEL, R.DDL_EVENT_SCALED, R.DDL_EVENT_DEGRADE, R.DDL_EVENT_REPAIR]
def R.table8 : List Fld := [R.DDL_TX_MODS, R.DDL_RX_MODS, R.DDL_CAP_C_ADM_TX, R.DDL_CAP_C_TX, R.DDL_LATENCY, R.DDL_REPLAYS, R.DDL_CRC_ERR, R.DDL_REPAIRS, R.DDL_CFG_ERR_CFG_ERR, R.DDL_CFG_ERR_MULTI, R.DDL_CFG_ERR_OFFSET, R.TOR_PORT_STATUS_STATE, R.TOR_PORT_STATUS_HALF, R.TOR_PORT_STATUS_PORT_GEN, R.TOR_PORT_CFG_ENABLE, R.TOR_PORT_CFG_MEDIUM, R.TOR_PORT_EVENT_DOWN, R.TOR_PORT_EVENT_RETRAIN, R.TOR_PORT_EVENT_HALF, R.TOR_FEC_CORR, R.TOR_FEC_UNCORR, R.TOR_NOROUTE, R.TOR_CFG_ERR_CFG_ERR, R.TOR_CFG_ERR_MULTI, R.TOR_CFG_ERR_OFFSET, R.TOR_COORD, R.TOR_TIMEOUT, R.TOR_RED_VALID, R.TOR_RED_OP, R.TOR_RED_PARENT, R.TOR_RED_CHILDREN, R.TOR_RED_FMT, R.TOR_RED_PARTITION, R.TOR_S_CFG_ENABLE, R.TOR_S_CFG_SOURCE, R.TOR_S_CFG_DEADLINE, R.TOR_S_CFG_SLOTS_LOG2, R.TOR_S_CFG_CHUNK_LOG2, R.TOR_S_CFG_CONTEXT, R.TOR_S_OWNER, R.TOR_S_RING, R.TOR_S_STATUS_RING, R.TOR_S_LATE, R.TOR_S_EARLY, R.TOR_S_BYTES, R.TOR_P_CFG_ERR_CFG_ERR, R.TOR_P_CFG_ERR_MULTI, R.TOR_P_CFG_ERR_OFFSET, R.TOR_P_ACCEPT_CTX_MASK, R.TOR_P_ACCEPT_JOB]
def R.table9 : List Fld := [R.TOR_Q_RING, R.TOR_Q_CPL, R.TOR_Q_TAIL, R.TOR_Q_STAT, R.TOR_Q_CFG_ENABLE, R.TOR_Q_CFG_POLL_US, R.TOR_Q_CFG_CONTEXT, R.TOR_Q_CFG_SIZE, R.TOR_Q_CFG_JOB, R.TOR_Q_DONE, R.KNL_CTRL_CLEAR_STATS, R.KNL_CTRL_RESTORE, R.KNL_CTRL_ENABLE, R.KNL_CFG_INTERVAL, R.KNL_STATUS_STATE, R.KNL_STATUS_BUDDY_UP, R.KNL_EVENT_MISMATCH, R.KNL_EVENT_RESTORED, R.KNL_EVENT_ABANDONED, R.KNL_EVENT_SKIPPED, R.KNL_EVENT_OVERFLOW, R.KNL_CFG_ERR_CFG_ERR, R.KNL_CFG_ERR_MULTI, R.KNL_CFG_ERR_OFFSET, R.KNL_LAST, R.KNL_STORE_BASE, R.KNL_STORE_SIZE, R.KNL_LOG_SIZE, R.KNL_STAGE_BASE, R.KNL_STAGE_SIZE, R.KNL_SENT, R.KNL_HELD, R.KNL_REGION_VALID, R.KNL_REGION_BASE, R.KNL_REGION_SIZE, R.SBR_STATUS_STATE, R.SBR_STATUS_POSITION, R.SBR_STATUS_RING_SIZE, R.SBR_CTRL_CLEAR_STATS, R.SBR_CTRL_LEAVE, R.SBR_EVENT_RETRY_FAIL, R.SBR_EVENT_HOP_FAIL, R.SBR_EVENT_CRC, R.SBR_EVENT_RELOCK, R.SBR_HOP_DOWN, R.SBR_FRAMES, R.SBR_CRC_ERR, R.SBR_CFG_ERR_CFG_ERR, R.SBR_CFG_ERR_MULTI, R.SBR_CFG_ERR_OFFSET]
def R.table10 : List Fld := [R.PCI_STATUS_READY, R.PCI_STATUS_HEEL, R.PCI_STATUS_SPEED, R.PCI_STATUS_WIDTH, R.PCI_STATUS_FLIT, R.PCI_STATUS_LPOWER, R.PCI_STATUS_DSTATE, R.PCI_STATUS_D2_DEFERRED, R.PCI_CTRL_CLEAR_STATS, R.PCI_CTRL_L0P_AUTO, R.PCI_CTRL_WAKE_SBR, R.PCI_CTRL_WAKE_STREAM, R.PCI_BAR2_BASE_BASE, R.PCI_CFG_ERR_CFG_ERR, R.PCI_CFG_ERR_MULTI, R.PCI_CFG_ERR_OFFSET, R.PCI_TAG_LIMIT_VF_TAGS, R.PCI_TAGS_OUT, R.PCI_LATE, R.PCI_DISCARDS, R.PCI_UNEXPECTED, R.PCI_BAR_ERR, R.PCI_RD_BYTES, R.PCI_WR_BYTES, R.PCI_PF_PARTIRQ, R.PCI_FN_STATE_FLR_BUSY, R.PCI_FN_STATE_BME, R.PCI_FN_STATE_FGEN, R.PCI_MSIX_ADDR, R.PCI_MSIX_DATA, R.PCI_MSIX_MASK, R.PCI_MSIX_PBA, R.PCI_VF_MSIX_ADDR, R.PCI_VF_MSIX_DATA, R.PCI_VF_MSIX_MASK, R.PCI_VF_MSIX_PBA, R.PCI_VF_STATUS_READY, R.PCI_VF_STATUS_HEEL, R.PCI_VF_STATUS_FGEN, R.PCI_VF_APT_ENABLE, R.PCI_VF_APT_CONTEXT, R.PCI_VF_APT_APT_BASE, R.PCI_VF_APT_FAULTS, R.HEL_SUMMARY_HOST, R.HEL_SUMMARY_EDGE, R.HEL_SUMMARY_BAY, R.HEL_SUMMARY_ISLAND, R.HEL_HOST_STATUS_ACTIVE, R.HEL_HOST_STATUS_REFUSED, R.HEL_HOST_STATUS_CAUSE]
def R.table11 : List Fld := [R.HEL_RELEASE_FORCE, R.HEL_RELEASE_RELEASE, R.HEL_CFG_ERR_CFG_ERR, R.HEL_CFG_ERR_MULTI, R.HEL_CFG_ERR_OFFSET, R.HEL_ENTRY_TICK, R.HEL_HELD, R.HEL_FAILED, R.HEL_DISCARDED, R.PAR_CHECK_REJECT, R.PAR_CHECK_REASON, R.PAR_CHECK_PARTITION, R.PAR_CHECK_CLUSTER, R.PAR_CHECK_MOVES_PENDING, R.PAR_CFG_ERR_CFG_ERR, R.PAR_CFG_ERR_MULTI, R.PAR_CFG_ERR_OFFSET, R.PAR_CFG_ENABLE, R.PAR_CFG_STRICT, R.PAR_CFG_ISLAND, R.PAR_CFG_IMG_STORE, R.PAR_CTRL_ZERO, R.PAR_CTRL_RESET, R.PAR_STATUS_RESET_BUSY, R.PAR_STATUS_ZERO_BUSY, R.PAR_STATUS_DRAINING, R.PAR_STATUS_ZERO_FAIL, R.PAR_STATUS_CLUSTERS, R.PAR_STATUS_GEN, R.PAR_QUOTA_VALID, R.PAR_QUOTA_SIZE, R.PAR_QUOTA_BASE, R.PAR_CLU_OWNER, R.PAR_P_CFG_ERR_CFG_ERR, R.PAR_P_CFG_ERR_MULTI, R.PAR_P_CFG_ERR_OFFSET, R.PAR_P_STATUS_STRICT, R.PAR_P_STATUS_ISLAND, R.PAR_P_STATUS_CLUSTERS, R.PAR_P_STATUS_GEN, R.PAR_P_QUOTA, R.PAR_CTX_CFG_ENABLE, R.PAR_CTX_CFG_CONFIDENTIAL, R.PAR_CTX_CFG_STATE, R.PAR_CTX_SCHED, R.SEC_STATUS_IDENTITY, R.SEC_STATUS_TEST_KEY, R.SEC_STATUS_ACTIVATING, R.SEC_STATUS_STAGING, R.SEC_STATUS_PACK_UNSIGNED]
def R.table12 : List Fld := [R.SEC_STATUS_BLOCKS_USED, R.SEC_CTRL_CLEAR_STATS, R.SEC_CTRL_COMMIT_SVN, R.SEC_CTRL_ACTIVATE, R.SEC_CTRL_STAGE, R.SEC_ATT_RATE_BURST, R.SEC_ATT_RATE_PERIOD_MS, R.SEC_EVENT_DEBUG_TOUCH, R.SEC_EVENT_AUTH_FAIL, R.SEC_EVENT_PACK_ACTIVE, R.SEC_EVENT_PACK_REJECT, R.SEC_EVENT_SIGN_EXHAUSTED, R.SEC_EVENT_SIGN_LOW, R.SEC_CFG_ERR_CFG_ERR, R.SEC_CFG_ERR_MULTI, R.SEC_CFG_ERR_OFFSET, R.SEC_SIGN_LEFT_LEFT, R.SEC_PACK_SRC_SRC, R.SEC_PACK_LEN_LEN, R.SEC_PACK_RESULT, R.SEC_ATT_COUNT, R.SEC_ATT_BUSY, R.SEC_DEBUG_TICKS, R.SEC_PACK_DENIED, R.SEC_DIE_STATE_STATE, R.SEC_DIE_STATE_DIE_GEN, R.SEC_DIE_SVN_COLLAR, R.SEC_DIE_SVN_PACK, R.SEC_COLLAR_MEAS, R.SEC_PACK_MEAS, R.SEC_PACK_STAGED, R.SEC_DISCLOSE, R.LCS_STATE_STATE, R.LCS_STATE_TARGET, R.LCS_STATE_LAST_MARK, R.LCS_STATE_ID_BANK, R.LCS_STATE_ID_READY, R.LCS_STATE_BANK_A_SPOILED, R.LCS_STATE_BANK_B_SPOILED, R.LCS_STATE_CERT, R.LCS_ARM, R.LCS_CMD_CMD, R.LCS_RESULT_DONE, R.LCS_RESULT_REASON, R.LCS_CFG_ERR_CFG_ERR, R.LCS_CFG_ERR_MULTI, R.LCS_CFG_ERR_OFFSET, R.LCS_BLOB_ADDR_ADDR, R.LCS_BLOB_LEN_LEN, R.LCS_SERIAL]
def R.table13 : List Fld := [R.LCS_ID_DIGEST, R.BST_CTRL_CLEAR_STATS, R.BST_CTRL_CLEAR_FAILS, R.BST_CTRL_ROT_ENABLE, R.BST_ROT_CFG_INTERVAL_MS, R.BST_STATUS_ROT_STATE, R.BST_STATUS_OFF_REASON, R.BST_STATUS_FAILED, R.BST_EVENT_DEGRADED, R.BST_EVENT_KAT_FAIL, R.BST_EVENT_START_FAIL, R.BST_EVENT_SLICE_FAIL, R.BST_CFG_ERR_CFG_ERR, R.BST_CFG_ERR_MULTI, R.BST_CFG_ERR_OFFSET, R.BST_START_RESULT_CLU_FAIL, R.BST_START_RESULT_PORT_FAIL, R.BST_START_RESULT_MOD_FAIL, R.BST_START_RESULT_REPAIRS, R.BST_SLICES, R.BST_SLICE_FAILS, R.BST_FUSE_GOOD, R.BST_FAIL_MAP, R.BST_START_STEP, R.BST_START_DIE, R.BST_START_COLD, R.BST_START_FALLBACK, R.BST_START_FAILED, R.BST_START_ELAPSED_MS, R.BST_NEXT_NEXT_COLD, R.BST_STEP_MS_EVEN, R.BST_STEP_MS_ODD, R.PWR_STATUS_FCLK_LOCK, R.PWR_STATUS_TCLK_LOCK, R.PWR_STATUS_BAY_B_GOOD, R.PWR_STATUS_BAY_A_GOOD, R.PWR_STATUS_HBM_GOOD, R.PWR_STATUS_SRAM_GOOD, R.PWR_STATUS_CORE_GOOD, R.PWR_STATUS_IO_GOOD, R.PWR_STATUS_VAUX_GOOD, R.PWR_CORE_VID_MV, R.PWR_CORE_POWER_W, R.PWR_WAVE_WAVE_US, R.PWR_EVENT_RAIL_FAULT, R.PWR_EVENT_AVS_LIMIT, R.PWR_CFG_ERR_CFG_ERR, R.PWR_CFG_ERR_MULTI, R.PWR_CFG_ERR_OFFSET, R.PWR_CLU_ON]
def R.table14 : List Fld := [R.ERR_CTRL_CLEAR_STATS, R.ERR_EVENT_PACK_WDT, R.ERR_EVENT_THERMAL, R.ERR_EVENT_QWRITE_FAIL, R.ERR_EVENT_LOST, R.ERR_CFG_ERR_CFG_ERR, R.ERR_CFG_ERR_MULTI, R.ERR_CFG_ERR_OFFSET, R.ERR_SEQ, R.ERR_QUEUE_BASE_BASE, R.ERR_TEL_BASE_BASE, R.ERR_TEL_CFG_TEL_EVERY, R.ERR_TEL_CFG_TEL_LOG2, R.ERR_THERMAL_TEMP, R.ERR_THERMAL_LEVEL, R.ERR_THERMAL_TCLK_16, R.ERR_THERMAL_THROTTLE_C, R.ERR_WDT_PACK_STATE, R.ERR_WDT_RESETS, R.ERR_WDT_WDT_MS, R.ERR_Q_HEAD, R.ERR_Q_ACK, R.ERR_Q_STATUS_LOST_SEV, R.ERR_Q_STATUS_LOST, R.ERR_Q_STATUS_UNHANDLED, R.ERR_MIRROR_LO_ADDR, R.ERR_MIRROR_LO_ENABLE, R.ERR_MIRROR_HI_ADDR, R.ERR_PKG_CTRL_DIE_RESET, R.ERR_PKG_EVENT_MIRROR_GAP, R.ERR_PKG_EVENT_POWER_CAP, R.ERR_PKG_POWER_LIMIT_W, R.ERR_PKG_POWER_POWER_W, R.AGE_STATUS_VALID, R.AGE_STATUS_DAYS, R.AGE_EOL_EOL_DAYS, R.AGE_EOL_FIT_DAY, R.AGE_EOL_BAND_HIGH, R.AGE_EOL_BAND_LOW, R.AGE_EOL_SOURCE_KIND, R.AGE_EOL_SOURCE_INDEX, R.AGE_CFG_WARN_PS, R.AGE_CFG_CRIT_PS, R.AGE_CFG_NEAR_DAYS, R.AGE_EVENT_EOL_NEAR, R.AGE_EVENT_CRIT, R.AGE_EVENT_WARN, R.AGE_CFG_ERR_CFG_ERR, R.AGE_CFG_ERR_MULTI, R.AGE_CFG_ERR_OFFSET]
def R.table15 : List Fld := [R.AGE_SENSOR_MARGIN0, R.AGE_SENSOR_MARGIN, R.AGE_STACK_HOURS_85, R.AGE_STACK_HOURS_90, R.AGE_STACK_RET, R.AGE_LANE_HBM, R.AGE_LANE_RING, R.AGE_LANE_BAY, R.AGE_LANE_TORUS, R.AGE_PKG_EOL_DAYS, R.AGE_PKG_DIE, R.AGE_PKG_VALID]

/-- Every register field of the package. -/
def R.table : List Fld :=
  R.table0 ++ R.table1 ++ R.table2 ++ R.table3 ++ R.table4 ++ R.table5 ++ R.table6 ++ R.table7 ++ R.table8 ++ R.table9 ++ R.table10 ++ R.table11 ++ R.table12 ++ R.table13 ++ R.table14 ++ R.table15

end Sys2Proof.Machine
end

