-- ==== Sys2Proof/Machine/Float.lean ====
section
/-! DEFINITION. Floating-point formats, exact values and the roundings of "Number Formats and Arithmetic" (R99 to R108,
R115, R116, R119). Every finite value is a sign, a magnitude and a power of two; nothing is rounded but where a rule says. -/

namespace Sys2Proof.Machine

/-- How a format spends its top encodings (R100). -/
inductive FmtKind where
  | ieee      -- exponent all ones: infinity or NaN
  | e4m3      -- S.1111.111 is NaN, no infinity
  | finite    -- no NaN and no infinity
  deriving DecidableEq, Repr

/-- A floating-point format of R100. -/
structure Fmt where
  eb : Nat
  mb : Nat
  bias : Int
  kind : FmtKind
  nan : Nat          -- the canonical NaN of R101
  deriving DecidableEq, Repr

def fp64 : Fmt := ⟨11, 52, 1023, .ieee, 0x7FF8000000000000⟩
def fp32 : Fmt := ⟨8, 23, 127, .ieee, 0x7FC00000⟩
def fp16 : Fmt := ⟨5, 10, 15, .ieee, 0x7E00⟩
def bf16 : Fmt := ⟨8, 7, 127, .ieee, 0x7FC0⟩
def e5m2 : Fmt := ⟨5, 2, 15, .ieee, 0x7F⟩
def e4m3 : Fmt := ⟨4, 3, 7, .e4m3, 0x7F⟩
def e3m2 : Fmt := ⟨3, 2, 3, .finite, 0⟩
def e2m3 : Fmt := ⟨2, 3, 1, .finite, 0⟩
def e2m1 : Fmt := ⟨2, 1, 1, .finite, 0⟩

/-- The bits of a format without its sign. -/
def Fmt.magBits (f : Fmt) : Nat := f.eb + f.mb

/-- The sign bit in place. -/
def Fmt.sign (f : Fmt) (neg : Bool) : Nat := if neg then 2 ^ (f.eb + f.mb) else 0

/-- The magnitude bits of the largest finite value (R100). -/
def Fmt.maxMag (f : Fmt) : Nat :=
  match f.kind with
  | .ieee => ((2 ^ f.eb - 1) <<< f.mb) - 1
  | .e4m3 => 2 ^ (f.eb + f.mb) - 2
  | .finite => 2 ^ (f.eb + f.mb) - 1

/-- The magnitude bits of infinity, where the format has one. -/
def Fmt.infMag (f : Fmt) : Nat := (2 ^ f.eb - 1) <<< f.mb

/-- A value: NaN, an infinity, or a sign with magnitude `m * 2 ^ e`. -/
inductive FVal where
  | nan
  | inf (neg : Bool)
  | fin (neg : Bool) (m : Nat) (e : Int)
  deriving DecidableEq, Repr

/-- The value of an encoding (R100); subnormals at their value (R101). -/
def Fmt.decode (f : Fmt) (v : Nat) : FVal :=
  let neg := bit v (f.eb + f.mb)
  let be := bits v f.mb f.eb
  let fr := bits v 0 f.mb
  if f.kind = .ieee ∧ be = 2 ^ f.eb - 1 then (if fr = 0 then .inf neg else .nan)
  else if f.kind = .e4m3 ∧ be = 2 ^ f.eb - 1 ∧ fr = 2 ^ f.mb - 1 then .nan
  else if be = 0 then .fin neg fr (1 - f.bias - f.mb)
  else .fin neg (2 ^ f.mb + fr) (be - f.bias - f.mb)

/-- The rounding of a conversion: to nearest even, or stochastic with a 16-bit random value (R105, R106). -/
inductive Rnd where
  | rne
  | sr (r : Nat)
  deriving DecidableEq, Repr

/-- The magnitude bits of `m * 2 ^ e` rounded to the grid of a format with unbounded exponent (R105, R106). -/
def Fmt.roundMag (f : Fmt) (rnd : Rnd) (m : Nat) (e : Int) : Nat :=
  if m = 0 then 0 else
  let emin : Int := 1 - f.bias
  let l : Int := (Nat.log2 m : Int) + e
  let u : Int := max l emin - f.mb
  let k := (u - (emin - f.mb)).toNat
  let q :=
    if u ≤ e then m <<< (e - u).toNat
    else
      let d := (u - e).toNat
      let q := m >>> d
      let rem := m % 2 ^ d
      let up := match rnd with
        | .rne => decide (2 ^ d < 2 * rem) || (decide (2 * rem = 2 ^ d) && q % 2 = 1)
        | .sr r => decide (r < (rem <<< 16) >>> d)
      if up then q + 1 else q
  (k <<< f.mb) + q

/-- The encoding of a value on a path that rounds to nearest even and overflows to infinity (R115). -/
def Fmt.encode (f : Fmt) : FVal → Nat
  | .nan => f.nan
  | .inf neg => f.sign neg + f.infMag
  | .fin neg m e =>
    let b := f.roundMag .rne m e
    f.sign neg + (if b ≤ f.maxMag then b else f.infMag)

/-- The encoding of a value by a conversion, with its rounding and overflow mode (R119). -/
def Fmt.convert (f : Fmt) (rnd : Rnd) (sat : Bool) : FVal → Nat
  | .nan => f.nan
  | .inf neg =>
    if sat ∧ f ≠ fp64 then f.sign neg + f.maxMag
    else if f.kind = .ieee then f.sign neg + f.infMag
    else if f.kind = .e4m3 then f.nan
    else f.sign neg + f.maxMag
  | .fin neg m e =>
    let b := f.roundMag rnd m e
    if b ≤ f.maxMag then f.sign neg + b
    else if sat then f.sign neg + f.maxMag
    else if f.kind = .ieee then f.sign neg + f.infMag
    else if f.kind = .e4m3 then f.nan
    else f.sign neg + f.maxMag

/-- The signed mantissa of a finite value. -/
def smant (neg : Bool) (m : Nat) : Int := if neg then -(m : Int) else (m : Int)

/-- A signed dyadic number as a value; an exact zero is +0 unless `zneg` (R101). -/
def ofDyadic (zneg : Bool) (n e : Int) : FVal :=
  if n = 0 then .fin zneg 0 0 else .fin (decide (n < 0)) n.natAbs e

/-- `n * 2 ^ e` as an integer at a lower or equal exponent `e'`. -/
def scaleTo (e' : Int) (n e : Int) : Int := n * (2 ^ (e - e').toNat : Nat)

/-- Exact sum of two values (R115 before its rounding; zero signs by R101). -/
def FVal.add : FVal → FVal → FVal
  | .nan, _ => .nan
  | _, .nan => .nan
  | .inf a, .inf b => if a = b then .inf a else .nan
  | .inf a, .fin _ _ _ => .inf a
  | .fin _ _ _, .inf b => .inf b
  | .fin a m e, .fin b m' e' =>
    let e0 := min e e'
    ofDyadic (a && b) (scaleTo e0 (smant a m) e + scaleTo e0 (smant b m') e') e0

/-- Exact product of two values. -/
def FVal.mul : FVal → FVal → FVal
  | .nan, _ => .nan
  | _, .nan => .nan
  | .inf a, .inf b => .inf (a != b)
  | .inf a, .fin b m _ => if m = 0 then .nan else .inf (a != b)
  | .fin a m _, .inf b => if m = 0 then .nan else .inf (a != b)
  | .fin a m e, .fin b m' e' => .fin (a != b) (m * m') (e + e')

/-- The value with its sign inverted. -/
def FVal.neg : FVal → FVal
  | .nan => .nan
  | .inf a => .inf (!a)
  | .fin a m e => .fin (!a) m e

/-- Less-than on numbers; false if either is NaN. Zeros are equal (R116). -/
def FVal.lt : FVal → FVal → Bool
  | .nan, _ => false
  | _, .nan => false
  | .inf a, .inf b => a && !b
  | .inf a, .fin _ _ _ => a
  | .fin _ _ _, .inf b => !b
  | .fin a m e, .fin b m' e' =>
    let e0 := min e e'
    decide (scaleTo e0 (smant a m) e < scaleTo e0 (smant b m') e')

/-- Equality on numbers; false if either is NaN. Zeros are equal (R116). -/
def FVal.eq : FVal → FVal → Bool
  | .nan, _ => false
  | _, .nan => false
  | a, b => !(a.lt b) && !(b.lt a)

/-- Whether the sign is set. -/
def FVal.isNeg : FVal → Bool
  | .nan => false
  | .inf a => a
  | .fin a _ _ => a

/-- IEEE 754-2019 minimumNumber: a NaN loses to a number, −0 orders below +0 (R116). -/
def FVal.minNum : FVal → FVal → FVal
  | .nan, b => b
  | a, .nan => a
  | a, b => if a.lt b then a else if b.lt a then b else if a.isNeg then a else b

/-- IEEE 754-2019 maximumNumber (R116). -/
def FVal.maxNum : FVal → FVal → FVal
  | .nan, b => b
  | a, .nan => a
  | a, b => if a.lt b then b else if b.lt a then a else if a.isNeg then b else a

/-- The generator streams after seeding (R107). -/
def genInit (seed : Nat) : List Nat :=
  [0, 1, 2, 3].map fun k =>
    let x := (seed % 2 ^ 64) ^^^ ((k * 0x9E3779B97F4A7C15) % 2 ^ 64)
    if x = 0 then 0x2545F4914F6CDD1D else x

/-- One xorshift step (R107). -/
def genStep (x : Nat) : Nat :=
  let x := x ^^^ ((x <<< 13) % 2 ^ 64)
  let x := x ^^^ (x >>> 7)
  x ^^^ ((x <<< 17) % 2 ^ 64)

/-- The generator after a pass of a conversion with SR (R107, R108). -/
def genPass (g : List Nat) : List Nat := g.map genStep

/-- The 16 bits lane `l` takes from the generator (R107). -/
def genLane (g : List Nat) (l : Nat) : Nat := bits (g.getD (l / 4) 0) (16 * (l % 4)) 16

end Sys2Proof.Machine
end

