-- ==== Sys2Proof/Machine/Transc.lean ====
section
/-! DEFINITION. Transcendentals (R117, R118). The device's result is a free value held within the error bound of R117:
the exact value is approached in fixed point, and a free result further from it than the bound allows is replaced by
the rounded exact value. The special results of R118 are exact. -/

namespace Sys2Proof.Machine

/-- Fraction bits of the fixed-point evaluation; far below the last place of every destination. -/
def fxBits : Nat := 1400

/-- Fixed-point product, quotient and integer. -/
def fxMul (a b : Int) : Int := (a * b) / (2 ^ fxBits : Nat)
def fxDiv (a b : Int) : Int := if b = 0 then 0 else (a * (2 ^ fxBits : Nat)) / b
def fxInt (a : Int) : Int := a * (2 ^ fxBits : Nat)

/-- `m * 2 ^ e` in fixed point. -/
def fxOf (n e : Int) : Int :=
  let sh := e + fxBits
  if 0 ≤ sh then n * (2 ^ sh.toNat : Nat) else n / (2 ^ (-sh).toNat : Nat)

/-- Sum of the series with first term `t`, where term k+1 is term k times `x` over `den k`. -/
def fxSeries (x : Int) (den : Nat → Nat) : Nat → Nat → Int → Int
  | 0, _, t => t
  | n + 1, k, t => t + fxSeries x den n (k + 1) (fxMul t x / (den k : Int))

/-- exp on a small argument. -/
def fxExpSmall (x : Int) : Int := fxSeries x (fun k => k + 1) 400 0 (fxInt 1)

/-- Sum of x^(2k+1)/(2k+1) for `n` terms, with alternating signs if `alt`. -/
def fxOdd (alt : Bool) (x2 : Int) : Nat → Nat → Int → Int
  | 0, _, _ => 0
  | n + 1, k, p => p / ((2 * k + 1 : Nat) : Int) + fxOdd alt x2 n (k + 1) (if alt then -(fxMul p x2) else fxMul p x2)

def fxAtanInv (n : Nat) : Int :=
  let x := fxInt 1 / (n : Int)
  fxOdd true (fxMul x x) 700 0 x

/-- The circle constant by Machin's formula, and the natural logarithm of 2. -/
def fxPi : Int := 16 * fxAtanInv 5 - 4 * fxAtanInv 239
def fxLn2 : Int :=
  let x := fxInt 1 / 3
  2 * fxOdd false (fxMul x x) 500 0 x

/-- Natural logarithm of `m * 2 ^ e`, m not 0: the mantissa is scaled into [1, 2). -/
def fxLn (m : Nat) (e : Int) : Int :=
  let l := Nat.log2 m
  let y := fxOf m (-(l : Int))
  let z := fxDiv (y - fxInt 1) (y + fxInt 1)
  2 * fxOdd false (fxMul z z) 1000 0 z + ((l : Int) + e) * fxLn2

/-- exp of a fixed-point number as a mantissa and a power of two. -/
def fxExp (x : Int) : Int × Int :=
  let k := x / fxLn2
  (fxExpSmall (x - k * fxLn2), k - fxBits)

/-- sin by its series after reduction by the circle constant. -/
def fxSin (x : Int) : Int :=
  let p := fxPi
  let r := x - (x / (2 * p)) * (2 * p)
  let r := if p < r then r - 2 * p else r
  fxSeries (-(fxMul r r)) (fun k => (2 * k + 2) * (2 * k + 3)) 300 0 r

/-- Square root of pi in fixed point. -/
def fxSqrtPi : Int := (Nat.sqrt (fxPi.toNat * 2 ^ fxBits) : Int)

/-- Terms of the error-function series. -/
def fxErfSum (x2 : Int) : Nat → Nat → Int → Int
  | 0, _, _ => 0
  | n + 1, k, p => p / ((2 * k + 1 : Nat) : Int) + fxErfSum x2 n (k + 1) (-(fxMul p x2) / ((k + 1 : Nat) : Int))

/-- The exact value, nearly, of a transcendental on a finite argument, as a value (operation codes 0 exp, 1 exp2, 2 log,
3 log2, 4 reciprocal, 5 sqrt, 6 rsqrt, 7 sin, 8 cos, 9 tanh, 10 sigmoid, 11 erf). The argument is not 0 where the function
has a pole there. -/
def transcRef (op : Nat) (neg : Bool) (m : Nat) (e : Int) : FVal :=
  let n := smant neg m
  let big := decide (11 ≤ (Nat.log2 m : Int) + e) && m != 0
  let x := fxOf n e
  match op with
  | 0 => if big then (if neg then .fin false 0 0 else .inf false)
         else let (a, k) := fxExp x; ofDyadic false a k
  | 1 => if big then (if neg then .fin false 0 0 else .inf false)
         else let (a, k) := fxExp (fxMul x fxLn2); ofDyadic false a k
  | 2 => ofDyadic false (fxLn m e) (-(fxBits : Int))
  | 3 => ofDyadic false (fxDiv (fxLn m e) fxLn2) (-(fxBits : Int))
  | 4 => .fin neg (2 ^ fxBits / m) (-(fxBits : Int) - e)
  | 5 => let e2 := e / 2
         .fin false (Nat.sqrt (m * 2 ^ (e - 2 * e2).toNat * 2 ^ (2 * fxBits))) (e2 - fxBits)
  | 6 => let e2 := e / 2
         .fin false (2 ^ (2 * fxBits) / Nat.sqrt (m * 2 ^ (e - 2 * e2).toNat * 2 ^ (2 * fxBits))) (-e2 - fxBits)
  | 7 => if m = 0 then .fin neg 0 0 else ofDyadic false (fxSin x) (-(fxBits : Int))
  | 8 => ofDyadic false (fxSin (x + fxPi / 2)) (-(fxBits : Int))
  | 9 => if m = 0 then .fin neg 0 0
         else if big then .fin neg 1 0
         else let (a, k) := fxExp (-(2 * (x.natAbs : Int)))
              let t := fxOf a k
              let r := fxDiv (fxInt 1 - t) (fxInt 1 + t)
              .fin neg r.toNat (-(fxBits : Int))
  | 10 => if big then (if neg then .fin false 0 0 else .fin false 1 0)
          else let (a, k) := fxExp (-(x.natAbs : Int))
               let t := fxOf a k
               ofDyadic false (fxDiv (if neg then t else fxInt 1) (fxInt 1 + t)) (-(fxBits : Int))
  | _ => if m = 0 then .fin neg 0 0
         else if decide (4 ≤ (Nat.log2 m : Int) + e) then .fin neg 1 0
         else let a : Int := (x.natAbs : Int)
              let s := fxErfSum (fxMul a a) 1500 0 a
              .fin neg (fxDiv (2 * s) fxSqrtPi).toNat (-(fxBits : Int))

/-- The error bound of R117 in units in the last place; format code 0 FP32, 1 BF16, 2 FP64. -/
def transcUlp (op lf : Nat) : Nat :=
  if lf = 1 then 1
  else if op = 4 ∨ op = 5 ∨ op = 6 then 1
  else if 9 ≤ op then 3 else 2

/-- A finite value as a multiple of 2 ^ `lo`, for a `lo` no higher than its own power. -/
def FVal.scaled (lo : Int) : FVal → Int
  | .fin neg m e => scaleTo lo (smant neg m) e
  | _ => 0

/-- The value of an encoding that is not a NaN, with the next power of two beyond the largest number for an infinity. -/
def Fmt.reach (f : Fmt) (v : Nat) : FVal :=
  match f.decode v with
  | .inf neg => .fin neg (2 ^ f.mb) ((2 ^ f.eb - 1 : Nat) - f.bias - f.mb)
  | x => x

/-- The place of the last bit of a format at a magnitude `m * 2 ^ e`. -/
def Fmt.ulpAt (f : Fmt) (m : Nat) (e : Int) : Int :=
  let emin : Int := 1 - f.bias
  (if m = 0 then emin else max ((Nat.log2 m : Int) + e) emin) - f.mb

/-- The free result `c` where it is within `u` units in the last place of the exact value `r`; else `r` as the format holds it, which is nearer
(R117; log entry 4). A value beyond range is infinity, and no choice is left (R118). -/
def holdUlp (f : Fmt) (u c : Nat) (r : FVal) : Nat :=
  let c := c % 2 ^ (f.magBits + 1)
  let b := f.encode r
  match r, f.reach c with
  | .fin _ m e, .fin n2 m2 e2 =>
    if b % 2 ^ f.magBits = f.infMag then b
    else
      let p := f.ulpAt m e
      let lo := min e (min e2 p)
      if ((FVal.fin n2 m2 e2).scaled lo - r.scaled lo).natAbs ≤ u * 2 ^ (p - lo).toNat then c else b
  | _, _ => b

/-- Beyond the domain limit of R117, sin and cos return some value in [−1, 1]. -/
def holdUnit (f : Fmt) (c : Nat) : Nat :=
  let c := c % 2 ^ (f.magBits + 1)
  if c % 2 ^ f.magBits ≤ f.encode (.fin false 1 0) then c else 0

/-- A transcendental of one lane (R117, R118): special results exact, others free within the bound. -/
def transc (op lf : Nat) (f : Fmt) (v : Nat) : Nat :=
  let c := Config.transcendental op lf v
  match f.decode v with
  | .nan => f.nan
  | .inf neg =>
    match op with
    | 0 => if neg then 0 else f.infMag
    | 1 => if neg then 0 else f.infMag
    | 2 => if neg then f.nan else f.infMag
    | 3 => if neg then f.nan else f.infMag
    | 4 => f.sign neg
    | 5 => if neg then f.nan else f.infMag
    | 6 => if neg then f.nan else 0
    | 7 => f.nan
    | 8 => f.nan
    | 9 => f.encode (.fin neg 1 0)
    | 10 => if neg then 0 else f.encode (.fin false 1 0)
    | _ => f.encode (.fin neg 1 0)
  | .fin neg m e =>
    if m = 0 ∧ (op = 2 ∨ op = 3) then f.sign true + f.infMag
    else if m = 0 ∧ (op = 4 ∨ op = 6) then f.sign neg + f.infMag
    else if m = 0 ∧ op = 5 then f.sign neg
    else if neg ∧ (op = 2 ∨ op = 3 ∨ op = 5 ∨ op = 6) then f.nan
    else if (op = 7 ∨ op = 8) ∧ m ≠ 0 ∧ (FVal.fin false 1 (if lf = 2 then 40 else 20)).lt (.fin false m e) then holdUnit f c
    else holdUlp f (transcUlp op lf) c (transcRef op neg m e)

end Sys2Proof.Machine
end

