-- ==== Sys2Proof/Machine/Flags.lean ====
section
/-! DEFINITION. The lane arithmetic of the vector unit (R115 to R118, R164), the conversions (R119, R120, R166 to R169) and
the precision dial (R121 to R130), on bits alone: no state. The block has no flag register; comparisons answer in lanes. -/

namespace Sys2Proof.Machine

/-- Lane formats of R162: 0 FP32, 1 BF16, 2 FP64; bytes per lane. -/
def lfFmt (lf : Nat) : Fmt := if lf = 0 then fp32 else if lf = 1 then bf16 else fp64
def lfBytes (lf : Nat) : Nat := if lf = 0 then 4 else if lf = 1 then 2 else 8

/-- All ones or zero in a lane (R116). -/
def laneBool (lf : Nat) (p : Bool) : Nat := if p then 2 ^ (8 * lfBytes lf) - 1 else 0

/-- One lane of the vector operations 0x40 to 0x50 and 0x53 to 0x5E (R164). -/
def laneOp (op lf a b d : Nat) : Nat :=
  let f := lfFmt lf
  let va := f.decode a
  let vb := f.decode b
  let vd := f.decode d
  match op with
  | 0x40 => f.encode (va.add vb)
  | 0x41 => f.encode (va.add vb.neg)
  | 0x42 => f.encode (va.mul vb)
  | 0x43 => f.encode ((va.mul vb).add vd)
  | 0x44 => f.encode (va.minNum vb)
  | 0x45 => f.encode (va.maxNum vb)
  | 0x46 => laneBool lf (va.eq vb)
  | 0x47 => laneBool lf (!(va.eq vb))
  | 0x48 => laneBool lf (va.lt vb)
  | 0x49 => laneBool lf (va.lt vb || va.eq vb)
  | 0x4A => a &&& b
  | 0x4B => a ||| b
  | 0x4C => a ^^^ b
  | 0x4D => (d &&& a) ||| ((2 ^ (8 * lfBytes lf) - 1 - d) &&& b)
  | 0x4E => if va = .nan then f.nan else a % 2 ^ f.magBits
  | 0x4F => if va = .nan then f.nan else a ^^^ f.sign true
  | 0x50 => if va = .nan then f.nan else a
  | _ => transc (op - 0x53) lf f a

/-- The lanes of a 32-byte vector. -/
def lanesOf (lf : Nat) (bs : List Byte) : List Nat :=
  (List.range (32 / lfBytes lf)).map fun l => leNat ((bs.drop (l * lfBytes lf)).take (lfBytes lf))

/-- The 32-byte vector of lanes. -/
def bytesOfLanes (lf : Nat) (ls : List Nat) : List Byte := ls.flatMap (leBytes (lfBytes lf))

/-- One pass of a lane-wise operation. -/
def passOp (op lf : Nat) (a b d : List Nat) : List Nat :=
  (List.range (32 / lfBytes lf)).map fun l => laneOp op lf (a.getD l 0) (b.getD l 0) (d.getD l 0)

/-- Pairwise combination of neighbours: one level of the tree of R164. -/
def pairUp (g : Nat → Nat → Nat) : List Nat → List Nat
  | a :: b :: r => g a b :: pairUp g r
  | l => l

/-- The pairwise tree over the lanes of a pass (R164); three levels serve sixteen lanes' worth of halving and one more. -/
def treeOf (g : Nat → Nat → Nat) (ls : List Nat) : Nat :=
  (pairUp g (pairUp g (pairUp g (pairUp g ls)))).headD 0

/-- VRSUM and VRMAX take lane 0 of D, then each pass's tree, in pass order (R164; the place of d0 is DEDUCED, log entry 6). -/
def reduceOp (op lf : Nat) (acc : Nat) (pass : List Nat) : Nat :=
  let f := lfFmt lf
  let g : Nat → Nat → Nat := fun x y =>
    if op = 0x51 then f.encode ((f.decode x).add (f.decode y)) else f.encode ((f.decode x).maxNum (f.decode y))
  g acc (treeOf g pass)

/-- Conversion formats (R166): bits per element; codes 0 to 9. -/
def cvtBits (c : Nat) : Nat :=
  match c with
  | 0 => 64 | 1 => 32 | 2 => 16 | 3 => 16 | 4 => 8 | 5 => 8 | 6 => 8 | 7 => 4 | 8 => 32 | _ => 64

/-- The float format of a conversion code, if it is one. -/
def cvtFmt (c : Nat) : Option Fmt :=
  match c with
  | 0 => some fp64 | 1 => some fp32 | 2 => some fp16 | 3 => some bf16 | 4 => some e4m3 | 5 => some e5m2 | _ => none

/-- The value of a source element. INT48 is stored in 64 bits (R166). -/
def cvtSrc (c v : Nat) : FVal :=
  match cvtFmt c with
  | some f => f.decode v
  | none => ofDyadic false (signed (cvtBits c) v) 0

/-- A magnitude rounded to an integer (R105, R106 with ulp 1). -/
def roundInt (rnd : Rnd) (m : Nat) (e : Int) : Nat :=
  if 0 ≤ e then m <<< e.toNat
  else
    let d := (-e).toNat
    let q := m >>> d
    let rem := m % 2 ^ d
    let up := match rnd with
      | .rne => decide (2 ^ d < 2 * rem) || (decide (2 * rem = 2 ^ d) && q % 2 = 1)
      | .sr r => decide (r < (rem <<< 16) >>> d)
    if up then q + 1 else q

/-- A value converted to a two's-complement integer of `w` bits, saturating (R119). -/
def toInt (w : Nat) (rnd : Rnd) : FVal → Nat
  | .nan => 0
  | .inf neg => if neg then 2 ^ (w - 1) else 2 ^ (w - 1) - 1
  | .fin neg m e =>
    let q := roundInt rnd m e
    if neg then unsigned w (-(min q (2 ^ (w - 1)) : Nat)) else min q (2 ^ (w - 1) - 1)

/-- One element of CVT (R119, R168). -/
def cvtElem (sfmt dfmt : Nat) (rnd : Rnd) (sat : Bool) (v : Nat) : Nat :=
  match cvtFmt dfmt with
  | some f => f.convert rnd sat (cvtSrc sfmt v)
  | none => toInt (cvtBits dfmt) rnd (cvtSrc sfmt v)

/-- Elements one CVT pass converts (R168). -/
def cvtPassElems (sfmt dfmt : Nat) : Nat := min 16 (min (512 / cvtBits sfmt) (256 / cvtBits dfmt))

/-- MX element types (R166) and the emax of R120. -/
def mxFmt (c : Nat) : Fmt :=
  match c with
  | 0 => e4m3 | 1 => e5m2 | 2 => e2m3 | 3 => e3m2 | _ => e2m1
def mxBits (c : Nat) : Nat := (mxFmt c).magBits + 1
def mxEmax (c : Nat) : Int :=
  match c with
  | 0 => 8 | 1 => 15 | 2 => 2 | 3 => 4 | _ => 2

/-- floor(log2) of the largest magnitude of a list of values, if one is not zero. -/
def topLog : List FVal → Option Int
  | [] => none
  | .fin _ m e :: r =>
    let rest := topLog r
    if m = 0 then rest
    else
      let l := (Nat.log2 m : Int) + e
      match rest with
      | none => some l
      | some k => some (max l k)
  | _ :: r => topLog r

def FVal.finite : FVal → Bool
  | .fin _ _ _ => true
  | _ => false

/-- The scale byte of an MX block (R120, steps 1 to 3). -/
def mxScale (c : Nat) (vs : List FVal) : Nat :=
  if vs.any (fun v => !v.finite) then 0xFF
  else match topLog vs with
    | none => 0
    | some l => (max (-127) (min 127 (l - mxEmax c)) + 127).toNat

/-- One element of an MX block under its scale byte (R120, step 4). -/
def mxElem (c scale : Nat) (rnd : Rnd) (v : FVal) : Nat :=
  let f := mxFmt c
  match v with
  | .fin neg m e =>
    let b := f.roundMag rnd m (e - ((scale : Int) - 127))
    f.sign neg + min b f.maxMag
  | _ => 0

/-- The elements of one MX block of 32 values (R120): zeros where a value is NaN or infinite or all are zero. -/
def mxBlock (c : Nat) (rnd : Nat → Rnd) (vs : List FVal) : List Nat :=
  let scale := mxScale c vs
  if scale = 0xFF ∨ topLog vs = none then vs.map fun _ => 0
  else (List.range vs.length).map fun i => mxElem c scale (rnd i) (vs.getD i .nan)

/-- An MX element times its scale (R104, R120); scale 0xFF is NaN (R100; log entry 7). -/
def mxValue (c scale v : Nat) : FVal :=
  if scale = 0xFF then .nan
  else match (mxFmt c).decode v with
    | .fin neg m e => .fin neg m (e + ((scale : Int) - 127))
    | x => x

/-- Element `pos` of `w` bits packed from bit 0 upward (R103), read through `rd` from byte `base`. -/
def packedElem (rd : Nat → Byte) (base w pos : Nat) : Nat :=
  let o := pos * w
  bits (leNat ((List.range 9).map fun i => rd (base + o / 8 + i))) (o % 8) w

/-- Elements packed from bit 0 upward (R103), as bytes; the last byte is filled with 0. -/
def packBytes (w : Nat) (es : List Nat) : List Byte :=
  leBytes ((es.length * w + 7) / 8) (es.foldr (fun e acc => e % 2 ^ w + (acc <<< w)) 0)

/-- A slice header of R121. -/
structure Header where
  nonfinite : Bool
  zero : Bool
  spread : Nat
  e : Int
  deriving DecidableEq, Repr

def Header.ofNat (v : Nat) : Header := ⟨bit v 25, bit v 24, bits v 16 8, signed 16 v⟩
def Header.toNat (h : Header) : Nat :=
  (if h.nonfinite then 2 ^ 25 else 0) + (if h.zero then 2 ^ 24 else 0) + ((h.spread % 256) <<< 16) + unsigned 16 h.e

/-- floor(log2) of the smallest non-zero magnitude of a list of values. -/
def lowLog : List FVal → Option Int
  | [] => none
  | .fin _ m e :: r =>
    let rest := lowLog r
    if m = 0 then rest
    else
      let l := (Nat.log2 m : Int) + e
      match rest with
      | none => some l
      | some k => some (min l k)
  | _ :: r => lowLog r

def FVal.isZero : FVal → Bool
  | .fin _ m _ => m == 0
  | _ => false

/-- The header of a row (R121). -/
def sliceHeader (vs : List FVal) : Header :=
  let nf := vs.any (fun v => !v.finite)
  match topLog vs, lowLog vs with
  | some hi, some lo => ⟨nf, false, min 255 (hi - lo).toNat, hi + 1⟩
  | _, _ => ⟨nf, vs.all FVal.isZero, 0, 0⟩

/-- Slice i, from 1 to s, of one element (R122), as an INT8 encoding; a NONFINITE row is sliced as zeros (R121). -/
def sliceElem (h : Header) (s i : Nat) (v : FVal) : Nat :=
  if h.nonfinite then 0
  else match v with
    | .fin neg m e =>
      let t := roundDown m (e - h.e + 7 * s)
      unsigned 8 (smant neg (bits t (7 * (s - i)) 7))
    | _ => 0
where
  roundDown (m : Nat) (e : Int) : Nat := if 0 ≤ e then m <<< e.toNat else m >>> (-e).toNat

/-- The slice count of a block in adaptive mode and whether it is capped (R128, R129). -/
def dialSelect (sigma p : Nat) : Nat × Bool :=
  let c := (sigma + p + 6) / 7
  (max 3 (min 9 c), decide (9 < c))

/-- One recombined output (R124, R130): the diagonals from 2 to s + 1 in order. -/
def recombine (ha hb : Header) (diags : List Int) (cin : FVal) : Nat :=
  if ha.nonfinite ∨ hb.nonfinite then fp64.nan
  else
    let s := diags.length
    let sum : Int := (List.range s).foldl (fun acc i => acc + diags.getD i 0 * (2 ^ (7 * (s - 1 - i)) : Nat)) 0
    fp64.encode (cin.add (ofDyadic false sum (ha.e + hb.e - 7 * (s + 1))))

end Sys2Proof.Machine
end

