-- ==== Sys2Proof/Machine/Cube.lean ====
section
/-! DEFINITION. What one cube step computes (R46, R47, R109 to R113, R157, R158), on bits alone. -/

namespace Sys2Proof.Machine

/-- Accumulator types (R48). -/
inductive AccType where
  | fp32
  | int32
  | int48
  deriving DecidableEq, Repr

/-- Element formats of the cube. -/
inductive Elem where
  | int8 | int4 | slice
  | fl (f : Fmt)
  deriving DecidableEq, Repr

def Elem.bits : Elem → Nat
  | .int8 => 8
  | .int4 => 4
  | .slice => 8
  | .fl f => f.magBits + 1

/-- What FPAIR selects: inner depth, element formats, whether the elements are MX, and the bank type (R46, R113, R157). -/
structure Pair where
  d : Nat
  a : Elem
  b : Elem
  mx : Bool
  acc : AccType
  deriving DecidableEq, Repr

/-- The FP8 element of a two-way choice, and the narrow MX element of a three-way choice (R157). -/
def fp8Of (i : Nat) : Elem := .fl (if i = 0 then e4m3 else e5m2)
def narrowOf (i : Nat) : Elem := .fl (if i = 0 then e2m3 else if i = 1 then e3m2 else e2m1)

/-- FPAIR (R157); codes 0x16 to 0x1F are a FORMAT fault. -/
def pairOf (fpair : Nat) : Option Pair :=
  if fpair = 0 then some ⟨16, .int8, .int8, false, .int32⟩
  else if fpair = 1 then some ⟨32, .int4, .int4, false, .int32⟩
  else if fpair ≤ 5 then some ⟨16, fp8Of ((fpair - 2) / 2), fp8Of ((fpair - 2) % 2), false, .fp32⟩
  else if fpair ≤ 9 then some ⟨16, fp8Of ((fpair - 6) / 2), fp8Of ((fpair - 6) % 2), true, .fp32⟩
  else if fpair ≤ 0x12 then some ⟨32, narrowOf ((fpair - 0xA) / 3), narrowOf ((fpair - 0xA) % 3), true, .fp32⟩
  else if fpair = 0x13 then some ⟨8, .fl bf16, .fl bf16, false, .fp32⟩
  else if fpair = 0x14 then some ⟨8, .fl fp16, .fl fp16, false, .fp32⟩
  else if fpair = 0x15 then some ⟨16, .slice, .slice, false, .int48⟩
  else none

/-- Bytes of a slab (R46). -/
def slabBytes (d : Nat) (e : Elem) : Nat := 4 * d * e.bits / 8

/-- Integer and float value of an element. -/
def Elem.int (e : Elem) (v : Nat) : Int := signed e.bits v
def Elem.val : Elem → Nat → FVal
  | .fl f, v => f.decode v
  | e, v => ofDyadic false (e.int v) 0

/-- Truncation of a term toward zero to a multiple of 2^g, in units of 2^g (R109, step 2). -/
def truncTerm (g : Int) : FVal → Int
  | .fin neg m e => smant neg (if g ≤ e then m <<< (e - g).toNat else m >>> (g - e).toNat)
  | _ => 0

/-- The sum of a float step: the FP32 result of the accumulator and the exact products (R109, R110). -/
def floatSum (terms : List FVal) : Nat :=
  if terms.any (fun t => t == .nan) then fp32.nan
  else
    let pos := terms.any (fun t => t == .inf false)
    let neg := terms.any (fun t => t == .inf true)
    if pos && neg then fp32.nan
    else if pos then fp32.encode (.inf false)
    else if neg then fp32.encode (.inf true)
    else match topLog terms with
      | none => fp32.encode (.fin (terms.all FVal.isNeg) 0 0)
      | some emax =>
        let g := emax - 30
        fp32.encode (ofDyadic false (terms.foldl (fun acc t => acc + truncTerm g t) 0) g)

/-- The block scale as a factor: the product value scaled by the two scale bytes (R112). -/
def scaleTerm (xa xb : Nat) (t : FVal) : FVal :=
  if xa = 0xFF ∨ xb = 0xFF then .nan
  else match t with
    | .fin n m e => .fin n m (e + ((xa : Int) - 127) + ((xb : Int) - 127))
    | t => t

/-- One entry of one step: row r of the A slab and column c of the B slab (R47, R109 to R112). -/
def stepEntry (p : Pair) (rd : Nat → Byte) (aBase bBase : Nat) (sa sb : Nat) (r c : Nat) (acc : Nat) : Nat :=
  let ea := fun e => packedElem rd aBase p.a.bits (r * p.d + e)
  let eb := fun e => packedElem rd bBase p.b.bits (c * p.d + e)
  match p.acc with
  | .fp32 =>
    floatSum (fp32.decode acc :: (List.range p.d).map fun e =>
      let t := (p.a.val (ea e)).mul (p.b.val (eb e))
      if p.mx then scaleTerm sa sb t else t)
  | .int32 =>
    unsigned 32 ((List.range p.d).foldl (fun s e => s + p.a.int (ea e) * p.b.int (eb e)) (signed 32 acc))
  | .int48 =>
    unsigned 48 ((List.range p.d).foldl (fun s e => s + p.a.int (ea e) * p.b.int (eb e)) (signed 48 acc))

/-- Step k of a CUBE on the 16 entries of a bank (R158): slabs in ascending order, scales from line AUX on (R104). -/
def cubeStep (p : Pair) (rd : Nat → Byte) (a b aux k : Nat) (acc : List Nat) : List Nat :=
  let aBase := 64 * a + k * slabBytes p.d p.a
  let bBase := 64 * b + k * slabBytes p.d p.b
  let line := 64 * (aux + (if p.d = 32 then k / 8 else k / 16))
  let g := if p.d = 32 then k % 8 else (k % 16) / 2
  (List.range 16).map fun i =>
    let r := i / 4
    let c := i % 4
    stepEntry p rd aBase bBase (rd (line + 8 * g + r)).toNat (rd (line + 8 * g + 4 + c)).toNat r c (acc.getD i 0)

/-- All steps of a CUBE. -/
def cubeSteps (p : Pair) (rd : Nat → Byte) (a b aux : Nat) : Nat → Nat → List Nat → List Nat
  | 0, _, acc => acc
  | n + 1, k, acc => cubeSteps p rd a b aux n (k + 1) (cubeStep p rd a b aux k acc)

/-- Bytes of a bank in tile memory and its entries there (R49, R114). -/
def accBytes : AccType → Nat
  | .int48 => 128
  | _ => 64
def accStore (t : AccType) (acc : List Nat) : List Byte :=
  (List.range 16).flatMap fun i =>
    match t with
    | .int48 => leBytes 8 (unsigned 64 (signed 48 (acc.getD i 0)))
    | _ => leBytes 4 (acc.getD i 0)
def accLoad (t : AccType) (bs : List Byte) : List Nat :=
  (List.range 16).map fun i =>
    match t with
    | .int48 => leNat ((bs.drop (8 * i)).take 8) % 2 ^ 48
    | _ => leNat ((bs.drop (4 * i)).take 4)

/-- The pairs a block in adaptive mode skips (R128, R161). -/
def dialSkips (sBlock pi pj : Nat) : Bool := decide (sBlock < pi) || decide (sBlock < pj) || decide (sBlock + 1 < pi + pj)

end Sys2Proof.Machine
end

