-- ==== Sys2Proof/Machine/State.lean ====
section
/-! DEFINITION. The state of the package as plain data. Registers live in one sparse map by bit address (`regs`, with
`shadow` for pending T-class values); everything the spec gives the machine beside its registers has a field of its own. -/

namespace Sys2Proof.Machine

/-- One accumulator bank (R44, R48): its type, if a command has set one, and its 16 entries. -/
structure Bank where
  type : Option AccType
  entries : List Nat
  deriving DecidableEq, Repr

/-- An outbound channel (R61, R63): the inbound channel it is bound to, its credits, and the value they started at. -/
structure ChanOut where
  bound : Option (Nat × Nat)   -- receiving package tile, INj
  credits : Nat
  start : Nat
  deriving DecidableEq, Repr

/-- An inbound channel (R61, R64): its receive ring, the slots arrived and reserved, and the ring positions. -/
structure ChanIn where
  base : Nat       -- in 128-byte units
  slots : Nat      -- 0: no receive ring
  arrived : Nat
  reserved : Nat
  rd : Nat         -- next slot a receive takes
  wr : Nat         -- next slot an arrival fills
  src : Option (Nat × Nat)   -- sending package tile, CHk
  deriving DecidableEq, Repr

/-- An address base register (R147). -/
structure Abr where
  base : Nat
  step : Int
  deriving DecidableEq, Repr

/-- A shape register (R147). -/
structure Shape where
  rows : Nat
  rowLines : Nat
  srcStride : Int
  dstStride : Int
  deriving DecidableEq, Repr

/-- An open loop frame (R142). Entry numbers count program entries from 0, so an entry's ring index is its number modulo
the ring size. -/
structure LoopFrame where
  first : Nat
  last : Nat
  count : Nat
  strideL : Int
  strideW : Int
  wrap : Nat
  i : Nat
  deriving DecidableEq, Repr

/-- The memories a tile's commands reach directly. -/
inductive Space where
  | tm    -- tile memory
  | cb    -- cluster buffer
  deriving DecidableEq, Repr

/-- A byte range a command reads or writes, for the hazard rule R55 and R139. -/
structure Range where
  space : Space
  start : Nat
  len : Nat
  deriving DecidableEq, Repr

/-- A command that has issued and not completed (R70, R71). -/
structure TCmd where
  seq : Nat
  op : Nat
  w0 : Nat
  w1 : Nat
  index : Nat             -- ring index, for TIL_FAULT
  unit : Nat              -- 4 data mover, 3 cube, 2 vector, 1 channel, 0 control (TIL_STATUS UNIT_BUSY)
  mul : List Nat          -- loop multiplier of fields 0, 1, 2 for an FM field (R143)
  off : List Int          -- loop offset of fields 0, 1, 2 in lines (R143)
  started : Bool
  spoiled : Bool          -- its bytes are unpredictable from here on (R55)
  reads : List Range
  writes : List Range
  deriving DecidableEq, Repr

/-- One tile (R44). -/
structure Tile where
  mem : SMap Byte         -- bytes written since `fill` was set
  fill : Option Nat       -- what other bytes read as: 0, or free values from this number on (R78)
  banks : SMap Bank
  tok : SMap Nat
  outs : SMap ChanOut
  ins : SMap ChanIn
  gen : List Nat
  abr : SMap Abr
  shapes : SMap Shape
  planes : Nat
  sBlock : Option Nat
  loops : List LoopFrame
  ringBase : Nat          -- in 64-byte lines (R184)
  ringSize : Nat
  code : List Byte        -- the program as the dispatcher reads it from the image (R184)
  codeLen : Nat           -- entries
  written : Nat           -- program entries the dispatcher has written into the ring
  head : Nat              -- program entry at the head of issue
  prefetch : List (Nat × Nat)   -- entries held in the prefetch buffer (R69)
  cmds : List TCmd
  nextSeq : Nat
  deriving DecidableEq, Repr

/-- One cluster (R77 to R83): its buffer and what the dispatcher keeps. -/
structure Cluster where
  buf : SMap Byte
  fill : Option Nat
  lastCtx : Option Nat    -- 16 × partition + context of the last unit
  capped : Nat            -- capped dial blocks of the unit (R129)
  ringRegion : Nat
  unit : Option Nat       -- the admitted unit
  logical : Nat           -- its logical cluster in that unit (R189)
  loaded : Bool
  ended : Bool
  blocked : Bool          -- admission held for a swap (R85)
  moveTo : Option Nat     -- new owner of a move in waiting: 0xFF for none (R472)
  metered : Bool          -- time may have been counted that no read of a CLU_PERF counter has shown (R91; log entry 3)
  deriving DecidableEq, Repr

/-- A token signal on its way to its target (R59, R136), of the work unit it was sent for: no counter keeps anything of an earlier unit (R60). -/
structure Sig where
  tile : Nat
  tok : Nat
  inc : Nat
  uid : Option Nat
  deriving DecidableEq, Repr

/-- A channel slot on its way (R66, R173): a data flit of kind slot where its tiles are in different clusters (R328). -/
structure SlotFlit where
  dst : Nat                -- receiving package tile
  ch : Nat                 -- its inbound channel
  uid : Nat                -- the unit that sent it
  src : Nat                -- sending package tile
  sch : Nat                -- its outbound channel CHk
  seq : Nat                -- the SEND, by its number in that tile
  part : Nat
  gen : Nat                -- partition generation it carries (R329)
  path : List Nat          -- ring link directions it crosses (R26, R173)
  data : List Byte
  deriving DecidableEq, Repr

/-- Channel credits on their way back (R64). -/
structure CreditFlit where
  tile : Nat               -- sending tile of the channel
  ch : Nat
  n : Nat
  uid : Nat
  src : Nat                -- tile that returns them
  part : Nat
  gen : Nat                -- partition generation they carry (R329)
  path : List Nat          -- the channel's path, back (R27, R173)
  deriving DecidableEq, Repr

/-- Why a unit ended (R214, R216): status, DETAIL0, DETAIL1. -/
structure Ending where
  status : Nat
  d0 : Nat
  d1 : Nat
  deriving DecidableEq, Repr

/-- What a unit is. -/
inductive UnitKind where
  | kernel
  | retriever
  | bay
  deriving DecidableEq, Repr

/-- An admitted work unit (R203 to R217). -/
structure WUnit where
  id : Nat
  kind : UnitKind
  part : Nat
  ring : Nat
  count : Nat             -- free-running count of its descriptor
  ctx : Nat
  tag : Nat
  irq : Bool
  gen : Nat
  image : Nat
  argAddr : Nat
  seedMix : Nat
  clusters : List Nat     -- package cluster of each logical cluster
  startTick : Nat
  admitted : Nat          -- time of the admitting boundary, ns
  budgetEnd : Nat         -- ns
  boundaries : Nat        -- boundaries fired since admission (R245)
  hard : Bool             -- the Sheepdog has acted on its hard limit (R222, R245)
  overran : Bool
  released : Bool
  stopped : Bool
  done : Bool             -- every part has ended
  ending : Option Ending
  capped : Nat
  mute : Nat              -- 0 a record is written; 1 none, but the ring counts; 2 none, and the ring is left alone (R224)
  endedAt : Nat           -- ns
  desc : List Byte        -- its descriptor
  deriving DecidableEq, Repr

/-- A descriptor fetched and not admitted (R205): none until its read returns, then its bytes or a failed read. `late`: its read had not
returned by the fetch deadline of the last boundary (R208). -/
structure Desc where
  part : Nat
  ring : Nat
  count : Nat
  data : Option (Option (List Byte))
  late : Bool
  deriving DecidableEq, Repr

/-- A registered kernel image (R186). -/
structure Image where
  part : Nat
  ctx : Nat
  handle : Nat
  store : Nat             -- DPA of the copy in the image store (R469)
  data : List Byte
  digest : List Byte
  live : Bool             -- false once unregistered while units still use it (R226)
  deriving DecidableEq, Repr

/-- One piece of a transfer between Flial memory and a tile (R150, R153, R316): a 64-byte line, a half line, or a sector. -/
structure Piece where
  va : Nat
  len : Nat
  off : Nat        -- byte offset in tile memory or cluster buffer
  trOff : Nat      -- byte offset within the transfer
  deriving DecidableEq, Repr

/-- A transfer in progress of a data-mover command (R150 to R153). -/
structure Xfer where
  id : Nat
  tile : Nat
  seq : Nat
  write : Bool
  narrow : Bool
  space : Space
  pieces : List Piece      -- not yet requested, in the transfer's order
  inflight : Nat           -- requested and not answered
  faulted : Bool           -- no further request is issued (R316)
  deriving DecidableEq, Repr

/-- The requests of R343. -/
inductive ReqOp where
  | rdCur | rdShared | rdOwn | upgrade | wbDirty | evictClean | wrInv | wrPlace | atomic
  deriving DecidableEq, Repr

/-- Where a memory request stands. -/
inductive Stage where
  | held       -- at the Leash (R285, R287)
  | sent       -- on Flial to its home
  | waiting    -- at the home, behind a busy line (R342)
  | snoop      -- waiting for snoop answers
  | entry      -- waiting for an entry of its memory port's queue (R282)
  | port       -- in that queue, waiting for a DRAM command (R281)
  | host       -- a host read on PCIe (R447)
  | answered   -- the answer is on its way to the requester
  | here       -- the answer of one of the package's own agents has reached it
  deriving DecidableEq, Repr

/-- What depends on a write that its sender does not wait for: nothing, a record of a ring (80: of the management queue), an error record
by its die and number, a partition's ZERO, or a host write of a function through BAR2, by a number of its own, 0 once it is known to have failed. -/
inductive PostBy where
  | none_
  | ring (part r : Nat)
  | err (die seq : Nat)
  | zero (part : Nat)
  | bar (fn wid : Nat)
  deriving DecidableEq, Repr

/-- Who receives the answer of a request: a transfer of a tile, a bay, one of the package's own agents, whose command then goes on, or
an agent that sent a write and waits for nothing. -/
inductive Owner where
  | xfer (xid : Nat)
  | bay (bay tag : Nat)
  | agent
  | post (by_ : PostBy)
  deriving DecidableEq, Repr

/-- A memory request within one granule (R325). `mask` has a bit per byte of the granule that it reads or writes: SMASK and the byte
enables of a mask flit. -/
structure Req where
  rid : Nat
  uid : Nat                -- the unit it belongs to; 0 for none
  task : Nat               -- the miss a walker serves, or the torus command; 0 for none
  mask : Nat
  slot : Bool              -- sent in an owned slot (R336)
  op : ReqOp
  die : Nat
  mport : Nat
  owner : Owner
  part : Nat
  ctx : Nat
  gen : Nat
  nopart : Bool
  epoch : Nat
  cls : Nat
  guar : Bool
  narrow : Bool
  stream : Bool
  drain : Bool
  va : Nat
  dpa : Nat
  q : Nat
  loc : Nat                -- local byte offset in the pseudo-channel
  len : Nat
  data : List Byte
  place : Option Nat
  off : Nat                -- destination offset of the piece
  trOff : Nat
  stage : Stage
  t : Nat                  -- arrival at the home, ns
  seq : Nat                -- order of sending, of arrival at the home, and of its answer
  rsps : List (Nat × Nat × Nat)    -- snoop answers: line, bay, 0 I / 1 S / 2 DATA
  fwd : List (Nat × List Byte)     -- lines whose owner's data answer the read
  ans : Nat                -- opcode of the response (R326)
  status : Nat             -- R326; 4 and 5 a host read that failed as kinds 6 and 7 of R317
  answer : List Byte
  deriving DecidableEq, Repr

/-- A read of host memory for a tile's transfer (R447 to R450). `state`: 0 outstanding, 1 its timeout has been reported, 2 given up with
its tag held, 3 cut off by a drain. -/
structure HostRead where
  tag : Nat
  fn : Nat
  fgen : Nat
  uid : Nat
  len : Nat
  got : List Byte          -- what has arrived, from the start of the read
  state : Nat
  issued : Nat             -- the time of day of its issue, in ns (R448)
  deriving DecidableEq, Repr

/-- Snoops of R327. -/
inductive SnpOp where
  | cur | share | inv | push
  deriving DecidableEq, Repr

/-- A snoop on its way to a bay, or its answer on the way back (R327, R344). -/
structure Snoop where
  tag : Nat
  rid : Nat
  op : SnpOp
  bay : Nat
  line : Nat               -- DPA [43:6]
  bgen : Nat
  data : List Byte         -- SNP_PUSH data, or the data of RSP_DATA
  answer : Option Nat      -- none: on its way; 0 RSP_I, 1 RSP_S, 2 RSP_DATA, 3 PUSH_ACK, 4 PUSH_NACK
  deriving DecidableEq, Repr

/-- Directory state of a line held by some bay (R342). -/
structure DirEntry where
  owned : Bool             -- O: exactly one bay in `bays`
  bays : List Nat
  order : Nat              -- allocation order (R346)
  deriving DecidableEq, Repr

/-- A stack-cache line: one granule of one pseudo-channel (R260). -/
structure StcLine where
  q : Nat
  gran : Nat               -- local offset / 256
  set : Nat
  way : Nat
  valid : Nat              -- mask of sectors
  dirty : Nat
  rrpv : Nat
  deriving DecidableEq, Repr

/-- A cached translation (R305): `va` to `va + size - 1` maps to `pa` upward; `host` entries map to bus addresses. -/
structure TlbEntry where
  part : Nat
  ctx : Nat
  epoch : Nat
  va : Nat
  size : Nat
  pa : Nat
  w : Bool
  d : Bool
  entryDpa : Nat           -- the table entry that holds D
  deriving DecidableEq, Repr

/-- A cached non-leaf entry (R305): the table that serves VAs from `va` for `size` bytes. -/
structure WalkEntry where
  part : Nat
  ctx : Nat
  epoch : Nat
  level : Nat              -- level of the table named: 2, 1 or 0
  va : Nat
  size : Nat
  table : Nat
  deriving DecidableEq, Repr

/-- How far a miss has come (R308, R310). -/
inductive MissStage where
  | device                 -- a device-half miss, for a walker
  | walking                -- a walker of its die serves it
  | queued                 -- a host-half miss waiting at HD0 for room under ATS_MAX
  | ats                    -- translation request sent
  | prg                    -- page request sent
  | againQueued            -- waiting at HD0 to send the translation request again
  | again                  -- translation request sent again after the page request
  | failed (kind : Nat)    -- answered with a fault its requester has not met yet
  | failedUe (dpa port : Nat)  -- the walk met an uncorrectable table entry
  | failedDown             -- the walk met an island that is down
  deriving DecidableEq, Repr

/-- A pending miss of a translation stream (R307): the stream, the page and the access. Streams: 0 to 8191 the data mover of a
package tile, 8192 + c a cluster's dispatcher, 8704 + 64 b + q a bay work queue, 9216 + 8 p + q a torus queue, 9728 + d a die's
Retriever, 9732 + d a die's Sheepdog agent. -/
structure Miss where
  id : Nat
  stream : Nat
  die : Nat
  cluster : Nat            -- whose cluster TLB is filled; 512 for none
  xfer : Nat               -- the transfer that waits; 0 for none
  part : Nat
  ctx : Nat
  epoch : Nat
  va : Nat
  write : Bool
  trOff : Nat
  stage : MissStage
  uid : Nat                -- the unit that waits for it; 0 for none
  orphan : Bool            -- its requester has ended; what was sent to the host is still outstanding (R310)
  deriving DecidableEq, Repr

/-- What a command of one of the package's own agents must have before it can take effect: the answer of a memory request, a translation,
or the end of a stall of the host link. -/
inductive Ask where
  | mem (r : Req)
  | miss (m : Miss)
  | stall
  deriving DecidableEq, Repr

/-- Who is told that an invalidation has completed (R312). -/
inductive InvalBy where
  | mgmt (part entry tag : Nat)
  | ats (tag : Nat)
  | unit (uid : Nat)
  | reset
  | quota
  deriving DecidableEq, Repr

/-- An invalidation in progress (R311). -/
structure Inval where
  id : Nat
  part : Nat
  ctx : Nat
  va : Nat
  size : Nat
  epoch : Nat              -- the new epoch; requests of older epochs drain
  by_ : InvalBy
  cut : Nat                -- units cut off
  bays : List Nat          -- bays that have not sent BW_INVAL_DONE (R376)
  started : Bool           -- false while eight others of the context are in progress (R312)
  boundary : Bool          -- the first boundary after the start has come
  deriving DecidableEq, Repr

/-- A stack's channel and band state is in the MEM registers; a temporary CE count per DRAM row drives soft repair (R268). -/
structure RowCe where
  q : Nat
  row : Nat
  count : Nat
  deriving DecidableEq, Repr


/-- What leaves the package towards a party outside it. -/
inductive Out where
  | hostWrite (ro : Bool) (fn : Nat) (addr : Nat) (data : List Byte)   -- with Relaxed Ordering (R442), or without
  | msix (fn : Nat) (vector : Nat) (addr data : Nat)
  | hostRead (fn tag : Nat) (addr len : Nat)
  | hostCpl (fn : Nat) (status : Nat) (data : List Byte)   -- 0 successful, 1 UR, 2 CRS, 4 CA
  | hostMsg (kind : Nat) (a b : Nat)       -- ATS, PRI, PME, WAKE#, L0p
  | bay (bay : Nat) (op : Nat) (data : List Byte)   -- a write of a chiplet's sideband register at an offset (R365)
  | bayMsg (bay word : Nat) (flits : List Nat)   -- a work-port message to a bay (R379)
  | bayAts (bay kind pasid va value : Nat)       -- ATS over CXL.io (R372): 0 a Translation Completion, 1 an Invalidate Request
  | bayAns (bay word : Nat) (flits : List Nat)   -- a response flit (R326) and its data flits
  | snoop (bay word : Nat) (flits : List Nat)    -- a snoop flit (R327) and the data flit of a push
  | beat (die dir module : Nat) (kind : Nat) (data : List Nat)
  | torus (port seq : Nat) (replay : Bool) (data : List Byte)
  | kennel (port : Nat) (kind a b : Nat) (data : List Byte)   -- 0 a granule, 1 a commit, 2 a restore request, 3 a restored granule, 4 MISMATCH
  | torusCtl (port : Nat) (kind : Nat) (a : Nat)
  | side (kind : Nat) (data : List Byte)
  | mgmt (die : Nat) (kind : Nat) (a b : Nat)
  | i3c (data : List Byte)
  | jtag (place : Nat) (data : List Nat)   -- a die, or 4 + a bay
  | pack (die core : Nat) (status : Nat)   -- the answer to a Pack core's memory request (R492)
  | reg (value : Nat)                      -- the value a register read returns
  deriving DecidableEq, Repr

/-- Why a step faults. -/
inductive Fault where
  /-- Raised by every meaning whose operand names no instance of the package (a die above 3, a tile above 8,191): such a
  command is not one of the hardware, and WellFormed refuses it. Safe: nothing is said of the machine after it. -/
  | noSuchInstance
  deriving DecidableEq, Repr

/-- Why a step is refused. -/
inductive Refusal where
  /-- Raised by no meaning: the name of a command the model gives no effect. Safe. -/
  | notModelled (mnemonic : String)
  deriving DecidableEq, Repr

/-- One module of a ring link at one end (R393 to R400). -/
structure RingMod where
  unacked : List (Nat × List Byte)   -- beats sent and not acknowledged, oldest first: 1 with NAK, 2 with MARK; payload
  resend : Nat                 -- how many of the last of them are to be sent again
  first : Bool                 -- the next of them starts a replay
  replayed : Nat               -- replays the oldest of them has started in a row (R398)
  markDue : Bool               -- the sender is to send MARK (R400)
  again : List (List Byte)     -- items of modules that have gone OFF, to be sent before it
  crcAt : List Nat             -- when the last 65 beats with a bad CRC came, newest first, ns
  acked : Nat                  -- beats acknowledged, modulo 4,096
  begun : List Byte            -- bytes of an item that acknowledged beats began
  good : Nat                   -- good beats received, modulo 4,096
  skip : Bool                  -- received beats are discarded up to the next with REPLAY
  nak : Bool                   -- NAK is due
  part : List Byte             -- bytes received of an item that the next beat continues
  marked : Bool                -- MARK has come
  held : List (List Byte)      -- items received after MARK, while other modules' MARKs are awaited
  repaired : Nat               -- redundant lanes in use (R398)
  txPart : List Byte           -- bytes of an item that the last beat sent began
  out : SMap Nat               -- flits sent whose credit has not come back, by 8 × network + virtual channel (R333)
  owed : SMap Nat              -- flits received and passed on whose credit has not been sent back
  deriving DecidableEq, Repr

/-- One torus port (R405 to R408). -/
structure TorPort where
  txSeq : Nat                  -- SEQ of the next block
  unacked : List (Nat × List Byte)   -- blocks sent and not acknowledged
  replayed : Nat               -- times the oldest of them has been replayed in a row
  queue : List (Nat × List Byte)     -- packets waiting to be sent: virtual channel and bytes
  room : Nat                   -- what the other end takes on a virtual channel before it returns credits, 32-byte units
  credits : SMap Nat           -- units sent on each virtual channel whose credit has not come back
  rxSeq : Nat                  -- SEQ of the next block expected
  skip : Bool                  -- blocks are discarded up to the lost one's replay
  part : List Byte             -- bytes received of an item that the next block continues
  served : Bool                -- the port has been in service since its reset
  deriving DecidableEq, Repr

/-- A packet that has arrived at a torus port and not been acted on (R409): 8 stands for the package's own engines. -/
structure TorPacket where
  port : Nat
  vc : Nat
  bytes : List Byte
  deriving DecidableEq, Repr

/-- A torus-queue command fetched and not completed (R413 to R416). -/
structure TorCmd where
  id : Nat
  part : Nat
  queue : Nat
  count : Nat                  -- free-running count of the command
  bytes : List Byte
  started : Bool
  sent : Nat                   -- bytes sent or asked for; chunks of a REDUCE
  done : Nat                   -- bytes answered; chunks whose result has been written
  base : Nat                   -- first chunk number of a REDUCE
  tag : Nat
  deriving DecidableEq, Repr

/-- A chunk of a reduction group in flight (R416): who has contributed, port 8 for the package itself. -/
structure RedChunk where
  group : Nat
  chunk : Nat
  inputs : List (Nat × Nat × List Byte)   -- port, generation, data
  up : Bool                    -- combined and sent to the parent
  deriving DecidableEq, Repr

/-- A stream channel's slot (R417): the tick, the bytes accepted. -/
structure StreamSlot where
  ch : Nat
  tick : Nat
  bytes : Nat
  deriving DecidableEq, Repr

/-- A sideband frame sent and not answered (R425). -/
structure SideFrame where
  kind : Nat
  dest : Nat
  seq : Nat
  payload : List Byte
  tries : Nat
  deriving DecidableEq, Repr

/-- What the lead Collar keeps of an enabled context (R503, R505 to R508). -/
structure CtxInfo where
  inst : Nat                   -- INSTANCE: the tick at which ENABLE took effect
  key : Option Nat             -- number of its ML-KEM key pair, once generated; only a confidential context has one
  slots : SMap (List Byte)     -- weight keys by slot
  weights : List (List Byte × Nat × Nat)   -- digest, BYTES, WEIGHT_ID, in log order
  deriving DecidableEq, Repr

/-- A firmware image in a boot-flash slot: the one the package was made with, or one that was staged. -/
inductive Firmware where
  | factory
  | image (bytes : List Byte)
  deriving DecidableEq, Repr

/-- The identity certificate in boot flash (R499). -/
inductive CertStore where
  | none
  | factory
  | installed (bytes : List Byte)
  deriving DecidableEq, Repr

/-- A die's clusters (R530) and its rotating BIST (R85, R533): the physical cluster of each exposed number (144: none), the spares, the next
number to nominate, the nominated number and the boundaries tried, the physical cluster under test with the number it held, and when the last slice ended or READY
was set, in ns. -/
structure BistDie where
  phys : List Nat
  spares : List Nat
  next : Nat
  target : Option Nat
  tries : Nat
  testing : Option (Nat × Nat)
  since : Nat
  deriving DecidableEq, Repr

/-- A cause that has taken an island down and not been acted on yet (R350). -/
structure Down where
  island : Nat
  cause : Nat
  node : Nat
  line : Nat
  die : Nat                -- the recording die
  deriving DecidableEq, Repr

/-- What the hub knows of a bay beside its registers (R365 to R370, R382 to R384): the record it read at admission, and what it last
wrote to the chiplet's CTL registers. -/
structure BayInfo where
  powered : Bool           -- VDD_BAYn is on
  push : Bool
  separate : Bool
  queues : Nat
  depth : Nat
  cls : Nat
  half : Bool              -- a HALF link keeps groups 64 to 127 as replacements (R369)
  deadTx : List Nat        -- groups disabled, hub to bay and bay to hub
  deadRx : List Nat
  usedTx : SMap Nat        -- spares used, by group
  usedRx : SMap Nat
  ctl : Nat                -- CTL_STATE
  plimit : Nat             -- CTL_PLIMIT
  overMs : Nat             -- ms since the limit was written with the rail still above it, plus 1; 0 for not above
  hotMs : Nat              -- ms above 105 °C
  cool : Bool              -- the 80 % limit is in force
  cause : Nat              -- HEEL_CAUSE an evacuation leads to
  deniedAt : Nat           -- time of the last DENIED record, plus 1
  deriving DecidableEq, Repr

/-- A management command fetched and not answered (R225 to R227). -/
structure Mgmt where
  part : Nat
  entry : Nat              -- free-running count
  cmd : List Byte
  read : Bool              -- its read has returned
  age : Nat                -- boundaries since its fetch at which the Pack was not RESTARTING (R227)
  stage : Nat              -- 0 not started; 1 waits for an invalidation (R313); 2 done at the next boundary (R226); 3 in progress
  out : List Byte          -- a signed answer whose write to the buffer is under way (R504)
  answer : Option Ending   -- how it ended, while an older command has not been answered (R225)
  deriving DecidableEq, Repr

/-- A write to a structure at a virtual address that waits for its translation (R194, R310), the translation stream of its writer, and what depends
on it (R223). -/
structure Parked where
  part : Nat
  ctx : Nat
  stream : Nat
  addr : Nat
  data : List Byte
  by_ : PostBy
  deriving DecidableEq, Repr

/-- An error record not yet acknowledged (R541, R543). `wait`: kept on the die until its queue area can be written (R546). -/
structure ErrRec where
  die : Nat
  src : Nat
  code : Nat
  sev : Nat
  scope : Nat
  n : Nat                  -- its count in the queue
  seq : Nat
  island : Nat
  part : Nat
  ctx : Nat
  tick : Nat
  time : Nat
  addr : Nat
  d0 : Nat
  d1 : Nat
  escalated : Bool
  held : Bool
  count : Nat
  folded : Bool
  lastTick : Nat
  wait : Bool
  deriving DecidableEq, Repr

/-- An answer to a register request or to a work-port message on its way (R326, R374): data or an acknowledgement, its value, the
bay it goes to, 8 for the package's own requester, and the TAG and GEN of the message it answers. -/
structure CfgAns where
  id : Nat
  ack : Bool
  value : Nat
  bay : Nat
  tag : Nat
  gen : Nat
  deriving DecidableEq, Repr

/-- What the endpoint keeps beside its registers: when each function last wrote a LATE_COMPLETION record, in ms plus 1 (R449); PF0's power state to
come into effect (R459); the resource directory and its GENERATION (R444); WAKE# driven low, and what is armed in D3cold: WAKE_SBR, WAKE_STREAM and the torus
ports of stream channels (R460). -/
structure HostPart where
  lateAt : SMap Nat
  powerDue : Option Nat
  directory : List Byte
  dirGen : Nat
  wakeLow : Bool
  wake : Option (Bool × Bool × List Nat)
  deriving DecidableEq, Repr

/-- What the tick keeps: the time of the next boundary where it is not the last one plus P (R235, R238), edges missed in a row, the number the
next boundary takes (R249), the tick number a follower takes from its master and the offset it is out by (R238), sync frames within 20 ns in a
row, when the last valid one came, the ticks in HOLDOVER, the ring position of the master followed, and by how many ps its time of day is still to be
slewed (R236, R238). -/
structure TickPart where
  edgeAt : Option Nat
  edgeMiss : Nat
  numNext : Option Nat
  masterNumber : Option Nat
  syncGood : Nat
  syncAt : Nat
  holdTicks : Nat
  masterPos : Option Nat
  slew : Int
  deriving DecidableEq, Repr

/-- What the Collars keep: boot flash, two Collar slots and two Pack slots with the slot in use of each, and the identity certificate; OTP, the SVN
floors, what each identity bank holds (0 nothing, 1 G1 burned, 2 a seed, 3 spoiled), and whether the test identity is left (R491, R495 to R500,
R513); the next signing index once a block is reserved, and the tokens in the bucket with the time of the last one (R500, R501); a Pack stage in progress,
whether an image is staged, an activation asked for, and when it took effect (R497); the life-cycle command armed and when, and the command that
runs (R512). -/
structure SecPart where
  collarSlots : List (Option Firmware)
  collarSlot : Nat
  packSlots : List (Option Firmware)
  packSlot : Nat
  cert : CertStore
  collarFloor : Nat
  packFloor : Nat
  banks : List Nat
  testId : Bool
  signNext : Option Nat
  tokens : Nat
  tokenAt : Nat
  staging : Option (Nat × Nat)   -- source and length of the image that is being staged (R497)
  staged : Bool
  activateDue : Bool
  activateAt : Nat
  lcsArmed : Option (Nat × Nat)
  lcsRun : Option Nat
  deriving DecidableEq, Repr

/-- A package start and the clusters: what a start finds (R520: VAUX was lost, the VAUX-retained store holds, the last start reached READY), that
one is in progress, and MAIN_PWRGD is low; each die's assignment of physical clusters and its rotating BIST (R530 to R536); package clusters that failed and wait for
a spare (R556); dies whose fail map is emptied at the next cold start (R532); whether TOR_COORD is locked (R16); dies whose crypto engine failed the
known-answer run (R525); when each die's last power wave began, in ns (R537). -/
structure BootPart where
  vauxLost : Bool
  storeGood : Bool
  reached : Bool
  starting : Bool
  mainOff : Bool
  bists : SMap BistDie
  failed : List Nat
  clearFails : List Nat
  coordSet : Bool
  engines : List Nat
  wavedAt : SMap Nat
  deriving DecidableEq, Repr

/-- Heat, power and wear: each die's TCLK as its thermal controller sets it, and the package's as power cap and PROCHOT_N set it, in sixteenths (R553,
R554, R576), with the time of each one's last step (4: the package's); readings of each die in a row at or above TRIP (R553); milliseconds above LIMIT_W; a power cap in force; PROCHOT_N active; dies held after THERMAL_TRIP (R551); watchdog expiries of each
die's Pack with their times in ns (R559); telemetry slots written by each die, and snapshots sampled and not written yet (R560); thresholds of R563 crossed: die × 1,000 + sensor, + 100 +
sensor for CRIT, + 200 for EOL_NEAR. -/
structure HeatPart where
  tclkDie : SMap Nat
  tclkCap : Nat
  tclkAt : SMap Nat
  hotReads : SMap Nat
  overMs : Nat
  capOn : Bool
  prochot : Bool
  tripped : List Nat
  wdtTimes : List (Nat × Nat)
  telSlots : SMap Nat
  telDue : List (Nat × List Byte)
  ageLow : List Nat
  resets : List (Nat × Nat)
  deriving DecidableEq, Repr

/-- The package. -/
structure State where
  /-- Register fields in effect, by bit address; a field not listed holds its reset value (R7, R10). -/
  regs : SMap Nat
  /-- Pending T-class values, by the same bit address (R10, R11). -/
  shadow : SMap Nat
  /-- High halves latched by a read of a low half (R91), by byte address. -/
  latch : SMap Nat
  /-- A field of the group was written since the last boundary (R579). -/
  wroteRegion : Bool
  wroteLeash : Bool
  wroteSlots : Bool
  wrotePar : Bool
  /-- The time of day at the last tick boundary or the last timed command, in ns. -/
  now : Nat
  /-- How many free values have been used (log entry 3). -/
  free : Nat
  /-- What each die does: 0 runs, 1 is in reset, 2 is held under R22. -/
  dies : SMap Nat
  /-- What a read finds, by pseudo-channel × 2^30 + byte: the stack cache over the DRAM below it (R253). -/
  dram : SMap Byte
  stcLines : List StcLine
  /-- Sectors marked uncorrectable until they are written whole (R269), by address / 32. -/
  ue : SMap Nat
  rowCe : List RowCe
  dirs : SMap DirEntry
  dirOrder : Nat
  tiles : SMap Tile
  clusters : SMap Cluster
  sigs : List Sig
  slotFlits : List SlotFlit
  creditFlits : List CreditFlit
  units : List WUnit
  descs : List Desc
  images : List Image
  nextUid : Nat
  /-- Management commands fetched and responses written, by partition (R197, R225). -/
  mgmtHead : SMap Nat
  mgmtDone : SMap Nat
  /-- The ring that led at the last boundary, plus 1, by partition (R205). -/
  lead : SMap Nat
  /-- Boundaries in a row at which the doorbell read was late or in error, by partition (R208). -/
  dbFails : SMap Nat
  /-- Contexts that overrun debt keeps from admitting at this boundary, and budget ends drawn in, by 16 × partition + context (R244). -/
  indebted : List Nat
  early : SMap Nat
  /-- Admission windows: 0 shut, 1 doorbell read outstanding, 2 open, 3 open past the fetch deadline (R205 to R209). -/
  windows : SMap Nat
  /-- Rings that admission has stopped with at this boundary, 128 × partition + ring, and package clusters whose unit has ended since the
  boundary (R205, R241). -/
  stopped : List Nat
  freed : List Nat
  /-- Doorbell counts as last read, by 64 × partition + ring. -/
  doorbells : SMap Nat
  /-- Vectors with something to report at the next boundary: 64 × function + vector (R218, R219). -/
  irqs : List Nat
  /-- Partitions with a WRK_EVENT bit that sends at the next boundary (R219). -/
  eventsDue : List Nat
  mgmts : List Mgmt
  /-- Management queues in ERROR, with the reason of R230, by partition (R199, R223, R225). -/
  mgmtBad : SMap Nat
  parked : List Parked
  /-- Confidential contexts touched since the last boundary, 16 × partition + context (R510). -/
  disclosed : List Nat
  xfers : List Xfer
  reqs : List Req
  nextId : Nat
  /-- Host reads of tile transfers, by tag; a tag is the request's number. -/
  hreads : List HostRead
  snoops : List Snoop
  /-- Causes of R350 waiting for ISLAND_DOWN_NOTICE, and what the hub knows of each bay. -/
  downs : List Down
  cfgs : List CfgAns
  bays : SMap BayInfo
  /-- OTP of the lead Collar: what each bay's site is ordered to hold (R2: a slot number, 0xD0 for Dampiley, 0xFF for a thermal dummy), and the
  qualification revocation floor (R366). -/
  population : List Nat
  revFloor : Nat
  /-- Ring-link modules by (die × 2 + link) × 16 + module, link 0 CW and 1 CCW; torus ports by number (R393, R405). -/
  ringMods : SMap RingMod
  torPorts : SMap TorPort
  torRx : List TorPacket
  /-- Torus queues: commands fetched, and HEAD by 8 × partition + queue (R413); packets PUT has taken and not yet acknowledged, by source
  coordinates × 2^16 + TAG (R414). -/
  torCmds : List TorCmd
  torHead : SMap Nat
  torPuts : SMap Nat
  /-- Reduction groups: chunks in flight and the next chunk number (R416). -/
  redChunks : List RedChunk
  redNext : SMap Nat
  /-- Stream channels: chunks with accepted bytes, those a boundary has told to close (channel, tick), and channels with a late arrival
  since the last entry (R417). -/
  slots : List StreamSlot
  closes : List (Nat × Nat)
  streamLate : List Nat
  /-- Kennel: epochs closed since the last checkpoint, the checkpoint's tick and whether one is due, and the tick of the one that streams (R419). -/
  knlEpochs : Nat
  knlDue : Option (Nat × Bool)   -- the boundary, and whether the last checkpoint still streamed there
  knlTick : Nat
  /-- The buddy's side: which of the two logs takes the next checkpoint (R418, R419). -/
  knlLog : Nat
  /-- The sideband ring: frames awaiting an answer and the next SEQ (R424, R425). -/
  sideOut : List SideFrame
  sideSeq : Nat
  /-- Memory taken from a quota whose release still drains (R475, R476): partition, start and length in 64 MiB units. -/
  released : List (Nat × Nat × Nat)
  /-- The lead Collar's record of enabled contexts, by 16 × partition + context, and the number of the next key pair. -/
  ctxs : SMap CtxInfo
  nextKey : Nat
  /-- Kennel's tracker (R419, R420): dirty granules with the dies that saw them, the frozen granules not yet read, and those copied to
  KNL_STAGE. -/
  knlDirty : SMap Nat
  knlCkpt : SMap Nat       -- granules of the checkpoint that streams
  knlFrozen : List Nat
  knlStage : List (Nat × List Byte)
  tlbs : List (Nat × TlbEntry)        -- 0 to 3 a die's TLB, 4 + n the TLB of package cluster n
  walks : List (Nat × WalkEntry)
  misses : List Miss
  /-- What the command in progress waits for (log entry 119): empty between commands. -/
  ask : List Ask
  /-- The stream a walker of a die has served last, plus 1 (R308). -/
  walkTurn : SMap Nat
  invals : List Inval
  /-- Credit counters of the Leash, by (die × 137 + master port) × 4 + class (R284), and the units each memory port has served to
  non-strict requests in this frame (R287). -/
  leash : SMap Nat
  /-- EFF as the Leash uses it, by the same key, and the changes it does not use yet, with their times (R292). -/
  effUse : SMap Nat
  effDue : List (Nat × SMap Nat)
  served : SMap Nat
  /-- When the slot frame began, in ns; data flits each master port has sent slotted in its slots, by (137 × die + port) × 64 + slot; and, while
  strict ports load links, those of other traffic on each link, by link × 64 + slot: a memory port's links 0 to 127, ring link direction e 128 + e
  (R243, R336, R340). -/
  frameAt : Nat
  slotUse : SMap Nat
  linkUse : SMap Nat
  /-- The deficits of the round robin into each memory port's queue, by 2192 × port + the key of `leash`, and 1 + the key it stands at (R282). -/
  deficits : SMap Nat
  drrAt : SMap Nat
  /-- Memory ports whose loop-back run has not finished (R273). -/
  loopbacks : List Nat
  /-- Channels the health history holds as retired, by package channel (R272). -/
  deadChans : List Nat
  errs : List ErrRec
  /-- The package is FATAL-PACKAGE: nothing more is admitted until a package reset (R548). -/
  fatal : Bool
  /-- SR-IOV: VF Enable and NumVFs of PF0 (R436), and the rest of the functions' configuration space by 4096 × function + offset. -/
  vfEnable : Bool
  numVfs : Nat
  config : SMap Nat
  /-- Host-bound writes and messages held in Heel (R455), oldest first. -/
  heldWrites : List Out
  heldMsix : List Nat
  /-- What the endpoint, the tick, the Collars, a package start and the thermal controllers keep. -/
  host : HostPart
  tck : TickPart
  sec : SecPart
  boot : BootPart
  heat : HeatPart
  out : List Out
  pending : List Instr
  deriving DecidableEq, Repr

/-- The package right after its reset (R20, R520): every register at its reset value, memories unwritten, nothing
admitted, no command waiting. -/
def State.reset : State where
  regs := []
  shadow := []
  latch := []
  wroteRegion := false
  wroteLeash := false
  wroteSlots := false
  wrotePar := false
  now := 0
  free := 0
  dies := []
  dram := []
  stcLines := []
  ue := []
  rowCe := []
  dirs := []
  dirOrder := 0
  tiles := []
  clusters := []
  sigs := []
  slotFlits := []
  creditFlits := []
  units := []
  descs := []
  images := []
  nextUid := 1
  mgmtHead := []
  mgmtDone := []
  lead := []
  dbFails := []
  indebted := []
  early := []
  windows := []
  stopped := []
  freed := []
  doorbells := []
  irqs := []
  eventsDue := []
  mgmts := []
  mgmtBad := []
  parked := []
  disclosed := []
  xfers := []
  reqs := []
  nextId := 1
  hreads := []
  snoops := []
  downs := []
  cfgs := []
  bays := []
  population := [0xD0, 0xD0, 0xFF, 0xFF, 0, 7, 0xFF, 0xFF]
  revFloor := 0
  ringMods := []
  torPorts := []
  torRx := []
  torCmds := []
  torHead := []
  torPuts := []
  redChunks := []
  redNext := []
  slots := []
  closes := []
  streamLate := []
  knlEpochs := 0
  knlDue := none
  knlTick := 0
  knlLog := 0
  sideOut := []
  sideSeq := 0
  released := []
  ctxs := []
  nextKey := 0
  knlDirty := []
  knlCkpt := []
  knlFrozen := []
  knlStage := []
  tlbs := []
  walks := []
  misses := []
  ask := []
  walkTurn := []
  invals := []
  leash := []
  effUse := []
  effDue := []
  served := []
  frameAt := 0
  slotUse := []
  linkUse := []
  deficits := []
  drrAt := []
  loopbacks := []
  deadChans := []
  errs := []
  fatal := false
  vfEnable := false
  numVfs := 0
  config := []
  heldWrites := []
  heldMsix := []
  host := { lateAt := [], powerDue := none, directory := [], dirGen := 0, wakeLow := false, wake := none }
  tck := { edgeAt := none, edgeMiss := 0, numNext := none, masterNumber := none, syncGood := 0, syncAt := 0, holdTicks := 0, masterPos := none, slew := 0 }
  sec := { collarSlots := [some .factory, none], collarSlot := 0, packSlots := [some .factory, none], packSlot := 0, cert := .factory, collarFloor := 0,
           packFloor := 0, banks := [2, 0], testId := false, signNext := none, tokens := 64, tokenAt := 0, staging := none, staged := false,
           activateDue := false, activateAt := 0, lcsArmed := none, lcsRun := none }
  boot := { vauxLost := true, storeGood := false, reached := false, starting := true, mainOff := false, bists := [], failed := [], clearFails := [], coordSet := false, engines := [], wavedAt := [] }
  heat := { tclkDie := [], tclkCap := 16, tclkAt := [], hotReads := [], overMs := 0, capOn := false, prochot := false, tripped := [], wdtTimes := [], telSlots := [], telDue := [],
            ageLow := [], resets := [] }
  out := []
  pending := []

end Sys2Proof.Machine
end

