-- ==== Sys2Proof/Machine/Regs.lean ====
section
/-! DEFINITION. Reading and writing register fields, the change classes of R10 to R15, free values, and the guards every
meaning begins with. Every register has its one home here. -/

namespace Sys2Proof.Machine

/-- The answer of a meaning. -/
abbrev Result := Host.Outcome State Fault Refusal

/-- A state with a queue of waiting commands. -/
def State.withQueue (t : State) (q : List Instr) : State := { t with pending := q }

/-- A command takes effect on an instance the package has, and on everything but the queue: `s` is the state before it and `t` what
its effect makes of that; on any other instance it is no command (Fault.noSuchInstance). -/
def within (s : State) (ok : Bool) (t : State) : Result := if ok then .next (t.withQueue s.pending) else .fault .noSuchInstance

/-- Address part of an index list: each index times its stride. -/
def strideSum : List (Nat × Nat) → List Nat → Nat
  | (_, st) :: ds, i :: is => i * st + strideSum ds is
  | _, _ => 0

/-- Byte offset of a field's word within the die's register space (R7). -/
def Fld.offset (f : Fld) (ix : List Nat) : Nat := f.base + strideSum f.dims ix

/-- The key of a field on die `d`: its bit address over all dies. Package-level registers stand on HD0 (R7). -/
def Fld.key (f : Fld) (d : Nat) (ix : List Nat) : Nat := (d * 2 ^ 26 + f.offset ix) * 8 + f.lo

/-- The reset value of a field (its table's Reset column). -/
def Fld.resetAt (f : Fld) (d : Nat) (ix : List Nat) : Nat :=
  match f.kind with
  | .const => f.rst
  | .lead => if d = 0 then 1 else 0
  | .pos => d
  | .role0 => [6, 2, 7, 3].getD d 0
  | .role1 => [0, 4, 1, 5].getD d 0
  | .entry0 => if ix.getD 0 0 = 0 then f.rst else 0
  | .errQueue => f.rst + d
  | .fuse => if ix.getD 0 0 < 4 then 2 ^ 32 - 1 else 2 ^ 16 - 1

/-- The value of a field in effect (R12). -/
def State.rd (s : State) (f : Fld) (d : Nat) (ix : List Nat := []) : Nat :=
  SMap.get (f.resetAt d ix) s.regs (f.key d ix)

/-- A one-bit field as a truth value. -/
def State.rdB (s : State) (f : Fld) (d : Nat) (ix : List Nat := []) : Bool := s.rd f d ix != 0

/-- Set a field, cut to its width. -/
def State.wr (s : State) (f : Fld) (d : Nat) (ix : List Nat) (v : Nat) : State :=
  { s with regs := SMap.ins s.regs (f.key d ix) (v % 2 ^ f.width) }

/-- The pending shadow of a T-class field, or the value in effect when none is pending (R10). -/
def State.rdShadow (s : State) (f : Fld) (d : Nat) (ix : List Nat) : Nat :=
  SMap.get (s.rd f d ix) s.shadow (f.key d ix)

/-- A T-class write goes to the shadow (R10, R11). -/
def State.wrShadow (s : State) (f : Fld) (d : Nat) (ix : List Nat) (v : Nat) : State :=
  { s with shadow := SMap.ins s.shadow (f.key d ix) (v % 2 ^ f.width) }

/-- Add to a counter that stops at its largest value. -/
def State.bump (s : State) (f : Fld) (d : Nat) (ix : List Nat) (n : Nat) : State :=
  s.wr f d ix (min (2 ^ f.width - 1) (s.rd f d ix + n))

/-- Add to a free-running count. -/
def State.roll (s : State) (f : Fld) (d : Nat) (ix : List Nat) (n : Nat) : State :=
  s.wr f d ix (s.rd f d ix + n)

/-- Set several fields of one indexed register. -/
def State.wrs (s : State) (d : Nat) (ix : List Nat) (l : List (Fld × Nat)) : State :=
  l.foldl (fun s p => s.wr p.1 d ix p.2) s

/-- Do something for each element of a list, in order. -/
def State.each {α : Type} (s : State) (l : List α) (f : State → α → State) : State := l.foldl f s

/-- `n` bytes nothing constrains (log entry 3). -/
def State.freeBytes (s : State) (n : Nat) : List Byte :=
  (List.range n).map (fun i => BitVec.ofNat 8 (Config.freeNat (s.free + i)))

/-- One number below `m` that nothing else constrains, and the state that has used it. -/
def State.freeBelow (s : State) (m : Nat) : Nat := Config.freeNat s.free % m
def State.useFree (s : State) (n : Nat) : State := { s with free := s.free + n }

/-- Send something to a party outside. -/
def State.send (s : State) (o : Out) : State := { s with out := s.out ++ [o] }

/-- The configuration-error register of a block (R14). -/
def Blk.err : Blk → Fld × Fld × Fld
  | .HUB => (R.HUB_CFG_ERR_CFG_ERR, R.HUB_CFG_ERR_MULTI, R.HUB_CFG_ERR_OFFSET)
  | .CLU => (R.CLU_CFG_ERR_CFG_ERR, R.CLU_CFG_ERR_MULTI, R.CLU_CFG_ERR_OFFSET)
  | .SHD => (R.SHD_CFG_ERR_CFG_ERR, R.SHD_CFG_ERR_MULTI, R.SHD_CFG_ERR_OFFSET)
  | .WRK => (R.WRK_CFG_ERR_CFG_ERR, R.WRK_CFG_ERR_MULTI, R.WRK_CFG_ERR_OFFSET)
  | .TCK => (R.TCK_CFG_ERR_CFG_ERR, R.TCK_CFG_ERR_MULTI, R.TCK_CFG_ERR_OFFSET)
  | .MEM => (R.MEM_CFG_ERR_CFG_ERR, R.MEM_CFG_ERR_MULTI, R.MEM_CFG_ERR_OFFSET)
  | .STC => (R.STC_CFG_ERR_CFG_ERR, R.STC_CFG_ERR_MULTI, R.STC_CFG_ERR_OFFSET)
  | .LSH => (R.LSH_CFG_ERR_CFG_ERR, R.LSH_CFG_ERR_MULTI, R.LSH_CFG_ERR_OFFSET)
  | .XLT => (R.XLT_CFG_ERR_CFG_ERR, R.XLT_CFG_ERR_MULTI, R.XLT_CFG_ERR_OFFSET)
  | .XLT_P => (R.XLT_P_CFG_ERR_CFG_ERR, R.XLT_P_CFG_ERR_MULTI, R.XLT_P_CFG_ERR_OFFSET)
  | .FLL => (R.FLL_CFG_ERR_CFG_ERR, R.FLL_CFG_ERR_MULTI, R.FLL_CFG_ERR_OFFSET)
  | .COH => (R.COH_CFG_ERR_CFG_ERR, R.COH_CFG_ERR_MULTI, R.COH_CFG_ERR_OFFSET)
  | .BAY => (R.BAY_CFG_ERR_CFG_ERR, R.BAY_CFG_ERR_MULTI, R.BAY_CFG_ERR_OFFSET)
  | .BAY_P => (R.BAY_P_CFG_ERR_CFG_ERR, R.BAY_P_CFG_ERR_MULTI, R.BAY_P_CFG_ERR_OFFSET)
  | .DDL => (R.DDL_CFG_ERR_CFG_ERR, R.DDL_CFG_ERR_MULTI, R.DDL_CFG_ERR_OFFSET)
  | .TOR => (R.TOR_CFG_ERR_CFG_ERR, R.TOR_CFG_ERR_MULTI, R.TOR_CFG_ERR_OFFSET)
  | .TOR_P => (R.TOR_P_CFG_ERR_CFG_ERR, R.TOR_P_CFG_ERR_MULTI, R.TOR_P_CFG_ERR_OFFSET)
  | .KNL => (R.KNL_CFG_ERR_CFG_ERR, R.KNL_CFG_ERR_MULTI, R.KNL_CFG_ERR_OFFSET)
  | .SBR => (R.SBR_CFG_ERR_CFG_ERR, R.SBR_CFG_ERR_MULTI, R.SBR_CFG_ERR_OFFSET)
  | .PCI => (R.PCI_CFG_ERR_CFG_ERR, R.PCI_CFG_ERR_MULTI, R.PCI_CFG_ERR_OFFSET)
  | .HEL => (R.HEL_CFG_ERR_CFG_ERR, R.HEL_CFG_ERR_MULTI, R.HEL_CFG_ERR_OFFSET)
  | .PAR => (R.PAR_CFG_ERR_CFG_ERR, R.PAR_CFG_ERR_MULTI, R.PAR_CFG_ERR_OFFSET)
  | .PAR_P => (R.PAR_P_CFG_ERR_CFG_ERR, R.PAR_P_CFG_ERR_MULTI, R.PAR_P_CFG_ERR_OFFSET)
  | .SEC => (R.SEC_CFG_ERR_CFG_ERR, R.SEC_CFG_ERR_MULTI, R.SEC_CFG_ERR_OFFSET)
  | .LCS => (R.LCS_CFG_ERR_CFG_ERR, R.LCS_CFG_ERR_MULTI, R.LCS_CFG_ERR_OFFSET)
  | .BST => (R.BST_CFG_ERR_CFG_ERR, R.BST_CFG_ERR_MULTI, R.BST_CFG_ERR_OFFSET)
  | .PWR => (R.PWR_CFG_ERR_CFG_ERR, R.PWR_CFG_ERR_MULTI, R.PWR_CFG_ERR_OFFSET)
  | .ERR => (R.ERR_CFG_ERR_CFG_ERR, R.ERR_CFG_ERR_MULTI, R.ERR_CFG_ERR_OFFSET)
  | .AGE => (R.AGE_CFG_ERR_CFG_ERR, R.AGE_CFG_ERR_MULTI, R.AGE_CFG_ERR_OFFSET)

/-- Record a dropped write at byte offset `off` (R14). `ix` is the register's first index: the cluster, partition or bay. -/
def State.cfgErr (s : State) (b : Blk) (d : Nat) (ix : List Nat) (off : Nat) : State :=
  let (e, m, o) := b.err
  let ix := ix.take e.dims.length
  if s.rdB e d ix then s.wr m d ix 1 else (s.wr e d ix 1).wr o d ix off

/-- Clear a counter. -/
def State.clear (s : State) (d : Nat) (l : List Fld) : State := s.each l (fun s f => s.wr f d [] 0)

/-- Every index of a field: the product of its dimensions. -/
def Fld.indices (f : Fld) : List (List Nat) :=
  f.dims.foldr (fun c l => (List.range c.1).flatMap (fun i => l.map (i :: ·))) [[]]

/-- Clear a counter at every index (the CLEAR_STATS bits). -/
def State.clearAll (s : State) (d : Nat) (l : List Fld) : State :=
  s.each l (fun s f => s.each f.indices (fun s ix => s.wr f d ix 0))

/-- Where a package cluster's and a package tile's registers stand (R23). -/
def cluDie (c : Nat) : Nat := c / 128
def cluIx (c : Nat) : List Nat := [c % 128]
def tilDie (t : Nat) : Nat := t / 2048
def tilIx (t : Nat) : List Nat := [t / 16 % 128, t % 16]

def State.rdClu (s : State) (f : Fld) (c : Nat) : Nat := s.rd f (cluDie c) (cluIx c)
def State.wrClu (s : State) (f : Fld) (c v : Nat) : State := s.wr f (cluDie c) (cluIx c) v
def State.rdTil (s : State) (f : Fld) (t : Nat) : Nat := s.rd f (tilDie t) (tilIx t)
def State.wrTil (s : State) (f : Fld) (t v : Nat) : State := s.wr f (tilDie t) (tilIx t) v

/-- Whether a die runs: not in reset and not held under R22. -/
def State.dieRuns (s : State) (d : Nat) : Bool := SMap.get 0 s.dies d == 0

/-- A tile or cluster nothing has loaded (R44, R78; log entry 9). -/
def Tile.idle : Tile :=
  { mem := [], fill := none, banks := [], tok := [], outs := [], ins := [], gen := [], abr := [], shapes := [], planes := 0, sBlock := none,
    loops := [], ringBase := 0, ringSize := 64, code := [], codeLen := 0, written := 0, head := 0, prefetch := [],
    cmds := [], nextSeq := 0 }
def Cluster.idle : Cluster :=
  { buf := [], fill := none, lastCtx := none, capped := 0, ringRegion := 0, unit := none, logical := 0, loaded := false, ended := false,
    blocked := false, moveTo := none, metered := false }

def State.tile (s : State) (t : Nat) : Tile := SMap.get Tile.idle s.tiles t
def State.setTile (s : State) (t : Nat) (x : Tile) : State := { s with tiles := SMap.put Tile.idle s.tiles t x }
def State.clu (s : State) (c : Nat) : Cluster := SMap.get Cluster.idle s.clusters c
def State.setClu (s : State) (c : Nat) (x : Cluster) : State := { s with clusters := SMap.put Cluster.idle s.clusters c x }

/-- The island number of a die and the state of an island (R32, R356: 0 UP, 1 DOWN, 2 REINIT). -/
def State.island (s : State) (d : Nat) : Nat :=
  if d = 0 then s.rd R.HUB_ISLAND_HD0_ISL 0 else if d = 1 then s.rd R.HUB_ISLAND_HD1_ISL 0
  else if d = 2 then s.rd R.HUB_ISLAND_HD2_ISL 0 else s.rd R.HUB_ISLAND_HD3_ISL 0
def State.islUp (s : State) (i : Nat) : Bool := s.rd R.COH_ISL_STATE_STATE 0 [i] == 0

def State.islDown (s : State) (i : Nat) : Bool := s.rd R.COH_ISL_STATE_STATE 0 [i] == 1

/-- The dies of an island. -/
def State.islDies (s : State) (i : Nat) : List Nat := (List.range 4).filter (fun d => s.island d == i)

/-- The current tick number and period (R231, R232). -/
def State.tick (s : State) : Nat := s.rd R.TCK_NUMBER 0

/-- The time a command happens: `dt` ns after the last boundary (R240). -/
def State.at_ (s : State) (dt : Nat) : State := { s with now := max s.now (s.rd R.TCK_TOD 0 + dt) }

/-- What a write of a field meets: nothing to change, a drop (R14, or a value its map forbids), or the new value. -/
inductive Put where
  | none
  | drop
  | put (v : Nat)

/-- How one field takes part of a write (R8, R10 to R15): `v` is the value written, `blocked` whether a Q-class field is busy or a
K-class field locked. An action asked of a WO field is the row's own. -/
def State.putOf (s : State) (f : Fld) (d : Nat) (ix : List Nat) (v : Nat) (blocked : Bool) : Put :=
  let fixed := f.cls == .Q || f.cls == .K
  match f.acc with
  | .RO => .none
  | .W1C => .put (s.rd f d ix - (s.rd f d ix &&& v))
  | .WO => if v = 0 then .none else if fixed && blocked then .drop else .none
  | .RW =>
    let cur := if f.cls == .T then s.rdShadow f d ix else s.rd f d ix
    if v = cur then (if f.cls == .T then .put v else .none)
    else if fixed && blocked then .drop
    else if v < f.vmin || f.vmax < v then .drop else .put v

/-- One register write over the fields `fs` of a register (R10 to R15): each field by its own class; a write that drops any records its
offset once. -/
def State.regWrite (s : State) (b : Blk) (d : Nat) (ix : List Nat) (value : Nat) (blocked : Fld → Bool) (fs : List Fld) : State :=
  let ps := fs.map (fun f => (f, s.putOf f d ix (bits value f.lo f.width) (blocked f)))
  let s := s.each ps (fun s p =>
    match p.2 with
    | .put v => if p.1.cls == .T then s.wrShadow p.1 d ix v else s.wr p.1 d ix v
    | _ => s)
  match ps.find? (fun p => match p.2 with | .drop => true | _ => false) with
  | some p => s.cfgErr b d ix (p.1.offset ix)
  | none => s

end Sys2Proof.Machine
end

