-- ==== Sys2Proof/Machine/Mem.lean ====
section
/-! DEFINITION. From a device physical address to a pseudo-channel (R251 to R259), the stack cache (R260 to R262), and the
bytes below it. -/

namespace Sys2Proof.Machine

/-- Band size of a region mode: package-wide 1 GiB, die-local 256 MiB, stack-local 64 MiB (R254). -/
def bandSize (mode : Nat) : Nat := if mode = 0 then 2 ^ 30 else if mode = 1 then 2 ^ 28 else 2 ^ 26

/-- Number of address bits a granule number spends on the pseudo-channel (R255). -/
def chanBits (mode : Nat) : Nat := if mode = 0 then 10 else if mode = 1 then 8 else 6

/-- A region table entry (R255), in effect or in the shadow. -/
structure Region where
  valid : Bool
  mode : Nat
  target : Nat
  stream : Bool
  base : Nat
  bands : Nat
  first : Nat
  deriving DecidableEq, Repr

def Region.size (r : Region) : Nat := r.bands * bandSize r.mode

def regionOf (rd : Fld → List Nat → Nat) (e : Nat) : Region :=
  { valid := rd R.MEM_REGION_VALID [e] != 0, mode := rd R.MEM_REGION_MODE [e], target := rd R.MEM_REGION_TARGET [e],
    stream := rd R.MEM_REGION_STREAM [e] != 0, base := rd R.MEM_REGION_BASE_BASE [e] * 2 ^ 26,
    bands := rd R.MEM_REGION_BANDS_BANDS [e], first := rd R.MEM_REGION_BANDS_BAND_FIRST [e] }

def State.region (s : State) (e : Nat) : Region := regionOf (fun f ix => s.rd f 0 ix) e

/-- The valid region that covers a DPA (R255). -/
def State.regionFor (s : State) (dpa : Nat) : Option Region :=
  ((List.range 64).map s.region).find? (fun r => r.valid && decide (r.base ≤ dpa) && decide (dpa < r.base + r.size))

/-- The XOR fold of a row number in `w`-bit pieces (R255). -/
def fold (w : Nat) : Nat → Nat → Nat
  | 0, _ => 0
  | n + 1, x => if x = 0 then 0 else (x % 2 ^ w) ^^^ fold w n (x >>> w)

/-- decode of R255 in one region: pseudo-channel and local offset. -/
def Region.decode (r : Region) (dpa : Nat) : Nat × Nat :=
  let w := chanBits r.mode
  let o := dpa - r.base
  let g := o >>> 8
  let row := g >>> w
  let j := (g % 2 ^ w) ^^^ fold w 44 row
  let q := if r.mode = 0 then j else if r.mode = 1 then 256 * r.target + j else 64 * r.target + j
  (q, r.first * 2 ^ 20 + row * 256 + o % 256)

def State.decode (s : State) (dpa : Nat) : Option (Nat × Nat) := (s.regionFor dpa).map (·.decode dpa)

/-- What R254 says of a pseudo-channel number. -/
def qDie (q : Nat) : Nat := q / 256
def qStack (q : Nat) : Nat := q / 64
def qPort (q : Nat) : Nat := q / 8
def portIx (q : Nat) : List Nat := [q / 8 % 32]
def qAddr (q loc : Nat) : Nat := q * 2 ^ 30 + loc

/-- Whether the channel of a pseudo-channel is retired (R272). -/
def State.retired (s : State) (q : Nat) : Bool := bit (s.rd R.MEM_PORT_STATUS_RETIRED (qDie q) (portIx q)) (q % 8 / 2)

/-- The pieces of a byte range that lie in one granule each (R255, R325). -/
def granules : Nat → Nat → Nat → List (Nat × Nat)
  | 0, _, _ => []
  | n + 1, a, len => if len = 0 then [] else
    let k := min len (256 - a % 256)
    (a, k) :: granules n (a + k) (len - k)
def pieces (a len : Nat) : List (Nat × Nat) := granules (len / 256 + 2) a len

/-- The sectors a range within a granule touches, and those it covers whole, as masks (R260). -/
def touched (o len : Nat) : Nat :=
  (List.range 8).foldl (fun m i => if decide (o < 32 * i + 32) && decide (32 * i < o + len) then m + 2 ^ i else m) 0

/-- The same of a byte mask of the granule: the bytes from `o` on, and the sectors it touches or covers whole. -/
def byteMask (o len : Nat) : Nat := (2 ^ len - 1) * 2 ^ o
def touchedM (m : Nat) : Nat := (List.range 8).foldl (fun n i => if bits m (32 * i) 32 = 0 then n else n + 2 ^ i) 0
def coveredM (m : Nat) : Nat := (List.range 8).foldl (fun n i => if bits m (32 * i) 32 = 2 ^ 32 - 1 then n + 2 ^ i else n) 0
def maskList (m : Nat) : List Nat := (List.range 8).filter (bit m)
def popcount (m n : Nat) : Nat := ((List.range n).filter (bit m)).length

/-- The set of a stack-cache line (R260). -/
def stcSet (q gran : Nat) : Nat := (8 * gran + q % 8) % 384

def State.stcFind (s : State) (q gran : Nat) : Option StcLine := s.stcLines.find? (fun l => l.q == q && l.gran == gran)

/-- Replace, or add, a line. -/
def State.stcSetLine (s : State) (l : StcLine) : State :=
  { s with stcLines := s.stcLines.filter (fun x => !(x.q == l.q && x.gran == l.gran)) ++ [l] }

/-- A dirty line's sectors reach DRAM: they are whole, so an uncorrectable sector there is healed (R261, R269). A retired
channel drops the write and counts it (R272). -/
def State.writeBack (s : State) (l : StcLine) : State :=
  let s := s.each (maskList l.dirty) (fun s i => { s with ue := SMap.del s.ue ((qAddr l.q (l.gran * 256 + 32 * i)) / 32) })
  if s.retired l.q && l.dirty != 0 then s.bump R.MEM_PORT_UE (qDie l.q) (portIx l.q) 1
  else s.bump R.STC_WRITEBACKS (qDie l.q) [] (popcount l.dirty 8)

/-- The lines of a set of one port. -/
def State.stcWays (s : State) (q set : Nat) : List StcLine := s.stcLines.filter (fun l => l.q / 8 == q / 8 && l.set == set)

/-- The way a new line takes: a free one of the mask, else the first with the largest prediction value, the others of the set
ageing with it (R260; the ageing is PRESUMED, log entry 10). -/
def State.stcVictim (s : State) (q set mask : Nat) : Nat × Option StcLine :=
  let ls := s.stcWays q set
  let ways := (List.range 16).filter (bit mask)
  match ways.find? (fun w => ls.all (fun l => l.way != w)) with
  | some w => (w, none)
  | none =>
    let cand := ls.filter (fun l => bit mask l.way)
    let top := cand.foldl (fun m l => max m l.rrpv) 0
    match ways.filterMap (fun w => cand.find? (fun l => l.way == w && l.rrpv == top)) with
    | l :: _ => (l.way, some l)
    | [] => (0, none)

/-- Allocate or extend a line. -/
def State.stcFill (s : State) (q gran mask valid dirty rrpv : Nat) : State :=
  match s.stcFind q gran with
  | some l => s.stcSetLine { l with valid := l.valid ||| valid, dirty := l.dirty ||| dirty, rrpv := min l.rrpv rrpv }
  | none =>
    let set := stcSet q gran
    let (w, vic) := s.stcVictim q set mask
    let s := match vic with
      | none => s
      | some v =>
        let s := s.writeBack v
        let age := 3 - v.rrpv
        { s with stcLines := (s.stcLines.filter (fun (x : StcLine) => !(x.q == v.q && x.gran == v.gran))).map (fun (x : StcLine) =>
            if x.q / 8 == q / 8 && x.set == set && bit mask x.way then { x with rrpv := min 3 (x.rrpv + age) } else x) }
    s.stcSetLine { q := q, gran := gran, set := set, way := w, valid := valid, dirty := dirty, rrpv := rrpv }

/-- The ways a partition's requests allocate into. Requests of no partition (64) leave the ways of strict partitions alone (R262). -/
def State.ways (s : State) (q part : Nat) : Nat :=
  if part < 64 then s.rd R.STC_PART_WAYS_WAYS (qDie q) [part]
  else (List.range 64).foldl (fun m p =>
    if s.rdB R.PAR_CFG_ENABLE 0 [p] && s.rdB R.PAR_CFG_STRICT 0 [p] then m - (m &&& s.rd R.STC_PART_WAYS_WAYS (qDie q) [p]) else m) (2 ^ 16 - 1)

/-- Whether a request is handled under STREAM (R261, R262, R275). Partition 64 stands for none. -/
def State.streams (s : State) (q dpa part : Nat) (hint : Bool) : Bool :=
  hint || (match s.regionFor dpa with | some r => r.stream | none => false) || !s.rdB R.STC_CTRL_ENABLE (qDie q) || s.ways q part == 0


/-- The sectors that a request for the bytes `mask` of a granule must read from DRAM: a read needs those not valid in the slice; a write
needs the partly covered ones not valid there (R261). -/
def State.dramSectors (s : State) (q gran mask : Nat) (write : Bool) : Nat :=
  let t := touchedM mask
  let need := if write then t - coveredM mask else t
  let have_ := match s.stcFind q gran with | some l => l.valid | none => 0
  (List.range 8).foldl (fun m i => if bit need i && !bit have_ i then m + 2 ^ i else m) 0

/-- The first sector of a request that cannot be given: any sector on a retired channel, else one that DRAM must give and that is marked
uncorrectable (R269, R272). -/
def State.badSector (s : State) (q gran mask : Nat) (write : Bool) : Option Nat :=
  if s.retired q then (maskList (touchedM mask)).head?
  else (maskList (s.dramSectors q gran mask write)).find? (fun i => SMap.get 0 s.ue (qAddr q (256 * gran + 32 * i) / 32) == 1)

/-- The stack cache's side of a request that succeeds (R261): counters, and what it holds afterwards. A retired channel's writes are
dropped, so they leave it as it is (R272). -/
def State.stcAccess (s : State) (q gran mask dpa part : Nat) (hint write : Bool) : State :=
  if s.retired q then s else
  let d := qDie q
  let st := s.streams q dpa part hint
  let t := touchedM mask
  let dramMask := s.dramSectors q gran mask write
  let s1 := if st then s.bump R.STC_BYPASS d [] 1 else s
  let s2 := if dramMask = 0 then (if write then (if (s.stcFind q gran).isSome then s1.bump R.STC_HITS d [] 1 else s1)
                                  else s1.bump R.STC_HITS d [] 1)
            else s1.bump R.STC_MISSES d [] 1
  match s.stcFind q gran with
  | some _ =>
    if write then
      if st then
        -- only valid or whole sectors of a hit line are updated; the rest goes to DRAM
        let here := (List.range 8).foldl (fun m i => if bit t i && !bit dramMask i then m + 2 ^ i else m) 0
        s2.stcFill q gran 0 here here 0
      else s2.stcFill q gran (s.ways q part) t t 0
    else if st then s2.stcFill q gran 0 0 0 (if dramMask = 0 then 0 else 3)
    else s2.stcFill q gran (s.ways q part) t 0 0
  | none =>
    if st then
      if write then { s2 with ue := s2.ue.filter (fun e => !(decide (e.1 / 8 = qAddr q (gran * 256) / 256) && bit (coveredM mask) (e.1 % 8))) } else s2
    else s2.stcFill q gran (s.ways q part) t (if write then t else 0) 2

/-- Bytes of one granule as a read finds them. -/
def State.qBytes (s : State) (q loc len : Nat) : List Byte := memBytes s.dram (qAddr q loc) len

/-- Store bytes of one granule; a retired channel drops them and counts (R272). -/
def State.qPut (s : State) (q loc : Nat) (bs : List Byte) : State :=
  if s.retired q then s.bump R.MEM_PORT_UE (qDie q) (portIx q) 1 else { s with dram := memPut s.dram (qAddr q loc) bs }

/-- The bytes of a range with those a byte mask of its granule leaves out as memory holds them. -/
def State.mergeMask (s : State) (q loc mask : Nat) (bs : List Byte) : List Byte :=
  bs.zipIdx.map (fun x => if bit mask (loc % 256 + x.2) then x.1 else memRead s.dram (qAddr q (loc + x.2)))

/-- Whether a home serves requests: its die runs, its island is UP, its memory is in SERVICE (R274, R352). -/
def State.homeUp (s : State) (q : Nat) : Bool :=
  s.dieRuns (qDie q) && s.islUp (s.island (qDie q)) && s.rd R.MEM_STATUS_STATE (qDie q) == 2

/-! ### Kennel's tracker (R418 to R420) -/

/-- Kennel's protected regions in entry order: base and number of 64 KiB granules. -/
def State.knlRegions (s : State) : List (Nat × Nat) :=
  (List.range 16).filterMap (fun e =>
    if s.rdB R.KNL_REGION_VALID 0 [e] then some (s.rd R.KNL_REGION_BASE 0 [e] * 2 ^ 16, s.rd R.KNL_REGION_SIZE 0 [e]) else none)

/-- The number of the Kennel granule that holds a DPA, counted through the entries in order (R419), and the DPA of a granule. -/
def knlNumber (dpa : Nat) : List (Nat × Nat) → Nat → Option Nat
  | [], _ => none
  | (b, n) :: l, k => if b ≤ dpa ∧ dpa < b + n * 2 ^ 16 then some (k + (dpa - b) / 2 ^ 16) else knlNumber dpa l (k + n)
def knlPlace : List (Nat × Nat) → Nat → Option Nat
  | [], _ => none
  | (b, n) :: l, g => if g < n then some (b + g * 2 ^ 16) else knlPlace l (g - n)

/-- The granule a write must report while tracking is on. -/
def State.knlGranule (s : State) (dpa : Nat) : Option Nat := if s.rdB R.KNL_CTRL_ENABLE 0 then knlNumber dpa s.knlRegions 0 else none

/-- A memory port reports an accepted write to its die's tracker (R419). -/
def State.knlMark (s : State) (dpa q : Nat) : State :=
  match s.knlGranule dpa with
  | none => s
  | some g => { s with knlDirty := SMap.put 0 s.knlDirty g (setBits (SMap.get 0 s.knlDirty g) (qDie q) 1 1) }

/-- A write to a frozen granule that has not been read is held (R420). -/
def State.knlHolds (s : State) (dpa : Nat) : Option Nat :=
  match s.knlGranule dpa with
  | some g => if s.knlFrozen.contains g then some g else none
  | none => none

end Sys2Proof.Machine
end

