-- ==== Sys2Proof/Machine/Fabric.lean ====
section
/-! DEFINITION. Flial (R323 to R340): nodes and flits, routers, virtual channels and paths (R26 to R30), and slots. The links of one module
direction of a ring link keep credits (Machine/RingLink.lean); what a flit does between two routers of a die takes no step of the model. -/

namespace Sys2Proof.Machine

/-! ### Nodes (R324) -/

/-- What a node ID names: a master port of a die, a memory port of a die, or nothing. -/
inductive Node where
  | master (die m : Nat)
  | memory (die p : Nat)
  | reserved
  deriving DecidableEq, Repr

def nodeOf (n : Nat) : Node :=
  let k := n % 1024
  if k ≤ 0x88 then .master (n / 1024 % 4) k else if 0x100 ≤ k ∧ k ≤ 0x11F then .memory (n / 1024 % 4) (k - 0x100) else .reserved

def masterNode (d m : Nat) : Nat := d * 1024 + m
def portNode (port : Nat) : Nat := port / 32 * 1024 + 0x100 + port % 32

/-! ### Flits (R325 to R328) -/

/-- A request flit. -/
structure ReqFlit where
  opcode : Nat
  dest : Nat
  src : Nat
  tag : Nat
  granule : Nat
  pch : Nat
  loc : Nat
  gen : Nat
  part : Nat
  ctx : Nat
  epoch : Nat
  cls : Nat
  guar : Bool
  stream : Bool
  drain : Bool
  smask : Nat
  place : Option Nat
  slot : Bool
  masked : Bool
  nopart : Bool
  deriving DecidableEq, Repr

/-- The fields of a request flit. -/
def reqFlit (w : Nat) : ReqFlit :=
  { opcode := bits w 154 6, dest := bits w 142 12, src := bits w 130 12, tag := bits w 115 15, granule := bits w 79 36, pch := bits w 76 3,
    loc := bits w 54 22, gen := bits w 38 16, part := bits w 32 6, ctx := bits w 28 4, epoch := bits w 24 4, cls := bits w 22 2, guar := bit w 21,
    stream := bit w 20, drain := bit w 19, smask := bits w 11 8, place := if bit w 10 then some (bits w 7 3) else none, slot := bit w 6,
    masked := bit w 5, nopart := bit w 4 }

/-- Fields laid side by side, the first highest: each its width and its value. -/
def packBits (l : List (Nat × Nat)) : Nat := l.foldl (fun n x => n * 2 ^ x.1 + x.2 % 2 ^ x.1) 0

def b2n (b : Bool) : Nat := if b then 1 else 0

def ReqFlit.word (f : ReqFlit) : Nat :=
  packBits [(6, f.opcode), (12, f.dest), (12, f.src), (15, f.tag), (36, f.granule), (3, f.pch), (22, f.loc), (16, f.gen), (6, f.part), (4, f.ctx),
    (4, f.epoch), (2, f.cls), (1, b2n f.guar), (1, b2n f.stream), (1, b2n f.drain), (8, f.smask), (1, b2n f.place.isSome), (3, f.place.getD 0),
    (1, b2n f.slot), (1, b2n f.masked), (1, b2n f.nopart), (4, 0)]

/-- The codes of the requests (R343) and of the snoops (R327). -/
def ReqOp.code : ReqOp → Nat
  | .rdCur => 0x00
  | .rdShared => 0x01
  | .rdOwn => 0x02
  | .upgrade => 0x03
  | .wbDirty => 0x04
  | .evictClean => 0x05
  | .wrInv => 0x08
  | .wrPlace => 0x09
  | .atomic => 0x10
def SnpOp.code : SnpOp → Nat
  | .cur => 0
  | .share => 1
  | .inv => 2
  | .push => 3

/-- A response flit, and a snoop flit. -/
def rspWord (op dest src tag : Nat) (slot : Bool) (status gen payload : Nat) : Nat :=
  packBits [(5, op), (12, dest), (12, src), (15, tag), (1, b2n slot), (3, status), (16, gen), (32, payload)]
def snpWord (op dest src tag line bgen : Nat) : Nat := packBits [(5, op), (12, dest), (12, src), (15, tag), (38, line), (8, bgen), (6, 0)]

/-- What the sideband of a data flit says beside its payload. -/
inductive SideKind where
  | data (tag seq : Nat) (last slot : Bool)
  | packed (qtags : List Nat) (slot : Bool)
  | mask (tag : Nat) (last : Bool)
  | chan (tag tile inj : Nat) (last slot : Bool)
  deriving DecidableEq, Repr

structure DataFlit where
  dest : Nat
  qvalid : Nat
  gen : Nat
  kind : SideKind
  payload : Nat
  deriving DecidableEq, Repr

/-- The fields of a data flit: payload bits [1023:0], the sideband above them. -/
def dataFlit (w : Nat) : DataFlit :=
  let x := w / 2 ^ 1024
  { dest := bits x 84 12, qvalid := bits x 78 4, gen := bits x 62 16, payload := w % 2 ^ 1024,
    kind := match bits x 82 2 with
      | 0 => .data (bits x 47 15) (bits x 44 2) (bit x 46) (bit x 43)
      | 1 => .packed ((List.range 4).map (fun k => bits x (15 * k + 2) 15)) (bit x 1)
      | 2 => .mask (bits x 47 15) (bit x 46)
      | _ => .chan (bits x 47 15) (bits x 42 4) (bits x 39 3) (bit x 46) (bit x 38) }

def SideKind.word : SideKind → Nat × Nat
  | .data tag seq last slot => (0, packBits [(15, tag), (1, b2n last), (2, seq), (1, b2n slot), (43, 0)])
  | .packed l slot => (1, packBits [(15, l.getD 3 0), (15, l.getD 2 0), (15, l.getD 1 0), (15, l.getD 0 0), (1, b2n slot), (1, 0)])
  | .mask tag last => (2, packBits [(15, tag), (1, b2n last), (46, 0)])
  | .chan tag tile inj last slot => (3, packBits [(15, tag), (1, b2n last), (4, tile), (3, inj), (1, b2n slot), (38, 0)])

def DataFlit.word (f : DataFlit) : Nat :=
  packBits [(12, f.dest), (2, f.kind.word.1), (4, f.qvalid), (16, f.gen), (62, f.kind.word.2)] * 2 ^ 1024 + f.payload % 2 ^ 1024

/-- The data flits of a transfer: the sectors `secs` of a granule whose 256 bytes are `bs`, four of them in each. -/
def granuleFlits (dest gen tag secs : Nat) (slot : Bool) (bs : List Byte) : List Nat :=
  let seqs := (List.range 2).filter (fun i => bits secs (4 * i) 4 != 0)
  seqs.map (fun i => DataFlit.word ⟨dest, bits secs (4 * i) 4, gen, .data tag i (some i == seqs.getLast?) slot, leNat ((bs.drop (128 * i)).take 128)⟩)

/-- The node of a bay agent, and the value that names a die (R324, R350). -/
def bayNode (b : Nat) : Nat := masterNode (b / 2) (128 + b % 2)
def dieNode (d : Nat) : Nat := masterNode d 0x3FF

/-- An answer of the bay port to a bay: a response flit, and the data flits that go with it. -/
def State.bayAnswer (s : State) (b op src tag : Nat) (slot : Bool) (status gen secs : Nat) (bs : List Byte) : State :=
  s.send (.bayAns b (rspWord op (bayNode b) src tag slot status gen 0) (if status = 0 then granuleFlits (bayNode b) gen tag secs slot bs else []))

/-- A work-port message to a bay from master port 135 of its die: opcode, TAG, GEN, PART, CTX, EPOCH, ARG0 and ARG1 of its request flit, and a data
flit for 128 bytes (R379). The port sends nothing to a bay that is not in service (R385). -/
def State.bwSend (s : State) (b op tag gen part ctx epoch arg0 arg1 : Nat) (data : List Byte) : State :=
  let st := s.rd R.BAY_STATUS_STATE (b / 2) [b % 2]
  if st != 2 && st != 3 then s
  else
    let f : ReqFlit :=
      { opcode := op, dest := bayNode b, src := masterNode (b / 2) 135, tag := tag, granule := arg0, pch := 0, loc := arg1, gen := gen, part := part, ctx := ctx,
        epoch := epoch, cls := 0, guar := false, stream := false, drain := false, smask := 0, place := none, slot := false, masked := false, nopart := false }
    s.send (.bayMsg b f.word (if data = [] then [] else granuleFlits (bayNode b) gen tag 15 false data))

/-- The ID of a unit on a bay (R379): its queue, and an in-flight slot, for which the model takes its count modulo 64 (log entry 121). -/
def State.bwId (s : State) (p r count : Nat) : Nat := s.rd R.BAY_Q_BIND_WQ 0 [p, r - 64] * 64 + count % 64

/-- What a bay sends in Flial streaming: after each tag byte a flit, idle fill between them; none where a tag is another byte (R371). Each item is its
tag and its flit. -/
def bayItems : Nat → List Nat → Option (List (Nat × Nat))
  | 0, _ => some []
  | _, [] => some []
  | n + 1, t :: l =>
    if t = 0 then bayItems n l
    else
      match ([(0xA0, 20), (0xA1, 12), (0xA2, 12), (0xA3, 140)] : List (Nat × Nat)).find? (fun x => x.1 == t) with
      | none => none
      | some x => (bayItems n (l.drop x.2)).map (fun r => (t, (l.take x.2).foldr (fun b k => b % 256 + 256 * k) 0) :: r)

/-- The bytes that a write's data flits bring for a granule, those of another generation left out, and the byte enables of its mask flit. -/
def flitBytes (gen tag : Nat) (fs : List DataFlit) : SMap Byte :=
  fs.foldl (fun m f =>
    match f.kind with
    | .data t seq _ _ =>
      if f.gen = gen ∧ t = tag then
        (List.range 128).foldl (fun m i => if bit f.qvalid (i / 32) then SMap.ins m (128 * seq + i) (BitVec.ofNat 8 (f.payload / 2 ^ (8 * i))) else m) m
      else m
    | _ => m) []
def flitMask (gen tag : Nat) (fs : List DataFlit) : Option Nat :=
  fs.findSome? (fun f => match f.kind with | .mask t _ => if f.gen = gen ∧ t = tag then some (f.payload % 2 ^ 256) else none | _ => none)

/-! ### Paths around the ring (R26 to R30) -/

/-- Whether the edge between die `n` and its CW neighbour is lost: in Heel at either end, or a die of it in reset (R30, R402). -/
def State.edgeLost (s : State) (n : Nat) : Bool :=
  let m := (n + 1) % 4
  s.rd R.DDL_STATUS_STATE n [0] == 3 || s.rd R.DDL_STATUS_STATE m [1] == 3 || !s.dieRuns n || !s.dieRuns m

/-- The ring link directions from die `a` to die `b`, each as 2 × die + (0 CW, 1 CCW). -/
def cwPath (a b : Nat) : List Nat := (List.range ((b + 4 - a) % 4)).map (fun k => 2 * ((a + k) % 4))
def ccwPath (a b : Nat) : List Nat := (List.range ((a + 4 - b) % 4)).map (fun k => 2 * ((a + 4 - k) % 4) + 1)

/-- The edge a link direction crosses, by the die whose CW link it is. -/
def edgeOf (e : Nat) : Nat := if e % 2 = 0 then e / 2 else (e / 2 + 3) % 4

/-- Whether the originator on master port `m` of die `d` goes CW to a diagonal die: by its number's parity (R26). Walkers, Retriever
and Kennel, to which R26 gives no number, go CW as the other agents of the die do (log entry 25). -/
def goesCw (d m : Nat) : Bool :=
  if m < 128 then m % 2 == 0 else if m < 130 then m % 2 == 0 else if m < 132 then (2 * d + m) % 2 == 0 else true

/-- A memory port with its home agent, by its package number (R26). -/
def portCw (port : Nat) : Bool := port % 2 == 0

/-- The path of a request from die `a` to die `b` (R26 to R30). A die in reset, or held under R22, forwards nothing (R22, R29). -/
def State.path (s : State) (cw : Bool) (a b : Nat) : List Nat :=
  let mid (k : Nat) : Bool := s.island ((a + k) % 4) == s.island a
  let first := match (b + 4 - a) % 4 with
    | 1 => true
    | 3 => false
    | _ => if s.island a = s.island b ∧ mid 1 != mid 3 then mid 1 else cw
  let p := if first then cwPath a b else ccwPath a b
  if p.any (fun e => s.edgeLost (edgeOf e)) then (if first then ccwPath a b else cwPath a b) else p

/-- The link directions back over a path (R27). -/
def backPath (p : List Nat) : List Nat := (p.map (fun e => if e % 2 = 0 then 2 * ((e / 2 + 1) % 4) + 1 else 2 * ((e / 2 + 3) % 4))).reverse

/-- The path from a cluster's tile to a tile: the sending cluster is the originator (R26, R173). -/
def State.tilePath (s : State) (src dst : Nat) : List Nat := s.path (goesCw (tilDie src) (src / 16 % 128)) (tilDie src) (tilDie dst)

/-- The path of a snoop from a home to a bay: the home's memory port is the originator. -/
def State.snoopPath (s : State) (port bay : Nat) : List Nat := s.path (portCw port) (port / 32) (bay / 2)

/-! ### Routers and virtual channels (R330 to R333) -/

/-- The 44 routers on the perimeter of a die, in ascending number; a router is 12 × row + column (R526). -/
def perimeter : List Nat := (List.range 144).filter (fun r => r / 12 == 0 || r / 12 == 11 || r % 12 == 0 || r % 12 == 11)

/-- The router of an edge attachment: kind and index as in the directory's ATTACH entries (R444). -/
def attachRouter (d kind i : Nat) : Nat := perimeter.getD (Config.router d kind i % 44) 0

/-- The places on a torus ring of 12 that a flit visits after place `a` on its way to `b`, the shorter way round, the positive one where both
are equal, and whether it has then crossed the dateline, which lies between places 11 and 0 (log entry 121). -/
def ringSteps (a b : Nat) : List (Nat × Bool) :=
  let up := (b + 12 - a) % 12
  if up ≤ 6 then (List.range up).map (fun k => ((a + k + 1) % 12, decide (12 ≤ a + k + 1)))
  else (List.range (12 - up)).map (fun k => ((a + 11 - k) % 12, decide (a < k + 1)))

/-- The virtual channel of a flit that has crossed `k` ring links. -/
def vcOf (k : Nat) (d : Bool) : Nat := 2 * k + b2n d

/-- The routers that a flit enters on one die from router `a` to router `b`, first along X and then along Y, each with its virtual channel. -/
def dieHops (k a b : Nat) : List (Nat × Nat) :=
  (ringSteps (a % 12) (b % 12)).map (fun x => (a / 12 * 12 + x.1, vcOf k x.2)) ++
  (ringSteps (a / 12) (b / 12)).map (fun y => (y.1 * 12 + b % 12, vcOf k y.2))

/-- The hops of a flit over a path of ring links from router `a` of a die to router `b` of the path's last die: die, router entered, virtual
channel. `mods` names the module it crosses on each link. -/
def hops (k d a b : Nat) : List Nat → List Nat → List (Nat × Nat × Nat)
  | [], _ => (dieHops k a b).map (fun h => (d, h.1, h.2))
  | e :: es, mods =>
    let m := mods.headD 0
    let next := if e % 2 = 0 then (d + 1) % 4 else (d + 3) % 4
    let out := attachRouter d (3 + e % 2) m
    let into := attachRouter next (4 - e % 2) m
    (dieHops k a out).map (fun h => (d, h.1, h.2)) ++ (next, into, vcOf (k + 1) false) :: hops (k + 1) next into b es mods.tail

/-! ### Slots (R336, R337, R340, R401) -/

/-- A master port that owns flits: die, port, FLITS, owned slots, MODE, TARGET. -/
structure SlotUse where
  die : Nat
  mport : Nat
  flits : Nat
  slots : Nat
  mode : Nat
  target : Nat

def slotUse? (rd : Fld → Nat → List Nat → Nat) (d m : Nat) : Option SlotUse :=
  let f := rd R.FLL_M_SLOT_CFG_FLITS d [m]
  if f = 0 then none
  else some ⟨d, m, f, rd R.FLL_M_SLOTS d [m], rd R.FLL_M_SLOT_CFG_MODE d [m], rd R.FLL_M_SLOT_CFG_TARGET d [m]⟩

/-- The memory ports of a use's target: first and count (R337). -/
def SlotUse.ports (u : SlotUse) : Nat × Nat :=
  if u.mode = 0 then (0, 128) else if u.mode = 1 then (32 * u.target, 32) else if u.mode = 2 then (8 * u.target, 8) else (0, 0)

/-- The load of one owned slot on a memory port, in 1/128 flit. -/
def SlotUse.onPort (u : SlotUse) (p : Nat) : Nat :=
  if u.ports.1 ≤ p ∧ p < u.ports.1 + u.ports.2 then u.flits * 128 / u.ports.2 else 0

/-- The load of one owned slot on a ring link direction, in 1/128 flit: every path to a memory port's die, or to the target die, both ways. -/
def State.onRing (s : State) (u : SlotUse) (e : Nat) : Nat :=
  let hit (t : Nat) : Bool := let p := s.path (goesCw u.die u.mport) u.die t; p.contains e || (backPath p).contains e
  if u.mode = 3 then (if hit u.target then u.flits * 128 else 0)
  else (List.range 4).foldl (fun n t => if hit t then n + ((List.range 32).foldl (fun k p => k + u.onPort (32 * t + p)) 0) else n) 0

/-- C of a ring link direction, in halves (R401). -/
def State.ringC (s : State) (e : Nat) : Nat := s.rd R.DDL_CAP_C_TX (e / 2) [e % 2]

/-- The slot of the current slot frame (R243), 8 ns each; none once the frame's 64 are over. -/
def State.slotNow (s : State) : Option Nat := if s.now - s.frameAt < 512 then some ((s.now - s.frameAt) / 8) else none

/-- The links that `n` data flits of a request load: 0 to 127 the links of a memory port, 128 + e a ring link direction. Write data go the
request's way, read data back. -/
def State.memLinks (s : State) (d m q : Nat) (write : Bool) : List Nat :=
  let p := s.path (goesCw d m) d (qDie q)
  qPort q :: (if write then p else backPath p).map (128 + ·)

/-- The flits a master port may still send slotted over some links in the current slot: FLITS, scaled where a ring direction has lost capacity (R401),
less those sent. -/
def State.slotLeft (s : State) (d m : Nat) (links : List Nat) : Nat :=
  match s.slotNow, slotUse? (fun f d ix => s.rd f d ix) d m with
  | some i, some u =>
    if bit u.slots i then
      let lim := links.foldl (fun n l =>
        let adm := s.rd R.DDL_CAP_C_ADM_TX ((l - 128) / 2) [(l - 128) % 2]
        if 128 ≤ l && decide (s.ringC (l - 128) < adm) then min n (u.flits * s.ringC (l - 128) / adm) else n) u.flits
      lim - SMap.get 0 s.slotUse ((d * 137 + m) * 64 + i)
    else 0
  | _, _ => 0

def State.strictPort (s : State) (d m : Nat) : Bool := decide (m < 130) && s.rdB R.LSH_M_CFG_STRICT d [m]

/-- The slot uses of the strict ports. -/
def State.strictUses (s : State) : List SlotUse :=
  (List.range 4).flatMap (fun d => (List.range 130).filterMap (fun m => if s.strictPort d m then slotUse? (fun f d ix => s.rd f d ix) d m else none))

/-- What strict ports load a link with in a slot, in 1/128 flit. -/
def State.strictOn (s : State) (us : List SlotUse) (link i : Nat) : Nat :=
  (us.filter (fun u => bit u.slots i)).foldl (fun n u => n + (if link < 128 then u.onPort link else s.onRing u (link - 128))) 0

/-- Whether links take `n` more data flits of other traffic in this slot: on a link that strict ports load, their load is kept from it, sent or
not (R340). -/
def State.linkFree (s : State) (links : List Nat) (n : Nat) : Bool :=
  let us := s.strictUses
  us.isEmpty || (match s.slotNow with
    | none => true
    | some i => links.all (fun l =>
        let k := s.strictOn us l i
        let cap := if l < 128 then 32 else 8 * s.ringC (l - 128)
        k == 0 || decide ((SMap.get 0 s.linkUse (l * 64 + i) + n) * 128 + k ≤ cap * 128)))

/-- Whether a master port may send `n` data flits over some links now: a strict port only in a slot it owns (R340). -/
def State.fabricOk (s : State) (d m : Nat) (links : List Nat) (n : Nat) : Bool :=
  if s.strictPort d m then decide (n ≤ s.slotLeft d m links) && (s.slotLeft d m links != 0 || n != 0) else s.linkFree links n

/-- Whether they go slotted. -/
def State.slotted (s : State) (d m : Nat) (links : List Nat) (n : Nat) : Bool := decide (n ≤ s.slotLeft d m links) && s.slotLeft d m links != 0

/-- They go: counted in the slot, and where they are the port's own as slotted (R336); else as other traffic. -/
def State.fabricTake (s : State) (d m : Nat) (links : List Nat) (n : Nat) (own : Bool) : State :=
  let i := s.slotNow.getD 0
  let k := (d * 137 + m) * 64 + i
  if s.slotted d m links n then
    let s := { s with slotUse := SMap.put 0 s.slotUse k (SMap.get 0 s.slotUse k + n) }
    if own then s.bump R.FLL_M_SLOTTED d [m] n else s
  else if s.strictUses.isEmpty then s
  else s.each links (fun s l => { s with linkUse := SMap.put 0 s.linkUse (l * 64 + i) (SMap.get 0 s.linkUse (l * 64 + i) + n) })

end Sys2Proof.Machine
end

