-- ==== Sys2Proof/Machine/Access.lean ====
section
/-! DEFINITION. How requests leave the Leash (R284 to R287) and how the package's own agents use memory: the Sheepdog, walkers,
dispatchers, the Retriever, the endpoint, torus ports, Kennel, Collar and the error engine (R253, R343, R348, R352). Every read of theirs
is a request to its home, and so is every write that must wait for anything there; a command whose agent has no answer yet only sends the
request, and takes effect when it is issued again with the answer at hand (log entry 119). -/

namespace Sys2Proof.Machine

/-- Who asks: the partition for way masks (64: none), the stream hint, a narrow (sector) access, the die of a coherent requester
(none for traffic that may reach every island: R29, R348), and the Flial master port with the classes of its reads and writes (R277,
R279); the context and the unit it acts for (255 and 0: none), the task of its own, and the epoch of the translation it uses (R311). -/
structure Agent where
  part : Nat
  stream : Bool
  narrow : Bool
  die : Option Nat
  mdie : Nat
  mport : Nat
  rcls : Nat
  wcls : Nat
  ctx : Nat := 255
  uid : Nat := 0
  task : Nat := 0
  epoch : Nat := 0
  deriving DecidableEq, Repr

/-- A page walker, the Retriever, a management agent and a cluster's dispatcher, each of a die (R277). -/
def Agent.walker (part die : Nat) : Agent := { part := part, stream := false, narrow := false, die := some die, mdie := die, mport := 132, rcls := 0, wcls := 2 }
def Agent.retr (part die : Nat) : Agent := { Agent.walker part die with mport := 133, rcls := 3, wcls := 3 }
def Agent.mgmt (part die : Nat) : Agent := { Agent.walker part die with mport := 135, rcls := 1 }
def Agent.cluster (part c : Nat) : Agent := { Agent.walker part (cluDie c) with mport := c % 128, rcls := 1 }
/-- Agents no island binds (R29): a torus port k of die d, Kennel, the PCIe endpoint, and the Collar and Pack cores. -/
def Agent.torus (part d k : Nat) : Agent := { Agent.mgmt part d with die := none, mport := 130 + k }
def Agent.collar (d : Nat) : Agent := { Agent.mgmt 64 d with die := none }
def Agent.kennel (d : Nat) : Agent := { Agent.collar d with mport := 134, rcls := 3, wcls := 3 }
def Agent.pcie : Agent := { Agent.collar 0 with mport := 136 }

/-- How an access ends (R326): data or done, uncorrectable at a DPA, island down, outside the island, not decoded. -/
inductive MemRes where
  | ok (bs : List Byte)
  | ue (dpa port : Nat)
  | down
  | outside
  | decode
  deriving DecidableEq, Repr

def MemRes.good : MemRes → Bool
  | .ok _ => true
  | _ => false
def MemRes.bytes : MemRes → List Byte
  | .ok bs => bs
  | _ => []

/-! ### Requests -/

/-- The generation of a partition (R481), the epoch of a context, and the die that speaks for a partition: the first of its island (R470). -/
def State.gen (s : State) (p : Nat) : Nat := s.rd R.PAR_STATUS_GEN 0 [p]
def State.epoch (s : State) (p c : Nat) : Nat := s.rd R.XLT_CTX_EPOCH_EPOCH 0 [p, c]

/-- Whether epoch `e` is older than `new` on the way to the context's epoch `cur`: the epochs that have begun since `new` are not (R311). -/
def olderEpoch (e new cur : Nat) : Bool := decide ((cur + 16 - new) % 16 < (e + 16 - new) % 16)

/-- The lines of a byte range (R342). -/
def linesOf (dpa len : Nat) : List Nat := (List.range ((dpa + len - 1) / 64 + 1 - dpa / 64)).map (· + dpa / 64)

/-- The lines a request touches. -/
def Req.lines (r : Req) : List Nat := ((List.range 4).filter (fun i => bits r.mask (64 * i) 64 != 0)).map (· + r.dpa / 256 * 4)

/-- A transaction at the home is active (R342). -/
def Req.active (r : Req) : Bool := r.stage == .snoop || r.stage == .entry || r.stage == .port

def Req.be (r : Req) : Bool := !(r.guar || r.drain)

/-- The charge of a request in units (R278): its data bytes; UPGRADE and EVICT_CLEAN move none. -/
def unitCharge (narrow : Bool) (len : Nat) : Nat := if narrow then 4 else (len + 31) / 32
def Req.units (r : Req) : Nat :=
  if r.op == .upgrade || r.op == .evictClean then 0 else unitCharge r.narrow (popcount r.mask 256)

/-- The half granules a byte mask touches. -/
def halves (m : Nat) : Nat := ((List.range 2).filter (fun i => bits m (128 * i) 128 != 0)).length

/-- The data flits that a request moves, to its home or back (R325): one per half granule, and a mask flit before partial sectors; one for a narrow
request (R264) and for an atomic. -/
def Req.flits (r : Req) : Nat :=
  match r.op with
  | .upgrade => 0
  | .evictClean => 0
  | .atomic => 1
  | .rdCur | .rdShared | .rdOwn => if r.narrow then 1 else halves r.mask
  | _ => (if r.narrow then 1 else halves r.mask) + (if touchedM r.mask = coveredM r.mask then 0 else 1)

def ReqOp.writes : ReqOp → Bool
  | .wrInv => true
  | .wrPlace => true
  | .wbDirty => true
  | .atomic => true
  | _ => false

/-- The response of a request that succeeds without more ado (R343). -/
def ReqOp.ans : ReqOp → Nat
  | .rdCur => 0
  | .rdShared => 3
  | .rdOwn => 2
  | .upgrade => 2
  | .wbDirty => 5
  | .evictClean => 5
  | .wrInv => 1
  | .wrPlace => 1
  | .atomic => 6

/-- The links of R336 that a request's data flits load. -/
def State.reqLinks (s : State) (r : Req) : List Nat := s.memLinks r.die r.mport r.q r.op.writes

/-- Put a request under a new number, which is also its place in the order of sending. -/
def State.addReq (s : State) (r : Req) : State := { s with reqs := s.reqs ++ [{ r with rid := s.nextId, seq := s.nextId }], nextId := s.nextId + 1 }

/-- What is left of a pending miss once its requester has ended: a request to the host is still outstanding (R310, R322). -/
def dropMiss (m : Miss) : Option Miss :=
  match m.stage with
  | .ats | .prg | .again => some { m with orphan := true }
  | _ => none

/-- The requesters of some misses have ended. -/
def State.dropMisses (s : State) (sel : Miss → Bool) : State := { s with misses := s.misses.filterMap (fun m => if sel m then dropMiss m else some m) }

/-! ### Credit counters (R284 to R287) -/

def leashKey (d m c : Nat) : Nat := (d * 137 + m) * 4 + c

/-- Every die, master port and class. -/
def leashIx : List (Nat × Nat × Nat) :=
  (List.range 4).flatMap (fun d => (List.range 137).flatMap (fun m => (List.range 4).map (fun c => (d, m, c))))

/-- The stacks of a target (R288). -/
def targetStacks (mode target : Nat) : List Nat :=
  if mode = 0 then List.range 16 else if mode = 1 then (if target < 4 then (List.range 4).map (4 * target + ·) else [])
  else if mode = 2 then (if target < 16 then [target] else []) else []

/-- Whether a class counter covers a charge to pseudo-channel `q` (R284, R286). -/
def State.covers (s : State) (d m c q units : Nat) : Bool :=
  (units == 0 || decide (0 < SMap.get 0 s.leash (leashKey d m c))) &&
  (targetStacks (s.rd R.LSH_M_MIN_MODE d [m, c]) (s.rd R.LSH_M_MIN_TARGET d [m, c])).contains (qStack q)

/-- Send a request as guaranteed, or as best effort (R284). -/
def State.sendGuar (s : State) (d m c units : Nat) : State :=
  let k := leashKey d m c
  ({ s with leash := SMap.put 0 s.leash k (SMap.get 0 s.leash k - units) }).bump R.LSH_M_GUAR d [m, c] units
def State.sendBe (s : State) (d m c units : Nat) : State := s.bump R.LSH_M_BE d [m, c] units

/-- The best-effort entries of a memory port are not full: best-effort issue towards it goes on (R282). -/
def State.beOpen (s : State) (port : Nat) : Bool :=
  decide ((s.reqs.filter (fun (x : Req) => x.stage == .port && qPort x.q == port && x.be)).length < 128)

/-- Whether a request of a master port to a granule is still held at the Leash (R285). -/
def State.heldAt (s : State) (d m gran : Nat) : Bool :=
  s.reqs.any (fun (x : Req) => x.stage == .held && x.die == d && x.mport == m && x.dpa / 256 == gran)

/-- A request leaves the Leash, as guaranteed or as best effort, and its data flits as slotted or not (R284, R336). -/
def State.goes (s : State) (r : Req) (g : Bool) : State :=
  let s := if g then s.sendGuar r.die r.mport r.cls r.units else s.sendBe r.die r.mport r.cls r.units
  s.fabricTake r.die r.mport (s.reqLinks r) r.flits r.op.writes

/-- A request goes to the Leash (R284 to R287): sent as guaranteed or as best effort; held behind a held one of its granule, in strict
mode, while its memory port takes no best effort, or while the fabric has no room for it (R340). One that an invalidation in progress drains
passes any hold (R311). -/
def State.leash1 (s : State) (r : Req) : State :=
  let u := r.units
  let joined := s.heldAt r.die r.mport (r.dpa / 256)
  let old (v : Inval) : Bool := v.part == r.part && v.ctx == r.ctx && v.started && olderEpoch r.epoch v.epoch (s.epoch r.part r.ctx)
  let drained := !r.nopart && r.mport != 132 && s.invals.any old
  let r := if drained then { r with drain := true, guar := true } else r
  let links := s.reqLinks r
  let ok := drained || (!joined && s.fabricOk r.die r.mport links r.flits)
  let r := { r with slot := s.slotted r.die r.mport links r.flits }
  if ok && s.covers r.die r.mport r.cls r.q u then (s.goes r true).addReq { r with stage := .sent, guar := true }
  else if (!ok || s.strictPort r.die r.mport || !s.beOpen (qPort r.q)) && !drained then s.addReq { r with stage := .held, slot := false }
  else (s.goes r false).addReq { r with stage := .sent }

/-! ### The memory port's side (R280, R283, R287, R296) -/

/-- The latency target of a class on a die, ns. -/
def State.latTarget (s : State) (d c : Nat) : Nat :=
  s.rd (([R.LSH_LAT_LO_LCR, R.LSH_LAT_LO_RD, R.LSH_LAT_HI_WR, R.LSH_LAT_HI_BG] : List Fld).getD c R.LSH_LAT_LO_LCR) d

/-- The urgency level of an age in ns (R280). -/
def State.urgency (s : State) (d c age : Nat) : Nat :=
  let t := s.latTarget d c
  if 2 * age < t then 0 else if 4 * age < 3 * t then 1 else if age < t then 2 else 3

/-- A memory port has served a request of a master port (R283, R287, R296). -/
def State.portServe (s : State) (d m q c units age : Nat) : State :=
  let s := s.bump R.LSH_PORT_UNITS (qDie q) (portIx q ++ [c]) units
  let s := if s.urgency (qDie q) c age = 3 then s.bump R.LSH_PORT_LATE (qDie q) (portIx q ++ [c]) 1 else s
  if s.strictPort d m then s else { s with served := SMap.put 0 s.served (qPort q) (SMap.get 0 s.served (qPort q) + units) }

/-- The strict load on a stack in sixteenths of a unit (R287, R288). -/
def State.strictLoad (s : State) (st : Nat) : Nat :=
  leashIx.foldl (fun n x =>
    let ix := [x.2.1, x.2.2]
    if s.strictPort x.1 x.2.1 then
      let t := targetStacks (s.rd R.LSH_M_MIN_MODE x.1 ix) (s.rd R.LSH_M_MIN_TARGET x.1 ix)
      if t.contains st then n + s.rd R.LSH_M_MIN_MIN x.1 ix * 16 / t.length else n
    else n) 0

/-- The units a memory port may still serve to non-strict requests in this frame; only a stack with strict load has a limit (R287). -/
def State.lendable (s : State) (port : Nat) : Option Nat :=
  let st := port / 8
  let l := s.strictLoad st
  if l = 0 then none
  else some (s.rd R.LSH_STACK_CAP_CAP_NOW 0 [st] / 8 - (l + 127) / 128 - SMap.get 0 s.served port)

/-- Whether a port may serve a master port so many units more in this frame. -/
def State.mayServe (s : State) (d m q units : Nat) : Bool :=
  s.strictPort d m || (match s.lendable (qPort q) with | none => true | some n => decide (units ≤ n))

/-! ### Atomics (R325) -/

def atomicNew (op size old opnd cmp : Nat) : Option Nat :=
  let w := 8 * size
  match op with
  | 0 => some ((old + opnd) % 2 ^ w)
  | 1 => some (old &&& opnd)
  | 2 => some (old ||| opnd)
  | 3 => some (old ^^^ opnd)
  | 4 => some opnd
  | 5 => some (if old = cmp then opnd else old)
  | 6 => some (if signed w opnd < signed w old then opnd else old)
  | 7 => some (if signed w old < signed w opnd then opnd else old)
  | _ => none

/-- Perform an atomic at its home: the new bytes stored and the old ones returned. An operation outside the list stores a free value. -/
def State.atomicAt (s : State) (q loc size op opnd cmp : Nat) : List Byte × State :=
  let old := s.qBytes q loc size
  match atomicNew op size (leNat old) (opnd % 256 ^ size) (cmp % 256 ^ size) with
  | some v => (old, s.qPut q loc (leBytes size v))
  | none => (old, (s.useFree size).qPut q loc (s.freeBytes size))

/-- The data flit of an ATOMIC. -/
def atomicFlit (op size opnd cmp off : Nat) : List Byte := leBytes 8 opnd ++ leBytes 8 cmp ++ leBytes 1 op ++ leBytes 1 size ++ leBytes 1 off

/-! ### An agent's requests -/

/-- GEN of a master port's request (R329): that of its partition, of PF0, of a torus port, or 0. -/
def State.portGen (s : State) (d m : Nat) (nopart : Bool) (part : Nat) : Nat :=
  if !nopart then s.gen part
  else if m = 136 then s.rd R.PCI_FN_STATE_FGEN 0 [0]
  else if m = 130 ∨ m = 131 then s.rd R.TOR_PORT_STATUS_PORT_GEN d [m - 130]
  else 0

/-- The request of an agent for `n` bytes of one granule. -/
def State.agentReq (s : State) (a : Agent) (op : ReqOp) (dpa n : Nat) (data : List Byte) (own : Owner) : Req :=
  let x := (s.decode dpa).getD (0, 0)
  let nopart := decide (64 ≤ a.part)
  { rid := 0, uid := a.uid, task := a.task, mask := byteMask (dpa % 256) n, slot := false, op := op, die := a.mdie, mport := a.mport, owner := own,
    part := if nopart then 0 else a.part, ctx := a.ctx, gen := s.portGen a.mdie a.mport nopart a.part, nopart := nopart, epoch := a.epoch,
    cls := if op == .rdCur then a.rcls else a.wcls, guar := false, narrow := a.narrow, stream := a.stream, drain := false, va := 0, dpa := dpa, q := x.1,
    loc := x.2, len := n, data := data, place := none, off := 0, trOff := 0, stage := .sent, t := 0, seq := 0, rsps := [], fwd := [], ans := 0,
    status := 0, answer := [] }

/-- Two requests of agents are the same access: it goes on where it is made again. -/
def Req.same (r x : Req) : Bool :=
  r.owner == .agent && x.owner == .agent && r.op == x.op && r.die == x.die && r.mport == x.mport && r.part == x.part && r.nopart == x.nopart &&
  r.ctx == x.ctx && r.uid == x.uid && r.task == x.task && r.dpa == x.dpa && r.len == x.len && r.data == x.data

/-- The answer of a request that has reached its agent. -/
def State.answer? (s : State) (r : Req) : Option Req := s.reqs.find? (fun (x : Req) => x.stage == .here && x.same r)

/-- Requests of agents that nothing waits for any more: an answer that has come is dropped, and one to come will be. -/
def State.forsake (s : State) (sel : Req → Bool) : State :=
  { s with reqs := (s.reqs.filter (fun (r : Req) => !(r.owner == .agent && sel r && r.stage == .here))).map (fun (r : Req) =>
      if r.owner == .agent && sel r then { r with owner := .post .none_ } else r) }

/-- What an answer says. -/
def Req.res (r : Req) : MemRes :=
  match r.status with
  | 0 => .ok r.answer
  | 1 => .ue (leNat r.answer) (qPort r.q)
  | 2 => .down
  | _ => .outside

/-- A request of an agent in one piece: its answer, taken, or the request asked for. -/
def State.askMem (s : State) (r : Req) : MemRes × State :=
  match s.answer? r with
  | some x => (x.res, { s with reqs := s.reqs.filter (fun (y : Req) => y.rid != x.rid) })
  | none => (.down, { s with ask := s.ask ++ [.mem r] })

/-- Read a range: the data, or the first piece that fails. Pieces with no answer yet are asked for together. -/
def State.physRead (s : State) (a : Agent) (dpa len : Nat) : MemRes × State :=
  if s.ask ≠ [] then (.down, s)
  else
    let rs := (pieces dpa len).map (fun p => (s.decode p.1, s.agentReq a .rdCur p.1 p.2 [] .agent))
    let ok := rs.takeWhile (fun x => x.1.isSome)
    match ok.filter (fun x => (s.answer? x.2).isNone) with
    | [] => rs.foldl (fun acc x =>
        match acc with
        | (.ok bs, s) =>
          if x.1.isNone then (.decode, s)
          else (match s.askMem x.2 with
            | (.ok cs, s) => (.ok (bs ++ cs), s)
            | r => r)
        | r => r) (.ok [], s)
    | l => (.down, { s with ask := l.map (fun x => .mem x.2) })

/-- Whether a write or an atomic of an agent can take effect at once: its home is there, and nothing at the Leash, on the way or at the home
stands before it or must be asked, DRAM (`fetch`) included. -/
def State.quick (s : State) (a : Agent) (dpa n q fetch units : Nat) : Bool :=
  let ls := linesOf dpa n
  s.homeUp q && (match a.die with | some d => s.island d == s.island (qDie q) | none => true) &&
  s.reqs.all (fun (x : Req) => !(x.die == a.mdie && x.mport == a.mport && ((x.stage == .sent && qPort x.q == qPort q) || (x.stage == .held && x.dpa / 256 == dpa / 256))) &&
    !((x.active || x.stage == .waiting) && ls.any x.lines.contains)) &&
  s.snoops.all (fun (x : Snoop) => !ls.contains x.line) && ls.all (fun l => (SMap.look s.dirs l).isNone) && (fetch == 0 || s.retired q) &&
  (s.knlHolds dpa).isNone && !s.strictPort a.mdie a.mport && s.linkFree (s.memLinks a.mdie a.mport q true) 3 &&
  (s.covers a.mdie a.mport a.wcls q units || s.beOpen (qPort q)) && s.mayServe a.mdie a.mport q units

/-- Such a request passes the Leash and is served (R278, R284, R264). -/
def State.quickPass (s : State) (r : Req) : State :=
  let s := s.goes r (s.covers r.die r.mport r.cls r.q r.units)
  let s := s.portServe r.die r.mport r.q r.cls r.units 0
  if r.narrow then s.roll R.MEM_PORT_SECTORS (qDie r.q) (portIx r.q) 1 else s

/-- A write that takes effect at once (R261, R419). -/
def State.quickWrite (s : State) (a : Agent) (dpa : Nat) (bs : List Byte) : Option State :=
  match s.decode dpa with
  | none => none
  | some (q, loc) =>
    let m := byteMask (loc % 256) bs.length
    let u := unitCharge a.narrow bs.length
    if s.quick a dpa bs.length q (s.dramSectors q (loc / 256) m true) u then
      let r := s.agentReq a .wrInv dpa bs.length [] .agent
      some ((((s.quickPass r).stcAccess q (loc / 256) m dpa a.part a.stream true).knlMark dpa q).qPut q loc bs)
    else none

/-- Write one piece and wait for its acknowledgement. -/
def State.writePiece (s : State) (a : Agent) (dpa : Nat) (bs : List Byte) : MemRes × State :=
  if s.ask ≠ [] then (.down, s)
  else if (s.decode dpa).isNone then (.decode, s)
  else
    let r := s.agentReq a .wrInv dpa bs.length bs .agent
    match s.answer? r, s.quickWrite a dpa bs with
    | none, some t => (.ok [], t)
    | _, _ => s.askMem r

/-- Write a range, piece by piece up to the first that fails. -/
def State.physWrite (s : State) (a : Agent) (dpa : Nat) (bs : List Byte) : MemRes × State :=
  (pieces dpa bs.length).foldl (fun acc p =>
    match acc with
    | (.ok _, s) => s.writePiece a p.1 ((bs.drop (p.1 - dpa)).take p.2)
    | r => r) (.ok [], s)

/-- Send a write that no agent waits for; none where a piece does not decode or its home is not in service. -/
def State.post (s : State) (a : Agent) (by_ : PostBy) (dpa : Nat) (bs : List Byte) : Option State :=
  let ps := pieces dpa bs.length
  if ps.all (fun p => match s.decode p.1 with | some (q, _) => s.homeUp q | none => false) then
    some (s.each ps (fun s p =>
      let cs := (bs.drop (p.1 - dpa)).take p.2
      (s.quickWrite a p.1 cs).getD (s.leash1 (s.agentReq a .wrInv p.1 cs.length cs (.post by_)))))
  else none

/-- An atomic that takes effect at once: its sector is in the slice. -/
def State.quickAtomic (s : State) (a : Agent) (dpa size op opnd cmp : Nat) : Option (List Byte × State) :=
  match s.decode dpa with
  | none => none
  | some (q, loc) =>
    let m := byteMask (loc % 256) size
    if s.quick a dpa size q (s.dramSectors q (loc / 256) m false) (unitCharge a.narrow size) && !s.retired q then
      let r := s.agentReq a .atomic dpa size [] .agent
      some ((((s.quickPass r).stcAccess q (loc / 256) m dpa a.part a.stream true).knlMark dpa q).atomicAt q loc size op opnd cmp)
    else none

/-- An atomic of an agent: the old value. -/
def State.physAtomic (s : State) (a : Agent) (dpa size op opnd cmp : Nat) : MemRes × State :=
  if s.ask ≠ [] then (.down, s)
  else if (s.decode dpa).isNone then (.decode, s)
  else
    let r := s.agentReq a .atomic dpa size (atomicFlit op size opnd cmp (dpa % 256)) .agent
    match s.answer? r, s.quickAtomic a dpa size op opnd cmp with
    | none, some (old, t) => (.ok old, t)
    | _, _ => s.askMem r

end Sys2Proof.Machine
end

