-- ==== Sys2Proof/Machine/Errors.lean ====
section
/-! DEFINITION. What is sent to the host (R446, R455) and the error engine (R541 to R549). -/

namespace Sys2Proof.Machine

/-- The function of a partition: its VF while it exists, else PF0 (R436). Function 0 is PF0, n is VF n. -/
def State.fnOf (s : State) (p : Nat) : Nat := if s.vfEnable && decide (p + 1 ≤ s.numVfs) then p + 1 else 0

def State.heel (s : State) : Bool := s.rdB R.HEL_HOST_STATUS_ACTIVE 0

/-- A function may issue requests: its Bus Master Enable is set, and a VF is not in D3hot, which is as R451 (R451, R459; PMCSR is configuration key
9 of the function, log entry 27). -/
def State.bme (s : State) (fn : Nat) : Bool := s.rdB R.PCI_FN_STATE_BME 0 [fn] && (fn == 0 || SMap.get 0 s.config (4096 * fn + 9) % 4 != 3)

/-- Device Control of a function, configuration key 2 (R434, R442, R447; log entry 27). -/
def State.devCtl (s : State) (fn : Nat) : Nat := SMap.get 0x2010 s.config (4096 * fn + 2)
/-- Max_Payload_Size, bits [7:5] of Device Control, and Max_Read_Request_Size, bits [14:12]. -/
def State.mps (s : State) (fn : Nat) : Nat := 128 * 2 ^ min 3 (bits (s.devCtl fn) 5 3)
def State.mrrs (s : State) (fn : Nat) : Nat := 128 * 2 ^ min 5 (bits (s.devCtl fn) 12 3)
/-- Relaxed Ordering Enable, bit 4: it marks the data writes of tiles, bays and the Retriever, and nothing else (R442). -/
def State.relaxed (s : State) (fn : Nat) : Bool := bit (s.devCtl fn) 4

/-- The parts of a write on PCIe: what it has of each 4 KiB, cut at Max_Payload_Size (R447). -/
def hostParts (mps addr : Nat) (bs : List Byte) : List (Nat × List Byte) :=
  (List.range (bs.length / 4096 + 2)).flatMap (fun k =>
    let lo := max addr ((addr / 4096 + k) * 4096)
    let page := (bs.drop (lo - addr)).take ((addr / 4096 + k + 1) * 4096 - lo)
    (List.range ((page.length + mps - 1) / mps)).map (fun i => (lo + i * mps, (page.drop (i * mps)).take mps)))

/-- A write bound for the host: sent in its parts, held whole in Heel (R455), or not sent with Bus Master Enable clear (R451). -/
def State.hostWrite (s : State) (fn addr : Nat) (bs : List Byte) (ro : Bool := false) : State :=
  if !s.bme fn then s
  else if s.heel then
    let s := { s with heldWrites := s.heldWrites ++ [Out.hostWrite ro fn addr bs] }
    s.wr R.HEL_HELD 0 [] (min (2 ^ 20) (s.rd R.HEL_HELD 0 + bs.length))
  else (s.each (hostParts (s.mps fn) addr bs) (fun s p => s.send (.hostWrite ro fn p.1 p.2))).bump R.PCI_WR_BYTES 0 [] bs.length

/-- In Heel the hold buffer has no room for `n` more bytes: a host-bound write waits at its master port (R455). -/
def State.holdFull (s : State) (n : Nat) : Bool := s.heel && decide (2 ^ 20 < s.rd R.HEL_HELD 0 + n)

/-- Mask and Pending Bit of a vector: PF0 has 64, each VF 31 (R446). -/
def State.msixMasked (s : State) (fn v : Nat) : Bool :=
  if fn = 0 then s.rdB R.PCI_MSIX_MASK 0 [v] else s.rdB R.PCI_VF_MSIX_MASK 0 [fn - 1, v]
def State.msixPending (s : State) (fn v : Nat) : Bool :=
  if fn = 0 then bit (s.rd R.PCI_MSIX_PBA 0) v else bit (s.rd R.PCI_VF_MSIX_PBA 0 [fn - 1]) v
def State.setPending (s : State) (fn v : Nat) (b : Bool) : State :=
  let x := if b then 1 else 0
  if fn = 0 then s.wr R.PCI_MSIX_PBA 0 [] (setBits (s.rd R.PCI_MSIX_PBA 0) v 1 x)
  else s.wr R.PCI_VF_MSIX_PBA 0 [fn - 1] (setBits (s.rd R.PCI_VF_MSIX_PBA 0 [fn - 1]) v 1 x)
def State.msixMsg (s : State) (fn v : Nat) : Out :=
  if fn = 0 then .msix 0 v (s.rd R.PCI_MSIX_ADDR 0 [v]) (s.rd R.PCI_MSIX_DATA 0 [v])
  else .msix fn v (s.rd R.PCI_VF_MSIX_ADDR 0 [fn - 1, v]) (s.rd R.PCI_VF_MSIX_DATA 0 [fn - 1, v])

/-- The Function Mask of MSI-X Message Control (bit 14), as PCIe places it; configuration key 1 of a function (log entry 11). -/
def State.fnMask (s : State) (fn : Nat) : Bool := bit (SMap.get 0 s.config (4096 * fn + 1)) 14

/-- Send one message on a vector: pending if masked, held at most once in Heel (R446, R455). -/
def State.msix (s : State) (fn v : Nat) : State :=
  if s.msixMasked fn v || s.fnMask fn then s.setPending fn v true
  else if s.heel then (if s.heldMsix.contains (64 * fn + v) then s else { s with heldMsix := s.heldMsix ++ [64 * fn + v] })
  else if s.bme fn then s.send (s.msixMsg fn v) else s

/-- A vector has something to report at the next boundary (R219). -/
def State.irq (s : State) (fn v : Nat) : State :=
  if s.irqs.contains (64 * fn + v) then s else { s with irqs := s.irqs ++ [64 * fn + v] }

/-- An interrupt of a partition on vector `v`: its VF's vector, or PF0's vector 63 (R446). -/
def State.partIrq (s : State) (p v : Nat) : State :=
  let fn := s.fnOf p
  if fn = 0 then (s.irq 0 63).wr R.PCI_PF_PARTIRQ 0 [] (setBits (s.rd R.PCI_PF_PARTIRQ 0) p 1 1) else s.irq fn v

/-- What an error is (R541): its class, whom it concerns, and its details. 255 stands for no partition or context. -/
structure Err where
  src : Nat
  code : Nat
  sev : Nat
  scope : Nat
  part : Nat
  ctx : Nat
  addr : Nat
  d0 : Nat
  d1 : Nat
  escalated : Bool

/-- SCOPE of R541. -/
def scopeOf (kind idx : Nat) : Nat := kind * 4096 + idx

/-- An error that concerns no partition and no address. -/
def Err.plain (src code sev scope d0 : Nat) : Err := ⟨src, code, sev, scope, 255, 255, 0, d0, 0, false⟩

/-- The 64 bytes of a record (R541). PHASE alternates with each pass of the 16 entries (R213). -/
def ErrRec.bytes (r : ErrRec) : List Byte :=
  let flags := (if r.n / 16 % 2 = 0 then 128 else 0) + (if r.escalated then 4 else 0) + (if r.held then 2 else 0) +
    (if r.folded then 1 else 0)
  leBytes 4 r.seq ++ leBytes 1 r.sev ++ leBytes 1 flags ++ leBytes 1 r.src ++ leBytes 1 r.code ++ leBytes 2 r.count ++
    leBytes 2 r.scope ++ leBytes 1 r.die ++ leBytes 1 r.island ++ leBytes 1 r.part ++ leBytes 1 r.ctx ++ leBytes 8 r.tick ++
    leBytes 8 r.time ++ leBytes 8 r.addr ++ leBytes 8 r.d0 ++ leBytes 8 r.d1 ++ leBytes 4 r.lastTick ++ leBytes 4 0

/-- Where a record's entry stands (R543). -/
def State.errAddr (s : State) (r : ErrRec) : Nat :=
  s.rd R.ERR_QUEUE_BASE_BASE r.die * 2 ^ 14 + r.src * 0x400 + r.n % 16 * 0x40

/-- Copy a record to the host buffer (R545). -/
def State.mirror (s : State) (r : ErrRec) : State :=
  if s.rdB R.ERR_MIRROR_LO_ENABLE 0 then
    if s.heel then s.wr R.ERR_PKG_EVENT_MIRROR_GAP 0 [] 1
    else s.hostWrite 0 (s.rd R.ERR_MIRROR_HI_ADDR 0 * 2 ^ 32 + s.rd R.ERR_MIRROR_LO_ADDR 0 * 2 ^ R.ERR_MIRROR_LO_ADDR.lo +
      r.die * 0x4000 + r.src * 0x400 + r.n % 16 * 0x40) r.bytes
  else s

/-- Put a record into the list of those not acknowledged, in place of its earlier form. -/
def State.keepErr (s : State) (r : ErrRec) : State :=
  let same (x : ErrRec) : Bool := x.die == r.die && x.seq == r.seq
  { s with errs := if s.errs.any same then s.errs.map (fun x => if same x then r else x) else s.errs ++ [r] }

/-- Records of a queue that are written and not acknowledged, and records that wait on the die to be written (R546). -/
def State.unhandled (s : State) (d src : Nat) : Nat :=
  (s.rd R.ERR_Q_HEAD d [src] + 2 ^ 32 - s.rd R.ERR_Q_ACK d [src]) % 2 ^ 32
def State.waiting (s : State) (d src : Nat) : List ErrRec := s.errs.filter (fun (r : ErrRec) => r.die == d && r.src == src && r.wait)

/-- The message of a record as it is written: vector 2 for AGE, else by severity; at once for UCE-ISLAND and above (R547). -/
def State.errMsg (s : State) (src code sev : Nat) : State :=
  let v := if src = 9 && code = 6 then 2 else if sev = 0 then 1 else 0
  if sev < 2 then s.irq 0 v else s.msix 0 v

/-- Write a record's 64 bytes into the next entry of its queue; none while the queue area cannot be written or before the die's memory
reaches SERVICE (R546). A record that has waited has HELD set. -/
def State.writeErr (s : State) (r : ErrRec) : Option State :=
  let r := { r with n := s.rd R.ERR_Q_HEAD r.die [r.src], held := r.wait, wait := false }
  (if s.rd R.MEM_STATUS_STATE r.die != 2 then none else s.post (Agent.collar r.die) (.err r.die r.seq) (s.errAddr r) r.bytes).map (fun s =>
    let s := s.roll R.ERR_Q_HEAD r.die [r.src] 1
    let s := s.wr R.ERR_Q_STATUS_UNHANDLED r.die [r.src] (s.unhandled r.die r.src)
    ((s.keepErr r).mirror r).errMsg r.src r.code r.sev)

/-- Write a record, or keep it on the die, behind those of its queue that wait already (R546). -/
def State.putErr (s : State) (r : ErrRec) : State :=
  match (if (s.waiting r.die r.src).isEmpty then s.writeErr r else none) with
  | some s => s
  | none => (s.keepErr { r with wait := true }).wr R.ERR_EVENT_QWRITE_FAIL r.die [] 1

/-- A kept record is tried again, if it is the oldest of its queue. -/
def State.retryErr (s : State) (r : ErrRec) : State :=
  if ((s.waiting r.die r.src).head?.map (·.seq)) != some r.seq then s
  else match s.writeErr r with
    | some s => s
    | none => s.wr R.ERR_EVENT_QWRITE_FAIL r.die [] 1

/-- The 8-byte header of a sideband frame (R424), and a frame of the package's own that awaits its answer (R425). -/
def sideHead (kind src dest len seq : Nat) : List Byte := leBytes 1 kind ++ leBytes 1 src ++ leBytes 1 dest ++ leBytes 1 len ++ leBytes 2 seq ++ leBytes 2 0
def State.sideSend (s : State) (kind dest : Nat) (payload : List Byte) : State :=
  let q := s.sideSeq % 2 ^ 16
  let x : SideFrame := { kind := kind, dest := dest, seq := q, payload := payload, tries := 0 }
  ({ s with sideOut := s.sideOut ++ [x], sideSeq := q + 1 }).send (.side kind (sideHead kind (s.rd R.SBR_STATUS_POSITION 0) dest payload.length q ++ payload))

/-- The error engine of die `d` takes an error (R543, R544, R548): folded into a record of its class that is not acknowledged, written or kept, or
counted lost. A die in reset writes none (R546); a FATAL-PACKAGE record is also broadcast over the sideband ring (R547). -/
def State.err (s : State) (d : Nat) (e : Err) : State :=
  let s := if e.sev = 3 then { s with fatal := true } else s
  if SMap.get 0 s.dies d = 1 then s else
  match s.errs.find? (fun r => r.die == d && r.src == e.src && r.code == e.code && r.scope == e.scope && r.sev == e.sev) with
  | some r =>
    let r' := { r with folded := true, count := min 65535 (r.count + 1), lastTick := s.tick % 2 ^ 32 }
    if r.wait then s.keepErr r' else
      match s.post (Agent.collar d) (.err d r.seq) (s.errAddr r') r'.bytes with
      | some s' => (s'.keepErr r').mirror r'
      | none => s.keepErr r'
  | none =>
    if s.unhandled d e.src + (s.waiting d e.src).length < (if e.sev = 0 then 12 else 16) then
      let r : ErrRec :=
        { die := d, src := e.src, code := e.code, sev := e.sev, scope := e.scope, n := 0, seq := s.rd R.ERR_SEQ d,
          island := s.island d, part := e.part, ctx := e.ctx, tick := s.tick, time := s.now, addr := e.addr, d0 := e.d0,
          d1 := e.d1, escalated := e.escalated, held := false, count := 0, folded := false, lastTick := 0, wait := false }
      let s := (s.roll R.ERR_SEQ d [] 1).putErr r
      if e.sev = 3 then s.sideSend 2 0xFF (leBytes 1 e.src ++ leBytes 1 e.code) else s
    else
      let s := (s.bump R.ERR_Q_STATUS_LOST d [e.src] 1).wr R.ERR_EVENT_LOST d [] 1
      s.wr R.ERR_Q_STATUS_LOST_SEV d [e.src] (max (s.rd R.ERR_Q_STATUS_LOST_SEV d [e.src]) e.sev)

/-- A SEC_EVENT bit is set: a CE record, but UCE-CONTAINED for SIGN_EXHAUSTED and PACK_REJECT (R518). -/
def State.secEvent (s : State) (f : Fld) : State :=
  let s := s.wr f 0 [] 1
  let v := [R.SEC_EVENT_DEBUG_TOUCH, R.SEC_EVENT_AUTH_FAIL, R.SEC_EVENT_PACK_ACTIVE, R.SEC_EVENT_PACK_REJECT, R.SEC_EVENT_SIGN_EXHAUSTED,
    R.SEC_EVENT_SIGN_LOW].foldl (fun n g => n + s.rd g 0 * 2 ^ g.lo) 0
  s.err 0 (.plain 8 1 (if f.lo = 1 ∨ f.lo = 2 then 1 else 0) (scopeOf 7 0) v)

/-- DETAIL1 of a record (R541): the work ring and descriptor index of the unit that the error ends; 0 for none. -/
def State.unitD1 (s : State) (uid : Nat) : Nat :=
  match s.units.find? (fun (u : WUnit) => u.id == uid && u.ending.isNone) with
  | none => 0
  | some u =>
    let n := if u.ring < 64 then s.rd R.WRK_RING_CFG_SIZE_LOG2 0 [u.part, u.ring] else s.rd R.BAY_Q_CFG_SIZE_LOG2 0 [u.part, u.ring - 64]
    u.ring % 64 * 2 ^ 16 + u.count % 2 ^ n

/-- A partition or context as a record names it (R541): 0xFF for none. -/
def recPart (p : Nat) : Nat := if p < 64 then p else 255
def recCtx (p c : Nat) : Nat := if p < 64 ∧ c < 16 then c else 255

/-- An uncorrectable sector (R269): counted, its address kept, and recorded with the port and the DPA, whom it concerns and the unit it ends. -/
def State.logUe (s : State) (q dpa : Nat) (scrub : Bool) (part : Nat := 255) (ctx : Nat := 255) (uid : Nat := 0) : State :=
  let d := qDie q
  let s := (s.bump R.MEM_PORT_UE d (portIx q) 1).wr R.MEM_PORT_LAST_UE d (portIx q) dpa
  let s := s.wr R.MEM_EVENT_UE d [] 1
  s.err d { src := 0, code := if scrub then 3 else 2, sev := 1, scope := scopeOf 1 (qPort q), part := recPart part, ctx := recCtx part ctx,
            addr := dpa, d0 := qPort q, d1 := s.unitD1 uid, escalated := false }

end Sys2Proof.Machine
end

