-- ==== Sys2Proof/Machine/Leash.lean ====
section
/-! DEFINITION. The Leash (R276 to R296), and the checks of the region table, the Leash shadow
and the slot tables that come before a boundary latches them (R257, R288, R289, R337, R338, R579). -/

namespace Sys2Proof.Machine

/-- The value of a register whose fields are listed (R541: DETAIL0 holds register values). -/
def State.regVal (s : State) (d : Nat) (ix : List Nat) (l : List Fld) : Nat := l.foldl (fun n f => n + s.rd f d ix * 2 ^ f.lo) 0

/-! ### Capacity (R265, R266, R291 to R293) -/

/-- The band figure of R266 in hundredths. -/
def bandPct (b : Nat) : Nat := ([80, 76, 55, 35, 0] : List Nat).getD b 0

/-- What a channel counts in E of R291: 2 in service, 1 at half rate, 0 retired or not in service. -/
def State.chanWeight (s : State) (port c : Nat) : Nat :=
  let d := port / 32
  let ix := [port % 32]
  if bit (s.rd R.MEM_PORT_STATUS_RETIRED d ix) c || !bit (s.rd R.MEM_PORT_STATUS_UP d ix) c then 0
  else if bit (s.rd R.MEM_PORT_STATUS_HALF d ix) c then 1 else 2

/-- CAP_NOW of a stack by R291. -/
def State.capOf (s : State) (st : Nat) : Nat :=
  let d := st / 4
  if !s.dieRuns d || s.rd R.MEM_STATUS_STATE d != 2 then 0
  else
    let e := (List.range 32).foldl (fun n k => n + s.chanWeight (8 * st + k / 4) (k % 4)) 0
    e * 6144 * bandPct (s.rd R.MEM_STACK_TEMP_BAND d [st % 4]) / 1000

/-- EFF of a class of a master port (R292). -/
def State.effOf (s : State) (d m c : Nat) : Nat :=
  let mn := s.rd R.LSH_M_MIN_MIN d [m, c]
  if mn = 0 then 0
  else (targetStacks (s.rd R.LSH_M_MIN_MODE d [m, c]) (s.rd R.LSH_M_MIN_TARGET d [m, c])).foldl (fun e st =>
    let adm := s.rd R.LSH_STACK_CAP_CAP_ADM 0 [st]
    min e (mn * min (s.rd R.LSH_STACK_CAP_CAP_NOW 0 [st]) adm / adm)) mn

/-- Set every LSH_M_EFF (R292). -/
def State.rescale (s : State) : State :=
  s.each leashIx (fun s x =>
    let v := s.effOf x.1 x.2.1 x.2.2
    if s.rd R.LSH_M_EFF_EFF x.1 [x.2.1, x.2.2] = v then s else s.wr R.LSH_M_EFF_EFF x.1 [x.2.1, x.2.2] v)

/-- EFF of every class, where it is not 0. -/
def State.effMap (s : State) : SMap Nat :=
  leashIx.filterMap (fun x =>
    let v := s.rd R.LSH_M_EFF_EFF x.1 [x.2.1, x.2.2]
    if v = 0 then none else some (leashKey x.1 x.2.1 x.2.2, v))

/-- A stack's band, channels or die have changed: its CAP_NOW follows, and an admitted load on it is scaled (R291 to R293). The record's
SCOPE names the stack's first memory port (log entry 26). -/
def State.recap (s : State) (st : Nat) : State :=
  let old := s.rd R.LSH_STACK_CAP_CAP_NOW 0 [st]
  let new := s.capOf st
  if new = old then s
  else
    let s := (s.wr R.LSH_STACK_CAP_CAP_NOW 0 [st] new).rescale
    let s := { s with effDue := s.effDue ++ [(s.now, s.effMap)] }
    if s.rd R.LSH_STACK_LOAD 0 [st] = 0 then s
    else (s.wr R.LSH_EVENT_SCALED 0 [] 1).err 0 (.plain 5 1 0 (scopeOf 1 (8 * st)) (old * 2 ^ 16 + new))

/-- Every stack of a die. -/
def State.recapDie (s : State) (d : Nat) : State := s.each (List.range 4) (fun s k => s.recap (4 * d + k))

/-! ### Credit counters (R284 to R287, R292) -/

/-- The EFF the Leash uses at a frame start: that of the last change at least 1 µs old, or of the last admission (R292). -/
def State.effNow (s : State) : SMap Nat × List (Nat × SMap Nat) :=
  let old := s.effDue.filter (fun x => decide (x.1 + 1000 ≤ s.now))
  (((old.getLast?).map (·.2)).getD s.effUse, s.effDue.filter (fun x => !decide (x.1 + 1000 ≤ s.now)))

/-- Set every class counter to EFF (R284). -/
def State.refill (s : State) : State := { s with leash := s.effNow.1, effUse := s.effNow.1, effDue := s.effNow.2 }

/-- Whether a held request of the same master port to the same granule stands before request `r` (R285). -/
def State.heldBefore (s : State) (r : Req) : Bool :=
  s.reqs.any (fun x => x.stage == .held && x.die == r.die && x.mport == r.mport && x.dpa / 256 == r.dpa / 256 && decide (x.rid < r.rid))

/-- A held request leaves, as guaranteed or as best effort. -/
def State.leave (s : State) (r : Req) (g : Bool) : State :=
  let slot := s.slotted r.die r.mport (s.reqLinks r) r.flits
  let s := { s with reqs := s.reqs.map (fun (x : Req) => if x.rid == r.rid then { x with stage := .sent, guar := x.guar || g, slot := slot, seq := s.nextId } else x), nextId := s.nextId + 1 }
  s.goes r g

/-- Held requests leave, oldest first, those of one granule in order, as the fabric takes them (R340): those of a strict port where its counter
covers them, the others as best effort where their memory port takes it (R282, R285, R287). -/
def State.releaseHeld (s : State) : State :=
  s.each (s.reqs.filter (fun (r : Req) => r.stage == .held)) (fun s r =>
    if s.heldBefore r || !s.fabricOk r.die r.mport (s.reqLinks r) r.flits then s
    else if s.strictPort r.die r.mport then (if s.covers r.die r.mport r.cls r.q r.units then s.leave r true else s)
    else if s.beOpen (qPort r.q) then s.leave r false else s)

/-- A slot frame starts (R243, R284). -/
def State.frame (s : State) : State := { ({ s with frameAt := s.now, slotUse := [], linkUse := [] }.refill.releaseHeld) with served := [] }

/-- A slot frame starts, `dt` ns after the last boundary. -/
def execSlotFrameStart (dt : Nat) (s : State) : Result := within s true (s.at_ dt).frame

/-- READMIT (R288): admission runs at the next boundary. -/
def execLshReadmit (s : State) : Result := within s true { s with wroteLeash := true }

/-- CLEAR_STATS of the LSH block of a die (R294). -/
def execLshClearStats (die : Nat) (s : State) : Result :=
  within s (decide (die < 4)) (s.clearAll die [R.LSH_M_GUAR, R.LSH_M_BE, R.LSH_PORT_UNITS, R.LSH_PORT_LATE])

/-- CLEAR_STATS of the FLL block of a die (R354). -/
def execFllClearStats (die : Nat) (s : State) : Result :=
  within s (decide (die < 4)) (s.clearAll die [R.FLL_DISCARDS, R.FLL_CW_FLITS, R.FLL_CW_SLOTTED, R.FLL_CCW_FLITS, R.FLL_CCW_SLOTTED, R.FLL_M_SLOTTED,
    R.FLL_M_STALL])

/-! ### The region table's check (R257) -/

def Region.overlap (a b : Region) : Bool :=
  decide (a.base < b.base + b.size) && decide (b.base < a.base + a.size)

/-- The pseudo-channels of a region: first and count. -/
def Region.chans (r : Region) : Nat × Nat :=
  if r.mode = 0 then (0, 1024) else if r.mode = 1 then (256 * r.target, 256) else (64 * r.target, 64)

def Region.bandClash (a b : Region) : Bool :=
  decide (a.chans.1 < b.chans.1 + b.chans.2) && decide (b.chans.1 < a.chans.1 + a.chans.2) &&
  decide (a.first < b.first + b.bands) && decide (b.first < a.first + a.bands)

/-- The reason an entry of a table fails, 0 for none. -/
def Region.fails (r : Region) (others : List Region) : Nat :=
  if r.bands = 0 ∨ 768 < r.first + r.bands then 1
  else if r.base % bandSize r.mode ≠ 0 then 2
  else if 2 ^ 44 < r.base + r.size then 3
  else if r.mode = 3 ∨ (r.mode = 1 ∧ 3 < r.target) then 4
  else if others.any r.overlap then 5
  else if others.any r.bandClash then 6 else 0

/-- The fields of the region group (R579). -/
def regionFlds : List Fld :=
  [R.MEM_REGION_VALID, R.MEM_REGION_MODE, R.MEM_REGION_TARGET, R.MEM_REGION_STREAM, R.MEM_REGION_BASE_BASE, R.MEM_REGION_BANDS_BANDS, R.MEM_REGION_BANDS_BAND_FIRST]

/-- The first failing entry of the shadow table and its reason. -/
def State.regionFail (s : State) : Option (Nat × Nat) :=
  let rs := (List.range 64).map (fun e => (e, regionOf (fun f ix => s.rdShadow f 0 ix) e))
  rs.findSome? (fun x =>
    if !x.2.valid then none
    else
      let k := x.2.fails ((rs.filter (fun y => y.1 != x.1 && y.2.valid)).map (·.2))
      if k = 0 then none else some (x.1, k))

/-- Move pending values into effect: those whose key satisfies `sel` (R11, R240). -/
def State.latchKeys (s : State) (sel : Nat → Bool) : State :=
  { s with regs := (s.shadow.filter (fun e => sel e.1)).foldl (fun m e => SMap.ins m e.1 e.2) s.regs
           shadow := s.shadow.filter (fun e => !sel e.1) }

/-- The key of a field's bit lies in a field of a list: on which die and at which indices does not matter. -/
def Fld.holds (f : Fld) (key : Nat) : Bool :=
  let off := key / 8 % 2 ^ 26
  key % 8 == f.lo % 8 && go off f.dims f.base
where
  /-- Strip the strides, widest first. -/
  go (off : Nat) : List (Nat × Nat) → Nat → Bool
    | [], base => off == base + f.lo / 8
    | (n, st) :: ds, base => if off < base then false else go off ds (base + min (n - 1) ((off - base) / st) * st)

/-- Whether a key belongs to one of the fields of a list. -/
def inFlds (l : List Fld) (key : Nat) : Bool := l.any (fun f => f.holds key)

/-- The region table's check at a boundary (R257). -/
def State.checkRegions (s : State) : State :=
  if !s.wroteRegion then s
  else
    let s := { s with wroteRegion := false }
    match s.regionFail with
    | none => s.latchKeys (inFlds regionFlds)
    | some (e, k) =>
      let s := s.wrs 0 [] [(R.MEM_REGION_STATUS_REJECT, 1), (R.MEM_REGION_STATUS_ENTRY, e), (R.MEM_REGION_STATUS_REASON, k)]
      s.err 0 (.plain 0 8 0 (scopeOf 7 0) (s.regVal 0 [] [R.MEM_REGION_STATUS_REJECT, R.MEM_REGION_STATUS_ENTRY, R.MEM_REGION_STATUS_REASON]))

/-! ### Leash admission (R288, R289) -/

/-- The largest sum of minimums of a master port (R279). -/
def linkFigure (m : Nat) : Nat :=
  if m < 128 then 4096 else if m < 130 then 64000 else if m < 132 then 6400 else if m < 136 then 4096 else 2048

/-- Ports that reach the homes of every island (R289, R348). -/
def anyIsland (m : Nat) : Bool := ([130, 131, 134, 135, 136] : List Nat).contains m

def State.shMin (s : State) (x : Nat × Nat × Nat) : Nat := s.rdShadow R.LSH_M_MIN_MIN x.1 [x.2.1, x.2.2]
def State.shMode (s : State) (x : Nat × Nat × Nat) : Nat := s.rdShadow R.LSH_M_MIN_MODE x.1 [x.2.1, x.2.2]
def State.shTarget (s : State) (x : Nat × Nat × Nat) : Nat := s.rdShadow R.LSH_M_MIN_TARGET x.1 [x.2.1, x.2.2]

/-- The load of the shadow on a stack, in sixteenths of a unit (R288). -/
def State.shLoad (s : State) (st : Nat) : Nat :=
  leashIx.foldl (fun n x =>
    let t := targetStacks (s.shMode x) (s.shTarget x)
    if t.contains st then n + s.shMin x * 16 / t.length else n) 0

/-- The first check of R289 the shadow fails: reason, die, master port, class, stack. -/
def State.leashFail (s : State) : Option (Nat × Nat × Nat × Nat × Nat) :=
  let some_ := leashIx.filter (fun x => s.shMin x != 0)
  match (List.range 16).find? (fun st => decide (16 * s.rd R.LSH_STACK_CAP_CAP_NOW 0 [st] < s.shLoad st)) with
  | some st => some (1, 0, 0, 0, st)
  | none =>
  match (leashIx.filter (fun x => x.2.2 == 0)).find? (fun x =>
      decide (linkFigure x.2.1 < (List.range 4).foldl (fun n c => n + s.shMin (x.1, x.2.1, c)) 0)) with
  | some x => some (2, x.1, x.2.1, 0, 0)
  | none =>
  match some_.find? (fun x => s.shMode x == 3 || (s.shMode x == 1 && decide (3 < s.shTarget x))) with
  | some x => some (3, x.1, x.2.1, x.2.2, 0)
  | none =>
  match some_.find? (fun x => !anyIsland x.2.1 &&
      (targetStacks (s.shMode x) (s.shTarget x)).any (fun st => s.island (st / 4) != s.island x.1)) with
  | some x => some (4, x.1, x.2.1, x.2.2, 0)
  | none =>
  match some_.find? (fun x => x.2.1 == 136 && x.1 != 0) with
  | some x => some (5, x.1, x.2.1, x.2.2, 0)
  | none => none

def leashFlds : List Fld :=
  [R.LSH_LAT_LO_RD, R.LSH_LAT_LO_LCR, R.LSH_LAT_HI_BG, R.LSH_LAT_HI_WR, R.LSH_M_WEIGHT_BG, R.LSH_M_WEIGHT_WR, R.LSH_M_WEIGHT_RD, R.LSH_M_WEIGHT_LCR,
   R.LSH_M_MIN_MIN, R.LSH_M_MIN_MODE, R.LSH_M_MIN_TARGET]

/-- Leash admission at a boundary (R288): a shadow that passes is latched, every CAP_ADM takes CAP_NOW and the loads are kept. -/
def State.checkLeash (s : State) : State :=
  if !s.wroteLeash then s
  else
    let s := { s with wroteLeash := false }
    match s.leashFail with
    | none =>
      let s := s.each (List.range 16) (fun s st => s.wrs 0 [st] [(R.LSH_STACK_LOAD, s.shLoad st), (R.LSH_STACK_CAP_CAP_ADM, s.rd R.LSH_STACK_CAP_CAP_NOW 0 [st])])
      let s := (s.latchKeys (inFlds leashFlds)).rescale
      { s with effUse := s.effMap, effDue := [] }
    | some (k, d, m, c, st) =>
      let s := s.wrs 0 [] [(R.LSH_ADMIT_REJECT, 1), (R.LSH_ADMIT_REASON, k), (R.LSH_ADMIT_DIE, d), (R.LSH_ADMIT_MPORT, m), (R.LSH_ADMIT_CLASS, c),
        (R.LSH_ADMIT_STACK, st), (R.LSH_EVENT_ADMIT_REJECT, 1)]
      s.err 0 (.plain 5 2 0 (scopeOf 7 0) (s.regVal 0 [] [R.LSH_ADMIT_REJECT, R.LSH_ADMIT_REASON, R.LSH_ADMIT_DIE, R.LSH_ADMIT_MPORT, R.LSH_ADMIT_CLASS, R.LSH_ADMIT_STACK]))

/-! ### The slot checker (R336 to R338) -/

/-- The slot uses of the shadow. -/
def State.slotUses (s : State) : List SlotUse :=
  (List.range 4).flatMap (fun d => (List.range 137).filterMap (slotUse? (fun f d ix => s.rdShadow f d ix) d))

/-- FLITS allowed by kind (R336). -/
def flitsMax (m : Nat) : Nat := if m < 128 then 16 else if m < 130 then 250 else if m < 132 then 25 else if m = 136 then 8 else 16

/-- What FLL_SLOT_CHECK records. -/
structure SlotFail where
  reason : Nat
  slot : Nat
  die : Nat
  mport : Nat
  memport : Nat
  dir : Nat

/-- The first check of R338 the shadow fails. -/
def State.slotFail (s : State) : Option SlotFail :=
  let us := s.slotUses
  let at_ (i : Nat) : List SlotUse := us.filter (fun u => bit u.slots i)
  let mp (l : List SlotUse) (p : Nat) (w : SlotUse → Nat) : Nat := l.foldl (fun n u => n + w u * u.onPort p) 0
  let rg (l : List SlotUse) (e : Nat) (w : SlotUse → Nat) : Nat := l.foldl (fun n u => n + w u * s.onRing u e) 0
  match (List.range 128).findSome? (fun p => ((List.range 64).find? (fun i => decide (32 * 128 < mp (at_ i) p (fun _ => 1)))).map (fun i => (p, i))) with
  | some (p, i) => some ⟨1, i, p / 32, 0, p % 32, 0⟩
  | none =>
  match (List.range 128).find? (fun p => decide (1792 * 128 < mp us p (fun u => popcount u.slots 64))) with
  | some p => some ⟨2, 0, p / 32, 0, p % 32, 0⟩
  | none =>
  match (List.range 8).findSome? (fun e => ((List.range 64).find? (fun i => decide (7 * s.ringC e * 128 < rg (at_ i) e (fun _ => 1)))).map (fun i => (e, i))) with
  | some (e, i) => some ⟨3, i, e / 2, 0, 0, e % 2⟩
  | none =>
  match (List.range 8).find? (fun e => decide (448 * s.ringC e * 128 < rg us e (fun u => popcount u.slots 64))) with
  | some e => some ⟨4, 0, e / 2, 0, 0, e % 2⟩
  | none =>
  match us.find? (fun u => decide (flitsMax u.mport < u.flits)) with
  | some u => some ⟨5, 0, u.die, u.mport, 0, 0⟩
  | none =>
  match us.find? (fun u =>
      ((u.mode == 1 || u.mode == 3) && decide (3 < u.target)) ||
      (!anyIsland u.mport &&
        (if u.mode = 0 then (List.range 4) else if u.mode = 2 then [u.target / 4] else [u.target]).any (fun t => s.island t != s.island u.die))) with
  | some u => some ⟨6, 0, u.die, u.mport, 0, 0⟩
  | none =>
    (((List.range 4).flatMap (fun d => (List.range 137).map (fun m => (d, m)))).find? (fun x =>
      s.strictPort x.1 x.2 && (s.rdShadow R.FLL_M_SLOT_CFG_FLITS x.1 [x.2] == 0 || s.rdShadow R.FLL_M_SLOTS x.1 [x.2] == 0))).map
      (fun x => ⟨7, 0, x.1, x.2, 0, 0⟩)

def slotFlds : List Fld := [R.FLL_M_SLOTS, R.FLL_M_SLOT_CFG_FLITS, R.FLL_M_SLOT_CFG_MODE, R.FLL_M_SLOT_CFG_TARGET]

/-- The slot checker at a boundary (R337, R338); on passing, C_ADM of every direction takes C (R401). -/
def State.checkSlots (s : State) : State :=
  if !s.wroteSlots then s
  else
    let s := { s with wroteSlots := false }
    match s.slotFail with
    | none =>
      (s.each (List.range 8) (fun s e => s.wr R.DDL_CAP_C_ADM_TX (e / 2) [e % 2] (s.ringC e))).latchKeys (inFlds slotFlds)
    | some f =>
      let s := s.wrs 0 [] [(R.FLL_SLOT_CHECK_REJECT, 1), (R.FLL_SLOT_CHECK_REASON, f.reason), (R.FLL_SLOT_CHECK_SLOT, f.slot), (R.FLL_SLOT_CHECK_DIE, f.die),
        (R.FLL_SLOT_CHECK_MPORT, f.mport), (R.FLL_SLOT_CHECK_MEMPORT, f.memport), (R.FLL_SLOT_CHECK_DIR, f.dir), (R.FLL_EVENT_SLOT_REJECT, 1)]
      s.err 0 (.plain 1 2 0 (scopeOf 7 0) (s.regVal 0 [] [R.FLL_SLOT_CHECK_REJECT, R.FLL_SLOT_CHECK_REASON, R.FLL_SLOT_CHECK_SLOT, R.FLL_SLOT_CHECK_DIE,
        R.FLL_SLOT_CHECK_MPORT, R.FLL_SLOT_CHECK_MEMPORT, R.FLL_SLOT_CHECK_DIR]))

end Sys2Proof.Machine
end

