-- ==== Sys2Proof/Machine/Memory.lean ====
section
/-! DEFINITION. The stacks and the stack cache by themselves (R263, R266 to R275): flush, ECC, patrol scrub, temperature bands, channel
recalibration and loop-back. -/

namespace Sys2Proof.Machine

/-! ### The stack cache's controls -/

/-- Every dirty sector of a die's stack cache is written to DRAM; the lines stay, clean (R263). -/
def State.flushStc (s : State) (d : Nat) : State :=
  s.each (s.stcLines.filter (fun (l : StcLine) => qDie l.q == d && l.dirty != 0)) (fun s l => (s.writeBack l).stcSetLine { l with dirty := 0 })

/-- A write of FLUSH (R263). -/
def execStcFlush (die : Nat) (s : State) : Result :=
  within s (decide (die < 4)) ((s.flushStc die).wr R.STC_STATUS_FLUSH_BUSY die [] 1)

/-- The last write-back is acknowledged (R263). -/
def execStcFlushDone (die : Nat) (s : State) : Result :=
  within s (decide (die < 4)) (s.wr R.STC_STATUS_FLUSH_BUSY die [] 0)

/-- A write that clears ENABLE: dropped in SERVICE, else every dirty sector is written back first (R275). -/
def execStcDisable (die : Nat) (s : State) : Result :=
  within s (decide (die < 4)) (
    if !s.rdB R.STC_CTRL_ENABLE die then s
    else if s.rd R.MEM_STATUS_STATE die = 2 then s.cfgErr .STC die [] (R.STC_CTRL_ENABLE.offset [])
    else (s.flushStc die).wr R.STC_CTRL_ENABLE die [] 0)

/-- CLEAR_STATS of the STC and MEM blocks of a die (R274, R275). -/
def execStcClearStats (die : Nat) (s : State) : Result :=
  within s (decide (die < 4)) (s.clear die [R.STC_HITS, R.STC_MISSES, R.STC_WRITEBACKS, R.STC_BYPASS, R.STC_SECTOR_ERR])
def execMemClearStats (die : Nat) (s : State) : Result :=
  within s (decide (die < 4)) (s.clearAll die [R.MEM_STACK_REPAIRS, R.MEM_PORT_CE, R.MEM_PORT_UE, R.MEM_PORT_SECTORS])

/-! ### Error correction (R267 to R269) -/

/-- What the two codes say of a sector (R267). -/
inductive EccResult where
  | clean
  | corrected
  | uncorrectable
  deriving DecidableEq, Repr

def eccResult (e : Ecc) : EccResult :=
  if 2 ≤ e.secDed then .uncorrectable
  else if e.onDie ≤ 1 then (if e.secDed = 0 then .clean else .corrected)
  else .corrected

/-- The DPA that decodes to a place in a pseudo-channel, if a region covers it: the inverse of R255. -/
def Region.encode (r : Region) (q loc : Nat) : Option Nat :=
  let w := chanBits r.mode
  let c0 := r.chans.1
  if !r.valid || q < c0 || c0 + r.chans.2 ≤ q || loc < r.first * 2 ^ 20 || (r.first + r.bands) * 2 ^ 20 ≤ loc then none
  else
    let row := (loc - r.first * 2 ^ 20) / 256
    some (r.base + (((row <<< w) + ((q - c0) ^^^ fold w 44 row)) <<< 8) + loc % 256)

def State.encode (s : State) (q loc : Nat) : Option Nat := ((List.range 64).map s.region).findSome? (fun r => r.encode q loc)

/-- MEM_STACK_TEMP and MEM_PORT_STATUS as an error record shows them (R542). -/
def State.tempReg (s : State) (st : Nat) : Nat := s.regVal (st / 4) [st % 4] [R.MEM_STACK_TEMP_TEMP, R.MEM_STACK_TEMP_BAND]
def State.portReg (s : State) (port : Nat) : Nat :=
  s.regVal (port / 32) [port % 32] [R.MEM_PORT_STATUS_RETIRED, R.MEM_PORT_STATUS_HALF, R.MEM_PORT_STATUS_UP]

/-- Rows or lanes of a stack are repaired in service (R268, R272). -/
def State.repaired (s : State) (port n : Nat) : State :=
  let d := port / 32
  let s := (s.bump R.MEM_STACK_REPAIRS d [port / 8 % 4] n).wr R.MEM_EVENT_REPAIR d [] 1
  s.err d (.plain 0 4 0 (scopeOf 1 port) (s.portReg port))

/-- A corrected error (R268): counted, recorded, and a row that gathers CE_THRESH of them is repaired while its bank has a spare row.
Four granules of a pseudo-channel share a row (R255). -/
def State.corrected (s : State) (q loc : Nat) (spareRow : Bool) (part : Nat := 255) (ctx : Nat := 255) : State :=
  let d := qDie q
  let port := qPort q
  let s := s.bump R.MEM_PORT_CE d (portIx q) 1
  let s := s.err d { (Err.plain 0 1 0 (scopeOf 1 port) port) with part := recPart part, ctx := recCtx part ctx, addr := (s.encode q (loc / 32 * 32)).getD 0 }
  let row := loc / 1024
  let n := ((s.rowCe.find? (fun (r : RowCe) => r.q == q && r.row == row)).map (·.count)).getD 0 + 1
  let rest := s.rowCe.filter (fun (r : RowCe) => !(r.q == q && r.row == row))
  let th := s.rd R.MEM_CTRL_CE_THRESH d
  let spares := s.rd R.MEM_STACK_SPARES_ROWS d [port / 8 % 4]
  if th ≠ 0 ∧ th ≤ n ∧ spareRow = true ∧ 0 < spares then
    (({ s with rowCe := rest }).wr R.MEM_STACK_SPARES_ROWS d [port / 8 % 4] (spares - 1)).repaired port 1
  else { s with rowCe := rest ++ [⟨q, row, n⟩] }

/-- A sector is read from DRAM with a report of the two codes: a corrected error is dealt with, an uncorrectable sector is marked until
a whole-sector write replaces it (R267 to R269). -/
def State.eccRead (s : State) (q loc : Nat) (e : Ecc) (part : Nat := 255) (ctx : Nat := 255) : State :=
  match eccResult e with
  | .clean => s
  | .corrected => s.corrected q loc e.spareRow part ctx
  | .uncorrectable => { s with ue := SMap.ins s.ue (qAddr q loc / 32) 1 }

/-- The patrol scrub reads sector `sector` of a pseudo-channel (R270). -/
def execPatrolScrub (q sector dt : Nat) (ecc : List Ecc) (s : State) : Result :=
  within s (decide (q < 1024) && decide (sector < 768 * 2 ^ 15)) (
    let d := qDie q
    let loc := 32 * sector
    if !s.dieRuns d || s.rd R.MEM_STATUS_STATE d != 2 || s.rd R.MEM_CTRL_SCRUB_HOURS d == 0 || s.retired q ||
       s.rd R.MEM_STACK_TEMP_BAND d [qStack q % 4] == 4 || s.reqs.any (fun (r : Req) => r.q == q && r.stage == .port) then s
    else
      let s := s.at_ dt
      let s := match ecc with | e :: _ => s.eccRead q loc e | [] => s
      if SMap.get 0 s.ue (qAddr q loc / 32) = 1 then
        match s.encode q loc with
        | some dpa => s.logUe q dpa true
        | none => (s.useFree 1).logUe q (Config.freeNat s.free % 2 ^ 44) true
      else s)

/-! ### Temperature (R266) -/

/-- The lower edge of a band. -/
def bandEdge (b : Nat) : Nat := ([0, 85, 90, 93, 95] : List Nat).getD b 95
def bandOf (t : Nat) : Nat := if t ≤ 85 then 0 else if t ≤ 90 then 1 else if t ≤ 93 then 2 else if t ≤ 95 then 3 else 4

/-- The band after a reading: upward at once; downward past each edge that the reading lies 2 °C below. -/
def nextBand (t : Nat) : Nat → Nat
  | 0 => bandOf t
  | b + 1 => if t + 2 ≤ bandEdge (b + 1) then nextBand t b else max (b + 1) (bandOf t)

/-- A controller reads its stack's temperature (R266). -/
def execStackTempRead (stack temp : Nat) (s : State) : Result :=
  within s (decide (stack < 16)) (
    let d := stack / 4
    let ix := [stack % 4]
    if !s.dieRuns d || s.rd R.MEM_STATUS_STATE d == 0 then s
    else
      let old := s.rd R.MEM_STACK_TEMP_BAND d ix
      let new := nextBand (temp % 256) (min 4 old)
      let s := s.wrs d ix [(R.MEM_STACK_TEMP_TEMP, temp), (R.MEM_STACK_TEMP_BAND, new)]
      if new = old then s
      else
        let s := s.wr R.MEM_EVENT_THROTTLE d [] 1
        (s.err d (.plain 0 7 0 (scopeOf 1 (8 * stack)) (s.tempReg stack))).recap stack)

/-! ### Calibration (R272) -/

/-- A channel is retired: out of service, kept in the health history. -/
def State.retire (s : State) (chan : Nat) : State :=
  let port := chan / 4
  let d := port / 32
  let ix := [port % 32]
  let c := chan % 4
  let set (s : State) (f : Fld) (v : Nat) : State := s.wr f d ix (setBits (s.rd f d ix) c 1 v)
  let s := set (set (set s R.MEM_PORT_STATUS_RETIRED 1) R.MEM_PORT_STATUS_HALF 0) R.MEM_PORT_STATUS_UP 0
  let s := ({ s with deadChans := if s.deadChans.contains chan then s.deadChans else s.deadChans ++ [chan] }).wr R.MEM_EVENT_RETIRED d [] 1
  (s.err d (.plain 0 6 1 (scopeOf 1 port) (s.portReg port))).recap (port / 8)

/-- A channel retunes; `lanes` need a repair, `spare` says that the channel has spares for them, `halfOk` that half rate calibrates. -/
def execChannelRecal (chan lanes : Nat) (spare halfOk : Bool) (s : State) : Result :=
  within s (decide (chan < 512)) (
    let port := chan / 4
    let d := port / 32
    let ix := [port % 32]
    let sx := [port / 8 % 4]
    let c := chan % 4
    if !s.dieRuns d || s.rd R.MEM_STATUS_STATE d != 2 || !bit (s.rd R.MEM_PORT_STATUS_UP d ix) c then s
    else if bit (s.rd R.MEM_PORT_STATUS_HALF d ix) c then (if halfOk then s else s.retire chan)
    else if lanes = 0 then s
    else if spare && decide (lanes ≤ s.rd R.MEM_STACK_SPARES_LANES d sx) then
      (s.wr R.MEM_STACK_SPARES_LANES d sx (s.rd R.MEM_STACK_SPARES_LANES d sx - lanes)).repaired port lanes
    else
      let s := (s.wr R.MEM_PORT_STATUS_HALF d ix (setBits (s.rd R.MEM_PORT_STATUS_HALF d ix) c 1 1)).wr R.MEM_EVENT_HALF_RATE d [] 1
      let s := (s.err d (.plain 0 5 0 (scopeOf 1 port) (s.portReg port))).recap (port / 8)
      if halfOk then s else s.retire chan)

/-- The state of a die's memory changes, and CAP_NOW of its stacks with it (R274, R291). -/
def State.memState (s : State) (d v : Nat) : State := (s.wr R.MEM_STATUS_STATE d [] v).recapDie d

/-- The channels of a port that the health history holds as retired, and RETIRED shows (R272, R274). -/
def State.deadOf (s : State) (d p : Nat) : Nat :=
  (List.range 4).foldl (fun n c => if s.deadChans.contains ((32 * d + p) * 4 + c) then n + 2 ^ c else n) 0
def State.showDead (s : State) (d : Nat) : State := s.each (List.range 32) (fun s p => s.wr R.MEM_PORT_STATUS_RETIRED d [p] (s.deadOf d p))

/-- A die's memory is trained and in service: every channel is up but those the health history holds as retired (R271, R272). -/
def State.memUp (s : State) (d : Nat) : State :=
  let s := (s.showDead d).wr R.MEM_STATUS_STACK_UP d [] 15
  let s := s.each (List.range 32) (fun s p =>
    s.wrs d [p] [(R.MEM_PORT_STATUS_UP, 15 - s.deadOf d p),
      (R.MEM_PORT_STATUS_HALF, s.rd R.MEM_PORT_STATUS_HALF d [p] - (s.rd R.MEM_PORT_STATUS_HALF d [p] &&& s.deadOf d p))])
  s.memState d 2

/-- A die's stack cache is lost in a reset: what its dirty sectors held is gone, and what DRAM holds in their place is open (log entry 37). -/
def State.stcLost (s : State) (d : Nat) : State :=
  let s := s.each (s.stcLines.filter (fun (l : StcLine) => qDie l.q == d)) (fun s l =>
    s.each (maskList l.dirty) (fun s i =>
      let bs := s.freeBytes 32
      { (s.useFree 32) with dram := memPut s.dram (qAddr l.q (256 * l.gran + 32 * i)) bs }))
  { s with stcLines := s.stcLines.filter (fun (l : StcLine) => qDie l.q != d) }

/-! ### Loop-back (R273) -/

/-- A write of MEM_PORT_LB_CTRL with START (R273): busy unless the die's memory is in TRAINING or TEST. -/
def execLoopbackStart (port value : Nat) (s : State) : Result :=
  within s (decide (port < 128) && decide (value < 2 ^ 32)) (
    let d := port / 32
    let st := s.rd R.MEM_STATUS_STATE d
    let busy := st != 1 && st != 4
    let s := s.regWrite .MEM d [port % 32] value (fun _ => busy)
      [R.MEM_PORT_LB_CTRL_START, R.MEM_PORT_LB_CTRL_MODE, R.MEM_PORT_LB_CTRL_PATTERN, R.MEM_PORT_LB_CTRL_CHANNELS]
    if busy || !bit value 31 || s.loopbacks.contains port then s else { s with loopbacks := s.loopbacks ++ [port] })

/-- A loop-back run finishes with `errors` bit errors on its worst lane. -/
def execLoopbackDone (port errors : Nat) (s : State) : Result :=
  within s (decide (port < 128)) (
    if !s.loopbacks.contains port then s
    else
      let s := { s with loopbacks := s.loopbacks.filter (· != port) }
      s.wrs (port / 32) [port % 32] [(R.MEM_PORT_LB_STATUS_DONE, 1), (R.MEM_PORT_LB_ERR, min (2 ^ 32 - 1) errors)])

end Sys2Proof.Machine
end

