-- ==== Sys2Proof/Machine/Operands.lean ====
section
/-! DEFINITION. The words of a tile command: fields, lengths, reserved bits, loop offsets, the extents its own fields fix, and
the field checks made at issue (R131 to R136, R141, R143, R144, R148, R152, R154, R156, R162, R163, R165 to R167, R172). -/

namespace Sys2Proof.Machine

/-- Fields common to every command (R131). -/
def opcodeOf (w0 : Nat) : Nat := bits w0 57 7
def sxOf (w0 : Nat) : Bool := bit w0 56
def idxOf (w0 k : Nat) : Nat := bits w0 (54 - 2 * k) 2

/-- LOOP, SETBASE and SETSHAPE take two entries (R132). -/
def fixedLong (op : Nat) : Bool := op == 0x03 || op == 0x11 || op == 0x13

/-- Entries of a command (R132). -/
def entriesOf (w0 : Nat) : Nat := if sxOf w0 || fixedLong (opcodeOf w0) then 2 else 1

/-- The opcode map (R144). -/
def isVector (op : Nat) : Bool := decide (0x40 ≤ op) && decide (op ≤ 0x5E)
def knownOp (op : Nat) : Bool :=
  decide (op ≤ 3) || (decide (0x10 ≤ op) && decide (op ≤ 0x14)) || op == 0x20 || op == 0x21 || op == 0x28 || op == 0x29 ||
  (decide (0x30 ≤ op) && decide (op ≤ 0x35)) || (decide (0x40 ≤ op) && decide (op ≤ 0x63))

/-- The unit of an opcode, numbered as UNIT_BUSY numbers them (R94, R144). -/
def unitOf (op : Nat) : Nat :=
  if op < 0x10 then 0 else if op < 0x28 then 4 else if op < 0x30 then 1 else if op < 0x40 then 3 else 2

/-- Which operands a vector operation reads besides A (R164). -/
def readsB (op : Nat) : Bool := decide (op ≤ 0x4D)
def readsD (op : Nat) : Bool := op == 0x43 || op == 0x4D || op == 0x51 || op == 0x52
def reduces (op : Nat) : Bool := op == 0x51 || op == 0x52

/-- What an operand field addresses (R134): its unit in bytes and its space; a bank operand of R163; Flial memory. -/
inductive Place where
  | tm (unit : Nat)
  | cb (unit : Nat)
  | fm
  | bank
  deriving DecidableEq, Repr

/-- A vector operand (R163). -/
def vplace (v : Nat) : Place := if bit v 12 then .bank else .tm 32

/-- The numbered fields of a command: place and raw value (R144 with the layouts of the commands). -/
def fieldsOf (op w0 : Nat) : List (Place × Nat) :=
  match op with
  | 0x10 =>
    let dir := bits w0 47 3
    let src : Place := if dir = 0 || dir = 5 || dir = 7 then .cb 64 else if dir = 2 || dir = 4 then .fm else .tm 64
    let dst : Place := if dir = 1 || dir = 4 || dir = 7 then .cb 64 else if dir = 3 || dir = 5 then .fm else .tm 64
    [(src, bits w0 20 22), (dst, bits w0 0 20)]
  | 0x14 => [(.tm 64, bits w0 39 11)]
  | 0x20 => [(.tm 64, bits w0 36 11), (.tm 32, bits w0 24 12), (.fm, 0)]
  | 0x21 => [(.tm 64, bits w0 36 11), (.tm 32, bits w0 24 12), (.fm, 0)]
  | 0x28 => [(.tm 64, bits w0 36 11)]
  | 0x29 => [(.tm 64, bits w0 36 11)]
  | 0x30 => [(.tm 64, bits w0 22 11), (.tm 64, bits w0 11 11)] ++
      (match pairOf (bits w0 43 5) with | some p => if p.mx then [(.tm 64, bits w0 0 11)] else [] | none => [])
  | 0x32 => [(.tm 64, bits w0 35 11)]
  | 0x33 => [(.tm 64, bits w0 35 11)]
  | 0x34 => [(.tm 64, bits w0 39 11), (.tm 32, bits w0 27 12)]
  | 0x5F => [(.tm 64, bits w0 39 11), (.tm 32, bits w0 27 12), (.tm 64, bits w0 16 11)]
  | 0x60 => [(.tm 32, bits w0 28 12), (.tm 32, bits w0 16 12)]
  | 0x61 => [(.tm 32, bits w0 32 12), (.tm 32, bits w0 20 12), (.tm 1, bits w0 3 17)]
  | 0x62 => [(.tm 32, bits w0 32 12), (.tm 32, bits w0 20 12), (.tm 1, bits w0 3 17)]
  | 0x63 => [(.tm 32, bits w0 33 12), (.tm 16, bits w0 11 13), (.tm 64, bits w0 0 11)]
  | _ =>
    if isVector op then
      let d := bits w0 35 13
      let a := bits w0 22 13
      let b := bits w0 9 13
      [(vplace d, d), (vplace a, a), (vplace b, b)]
    else []

/-- The innermost loop frame's iteration and strides; i is 0 with no frame open (R143). -/
structure LoopIdx where
  i : Nat
  strideL : Int
  strideW : Int
  wrap : Nat
  deriving DecidableEq, Repr

def Tile.loopIdx (x : Tile) : LoopIdx :=
  match x.loops with
  | f :: _ => ⟨f.i, f.strideL, f.strideW, f.wrap⟩
  | [] => ⟨0, 0, 0, 1⟩

/-- The offset of a field in lines, and the multiplier of STEP for an FM field (R143). -/
def LoopIdx.off (l : LoopIdx) (code : Nat) : Int :=
  if code = 1 then l.i * l.strideL else if code = 2 then (l.i % l.wrap : Nat) * l.strideW else 0
def LoopIdx.mul (l : LoopIdx) (code : Nat) : Nat := if code = 1 then l.i else if code = 2 then l.i % l.wrap else 0

/-- First byte of a field in its space: line offsets come to 64 bytes in every unit (R134, R143). A bank operand takes none
(log entry 14). -/
def fieldByte (f : Place × Nat) (off : Int) : Int :=
  match f.1 with
  | .tm u => f.2 * u + 64 * off
  | .cb u => f.2 * u + 64 * off
  | _ => 0

/-- An extent a command touches: the field it belongs to, its space, first byte and length. -/
structure Extent where
  field : Nat
  space : Space
  start : Int
  len : Nat
  deriving DecidableEq, Repr

/-- The extents a command's own fields and loop offsets fix (R172). -/
def extentsOf (op w0 : Nat) (off : List Int) : List Extent :=
  let fs := fieldsOf op w0
  let at_ (k : Nat) (len : Nat) : List Extent :=
    match fs[k]? with
    | some f => (match f.1 with
      | .tm _ => [⟨k, .tm, fieldByte f (off.getD k 0), len⟩]
      | .cb _ => [⟨k, .cb, fieldByte f (off.getD k 0), len⟩]
      | _ => [])
    | none => []
  match op with
  | 0x12 => [⟨0, .cb, (bits w0 0 16 * 16 : Nat), 16⟩]
  | 0x14 => at_ 0 (64 * (bits w0 32 7 + 1))
  | 0x20 | 0x21 =>
    let n := bits w0 14 10 + 1
    at_ 0 (n * (if bit w0 7 then 8 else 4)) ++ at_ 1 (n * (bits w0 8 6 + 1) * 32)
  | 0x28 | 0x29 => at_ 0 (128 * bits w0 29 7)
  | 0x30 =>
    let n := bits w0 33 10 + 1
    (match pairOf (bits w0 43 5) with
     | some p => at_ 0 (n * slabBytes p.d p.a) ++ at_ 1 (n * slabBytes p.d p.b) ++
         at_ 2 (64 * ((n + (if p.d = 32 then 7 else 15)) / (if p.d = 32 then 8 else 16)))
     | none => [])
  | 0x32 => at_ 0 (if bits w0 46 2 = 2 then 128 else 64)
  | 0x33 => at_ 0 64
  | 0x34 => at_ 0 4 ++ at_ 1 32
  | 0x5F =>
    let s := bits w0 12 4
    (match fs[0]? with
     | some f => if s = 0 then at_ 0 4 else [⟨0, .tm, fieldByte f (off.getD 0 0) + 64, 128 * s⟩]
     | none => []) ++ at_ 1 32 ++ at_ 2 128
  | 0x60 =>
    let n := (bits w0 6 10 + 1) * cvtPassElems (bits w0 46 4) (bits w0 42 4)
    at_ 0 (n * cvtBits (bits w0 46 4) / 8) ++ at_ 1 (n * cvtBits (bits w0 42 4) / 8)
  | 0x61 =>
    let n := bits w0 0 3 + 1
    at_ 0 (n * 4 * cvtBits (bits w0 48 2)) ++ at_ 1 (n * 4 * mxBits (bits w0 45 3)) ++ at_ 2 (8 * (n - 1) + 1)
  | 0x62 =>
    let n := bits w0 0 3 + 1
    let d := if bits w0 45 2 = 0 then 64 else if bits w0 45 2 = 1 then 32 else 16
    at_ 0 (n * 4 * mxBits (bits w0 47 3)) ++ at_ 1 (n * 4 * d) ++ at_ 2 (8 * (n - 1) + 1)
  | 0x63 =>
    let ks := bits w0 24 9 + 1
    at_ 0 (4 * 16 * ks * (if bit w0 49 then 4 else 8)) ++ at_ 1 16 ++ at_ 2 (64 * ks * bits w0 45 4)
  | _ =>
    if isVector op then
      let n := bits w0 1 8 + 1
      at_ 0 (if reduces op then 32 else 32 * n) ++ at_ 1 (32 * n) ++
        (if readsB op then at_ 2 (if bit w0 0 then 32 else 32 * n) else [])
    else []

/-- Whether an extent reaches outside its space: tile memory, or the data region from `ringRegion` to the end (R78, R134). -/
def outside (ringRegion : Nat) (e : Extent) : Bool :=
  match e.space with
  | .tm => decide (e.start < 0) || decide ((2 ^ 17 : Nat) < e.start + e.len)
  | .cb => decide (e.start < ringRegion) || decide ((2 ^ 20 : Nat) < e.start + e.len)

/-- Which fields a command writes, and which it reads; a field may be both (R148 to R170). -/
def writesField (op _w0 k : Nat) : Bool :=
  match op with
  | 0x10 => k == 1
  | 0x14 | 0x29 | 0x33 => k == 0
  | 0x20 => k == 1
  | 0x34 => k == 0
  | 0x5F => k == 2
  | 0x60 => k == 1
  | 0x61 | 0x63 => k == 1 || k == 2
  | 0x62 => k == 1
  | _ => isVector op && k == 0
def readsField (op w0 k : Nat) : Bool :=
  match op with
  | 0x5F => k != 2 || bit w0 11
  | 0x62 => k != 1
  | _ => if isVector op && k == 0 then readsD op else !writesField op w0 k

/-- Operand bits of word 0 that the layout leaves reserved, or that must be 0 (R133, R145 to R170). -/
def reservedBits (op w0 : Nat) : Bool :=
  let z (lo w : Nat) : Bool := bits w0 lo w != 0
  match op with
  | 0x00 | 0x02 => z 0 50
  | 0x03 => z 0 22
  | 0x11 => z 32 15
  | 0x12 => z 16 31
  | 0x13 => z 0 25
  | 0x20 | 0x21 => z 0 7
  | 0x28 | 0x29 => z 0 29
  | 0x30 =>
    let fp := bits w0 43 5
    if fp = 0x15 then z 0 2 else (match pairOf fp with | some p => !p.mx && z 0 11 | none => false)
  | 0x31 => z 0 46
  | 0x32 => z 0 35
  | 0x33 => z 46 2 || z 0 35
  | 0x34 => z 0 21
  | 0x35 => z 0 46
  | 0x5F => z 0 11
  | 0x60 => z 0 6
  | _ =>
    if isVector op then
      let rb (v : Nat) : Bool := bit v 12 && bits v 1 9 != 0
      rb (bits w0 35 13) || rb (bits w0 22 13) || (readsB op && rb (bits w0 9 13)) ||
        (!readsB op && (z 9 13 || z 0 1))
    else false

/-- Reserved bits of the second word of a fixed-long command (R141, R148). -/
def reservedLong (op w1 : Nat) : Bool :=
  match op with
  | 0x03 => bits w1 0 24 != 0
  | 0x11 => bits w1 48 16 != 0
  | _ => false

/-- A wait or signal of a sync word: valid, counter, count, and whether its bits break R136. -/
def waitBad (w lo : Nat) : Bool :=
  if bit w (lo + 13) then bits w lo 8 == 0 else bits w lo 13 != 0
def signalBad (w lo : Nat) : Bool :=
  if bit w (lo + 17) then bits w lo 8 == 0 else bits w lo 17 != 0

/-- The word that carries a command's waits and signals: the sync word, or word 0 of TOKEN (R135, R146). -/
def syncWord (op w0 w1 : Nat) : Nat := if op = 0x01 then w0 % 2 ^ 50 else if sxOf w0 && !fixedLong op then w1 else 0

/-- Waits of a sync word: counter and count (R56, R135). -/
def waitsOf (y : Nat) : List (Nat × Nat) :=
  (if bit y 63 then [(bits y 58 5, bits y 50 8)] else []) ++ (if bit y 49 then [(bits y 44 5, bits y 36 8)] else [])

/-- Signals of a sync word: target tile, counter, increment (R57, R135). -/
def signalsOf (y : Nat) : List (Nat × Nat × Nat) :=
  (if bit y 35 then [(bits y 31 4, bits y 26 5, bits y 18 8)] else []) ++
  (if bit y 17 then [(bits y 13 4, bits y 8 5, bits y 0 8)] else [])

/-- Index codes: 3 is reserved, and a code on a field the layout does not number (R143); LOOP and TOKEN have none. -/
def indexBad (op w0 : Nat) : Bool :=
  let n := (fieldsOf op w0).length
  (List.range 3).any (fun k => idxOf w0 k == 3 || (decide (n ≤ k) && idxOf w0 k != 0))

/-- RESERVED_FIELD (R132, R133, R136, R143, R144, R146, R158, R162). -/
def reservedFault (op w0 w1 : Nat) : Bool :=
  let y := syncWord op w0 w1
  reservedBits op w0 || indexBad op w0 || ((fixedLong op || op == 0x01) && sxOf w0) ||
  (fixedLong op && reservedLong op w1) ||
  waitBad y 50 || waitBad y 36 || signalBad y 18 || signalBad y 0

/-- A bank operand with more passes than the halves left (R163). -/
def bankLong (v passes : Nat) : Bool := bit v 12 && decide (2 < v % 2 + passes)

/-- FORMAT from field values (R156, R157, R160, R162 to R170). -/
def formatFault (op w0 w1 : Nat) : Bool :=
  match op with
  | 0x03 => bits w0 22 12 == 0 || bits w1 24 8 == 0
  | 0x30 => (pairOf (bits w0 43 5)).isNone
  | 0x31 | 0x32 => bits w0 46 2 == 3
  | 0x34 => decide (bits w0 21 6 < 8)
  | 0x35 => decide (bits w0 46 4 < 3) || decide (9 < bits w0 46 4)
  | 0x5F => bits w0 12 4 != 0 && (decide (bits w0 12 4 < 3) || decide (9 < bits w0 12 4))
  | 0x60 =>
    let sf := bits w0 46 4
    let df := bits w0 42 4
    decide (9 < sf) || decide (7 < df) || (sf == 9 && df != 0)
  | 0x61 => decide (4 < bits w0 45 3)
  | 0x62 => decide (4 < bits w0 47 3) || bits w0 45 2 == 3
  | 0x63 => decide (bits w0 45 4 < 3) || decide (9 < bits w0 45 4)
  | _ =>
    if isVector op then
      let n := bits w0 1 8 + 1
      bits w0 48 2 == 3 || (decide (0x5C ≤ op) && bits w0 48 2 == 2) ||
      (!reduces op && bankLong (bits w0 35 13) n) || bankLong (bits w0 22 13) n ||
      (readsB op && !bit w0 0 && bankLong (bits w0 9 13) n)
    else false

end Sys2Proof.Machine
end

