-- ==== Sys2Proof/Machine/TileUnits.lean ====
section
/-! DEFINITION. What each tile command does when its unit starts it (R138, R140): the effect on the tile's own stores, or the
fault of R172. Commands that reach Flial memory become transfers (R150 to R153). -/

namespace Sys2Proof.Machine

/-- Fault codes of R74. -/
def fTmem : Nat := 3
def fCbuf : Nat := 4
def fAccType : Nat := 0xC
def fFormat : Nat := 0xD
def fAlign : Nat := 0xE

/-- What a start gives: a fault code with its TIL_FAULT_INFO, or the tile afterwards. -/
abbrev TileRes := Except (Nat × Nat) Tile

/-- First byte of field k of a command. -/
def TCmd.byteOf (c : TCmd) (k : Nat) : Nat :=
  match (fieldsOf c.op c.w0)[k]? with
  | some f => (fieldByte f (c.off.getD k 0)).toNat
  | none => 0

def TCmd.byteInt (c : TCmd) (k : Nat) : Int :=
  match (fieldsOf c.op c.w0)[k]? with
  | some f => fieldByte f (c.off.getD k 0)
  | none => 0

def Tile.rdTm (x : Tile) (a : Nat) : Byte := fillRead x.fill x.mem a
def Tile.tmBytes (x : Tile) (a n : Nat) : List Byte := fillBytes x.fill x.mem a n
def Tile.tmNat (x : Tile) (a n : Nat) : Nat := leNat (x.tmBytes a n)
def Tile.putTm (x : Tile) (a : Nat) (bs : List Byte) : Tile := { x with mem := fillPut x.mem a bs }
def Cluster.cbBytes (k : Cluster) (a n : Nat) : List Byte := fillBytes k.fill k.buf a n
def Cluster.cbNat (k : Cluster) (a n : Nat) : Nat := leNat (k.cbBytes a n)
def Cluster.putCb (k : Cluster) (a : Nat) (bs : List Byte) : Cluster := { k with buf := fillPut k.buf a bs }

/-- Banks (R48): one with no type reads as zeros. -/
def Bank.empty : Bank := ⟨none, []⟩
def Tile.bank (x : Tile) (b : Nat) : Bank := SMap.get Bank.empty x.banks b
def Tile.setBank (x : Tile) (b : Nat) (k : Bank) : Tile := { x with banks := SMap.put Bank.empty x.banks b k }

def accTypeOf (t : Nat) : AccType := if t = 0 then .fp32 else if t = 1 then .int32 else .int48

/-! ### Address and shape registers (R147) -/

def Abr.zero : Abr := ⟨0, 0⟩
def Shape.unit : Shape := ⟨1, 1, 0, 0⟩
def Tile.abrOf (x : Tile) (i : Nat) : Abr := SMap.get Abr.zero x.abr i
def Tile.shapeOf (x : Tile) (i : Nat) : Shape := SMap.get Shape.unit x.shapes i

def startFill (c : TCmd) (x : Tile) : TileRes :=
  .ok (x.putTm (c.byteOf 0) ((List.range (16 * (bits c.w0 32 7 + 1))).flatMap (fun _ => leBytes 4 (bits c.w0 0 32))))

def startSetbase (c : TCmd) (x : Tile) : TileRes :=
  .ok { x with abr := SMap.put Abr.zero x.abr (bits c.w0 47 3) ⟨bits c.w1 0 48, signed 32 (bits c.w0 0 32)⟩ }

def startLdbase (c : TCmd) (k : Cluster) (x : Tile) : TileRes :=
  let a := bits c.w0 0 16 * 16
  .ok { x with abr := SMap.put Abr.zero x.abr (bits c.w0 47 3) ⟨k.cbNat a 6, signed 32 (k.cbNat (a + 8) 4)⟩ }

def startSetshape (c : TCmd) (x : Tile) : TileRes :=
  let sh : Shape := ⟨bits c.w0 36 12 + 1, bits c.w0 25 11 + 1, signed 32 (bits c.w1 32 32), signed 32 (bits c.w1 0 32)⟩
  .ok { x with shapes := SMap.put Shape.unit x.shapes (bits c.w0 48 2) sh }

/-! ### The cube (R46 to R50, R156 to R161) -/

def startAccz (c : TCmd) (x : Tile) : TileRes :=
  .ok (x.setBank (bits c.w0 48 2) ⟨some (accTypeOf (bits c.w0 46 2)), List.replicate 16 0⟩)

def startAccld (c : TCmd) (x : Tile) : TileRes :=
  let t := accTypeOf (bits c.w0 46 2)
  .ok (x.setBank (bits c.w0 48 2) ⟨some t, accLoad t (x.tmBytes (c.byteOf 0) (accBytes t))⟩)

def startAccst (c : TCmd) (x : Tile) : TileRes :=
  let b := x.bank (bits c.w0 48 2)
  match b.type with
  | none => .error (fAccType, 0)
  | some t =>
    if 2 ^ 17 < c.byteOf 0 + accBytes t then .error (fTmem, c.byteOf 0)
    else .ok (x.putTm (c.byteOf 0) (accStore t b.entries))

/-- Whether a slice CUBE fails its start checks (R159, R161). -/
def sliceBad (c : TCmd) (x : Tile) : Bool :=
  let pi := bits c.w0 7 4
  let pj := bits c.w0 3 4
  pi == 0 || pj == 0 || decide (x.planes < pi) || decide (x.planes < pj) || (bit c.w0 2 && (x.planes != 9 || x.sBlock.isNone))

/-- Whether a CUBE in adaptive mode is skipped (R128, R161). -/
def cubeSkipped (c : TCmd) (x : Tile) : Bool :=
  bits c.w0 43 5 == 0x15 && bit c.w0 2 && dialSkips (x.sBlock.getD 0) (bits c.w0 7 4) (bits c.w0 3 4)

def startCube (c : TCmd) (x : Tile) : TileRes :=
  match pairOf (bits c.w0 43 5) with
  | none => .error (fFormat, 0)
  | some p =>
    let bi := bits c.w0 48 2
    let b := x.bank bi
    if b.type ≠ some p.acc then .error (fAccType, 0)
    else if p.acc = .int48 ∧ sliceBad c x then .error (fFormat, 0)
    else if cubeSkipped c x then .ok x
    else
      let es := cubeSteps p x.rdTm (c.byteOf 0 / 64) (c.byteOf 1 / 64) (c.byteOf 2 / 64) (bits c.w0 33 10 + 1) 0 b.entries
      .ok (x.setBank bi { b with entries := es })

def startPlanes (c : TCmd) (x : Tile) : TileRes := .ok { x with planes := bits c.w0 46 4 }

/-- The four row headers and the four column headers from a HDR field (R160). -/
def Tile.headers (x : Tile) (a : Nat) : List Header := (List.range 8).map (fun i => Header.ofNat (x.tmNat (a + 4 * i) 4))

def startDial (c : TCmd) (x : Tile) : TileRes :=
  let hs := x.headers (c.byteOf 1)
  let sigma := hs.foldl (fun m h => max m h.spread) 0
  let (sb, capped) := dialSelect sigma (bits c.w0 21 6)
  .ok { (x.putTm (c.byteOf 0) (leBytes 4 (sb + (if capped then 16 else 0)))) with sBlock := some sb }

/-- Whether a DIAL is capped (R129). -/
def dialCapped (c : TCmd) (x : Tile) : Bool :=
  (dialSelect ((x.headers (c.byteOf 1)).foldl (fun m h => max m h.spread) 0) (bits c.w0 21 6)).2

/-! ### The vector unit (R162 to R165) -/

/-- A 32-byte vector of an operand field at pass `i`: from tile memory, or half a bank (R162, R163). -/
def Tile.vec (x : Tile) (c : TCmd) (k i : Nat) : List Byte :=
  match (fieldsOf c.op c.w0)[k]? with
  | some (Place.bank, v) =>
    let h := v % 2 + i
    (((x.bank (bits v 10 2)).entries.drop (8 * h)).take 8).flatMap (leBytes 4)
  | _ => x.tmBytes (c.byteOf k + 32 * i) 32

def Tile.putVec (x : Tile) (c : TCmd) (k i : Nat) (bs : List Byte) : Tile :=
  match (fieldsOf c.op c.w0)[k]? with
  | some (Place.bank, v) =>
    let h := v % 2 + i
    let b := x.bank (bits v 10 2)
    let new := (List.range 8).map (fun j => leNat ((bs.drop (4 * j)).take 4))
    x.setBank (bits v 10 2) { b with entries := b.entries.take (8 * h) ++ new ++ b.entries.drop (8 * h + 8) }
  | _ => x.putTm (c.byteOf k + 32 * i) bs

/-- The banks a vector command names (R50, R163), and whether one is not FP32 or the lanes are not (ACC_TYPE). -/
def vecBanks (c : TCmd) : List Nat :=
  (List.range 3).filterMap (fun k =>
    match (fieldsOf c.op c.w0)[k]? with
    | some (Place.bank, v) => if k = 2 && !readsB c.op then none else some (bits v 10 2)
    | _ => none)

/-- One pass of a vector operation. A BCAST B, `b0`, was read once, before the first pass (R162). -/
def vecPass (c : TCmd) (b0 : List Byte) (x : Tile) (i : Nat) : Tile :=
  let lf := bits c.w0 48 2
  let bl := lanesOf lf (if bit c.w0 0 then b0 else x.vec c 2 i)
  let bl := if bit c.w0 0 then List.replicate (32 / lfBytes lf) (bl.headD 0) else bl
  x.putVec c 0 i (bytesOfLanes lf (passOp c.op lf (lanesOf lf (x.vec c 1 i)) bl (lanesOf lf (x.vec c 0 i))))

/-- VRSUM and VRMAX: lane 0 of D takes the reduction of every pass (R164). -/
def vecReduce (c : TCmd) (x : Tile) (n : Nat) : Tile :=
  let lf := bits c.w0 48 2
  let d := lanesOf lf (x.vec c 0 0)
  let r := (List.range n).foldl (fun acc i => reduceOp c.op lf acc (lanesOf lf (x.vec c 1 i))) (d.headD 0)
  x.putVec c 0 0 (bytesOfLanes lf (r :: d.tail))

def startVector (c : TCmd) (x : Tile) : TileRes :=
  let bs := vecBanks c
  if (!bs.isEmpty && bits c.w0 48 2 != 0) || bs.any (fun b => (x.bank b).type != some .fp32) then .error (fAccType, 0)
  else
    let n := bits c.w0 1 8 + 1
    .ok (if reduces c.op then vecReduce c x n else (List.range n).foldl (vecPass c (x.vec c 2 0)) x)

def startVrcmb (c : TCmd) (x : Tile) : TileRes :=
  let diag := c.byteOf 0
  let f := bits c.w0 12 4
  let s := if f = 0 then x.tmNat diag 4 % 16 else f
  if s < 3 ∨ 9 < s then .error (fFormat, 0)
  else if 2 ^ 17 < diag + 64 + 128 * s then .error (fTmem, diag + 64)
  else
    let hs := x.headers (c.byteOf 1)
    let dst := c.byteOf 2
    let old := (List.range 16).map (fun e => fp64.decode (x.tmNat (dst + 8 * e) 8))
    .ok (x.putTm dst ((List.range 16).flatMap (fun e =>
      let ds := (List.range s).map (fun i => signed 64 (x.tmNat (diag + 64 + 128 * i + 8 * e) 8))
      leBytes 8 (recombine (hs.getD (e / 4) ⟨false, true, 0, 0⟩) (hs.getD (4 + e % 4) ⟨false, true, 0, 0⟩) ds
        (if bit c.w0 11 then old.getD e .nan else .fin false 0 0)))))

/-! ### Conversions (R166 to R170) -/

/-- Advance the generator for one pass if the command rounds stochastically (R108). -/
def Tile.spin (x : Tile) (sr : Bool) : Tile := if sr then { x with gen := genPass x.gen } else x
def Tile.rnd (x : Tile) (sr : Bool) (lane : Nat) : Rnd := if sr then .sr (genLane x.gen lane) else .rne

def cvtPass (c : TCmd) (x : Tile) (i : Nat) : Tile :=
  let sf := bits c.w0 46 4
  let df := bits c.w0 42 4
  let n := cvtPassElems sf df
  let x := x.spin (bit c.w0 41)
  let es := (List.range n).map (fun e =>
    cvtElem sf df (x.rnd (bit c.w0 41) e) (bit c.w0 40) (packedElem x.rdTm (c.byteOf 0) (cvtBits sf) (n * i + e)))
  x.putTm (c.byteOf 1 + n * i * cvtBits df / 8) (packBytes (cvtBits df) es)

def startCvt (c : TCmd) (x : Tile) : TileRes := .ok ((List.range (bits c.w0 6 10 + 1)).foldl (cvtPass c) x)

/-- One block of CVTMX: its passes advance the generator before their lanes round (R107, R169). -/
def cvtmxBlock (c : TCmd) (x : Tile) (b : Nat) : Tile :=
  let sf := bits c.w0 48 2
  let el := bits c.w0 45 3
  let sr := bit c.w0 44
  let lanes := if sf = 0 then 8 else 16
  let vs := (List.range 32).map (fun e => cvtSrc sf (packedElem x.rdTm (c.byteOf 0) (cvtBits sf) (32 * b + e)))
  let xs := (List.range (32 / lanes)).foldl (fun (acc : List Tile × Tile) _ => let y := acc.2.spin sr; (acc.1 ++ [y], y)) ([], x)
  let es := mxBlock el (fun e => (xs.1.getD (e / lanes) x).rnd sr (e % lanes)) vs
  (xs.2.putTm (c.byteOf 1 + b * 4 * mxBits el) (packBytes (mxBits el) es)).putTm (c.byteOf 2 + 8 * b) (leBytes 1 (mxScale el vs))

def startCvtmx (c : TCmd) (x : Tile) : TileRes := .ok ((List.range (bits c.w0 0 3 + 1)).foldl (cvtmxBlock c) x)

def cvtxmBlock (c : TCmd) (x : Tile) (b : Nat) : Tile :=
  let el := bits c.w0 47 3
  let df := if bits c.w0 45 2 = 0 then 0 else if bits c.w0 45 2 = 1 then 1 else 3
  let sc := (x.rdTm (c.byteOf 2 + 8 * b)).toNat
  let f := (cvtFmt df).getD fp64
  let es := (List.range 32).map (fun e =>
    f.convert .rne (bit c.w0 44) (mxValue el sc (packedElem x.rdTm (c.byteOf 0) (mxBits el) (32 * b + e))))
  x.putTm (c.byteOf 1 + b * 4 * cvtBits df) (packBytes (cvtBits df) es)

def startCvtxm (c : TCmd) (x : Tile) : TileRes := .ok ((List.range (bits c.w0 0 3 + 1)).foldl (cvtxmBlock c) x)

/-- The sixteen-element slab rows of a plane: element e of row r at position r × 16 + e (R158, R170). -/
def startSlice (c : TCmd) (x : Tile) : TileRes :=
  let fp32src := bit c.w0 49
  let sf := if fp32src then 1 else 0
  let s := bits c.w0 45 4
  let ks := bits c.w0 24 9 + 1
  let k := 16 * ks
  let rows := (List.range 4).map (fun r =>
    (List.range k).map (fun e => cvtSrc sf (packedElem x.rdTm (c.byteOf 0) (cvtBits sf) (r * k + e))))
  let hs := rows.map sliceHeader
  let x1 := x.putTm (c.byteOf 1) (hs.flatMap (fun h => leBytes 4 h.toNat))
  .ok ((List.range s).foldl (fun x i => (List.range ks).foldl (fun (x : Tile) sl =>
    x.putTm (c.byteOf 2 + 64 * (i * ks + sl)) ((List.range 4).flatMap (fun r => (List.range 16).flatMap (fun e =>
      leBytes 1 (sliceElem (hs.getD r ⟨false, true, 0, 0⟩) s (i + 1) ((rows.getD r []).getD (16 * sl + e) .nan)))))) x) x1)

/-! ### Data movement (R149 to R153) -/

/-- Address of an FM field: BASE + 64 × field + the loop offset of the base register, in 48 bits (R143, R149; log entry 15). -/
def fmAddr (b : Abr) (field mul : Nat) (add : Int) : Nat := unsigned 48 ((b.base : Int) + 64 * field + mul * b.step + add)

/-- The rows and lines of a MOVE: for each line the offset from the source and from the destination field, and its place in the
transfer (R150). -/
def Shape.lines (sh : Shape) : List (Int × Int × Nat) :=
  (List.range sh.rows).flatMap (fun (r : Nat) => (List.range sh.rowLines).map (fun (i : Nat) =>
    ((r : Int) * sh.srcStride + 64 * i, (r : Int) * sh.dstStride + 64 * i, 64 * (r * sh.rowLines + i : Nat))))

/-- The extents of a MOVE in the tile's own spaces, row by row (R150). -/
def moveExtents (c : TCmd) (sh : Shape) : List Extent :=
  let fs := fieldsOf c.op c.w0
  (List.range sh.rows).flatMap (fun r =>
    (List.range 2).filterMap (fun k =>
      match fs[k]? with
      | some (Place.tm u, v) => some ⟨k, .tm, fieldByte (.tm u, v) (c.off.getD k 0) + r * (if k = 0 then sh.srcStride else sh.dstStride), 64 * sh.rowLines⟩
      | some (Place.cb u, v) => some ⟨k, .cb, fieldByte (.cb u, v) (c.off.getD k 0) + r * (if k = 0 then sh.srcStride else sh.dstStride), 64 * sh.rowLines⟩
      | _ => none))

/-- Whether a MOVE's register values are misaligned for the use it makes of them (R147). -/
def moveAlignBad (c : TCmd) (b : Abr) (sh : Shape) : Bool :=
  let fm (k : Nat) : Bool := match (fieldsOf c.op c.w0)[k]? with | some (Place.fm, _) => true | _ => false
  let stepUsed := (List.range 2).any (fun k => fm k && idxOf c.w0 k != 0)
  ((fm 0 || fm 1) && b.base % 32 != 0) || (stepUsed && b.step % 64 != 0) ||
  (decide (1 < sh.rows) && (sh.srcStride % 64 != 0 || sh.dstStride % 64 != 0))

/-- A line of a transfer, cut at a 4 KiB boundary into two halves (R151, R316). -/
def linePieces (va : Nat) (off trOff : Nat) : List Piece :=
  if va % 4096 = 4064 then [⟨va, 32, off, trOff⟩, ⟨unsigned 48 (va + 32), 32, off + 32, trOff + 32⟩] else [⟨va, 64, off, trOff⟩]

/-- The index of row n of a list (R153). -/
def rowIndex (c : TCmd) (x : Tile) (n : Nat) : Nat :=
  let w := if bit c.w0 7 then 8 else 4
  x.tmNat (c.byteOf 0 + w * n) w

/-- The sectors of a GATHER or SCATTER, skipped rows left out (R153). -/
def sectorPieces (c : TCmd) (x : Tile) : List Piece :=
  let rs := bits c.w0 8 6 + 1
  let b := x.abrOf (bits c.w0 47 3)
  let ones := if bit c.w0 7 then 2 ^ 64 - 1 else 2 ^ 32 - 1
  (List.range (bits c.w0 14 10 + 1)).flatMap (fun n =>
    let ix := rowIndex c x n
    if ix = ones then [] else
      (List.range rs).map (fun j =>
        ⟨fmAddr b 0 (c.mul.getD 2 0) (ix * rs * 32 + 32 * j : Nat), 32, c.byteOf 1 + (n * rs + j) * 32, (n * rs + j) * 32⟩))

def gatherAlignBad (c : TCmd) (b : Abr) : Bool :=
  b.base % 32 != 0 || (idxOf c.w0 2 != 0 && b.step % 32 != 0)

end Sys2Proof.Machine
end

