-- ==== Sys2Proof/Machine/Tiles.lean ====
section
/-! DEFINITION. A tile at work: fetch, field checks and issue (R69, R70, R137), start on a unit with the hazards of R55 (R138,
R139), completion, signals and loops (R57, R71, R136, R142), and faults (R74 to R76). -/

namespace Sys2Proof.Machine

/-! ### The unit a tile works for -/

def State.unit? (s : State) (uid : Nat) : Option WUnit := s.units.find? (fun u => u.id == uid)
def State.updUnit (s : State) (uid : Nat) (f : WUnit → WUnit) : State :=
  { s with units := s.units.map (fun u => if u.id == uid then f u else u) }
def State.unitOfTile (s : State) (t : Nat) : Option Nat := (s.clu (t / 16)).unit

/-- The first cause that stops a unit is its ending (R215). -/
def State.endUnit (s : State) (uid : Nat) (e : Ending) : State :=
  s.updUnit uid (fun u => if u.ending.isSome || u.done then u else { u with ending := some e })

/-- Whether a tile is in the running unit's mask. -/
def State.masked (s : State) (t : Nat) : Bool := bit (s.rdClu R.CLU_STATUS_TILE_MASK (t / 16)) (t % 16)

/-- A tile that may issue: its cluster is RUNNING and its state is one of ISSUING to WAIT_UNIT (R92, R95). -/
def State.issues (s : State) (t : Nat) : Bool :=
  let st := s.rdTil R.TIL_STATUS_STATE t
  s.rdClu R.CLU_STATUS_STATE (t / 16) == 2 && s.masked t && decide (1 ≤ st) && decide (st ≤ 6)

/-- Stop a tile: nothing more issues, started commands stop; requests already issued complete (R75, R316). -/
def State.stopTile (s : State) (t st : Nat) : State :=
  let s := s.setTile t { s.tile t with cmds := [], loops := [] }
  let s := { s with
    xfers := (s.xfers.map (fun (x : Xfer) => if x.tile == t then { x with pieces := [], faulted := true } else x)).filter (fun x => x.tile != t || x.inflight != 0) }
  (s.dropMisses (fun m => m.stream == t)).wrTil R.TIL_STATUS_STATE t st

/-- A tile fault (R74 to R76): recorded in the tile, and in the cluster if it is the first; the unit ends TILE_FAULT (R216). -/
def State.tileFault (s : State) (t code op index info : Nat) : State :=
  let s := s.stopTile t 9
  let s := s.wrs (tilDie t) (tilIx t) [(R.TIL_FAULT_CODE, code), (R.TIL_FAULT_OPCODE, op), (R.TIL_FAULT_INDEX, index), (R.TIL_FAULT_INFO, info)]
  let c := t / 16
  let s := if s.rdClu R.CLU_FAULT_VALID c = 1 then s else
    s.wrs (cluDie c) (cluIx c) [(R.CLU_FAULT_VALID, 1), (R.CLU_FAULT_TILE, t % 16), (R.CLU_FAULT_CODE, code), (R.CLU_FAULT_INDEX, index)]
  match s.unitOfTile t with
  | some uid => s.endUnit uid ⟨3, op * 2 ^ 36 + index * 2 ^ 24 + code * 2 ^ 16 + t, info⟩
  | none => s

/-- A cause that is no tile fault reaches a tile: it shows FAULTED with code NONE, and the unit ends (R75). -/
def State.tileHit (s : State) (t : Nat) (e : Ending) : State :=
  let s := s.stopTile t 9
  let s := s.wrs (tilDie t) (tilIx t) [(R.TIL_FAULT_CODE, 0), (R.TIL_FAULT_OPCODE, 0), (R.TIL_FAULT_INDEX, 0), (R.TIL_FAULT_INFO, 0)]
  match s.unitOfTile t with
  | some uid => s.endUnit uid e
  | none => s

/-! ### Tokens (R56 to R59) -/

def Tile.token (x : Tile) (k : Nat) : Nat := SMap.get 0 x.tok k
def Tile.setToken (x : Tile) (k v : Nat) : Tile := { x with tok := SMap.put 0 x.tok k v }

/-- What a counter will hold once the signals on their way to its unit have arrived (log entry 16). -/
def State.tokenDue (s : State) (t k : Nat) : Nat :=
  (s.sigs.filter (fun g => g.tile == t && g.tok == k && g.uid == s.unitOfTile t)).foldl (fun n g => n + g.inc) ((s.tile t).token k)

/-- Apply a command's signals: each goes on its way, but for one that would take its counter above 255, which faults the
signalling tile (R58, R136). -/
def State.signal (s : State) (t op index : Nat) (sg : List (Nat × Nat × Nat)) : State :=
  let r := sg.foldl (fun (acc : State × Option Nat) g =>
    let dst := t / 16 * 16 + g.1
    if 255 < acc.1.tokenDue dst g.2.1 + g.2.2 then (acc.1, acc.2.orElse (fun _ => some g.2.1))
    else ({ acc.1 with sigs := acc.1.sigs ++ [⟨dst, g.2.1, g.2.2, acc.1.unitOfTile t⟩] }, acc.2)) (s, none)
  match r.2 with
  | some k => r.1.tileFault t 5 op index k
  | none => r.1

/-! ### Channels (R61 to R67) -/

def ChanOut.none_ : ChanOut := ⟨none, 0, 0⟩
def ChanIn.none_ : ChanIn := ⟨0, 0, 0, 0, 0, 0, none⟩
def Tile.outCh (x : Tile) (k : Nat) : ChanOut := SMap.get ChanOut.none_ x.outs k
def Tile.inCh (x : Tile) (k : Nat) : ChanIn := SMap.get ChanIn.none_ x.ins k
def Tile.setOut (x : Tile) (k : Nat) (c : ChanOut) : Tile := { x with outs := SMap.put ChanOut.none_ x.outs k c }
def Tile.setIn (x : Tile) (k : Nat) (c : ChanIn) : Tile := { x with ins := SMap.put ChanIn.none_ x.ins k c }

/-! ### Field checks (R137, R172) -/

/-- Whether the entry that ends a loop body is the final entry of a command, judged from the program: past its end there is none (R142; log
entry 13). -/
def endsCommand (code : List Byte) (len last : Nat) : Nat → Nat → Bool
  | 0, _ => false
  | n + 1, k =>
    if len ≤ k then false
    else
      let e := k + entriesOf (leNat ((code.drop (8 * k)).take 8)) - 1
      if e = last then true else if last < e then false else endsCommand code len last n (e + 1)

/-- The FORMAT checks of R142 for a LOOP: the depth, and where its body ends. -/
def loopFault (x : Tile) (w0 : Nat) : Bool :=
  let last := x.head + 1 + bits w0 22 12
  decide (4 ≤ x.loops.length) || (match x.loops with | f :: _ => decide (f.last < last) | [] => false) ||
  !endsCommand x.code x.codeLen last (bits w0 22 12 + 1) (x.head + 2)

/-- The first failed field check of a command, in the order of the fault codes (R74, R172; log entry 17): code and
TIL_FAULT_INFO. -/
def issueFault (mask ringRegion : Nat) (x : Tile) (op w0 w1 : Nat) (off : List Int) : Option (Nat × Nat) :=
  let y := syncWord op w0 w1
  let ws := waitsOf y
  let ch := bits w0 47 3
  let n := bits w0 29 7
  if !knownOp op then some (1, 0)
  else if reservedFault op w0 w1 then some (2, 0)
  else match (extentsOf op w0 off).find? (fun e => e.space == .tm && outside ringRegion e) with
  | some e => some (3, unsigned 32 e.start)
  | none =>
  match (extentsOf op w0 off).find? (fun e => e.space == .cb && outside ringRegion e) with
  | some e => some (4, unsigned 32 e.start)
  | none =>
  if ws.length = 2 ∧ (ws.getD 0 (0, 0)).1 = (ws.getD 1 (0, 0)).1 then some (6, (ws.getD 0 (0, 0)).1)
  else match (signalsOf y).find? (fun g => !bit mask g.1) with
  | some g => some (7, g.2.1)
  | none =>
  if op = 0x28 ∧ (x.outCh ch).bound = none then some (8, ch)
  else if op = 0x29 ∧ (x.inCh ch).slots = 0 then some (8, ch)
  else if (op = 0x28 ∨ op = 0x29) ∧ (n = 0 ∨ 64 < n ∨ (if op = 0x28 then (x.outCh ch).start else (x.inCh ch).slots) < n) then some (9, ch)
  else if op = 0x03 ∧ x.ringSize - 64 < bits w0 22 12 then some (0xB, 0)
  else if formatFault op w0 w1 ∨ (op = 0x03 ∧ loopFault x w0) then some (0xD, 0)
  else none

/-! ### Starting a command (R138 to R140) -/

/-- The banks a command uses (R50). -/
def banksOf (c : TCmd) : List Nat :=
  if c.op = 0x30 ∨ c.op = 0x31 ∨ c.op = 0x32 ∨ c.op = 0x33 then [bits c.w0 48 2]
  else if isVector c.op then vecBanks c else []

/-- Extents a command touches, with those that depend on a register (R172). -/
def startExtents (x : Tile) (c : TCmd) : List Extent :=
  if c.op = 0x10 then moveExtents c (x.shapeOf (bits c.w0 45 2))
  else if c.op = 0x33 then
    [⟨0, .tm, c.byteOf 0, match (x.bank (bits c.w0 48 2)).type with | some t => accBytes t | none => 64⟩]
  else if c.op = 0x5F ∧ bits c.w0 12 4 = 0 then
    extentsOf c.op c.w0 c.off ++ [⟨0, .tm, c.byteOf 0 + 64, 128 * (x.tmNat (c.byteOf 0) 4 % 16)⟩]
  else extentsOf c.op c.w0 c.off

def rangesOf (p : Nat → Bool) (es : List Extent) : List Range :=
  (es.filter (fun e => p e.field)).map (fun e => ⟨e.space, e.start.toNat, e.len⟩)

/-- The receive ring a RECV reads, and nothing for others (R64). -/
def recvRange (x : Tile) (c : TCmd) : List Range :=
  if c.op = 0x29 then let i := x.inCh (bits c.w0 47 3); [⟨.tm, 128 * i.base, 128 * i.slots⟩] else []

def meet (a b : Range) : Bool := a.space == b.space && decide (a.start < b.start + b.len) && decide (b.start < a.start + a.len)
def overlap (a b : Range) : Range := ⟨a.space, max a.start b.start, min (a.start + a.len) (b.start + b.len) - max a.start b.start⟩

/-- Give a byte range free contents (R55; log entry 18). -/
def State.freeRange (s : State) (t : Nat) (r : Range) : State :=
  let bs := s.freeBytes r.len
  let s := s.useFree r.len
  match r.space with
  | .tm => s.setTile t ((s.tile t).putTm r.start bs)
  | .cb => s.setClu (t / 16) ((s.clu (t / 16)).putCb r.start bs)

/-- The commands in flight that a starting command is not ordered against: those on other units of its tile, and, for the
cluster buffer, those of the cluster's other tiles (R55, R139). -/
def State.rivals (s : State) (t : Nat) (c : TCmd) : List (Nat × TCmd) :=
  (List.range 16).flatMap (fun i =>
    let u := t / 16 * 16 + i
    ((s.tile u).cmds.filter (fun d => d.started && (u != t || (d.unit != c.unit && d.seq != c.seq)))).map (fun d =>
      if u = t then (u, d) else
        (u, { d with reads := d.reads.filter (fun r => r.space == .cb), writes := d.writes.filter (fun r => r.space == .cb) })))

/-- What a SEND or an outbound transfer has read and not delivered becomes free (R55): its slots on their way, and the data of its requests. -/
def State.spoilOut (s : State) (u : Nat) (d : TCmd) : State :=
  let mine (f : SlotFlit) : Bool := d.op == 0x28 && f.src == u && f.seq == d.seq
  let xs := (s.xfers.filter (fun (x : Xfer) => x.tile == u && x.seq == d.seq && x.write)).map (fun (x : Xfer) => x.id)
  let ours (r : Req) : Bool := (r.stage == .held || r.stage == .sent || r.stage == .waiting || r.stage == .entry) &&
    (match r.owner with | .xfer x => xs.contains x | _ => false)
  let n := s.slotFlits.length
  { s with
    slotFlits := s.slotFlits.zipIdx.map (fun (p : SlotFlit × Nat) =>
      if mine p.1 then { p.1 with data := (List.range 128).map (fun i => BitVec.ofNat 8 (Config.freeNat (s.free + 128 * p.2 + i))) } else p.1)
    reqs := s.reqs.zipIdx.map (fun (p : Req × Nat) =>
      if ours p.1 then { p.1 with data := (List.range p.1.data.length).map (fun i => BitVec.ofNat 8 (Config.freeNat (s.free + 128 * n + 256 * p.2 + i))) } else p.1)
    free := s.free + 128 * n + 256 * s.reqs.length }

/-- Bytes written by one and touched by the other become free, and so does what a rival computes from them (R55). -/
def State.hazards (s : State) (t : Nat) (c : TCmd) : State :=
  s.each (s.rivals t c) (fun s p =>
    let (u, d) := p
    let s := s.each c.reads (fun s r => s.each (d.writes.filter (meet r)) (fun s w => s.freeRange t (overlap r w)))
    let s := s.each c.writes (fun s r => s.each (d.writes.filter (meet r)) (fun s w => s.freeRange t (overlap r w)))
    if c.writes.any (fun r => d.reads.any (meet r) || d.writes.any (meet r)) then
      let s := (s.each d.writes (fun s w => s.freeRange u w)).spoilOut u d
      let x := s.tile u
      let x := { x with cmds := x.cmds.map (fun (e : TCmd) => if e.seq == d.seq then { e with spoiled := true } else e) }
      let x := (banksOf d).foldl (fun (x : Tile) b =>
        if d.op = 0x33 then x else
          let k := x.bank b
          x.setBank b { k with entries := (List.range k.entries.length).map (fun i => Config.freeNat (s.free + i) % 2 ^ 32) }) x
      (s.setTile u x).useFree 16
    else s)

/-- Copy one line between a tile's own spaces. -/
def State.copyLine (s : State) (t : Nat) (src dst : Space) (a b : Nat) : State :=
  let bs := match src with | .tm => (s.tile t).tmBytes a 64 | .cb => (s.clu (t / 16)).cbBytes a 64
  match dst with
  | .tm => s.setTile t ((s.tile t).putTm b bs)
  | .cb => s.setClu (t / 16) ((s.clu (t / 16)).putCb b bs)

/-- The spaces of DIR (R149). -/
def dirSrc (d : Nat) : Option Space := if d = 0 ∨ d = 5 ∨ d = 7 then some .cb else if d = 2 ∨ d = 4 then none else some .tm
def dirDst (d : Nat) : Option Space := if d = 1 ∨ d = 4 ∨ d = 7 then some .cb else if d = 3 ∨ d = 5 then none else some .tm

abbrev StartRes := Except (Nat × Nat) State

/-- Open a transfer (R150 to R153); one without a request is complete at once. -/
def State.openXfer (s : State) (t : Nat) (c : TCmd) (write narrow : Bool) (sp : Space) (ps : List Piece) : State :=
  if ps.isEmpty then s else
    { s with xfers := s.xfers ++ [⟨s.nextId, t, c.seq, write, narrow, sp, ps, 0, false⟩], nextId := s.nextId + 1 }

/-- MOVE (R149, R150): range checks over every row, then ALIGN (R172); then line by line, or a transfer. -/
def State.startMove (s : State) (t : Nat) (c : TCmd) : StartRes :=
  let x := s.tile t
  let sh := x.shapeOf (bits c.w0 45 2)
  let b := x.abrOf (bits c.w0 42 3)
  let dir := bits c.w0 47 3
  let reg := (s.clu (t / 16)).ringRegion
  let bad := (moveExtents c sh).filter (outside reg)
  match (bad.find? (fun e => e.space == .tm)).orElse (fun _ => bad.head?) with
  | some e => .error (if e.space = .tm then fTmem else fCbuf, unsigned 32 e.start)
  | none =>
    if moveAlignBad c b sh then .error (fAlign, 0)
    else match dirSrc dir, dirDst dir with
    | some sp, some dp =>
      .ok (s.each sh.lines (fun s l => s.copyLine t sp dp (c.byteInt 0 + l.1).toNat (c.byteInt 1 + l.2.1).toNat))
    | none, some dp =>
      .ok (s.openXfer t c false false dp (sh.lines.flatMap (fun l =>
        linePieces (fmAddr b (bits c.w0 20 22) (c.mul.getD 0 0) l.1) (c.byteInt 1 + l.2.1).toNat l.2.2)))
    | some sp, none =>
      .ok (s.openXfer t c true false sp (sh.lines.flatMap (fun l =>
        linePieces (fmAddr b (bits c.w0 0 20) (c.mul.getD 1 0) l.2.1) (c.byteInt 0 + l.1).toNat l.2.2)))
    | none, none => .ok s

/-- GATHER and SCATTER (R152, R153). -/
def State.startSectors (s : State) (t : Nat) (c : TCmd) (write : Bool) : StartRes :=
  let x := s.tile t
  if gatherAlignBad c (x.abrOf (bits c.w0 47 3)) then .error (fAlign, 0)
  else .ok (s.openXfer t c write true .tm (sectorPieces c x))

/-- The partition of the unit a tile works for. -/
def State.partOfTile (s : State) (t : Nat) : Nat := match (s.unitOfTile t).bind s.unit? with | some u => u.part | none => 0

/-- SEND: the slots leave, read from tile memory (R63), on the path of the channel and with their partition's generation (R173, R329). -/
def State.startSend (s : State) (t : Nat) (c : TCmd) : StartRes :=
  let x := s.tile t
  let p := s.partOfTile t
  match (x.outCh (bits c.w0 47 3)).bound, s.unitOfTile t with
  | some (dt, j), some uid =>
    .ok { s with slotFlits := s.slotFlits ++ (List.range (bits c.w0 29 7)).map (fun i =>
      ⟨dt, j, uid, t, bits c.w0 47 3, c.seq, p, s.rd R.PAR_STATUS_GEN 0 [p], s.tilePath t dt, x.tmBytes (c.byteOf 0 + 128 * i) 128⟩) }
  | _, _ => .ok s

/-- RECV: the oldest slots are copied to the destination (R64). Where the destination overlaps them, every slot is read as it stood before the
copy (DESIGN CHOICE, log entry 112). -/
def State.startRecv (s : State) (t : Nat) (c : TCmd) : StartRes :=
  let x := s.tile t
  let j := bits c.w0 47 3
  let i := x.inCh j
  let n := bits c.w0 29 7
  let x1 := (List.range n).foldl (fun (y : Tile) k =>
    y.putTm (c.byteOf 0 + 128 * k) (x.tmBytes (128 * (i.base + (i.rd + k) % i.slots)) 128)) x
  .ok (s.setTile t (x1.setIn j { i with rd := (i.rd + n) % i.slots }))

/-- A tile-only effect lifted to the state. -/
def State.onTile (s : State) (t : Nat) (r : TileRes) : StartRes :=
  match r with
  | .ok x => .ok (s.setTile t x)
  | .error e => .error e

/-- The effect at its start of a command that changes the tile's own stores alone; `k` is the tile's cluster. -/
def tileEffect (c : TCmd) (k : Cluster) (x : Tile) : TileRes :=
  match c.op with
  | 0x11 => startSetbase c x
  | 0x12 => startLdbase c k x
  | 0x13 => startSetshape c x
  | 0x14 => startFill c x
  | 0x30 => startCube c x
  | 0x31 => startAccz c x
  | 0x32 => startAccld c x
  | 0x33 => startAccst c x
  | 0x34 => startDial c x
  | 0x35 => startPlanes c x
  | 0x5F => startVrcmb c x
  | 0x60 => startCvt c x
  | 0x61 => startCvtmx c x
  | 0x62 => startCvtxm c x
  | 0x63 => startSlice c x
  | _ => if isVector c.op then startVector c x else .ok x

/-- DIAL counts a capped block against the unit (R129). -/
def State.countCapped (s : State) (t : Nat) (c : TCmd) : State :=
  if c.op = 0x34 ∧ dialCapped c (s.tile t) then
    let k := s.clu (t / 16)
    s.setClu (t / 16) { k with capped := k.capped + 1 }
  else s

/-- The effect of a command at its start. -/
def State.startEffect (s : State) (t : Nat) (c : TCmd) : StartRes :=
  match c.op with
  | 0x10 => s.startMove t c
  | 0x20 => s.startSectors t c false
  | 0x21 => s.startSectors t c true
  | 0x28 => s.startSend t c
  | 0x29 => s.startRecv t c
  | _ => (s.countCapped t c).onTile t (tileEffect c (s.clu (t / 16)) (s.tile t))

/-- Steps and passes a command adds to TIL_PERF_CUBE and TIL_PERF_VEC (R94, R168, R169, R171); SLICE's passes are not stated
and come from a free value (log entry 19). -/
def State.perf (s : State) (t : Nat) (c : TCmd) (before : Tile) : State :=
  if s.rdClu R.CLU_CTRL_PERF_ENABLE (t / 16) = 0 then s else
  let add (f : Fld) (n : Nat) := s.roll f (tilDie t) (tilIx t) n
  if c.op = 0x30 then (if cubeSkipped c before then s else add R.TIL_PERF_CUBE (bits c.w0 33 10 + 1))
  else if isVector c.op then add R.TIL_PERF_VEC (bits c.w0 1 8 + 1)
  else if c.op = 0x60 then add R.TIL_PERF_VEC (bits c.w0 6 10 + 1)
  else if c.op = 0x61 then add R.TIL_PERF_VEC ((bits c.w0 0 3 + 1) * (if bits c.w0 48 2 = 0 then 4 else 2))
  else if c.op = 0x62 then add R.TIL_PERF_VEC ((bits c.w0 0 3 + 1) * (if bits c.w0 45 2 = 0 then 8 else 2))
  else if c.op = 0x5F then add R.TIL_PERF_VEC (4 * (if bits c.w0 12 4 = 0 then before.tmNat (c.byteOf 0) 4 % 16 else bits c.w0 12 4))
  else if c.op = 0x63 then (s.roll R.TIL_PERF_VEC (tilDie t) (tilIx t) (Config.freeNat s.free)).useFree 1
  else s

/-- A command as its unit starts it, with the bytes it reads and writes (R55). -/
def TCmd.begin (c : TCmd) (x : Tile) : TCmd :=
  let es := startExtents x c
  { c with started := true, reads := rangesOf (readsField c.op c.w0) es ++ recvRange x c,
           writes := rangesOf (writesField c.op c.w0) es }

/-- Start a command that may start. -/
def State.start (s : State) (t : Nat) (c : TCmd) : State :=
  let x := s.tile t
  let d := c.begin x
  let s1 := s.setTile t { x with cmds := x.cmds.map (fun e => if e.seq == c.seq then d else e) }
  let s2 := s1.hazards t d
  match s2.startEffect t d with
  | .error (code, info) => s2.tileFault t code c.op c.index info
  | .ok s3 =>
    let s4 := s3.perf t d (s2.tile t)
    s4.each (s4.rivals t d) (fun s p => s.each d.writes (fun s r => s.each (p.2.writes.filter (meet r)) (fun s w => s.freeRange t (overlap r w))))

/-- Whether a command may start now (R138, R139): its unit has started every earlier command, its banks are clear (R50), and the
data mover has issued its last request and has no read outstanding into what this command reads. -/
def State.canStart (s : State) (t : Nat) (c : TCmd) : Bool :=
  let x := s.tile t
  let earlier := x.cmds.filter (fun d => decide (d.seq < c.seq))
  !c.started && earlier.all (fun d => d.unit != c.unit || d.started) &&
  earlier.all (fun d => (banksOf d).all (fun b => !(banksOf c).contains b)) &&
  (c.unit != 4 || (s.xfers.all (fun f => f.tile != t || f.pieces.isEmpty) &&
    earlier.all (fun d => d.unit != 4 || s.xfers.all (fun f => f.tile != t || f.seq != d.seq || f.write) ||
      (rangesOf (readsField c.op c.w0) (startExtents x c)).all (fun r => d.writes.all (fun w => !meet r w)))))

/-! ### Issue (R137) -/

/-- The outermost open loop body of 32 entries or fewer, which the prefetch buffer keeps whole (R142). -/
def Tile.replayed (x : Tile) (e : Nat) : Bool :=
  match (x.loops.filter (fun f => decide (f.last < f.first + 32))).getLast? with
  | some f => decide (f.first ≤ e) && decide (e ≤ f.last)
  | none => false

/-- Fetch the line of an entry into the prefetch buffer of 32 entries (R69). What no longer fits goes in the order it came, but a body that
replays from the buffer stays (R142). -/
def Tile.fetch (x : Tile) (b : Cluster) (k : Nat) : Tile :=
  if (SMap.look x.prefetch k).isSome || decide (x.written ≤ k) then x else
    let line := ((List.range 8).map (· + k / 8 * 8)).filter (fun i => decide (i < x.written))
    let ents := line.map (fun i => (i, b.cbNat (64 * x.ringBase + 8 * (i % x.ringSize)) 8))
    let p := (x.prefetch.filter (fun e => e.1 / 8 != k / 8)) ++ ents
    let loose := p.filter (fun e => !x.replayed e.1)
    { x with prefetch := loose.drop (p.length - 32) ++ p.filter (fun e => x.replayed e.1) }

/-- A second word with which no check that reads it fails: for LOOP one with WRAP 1. -/
def plainWord (op : Nat) : Nat := if op = 0x03 then 2 ^ 24 else 0

/-- The loop procedure after the command whose final entry is `e` (R142). -/
def loopBack (e : Nat) : List LoopFrame → Nat × List LoopFrame
  | [] => (e + 1, [])
  | f :: r =>
    if e = f.last then
      if f.i + 1 < f.count then (f.first, { f with i := f.i + 1 } :: r) else loopBack e r
    else (e + 1, f :: r)

/-- The first unmet condition of R137, as a TIL_STATUS state: 2 WAIT_TOKEN, 3 WAIT_CREDIT, 4 WAIT_FILL, 6 WAIT_UNIT. A command that its unit has
started takes no entry of the unit's queue of four (R70; DESIGN CHOICE, log entry 113). -/
def waitState (x : Tile) (op w0 : Nat) (ws : List (Nat × Nat)) : Option Nat :=
  let ch := bits w0 47 3
  let n := bits w0 29 7
  if ws.any (fun w => decide (x.token w.1 < w.2)) then some 2
  else if op = 0x28 ∧ (x.outCh ch).credits < n then some 3
  else if op = 0x29 ∧ (x.inCh ch).arrived < (x.inCh ch).reserved + n then some 4
  else if unitOf op ≠ 0 ∧ 4 ≤ (x.cmds.filter (fun d => d.unit == unitOf op && !d.started)).length then some 6
  else none

/-- Consume the waits, the SEND credits or the RECV reservation together (R137). -/
def consume (x : Tile) (op w0 : Nat) (ws : List (Nat × Nat)) : Tile :=
  let x := ws.foldl (fun (x : Tile) w => x.setToken w.1 (x.token w.1 - w.2)) x
  let ch := bits w0 47 3
  let n := bits w0 29 7
  if op = 0x28 then x.setOut ch { x.outCh ch with credits := (x.outCh ch).credits - n }
  else if op = 0x29 then x.setIn ch { x.inCh ch with reserved := (x.inCh ch).reserved + n }
  else x

/-- A tile whose part is over: END issued and every command complete (R73, R95). -/
def State.settle (s : State) (t : Nat) : State :=
  if s.rdTil R.TIL_STATUS_STATE t = 7 ∧ (s.tile t).cmds = [] then s.wrTil R.TIL_STATUS_STATE t 8 else s

/-- The command at the head of issue, with the loop indexing it takes (R140, R143). -/
def Tile.command (x : Tile) (op w0 w1 : Nat) : TCmd :=
  let li := x.loopIdx
  { seq := x.nextSeq, op := op, w0 := w0, w1 := w1, index := x.head % x.ringSize, unit := unitOf op,
    mul := (List.range 3).map (fun k => li.mul (idxOf w0 k)), off := (List.range 3).map (fun k => li.off (idxOf w0 k)),
    started := false, spoiled := false, reads := [], writes := [] }

/-- The control unit after it issues a command: what the command consumes (R137), the loop frames and the head (R142). -/
def Tile.afterIssue (x : Tile) (op w0 w1 : Nat) : Tile :=
  let e := x.head + entriesOf w0 - 1
  let x1 := consume x op w0 (waitsOf (syncWord op w0 w1))
  let r := if op = 0x03 then
      (e + 1, (⟨x.head + 2, x.head + 1 + bits w0 22 12, bits w0 34 16 + 1, signed 16 (bits w1 48 16), signed 16 (bits w1 32 16), bits w1 24 8, 0⟩ : LoopFrame) :: x1.loops)
    else loopBack e (if op = 0x02 then [] else x1.loops)
  { x1 with head := r.1, loops := r.2, nextSeq := x.nextSeq + 1 }

/-- Issue a command whose checks and conditions hold. -/
def State.issueNow (s : State) (t op w0 w1 : Nat) (x : Tile) : State :=
  let c := x.command op w0 w1
  let x3 := x.afterIssue op w0 w1
  let s := s.wrTil R.TIL_STATUS_STATE t (if op = 0x02 then 7 else 1)
  if unitOf op = 0 then ((s.setTile t x3).signal t op c.index (signalsOf (syncWord op w0 w1))).settle t
  else
    let s := s.setTile t { x3 with cmds := x3.cmds ++ [c] }
    if s.canStart t c then s.start t c else s

/-- The control unit looks at the head of issue, for a command of the opcodes `p` (R137): it makes the field checks, those of word 0 while the
second entry is not present, and waits for entries, waits, or issues. A command of another opcode is another row's. -/
def State.issue (s : State) (t : Nat) (p : Nat → Bool) : State :=
  if !s.issues t then s else
  let buf := s.clu (t / 16)
  let x := (s.tile t).fetch buf (s.tile t).head
  match SMap.look x.prefetch x.head with
  | none => (s.setTile t x).wrTil R.TIL_STATUS_STATE t 5
  | some w0 =>
    let op := opcodeOf w0
    if !p op then s
    else
      let x := if entriesOf w0 = 2 then x.fetch buf (x.head + 1) else x
      let second := if entriesOf w0 = 2 && knownOp op then SMap.look x.prefetch (x.head + 1) else some 0
      let li := x.loopIdx
      let off := (List.range 3).map (fun k => li.off (idxOf w0 k))
      match issueFault (s.rdClu R.CLU_STATUS_TILE_MASK (t / 16)) (s.clu (t / 16)).ringRegion x op w0 (second.getD (plainWord op)) off with
      | some (code, info) => (s.setTile t x).tileFault t code op (x.head % x.ringSize) info
      | none =>
        match second with
        | none => (s.setTile t x).wrTil R.TIL_STATUS_STATE t 5
        | some w1 =>
          match waitState x op w0 (waitsOf (syncWord op w0 w1)) with
          | some st => (s.setTile t x).wrTil R.TIL_STATUS_STATE t st
          | none => s.issueNow t op w0 w1 x

/-! ### Completion (R71) -/

/-- What a command leaves when it completes: SLICE sets PLANES (R170); RECV frees its slots and returns credits (R64). -/
def State.completeEffect (s : State) (t : Nat) (c : TCmd) : State :=
  let x := s.tile t
  if c.op = 0x63 then s.setTile t { x with planes := bits c.w0 45 4 }
  else if c.op = 0x29 then
    let j := bits c.w0 47 3
    let n := bits c.w0 29 7
    let i := x.inCh j
    let s := s.setTile t (x.setIn j { i with arrived := i.arrived - n, reserved := i.reserved - n })
    match i.src, s.unitOfTile t with
    | some (st, k), some uid =>
      let p := s.partOfTile t
      { s with creditFlits := s.creditFlits ++ [⟨st, k, n, uid, t, p, s.rd R.PAR_STATUS_GEN 0 [p], backPath (s.tilePath st t)⟩] }
    | _, _ => s
  else s

/-- A started command whose last byte has moved completes and applies its signals. -/
def State.complete (s : State) (t seq : Nat) : State :=
  let x := s.tile t
  match x.cmds.find? (fun c => c.seq == seq && c.started) with
  | none => s
  | some c =>
    if s.xfers.any (fun f => f.tile == t && f.seq == seq) then s
    else
      let s := s.setTile t { x with cmds := x.cmds.filter (fun d => d.seq != seq) }
      let s := s.completeEffect t c
      (s.signal t c.op c.index (signalsOf (syncWord c.op c.w0 c.w1))).settle t

end Sys2Proof.Machine
end

