-- ==== Sys2Proof/Machine/Walk.lean ====
section
/-! DEFINITION. Translation (R297 to R308, R317): quotas, page tables, the TLBs, pending misses, the walk a walker makes, and virtual
accesses of the package's own agents. -/

namespace Sys2Proof.Machine

/-- What of the ranges `as` no range of `bs` holds. -/
def rangesLess (as bs : List (Nat × Nat)) : List (Nat × Nat) :=
  bs.foldl (fun l b => l.flatMap (fun a =>
    ([(a.1, min a.2 (b.1 - a.1)), (max a.1 (b.1 + b.2), a.1 + a.2 - max a.1 (b.1 + b.2))] : List (Nat × Nat)).filter (fun r => decide (0 < r.2)))) as

/-- The image store of a partition (R469). -/
def State.storeRange (s : State) (p : Nat) : Nat × Nat :=
  let len := s.rd R.PAR_QUOTA_SIZE 0 [p, 0] * 2 ^ 26
  let st := s.rd R.PAR_CFG_IMG_STORE 0 [p] * 2 ^ 26
  (s.rd R.PAR_QUOTA_BASE 0 [p, 0] * 2 ^ 26 + (len - st), min st len)

/-- The byte ranges of a partition's quota: its valid ranges less the image store (R468, R469). -/
def State.quotaRanges (s : State) (p : Nat) : List (Nat × Nat) :=
  if s.rdB R.PAR_CFG_ENABLE 0 [p] then
    rangesLess ((List.range 8).filterMap (fun k =>
      if s.rdB R.PAR_QUOTA_VALID 0 [p, k] then some (s.rd R.PAR_QUOTA_BASE 0 [p, k] * 2 ^ 26, s.rd R.PAR_QUOTA_SIZE 0 [p, k] * 2 ^ 26) else none)) [s.storeRange p]
  else []
/-- The bytes of a partition's quota, each counted once. -/
def State.quotaBytes (s : State) (p : Nat) : Nat :=
  ((s.quotaRanges p).foldl (fun (l : List (Nat × Nat)) r => l ++ rangesLess [r] l) []).foldl (fun n r => n + r.2) 0

/-- Whether a byte range lies wholly inside a partition's quota: every granule of it does, and a granule never straddles ranges. -/
def State.inQuota (s : State) (p dpa len : Nat) : Bool :=
  let rs := s.quotaRanges p
  let inOne (a n : Nat) : Bool := rs.any (fun r => decide (r.1 ≤ a) && decide (a + n ≤ r.1 + r.2))
  inOne dpa len || cover rs (rs.length + 1) dpa (dpa + len)
where
  /-- Follow adjacent ranges from `a` up to `e`. -/
  cover (rs : List (Nat × Nat)) : Nat → Nat → Nat → Bool
    | 0, _, _ => false
    | n + 1, a, e =>
      if e ≤ a then true
      else match rs.find? (fun r => decide (r.1 ≤ a) && decide (a < r.1 + r.2)) with
        | none => false
        | some r => cover rs n (r.1 + r.2) e

/-- How a translation ends: an entry, a fault kind of R317, an uncorrectable table read, an island down, or a miss that is pending. -/
inductive XRes where
  | hit (e : TlbEntry)
  | fault (kind : Nat)
  | ue (dpa port : Nat)
  | down
  | miss
  deriving DecidableEq, Repr

def isHost (va : Nat) : Bool := bit va 47

/-- Page size of a leaf by level (R300), and the index bits of a VA at a level. -/
def leafSize (level : Nat) : Nat := 2 ^ (12 + 9 * level)
def vaIndex (va level : Nat) : Nat := if level = 3 then bits va 39 8 else bits va (12 + 9 * level) 9

/-- Whether an entry breaks R301 at its level. -/
def entryBad (e level : Nat) : Bool :=
  let leaf := bit e 1
  bits e 44 20 != 0 || bits e 6 6 != 0 || (level == 3 && leaf) || (level == 0 && !leaf) ||
  (!leaf && bits e 2 4 != 0) || (leaf && (bits e 12 32 * 4096) % leafSize level != 0)

/-- The run check of R304 on the fetched entry: its place in the run must equal its index mod 16. -/
def runBad (e level idx : Nat) : Bool := bit e 5 && (bits e 12 32 * 4096 / leafSize level) % 16 != idx % 16

/-- The set of an entry in a die TLB of 2,048 sets of 8 ways, or in a cluster TLB, which is one set of 64; and of a walk cache of 256 sets of
4 ways (R305; the index is a DESIGN CHOICE, log entry 120). -/
def tlbSet (cache : Nat) (e : TlbEntry) : Nat := if cache < 4 then e.va / e.size % 2048 else 0
def walkSet (w : WalkEntry) : Nat := w.va / w.size % 256

/-- Drop the least recently used entry of a set beyond its ways (R305; the choice is PRESUMED, log entry 10). -/
def dropOver {α : Type} [DecidableEq α] (n : Nat) (inSet : α → Bool) (l : List α) : List α :=
  if n < (l.filter inSet).length then (match l.find? inSet with | some e => l.erase e | none => l) else l

def State.tlbFill (s : State) (cache : Nat) (e : TlbEntry) : State :=
  let rest := s.tlbs.filter (fun x => !(x.1 == cache && x.2.part == e.part && x.2.ctx == e.ctx && x.2.va == e.va && x.2.size == e.size))
  { s with tlbs := dropOver (if cache < 4 then 8 else 64) (fun x => x.1 == cache && tlbSet cache x.2 == tlbSet cache e) (rest ++ [(cache, e)]) }

/-- Whether an entry translates a VA of a context. What an invalidation covers it has dropped (R311); a translated request goes to the host only
through an entry of the current epoch (R309). -/
def State.tlbHit (s : State) (e : TlbEntry) (p c va : Nat) : Bool :=
  e.part == p && e.ctx == c && decide (e.va ≤ va) && decide (va < e.va + e.size) && (!bit va 47 || e.epoch == s.epoch p c)

/-- A lookup in one cache. -/
def State.tlbLook (s : State) (cache p c va : Nat) : Option TlbEntry := (s.tlbs.find? (fun x => x.1 == cache && s.tlbHit x.2 p c va)).map (·.2)

/-- Move a hit entry to the end of the list: most recently used. -/
def State.tlbTouch (s : State) (cache : Nat) (e : TlbEntry) : State := { s with tlbs := s.tlbs.erase (cache, e) ++ [(cache, e)] }

/-- A walker at work for a context: for a miss, and for a unit if one waits for it. -/
def walkerFor (p die c uid task : Nat) : Agent := { Agent.walker p die with ctx := c, uid := uid, task := task }

/-- Set A of a leaf: an atomic update at its home (R303), which the fill does not wait for. -/
def State.setA (s : State) (p die c dpa : Nat) : State :=
  let a := walkerFor p die c 0 0
  match s.quickAtomic a dpa 8 2 8 0 with
  | some (_, t) => t
  | none => s.leash1 { s.agentReq a .atomic dpa 8 (atomicFlit 2 8 8 0 (dpa % 256)) (.post .none_) with epoch := s.epoch p c }

/-- One walk from a table of a level down (R300 to R304): read one entry and act on it; at most four levels are left. -/
def State.walkFrom (s : State) (die p c va level table uid task : Nat) : XRes × State := go 4 s level table
where
  go : Nat → State → Nat → Nat → XRes × State
    | 0, s, _, _ => (.fault 5, s)
    | n + 1, s, level, table =>
      let idx := vaIndex va level
      let a := table + 8 * idx
      if !s.inQuota p a 8 then (.fault 3, s)
      else
        let s := s.bump R.XLT_WALK_READS die [] 1
        match s.physRead (walkerFor p die c uid task) a 8 with
        | (.ue d port, s) => (.ue d port, s)
        | (.down, s) => (.down, s)
        | (.outside, s) => (.fault 9, s)
        | (.decode, s) => (.fault 4, s)
        | (.ok bs, s) =>
          let e := leNat bs
          if !bit e 0 then (.fault 1, s)
          else if entryBad e level then (.fault 5, s)
          else if bit e 1 then
            let pg := leafSize level
            let pa := bits e 12 32 * 4096
            if runBad e level idx then (.fault 5, s)
            else if !s.inQuota p pa pg then (.fault 3, s)
            else
              let s := if bit e 3 then s else s.setA p die c a
              let run := bit e 5 && s.inQuota p (pa / (16 * pg) * (16 * pg)) (16 * pg)
              let size := if run then 16 * pg else pg
              (.hit ⟨p, c, s.epoch p c, va / size * size, size, pa / size * size, bit e 2, bit e 4, a⟩, s)
          else
            let next := bits e 12 32 * 4096
            let span := 2 ^ (12 + 9 * level)
            let w : WalkEntry := ⟨p, c, s.epoch p c, level - 1, va / span * span, span, next⟩
            let s := { s with walks := dropOver 4 (fun x => x.1 == die && walkSet x.2 == walkSet w) (s.walks.filter (fun x => x != (die, w)) ++ [(die, w)]) }
            go n s (level - 1) next

/-- Walk a device-half page, from the deepest table the die's walk cache holds (R305). -/
def State.walk (s : State) (die p c va uid task : Nat) : XRes × State :=
  let hits := s.walks.filter (fun x => x.1 == die && x.2.part == p && x.2.ctx == c && decide (x.2.va ≤ va) && decide (va < x.2.va + x.2.size))
  match hits.foldl (fun (b : Option WalkEntry) x => match b with
      | none => some x.2
      | some w => if x.2.level < w.level then some x.2 else some w) none with
  | some w => s.walkFrom die p c va w.level w.table uid task
  | none => s.walkFrom die p c va 3 (s.rd R.XLT_CTX_ROOT_ROOT 0 [p, c] * 2048) uid task

/-- Whether a TLB entry allows the access; a first write sets D in the table, and waits for that, and in the caches (R303). -/
def State.allow (s : State) (die : Nat) (e : TlbEntry) (write : Bool) (uid : Nat) : XRes × State :=
  if write && !e.w then (.fault 2, s)
  else if write && !e.d && !isHost e.va then
    match s.physAtomic (walkerFor e.part die e.ctx uid 0) e.entryDpa 8 2 16 0 with
    | (.ok _, s) =>
      let e' := { e with d := true }
      (.hit e', { s with tlbs := s.tlbs.map (fun x => if x.2.part == e.part && x.2.ctx == e.ctx && x.2.va == e.va && x.2.size == e.size then (x.1, { x.2 with d := true }) else x) })
    | (.ue d port, s) => (.ue d port, s)
    | (.down, s) => (.down, s)
    | (.outside, s) => (.fault 9, s)
    | (.decode, s) => (.fault 4, s)
  else (.hit e, s)

/-- Whether the context translates the half of a VA at all (R298). -/
def State.halfOff (s : State) (p c va : Nat) : Option Nat :=
  if isHost va then (if s.rdB R.XLT_CTX_CFG_HOST 0 [p, c] then none else some 6)
  else if s.rdB R.XLT_CTX_CFG_ENABLE 0 [p, c] then none else some 1

/-- The translation requests outstanding at HD0 (R308, R322). -/
def State.atsOut (s : State) : Nat := (s.misses.filter (fun m => m.stage == .ats || m.stage == .again)).length

/-- Who a translation or page request to the host names: its function and the PASID of its context (R297, R309), above the VA. -/
def State.hostName (s : State) (p c va : Nat) : Nat := (s.fnOf p * 2 ^ 20 + s.rd R.XLT_CTX_CFG_PASID 0 [p, c]) * 2 ^ 48 + va

/-- Send the ATS requests that ATS_MAX has room for, in arrival order (R308, R310). -/
def State.pumpAts (s : State) : State := go s.misses.length s
where
  go : Nat → State → State
    | 0, s => s
    | n + 1, s =>
      if (s.rd R.XLT_ATS_CTRL_ATS_MAX 0 ≤ s.atsOut) || s.heel then s
      else match s.misses.find? (fun (m : Miss) => m.stage == .queued || m.stage == .againQueued) with
        | none => s
        | some m =>
          let s := { s with misses := s.misses.map (fun (x : Miss) =>
            if x.id == m.id then { x with stage := if m.stage == MissStage.againQueued then MissStage.again else MissStage.ats } else x) }
          let s := (s.bump R.XLT_ATS_REQS 0 [] 1).send (.hostMsg 0 m.id (s.hostName m.part m.ctx (m.va % 2 ^ 47)))
          go n s

/-- A stream with 32 misses pending issues no more (R307). -/
def State.streamFull (s : State) (sid : Nat) : Bool := decide (32 ≤ (s.misses.filter (fun (m : Miss) => m.stream == sid && !m.orphan)).length)

/-- A miss joins its stream, unless the page already has one or 32 are pending (R307). -/
def State.addMiss (s : State) (m : Miss) : State :=
  if s.misses.any (fun x => x.stream == m.stream && x.va / 4096 == m.va / 4096 && x.part == m.part && x.ctx == m.ctx && !x.orphan) || s.streamFull m.stream then s
  else ({ s with misses := s.misses ++ [{ m with id := s.nextId }], nextId := s.nextId + 1 }).pumpAts

/-- An agent that uses virtual addresses: its die, partition, context and translation stream, whether its accesses carry the
stream hint (R261), and the unit and the task of its own that it acts for. -/
structure Virt where
  die : Nat
  part : Nat
  ctx : Nat
  sid : Nat
  stream : Bool
  uid : Nat
  task : Nat
  deriving DecidableEq, Repr

/-- The Flial agent behind a translation stream (R277, R279). -/
def Virt.agent (a : Virt) : Agent :=
  let base : Agent :=
    if 8192 ≤ a.sid ∧ a.sid < 8704 then .cluster a.part (a.sid - 8192)
    else if 9216 ≤ a.sid ∧ a.sid < 9728 then .torus a.part a.die 0
    else if 9728 ≤ a.sid ∧ a.sid < 9732 then .retr a.part a.die
    else if 9736 ≤ a.sid then { Agent.pcie with part := a.part }
    else .mgmt a.part a.die
  { base with stream := a.stream, ctx := a.ctx, uid := a.uid, task := a.task }

/-- The Sheepdog agent of a die. -/
def Virt.dog (die p c : Nat) : Virt := ⟨die, p, c, 9732 + die, false, 0, 0⟩

/-- A partition's aperture: the endpoint, on HD0 (R440). -/
def Virt.apt (p c : Nat) : Virt := ⟨0, p, c, 9736 + p, false, 0, 0⟩

/-- What a pending miss tells the access that meets it; none while it is served. -/
def Miss.res (m : Miss) : Option XRes :=
  match m.stage with
  | .failed k => some (.fault k)
  | .failedUe d p => some (.ue d p)
  | .failedDown => some .down
  | _ => none

/-- Translate for an agent of a die (R306): the die TLB, or a miss of its stream, for a walker (R308) or for ATS (R310). -/
def State.xlate (s : State) (a : Virt) (va : Nat) (write : Bool) : XRes × State :=
  if s.ask ≠ [] then (.miss, s)
  else
    match s.halfOff a.part a.ctx va with
    | some k => (.fault k, s)
    | none =>
      match s.tlbLook a.die a.part a.ctx va with
      | some e => ((s.bump R.XLT_DTLB_HITS a.die [] 1).tlbTouch a.die e).allow a.die e write a.uid
      | none =>
        match s.misses.find? (fun (m : Miss) => m.stream == a.sid && m.part == a.part && m.ctx == a.ctx && m.va / 4096 == va / 4096 && !m.orphan) with
        | some m =>
          (match m.res with
           | some r => (r, { s with misses := s.misses.erase m })
           | none => (.miss, { s with ask := [.stall] }))
        | none =>
          if isHost va && s.heel then (.fault 7, s)
          else (.miss, { s with ask := [.miss ⟨0, a.sid, a.die, 512, 0, a.part, a.ctx, s.epoch a.part a.ctx, va, write, 0,
            if isHost va then .queued else .device, a.uid, false⟩] })

/-- What an access waits for is sent: a request, unless it is among those that the command has sent and not used (`left`), or a miss that joins its
stream. -/
def State.doAsk (left : List Req) (s : State) : Ask → State
  | .mem r => if left.any (fun (x : Req) => x.same r) then s else s.leash1 r
  | .miss m => if s.streamFull m.stream then s else (s.bump R.XLT_DTLB_MISSES m.die [] 1).addMiss m
  | .stall => s

/-- A command whose agent must wait for something has no other effect than to send for it; once all is at hand it takes its effect (log entry
119). -/
def State.orWait (s : State) (f : State → State) : State :=
  let t := f s
  if t.ask = [] then t else s.each t.ask (State.doAsk t.reqs)

/-- Send for what an access needs, without its effect. -/
def State.sendFor (s : State) (f : State → State) : State := s.each (f s).ask (State.doAsk (f s).reqs)

/-- The address a hit entry gives. -/
def TlbEntry.addr (e : TlbEntry) (va : Nat) : Nat := e.pa + (va - e.va)

/-- A translation fault is recorded for its partition and context (R317). -/
def State.xltFault (s : State) (p c va kind : Nat) : State :=
  let s := s.wrs 0 [p] [(R.XLT_P_FAULT_VA, va % 2 ^ 48), (R.XLT_P_FAULT_INFO_VALID, 1), (R.XLT_P_FAULT_INFO_KIND, kind), (R.XLT_P_FAULT_INFO_CONTEXT, c)]
  s.bump R.XLT_CTX_FAULTS 0 [p, c] 1

/-- What becomes of a virtual access by an agent. -/
inductive VRes where
  | ok (bs : List Byte)
  | fault (va kind : Nat)
  | ue (dpa port : Nat)
  | down
  | wait                 -- the access must wait, and has not happened
  deriving DecidableEq, Repr

def VRes.bytes : VRes → List Byte
  | .ok bs => bs
  | _ => []
def VRes.good : VRes → Bool
  | .ok _ => true
  | _ => false

/-- The parts of a virtual range that lie in one 4 KiB page each. -/
def pageParts : Nat → Nat → Nat → List (Nat × Nat)
  | 0, _, _ => []
  | n + 1, va, len => if len = 0 then [] else
    let k := min len (4096 - va % 4096)
    (va, k) :: pageParts n (va + k) (len - k)
def pagesOf (va len : Nat) : List (Nat × Nat) := pageParts (len / 4096 + 2) va len

def ofMem : MemRes → Nat → VRes
  | .ok bs, _ => .ok bs
  | .ue d p, _ => .ue d p
  | .down, _ => .down
  | .outside, va => .fault va 9
  | .decode, va => .fault va 4

/-- A list cut or filled with zeros to a length: what the host returned for a read. -/
def padTo (n : Nat) (bs : List Byte) : List Byte := bs.take n ++ List.replicate (n - bs.length) 0

/-- The host's side of an access cannot be reached for the moment: Bus Master Enable is clear, or the hold buffer is full (R451, R455). -/
def State.stall (s : State) : VRes × State := (.wait, { s with ask := s.ask ++ [.stall] })

/-- Read (`w` none) or write one part of a range that lies in one page; `hd` is what the host holds there, for a read. -/
def State.virtPart (s : State) (a : Virt) (va len : Nat) (w : Option (List Byte)) (hd : List Byte) : VRes × State :=
  match s.xlate a va w.isSome with
  | (.hit e, s) =>
    if isHost va then
      match w with
      | none => if s.heel then (.fault va 7, s) else if !s.bme (s.fnOf a.part) then s.stall else (.ok (padTo len hd), s)
      | some bs => if s.holdFull bs.length then s.stall else (.ok [], s.hostWrite (s.fnOf a.part) (e.addr va) bs (s.relaxed (s.fnOf a.part)))
    else
      let g : Agent := { a.agent with epoch := e.epoch }
      (match w with
       | none => let (r, s) := s.physRead g (e.addr va) len; (ofMem r va, s)
       | some bs => let (r, s) := s.physWrite g (e.addr va) bs; (ofMem r va, s))
  | (.fault k, s) => (.fault va k, s)
  | (.ue d port, s) => (.ue d port, s)
  | (.down, s) => (.down, s)
  | (.miss, s) => (.wait, s)

/-- Read a virtual range page by page; stops at the first that fails. -/
def State.virtReadH (s : State) (a : Virt) (va len : Nat) (hd : List Byte) : VRes × State :=
  (pagesOf va len).foldl (fun acc pt =>
    match acc with
    | (.ok bs, s) =>
      match s.virtPart a pt.1 pt.2 none (hd.drop (pt.1 - va)) with
      | (.ok cs, s) => (.ok (bs ++ cs), s)
      | r => r
    | r => r) (.ok [], s)

/-- Write a virtual range. -/
def State.virtWriteV (s : State) (a : Virt) (va : Nat) (bs : List Byte) : VRes × State :=
  (pagesOf va bs.length).foldl (fun acc pt =>
    match acc with
    | (.ok _, s) => s.virtPart a pt.1 pt.2 (some ((bs.drop (pt.1 - va)).take pt.2)) []
    | r => r) (.ok [], s)


end Sys2Proof.Machine
end

