-- ==== Sys2Proof/Machine/Rings.lean ====
section
/-! DEFINITION. What the Sheepdog's procedures share: work rings and bay queues as one kind of ring, reading and writing structures
under LOC (R194), completion records (R211 to R216, R223), interrupts (R218, R219) and the stops of R221 and R222. A ring number is
0 to 63 for a work ring of a partition and 64 to 79 for its bay queues (R378). -/

namespace Sys2Proof.Machine

/-- The fields of a ring, by number (R229, R390). -/
def State.ringRd (s : State) (w b : Fld) (p r : Nat) : Nat := if r < 64 then s.rd w 0 [p, r] else s.rd b 0 [p, r - 64]
def State.ringWr (s : State) (w b : Fld) (p r v : Nat) : State := if r < 64 then s.wr w 0 [p, r] v else s.wr b 0 [p, r - 64] v

def State.rSize (s : State) (p r : Nat) : Nat := 2 ^ s.ringRd R.WRK_RING_CFG_SIZE_LOG2 R.BAY_Q_CFG_SIZE_LOG2 p r
def State.rCtx (s : State) (p r : Nat) : Nat := s.ringRd R.WRK_RING_CFG_CONTEXT R.BAY_Q_CFG_CONTEXT p r
def State.rState (s : State) (p r : Nat) : Nat := s.ringRd R.WRK_RING_STATE_STATE R.BAY_Q_STATE_STATE p r
def State.rHead (s : State) (p r : Nat) : Nat := s.ringRd R.WRK_RING_HEAD R.BAY_Q_HEAD p r
def State.rDone (s : State) (p r : Nat) : Nat := s.ringRd R.WRK_RING_DONE R.BAY_Q_DONE p r
def State.rFlight (s : State) (p r : Nat) : Nat := s.ringRd R.WRK_RING_STATE_IN_FLIGHT R.BAY_Q_STATE_IN_FLIGHT p r
def State.rLoc (s : State) (p r : Nat) : Bool := s.ringRd R.WRK_RING_LO_LOC R.BAY_Q_RING_LO_LOC p r != 0
def State.rBase (s : State) (p r : Nat) : Nat :=
  s.ringRd R.WRK_RING_HI R.BAY_Q_RING_HI p r * 2 ^ 32 + s.ringRd R.WRK_RING_LO_ADDR R.BAY_Q_RING_LO_ADDR p r * 64
def State.rCplBase (s : State) (p r : Nat) : Nat :=
  s.ringRd R.WRK_CPL_HI R.BAY_Q_CPL_HI p r * 2 ^ 32 + s.ringRd R.WRK_CPL_LO_ADDR R.BAY_Q_CPL_LO_ADDR p r * 64

/-- Put a ring into a state with a reason (R220, R230). -/
def State.setRing (s : State) (p r st reason : Nat) : State :=
  (s.ringWr R.WRK_RING_STATE_STATE R.BAY_Q_STATE_STATE p r st).ringWr R.WRK_RING_STATE_REASON R.BAY_Q_STATE_REASON p r reason
def State.addFlight (s : State) (p r : Nat) (n : Int) : State :=
  s.ringWr R.WRK_RING_STATE_IN_FLIGHT R.BAY_Q_STATE_IN_FLIGHT p r (s.rFlight p r + n).toNat

/-- The rings of a partition, bay queues included. -/
def allRings : List Nat := List.range 80

/-- The island of a partition, and the die whose Sheepdog agent acts for it: the first of that island (R470). -/
def State.partIsland (s : State) (p : Nat) : Nat := s.rd R.PAR_CFG_ISLAND 0 [p]
def State.partDie (s : State) (p : Nat) : Nat := (s.islDies (s.partIsland p)).getD 0 0

/-- The tick period in effect, ns (R231). -/
def State.period (s : State) : Nat := s.rd R.TCK_PERIOD_CURRENT 0 * 10000

/-! ### Structures under LOC (R194) -/

/-- Write to a structure at a virtual address: with its translation, or parked until that comes, or until D is set in the table (R303), behind what is
parked already (R298, R310). A
write to device memory is not waited for; what depends on it is `w.by_`. False: the write failed (R223). -/
def State.virtPut (s : State) (w : Parked) : State × Bool :=
  let park (s : State) : State := { s with parked := s.parked ++ [w] }
  if s.ask ≠ [] then (s, true)
  else if s.parked.any (fun (x : Parked) => x.part == w.part && x.stream == w.stream) then (park s, true)
  else
    let a : Virt := ⟨if 9736 ≤ w.stream then 0 else s.partDie w.part, w.part, w.ctx, w.stream, false, 0, 0⟩
    match s.xlate a w.addr true with
    | (.hit e, s) =>
      if isHost w.addr then (s.hostWrite (s.fnOf w.part) (e.addr w.addr) w.data, true)
      else (match s.post { a.agent with epoch := e.epoch } w.by_ (e.addr w.addr) w.data with
        | some s => (s, true)
        | none => (if (s.decode (e.addr w.addr)).isNone then s.xltFault w.part w.ctx w.addr 4 else s, false))
    | (r, t) =>
      if t.ask ≠ [] then (park (s.each t.ask (State.doAsk t.reqs)), true)
      else match r with
        | .fault k => (t.xltFault w.part w.ctx w.addr k, false)
        | _ => (t, false)

/-- What of a range lies in one page each; writes of structures go page by page. -/
def State.virtPost (s : State) (a : Virt) (va : Nat) (bs : List Byte) (by_ : PostBy) : State × Bool :=
  (pagesOf va bs.length).foldl (fun acc pt =>
    let (s, ok) := acc.1.virtPut ⟨a.part, a.ctx, a.sid, pt.1, (bs.drop (pt.1 - va)).take pt.2, by_⟩
    (s, acc.2 && ok)) (s, true)

/-- Write a structure of a partition: through its function, or at a virtual address of a context. `by_` says whose record it is. False: the write
failed (R223). -/
def State.locWrite (s : State) (loc : Bool) (p c addr : Nat) (bs : List Byte) (by_ : PostBy := .none_) : State × Bool :=
  if loc then s.virtPost (.dog (s.partDie p) p c) addr bs by_ else (s.hostWrite (s.fnOf p) addr bs, true)

/-- The translations of a structure in the host half: true where all allow a read; a refused one is recorded as a fault. -/
def State.hostPages (s : State) (p c addr len : Nat) : Bool × State :=
  (pagesOf addr len).foldl (fun acc pt =>
    match acc with
    | (true, s) =>
      (match s.xlate (.dog (s.partDie p) p c) pt.1 false with
       | (.hit _, s) => (true, s)
       | (.fault k, s) => (false, s.xltFault p c pt.1 k)
       | (_, s) => (false, s))
    | r => r) (true, s)

/-- Read a structure: what the host returned, or the bytes at a virtual address. None: the read failed. -/
def State.locRead (s : State) (loc : Bool) (p c addr len task : Nat) (ok : Bool) (data : List Byte) : State × Option (List Byte) :=
  let back (s : State) : Option (List Byte) := if ok && !s.heel && s.bme (s.fnOf p) && decide (len ≤ data.length) then some (data.take len) else none
  if !loc then (s, back s)
  else if isHost addr then
    match s.hostPages p c addr len with
    | (true, s) => (s, back s)
    | (false, s) => (s, none)
  else
    match s.virtReadH { Virt.dog (s.partDie p) p c with task := task } addr len [] with
    | (.ok bs, s) => (s, some bs)
    | (.fault va k, s) => (s.xltFault p c va k, none)
    | (_, s) => (s, none)

/-- A read of a structure is sent: what it needs is asked for. -/
def State.locAsk (s : State) (loc : Bool) (p c addr len task : Nat) : State :=
  if loc then s.sendFor (fun s => (s.locRead loc p c addr len task true []).1) else s

/-! ### Interrupts (R218, R219) -/

/-- A ring signals: its VF's vector, or a bay over the work port (BW_IRQ, R379). Bay signals stand above the MSI-X numbers. -/
def State.bayIrq (s : State) (p bay v : Nat) : State :=
  let k := (bay + 1) * 2 ^ 16 + 64 * p + v
  if s.irqs.contains k then s else { s with irqs := s.irqs ++ [k] }
def State.ringIrq (s : State) (p r : Nat) : State :=
  let v := s.ringRd R.WRK_RING_CFG_VECTOR R.BAY_Q_CFG_VECTOR p r
  if s.ringRd R.WRK_RING_CFG_INT_BAY R.BAY_Q_CFG_INT_BAY p r = 1 then s.bayIrq p (s.ringRd R.WRK_RING_CFG_BAY R.BAY_Q_CFG_BAY p r) v
  else s.partIrq p v

/-- An event of a partition qualifies: it sends on EVENT_VECTOR at the next boundary (R219, R229). -/
def State.eventIrq (s : State) (p : Nat) : State := if s.eventsDue.contains p then s else { s with eventsDue := s.eventsDue ++ [p] }
def State.eventSend (s : State) (p : Nat) : State :=
  let v := s.rd R.WRK_CTRL_EVENT_VECTOR 0 [p]
  if s.rdB R.WRK_CTRL_EVENT_BAY 0 [p] then s.bayIrq p (s.rd R.WRK_CTRL_EVENT_BAY_NUM 0 [p]) v else s.partIrq p v

/-- Set a WRK_EVENT bit (R219: it qualifies when it comes to be set and unmasked). -/
def State.wrkEvent (s : State) (p : Nat) (f : Fld) : State :=
  if s.rdB f 0 [p] then s
  else
    let s := s.wr f 0 [p] 1
    if bit (s.rd R.WRK_EVENT_MASK 0 [p]) f.lo then s else s.eventIrq p

/-- Send what qualifies on a function, or on a partition's bay signals, once (R219). -/
def State.sendIrqs (s : State) (sel : Nat → Bool) : State :=
  let now := s.irqs.filter sel
  let s := { s with irqs := s.irqs.filter (fun k => !sel k) }
  s.each now (fun s k =>
    if k < 2 ^ 16 then s.msix (k / 64) (k % 64)
    else
      let p := k / 64 % 64
      s.bwSend (k / 2 ^ 16 - 1) 0x32 0 (s.gen p) p 0 0 0 (k % 64) [])

/-! ### Completion records (R211 to R216) -/

/-- What a record says beside its ring's own numbers. -/
structure Cpl where
  count : Nat
  tag : Nat
  irq : Bool
  overran : Bool
  status : Nat
  d0 : Nat
  d1 : Nat
  startTick : Nat
  runUs : Nat
  capped : Nat
  gen : Nat
  ctx : Nat

/-- The 32 bytes of R212; `n` is the count the record takes (R213). -/
def Cpl.bytes (c : Cpl) (size n : Nat) : List Byte :=
  leBytes 2 (c.count % size) ++ leBytes 1 c.status ++ leBytes 1 ((if n / size % 2 = 0 then 128 else 0) + (if c.overran then 1 else 0)) ++
    leBytes 4 c.tag ++ leBytes 8 c.d0 ++ leBytes 4 c.d1 ++ leBytes 4 c.startTick ++ leBytes 2 (min 65535 c.runUs) ++
    leBytes 2 (min 65535 c.capped) ++ leBytes 2 c.gen ++ leBytes 1 c.ctx ++ leBytes 1 0

/-- A drained ring whose last unit has ended is STOPPED (R220). -/
def State.drained (s : State) (p r : Nat) : State :=
  if s.rState p r = 2 ∧ s.rFlight p r = 0 then s.ringWr R.WRK_RING_STATE_STATE R.BAY_Q_STATE_STATE p r 3 else s

/-- A ring enters ERROR (R199, R223). -/
def State.ringError (s : State) (p r reason : Nat) : State := (s.setRing p r 4 reason).wrkEvent p R.WRK_EVENT_RING_ERROR

/-- The management queue of a partition enters ERROR (R199, R223). -/
def State.mgmtError (s : State) (p reason : Nat) : State := ({ s with mgmtBad := SMap.ins s.mgmtBad p reason }).wrkEvent p R.WRK_EVENT_RING_ERROR

/-- A unit or descriptor of a ring has ended ABORTED (R224, R229). -/
def State.countAbort (s : State) (p r : Nat) : State :=
  s.ringWr R.WRK_RING_ABORTS R.BAY_Q_ABORTS p r (min (2 ^ 32 - 1) (s.ringRd R.WRK_RING_ABORTS R.BAY_Q_ABORTS p r + 1))

/-- Write a record at the ring's count and advance DONE; a record that fails is lost and puts the ring in ERROR (R223). -/
def State.record (s : State) (p r : Nat) (c : Cpl) : State :=
  let n := s.rDone p r
  let size := s.rSize p r
  let (s, ok) := s.locWrite (s.rLoc p r) p (s.rCtx p r) (s.rCplBase p r + 32 * (n % size)) (c.bytes size n) (.ring p r)
  let s := (s.ringWr R.WRK_RING_DONE R.BAY_Q_DONE p r (n + 1)).addFlight p r (-1)
  let s := if c.status = 5 then s.countAbort p r else s
  let s := if ok && (c.irq || s.ringRd R.WRK_RING_CFG_IRQ_ALL R.BAY_Q_CFG_IRQ_ALL p r == 1) then s.ringIrq p r else s
  let s := s.drained p r
  if ok then s else s.ringError p r 8

/-! ### Descriptors (R200) -/

def Desc.bytes (d : Desc) : List Byte := (d.data.getD none).getD []
def Desc.nat (d : Desc) (off n : Nat) : Nat := leNat ((d.bytes.drop off).take n)
def Desc.read? (d : Desc) : Bool := d.data.isSome
def Desc.failed (d : Desc) : Bool := d.data == some none

/-- End a descriptor that has not been admitted: its record, and the descriptor is gone. START_TICK and RUN_US name no admitting
boundary and are free; so is USER_TAG when its read failed (log entry 21). -/
def State.endDesc (s : State) (d : Desc) (status d0 d1 : Nat) (write : Bool) : State :=
  let s := { s with descs := s.descs.filter (fun e => !(e.part == d.part && e.ring == d.ring && e.count == d.count)) }
  if !write then ((if status = 5 then s.countAbort d.part d.ring else s).addFlight d.part d.ring (-1)).drained d.part d.ring
  else
    let f := s.free
    let s := s.useFree 3
    s.record d.part d.ring
      { count := d.count, tag := if d.bytes = [] then Config.freeNat (f + 2) % 2 ^ 32 else d.nat 4 4, irq := bit (d.nat 1 1) 1, overran := false,
        status := status, d0 := d0, d1 := d1, startTick := Config.freeNat f % 2 ^ 32, runUs := Config.freeNat (f + 1) % 2 ^ 16, capped := 0,
        gen := s.gen d.part, ctx := s.rCtx d.part d.ring }

/-- End every fetched descriptor of a ring that is not admitted (R217, R221, R222, R224). -/
def State.endDescs (s : State) (p r status d1 : Nat) (write : Bool) : State :=
  s.each (s.descs.filter (fun d => d.part == p && d.ring == r)) (fun s d => s.endDesc d status 0 d1 write)

/-- A ring found in ERROR ends its fetched descriptors (R217, reason 0x07). -/
def State.settleRing (s : State) (p r : Nat) : State := if s.rState p r = 4 then s.endDescs p r 5 7 true else s

/-- The counters of a failed access through BAR2 (R441). -/
def State.bar2Fail (s : State) (fn : Nat) : State := if fn = 0 then s.bump R.PCI_BAR_ERR 0 [] 1 else s.bump R.PCI_VF_APT_FAULTS 0 [fn - 1] 1

/-- A host write through BAR2 has failed in one of its parts: it is counted once (R441). -/
def State.barFailed (s : State) (fn wid : Nat) : State :=
  let b : PostBy := .bar fn wid
  ({ s with reqs := s.reqs.map (fun (r : Req) => if r.owner == Owner.post b then { r with owner := .post (.bar fn 0) } else r),
            parked := s.parked.map (fun (w : Parked) => if w.by_ == b then { w with by_ := .bar fn 0 } else w) }).bar2Fail fn

/-- A posted write of a function through BAR2 has not been acknowledged (R442). -/
def State.barPosted (s : State) (fn : Nat) : Bool :=
  s.reqs.any (fun (r : Req) => match r.owner with | .post (.bar f _) => f == fn | _ => false) ||
  s.parked.any (fun (w : Parked) => match w.by_ with | .bar f _ => f == fn | _ => false)

/-- A write that nobody waits for has failed: a record is lost, and its ring or queue enters ERROR (R223); an error record is kept (R546); ZERO has
failed (R485); a host write through BAR2 is counted (R441). -/
def State.putFailed (s : State) : PostBy → State
  | .ring p r => if r = 80 then s.mgmtError p 8 else (s.ringError p r 8).settleRing p r
  | .err d k => ({ s with errs := s.errs.map (fun (x : ErrRec) => if x.die == d && x.seq == k then { x with wait := true } else x) }).wr R.ERR_EVENT_QWRITE_FAIL d [] 1
  | .zero p => s.wr R.PAR_STATUS_ZERO_FAIL 0 [p] 1
  | .bar fn wid => if wid = 0 then s else s.barFailed fn wid
  | .none_ => s

/-- Parked writes go out with the translations that have come (R310). -/
def State.unpark (s : State) : State :=
  ({ s with parked := [] }).each s.parked (fun s w =>
    match s.virtPut w with
    | (s, true) => s
    | (s, false) => s.putFailed w.by_)

/-! ### Stopping units and contexts (R75, R221, R222, R224) -/

/-- Give every unit that satisfies `sel` an ending, unless it has one or has ended (R215); UNIT_STOP then stops it. -/
def State.endUnits (s : State) (sel : WUnit → Bool) (e : Ending) : State :=
  { s with units := s.units.map (fun u => if sel u && u.ending.isNone && !u.done then { u with ending := some e } else u) }

/-- Set how the records of units are treated (R224). -/
def State.muteUnits (s : State) (sel : WUnit → Bool) (m : Nat) : State :=
  { s with units := s.units.map (fun u => if sel u then { u with mute := max u.mute m } else u) }

/-- Rings bound to a context that are in use. -/
def State.ringsOf (s : State) (p c : Nat) : List Nat := allRings.filter (fun r => s.rCtx p r == c && s.rState p r != 0)

/-- The Sheepdog acts on a whole context (R222). A ring already STOPPED or in ERROR stays as it is (R220), and only an ACTIVE context is stopped (R477). -/
def State.stopCtx (s : State) (p c reason : Nat) (stopReason : Nat) : State :=
  let s := s.endUnits (fun u => u.part == p && u.ctx == c) ⟨5, 0, reason⟩
  let rs := s.ringsOf p c
  let moved := rs.filter (fun r => s.rState p r == 1 || s.rState p r == 2)
  let s := s.each rs (fun s r => s.endDescs p r 5 reason true)
  let s := s.each moved (fun s r => if s.rState p r = 4 then s else s.setRing p r 3 stopReason)
  if s.rd R.PAR_CTX_CFG_STATE 0 [p, c] = 1 then s.wr R.PAR_CTX_CFG_STATE 0 [p, c] 2 else s

/-! ### Windows (R205 to R210) -/

/-- The window of a partition's doorbell block (queue 0) or of its bay queue k (queue k + 1). -/
def winKey (p q : Nat) : Nat := 17 * p + q
def State.window (s : State) (p q : Nat) : Nat := SMap.get 0 s.windows (winKey p q)
def State.setWindow (s : State) (p q v : Nat) : State := { s with windows := SMap.put 0 s.windows (winKey p q) v }
/-- The queue number of a ring. -/
def queueOf (r : Nat) : Nat := if r < 64 then 0 else r - 63
def State.shut (s : State) (p : Nat) : Bool := (List.range 17).all (fun q => s.window p q == 0)

/-- The status block of a partition (R197). -/
def State.statusBytes (s : State) (p : Nat) : List Byte :=
  leBytes 8 s.tick ++ leBytes 4 (SMap.get 0 s.mgmtHead p) ++ leBytes 4 (SMap.get 0 s.mgmtDone p) ++ leBytes 2 (s.gen p) ++ List.replicate 46 0 ++
    (List.range 64).flatMap (fun r => leBytes 4 (s.rHead p r) ++ leBytes 4 (s.rDone p r) ++ leBytes 1 (s.rState p r) ++
      leBytes 1 (s.ringRd R.WRK_RING_STATE_REASON R.BAY_Q_STATE_REASON p r) ++ leBytes 2 (s.rFlight p r) ++ leBytes 4 0)

/-- The status word of a bay queue (R378). -/
def State.statusWord (s : State) (p r : Nat) : List Byte :=
  leBytes 4 (s.rHead p r) ++ leBytes 4 (s.rDone p r) ++ leBytes 1 (s.rState p r) ++
    leBytes 1 (s.ringRd R.WRK_RING_STATE_REASON R.BAY_Q_STATE_REASON p r) ++ leBytes 2 (s.rFlight p r) ++ leBytes 4 s.tick

/-- Write the status block of a partition, or the status word of a bay queue. -/
def State.writeStatus (s : State) (p q : Nat) : State :=
  if q = 0 then
    (s.locWrite (s.rdB R.WRK_STAT_LO_LOC 0 [p]) p 0 (s.rd R.WRK_STAT_HI 0 [p] * 2 ^ 32 + s.rd R.WRK_STAT_LO_ADDR 0 [p] * 2048) (s.statusBytes p)).1
  else
    let ix := [p, q - 1]
    (s.locWrite (s.rdB R.BAY_Q_STAT_LO_LOC 0 ix) p 0 (s.rd R.BAY_Q_STAT_HI 0 ix * 2 ^ 32 + s.rd R.BAY_Q_STAT_LO_ADDR 0 ix * 16) (s.statusWord p (q + 63))).1

/-- The interrupts that may go once every window concerned has closed and no record of the partition is parked or on its way: a function's, a
partition's bay signals (R211, R219). -/
def State.irqReady (s : State) (k : Nat) : Bool :=
  let quiet (p : Nat) : Bool := s.shut p && s.parked.all (fun (w : Parked) => w.part != p || decide (9736 ≤ w.stream)) &&
    s.reqs.all (fun (r : Req) => match r.owner with | .post (.ring q _) => q != p | _ => true)
  if k < 64 then (List.range 64).all (fun p => s.fnOf p != 0 || quiet p)
  else if k < 2 ^ 16 then quiet (k / 64 - 1)
  else quiet (k / 64 % 64)

/-- A window closes: the status is written, then the interrupts that waited for it go (R197, R219). -/
def State.closeWindow (s : State) (p q : Nat) : State :=
  let s := (s.writeStatus p q).setWindow p q 0
  if s.shut p then
    s.sendIrqs (fun k => s.irqReady k && (if k < 64 then s.fnOf p == 0 else if k < 2 ^ 16 then s.fnOf p == k / 64 else k / 64 % 64 == p))
  else s

/-! ### Management responses (R225) -/

/-- Write a response record and advance the response count; once written it qualifies on the queue's VECTOR (R219), and one that fails
puts the queue in ERROR (R223). What a failed read leaves unread of the command is free (log entry 21). -/
def State.mgmtRecord (s : State) (m : Mgmt) (e : Ending) : State :=
  let p := m.part
  let n := SMap.get 0 s.mgmtDone p
  let size := 2 ^ s.rd R.WRK_MGMT_CFG_SIZE_LOG2 0 [p]
  let f := s.free
  let s := s.useFree 4
  let c : Cpl :=
    { count := m.entry, tag := if m.cmd = [] then Config.freeNat (f + 2) % 2 ^ 32 else leNat ((m.cmd.drop 4).take 4), irq := true, overran := false,
      status := e.status, d0 := e.d0, d1 := e.d1, startTick := Config.freeNat f % 2 ^ 32, runUs := Config.freeNat (f + 1) % 2 ^ 16, capped := 0,
      gen := s.gen p, ctx := (if m.cmd = [] then Config.freeNat (f + 3) else leNat ((m.cmd.drop 1).take 1)) % 16 }
  let (s, ok) := s.locWrite (s.rdB R.WRK_MRSP_LO_LOC 0 [p]) p 0
    (s.rd R.WRK_MRSP_HI 0 [p] * 2 ^ 32 + s.rd R.WRK_MRSP_LO_ADDR 0 [p] * 64 + 32 * (n % size)) (c.bytes size n) (.ring p 80)
  let s := { s with mgmtDone := SMap.put 0 s.mgmtDone p ((n + 1) % 2 ^ 32), mgmts := s.mgmts.erase m }
  if ok then s.partIrq p (s.rd R.WRK_MGMT_CFG_VECTOR 0 [p])
  else s.mgmtError p 8

/-- Write the responses that no older command of the partition keeps back (R225). -/
def State.mgmtFlush (s : State) (p : Nat) : State := go s.mgmts.length s
where
  go : Nat → State → State
    | 0, s => s
    | n + 1, s =>
      match s.mgmts.find? (fun (m : Mgmt) => m.part == p) with
      | some m => (match m.answer with | some e => go n (s.mgmtRecord m e) | none => s)
      | none => s

/-- A command of the management queue ends; its response follows in command order. -/
def State.mgmtAnswer (s : State) (m : Mgmt) (status d0 d1 : Nat) : State :=
  ({ s with mgmts := s.mgmts.map (fun (x : Mgmt) =>
      if x.part == m.part && x.entry == m.entry then { x with cmd := m.cmd, answer := some ⟨status, d0, d1⟩ } else x) }).mgmtFlush m.part


end Sys2Proof.Machine
end

