-- ==== Sys2Proof/Machine/Inval.lean ====
section
/-! DEFINITION. Invalidation with drain (R311, R312, R315, R482): start, the cut at the first boundary, and completion. -/

namespace Sys2Proof.Machine

def overlaps (a n b m : Nat) : Bool := decide (a < b + m) && decide (b < a + n)

/-- The bays with a queue bound to a context (R376). -/
def State.baysOf (s : State) (p c : Nat) : List Nat :=
  (List.range 8).filter (fun b => (let st := s.rd R.BAY_STATUS_STATE (b / 2) [b % 2]; st == 2 || st == 3) && (List.range 16).any (fun k => s.rState p (64 + k) != 0 && s.rCtx p (64 + k) == c && s.rd R.BAY_Q_BIND_BAY 0 [p, k] == b))

/-- Steps 1 to 3 of R311. -/
def State.startInval (s : State) (v : Inval) : State :=
  let p := v.part
  let c := v.ctx
  let s := s.roll R.XLT_CTX_EPOCH_EPOCH 0 [p, c] 1
  let e := s.epoch p c
  let s := s.wr R.XLT_CTX_EPOCH_DRAINS 0 [p, c] (s.rd R.XLT_CTX_EPOCH_DRAINS 0 [p, c] + 1)
  let s := { s with
    tlbs := s.tlbs.filter (fun x => !(x.2.part == p && x.2.ctx == c && overlaps x.2.va x.2.size v.va v.size))
    misses := s.misses.map (fun (m : Miss) => if m.part == p && m.ctx == c && m.stage == MissStage.walking then { m with stage := .device, epoch := e } else m)
    walks := s.walks.filter (fun x => !(x.2.part == p && x.2.ctx == c && overlaps x.2.va x.2.size v.va v.size)) }
  -- walks in progress are not cached, and their requests walk again (step 2)
  let mine (q : Req) : Bool := q.part == p && q.ctx == c && !q.nopart
  let s := { s with reqs := s.reqs.map (fun (q : Req) => if mine q && q.mport == 132 && q.owner == Owner.agent then { q with owner := .post .none_ } else q) }
  -- step 3: requests of older epochs are marked, and leave the Leash past any hold
  let old := s.reqs.filter (fun (q : Req) => mine q && q.mport != 132 && q.epoch != e)
  let s := { s with reqs := s.reqs.map (fun (q : Req) => if old.contains q then { q with drain := true, guar := true } else q) }
  let s := s.each (old.filter (fun (q : Req) => q.stage == Stage.held)) (fun s q => s.leave q (s.covers q.die q.mport q.cls q.q q.units))
  let bs := s.baysOf p c
  let s := s.each bs (fun s b =>
    if s.rd R.BAY_STATUS_PROTO (b / 2) [b % 2] = 1 then s.send (.bayAts b 1 (s.rd R.XLT_CTX_CFG_PASID 0 [p, c]) v.va v.size)
    else s.bwSend b 0x34 0 (s.gen p) p c e (v.va / 4096) (if v.size < 2 ^ 34 then v.size / 4096 else 0) [])
  { s with invals := s.invals.map (fun (x : Inval) => if x.id == v.id then { x with epoch := e, started := true, boundary := false, bays := bs } else x) }

/-- An invalidation is asked for: it starts, or waits behind eight of its context (R312). -/
def State.invalidate (s : State) (p c va size : Nat) (by_ : InvalBy) : State :=
  let v : Inval := { id := s.nextId, part := p, ctx := c, va := va, size := size, epoch := 0, by_ := by_, cut := 0, bays := [], started := false, boundary := false }
  let s := { s with invals := s.invals ++ [v], nextId := s.nextId + 1 }
  if s.rd R.XLT_CTX_EPOCH_DRAINS 0 [p, c] < 8 then s.startInval v else s

/-- Both halves of a context's address space. -/
def wholeSpace : Nat := 2 ^ 48

/-- Requests of a context under an older epoch that are still in flight: a write until it is acknowledged, a read until its data
has been delivered (R311, step 4). -/
def State.draining (s : State) (v : Inval) : List Req :=
  s.reqs.filter (fun q => q.part == v.part && q.ctx == v.ctx && !q.nopart && q.mport != 132 && olderEpoch q.epoch v.epoch (s.epoch v.part v.ctx) &&
    q.stage != .here && !(q.stage == .answered && (q.op == .wrInv || q.op == .wrPlace || q.op == .wbDirty || q.op == .evictClean)))

/-- Cut requests off: they are gone, unperformed or unread; the tiles that sent them stop, and the units end as given. A host
read keeps its tag. -/
def State.cutReqs (s : State) (rs : List Req) (e : Ending) (fault : Bool) : State :=
  s.each rs (fun s q =>
    let s := { s with reqs := s.reqs.filter (fun x => x.rid != q.rid), snoops := s.snoops.filter (fun x => x.rid != q.rid) }
    let s := { s with hreads := s.hreads.map (fun (h : HostRead) => if q.stage == Stage.host && h.tag == q.rid && h.state == 0 then { h with state := 3 } else h) }
    let s := s.bump R.XLT_CUT q.die [] 1
    let s := if fault then s.wr R.XLT_EVENT_DRAIN_CUT q.die [] 1 else s
    match q.owner with
    | .xfer xid =>
      (match s.xfers.find? (fun (x : Xfer) => x.id == xid) with
       | some x => s.tileHit x.tile e
       | none => s.endUnits (fun u => u.id == q.uid) e)
    | .bay b tag => s.bayAnswer b q.op.ans (portNode (qPort q.q)) tag false 1 q.gen 0 []
    | .agent => s.endUnits (fun u => u.id == q.uid) e
    | .post b => s.putFailed b)

/-- The units of a context that a bay runs. -/
def State.bayUnits (s : State) (p c : Nat) (bs : List Nat) : List WUnit :=
  s.units.filter (fun u => u.kind == .bay && u.part == p && u.ctx == c && u.ending.isNone && !u.done && bs.contains (s.rd R.BAY_Q_BIND_BAY 0 [u.part, u.ring - 64]))

/-- The bay that sent a request; 8 for none. -/
def Req.bay (r : Req) : Nat := match r.owner with | .bay b _ => b | _ => 8

/-- Step 5 of R311. -/
def State.cutInval (s : State) (v : Inval) : State :=
  let rs := s.draining v
  let units := (rs.map (·.uid)).filter (fun u => u != 0 && (s.unit? u).any (fun w => w.ending.isNone)) |>.dedup
  let e : Ending := ⟨2, 0, 0x80000000⟩
  let s := s.cutReqs rs e true
  let late := s.bayUnits v.part v.ctx (v.bays ++ (rs.map Req.bay).filter (· < 8))
  -- the hub sends BW_ABORT with a reason that the spec leaves open (log entry 121)
  let s := s.each late (fun s u =>
    (s.useFree 1).bwSend (s.rd R.BAY_Q_BIND_BAY 0 [u.part, u.ring - 64]) 0x33 (s.bwId u.part u.ring u.count) (s.gen u.part) u.part u.ctx 0 0 (Config.freeNat s.free % 256) [])
  let s := s.endUnits (fun u => late.any (fun w => w.id == u.id)) e
  let s := { s with units := s.units.map (fun (u : WUnit) => if late.any (fun w => w.id == u.id) then { u with stopped := true } else u) }
  let n := units.length + late.length
  let s := s.each (List.range n) (fun s _ => s.xltFault v.part v.ctx 0 8)
  { s with invals := s.invals.map (fun (x : Inval) => if x.id == v.id then { x with cut := x.cut + n, bays := [] } else x) }

/-- Whether an invalidation is complete (R311, step 4; R376). -/
def State.invalDone (s : State) (v : Inval) : Bool := v.started && (s.draining v).isEmpty && v.bays.isEmpty

/-- A context in ENDING whose invalidations are over is FREE (R477, R480). -/
def State.freeCtx (s : State) (p c : Nat) : State :=
  if s.rd R.PAR_CTX_CFG_STATE 0 [p, c] = 3 ∧ s.invals.all (fun v => v.part != p || v.ctx != c) then
    s.wrs 0 [p, c] [(R.PAR_CTX_CFG_STATE, 0)] else s

/-- DRAINING ends once none of the invalidations that took memory from a partition is in progress (R475). -/
def State.drainOver (s : State) : State :=
  s.each (List.range 64) (fun s p =>
    if s.rdB R.PAR_STATUS_DRAINING 0 [p] && s.invals.all (fun (v : Inval) => v.part != p || v.by_ != .quota) then
      ({ s with released := s.released.filter (fun x => x.1 != p) }).wr R.PAR_STATUS_DRAINING 0 [p] 0
    else s)

/-- An invalidation completes: it is counted on every die not in reset, and reported (R312, R322). -/
def State.finishInval (s : State) (v : Inval) : State :=
  let s := { s with invals := s.invals.filter (fun x => x.id != v.id) }
  let s := s.wr R.XLT_CTX_EPOCH_DRAINS 0 [v.part, v.ctx] (s.rd R.XLT_CTX_EPOCH_DRAINS 0 [v.part, v.ctx] - 1)
  let s := s.each ((List.range 4).filter (fun d => SMap.get 0 s.dies d != 1)) (fun s d => s.bump R.XLT_INVALS d [] 1)
  let s := match v.by_ with
    | .mgmt p entry _ =>
      (match s.mgmts.find? (fun (m : Mgmt) => m.part == p && m.entry == entry) with
       | some m => s.mgmtAnswer m 0 0 v.cut
       | none => s)
    | .ats tag => if s.invals.any (fun (x : Inval) => x.by_ == InvalBy.ats tag) then s else s.send (.hostMsg 3 tag 0)
    | .unit uid => s.updUnit uid (fun u => { u with done := true })
    | .reset => s
    | .quota => s.drainOver
  let s := s.freeCtx v.part v.ctx
  match s.invals.find? (fun (x : Inval) => x.part == v.part && x.ctx == v.ctx && !x.started) with
  | some w => s.startInval w
  | none => s

/-- Requests of an earlier generation of a partition (R482). -/
def State.oldGen (s : State) (p : Nat) : List Req := s.reqs.filter (fun q => q.part == p && !q.nopart && q.gen != s.gen p)

/-- No request of an older epoch of the context remains (R311, step 4). -/
def execInvalidationComplete (inval : Nat) (s : State) : Result :=
  within s true (match s.invals.find? (fun v => v.id == inval) with
    | some v => if s.invalDone v then s.finishInval v else s
    | none => s)

/-- The first boundary after an invalidation started cuts off what still drains (R311, step 5). -/
def execDrainCut (inval : Nat) (s : State) : Result :=
  within s true (match s.invals.find? (fun v => v.id == inval) with
    | some v => if v.started && v.boundary then s.cutInval v else s
    | none => s)

end Sys2Proof.Machine
end

