-- ==== Sys2Proof/Machine/Dispatcher.lean ====
section
/-! DEFINITION. The cluster dispatchers (R78 to R84, R91 to R94): scrub, load, release, refill, the end of a unit and of its
clusters, and a held cluster's debug reads. -/

namespace Sys2Proof.Machine

/-- DETAIL1 of an ISLAND_DOWN record: the dies in reset and the dies of the island (R216). -/
def State.downD1 (s : State) (island : Nat) : Nat :=
  (List.range 4).foldl (fun n d => n + (if SMap.get 0 s.dies d = 1 then 2 ^ (8 + d) else 0) + (if s.island d = island then 2 ^ d else 0)) 0

/-- A dispatcher that loads a unit's image. -/
def Agent.loader (u : WUnit) (c : Nat) : Agent := { Agent.cluster u.part c with ctx := u.ctx, uid := u.id }

/-- The ending an access that failed gives its unit (R216); `base` is where its transfer begins. -/
def State.vEnding (s : State) (part : Nat) (r : VRes) (base : Nat) : Option Ending :=
  match r with
  | .ok _ => none
  | .wait => none
  | .fault va k => some ⟨2, va % 2 ^ 48, k * 2 ^ 28 + min (2 ^ 28 - 1) (va - base)⟩
  | .ue d port => some ⟨4, d, port⟩
  | .down => some ⟨7, 0, s.downD1 (s.partIsland part)⟩

/-- Fields of an image (R182 to R185). -/
def imgNat (d : List Byte) (off n : Nat) : Nat := leNat ((d.drop off).take n)
def imgClusters (d : List Byte) : Nat := imgNat d 0x0C 2
def imgMask (d : List Byte) (l : Nat) : Nat := imgNat d (imgNat d 0x10 4 + 8 * l) 2
def imgGroup (d : List Byte) (l : Nat) : Nat := imgNat d (imgNat d 0x10 4 + 8 * l + 2) 1

/-- The tiles of a mask, in ascending order. -/
def maskTiles (m : Nat) : List Nat := (List.range 16).filter (bit m)

/-- The program header of a masked tile of a logical cluster (R183). -/
def imgHeader (d : List Byte) (l t : Nat) : Nat :=
  imgNat d 0x14 4 + 128 * (imgNat d (imgNat d 0x10 4 + 8 * l + 4) 4 + (maskTiles (imgMask d l % 2 ^ t)).length)

/-- The binding entries: sending cluster, tile, channel; receiving cluster, tile, channel (R185). -/
def imgBindings (d : List Byte) : List (Nat × Nat × Nat × Nat × Nat × Nat) :=
  (List.range (imgNat d 0x1C 4)).map (fun k =>
    let o := imgNat d 0x18 4 + 8 * k
    let a := imgNat d (o + 2) 1
    let b := imgNat d (o + 6) 1
    (imgNat d o 2, a / 16, a % 8, imgNat d (o + 4) 2, b / 16, b % 8))

/-- Write 0 over a cluster, empty its counters and bindings and its TLB (R83). -/
def State.scrub (s : State) (c : Nat) : State :=
  let s := s.each (List.range 16) (fun s t => s.setTile (16 * c + t) Tile.idle)
  let k := s.clu c
  let s := s.setClu c { k with buf := [], fill := none, ringRegion := 0, loaded := false }
  { s with tlbs := s.tlbs.filter (fun x => x.1 != 4 + c) }

/-- Entries of a program put into the command ring in the cluster buffer (R80, step 4 and 7). -/
def State.putEntries (s : State) (c : Nat) (x : Tile) (lo hi : Nat) : State :=
  s.each ((List.range (hi - lo)).map (· + lo)) (fun s i =>
    s.setClu c ((s.clu c).putCb (64 * x.ringBase + 8 * (i % x.ringSize)) ((x.code.drop (8 * i)).take 8)))

/-- Step 3 of R80 for one tile: its header, and the first entries of its program (step 4). Its memory is undefined (R78; log entry 3), its
banks have no type (R156), its registers are as R147 gives. -/
def State.loadTile (s : State) (c : Nat) (u : WUnit) (d : List Byte) (l t : Nat) : State :=
  let h := imgHeader d l t
  let T := 16 * c + t
  let n := imgNat d (h + 4) 4
  let size := 2 ^ imgNat d (h + 8) 1
  let seed := if bit (imgNat d (h + 0xD) 1) 0 then imgNat d (h + 0x10) 8 else s.rdTil R.TIL_SEED_HI T * 2 ^ 32 + s.rdTil R.TIL_SEED_LO T
  let bs := imgBindings d
  let base := s.free
  let s := s.useFree (2 ^ 17)
  let pkg (lc tt : Nat) : Nat := 16 * u.clusters.getD lc 0 + tt
  let outs := bs.filter (fun b => b.1 == l && b.2.1 == t)
  let ins := bs.filter (fun b => b.2.2.2.1 == l && b.2.2.2.2.1 == t)
  let slotsOf (lc tt j : Nat) : Nat := imgNat d (imgHeader d lc tt + 0x40 + 4 * j + 2) 2
  let mask := imgNat d (h + 0xC) 1
  let x : Tile := { Tile.idle with
    fill := some base
    gen := genInit (seed ^^^ u.seedMix)
    ringBase := imgNat d (h + 0xA) 2
    ringSize := size
    code := (d.drop (imgNat d h 4)).take (8 * n)
    codeLen := n
    written := min size n }
  let x := (List.range 32).foldl (fun (x : Tile) k => x.setToken k (imgNat d (h + 0x20 + k) 1)) x
  let x := outs.foldl (fun (x : Tile) b =>
    let cr := slotsOf b.2.2.2.1 b.2.2.2.2.1 b.2.2.2.2.2
    x.setOut b.2.2.1 ⟨some (pkg b.2.2.2.1 b.2.2.2.2.1, b.2.2.2.2.2), cr, cr⟩) x
  let x := (maskTiles mask).foldl (fun (x : Tile) j =>
    let src := (ins.find? (fun b => b.2.2.2.2.2 == j)).map (fun b => (pkg b.1 b.2.1, b.2.2.1))
    x.setIn j ⟨imgNat d (h + 0x40 + 4 * j) 2, slotsOf l t j, 0, 0, 0, 0, src⟩) x
  (s.setTile T x).putEntries c x 0 x.written

/-- Steps 2 to 5 of R80 for a cluster with an assignment: scrub if the context differs, headers and first fills from the image store,
the argument block at ARG_OFF. -/
def State.dispatchLoad (s : State) (c : Nat) (host : List Byte) : State :=
  match (s.clu c).unit.bind s.unit? with
  | none => s
  | some u =>
    if s.rdClu R.CLU_STATUS_STATE c != 1 || (s.clu c).loaded || u.stopped then s
    else match s.images.find? (fun (i : Image) => i.part == u.part && i.ctx == u.ctx && i.handle == u.image) with
    | none => s
    | some img =>
      let key := 16 * u.part + u.ctx
      let s := if (s.clu c).lastCtx = some key then s else s.scrub c
      match s.physRead (Agent.loader u c) img.store img.data.length with
      | (.ok d, s) =>
        let argBytes := imgNat d 0x24 4
        let a : Virt := ⟨cluDie c, u.part, u.ctx, 8192 + c, false, u.id, 0⟩
        let (r, s) := if argBytes = 0 then (VRes.ok [], s) else s.virtReadH a u.argAddr argBytes host
        (match r with
         | .ok args =>
           let l := (s.clu c).logical
           let k := s.clu c
           let s := (s.setClu c { k with buf := [], fill := some s.free, ringRegion := imgNat d 0x20 4, capped := 0, lastCtx := some key, loaded := true, ended := false }).useFree (2 ^ 20)
           let s := s.each (List.range 16) (fun s t => (s.setTile (16 * c + t) { Tile.idle with fill := some s.free }).useFree (2 ^ 17))
           let s := s.each (maskTiles (imgMask d l)) (fun s t => s.loadTile c u d l t)
           if argBytes = 0 then s else s.setClu c ((s.clu c).putCb (imgNat d 0x28 4) args)
         | .wait => s
         | r =>
           let s := match r with | .fault va k => s.xltFault u.part u.ctx va k | _ => s
           match s.vEnding u.part r u.argAddr with
           | some e => s.endUnit u.id e
           | none => s)
      | (.ue dpa port, s) => s.endUnit u.id ⟨4, dpa, port⟩
      | (_, s) => s.endUnit u.id ⟨7, 0, s.downD1 (s.partIsland u.part)⟩

/-- A cluster's assignment is received and loaded (R80). -/
def execDispatchLoad (cluster : Nat) (host : List Byte) (s : State) : Result :=
  within s (decide (cluster < 512)) (s.orWait (fun s => s.dispatchLoad cluster host))

/-- Every masked tile starts once every cluster has loaded (R81); the admission window is the time to the last release (R210). -/
def execStartRelease (uid dt : Nat) (s : State) : Result :=
  within s true (match s.unit? uid with
    | none => s
    | some u =>
      if u.kind != .kernel || u.released || u.ending.isSome || !u.clusters.all (fun c => (s.clu c).loaded) then s
      else
        let s := s.at_ dt
        let w := min 65535 ((s.now - u.admitted) / 10)
        let s := s.wrs 0 [] [(R.SHD_WINDOW_WINDOW_LAST, w), (R.SHD_WINDOW_WINDOW_MAX, max w (s.rd R.SHD_WINDOW_WINDOW_MAX 0))]
        let s := s.updUnit uid (fun u => { u with released := true })
        s.each u.clusters (fun s c =>
          let s := s.wrClu R.CLU_STATUS_STATE c 2
          let s := s.setClu c { s.clu c with metered := (s.clu c).metered || s.rdClu R.CLU_CTRL_PERF_ENABLE c == 1 }
          s.each (maskTiles (s.rdClu R.CLU_STATUS_TILE_MASK c)) (fun s t => s.wrTil R.TIL_STATUS_STATE (16 * c + t) 1)))

/-- The oldest entry a tile's ring must still hold: the head of issue, or the start of the outermost loop body (R142). -/
def Tile.oldest (x : Tile) : Nat := match x.loops.getLast? with | some f => min f.first x.head | none => x.head

/-- The dispatcher writes the entries a ring has room for (R80, step 7). -/
def execRingRefill (tile : Nat) (s : State) : Result :=
  within s (decide (tile < 8192)) (
    let x := s.tile tile
    let n := min x.codeLen (x.oldest + x.ringSize)
    if s.rdClu R.CLU_STATUS_STATE (tile / 16) != 2 || decide (n ≤ x.written) then s
    else (s.setTile tile { x with written := n }).putEntries (tile / 16) x x.written n)

/-- Stop a unit on all its clusters (R75): faulted tiles stay FAULTED, the others end. -/
def State.stopClusters (s : State) (u : WUnit) : State :=
  s.each u.clusters (fun s c =>
    let s := s.each (maskTiles (s.rdClu R.CLU_STATUS_TILE_MASK c)) (fun s t =>
      let T := 16 * c + t
      if s.rdTil R.TIL_STATUS_STATE T = 8 ∨ s.rdTil R.TIL_STATUS_STATE T = 9 then s else s.stopTile T 8)
    (s.setClu c { s.clu c with ended := true }).wrClu R.CLU_STATUS_STATE c 3)

/-- The dispatchers and the Sheepdog stop the rest of a unit that has an ending (R75, R222); a bay is told with BW_ABORT (R381). -/
def execUnitStop (uid : Nat) (s : State) : Result :=
  within s true (match s.unit? uid with
    | none => s
    | some u =>
      if u.ending.isNone || u.stopped || u.done then s
      else match u.kind with
        | .kernel => (s.stopClusters u).updUnit uid (fun u => { u with stopped := true, done := true })
        | .retriever => s.updUnit uid (fun u => { u with stopped := true, done := true })
        | .bay =>
          let b := s.rd R.BAY_Q_BIND_BAY 0 [u.part, u.ring - 64]
          let st := s.rd R.BAY_STATUS_STATE (b / 2) [b % 2]
          let reason := match u.ending with | some e => (if e.status = 5 then e.d1 else 0x10) | none => 0x10
          if st != 2 && st != 3 then s.updUnit uid (fun u => { u with stopped := true, done := true }) else
          (s.bwSend (s.rd R.BAY_Q_BIND_BAY 0 [u.part, u.ring - 64]) 0x33 (s.bwId u.part u.ring u.count) (s.gen u.part) u.part u.ctx 0 0 reason []).updUnit uid
            (fun u => { u with stopped := true }))

/-- Every masked tile of a cluster has ended: the dispatcher reports it (R73, R80, step 8). -/
def execClusterUnitEnd (cluster : Nat) (s : State) : Result :=
  within s (decide (cluster < 512)) (
    match (s.clu cluster).unit with
    | none => s
    | some uid =>
      if s.rdClu R.CLU_STATUS_STATE cluster != 2 ||
         !(maskTiles (s.rdClu R.CLU_STATUS_TILE_MASK cluster)).all (fun t => s.rdTil R.TIL_STATUS_STATE (16 * cluster + t) == 8) then s
      else
        let s := (s.setClu cluster { s.clu cluster with ended := true }).wrClu R.CLU_STATUS_STATE cluster 3
        s.updUnit uid (fun u => { u with done := u.done || u.clusters.all (fun c => (s.clu c).ended) }))

/-- What a cluster becomes when nothing holds it: BLOCKED while a stand-in swap is awaited (R92), else IDLE. -/
def State.idleState (s : State) (c : Nat) : Nat := if (s.clu c).blocked then 6 else 0

/-- Admission to a cluster is held for a swap, or no longer; an idle cluster shows it (R85, R92). -/
def State.setBlocked (s : State) (c : Nat) (b : Bool) : State :=
  let s := s.setClu c { s.clu c with blocked := b }
  let st := s.rdClu R.CLU_STATUS_STATE c
  if st = 0 ∨ st = 6 then s.wrClu R.CLU_STATUS_STATE c (s.idleState c) else s

/-- RELEASE ends HELD: the cluster is scrubbed (R91). -/
def execCluRelease (cluster : Nat) (s : State) : Result :=
  within s (decide (cluster < 512)) (if s.rdClu R.CLU_STATUS_STATE cluster = 5 then s.wrClu R.CLU_STATUS_STATE cluster 4 else s)

/-- CLU_STATUS TILE_MASK and CLU_UNIT name the running unit; without one they read 0 (R91). -/
def State.noUnit (s : State) (c : Nat) : State :=
  s.wrs (cluDie c) (cluIx c) [(R.CLU_STATUS_TILE_MASK, 0), (R.CLU_UNIT_RING, 0), (R.CLU_UNIT_INDEX, 0)]

/-- A cluster is scrubbed and holds no unit (R83). -/
def State.scrubNow (s : State) (c : Nat) : State :=
  let s := (s.scrub c).noUnit c
  let s := s.setClu c { s.clu c with lastCtx := none }
  let s := s.each (List.range 16) (fun s t => s.wrTil R.TIL_STATUS_STATE (16 * c + t) 0)
  s.wrClu R.CLU_STATUS_STATE c (s.idleState c)

/-- A scrub outside a unit ends (R83, R91, R483). -/
def execClusterScrubDone (cluster : Nat) (s : State) : Result :=
  within s (decide (cluster < 512)) (if s.rdClu R.CLU_STATUS_STATE cluster != 4 then s else s.scrubNow cluster)

/-- A cluster counts time in its CLU_PERF counters: it runs, and PERF_ENABLE is set (R91). -/
def State.meters (s : State) (c : Nat) : Bool := s.rdClu R.CLU_STATUS_STATE c == 2 && s.rdClu R.CLU_CTRL_PERF_ENABLE c == 1

/-- Before a read of a CLU_PERF counter, each of the four rises by the time that no read has shown, a free value (log entry 3). -/
def State.perfTime (s : State) (c : Nat) : State :=
  if !(s.clu c).metered then s
  else
    let s := s.each [R.CLU_PERF_CUBE, R.CLU_PERF_TOKEN, R.CLU_PERF_CREDIT, R.CLU_PERF_FETCH]
      (fun s f => (s.roll f (cluDie c) (cluIx c) (Config.freeNat s.free)).useFree 1)
    s.setClu c { s.clu c with metered := s.meters c }

/-- PERF_CLEAR clears every CLU and TIL counter of the cluster (R91). -/
def State.perfClear (s : State) (c : Nat) : State :=
  let s := s.setClu c { s.clu c with metered := s.meters c }
  let s := s.each [R.CLU_PERF_CUBE, R.CLU_PERF_TOKEN, R.CLU_PERF_CREDIT, R.CLU_PERF_FETCH, R.CLU_PERF_UNITS] (fun s f => s.wrClu f c 0)
  s.each (List.range 16) (fun s t => (s.wrTil R.TIL_PERF_CUBE (16 * c + t) 0).wrTil R.TIL_PERF_VEC (16 * c + t) 0)

def execCluPerfClear (cluster : Nat) (s : State) : Result := within s (decide (cluster < 512)) (s.perfClear cluster)

/-- The 8 bytes a debug read finds (R93). OFFSET is a multiple of 8; of another value the low three bits are not used (DESIGN CHOICE, log
entry 116). -/
def State.dbgWord (s : State) (c : Nat) : Nat :=
  let off := s.rdClu R.CLU_DBG_ADDR_OFFSET c / 8 * 8
  let x := s.tile (16 * c + s.rdClu R.CLU_DBG_ADDR_TILE c)
  if s.rdClu R.CLU_STATUS_STATE c != 5 then 0
  else match s.rdClu R.CLU_DBG_ADDR_SPACE c with
    | 0 => if off ≤ 0x1FFF8 then x.tmNat off 8 else 0
    | 1 =>
      if 0x1F8 < off then 0
      else
        let b := x.bank (off / 128)
        let v := b.entries.getD (off % 128 / 8) 0
        (match b.type with
         | none => 0
         | some .int48 => unsigned 64 (signed 48 v)
         | some _ => v % 2 ^ 32)
    | 2 => if off ≤ 0xFFFF8 then (s.clu c).cbNat off 8 else 0
    | _ => 0

/-- A debug touch of a confidential context (R510): its DISCLOSURE rises by 1 at the first touch of a tick, before any data leaves. -/
def State.touchCtx (s : State) (p c : Nat) : State :=
  if !s.rdB R.PAR_CTX_CFG_CONFIDENTIAL 0 [p, c] || !s.rdB R.PAR_CTX_CFG_ENABLE 0 [p, c] || s.disclosed.contains (16 * p + c) then s
  else
    let s := if s.disclosed.isEmpty then s.bump R.SEC_DEBUG_TICKS 0 [] 1 else s
    ({ s with disclosed := s.disclosed ++ [16 * p + c] }).bump R.SEC_DISCLOSE 0 [16 * p + c] 1 |>.secEvent R.SEC_EVENT_DEBUG_TOUCH

/-- A read of a word of CLU_DBG_DATA; the high word's advances OFFSET by 8 (R93). The low word latches the high one (R91), which reads 0 once the
cluster is no longer HELD. -/
def State.dbgRead (s : State) (c : Nat) (high : Bool) : State × Nat :=
  let off := R.CLU_DBG_DATA.offset (cluIx c)
  let key := cluDie c * 2 ^ 26 + off
  let s := if s.rdClu R.CLU_STATUS_STATE c = 5 then s.touchCtx (s.rdClu R.CLU_STATUS_PARTITION c) (s.rdClu R.CLU_STATUS_CONTEXT c) else s
  if high then
    let v := if s.rdClu R.CLU_STATUS_STATE c = 5 then SMap.get (s.dbgWord c / 2 ^ 32) s.latch key else 0
    (({ s with latch := SMap.del s.latch key }).wrClu R.CLU_DBG_ADDR_OFFSET c (s.rdClu R.CLU_DBG_ADDR_OFFSET c + 8), v)
  else ({ s with latch := SMap.ins s.latch key (s.dbgWord c / 2 ^ 32) }, s.dbgWord c % 2 ^ 32)

def execCluDbgDataRead (cluster : Nat) (high : Bool) (s : State) : Result :=
  within s (decide (cluster < 512)) (let (s, v) := s.dbgRead cluster high; s.send (.reg v))

end Sys2Proof.Machine
end

