-- ==== Sys2Proof/Machine/Sheepdog.lean ====
section
/-! DEFINITION. The Sheepdog (R189 to R222, R229, R244, R245): sampling, fetch, the descriptor checks, placement and admission,
completion records, ring controls, budgets and the hard limit. -/

namespace Sys2Proof.Machine

/-! ### Clusters and placement (R189, R206, R472) -/

/-- A package cluster exists: its number has been neither withdrawn nor left out by a start (R97, R531). -/
def State.cluExists (s : State) (c : Nat) : Bool :=
  match SMap.look s.boot.bists (cluDie c) with
  | none => true
  | some b => b.phys.getD (c % 128) 144 != 144

/-- The partition that owns a cluster: the old owner while a move waits (R472); none for a number that does not exist. -/
def State.owner (s : State) (c : Nat) : Option Nat :=
  if !s.cluExists c then none
  else if (s.clu c).moveTo.isSome then
    let o := s.rd R.LSH_M_CFG_PARTITION (cluDie c) [c % 128]
    if o < 64 then some o else none
  else
    let o := s.rd R.PAR_CLU_OWNER 0 [c]
    if o < 64 then some o else none

/-- A cluster that can take a unit: it held none at the boundary (R206, R241) and admission to it is open (R85, R472), its die being below
HOLD (R553). -/
def State.cluIdle (s : State) (c : Nat) : Bool :=
  !s.freed.contains c && !s.boot.failed.contains c &&
  s.rdClu R.CLU_STATUS_STATE c == 0 && (s.clu c).unit.isNone && !(s.clu c).blocked && (s.clu c).moveTo.isNone && s.dieRuns (cluDie c) &&
  s.rd R.ERR_THERMAL_LEVEL (cluDie c) != 2

/-- The dies of an island in CW order from the one R31 lists first. -/
def State.cwDies (s : State) (i : Nat) : List Nat :=
  let has (d : Nat) : Bool := s.island d == i
  let first := ((List.range 4).find? (fun d => has d && !has ((d + 3) % 4))).getD 0
  ((List.range 4).map (fun k => (first + k) % 4)).filter has

def State.clustersOf (s : State) (p : Nat) : List Nat := (List.range 512).filter (fun c => s.owner c == some p)

/-- The package cluster of each logical cluster, or none if the rule cannot be met (R189, R190). -/
def State.place (s : State) (p : Nat) (img : List Byte) : Option (List Nat) :=
  let own := s.clustersOf p
  let dies := (s.cwDies (s.partIsland p)).filter (fun d => own.any (fun c => cluDie c == d))
  let ls := List.range (imgClusters img)
  let grouped := ls.map (fun l =>
    let g := imgGroup img l
    if g = 0xFF then none else
      some ((dies[g]?).bind (fun d => (own.filter (fun c => cluDie c == d))[((List.range l).filter (fun m => imgGroup img m == g)).length]?)))
  let taken := grouped.filterMap (fun x => x.join)
  let rest := own.filter (fun c => !taken.contains c)
  let placed := ls.map (fun l =>
    match grouped.getD l none with
    | some x => x
    | none => rest[((List.range l).filter (fun m => imgGroup img m == 0xFF)).length]?)
  let order := !bit (imgNat img 0x06 2) 0 || (List.range (imgNat img 0x0E 1 - 1)).all (fun g =>
    match dies[g]?, dies[g + 1]? with
    | some a, some b => b == (a + 1) % 4
    | _, _ => false)
  if order && placed.all (·.isSome) then some (placed.filterMap id) else none

/-! ### Descriptor checks and waits (R202, R205, R207) -/

def Desc.kind (d : Desc) : Nat := d.nat 0 1
def Desc.typed (d : Desc) : Bool := d.kind == 1 || d.kind == 3 || (d.kind == 2 && decide (d.ring < 64))

def Desc.zero (d : Desc) (off n : Nat) : Bool := d.nat off n == 0

/-- Whether a reserved field or FLAGS bit is not 0 (R200, R201, R318). -/
def Desc.reserved (d : Desc) : Bool :=
  bits (d.nat 1 1) 3 5 != 0 || !d.zero 0x0C 4 ||
  (if d.kind = 1 then decide (d.ring < 64) && !(d.zero 0x12 6 && d.zero 0x28 88)
   else if d.kind = 2 then !(d.zero 0x13 13 && d.zero 0x44 4 && d.zero 0x58 40) || bits (d.nat 0x11 1) 1 7 != 0
   else !d.zero 0x10 112)

def State.image? (s : State) (p c h : Nat) : Option Image :=
  s.images.find? (fun i => i.part == p && i.ctx == c && i.handle == h && i.live)

/-- The lowest-numbered reason of R202 that a returned descriptor meets (log entry 22). -/
def State.badReason (s : State) (d : Desc) : Option Nat :=
  let img := s.image? d.part (s.rCtx d.part d.ring) (d.nat 0x10 2)
  let kernel := d.kind == 1 && decide (d.ring < 64)
  if d.failed then some 6
  else if !d.typed then some 1
  else if d.reserved then some 2
  else if kernel && img.isNone then some 3
  else if kernel && (match img with | some i => imgNat i.data 0x24 4 != 0 | none => false) &&
      (d.nat 0x18 8 % 64 != 0 || decide (2 ^ 48 ≤ d.nat 0x18 8)) then some 4
  else if bit (d.nat 1 1) 2 && (decide (63 < d.nat 2 1) || s.rState d.part (d.nat 2 1) == 0) then some 5
  else none

/-- The END_OF_LIFE transition has begun: nothing is admitted, attested or signed (R513, R516, R517). -/
def State.scrapped (s : State) : Bool := s.rd R.LCS_STATE_STATE 0 == 3 || s.rd R.LCS_STATE_TARGET 0 == 3

/-- Whether a context may admit at this boundary (R244, R245, R459, R478, R516, R548). -/
def State.mayAdmit (s : State) (p c : Nat) : Bool :=
  !s.fatal && !s.scrapped && s.rd R.PCI_STATUS_DSTATE 0 == 0 && s.rd R.PAR_CTX_CFG_STATE 0 [p, c] == 1 && bit (s.rd R.PAR_CTX_SCHED 0 [p, c]) (s.tick % 16) &&
  !s.indebted.contains (16 * p + c) && s.units.all (fun u => u.part != p || u.ctx != c || !(!u.hard && decide (4 ≤ u.boundaries)))

/-- Whether a descriptor's waits are met (R205, R207). -/
def State.waitsMet (s : State) (d : Desc) : Bool :=
  let fl := d.nat 1 1
  (!bit fl 0 || decide ((s.rDone d.part d.ring + 2 ^ 32 - d.count) % 2 ^ 32 < 2 ^ 31)) &&
  (!bit fl 2 || decide ((s.rDone d.part (d.nat 2 1) + 2 ^ 32 - d.nat 8 4) % 2 ^ 32 < 2 ^ 31))

/-- The oldest descriptor of a ring not admitted. -/
def State.headDesc (s : State) (p r : Nat) : Option Desc := s.descs.find? (fun d => d.part == p && d.ring == r)

/-- Whether a bay is in RUN (R389). -/
def State.bayRun (s : State) (b : Nat) : Bool := s.rd R.BAY_STATUS_STATE (b / 2) [b % 2] == 2

/-- Whether a bay queue has room at its bay (R379; log entry 23). -/
def State.bayRoom (s : State) (p r : Nat) : Bool :=
  s.bayRun (s.rd R.BAY_Q_BIND_BAY 0 [p, r - 64]) &&
  decide ((s.units.filter (fun u => u.part == p && u.ring == r)).length < s.rd R.BAY_Q_LIMIT_FETCH_MAX 0 [p, r - 64])

/-- Whether a returned head passes the tests of R205 up to its admission. -/
def State.passes (s : State) (p r : Nat) (d : Desc) : Bool :=
  s.mayAdmit p (s.rCtx p r) && s.waitsMet d &&
  (d.kind == 3 || d.kind == 2 ||
   (if r < 64 then
      (match s.image? p (s.rCtx p r) (d.nat 0x10 2) with
       | some i => (match s.place p i.data with | some cs => cs.all s.cluIdle | none => true)
       | none => true)
    else s.bayRoom p r))

/-- What R205 does with the head of a ring. -/
inductive HeadDo where
  | wait       -- its read may still return before the deadline
  | stop       -- "stop with r"
  | fail       -- BAD_DESCRIPTOR at once: its read failed, or its TYPE is not defined
  | act        -- it is admitted, completed or refused by the command of its TYPE
  deriving DecidableEq, Repr

def State.headDo (s : State) (p r : Nat) (d : Desc) : HeadDo :=
  if d.late then .stop
  else if !d.read? then (if s.window p (queueOf r) = 2 then .wait else .stop)
  else if d.failed || !d.typed then .fail
  else if (s.badReason d).isSome || s.passes p r d then .act
  else .stop

/-- The order in which the work rings are taken at this boundary (R205). -/
def State.ringOrder (s : State) (p : Nat) : List Nat := (List.range 64).map (fun k => (SMap.get 0 s.lead p + 63 + k) % 64)

/-- The rings of a queue: the work rings in their order, or a bay queue, which has a window of its own. -/
def State.ringsIn (s : State) (p q : Nat) : List Nat := if q = 0 then s.ringOrder p else [q + 63]

def stopKey (p r : Nat) : Nat := 128 * p + r

/-- The head whose turn it is: that of the first ACTIVE ring that admission has not stopped with. -/
def State.turnHead (s : State) (p q : Nat) : Option (Nat × Desc) :=
  (s.ringsIn p q).findSome? (fun r =>
    if s.rState p r != 1 || s.stopped.contains (stopKey p r) then none else (s.headDesc p r).map (fun d => (r, d)))

/-- A ring's turn: its head is next, and there is something to do with it. -/
def State.turn (s : State) (p r : Nat) : Bool :=
  decide (2 ≤ s.window p (queueOf r)) &&
  (match s.turnHead p (queueOf r) with
   | some (k, d) => k == r && s.headDo p r d == HeadDo.act
   | none => false)

/-- Go on with admission (R202, R205): heads that fail at once complete, rings whose head must wait are stopped with until the next boundary, and the
window closes when no ring is left. -/
def State.advance (s : State) (p q : Nat) : State := if 2 ≤ s.window p q then go (s.descs.length + 64) s else s
where
  go : Nat → State → State
    | 0, s => s
    | n + 1, s =>
      match s.turnHead p q with
      | none => s.closeWindow p q
      | some (r, d) =>
        match s.headDo p r d with
        | .wait | .act => s
        | .stop => go n { s with stopped := s.stopped ++ [stopKey p r] }
        | .fail => go n ((s.endDesc d 9 0 ((s.badReason d).getD 1) true).settleRing p d.ring)

/-! ### Sampling and fetch (R199, R205, R208, R227) -/

/-- A doorbell read that is late or in error (R208): nothing is admitted from the block or word at this boundary. A partition's block
counts. -/
def State.dbFail (s : State) (p q : Nat) : State :=
  if q ≠ 0 then s.closeWindow p q
  else
    let n := SMap.get 0 s.dbFails p + 1
    let s := { s with dbFails := SMap.put 0 s.dbFails p n }
    let s := (s.bump R.WRK_DB_FAILS 0 [p] 1).bump R.SHD_DB_LATE 0 [] 1
    let s := if 8 ≤ n then s.wrkEvent p R.WRK_EVENT_DB_FAIL else s
    s.closeWindow p q

/-- `a - b` of free-running 32-bit counts (R195). -/
def sub32 (a b : Nat) : Nat := (a + 2 ^ 32 - b) % 2 ^ 32

/-- The tasks of the Sheepdog agent's reads: the doorbell block of this tick, and the entry of a free-running count. -/
def State.dbTask (s : State) : Nat := s.tick + 1
def descTask (count : Nat) : Nat := 2 ^ 64 + 1 + count

/-- Whether a read of the Sheepdog agent still has a taker: a doorbell block of this tick, a descriptor or a command that has not been read. -/
def State.readWanted (s : State) (r : Req) : Bool :=
  r.mport != 135 || r.uid != 0 || r.task == 0 || r.task == s.dbTask ||
  s.descs.any (fun (d : Desc) => d.part == r.part && r.task == descTask d.count && !d.read?) ||
  s.mgmts.any (fun (m : Mgmt) => m.part == r.part && r.task == descTask m.entry && !m.read)

/-- Check an ACTIVE ring's counts and fetch its new descriptors (R199, R205). -/
def State.sampleRing (s : State) (p r tail cplHead : Nat) : State :=
  if s.rState p r != 1 then s
  else
    let size := s.rSize p r
    if size < sub32 tail (s.rHead p r) then (s.ringError p r 6).settleRing p r
    else if size < sub32 (s.rDone p r) cplHead then (s.ringError p r 7).settleRing p r
    else
      let lim := s.ringRd R.WRK_RING_LIMIT_FETCH_MAX R.BAY_Q_LIMIT_FETCH_MAX p r
      let n := min (sub32 tail (s.rHead p r)) (min (lim - s.rFlight p r) (size - sub32 (s.rHead p r) cplHead))
      let h := s.rHead p r
      let s := { s with descs := s.descs ++ (List.range n).map (fun k => (⟨p, r, (h + k) % 2 ^ 32, none, false⟩ : Desc)) }
      let s := s.each (List.range n) (fun s k => s.locAsk (s.rLoc p r) p (s.rCtx p r) (s.rBase p r + 128 * ((h + k) % size)) 128 (descTask ((h + k) % 2 ^ 32)))
      (s.ringWr R.WRK_RING_HEAD R.BAY_Q_HEAD p r (h + n)).addFlight p r n

/-- Fetch management commands, at most 16 with the Pack (R225, R227). -/
def State.sampleMgmt (s : State) (p tail cplHead : Nat) : State :=
  if !s.rdB R.WRK_MGMT_CFG_ENABLE 0 [p] || SMap.get 0 s.mgmtBad p != 0 then s
  else
    let size := 2 ^ s.rd R.WRK_MGMT_CFG_SIZE_LOG2 0 [p]
    let h := SMap.get 0 s.mgmtHead p
    let dn := SMap.get 0 s.mgmtDone p
    if size < sub32 tail h then s.mgmtError p 6
    else if size < sub32 dn cplHead then s.mgmtError p 7
    else
      let n := min (sub32 tail h) (min (16 - (s.mgmts.filter (fun m => m.part == p)).length) (size - sub32 h cplHead))
      { s with mgmts := s.mgmts ++ (List.range n).map (fun k => (⟨p, (h + k) % 2 ^ 32, [], false, 0, 0, [], none⟩ : Mgmt)),
               mgmtHead := SMap.put 0 s.mgmtHead p ((h + n) % 2 ^ 32) }

/-- Where the doorbell block of a partition or the doorbell word of a bay queue lies: LOC, address, and the length of its read (R196, R378). -/
def State.dbPlace (s : State) (p q : Nat) : Bool × Nat × Nat :=
  if q = 0 then
    let top := (List.range 64).foldl (fun m r => if s.rState p r = 0 then m else r + 1) 0
    (s.rdB R.WRK_DB_LO_LOC 0 [p], s.rd R.WRK_DB_HI_ADDR 0 [p] * 2 ^ 32 + s.rd R.WRK_DB_LO_ADDR 0 [p] * 2048, 0x40 + 16 * top)
  else
    let ix := [p, q - 1]
    (s.rdB R.BAY_Q_DB_LO_LOC 0 ix, s.rd R.BAY_Q_DB_HI 0 ix * 2 ^ 32 + s.rd R.BAY_Q_DB_LO_ADDR 0 ix * 16, 16)

/-- Whether a doorbell read goes to the host. -/
def State.dbHost (s : State) (p q : Nat) : Bool := let x := s.dbPlace p q; !x.1 || isHost x.2.1

/-- The doorbell block of a partition, or a bay queue's doorbell word, returns (R196, R205, R378). -/
def State.doorbell (s : State) (p q : Nat) (ok : Bool) (data : List Byte) : State :=
  if s.window p q != 1 then s
  else
    let (loc, addr, len) := s.dbPlace p q
    let (s, r) := s.locRead loc p 0 addr len s.dbTask ok data
    match r with
    | none => s.dbFail p q
    | some b =>
      let n (o : Nat) : Nat := leNat ((b.drop o).take 4)
      if q = 0 then
        let top := (len - 0x40) / 16
        let s := { s with dbFails := SMap.del s.dbFails p }
        let s := s.sampleMgmt p (n 0) (n 4)
        let s := s.each (List.range top) (fun s r => s.sampleRing p r (n (0x40 + 16 * r)) (n (0x44 + 16 * r)))
        let first := (((List.range 64).map (fun k => (SMap.get 0 s.lead p + k) % 64)).find? (fun r => s.rState p r == 1)).map (· + 1)
        let s := { s with lead := SMap.put 0 s.lead p (first.getD (SMap.get 0 s.lead p)) }
        (s.setWindow p q 2).advance p q
      else ((s.sampleRing p (q + 63) (n 0) (n 4)).setWindow p q 2).advance p q

def execDoorbellReadReturn (part queue : Nat) (ok : Bool) (data : List (BitVec 8)) (s : State) : Result :=
  within s (decide (part < 64) && decide (queue < 17)) (s.orWait (fun s => s.doorbell part queue ok data))

/-- The fetch deadline passes for a queue whose counts have come (R208): descriptors not read yet wait for a later boundary. -/
def State.markLate (s : State) (p q : Nat) : State :=
  let late (d : Desc) : Bool := d.part == p && queueOf d.ring == q && !d.read?
  (({ s with descs := s.descs.map (fun (d : Desc) => if late d then { d with late := true } else d) }).bump R.SHD_DESC_LATE 0 []
    (s.descs.filter late).length).setWindow p q 3

/-- The fetch deadline passes (R208). -/
def execFetchDeadline (part queue : Nat) (s : State) : Result :=
  within s (decide (part < 64) && decide (queue < 17)) (
    if s.window part queue = 1 then s.dbFail part queue
    else if s.window part queue = 2 then (s.markLate part queue).advance part queue
    else s)

/-- Take what reads of structures have brought, one after another: the first of them that has no answer yet waits, with all after it. -/
def State.takeReads {α : Type} (s : State) (read : State → α → Nat → State × Option (List Byte)) (act : State → α → Option (List Byte) → State) :
    List α → Nat → State
  | [], _ => s
  | x :: l, k =>
    let (t, b) := read s x k
    if t.ask ≠ [] then s.sendFor (fun s => (read s x k).1) else (act t x b).takeReads read act l (k + 1)

/-- Management commands return. -/
def State.mgmtReturn (s : State) (p : Nat) (ok : Bool) (data : List Byte) : State :=
  let un := s.mgmts.filter (fun m => m.part == p && !m.read && m.answer.isNone)
  let base := s.rd R.WRK_MGMT_HI 0 [p] * 2 ^ 32 + s.rd R.WRK_MGMT_LO_ADDR 0 [p] * 64
  let size := 2 ^ s.rd R.WRK_MGMT_CFG_SIZE_LOG2 0 [p]
  let loc := s.rdB R.WRK_MGMT_LO_LOC 0 [p]
  let m := if (!loc || isHost base) && ok then data.length / 128 else un.length
  s.takeReads (fun s (x : Mgmt) k => s.locRead loc p 0 (base + 128 * (x.entry % size)) 128 (descTask x.entry) ok (data.drop (128 * k)))
    (fun s x b =>
      match b with
      | some bs => { s with mgmts := s.mgmts.map (fun (y : Mgmt) => if y.part == p && y.entry == x.entry then { y with cmd := bs, read := true } else y) }
      | none => s.mgmtAnswer { x with cmd := [] } 9 0 6) (un.take m) 0

/-- Fetched descriptors of a ring return, or its management commands for ring 80; a failed read fails all that are outstanding. -/
def State.descReturn (s : State) (p r : Nat) (ok : Bool) (data : List Byte) : State :=
  if r = 80 then s.mgmtReturn p ok data
  else
    let un := s.descs.filter (fun d => d.part == p && d.ring == r && !d.read?)
    let loc := s.rLoc p r
    let m := if (!loc || isHost (s.rBase p r)) && ok then data.length / 128 else un.length
    let s := s.takeReads (fun s (x : Desc) k => s.locRead loc p (s.rCtx p r) (s.rBase p r + 128 * (x.count % s.rSize p r)) 128 (descTask x.count) ok (data.drop (128 * k)))
      (fun s x b => { s with descs := s.descs.map (fun (y : Desc) => if y.part == p && y.ring == r && y.count == x.count then { y with data := some b } else y) })
      (un.take m) 0
    s.advance p (queueOf r)

def execDescriptorReadReturn (part ring : Nat) (ok : Bool) (data : List (BitVec 8)) (s : State) : Result :=
  within s (decide (part < 64) && decide (ring < 81)) (s.descReturn part ring ok data)

/-! ### Admission (R203 to R205, R244) -/

/-- When a unit admitted now has its budget end (R203, R244), in whole ns. -/
def State.budgetEnd (s : State) (p c budget : Nat) : Nat :=
  let t := s.rd R.TCK_TOD 0
  let P := s.period
  max (t + P / 256) (t + (budget + 1) * P / 256 - SMap.get 0 s.early (16 * p + c))

/-- The unit a descriptor becomes. -/
def State.newUnit (s : State) (d : Desc) (kind : UnitKind) (cs : List Nat) : WUnit :=
  let c := s.rCtx d.part d.ring
  { id := s.nextUid, kind := kind, part := d.part, ring := d.ring, count := d.count, ctx := c, tag := d.nat 4 4, irq := bit (d.nat 1 1) 1,
    gen := s.gen d.part, image := d.nat 0x10 2, argAddr := d.nat 0x18 8, seedMix := d.nat 0x20 8, clusters := cs, startTick := s.tick,
    admitted := s.rd R.TCK_TOD 0, budgetEnd := s.budgetEnd d.part c (d.nat 3 1), boundaries := 0, hard := false, overran := false,
    released := false, stopped := false, done := false, ending := none, capped := 0, mute := 0, endedAt := 0, desc := d.bytes }

/-- Admit a descriptor as a unit. -/
def State.takeUnit (s : State) (d : Desc) (kind : UnitKind) (cs : List Nat) : State :=
  let u := s.newUnit d kind cs
  let s := { s with units := s.units ++ [u], nextUid := s.nextUid + 1,
                    descs := s.descs.filter (fun (e : Desc) => !(e.part == d.part && e.ring == d.ring && e.count == d.count)) }
  s.bump R.SHD_ADMITTED 0 [] 1

/-- Put a kernel unit on its clusters (R205: mark them busy; steps 1 to 5 of R80 follow). -/
def State.assign (s : State) (d : Desc) (uid : Nat) (img : List Byte) (cs : List Nat) : State :=
  cs.zipIdx.foldl (fun (s : State) (x : Nat × Nat) =>
    let c := x.1
    let s := s.setClu c { s.clu c with unit := some uid, logical := x.2, loaded := false, ended := false }
    let s := s.wrs (cluDie c) (cluIx c) [(R.CLU_STATUS_STATE, 1), (R.CLU_STATUS_CONTEXT, s.rCtx d.part d.ring), (R.CLU_STATUS_TILE_MASK, imgMask img x.2),
      (R.CLU_UNIT_RING, 64 * d.part + d.ring), (R.CLU_UNIT_INDEX, d.count % s.rSize d.part d.ring)]
    s.each (List.range 16) (fun s t => s.wrTil R.TIL_STATUS_STATE (16 * c + t) 0)) s

/-- A descriptor that completes without a unit: MARKER, NO_PLACEMENT and what the checks refuse (R202, R204, R205). -/
def State.completeDesc (s : State) (d : Desc) (status d1 : Nat) : State :=
  if status = 0 then
    let s := { s with descs := s.descs.filter (fun e => !(e.part == d.part && e.ring == d.ring && e.count == d.count)) }
    (s.record d.part d.ring
      { count := d.count, tag := d.nat 4 4, irq := bit (d.nat 1 1) 1, overran := false, status := 0, d0 := 0, d1 := 0, startTick := s.tick,
        runUs := (s.now - s.rd R.TCK_TOD 0) / 1000, capped := 0, gen := s.gen d.part, ctx := s.rCtx d.part d.ring }).settleRing d.part d.ring
  else (s.endDesc d status 0 d1 true).settleRing d.part d.ring

/-- Act on the head of a ring whose turn it is, if it is of the TYPE given and `sel` accepts it: BAD_DESCRIPTOR, or what `f` makes of it. -/
def State.onHead (s : State) (p r dt : Nat) (kind : Nat) (sel : Desc → Bool) (f : State → Desc → State) : State :=
  let s := s.advance p (queueOf r)
  match s.headDesc p r with
  | none => s
  | some d =>
    if !s.turn p r || d.kind != kind || !sel d then s
    else
      let s := s.at_ dt
      (match s.badReason d with
       | some reason => s.completeDesc d 9 reason
       | none => f s d).advance p (queueOf r)

/-- A KERNEL descriptor at the head of its ring (R205); on a bay queue it goes to the chiplet as BW_DESC (R379). -/
def State.kernel (s : State) (p r dt : Nat) : State :=
  s.onHead p r dt 1 (fun _ => true) (fun s d =>
    if r < 64 then
      match s.image? p (s.rCtx p r) (d.nat 0x10 2) with
      | none => s
      | some i =>
        match s.place p i.data with
        | none => s.completeDesc d 8 ((s.clustersOf p).length * 2 ^ 16 + imgClusters i.data)
        | some cs => (s.takeUnit d .kernel cs).assign d s.nextUid i.data cs
    else
      let b := s.rd R.BAY_Q_BIND_BAY 0 [p, r - 64]
      (s.takeUnit d .bay []).bwSend b 0x30 (s.bwId p r d.count) (s.gen p) p (s.rCtx p r) 0 (d.count % 2 ^ 32) 0 d.bytes)

def execKernel (part ring dt : Nat) (s : State) : Result := within s (decide (part < 64) && decide (ring < 80)) (s.kernel part ring dt)

/-- A MARKER completes OK at admission (R204). -/
def execMarker (part ring dt : Nat) (s : State) : Result :=
  within s (decide (part < 64) && decide (ring < 80)) (s.onHead part ring dt 3 (fun _ => true) (fun s d => s.completeDesc d 0 0))

/-! ### Completion (R211, R244, R246) -/

/-- Charge an overrun (R244). -/
def State.charge (s : State) (p c late : Nat) : State :=
  s.wr R.TCK_DEBT 0 [16 * p + c] (min (s.rd R.TCK_DEBT 0 [16 * p + c] + late) (16 * s.period))

/-- Images that were unregistered and that no unit uses any more are gone (R226). -/
def State.dropImages (s : State) : State :=
  { s with images := s.images.filter (fun i => i.live || s.units.any (fun u => u.kind == .kernel && u.part == i.part && u.ctx == i.ctx && u.image == i.handle)) }

/-- Slots that have arrived at a tile and have not been received are discarded when its unit ends (R67). -/
def State.discardSlots (s : State) (t : Nat) : State :=
  let x := s.tile t
  if x.ins.isEmpty then s else s.setTile t { x with ins := x.ins.map (fun (e : Nat × ChanIn) => (e.1, { e.2 with arrived := 0, reserved := 0 })) }

/-- A cluster of a unit that has ended: HELD, which is a debug touch of its context (R510), or idle from the next boundary on (R91, R92,
R241). -/
def State.releaseClu (s : State) (u : WUnit) (faulted : Bool) (c : Nat) : State :=
  let s := if s.rdClu R.CLU_CTRL_PERF_ENABLE c = 1 then s.bump R.CLU_PERF_UNITS (cluDie c) (cluIx c) 1 else s
  let s := s.setClu c { s.clu c with unit := none, loaded := false, ended := false, lastCtx := (if (s.clu c).loaded then some (16 * u.part + u.ctx) else (s.clu c).lastCtx) }
  let s := { s with freed := s.freed ++ [c] }
  if faulted && s.rdClu R.CLU_CTRL_HOLD_ON_FAULT c == 1 then (s.wrClu R.CLU_STATUS_STATE c 5).touchCtx u.part u.ctx
  else
    let s := s.noUnit c
    let s := s.each (List.range 16) (fun s t => s.discardSlots (16 * c + t))
    let s := s.each (List.range 16) (fun s t => s.wrTil R.TIL_STATUS_STATE (16 * c + t) 0)
    s.wrClu R.CLU_STATUS_STATE c (s.idleState c)

/-- A unit's record is written and the unit is gone (R211, R212, R215, R224, R246). -/
def State.finishUnit (s : State) (u : WUnit) : State :=
  let late := u.overran || decide (u.budgetEnd < s.now)
  let e : Ending := u.ending.getD ⟨if late then 1 else 0, 0, 0⟩
  let capped := u.clusters.foldl (fun n c => n + (s.clu c).capped) u.capped
  let s := if late && u.mute != 2 then s.charge u.part u.ctx (s.now - u.budgetEnd) else s
  let s := s.each u.clusters (fun s c => s.releaseClu u (e.status == 3) c)
  let s := { s with units := s.units.filter (fun v => v.id != u.id) }
  let s := s.dropImages.forsake (fun r => r.uid == u.id)
  if u.mute = 0 then
    (s.record u.part u.ring
      { count := u.count, tag := u.tag, irq := u.irq, overran := late, status := e.status, d0 := e.d0, d1 := e.d1, startTick := u.startTick % 2 ^ 32,
        runUs := (s.now - u.admitted) / 1000, capped := capped, gen := u.gen, ctx := u.ctx }).settleRing u.part u.ring
  else if u.mute = 1 then
    let s := s.addFlight u.part u.ring (-1)
    (if e.status = 5 then s.countAbort u.part u.ring else s).drained u.part u.ring
  else s

/-- A unit's memory writes that are not acknowledged (R211). -/
def State.writesOut (s : State) (uid : Nat) : Bool := s.reqs.any (fun q => q.uid == uid && q.stage != .here && (q.op == .wrInv || q.op == .wrPlace || q.op == .atomic))

/-- A unit whose fourth boundary has come and on which the Sheepdog has not acted yet (R245). -/
def WUnit.atLimit (u : WUnit) : Bool := !u.hard && decide (4 ≤ u.boundaries)

/-- The completion record of a unit on clusters, at the Retriever, or of a bay that no longer answers (R211, R385). One that has not been written
before the fourth boundary waits for the hard limit (R245). -/
def execCompletionRecordWrite (uid dt : Nat) (s : State) : Result :=
  within s true (match s.unit? uid with
    | none => s
    | some u => if !u.done || u.atLimit || s.writesOut uid then s else (s.at_ dt).finishUnit u)

/-! ### Rings (R220, R221, R229) -/

/-- A write of WRK_RING_CFG with ENABLE = 1 (R220, R229). -/
def execRingEnable (part ring value : Nat) (s : State) : Result :=
  within s (decide (part < 64) && decide (ring < 64) && decide (value < 2 ^ 32)) (
    let ix := [part, ring]
    let off := R.WRK_RING_CFG_ENABLE.offset ix
    let st := s.rd R.PAR_CTX_CFG_STATE 0 [part, bits value 24 4]
    let fs := [R.WRK_RING_CFG_ENABLE, R.WRK_RING_CFG_IRQ_ALL, R.WRK_RING_CFG_CONTEXT, R.WRK_RING_CFG_SIZE_LOG2,
      R.WRK_RING_CFG_INT_BAY, R.WRK_RING_CFG_BAY, R.WRK_RING_CFG_VECTOR]
    if !bit value 31 then s
    else if s.rState part ring != 0 then s.regWrite .WRK 0 ix value (fun _ => true) fs
    else if st == 0 || st == 3 then s.cfgErr .WRK 0 ix off
    else
      let s := s.regWrite .WRK 0 ix value (fun _ => false) fs
      if st = 2 then s.setRing part ring 3 3 else s.setRing part ring 1 0)

/-- STOP written to a ring (R221). -/
def State.ringStop (s : State) (p r : Nat) : State :=
  if s.rState p r != 1 then s
  else ((s.setRing p r 2 1).endDescs p r 5 6 true).drained p r

/-- A ring is IDLE, with its counts and ENABLE cleared (R221). -/
def State.ringIdle (s : State) (p r : Nat) : State :=
  (((s.ringWr R.WRK_RING_HEAD R.BAY_Q_HEAD p r 0).ringWr R.WRK_RING_DONE R.BAY_Q_DONE p r 0).ringWr R.WRK_RING_CFG_ENABLE R.BAY_Q_CFG_ENABLE p r 0).setRing p r 0 0

/-- RESET written to a ring (R221). -/
def State.ringReset (s : State) (p r : Nat) : State :=
  if (s.rState p r == 3 || s.rState p r == 4) && s.rFlight p r == 0 then s.ringIdle p r else s

def execRingStop (part ring : Nat) (s : State) : Result := within s (decide (part < 64) && decide (ring < 64)) (s.ringStop part ring)
def execRingReset (part ring : Nat) (s : State) : Result := within s (decide (part < 64) && decide (ring < 64)) (s.ringReset part ring)

/-- A write of WRK_MGMT_CFG with ENABLE = 1 (R225, R229): its counts start at 0 (R198). -/
def execMgmtQueueEnable (part value : Nat) (s : State) : Result :=
  within s (decide (part < 64) && decide (value < 2 ^ 32)) (
    if !bit value 31 then s
    else if s.rdB R.WRK_MGMT_CFG_ENABLE 0 [part] then
      s.regWrite .WRK 0 [part] value (fun _ => true) [R.WRK_MGMT_CFG_ENABLE, R.WRK_MGMT_CFG_SIZE_LOG2, R.WRK_MGMT_CFG_VECTOR]
    else
      let s := s.regWrite .WRK 0 [part] value (fun _ => false) [R.WRK_MGMT_CFG_ENABLE, R.WRK_MGMT_CFG_SIZE_LOG2, R.WRK_MGMT_CFG_VECTOR]
      { s with mgmtHead := SMap.del s.mgmtHead part, mgmtDone := SMap.del s.mgmtDone part })

/-- CLEAR_STATS of the SHD block (R228). -/
def execShdClearStats (s : State) : Result :=
  within s true (s.clear 0 [R.SHD_WINDOW_WINDOW_MAX, R.SHD_DB_LATE, R.SHD_DESC_LATE, R.SHD_ADMITTED])

/-! ### Budgets and the hard limit (R203, R244 to R246) -/

/-- A unit still running at its budget end is marked (R246). -/
def execBudgetEnd (uid : Nat) (s : State) : Result :=
  within s true (match s.unit? uid with
    | none => s
    | some u =>
      let s := { s with now := max s.now u.budgetEnd }
      s.updUnit uid (fun u => { u with overran := true }))

/-- The fourth boundary after a unit's admission (R222, R245). Every unit of the context that has come to it reaches its hard limit there; the
others end ABORTED (R215). -/
def execHardLimit (uid : Nat) (s : State) : Result :=
  within s true (match s.unit? uid with
    | none => s
    | some u =>
      if !u.atLimit then s
      else
        let s := { s with units := s.units.map (fun (v : WUnit) =>
          if v.part == u.part && v.ctx == u.ctx && v.atLimit then
            { v with hard := true, overran := true, stopped := v.stopped || v.done, ending := some (v.ending.getD ⟨6, 0, 0⟩) }
          else v) }
        (s.stopCtx u.part u.ctx 4 2).wrkEvent u.part R.WRK_EVENT_HARD_LIMIT)

end Sys2Proof.Machine
end

