-- ==== Sys2Proof/Machine/Retriever.lean ====
section
/-! DEFINITION. The Retriever (R318 to R321): a command admits a descriptor and performs its whole operation once all it reads and all
translations are at hand (log entry 119); issued again, it goes on with the unit that waits. The unit's record follows with
COMPLETION_RECORD_WRITE, after the drain for a MIGRATE that invalidates. -/

namespace Sys2Proof.Machine

def Desc.op (d : Desc) : Nat := d.nat 0x10 1
def Desc.dieField (d : Desc) : Nat := d.nat 0x12 1
def Desc.src (d : Desc) : Nat := d.nat 0x20 8
def Desc.dst (d : Desc) : Nat := d.nat 0x28 8
def Desc.len (d : Desc) : Nat := d.nat 0x30 8

/-- The Retriever's own checks (R321). -/
def Desc.opOk (d : Desc) : Bool :=
  let op := d.op
  let two := op == 1 || op == 2
  decide (1 ≤ op) && decide (op ≤ 5) &&
  (if op = 3 then decide (d.dieField < 16) else decide (d.dieField < 4) || d.dieField == 0xFF) &&
  d.src % 64 == 0 && decide (d.src < 2 ^ 48) && (!two || (d.dst % 64 == 0 && decide (d.dst < 2 ^ 48))) &&
  d.len % 64 == 0 && decide (64 ≤ d.len) && decide (d.len ≤ 2 ^ 40) &&
  (op != 2 || (decide (d.nat 0x38 8 < 2 ^ 48) && decide (d.nat 0x40 4 ≤ 65536) && d.nat 0x48 8 % 4096 == 0))

/-- The die of the memory a virtual address names, if it translates (R318). -/
def State.vaDie (s : State) (a : Virt) (va : Nat) : Option Nat × State :=
  if isHost va then (none, s)
  else match s.xlate a va false with
    | (.hit e, s) => ((s.decode (e.addr va)).map (fun x => qDie x.1), s)
    | (_, s) => (none, s)

/-- The die that runs a descriptor (R318): that of DST, else of SRC, else the partition's first. -/
def State.rtrDie (s : State) (d : Desc) (uid : Nat) : Nat × State :=
  if d.dieField < 4 then (d.dieField, s)
  else
    let home := s.partDie d.part
    let a : Virt := ⟨home, d.part, s.rCtx d.part d.ring, 9728 + home, false, uid, 0⟩
    match (if d.op = 1 ∨ d.op = 2 then s.vaDie a d.dst else (none, s)) with
    | (some x, s) => (x, s)
    | (none, s) => let (x, s) := s.vaDie a d.src; (x.getD home, s)

/-- The ending of an access at offset `off` of a transfer, with its fault recorded (R316, R317). -/
def State.rtrEnd (s : State) (a : Virt) (r : VRes) (off : Nat) : State × Option Ending :=
  match r with
  | .fault va k => (s.xltFault a.part a.ctx va k, some ⟨2, va % 2 ^ 48, k * 2 ^ 28 + min (2 ^ 28 - 1) off⟩)
  | r => (s, s.vEnding a.part r 0)

/-- A failure of a descending copy names the last byte of its line. -/
def VRes.last (r : VRes) (down : Bool) : VRes :=
  match r with
  | .fault va k => .fault (if down then va + 63 else va) k
  | r => r

/-- Copy the `k`-th 64-byte line; a fault names the first byte that faults in the copy's order. -/
def State.copyStep (s : State) (a : Virt) (src dst : Nat) (host : List Byte) (k : Nat) (down : Bool) : State × Option Ending :=
  let off := if down then 64 * k + 63 else 64 * k
  match s.virtReadH a (src + 64 * k) 64 (host.drop (64 * k)) with
  | (.ok bs, s) =>
    (match s.virtWriteV a (dst + 64 * k) bs with
     | (.ok _, s) => (s, none)
     | (r, s) => s.rtrEnd a (r.last down) off)
  | (r, s) => s.rtrEnd a (r.last down) off

/-- COPY in its order (R320): descending when the ranges overlap and the destination lies above the source. -/
def State.copyRange (s : State) (a : Virt) (src dst len : Nat) (host : List Byte) : State × Option Ending :=
  let down := overlaps src len dst len && decide (src < dst)
  let ks := List.range (len / 64)
  (if down then ks.reverse else ks).foldl (fun acc k =>
    match acc with
    | (s, none) => s.copyStep a src dst host k down
    | r => r) (s, none)

/-- Whether a DPA lies in a table reached from a table of a level, as a walk would reach it (R299, R300, R319): `ok [1]` where it does. -/
def State.inTable (s : State) (a : Virt) (dpa : Nat) : Nat → Nat → MemRes × State
  | 0, table => (.ok (if decide (table ≤ dpa) && decide (dpa < table + 4096) then [1] else []), s)
  | n + 1, table =>
    let size := if n = 2 then 2048 else 4096
    if decide (table ≤ dpa) && decide (dpa < table + size) then (.ok [1], s)
    else if !s.inQuota a.part table size then (.ok [], s)
    else
      match s.physRead a.agent table size with
      | (.ok bs, s) =>
        (List.range (size / 8)).foldl (fun acc i =>
          match acc with
          | (.ok [], s) =>
            let e := leNat ((bs.drop (8 * i)).take 8)
            if bit e 0 && !bit e 1 then s.inTable a dpa n (bits e 12 32 * 4096) else (.ok [], s)
          | r => r) (.ok [], s)
      | r => r

/-- Whether every entry of a MIGRATE list may be written (R319). -/
def State.listOk (s : State) (a : Virt) (l : List (Nat × Nat)) : MemRes × State :=
  let root := s.rd R.XLT_CTX_ROOT_ROOT 0 [a.part, a.ctx] * 2048
  l.foldl (fun acc x =>
    match acc with
    | (.ok [1], s) => if x.1 % 8 != 0 || !s.inQuota a.part x.1 8 then (.ok [], s) else s.inTable a x.1 3 root
    | r => r) (.ok [1], s)

/-- What an operation of the Retriever does for its unit: the state, how it ended, and whether a drain is left. -/
abbrev RtrOp := Desc → State → Nat → Virt → State × Option Ending × Bool

/-- The descriptor of an admitted unit. -/
def WUnit.descr (u : WUnit) : Desc := { part := u.part, ring := u.ring, count := u.count, data := some (some u.desc), late := false }

/-- Perform an operation for its unit, and note how it ended; the unit waits for its drain if the operation says so. -/
def State.rtrRun (s : State) (uid : Nat) (f : RtrOp) : State :=
  match s.unit? uid with
  | none => s
  | some u =>
    s.orWait (fun s =>
      let d := u.descr
      let (die, s) := s.rtrDie d uid
      let (s, e, wait) := f d s uid ⟨die, u.part, u.ctx, 9728 + die, bit (d.nat 0x11 1) 0, uid, 0⟩
      s.updUnit uid (fun u => { u with ending := e, done := !wait, released := true }))

/-- Admit a descriptor for the Retriever, and begin. -/
def State.rtrUnit (s : State) (d : Desc) (f : RtrOp) : State := (s.takeUnit d .retriever []).rtrRun s.nextUid f

/-- The oldest Retriever unit of a ring that waits to go on with an operation. -/
def State.rtrWaiting (s : State) (p r op : Nat) : Option WUnit :=
  s.units.find? (fun (u : WUnit) => u.kind == .retriever && u.part == p && u.ring == r && !u.released && !u.done && u.ending.isNone && u.descr.op == op)

/-- A Retriever descriptor of one OP at the head of its ring is admitted, or the ring's waiting unit of that OP goes on. -/
def State.rtr (s : State) (p r dt op : Nat) (f : RtrOp) : State :=
  let mine (d : Desc) : Bool := d.op == op && d.opOk
  if (s.headDesc p r).any mine && s.turn p r then s.onHead p r dt 2 mine (fun s d => s.rtrUnit d f)
  else
    match s.rtrWaiting p r op with
    | some u => (s.at_ dt).rtrRun u.id f
    | none => s

def copyOp (host : List Byte) : RtrOp := fun d s _ a =>
  let (s, e) := s.copyRange a d.src d.dst d.len host
  (s, e, false)

/-- COPY (R319, R320). `host` is what the host holds at the source pages of the host half, from SRC on. -/
def execCopy (part ring dt : Nat) (host : List (BitVec 8)) (s : State) : Result :=
  within s (decide (part < 64) && decide (ring < 64)) (s.rtr part ring dt 1 (copyOp host))

/-- The entries of a MIGRATE list: DPA and value. -/
def listOf (n : Nat) (bs : List Byte) : List (Nat × Nat) := (List.range n).map (fun k => (leNat ((bs.drop (16 * k)).take 8), leNat ((bs.drop (16 * k + 8)).take 8)))

def migrateOp (host : List Byte) : RtrOp := fun d s uid a =>
    match s.copyRange a d.src d.dst d.len host with
    | (s, some e) => (s, some e, false)
    | (s, none) =>
      let n := d.nat 0x40 4
      match s.virtReadH a (d.nat 0x38 8) (16 * n) (host.drop d.len) with
      | (.ok bs, s) =>
        let l := listOf n bs
        match s.listOk a l with
        | (.ok [1], s) =>
          let (s, e) := l.foldl (fun (acc : State × Option Ending) x =>
            match acc with
            | (s, none) =>
              let (r, s) := s.physWrite a.agent x.1 (leBytes 8 x.2)
              s.rtrEnd a (ofMem r x.1) 0
            | r => r) (s, none)
          (match e with
           | some e => (s, some e, false)
           | none =>
             if d.nat 0x50 8 = 0 then (s, none, false)
             else (s.invalidate a.part a.ctx (d.nat 0x48 8) (d.nat 0x50 8 * 4096) (.unit uid), none, true))
        | (.ok _, s) => (s, some ⟨0x41, 0, 0⟩, false)
        | (r, s) => let (s, e) := s.rtrEnd a (ofMem r 0) 0; (s, e, false)
      | (r, s) => let (s, e) := s.rtrEnd a r (match r with | .fault va _ => va - d.nat 0x38 8 | _ => 0); (s, e, false)

/-- MIGRATE (R319): the copy, the list, then the invalidation. `host` is the source in the host half followed by the list there. -/
def execMigrate (part ring dt : Nat) (host : List (BitVec 8)) (s : State) : Result :=
  within s (decide (part < 64) && decide (ring < 64)) (s.rtr part ring dt 2 (migrateOp host))

/-- Warm one page on the dies named: the kind of the first that does not translate, or the end of the unit (log entry 64). -/
def State.warmPage (s : State) (a : Virt) (dies : List Nat) (va : Nat) : State × Option Nat × Option Ending :=
  dies.foldl (fun (acc : State × Option Nat × Option Ending) die =>
    match acc with
    | (s, k, some e) => (s, k, some e)
    | (s, k, none) =>
      match s.xlate ⟨die, a.part, a.ctx, 9728 + die, a.stream, a.uid, 0⟩ va false with
      | (.fault f, s) => (s, k.orElse (fun _ => some f), none)
      | (.ue d p, s) => (s, k, s.vEnding a.part (.ue d p) 0)
      | (.down, s) => (s, k, s.vEnding a.part .down 0)
      | (_, s) => (s, k, none)) (s, none, none)

def warmOp : RtrOp := fun d s _ a =>
    let dies := if d.dieField = 0 then (List.range 4).filter (fun x => (s.clustersOf a.part).any (fun c => cluDie c == x)) else (List.range 4).filter (bit d.dieField)
    let (s, bad, n, e) := (pagesOf d.src d.len).foldl (fun (acc : State × Option (Nat × Nat) × Nat × Option Ending) pt =>
      match acc with
      | (s, bad, n, some e) => (s, bad, n, some e)
      | (s, bad, n, none) =>
        match s.warmPage a dies pt.1 with
        | (s, _, some e) => (s, bad, n, some e)
        | (s, none, none) => (s, bad, n, none)
        | (s, some f, none) => (s, bad.orElse (fun _ => some (pt.1, f)), n + 1, none)) (s, none, 0, none)
    (s, e.orElse (fun _ => bad.map (fun b => ⟨0x42, b.1 % 2 ^ 48, b.2 * 2 ^ 28 + n % 2 ^ 28⟩)), false)

/-- WARM (R319, R321): every page into the TLBs of the dies named; pages that do not translate are counted. -/
def execWarm (part ring dt : Nat) (s : State) : Result :=
  within s (decide (part < 64) && decide (ring < 64)) (s.rtr part ring dt 3 warmOp)

def fillOp (host : List Byte) : RtrOp := fun d s _ a =>
    let a := { a with stream := false }
    let (s, e) := (List.range (d.len / 64)).foldl (fun (acc : State × Option Ending) k =>
      match acc with
      | (s, none) =>
        let (r, s) := s.virtReadH a (d.src + 64 * k) 64 (host.drop (64 * k))
        s.rtrEnd a r (64 * k)
      | r => r) (s, none)
    (s, e, false)

/-- STC_FILL (R319): the range is read into the stack cache under NORMAL. -/
def execStcFill (part ring dt : Nat) (host : List (BitVec 8)) (s : State) : Result :=
  within s (decide (part < 64) && decide (ring < 64)) (s.rtr part ring dt 4 (fillOp host))

/-- Write back the dirty sectors of 64 bytes of memory; the line stays valid (R319). -/
def State.clean64 (s : State) (dpa : Nat) : State :=
  match s.decode dpa with
  | none => s
  | some (q, loc) =>
    match s.stcFind q (loc / 256) with
    | none => s
    | some l =>
      let m := l.dirty &&& touchedM (byteMask (loc % 256) 64)
      (s.writeBack { l with dirty := m }).stcSetLine { l with dirty := l.dirty - m }

def cleanOp : RtrOp := fun d s _ a =>
    let (s, e) := (List.range (d.len / 64)).foldl (fun (acc : State × Option Ending) k =>
      match acc with
      | (s, none) =>
        let va := d.src + 64 * k
        (match s.xlate a va false with
         | (.hit e, s) =>
           if isHost va then (s, none)
           else (match s.decode (e.addr va) with
             | none => s.rtrEnd a (.fault va 4) (64 * k)
             | some (q, _) =>
               if !s.homeUp q then s.rtrEnd a .down (64 * k)
               else if s.island a.die != s.island (qDie q) then s.rtrEnd a (.fault va 9) (64 * k)
               else (s.clean64 (e.addr va), none))
         | (.fault f, s) => s.rtrEnd a (.fault va f) (64 * k)
         | (.ue x y, s) => s.rtrEnd a (.ue x y) (64 * k)
         | (.down, s) => s.rtrEnd a .down (64 * k)
         | (.miss, s) => (s, none))
      | r => r) (s, none)
    (s, e, false)

/-- STC_CLEAN (R319). -/
def execStcClean (part ring dt : Nat) (s : State) : Result :=
  within s (decide (part < 64) && decide (ring < 64)) (s.rtr part ring dt 5 cleanOp)

/-- A descriptor the Retriever refuses (R321). -/
def execRtrBadOp (part ring dt : Nat) (s : State) : Result :=
  within s (decide (part < 64) && decide (ring < 64)) (
    s.onHead part ring dt 2 (fun d => !d.opOk) (fun s d =>
      (s.takeUnit d .retriever []).updUnit s.nextUid (fun u => { u with ending := some ⟨0x40, 0, 0⟩, done := true, released := true })))

end Sys2Proof.Machine
end

