-- ==== Sys2Proof/Machine/Mgmt.lean ====
section
/-! DEFINITION. The management queue (R186, R187, R222, R225 to R227, R313, R558, R559, R581): image registration, stopping and
resuming contexts, invalidation. -/

namespace Sys2Proof.Machine

def Mgmt.nat (m : Mgmt) (off n : Nat) : Nat := leNat ((m.cmd.drop off).take n)
def Mgmt.code (m : Mgmt) : Nat := m.nat 0 1
def Mgmt.ctx (m : Mgmt) : Nat := m.nat 1 1 % 16
def Mgmt.addr (m : Mgmt) : Nat := m.nat 8 8
def Mgmt.len (m : Mgmt) : Nat := m.nat 0x10 4

/-- Whether a bit that the command's definition leaves unused is set (R581): which of HANDLE, ADDR and BYTES it names, how many bits
of HANDLE, and from which offset the rest must be 0. -/
def Mgmt.unusedSet (m : Mgmt) (handle addr len : Bool) (hbits rest : Nat) : Bool :=
  m.nat 1 1 / 16 != 0 || (if handle then decide (2 ^ hbits ≤ m.nat 2 2) else m.nat 2 2 != 0) ||
  (if addr then decide (2 ^ 48 ≤ m.addr) else m.addr != 0) || (!len && m.len != 0) || m.nat rest (128 - rest) != 0

/-- The command the Pack works on: the oldest of the partition, once its read has returned and while nothing of it is in progress. -/
def State.mgmtHead? (s : State) (p : Nat) : Option Mgmt :=
  match s.mgmts.find? (fun m => m.part == p) with
  | some m => if m.read && m.stage == 0 && m.answer.isNone then some m else none
  | none => none

/-- Whether a context is ACTIVE or STOPPED (R581). -/
def State.ctxLive (s : State) (p c : Nat) : Bool := let st := s.rd R.PAR_CTX_CFG_STATE 0 [p, c]; st == 1 || st == 2

/-- The Pack of a die (R558, R559): 0 RUNNING, 1 RESTARTING, 2 GIVEN_UP. -/
def State.packOf (s : State) (d : Nat) : Nat := s.rd R.ERR_WDT_PACK_STATE d
def State.pack (s : State) : Nat := s.packOf 0

/-- The Pack that a command of a partition waits for: HD0's, and that of the die it concerns, to which HD0's forwards it (R35; log entry 99). -/
def State.packFor (s : State) (p : Nat) : Nat := if s.pack != 0 then s.pack else s.packOf (s.partDie p)

/-- BUSY with a retry-after that the spec leaves open (R227; log entry 3). -/
def State.mgmtBusy (s : State) (m : Mgmt) : State := (s.useFree 1).mgmtAnswer m 0xB 0 (Config.freeNat s.free % 2 ^ 16)

/-- Carry out the oldest command of a partition if `sel` accepts its code: BUSY while the Pack is given up (R559) or once 64 ticks have passed (R227), the
checks of R581, then `f`. -/
def State.onMgmt (s : State) (p : Nat) (sel : Nat → Bool) (bad : Mgmt → Bool) (named : Bool) (f : State → Mgmt → State) : State :=
  match s.mgmtHead? p with
  | none => s
  | some m =>
    if s.packFor p = 2 then s.mgmtAnswer m 0xB 0 0xFFFF
    else if s.packFor p != 0 || !sel m.code then s
    else if 64 ≤ m.age then s.mgmtBusy m
    else if bad m then s.mgmtAnswer m 9 0 2
    else if named && !s.ctxLive p m.ctx then s.mgmtAnswer m 9 0 0x10
    else s.orWait (fun s => f s m)

/-- Put a command into a later stage. -/
def State.mgmtStage (s : State) (m : Mgmt) (k : Nat) : State :=
  { s with mgmts := s.mgmts.map (fun (x : Mgmt) => if x.part == m.part && x.entry == m.entry then { x with stage := k } else x) }

/-- The answer to a command whose memory access failed (R581), with the DETAIL fields of R216. -/
def State.mgmtFail (s : State) (m : Mgmt) (r : VRes) (base : Nat) : State :=
  let s := match r with | .fault va k => s.xltFault m.part m.ctx va k | _ => s
  match s.vEnding m.part r base with
  | some e => s.mgmtAnswer m e.status e.d0 e.d1
  | none => s

/-- The Pack and the crypto engine at work for a partition (R186, R225). -/
def State.packVirt (s : State) (p c : Nat) : Virt := .dog (s.partDie p) p c

/-! ### Image checks (R181 to R187) -/

/-- Whether any two byte ranges of a list overlap. -/
def anyOverlap : List (Nat × Nat) → Bool
  | [] => false
  | a :: l => l.any (fun b => overlaps a.1 a.2 b.1 b.2) || anyOverlap l

/-- The masked tiles of an image: logical cluster, tile, header offset. -/
def imgTiles (d : List Byte) : List (Nat × Nat × Nat) :=
  (List.range (imgClusters d)).flatMap (fun l => (maskTiles (imgMask d l)).map (fun t => (l, t, imgHeader d l t)))

def imgZero (d : List Byte) (off n : Nat) : Bool := imgNat d off n == 0

/-- Reason 0x01 in the header, the placement table, the program headers and the binding table. What lies beyond the image holds no field: that is
reason 0x03 (log entry 104). -/
def imgBadFields (d : List Byte) : Bool :=
  let fits (o k : Nat) : Bool := decide (o + k ≤ d.length)
  imgNat d 0 4 != 0x4B5A4D42 || imgNat d 4 2 != 1 || decide (1 < imgNat d 6 2) || !imgZero d 0x0F 1 || !imgZero d 0x2C 20 || !imgZero d 0xA0 96 ||
  imgClusters d == 0 || decide (512 < imgClusters d) || decide (4 < imgNat d 0x0E 1) ||
  (imgNat d 0x0E 1 == 0 && (List.range (imgClusters d)).any (fun l => fits (imgNat d 0x10 4 + 8 * l) 8 && imgGroup d l != 0xFF)) || decide (65536 < imgNat d 0x1C 4) ||
  imgNat d 0x20 4 % 64 != 0 || decide (2 ^ 19 < imgNat d 0x20 4) || imgNat d 0x24 4 % 64 != 0 || decide (2 ^ 16 < imgNat d 0x24 4) ||
  imgNat d 0x10 4 % 64 != 0 || imgNat d 0x14 4 % 64 != 0 || imgNat d 0x18 4 % 64 != 0 ||
  (List.range (imgClusters d)).any (fun l => fits (imgNat d 0x10 4 + 8 * l) 8 && (imgMask d l == 0 || !imgZero d (imgNat d 0x10 4 + 8 * l + 3) 1)) ||
  (imgTiles d).any (fun x =>
    let h := x.2.2
    fits h 128 && (imgNat d h 4 % 8 != 0 || imgNat d (h + 4) 4 == 0 || decide (2 ^ 24 < imgNat d (h + 4) 4) || decide (imgNat d (h + 8) 1 < 6) ||
    decide (12 < imgNat d (h + 8) 1) || !imgZero d (h + 9) 1 || decide (1 < imgNat d (h + 0xD) 1) || !imgZero d (h + 0xE) 2 ||
    !imgZero d (h + 0x18) 8 || !imgZero d (h + 0x60) 32 ||
    (List.range 8).any (fun j => bit (imgNat d (h + 0xC) 1) j &&
      (decide (1023 < imgNat d (h + 0x40 + 4 * j) 2) || imgNat d (h + 0x42 + 4 * j) 2 == 0 || decide (512 < imgNat d (h + 0x42 + 4 * j) 2))))) ||
  (List.range (imgNat d 0x1C 4)).any (fun k =>
    let o := imgNat d 0x18 4 + 8 * k
    fits o 8 && (bit (imgNat d (o + 2) 1) 3 || !imgZero d (o + 3) 1 || bit (imgNat d (o + 6) 1) 3 || !imgZero d (o + 7) 1))

/-- The reasons of R187 that an image of the right length meets, but for the digest and the store. -/
def imgReason (d : List Byte) (n : Nat) (k : Nat) : Bool :=
  let ring (x : Nat × Nat × Nat) : Nat × Nat := (64 * imgNat d (x.2.2 + 0xA) 2, 8 * 2 ^ imgNat d (x.2.2 + 8) 1)
  let recv (x : Nat × Nat × Nat) : List (Nat × Nat) :=
    (maskTiles (imgNat d (x.2.2 + 0xC) 1)).map (fun j => (128 * imgNat d (x.2.2 + 0x40 + 4 * j) 2, 128 * imgNat d (x.2.2 + 0x42 + 4 * j) 2))
  match k with
  | 1 => imgBadFields d
  | 2 => shake256 64 (d.take 0x40 ++ List.replicate 64 0 ++ d.drop 0x80) != (d.drop 0x40).take 64
  | 3 =>
    decide (n < imgNat d 0x10 4 + 8 * imgClusters d) || (imgNat d 0x1C 4 != 0 && decide (n < imgNat d 0x18 4 + 8 * imgNat d 0x1C 4)) ||
    (imgTiles d).any (fun x => decide (n < x.2.2 + 128) || decide (n < imgNat d x.2.2 4 + 8 * imgNat d (x.2.2 + 4) 4))
  | 4 =>
    (imgTiles d).any (fun x => decide (imgNat d 0x20 4 < (ring x).1 + (ring x).2)) ||
    (List.range (imgClusters d)).any (fun l => anyOverlap (((imgTiles d).filter (fun x => x.1 == l)).map ring))
  | 5 => imgNat d 0x24 4 != 0 && (decide (imgNat d 0x28 4 < imgNat d 0x20 4) || decide (2 ^ 20 < imgNat d 0x28 4 + imgNat d 0x24 4))
  | 6 => (imgTiles d).any (fun x => (recv x).any (fun r => decide (2 ^ 17 < r.1 + r.2)) || anyOverlap (recv x))
  | 7 =>
    let bs := imgBindings d
    let masked (l t : Nat) : Bool := decide (l < imgClusters d) && bit (imgMask d l) t
    bs.any (fun b => !masked b.1 b.2.1 || !masked b.2.2.2.1 b.2.2.2.2.1 ||
      !bit (imgNat d (imgHeader d b.2.2.2.1 b.2.2.2.2.1 + 0xC) 1) b.2.2.2.2.2) ||
    !decide ((bs.map (fun b => (b.1, b.2.1, b.2.2.1))).Nodup) || !decide ((bs.map (fun b => b.2.2.2)).Nodup)
  | 8 => (List.range (imgClusters d)).any (fun l => imgGroup d l != 0xFF && decide (imgNat d 0x0E 1 ≤ imgGroup d l)) ||
      (bit (imgNat d 6 2) 0 && decide (imgNat d 0x0E 1 < 2))
  | _ => false

/-- The first place of the store with room: the gaps between its images, in order (R469; log entry 24). -/
def firstGap (n limit : Nat) : List (Nat × Nat) → Nat → Option Nat
  | [], at_ => if at_ + n ≤ limit then some at_ else none
  | (a, k) :: l, at_ => if at_ + n ≤ a then some at_ else firstGap n limit l (max at_ ((a + k + 63) / 64 * 64))

def State.storeRoom (s : State) (p n : Nat) : Option Nat :=
  let r := s.storeRange p
  let used := ((s.images.filter (fun i => i.part == p)).map (fun i => (i.store, i.data.length))).mergeSort (fun a b => a.1 ≤ b.1)
  firstGap n (r.1 + r.2) used r.1

/-- A handle no image of the partition holds: which one is open (log entry 3). -/
def State.newHandle (s : State) (p : Nat) : Nat :=
  let taken := (s.images.filter (fun i => i.part == p)).map (·.handle)
  let k := Config.freeNat s.free % 2 ^ 16
  if taken.contains k then ((List.range (2 ^ 16)).find? (fun h => !taken.contains h)).getD 0 else k

/-- REGISTER_IMAGE (R186, R187, R226). `host` is what the host holds at ADDR, when it lies in the host half. -/
def State.registerImage (s : State) (m : Mgmt) (host : List Byte) : State :=
  let p := m.part
  let a := s.packVirt p m.ctx
  if m.len < 256 then s.mgmtAnswer m 0xA 0 1
  else
    match s.virtReadH a m.addr 256 host with
    | (.wait, s) => s
    | (.ok h, s) =>
      if imgNat h 8 4 != m.len || decide (2 ^ 28 < m.len) then s.mgmtAnswer m 0xA 0 1
      else
        match s.virtReadH a m.addr m.len host with
        | (.wait, s) => s
        | (.ok d, s) =>
          (match ([1, 2, 3, 4, 5, 6, 7, 8] : List Nat).find? (imgReason d m.len) with
           | some k => s.mgmtAnswer m 0xA 0 k
           | none =>
             match s.storeRoom p m.len with
             | none => s.mgmtAnswer m 0xA 0 9
             | some at_ =>
               if 1024 ≤ (s.images.filter (fun i => i.part == p && i.live)).length then s.mgmtAnswer m 0xA 0 0xA
               else
                 match s.physWrite (Agent.mgmt p a.die) at_ d with
                 | (.ok _, s) =>
                   let h := s.newHandle p
                   let s := s.useFree 1
                   let s := { s with images := s.images ++ [(⟨p, m.ctx, h, at_, d, (d.drop 0x40).take 64, true⟩ : Image)] }
                   s.mgmtAnswer m 0 h 0
                 | (r, s) => s.mgmtFail m (ofMem r m.addr) m.addr)
        | (r, s) => s.mgmtFail m r m.addr
    | (r, s) => s.mgmtFail m r m.addr

def execRegisterImage (part : Nat) (host : List (BitVec 8)) (s : State) : Result :=
  within s (decide (part < 64)) (s.onMgmt part (· == 1) (fun m => m.unusedSet false true true 0 0x14) true (fun s m => s.registerImage m host))

/-- UNREGISTER_IMAGE (R226): units already admitted keep the image. -/
def execUnregisterImage (part : Nat) (s : State) : Result :=
  within s (decide (part < 64)) (s.onMgmt part (· == 2) (fun m => m.unusedSet true false false 16 0x14) true (fun s m =>
    match s.image? part m.ctx (m.nat 2 2) with
    | none => s.mgmtAnswer m 9 0 3
    | some i =>
      let s := { s with images := s.images.map (fun (x : Image) => if x == i then { x with live := false } else x) }
      s.dropImages.mgmtAnswer m 0 0 0))

/-- STOP_CONTEXT (R222, R226): it takes effect, and is answered, at the next boundary. -/
def execStopContext (part : Nat) (s : State) : Result :=
  within s (decide (part < 64)) (s.onMgmt part (· == 3) (fun m => m.unusedSet false false false 0 0x14) true (fun s m =>
    if s.rd R.PAR_CTX_CFG_STATE 0 [part, m.ctx] = 2 then s.mgmtAnswer m 0 0 0 else s.mgmtStage m 2))

/-- RESUME_CONTEXT (R226): it takes effect, and is answered, at the next boundary. -/
def execResumeContext (part : Nat) (s : State) : Result :=
  within s (decide (part < 64)) (s.onMgmt part (· == 4) (fun m => m.unusedSet false false false 0 0x14) true (fun s m =>
    if s.rd R.PAR_CTX_CFG_STATE 0 [part, m.ctx] = 1 then s.mgmtAnswer m 0 0 0 else s.mgmtStage m 2))

/-- A stopped context's rings run again (R222, R226). -/
def State.resumeCtx (s : State) (p c : Nat) : State :=
  let s := s.wr R.PAR_CTX_CFG_STATE 0 [p, c] 1
  s.each (s.ringsOf p c) (fun s r =>
    let why := s.ringRd R.WRK_RING_STATE_REASON R.BAY_Q_STATE_REASON p r
    if s.rState p r = 3 ∧ (why = 2 ∨ why = 3) then s.setRing p r 1 0 else s)

/-- What the boundary does for the commands that take effect there (R226). -/
def State.mgmtBoundary (s : State) : State :=
  s.each (s.mgmts.filter (fun m => m.stage == 2 && m.answer.isNone)) (fun s m =>
    let st := s.rd R.PAR_CTX_CFG_STATE 0 [m.part, m.ctx]
    let s := if m.code = 3 then (if st = 1 then s.stopCtx m.part m.ctx 3 3 else s) else if st = 2 then s.resumeCtx m.part m.ctx else s
    s.mgmtAnswer m 0 0 0)

/-- INVALIDATE (R313): answered when the drain is over. -/
def execInvalidate (part : Nat) (s : State) : Result :=
  within s (decide (part < 64)) (s.onMgmt part (· == 0x20) (fun m => m.unusedSet false true true 0 0x14 || m.addr % 4096 != 0) true (fun s m =>
    let s := s.mgmtStage m 1
    if m.len = 0 then s.invalidate part m.ctx 0 wholeSpace (.mgmt part m.entry 0)
    else s.invalidate part m.ctx m.addr (m.len * 4096) (.mgmt part m.entry 0)))

/-- A command the Pack has not started within 64 ticks of its fetch is answered BUSY (R227); ticks of a restart do not count. -/
def execMgmtBusyTimeout (part : Nat) (s : State) : Result :=
  within s (decide (part < 64)) (
    match s.mgmts.find? (fun m => m.part == part && m.stage == 0 && m.answer.isNone) with
    | none => s
    | some m => if s.pack != 1 && decide (64 ≤ m.age) then s.mgmtBusy m else s)

/-- The command codes some chapter defines (R226, R502). -/
def mgmtKnown (k : Nat) : Bool := [1, 2, 3, 4, 0x20, 0x40, 0x41, 0x42, 0x43].contains k

/-- A code defined nowhere (R226). -/
def execUndefinedMgmtCommand (part : Nat) (s : State) : Result :=
  within s (decide (part < 64)) (s.onMgmt part (fun k => !mgmtKnown k) (fun _ => false) false (fun s m => s.mgmtAnswer m 9 0 1))

end Sys2Proof.Machine
end

