-- ==== Sys2Proof/Machine/Xlate.lean ====
section
/-! DEFINITION. A tile's requests leave (R150 to R153, R284 to R287, R306, R316), its misses are served (R307, R308), and the host's side
of translation (R309, R310, R312). -/

namespace Sys2Proof.Machine

/-! ### What a tile's request finds in the TLBs -/

/-- A lookup in the cluster TLB, then the die TLB, which also fills the cluster's (R306). -/
def State.tileLook (s : State) (c p x va : Nat) : Option (TlbEntry × State) :=
  match s.tlbLook (4 + c) p x va with
  | some e => some (e, s.tlbTouch (4 + c) e)
  | none =>
    match s.tlbLook (cluDie c) p x va with
    | some e => some (e, ((s.bump R.XLT_DTLB_HITS (cluDie c) [] 1).tlbTouch (cluDie c) e).tlbFill (4 + c) e)
    | none => none

/-- The pending miss of a transfer's stream for the page of a VA. -/
def State.missOf (s : State) (tile va : Nat) : Option Miss :=
  s.misses.find? (fun (m : Miss) => m.stream == tile && m.va / 4096 == va / 4096 && !m.orphan)

/-- What a failed translation is to the access at a VA. -/
def XRes.atVa (va : Nat) : XRes → VRes
  | .fault k => .fault va k
  | .ue d p => .ue d p
  | .down => .down
  | _ => .wait

/-- The unit a transfer belongs to. -/
def State.xferUnit (s : State) (x : Xfer) : Option WUnit := (s.unitOfTile x.tile).bind s.unit?

/-- A transfer meets a failure at byte `off` of its order (R316): the tile stops and the unit ends. -/
def State.xferEnd (s : State) (x : Xfer) (va off : Nat) (r : VRes) : State :=
  match s.xferUnit x with
  | none => s
  | some u =>
    match r with
    | .fault _ k => (s.xltFault u.part u.ctx va k).tileHit x.tile ⟨2, va % 2 ^ 48, k * 2 ^ 28 + min (2 ^ 28 - 1) off⟩
    | .ue d p => s.tileHit x.tile ⟨4, d, p⟩
    | .down => s.tileHit x.tile ⟨7, 0, s.downD1 (s.partIsland u.part)⟩
    | _ => s

/-- The lines or sectors of a tile outstanding in one direction (R151, R153). -/
def State.tileOut (s : State) (x : Xfer) : Nat :=
  (s.xfers.filter (fun y => y.tile == x.tile && y.write == x.write && y.narrow == x.narrow)).foldl (fun n y => n + y.inflight) 0

/-- Pieces from the `k`-th on that one host read or write covers: consecutive in address and destination, in one page (R447). -/
def hostRun (p : Piece) : List Piece → List Piece
  | [] => []
  | q :: l => if q.va = p.va + p.len ∧ q.off = p.off + p.len ∧ q.trOff = p.trOff + p.len ∧ q.va % 4096 ≠ 0 then q :: hostRun q l else []

/-- The bytes of a piece in the tile's space. -/
def State.spaceBytes (s : State) (x : Xfer) (off len : Nat) : List Byte :=
  match x.space with
  | .tm => (s.tile x.tile).tmBytes off len
  | .cb => (s.clu (x.tile / 16)).cbBytes off len

/-- Whether a function may take another tag for a tile's read (R435): its own limit, and the pool that the tag sizes of PF0 leave (Device
Control 3 bit 2 for 14-bit tags, Device Control 2 bit 12 for 10-bit tags; configuration keys 14 and 13, log entry 27). -/
def State.tagFree (s : State) (fn : Nat) : Bool :=
  let pool := if s.rdB R.PCI_STATUS_FLIT 0 && bit (SMap.get 0 s.config 14) 2 then 3584 else if bit (SMap.get 0 s.config 13) 12 then 640 else 224
  decide (s.hreads.length < pool) &&
    (fn == 0 || decide ((s.hreads.filter (fun (h : HostRead) => h.fn == fn)).length < s.rd R.PCI_TAG_LIMIT_VF_TAGS 0))

/-- Take `n` pieces from position `k` out of a transfer and count them in flight. -/
def State.takePieces (s : State) (x : Xfer) (k n : Nat) : State :=
  { s with xfers := s.xfers.map (fun (y : Xfer) =>
      if y.id == x.id then { y with pieces := y.pieces.take k ++ y.pieces.drop (k + n), inflight := y.inflight + n } else y) }

/-- The request of a piece under a translation. -/
def State.pieceReq (s : State) (x : Xfer) (u : WUnit) (p : Piece) (e : TlbEntry) (q loc : Nat) (len : Nat) (st : Stage) : Req :=
  { rid := 0, uid := u.id, task := 0, mask := byteMask (e.addr p.va % 256) len, slot := false, op := if x.write then .wrInv else .rdCur, die := tilDie x.tile, mport := x.tile / 16 % 128, owner := .xfer x.id,
    part := u.part, ctx := u.ctx, gen := s.gen u.part, nopart := false, epoch := e.epoch,
    cls := if x.write then 2 else if x.narrow then 0 else 1, guar := false, narrow := x.narrow, stream := false, drain := false, va := p.va,
    dpa := e.addr p.va, q := q, loc := loc, len := len, data := if x.write then s.spaceBytes x p.off len else [], place := none, off := p.off,
    trOff := p.trOff, stage := st, t := 0, seq := 0, rsps := [], fwd := [], ans := 0, status := 0, answer := [] }

/-- A piece that has its translation leaves. A host-half one is a read or write on PCIe of the partition's function (R447), which fails in
Heel (R455, R456). -/
def State.issuePiece (s : State) (x : Xfer) (u : WUnit) (k : Nat) (p : Piece) (e : TlbEntry) (dt : Nat) : State :=
  if isHost p.va then
    let fn := s.fnOf u.part
    let lim := if x.write then 1024 else s.mrrs fn
    let run := (hostRun p (x.pieces.drop (k + 1))).take (lim / p.len - 1)
    let len := run.foldl (fun n (q : Piece) => n + q.len) p.len
    let n := run.length + 1
    let s1 := s.takePieces x k n
    if x.write then
      if s.holdFull len then s
      else (s1.hostWrite fn (e.addr p.va) (s.spaceBytes x p.off len) (s.relaxed fn)).addReq (s.pieceReq x u p e 1024 n len .answered)
    else if s.heel then s.xferEnd x p.va p.trOff (.fault p.va 7)
    else if !s.bme fn || !s.tagFree fn then s
    else
      let s2 := s1.addReq (s.pieceReq x u p e 1024 n len .host)
      let s2 := { s2 with hreads := s2.hreads ++ [(⟨s1.nextId, fn, s.rd R.PCI_FN_STATE_FGEN 0 [fn], u.id, len, [], 0, s.now + dt⟩ : HostRead)] }
      s2.send (.hostRead fn s1.nextId (e.addr p.va) len)
  else
    match s.decode (e.addr p.va) with
    | none => if k = 0 then s.xferEnd x p.va p.trOff (.fault p.va 4) else s
    | some (q, loc) => (s.takePieces x k 1).leash1 (s.pieceReq x u p e q loc p.len .sent)

/-- The `k`-th remaining piece of a transfer may be looked at: every earlier one waits for a page that has not failed (R307, R316). -/
def State.pieceTurn (s : State) (x : Xfer) (k : Nat) : Bool :=
  (x.pieces.take k).all (fun p => match s.missOf x.tile p.va with | some m => m.res.isNone | none => false)

/-- A tile's data mover offers the `k`-th remaining piece of transfer `xfer` to its master port (R284). A failure is met only by the piece
whose turn it is, so that the lowest faulting offset is reported and every byte before it completes (R316). -/
def State.leashRequest (s : State) (xid k dt : Nat) : State :=
  match s.xfers.find? (fun (x : Xfer) => x.id == xid) with
  | none => s
  | some x =>
    match x.pieces[k]?, s.xferUnit x with
    | some p, some u =>
      let c := x.tile / 16
      if x.faulted || !s.pieceTurn x k || s.streamFull x.tile || decide ((if x.narrow then 512 else 256) ≤ s.tileOut x) then s
      else
        let stop (s : State) (r : VRes) : State := if k = 0 then s.xferEnd x p.va p.trOff r else s
        match s.halfOff u.part u.ctx p.va with
        | some f => stop s (.fault p.va f)
        | none =>
          match s.missOf x.tile p.va with
          | some m =>
            (match m.res with
             | some r => if k = 0 then ({ s with misses := s.misses.erase m }).xferEnd x p.va p.trOff (r.atVa m.va) else s
             | none => s)
          | none =>
            match s.tileLook c u.part u.ctx p.va with
            | none => s
            | some (e, s1) =>
              if k ≠ 0 ∧ x.write = true ∧ e.w = false then s
              else
                match s1.allow (cluDie c) e x.write u.id with
                | (.hit e', s2) => s2.issuePiece x u k p e' dt
                | (.fault f, s2) => stop s2 (.fault p.va f)
                | (.ue d port, s2) => stop s2 (.ue d port)
                | (.down, s2) => stop s2 .down
                | (.miss, s2) => s2
    | _, _ => s

/-- A memory request of a Pack core never leaves its die's management master port: it is answered UE and counted (R492). -/
def State.packRequest (s : State) (die core : Nat) : State := (s.bump R.SEC_PACK_DENIED 0 [] 1).send (.pack die core 1)

/-- `dt`: nanoseconds since the last boundary. -/
def execLeashRequest (src : LeashSrc) (dt : Nat) (s : State) : Result :=
  within s (match src with | .piece _ _ => true | .pack die core => decide (die < 4) && decide (core < 2)) (
    match src with
    | .piece xfer k => s.orWait (fun s => s.leashRequest xfer k dt)
    | .pack die core => s.packRequest die core)

/-- The page of the `k`-th remaining piece is in no TLB: it joins the stream's pending misses, at most 32 (R307). A host-half miss in Heel
fails at once (R456). -/
def State.tlbMiss (s : State) (xid k : Nat) : State :=
  match s.xfers.find? (fun (x : Xfer) => x.id == xid) with
  | none => s
  | some x =>
    match x.pieces[k]?, s.xferUnit x with
    | some p, some u =>
      let c := x.tile / 16
      if x.faulted || !s.pieceTurn x k || (s.halfOff u.part u.ctx p.va).isSome || (s.missOf x.tile p.va).isSome ||
         (s.tileLook c u.part u.ctx p.va).isSome || s.streamFull x.tile then s
      else
        let s := s.bump R.XLT_DTLB_MISSES (cluDie c) [] 1
        s.addMiss ⟨0, x.tile, cluDie c, c, x.id, u.part, u.ctx, s.epoch u.part u.ctx, p.va, x.write, p.trOff,
          if isHost p.va then (if s.heel then .failed 7 else .queued) else .device, u.id, false⟩
    | _, _ => s

def execTlbMiss (xfer k : Nat) (s : State) : Result := within s true (s.tlbMiss xfer k)

/-- Change a miss, or drop it. -/
def State.setMiss (s : State) (m : Miss) (st : MissStage) : State :=
  { s with misses := s.misses.map (fun (x : Miss) => if x.id == m.id then { x with stage := st } else x) }

/-- The walkers of a die at work, and those of them that serve a stream (R308). -/
def State.walkers (s : State) (die : Nat) : List Miss := s.misses.filter (fun (m : Miss) => m.die == die && m.stage == .walking)

/-- The streams of a die with a miss that waits for a walker. -/
def State.walkQueue (s : State) (die : Nat) : List Nat := ((s.misses.filter (fun (m : Miss) => m.die == die && m.stage == .device)).map (·.stream)).eraseDups

/-- Whether a stream may take one more of a die's 64 walkers: MAX_WALK holds only while another stream waits. -/
def State.mayWalk (s : State) (die sid : Nat) : Bool :=
  decide ((s.walkers die).length < 64) &&
  ((s.walkQueue die).all (· == sid) || decide (((s.walkers die).filter (fun (m : Miss) => m.stream == sid)).length < s.rd R.XLT_CTRL_MAX_WALK die))

/-- The pair after `k` among those that wait, around. -/
def nextPair (ks : List Nat) (k : Nat) : Nat :=
  let low (l : List Nat) : Option Nat := l.foldl (fun (b : Option Nat) x => some (match b with | none => x | some c => min c x)) none
  match low (ks.filter (k < ·)) with
  | some x => x
  | none => (low ks).getD k

/-- The stream whose turn a free walker is: round robin over those that may take one. -/
def State.walkNext (s : State) (die : Nat) : Nat :=
  let ks := (s.walkQueue die).filter (s.mayWalk die)
  match SMap.get 0 s.walkTurn die with
  | 0 => nextPair ks (2 ^ 20)
  | k + 1 => nextPair ks k

/-- A miss takes a walker, if it is its stream's turn. -/
def State.takeWalker (s : State) (m : Miss) : State :=
  if m.stage == .device && s.mayWalk m.die m.stream && s.walkNext m.die == m.stream then
    { (s.setMiss m .walking) with walkTurn := SMap.put 0 s.walkTurn m.die (m.stream + 1) }
  else s

/-- The walk of a miss ends: the fills, or the failure its requester will meet. -/
def State.walkMiss (s : State) (m : Miss) : State :=
  match s.walk m.die m.part m.ctx m.va m.uid m.id with
  | (.hit e, s) =>
    let s := s.tlbFill m.die e
    let s := if m.cluster < 512 then s.tlbFill (4 + m.cluster) e else s
    { s with misses := s.misses.erase m }
  | (.fault k, s) => s.setMiss m (.failed k)
  | (.ue d p, s) => s.setMiss m (.failedUe d p)
  | (.down, s) => s.setMiss m .failedDown
  | (.miss, s) => s

/-- A walker serves a device-half miss (R302, R308): it is taken in the streams' turn, and reads the tables. What waits for the translation of a
structure is tried again. -/
def execPageWalk (miss : Nat) (s : State) : Result :=
  within s true (match s.misses.find? (fun (m : Miss) => m.id == miss) with
    | none => s
    | some m =>
      let s := s.takeWalker m
      match s.misses.find? (fun (m : Miss) => m.id == miss && m.stage == .walking) with
      | none => s
      | some m => s.orWait (fun s => let s := s.walkMiss m; if s.parked.any (fun (w : Parked) => w.stream == m.stream) then s.unpark else s))

/-! ### The host's side (R309, R310, R312) -/

/-- Whether an ATS invalidation in progress meets the range a completion returned (R310). -/
def State.atsCovers (s : State) (m : Miss) (size : Nat) : Bool :=
  s.invals.any (fun (v : Inval) => (match v.by_ with | .ats _ => true | _ => false) && v.part == m.part && v.ctx == m.ctx &&
    overlaps (2 ^ 47 + m.va % 2 ^ 47 / max 4096 size * max 4096 size) (max 4096 size) v.va v.size)

/-- The TLBs take a translation the host returned: ranges above 1 GiB as 1 GiB entries (R309). -/
def State.atsFill (s : State) (m : Miss) (w : Bool) (size pa : Nat) : State :=
  let sz := min (2 ^ 30) (max 4096 size)
  let base := (m.va % 2 ^ 47) / sz * sz
  let big := (m.va % 2 ^ 47) / max 4096 size * max 4096 size
  let e : TlbEntry := ⟨m.part, m.ctx, s.epoch m.part m.ctx, 2 ^ 47 + base, sz, pa + (base - big), w, true, 0⟩
  let s := s.tlbFill m.die e
  if m.cluster < 512 then s.tlbFill (4 + m.cluster) e else s

/-- A miss that is over at the host: it is gone where nothing waits for it, else it tells its requester the failure. -/
def State.atsFail (s : State) (m : Miss) (kind : Nat) : State :=
  ((if m.orphan then { s with misses := s.misses.erase m } else s.setMiss m (.failed kind)).pumpAts).unpark

/-- An ATS completion arrives, or its timeout does (R310): one that allows the access fills the TLBs; another leads to a page request, or, after
one, to HOST_FAULT. One that an ATS invalidation in progress covers is not cached, and the request is sent again. -/
def execAtsTranslationCompletion (miss : Nat) (timedOut ok r w : Bool) (size pa : Nat) (s : State) : Result :=
  within s true (match s.misses.find? (fun (m : Miss) => m.id == miss && (m.stage == .ats || m.stage == .again)) with
    | none => s
    | some m =>
      if timedOut then s.atsFail m 7
      else if s.atsCovers m size && !m.orphan then (s.setMiss m (if m.stage == .again then .againQueued else .queued)).pumpAts
      else if ok && r && (w || !m.write) && !s.atsCovers m size then ({ (s.atsFill m w size pa) with misses := s.misses.erase m }).pumpAts.unpark
      else if m.orphan || m.stage == .again then s.atsFail m 6
      else
        let s := (s.setMiss m .prg).bump R.XLT_PRI_REQS 0 [] 1
        (s.send (.hostMsg 1 m.id (s.hostName m.part m.ctx (m.va % 2 ^ 47 + (if m.write then 2 ^ 47 else 0))))).pumpAts)

/-- A PRG response arrives (R310, R456); one whose unit has ended is discarded. -/
def execPrgResponse (miss : Nat) (success : Bool) (s : State) : Result :=
  within s true (match s.misses.find? (fun (m : Miss) => m.id == miss && m.stage == .prg) with
    | none => s.bump R.XLT_PRI_LATE 0 [] 1
    | some m =>
      if m.orphan then ({ s with misses := s.misses.erase m }).bump R.XLT_PRI_LATE 0 [] 1
      else if success then (s.setMiss m .againQueued).pumpAts else s.atsFail m 6)

/-- An ATS Invalidate Request (R312): an invalidation of the host half of every context of the function with the PASID; with none, the
completion goes at once. -/
def execAtsInvalidateRequest (fn tag pasid va size : Nat) (s : State) : Result :=
  within s (decide (fn < 65)) (
    let s := s.bump R.XLT_ATS_INV 0 [] 1
    let cs := (List.range 64).flatMap (fun p => if s.fnOf p == fn then
      (List.range 16).filterMap (fun c => if s.rd R.XLT_CTX_CFG_PASID 0 [p, c] == pasid then some (p, c) else none) else [])
    if cs.isEmpty then s.send (.hostMsg 3 tag 0)
    else s.each cs (fun s x => s.invalidate x.1 x.2 (2 ^ 47 + va % 2 ^ 47) size (.ats tag)))

/-- CLEAR_STATS of a die's XLT block; on HD0 also the ATS counters (R322). -/
def execXltClearStats (die : Nat) (s : State) : Result :=
  within s (decide (die < 4)) (
    let s := s.clear die [R.XLT_DTLB_HITS, R.XLT_DTLB_MISSES, R.XLT_WALK_READS, R.XLT_INVALS, R.XLT_CUT]
    if die = 0 then s.clear 0 [R.XLT_ATS_REQS, R.XLT_PRI_REQS, R.XLT_PRI_LATE, R.XLT_ATS_INV] else s)

end Sys2Proof.Machine
end

