-- ==== Sys2Proof/Machine/Home.lean ====
section
/-! DEFINITION. The home agents (R341 to R348), a bay's requests (R371 to R373), the DRAM controllers' choice (R280 to R283, R287), and the
answers on their way back (R326, R329). -/

namespace Sys2Proof.Machine

/-! ### Islands that go down (R350) -/

/-- A cause of R350 has been detected; ISLAND_DOWN_NOTICE acts on it. -/
def State.takeDown (s : State) (island cause node line die : Nat) : State := { s with downs := s.downs ++ [⟨island, cause, node, line, die⟩] }

/-! ### Bays -/

def BayInfo.idle : BayInfo :=
  { powered := false, push := false, separate := false, queues := 0, depth := 0, cls := 0, half := false, deadTx := [], deadRx := [],
    usedTx := [], usedRx := [], ctl := 0, plimit := 0, overMs := 0, hotMs := 0, cool := false, cause := 0, deniedAt := 0 }
def State.bayInfo (s : State) (b : Nat) : BayInfo := SMap.get BayInfo.idle s.bays b
def State.setBay (s : State) (b : Nat) (x : BayInfo) : State := { s with bays := SMap.put BayInfo.idle s.bays b x }

def State.bayRd (s : State) (f : Fld) (b : Nat) : Nat := s.rd f (b / 2) [b % 2]
def State.bayWr (s : State) (f : Fld) (b v : Nat) : State := s.wr f (b / 2) [b % 2] v
/-- The rail of a bay is within limits, or switched off (R367, R368, R383, R570). -/
def State.bayRail (s : State) (b : Nat) (on : Bool) : State :=
  s.wr (if b % 2 = 0 then R.PWR_STATUS_BAY_A_GOOD else R.PWR_STATUS_BAY_B_GOOD) (b / 2) [] (if on then 1 else 0)
def State.bayBump (s : State) (f : Fld) (b n : Nat) : State := s.bump f (b / 2) [b % 2] n

/-- BAY_STATUS as an error record shows it (R542). -/
def State.bayStatus (s : State) (b : Nat) : Nat :=
  s.regVal (b / 2) [b % 2] [R.BAY_STATUS_STATE, R.BAY_STATUS_HEEL_CAUSE, R.BAY_STATUS_PROTO, R.BAY_STATUS_RATE2, R.BAY_STATUS_HALF, R.BAY_STATUS_UNCERT,
    R.BAY_STATUS_BGEN, R.BAY_STATUS_REFUSE]

/-- An error of a bay's die that names the bay. -/
def State.bayErr (s : State) (b code sev : Nat) : State := s.err (b / 2) (.plain 2 code sev (scopeOf 2 b) (s.bayStatus b))

/-- Whether the port takes anything from the bay: it is in RUN, or is being evacuated (R384, R385). -/
def State.bayLive (s : State) (b : Nat) : Bool := s.bayRd R.BAY_STATUS_STATE b == 2 || s.bayRd R.BAY_STATUS_STATE b == 3

/-- The check of R373. -/
def State.bayMay (s : State) (b part dpa len : Nat) : Bool :=
  let g := s.bayRd R.BAY_GRANT b
  if s.bayRd R.BAY_STATUS_PROTO b = 2 then bit g part && s.inQuota part dpa len
  else (List.range 64).any (fun p => bit g p && s.inQuota p dpa len)

/-! ### Requests at their home -/

def State.req? (s : State) (rid : Nat) : Option Req := s.reqs.find? (fun (r : Req) => r.rid == rid)
def State.updReq (s : State) (rid : Nat) (f : Req → Req) : State :=
  { s with reqs := s.reqs.map (fun (r : Req) => if r.rid == rid then f r else r) }
def State.dropReq (s : State) (rid : Nat) : State := { s with reqs := s.reqs.filter (fun (r : Req) => r.rid != rid) }

def Req.meets (r x : Req) : Bool := r.lines.any (fun l => x.lines.contains l)

/-- Whether a line is busy for a request: another active transaction, an earlier one that waits, or a snoop of an eviction, an evacuation
or a placement (R342, R345, R347). A write held until Kennel has read its granule does not stand before Kennel's read (R420). -/
def State.lineBusy (s : State) (r : Req) : Bool :=
  s.reqs.any (fun (x : Req) => x.rid != r.rid && (x.active || (x.stage == .waiting && decide (x.seq < r.seq) && !(r.mport == 134 && x.op.writes && (s.knlHolds x.dpa).isSome))) && r.meets x) ||
  s.snoops.any (fun (n : Snoop) => r.lines.contains n.line)

/-- The home answers a request (R326). -/
def State.answer (s : State) (rid ans status : Nat) (data : List Byte) : State :=
  let s := s.updReq rid (fun r => { r with stage := .answered, ans := ans, status := status, answer := data, seq := s.nextId })
  { s with nextId := s.nextId + 1 }

/-- The home's port of a line, by package memory port. -/
def State.linePort (s : State) (l : Nat) : Nat := ((s.decode (l * 64)).map (fun x => qPort x.1)).getD 0

/-- Send a snoop (R327); `rid` is 0 where no request waits for it. The line of a push follows in a data flit. -/
def State.snoop (s : State) (op : SnpOp) (rid bay line die : Nat) (data : List Byte) : State :=
  let g := s.bayRd R.BAY_STATUS_BGEN bay
  let n : Snoop := { tag := s.nextId, rid := rid, op := op, bay := bay, line := line, bgen := g, data := data, answer := none }
  let tag := s.nextId % 2 ^ 15
  let fs := if data = [] then [] else granuleFlits (bayNode bay) g tag (3 * 4 ^ (line % 4)) false (List.replicate (line % 4 * 64) 0 ++ padTo 64 data)
  ({ (s.bump R.COH_SNOOPS die [] 1) with snoops := s.snoops ++ [n], nextId := s.nextId + 1 }).send
    (.snoop bay (snpWord op.code (bayNode bay) (portNode (s.linePort line)) tag line g) fs)

/-- The snoops a request needs: operation, bay, line (R343). -/
def State.needs (s : State) (r : Req) : List (SnpOp × Nat × Nat) :=
  r.lines.flatMap (fun l =>
    match SMap.look s.dirs l with
    | none => []
    | some e =>
      let inv (bs : List Nat) : List (SnpOp × Nat × Nat) := bs.map (fun b => (SnpOp.inv, b, l))
      match r.op with
      | .rdShared => if e.owned then (e.bays.filter (· != r.bay)).map (fun b => (SnpOp.share, b, l)) else []
      | .rdOwn => inv (e.bays.filter (· != r.bay))
      | .upgrade => inv (e.bays.filter (· != r.bay))
      | .rdCur => if e.owned then e.bays.map (fun b => (SnpOp.cur, b, l)) else []
      | .wrInv => inv e.bays
      | .wrPlace => inv e.bays
      | .atomic => inv e.bays
      | .wbDirty => []
      | .evictClean => [])

/-- Whether a request makes a directory entry, and the set of a line at its port (R341; log entry 30). -/
def ReqOp.caches : ReqOp → Bool
  | .rdShared => true
  | .rdOwn => true
  | .upgrade => true
  | _ => false
def dirSet (l : Nat) : Nat := l % 32768
def State.samePlace (s : State) (l m : Nat) : Bool :=
  dirSet l == dirSet m && (match s.decode (l * 64), s.decode (m * 64) with | some a, some b => qPort a.1 == qPort b.1 | _, _ => false)
def State.dirPeers (s : State) (l : Nat) : List (Nat × DirEntry) := s.dirs.filter (fun e => s.samePlace l e.1)
/-- The entries of a line's set in use, counting those that active requests and outstanding pushes are about to make. -/
def State.dirUse (s : State) (l rid : Nat) : Nat :=
  (s.dirPeers l).length + (s.snoops.filter (fun (n : Snoop) => n.op == .push && (SMap.look s.dirs n.line).isNone && s.samePlace l n.line)).length +
  (s.reqs.filter (fun (x : Req) => x.rid != rid && x.active && x.op.caches && x.lines.any (fun m => (SMap.look s.dirs m).isNone && s.samePlace l m))).length

/-- The way R346 evicts: the least recently allocated whose line has no active transaction. -/
def State.victim (s : State) (l : Nat) : Option Nat :=
  let idle := (s.dirPeers l).filter (fun e => !s.snoops.any (fun (n : Snoop) => n.line == e.1) && !s.reqs.any (fun (x : Req) => x.active && x.lines.contains e.1))
  (idle.foldl (fun (b : Option (Nat × DirEntry)) e => match b with
    | none => some e
    | some c => if e.2.order < c.2.order then some e else some c) none).map (·.1)

/-- Set a line's entry; an empty one is freed. -/
def State.setDir (s : State) (l : Nat) (owned : Bool) (bays : List Nat) : State :=
  if bays = [] then { s with dirs := SMap.del s.dirs l }
  else
    match SMap.look s.dirs l with
    | some e => { s with dirs := SMap.ins s.dirs l { e with owned := owned, bays := bays } }
    | none => { s with dirs := SMap.ins s.dirs l ⟨owned, bays, s.dirOrder⟩, dirOrder := s.dirOrder + 1 }

/-- A bay no longer holds a line. -/
def State.dirDrop (s : State) (l b : Nat) : State :=
  match SMap.look s.dirs l with
  | some e => s.setDir l e.owned (e.bays.filter (· != b))
  | none => s

/-- Where a line of a request lies, as its requester decoded it (R258), and where a line lies by the table in effect. -/
def Req.lineAt (r : Req) (l : Nat) : Nat × Nat := (r.q, r.loc / 256 * 256 + l % 4 * 64)

/-- Write a bay's line into memory at its home. -/
def State.putLine (s : State) (at_ : Option (Nat × Nat)) (l part : Nat) (bs : List Byte) : State :=
  match at_ with
  | some (q, loc) => (((s.stcAccess q (loc / 256) (byteMask (loc % 256) 64) (l * 64) part false true).knlMark (l * 64) q).qPut q loc (padTo 64 bs))
  | none => s

/-- The partition a request counts for in the way masks (R262). -/
def Req.waysOf (r : Req) : Nat := if r.nopart then 64 else r.part

/-! ### The end of a transaction -/

/-- WR_PLACE: push the line, if R347 allows, or count the drop. -/
def State.place347 (s : State) (r : Req) : State :=
  let d := qDie r.q
  let l := r.dpa / 64
  match r.place with
  | none => s.bump R.COH_PUSH_DROP d [] 1
  | some b =>
    if s.island (b / 2) = s.island d ∧ s.bayRd R.BAY_STATUS_STATE b = 2 ∧ s.bayRd R.BAY_STATUS_PROTO b = 2 ∧ (s.bayInfo b).push = true ∧ s.dirUse l r.rid < 16 then
      s.snoop .push 0 b l d (s.qBytes (r.lineAt l).1 (r.lineAt l).2 64)
    else s.bump R.COH_PUSH_DROP d [] 1

/-- The directory after a request that succeeds (R343). -/
def State.dirAfter (s : State) (r : Req) : State :=
  let l := r.dpa / 64
  let b := r.bay
  match r.op, SMap.look s.dirs l with
  | .rdShared, none => s.setDir l (r.rsps == []) [b]
  | .rdShared, some e => if e.owned && e.bays == [b] then s else s.setDir l false ((e.bays.filter (· != b)) ++ [b])
  | .rdOwn, _ => s.setDir l true [b]
  | .upgrade, _ => s.setDir l true [b]
  | .wbDirty, _ => s.dirDrop l b
  | _, _ => s

/-- Whether an owner's data answer a read wholly, so that it reads no memory (R343). -/
def Req.forwarded (r : Req) : Bool := r.op == .rdCur && r.lines.all (fun l => r.fwd.any (fun (x : Nat × List Byte) => x.1 == l))

/-- The bytes that answer a read: an owner's data, else memory's, of the sectors that the request names. -/
def State.readBytes (s : State) (r : Req) : List Byte :=
  ((List.range r.len).filter (fun i => bit r.mask (r.dpa % 256 + i))).map (fun i =>
    match r.fwd.find? (fun (x : Nat × List Byte) => x.1 == (r.dpa + i) / 64) with
    | some x => x.2.getD ((r.dpa + i) % 64) 0
    | none => memRead s.dram (qAddr r.q (r.loc + i)))

/-- The memory's part of a transaction, once its snoops and its DRAM access are over (R261, R269, R343). -/
def State.homeDone (s : State) (rid : Nat) : State :=
  match s.req? rid with
  | none => s
  | some r =>
    let part := r.waysOf
    let gran := r.loc / 256
    let bad (s : State) (i : Nat) : State :=
      let ad := r.dpa / 256 * 256 + 32 * i
      (s.logUe r.q ad false r.waysOf r.ctx r.uid).answer rid r.ans 1 (leBytes 6 ad)
    if r.ans = 4 then (s.dirAfter r).answer rid 4 0 []
    else if r.op = .atomic then
      match s.badSector r.q gran r.mask false with
      | some i => bad s i
      | none =>
        let n (o k : Nat) : Nat := leNat ((r.data.drop o).take k)
        let s := (s.stcAccess r.q gran r.mask r.dpa part r.stream true).knlMark r.dpa r.q
        let (old, s) := s.atomicAt r.q r.loc r.len (if n 17 1 = r.len then n 16 1 else 8) (n 0 8) (n 8 8)
        s.answer rid 6 0 old
    else if r.op.writes then
      match (if s.retired r.q then none else s.badSector r.q gran r.mask true) with
      | some i => bad s i
      | none =>
        let s := ((s.stcAccess r.q gran r.mask r.dpa part r.stream true).knlMark r.dpa r.q).qPut r.q r.loc (s.mergeMask r.q r.loc r.mask (padTo r.len r.data))
        let s := (s.dirAfter r).answer rid r.ans 0 []
        if r.op = .wrPlace then s.place347 r else s
    else if r.forwarded then (s.dirAfter r).answer rid r.ans 0 (s.readBytes r)
    else
      match s.badSector r.q gran r.mask false with
      | some i => bad s i
      | none =>
        let bs := s.readBytes r
        let s := s.stcAccess r.q gran r.mask r.dpa part r.stream false
        let s := s.dirAfter r
        let ans := if r.op = .rdShared then (match SMap.look s.dirs (r.dpa / 64) with | some e => if e.owned then 2 else 3 | none => 3) else r.ans
        s.answer rid ans 0 bs

/-! ### The entries of a memory port (R282) -/

/-- WEIGHT of a class of a master port, by its Leash key. -/
def State.weightOf (s : State) (k : Nat) : Nat :=
  s.rd (([R.LSH_M_WEIGHT_LCR, R.LSH_M_WEIGHT_RD, R.LSH_M_WEIGHT_WR, R.LSH_M_WEIGHT_BG] : List Fld).getD (k % 4) R.LSH_M_WEIGHT_BG) (k / 548) [k / 4 % 137]

/-- Whether a memory port has an entry free: 256 in all, of which best-effort requests may take 128. -/
def State.portRoom (s : State) (port : Nat) (be : Bool) : Bool :=
  let l := s.reqs.filter (fun (x : Req) => x.stage == .port && qPort x.q == port)
  decide (l.length < 256) && (!be || s.beOpen port)

def oldestReq (l : List Req) : Option Req :=
  l.foldl (fun (b : Option Req) r => match b with | none => some r | some c => if r.seq < c.seq then some r else some c) none

/-- The deficit round robin: stay on a pair while its deficit covers the charge of its oldest request, else give the next its quantum. -/
def State.drr (s : State) (port : Nat) (ks : List Nat) (charge : Nat → Nat) : Nat → Nat → Nat × State
  | 0, k => (k, s)
  | n + 1, k =>
    if ks.contains k && decide (charge k ≤ SMap.get 0 s.deficits (2192 * port + k)) then (k, s)
    else
      let j := nextPair ks k
      ({ s with deficits := SMap.put 0 s.deficits (2192 * port + j) (SMap.get 0 s.deficits (2192 * port + j) + s.weightOf j) }).drr port ks charge n j

/-- One request takes an entry: the oldest guaranteed one, else the choice of the round robin; pairs of WEIGHT 0 come last, oldest first. -/
def State.portAdmit1 (s : State) (port : Nat) : Option State :=
  let ws := s.reqs.filter (fun (x : Req) => x.stage == .entry && qPort x.q == port)
  let key (r : Req) : Nat := leashKey r.die r.mport r.cls
  let units (r : Req) : Nat := r.units
  let enter (s : State) (r : Req) : State := s.updReq r.rid (fun x => { x with stage := .port })
  match oldestReq (ws.filter (fun r => !r.be)) with
  | some r => if s.portRoom port false then some (enter s r) else none
  | none =>
    if ws = [] || !s.portRoom port true then none
    else
      let heavy := ws.filter (fun r => s.weightOf (key r) != 0)
      if heavy = [] then (oldestReq ws).map (enter s)
      else
        let ks := (heavy.map key).eraseDups
        let head (k : Nat) : Option Req := oldestReq (heavy.filter (fun r => key r == k))
        let x := s.drr port ks (fun k => ((head k).map units).getD 0) (9 * ks.length + 9) (SMap.get 0 s.drrAt port - 1)
        match head x.1 with
        | none => none
        | some r =>
          let i := 2192 * port + x.1
          let left := if (heavy.filter (fun r => key r == x.1)).length ≤ 1 then 0 else SMap.get 0 x.2.deficits i - units r
          some (enter { x.2 with deficits := SMap.put 0 x.2.deficits i left, drrAt := SMap.put 0 x.2.drrAt port (x.1 + 1) } r)

def State.portAdmit (s : State) (port : Nat) : Nat → State
  | 0 => s
  | n + 1 => match s.portAdmit1 port with | some s => s.portAdmit port n | none => s

/-- Every memory port at which a request waits for an entry. -/
def State.admitEntries (s : State) : State :=
  let ps := ((s.reqs.filter (fun (x : Req) => x.stage == .entry)).map (fun (x : Req) => qPort x.q)).eraseDups
  s.each ps (fun s p => s.portAdmit p s.reqs.length)

/-- A port serves a request: counted by class and lateness (R283, R296), then the memory's part. -/
def State.portDone (s : State) (r : Req) : State := (s.portServe r.die r.mport r.q r.cls r.units (s.now - r.t)).homeDone r.rid

/-- The memory's side begins. What needs no memory ends at once; what the slice serves is served at once, within what strict masters leave (R287);
all else waits for an entry and a DRAM command (R261, R282). The gather engine issues a narrow request here (R264). -/
def State.homeMem (s : State) (rid : Nat) : State :=
  match s.req? rid with
  | none => s
  | some r =>
    if r.ans = 4 || r.forwarded then s.homeDone rid
    else
      let s := if r.narrow then s.roll R.MEM_PORT_SECTORS (qDie r.q) (portIx r.q) 1 else s
      let fetch := s.dramSectors r.q (r.loc / 256) r.mask (r.op.writes && r.op != .atomic)
      if (fetch = 0 || s.retired r.q) && s.mayServe r.die r.mport r.q r.units then s.portDone r
      else (s.updReq rid (fun r => { r with stage := .entry })).admitEntries

/-- What the stack cache's own codes report of the sectors a request finds there (R267 to R269): a corrected error is counted; an
uncorrectable one, or a tag parity error on a dirty line, marks the sector; a tag parity error on a clean line (`onDie` 2) drops the line. -/
def State.sliceEcc (s : State) (q gran mask : Nat) (ecc : List Ecc) (dpa : Nat := 0) (part : Nat := 255) (ctx : Nat := 255) : State :=
  match s.stcFind q gran with
  | none => s
  | some l =>
    let hit := (maskList (touchedM mask)).filter (bit l.valid)
    (hit.zip ecc).foldl (fun s x =>
      let e := x.2
      let d := qDie q
      let corrected (s : State) : State :=
        let s := s.bump R.STC_SECTOR_ERR d [] 1
        s.err d { (Err.plain 0 9 0 (scopeOf 1 (qPort q)) (s.rd R.STC_SECTOR_ERR d)) with part := recPart part, ctx := recCtx part ctx, addr := dpa / 256 * 256 + 32 * x.1 }
      let lose (s : State) (i : Nat) : State :=
        let s := match s.stcFind q gran with
          | some l => s.stcSetLine { l with valid := setBits l.valid i 1 0, dirty := setBits l.dirty i 1 0 }
          | none => s
        { s with ue := SMap.ins s.ue (qAddr q (gran * 256 + 32 * i) / 32) 1 }
      if e.onDie = 2 then
        if l.dirty = 0 then
          let s := corrected s
          { s with stcLines := s.stcLines.filter (fun (m : StcLine) => !(m.q == q && m.gran == gran)) }
        else (maskList l.dirty).foldl lose s
      else if 2 ≤ e.secDed then lose s x.1
      else if e.secDed = 1 then corrected s else s) s

/-- Requests that reach the homes of every island: those of torus ports, Kennel, the endpoint and the Collar and Pack cores (R29, R348). -/
def Req.roams (r : Req) : Bool := r.mport == 130 || r.mport == 131 || r.mport == 134 || r.mport == 136 || (r.mport == 135 && r.nopart)

/-- A write to a home of an island that is down is discarded and counted (R352). -/
def State.refused (s : State) (q : Nat) (write : Bool) : State :=
  if write && !s.islUp (s.island (qDie q)) then s.bump R.COH_NOT_ISLAND (qDie q) [] 1 else s

/-- The home takes a request up (R342 to R348). -/
def State.homeTry (s : State) (rid : Nat) (ecc : List Ecc) : State :=
  match s.req? rid with
  | none => s
  | some r =>
    let d := qDie r.q
    if !s.homeUp r.q then
      (s.refused r.q r.op.writes).answer rid r.op.ans 2 []
    else if !r.roams && s.island r.die != s.island d then (s.bump R.COH_NOT_ISLAND d [] 1).answer rid r.op.ans 3 []
    else
      let b := r.bay
      let l := r.dpa / 64
      -- a write-back or an eviction that meets a snoop to its sender (R345)
      match s.snoops.find? (fun (n : Snoop) => n.bay == b && n.line == l && n.op != .push) with
      | some n =>
        if r.op = .wbDirty then
          let s := s.putLine (some (r.q, r.loc)) l r.waysOf r.data
          let s := s.updReq n.rid (fun x => { x with fwd := x.fwd ++ [(l, padTo 64 r.data)] })
          (s.dirDrop l b).updReq rid (fun x => { x with op := .evictClean, stage := .waiting })
        else if r.op = .evictClean then (s.dirDrop l b).answer rid 5 0 []
        else s.updReq rid (fun x => { x with stage := .waiting })
      | none =>
        if s.lineBusy r then s.updReq rid (fun x => { x with stage := .waiting })
        else
          match (if r.op.writes then s.knlHolds r.dpa else none) with
          | some _ => (if r.stage == .waiting then s else s.bump R.KNL_HELD 0 [] 1).updReq rid (fun x => { x with stage := .waiting })
          | none =>
            match r.op with
            | .evictClean => (s.dirDrop l b).answer rid 5 0 []
            | .wbDirty =>
              (match SMap.look s.dirs l with
               | some e => if e.owned && e.bays == [b] then s.homeDone rid else (s.dropReq rid).takeDown (s.island d) 2 (bayNode b) l d
               | none => (s.dropReq rid).takeDown (s.island d) 2 (bayNode b) l d)
            | _ =>
              if r.op.caches && (SMap.look s.dirs l).isNone && decide (16 ≤ s.dirUse l rid) then
                let s := s.updReq rid (fun x => { x with stage := .waiting })
                if s.snoops.any (fun (n : Snoop) => n.rid == rid) then s
                else
                  match s.victim l with
                  | none => s
                  | some v =>
                    let bs := match SMap.look s.dirs v with | some e => e.bays | none => []
                    (s.bump R.COH_DIR_EVICTS d [] 1).each bs (fun s b => s.snoop .inv rid b v d [])
              else
                let upg := r.op == .upgrade && (match SMap.look s.dirs l with | some e => !e.owned && e.bays.contains b | none => false)
                let ns := s.needs r
                let s := s.sliceEcc r.q (r.loc / 256) r.mask ecc r.dpa r.waysOf r.ctx
                let s := s.updReq rid (fun x => { x with ans := if upg then 4 else r.op.ans, stage := .snoop })
                if ns = [] then s.homeMem rid else s.each ns (fun s n => s.snoop n.1 rid n.2.1 n.2.2 d [])

/-- Requests that waited are tried again, in arrival order (R342). -/
def State.pumpHome (s : State) : State :=
  let ws := (s.reqs.filter (fun (r : Req) => r.stage == .waiting)).mergeSort (fun a b => a.seq ≤ b.seq)
  (s.each ws (fun s r => s.homeTry r.rid [])).admitEntries

/-! ### Requests arrive -/

/-- A request on Flial reaches its home: its age counts from here (R280). -/
def State.homeArrive (s : State) (rid : Nat) (ecc : List Ecc) : State :=
  let s := s.updReq rid (fun r => { r with t := s.now, seq := s.nextId })
  (({ s with nextId := s.nextId + 1 }).homeTry rid ecc).pumpHome

/-- Whether an earlier request of the same master port is still on its way to the same memory port: it arrives first (R335). -/
def State.overtakes (s : State) (r : Req) : Bool :=
  s.reqs.any (fun (x : Req) => x.stage == .sent && x.die == r.die && x.mport == r.mport && qPort x.q == qPort r.q && decide (x.seq < r.seq))

/-- The bytes of a request's answer where they stand in its granule. -/
def Req.spread (r : Req) : List Byte :=
  let at_ := (List.range 256).filter (bit r.mask)
  ((at_.zip r.answer).foldl (fun (m : SMap Byte) x => SMap.ins m x.1 x.2) []) |> fun m => (List.range 256).map (fun i => SMap.get 0 m i)

/-- The bytes of its granule that a bay's request concerns: a coherence request the 64-byte line of its lowest sector, an atomic those its flit
names, the others the sectors of SMASK, or the bytes that a mask flit enables (R325, R343). -/
def bayMask (op : ReqOp) (f : ReqFlit) (en : Option Nat) (opnd : List Byte) : Nat :=
  let secs := (maskList f.smask).foldl (fun m i => m + (2 ^ 32 - 1) * 2 ^ (32 * i)) 0
  let line (k : Nat) : Nat := byteMask (64 * k) 64
  let first := (maskList f.smask).headD 0 / 2
  match op with
  | .rdCur => secs
  | .wrInv => (en.map (secs &&& ·)).getD secs
  | .wrPlace => (en.map (line first &&& secs &&& ·)).getD (line first &&& secs)
  | .atomic =>
    let size := if (opnd.getD 17 0).toNat = 4 then 4 else 8
    byteMask ((opnd.getD 18 0).toNat / size * size) size
  | _ => line first

/-- A bay's request comes in (R373), as its flits bring it (R325, R328). A data flit that does not carry the bay's generation is discarded and
counted (R329); sectors of a write whose data have not come are not written. -/
def State.bayRequest (s : State) (op : ReqOp) (b word : Nat) (flits : List Nat) (ecc : List Ecc) : State :=
  let die := b / 2
  let f := reqFlit word
  let g := s.bayRd R.BAY_STATUS_BGEN b
  let cxl := s.bayRd R.BAY_STATUS_PROTO b == 1
  let fs := flits.map dataFlit
  let late := (fs.filter (fun x => x.gen != g)).length
  let s := if late = 0 then s else s.bump R.FLL_DISCARDS die [] late
  let bytes := flitBytes g f.tag fs
  let opnd := (List.range 19).map (fun i => SMap.get 0 bytes i)
  let mask := bayMask op f (if f.masked then some ((flitMask g f.tag fs).getD 0) else none) opnd
  let mask := if op.writes && op != .atomic then (List.range 256).foldl (fun m i => if bit mask i && (SMap.look bytes i).isSome then m + 2 ^ i else m) 0 else mask
  let o := ((List.range 256).find? (bit mask)).getD 0
  let e := (((List.range 256).reverse).find? (bit mask)).getD 0
  let n := if mask = 0 then 0 else e + 1 - o
  let dpa := f.granule * 256 + o
  if !s.bayMay b f.part dpa n then
    let s := (s.bayBump R.BAY_DENIED b 1).bayAnswer b op.ans (bayNode b) f.tag false 1 g 0 []
    let x := s.bayInfo b
    if x.deniedAt = 0 ∨ x.deniedAt + 10 ^ 6 ≤ s.now + 1 then
      let s := s.setBay b { x with deniedAt := s.now + 1 }
      s.err die { (Err.plain 2 7 0 (scopeOf 2 b) (s.bayStatus b)) with
        part := if cxl then 255 else recPart f.part, ctx := if cxl then 255 else recCtx f.part f.ctx, addr := dpa }
    else s
  else
    match s.decode dpa with
    | none => s.bayAnswer b op.ans (bayNode b) f.tag false 1 g 0 []
    | some (q, loc) =>
      let rid := s.nextId
      let data := if op = .atomic then opnd else (List.range n).map (fun i => SMap.get 0 bytes (o + i))
      let r : Req :=
        { rid := 0, uid := 0, task := 0, mask := mask, slot := false, op := op, die := die, mport := 128 + b % 2, owner := .bay b f.tag,
          part := if cxl then 0 else f.part, ctx := if cxl then 0 else f.ctx, gen := g, nopart := cxl, epoch := f.epoch,
          cls := if op.writes then 2 else if f.stream then 1 else 0, guar := false, narrow := false, stream := f.stream, drain := false, va := 0,
          dpa := dpa, q := q, loc := loc, len := n, data := if op.writes then data else [], place := f.place, off := 0, trOff := 0, stage := .sent,
          t := 0, seq := 0, rsps := [], fwd := [], ans := 0, status := 0, answer := [] }
      let s := s.leash1 r
      match s.req? rid with
      | some r => if r.stage == .sent && !s.overtakes r then s.homeArrive rid ecc else s
      | none => s

/-- Whether an opcode is one of R325: a request of R343, of the register blocks, or of the bay work port (R379). -/
def opcodeDefined (n : Nat) : Bool :=
  ([0, 1, 2, 3, 4, 5, 8, 9, 0x10, 0x20, 0x21, 0x30, 0x31, 0x32, 0x33, 0x34, 0x38, 0x39, 0x3A] : List Nat).contains n

/-- A request row: one the state holds on its way, or one from a bay. From a bay, a byte that is no tag, a reserved node ID, an undefined opcode, or in
CXL mode a request outside the table of R372, is a protocol error of its island (R324, R350, R371, R372, R379). -/
def State.homeRow (s : State) (op : ReqOp) (a : Arrival) (dt : Nat) (ecc : List Ecc) : State :=
  match a with
  | .req rid =>
    match s.req? rid with
    | some r => if r.stage == .sent && r.op == op && !s.overtakes r then (s.at_ dt).homeArrive rid ecc else s
    | none => s
  | .bay b stream =>
    if 8 ≤ b || !s.bayLive b then s
    else
      match bayItems stream.length stream with
      | none => (s.at_ dt).takeDown (s.island (b / 2)) 2 (bayNode b) 0 (b / 2)
      | some items =>
      match items.find? (fun x => x.1 == 0xA0) with
      | none => s
      | some (_, word) =>
      let flits := (items.filter (fun x => x.1 == 0xA3)).map (·.2)
      let f := reqFlit word
      let bad := nodeOf f.dest == .reserved || nodeOf f.src == .reserved || !opcodeDefined f.opcode ||
        (s.bayRd R.BAY_STATUS_PROTO b == 1 && (f.opcode == ReqOp.code .wrPlace || f.opcode == ReqOp.code .atomic))
      if bad then (s.at_ dt).takeDown (s.island (b / 2)) 2 f.src (f.granule * 4 + (maskList f.smask).headD 0 / 2) (b / 2)
      else if f.opcode == op.code then (s.at_ dt).bayRequest op b word flits ecc else s

/-- The requests of R343. -/
def execRdCur (a : Arrival) (dt : Nat) (ecc : List Ecc) (s : State) : Result := within s true (s.homeRow .rdCur a dt ecc)
def execRdShared (a : Arrival) (dt : Nat) (ecc : List Ecc) (s : State) : Result := within s true (s.homeRow .rdShared a dt ecc)
def execRdOwn (a : Arrival) (dt : Nat) (ecc : List Ecc) (s : State) : Result := within s true (s.homeRow .rdOwn a dt ecc)
def execUpgrade (a : Arrival) (dt : Nat) (ecc : List Ecc) (s : State) : Result := within s true (s.homeRow .upgrade a dt ecc)
def execWbDirty (a : Arrival) (dt : Nat) (ecc : List Ecc) (s : State) : Result := within s true (s.homeRow .wbDirty a dt ecc)
def execEvictClean (a : Arrival) (dt : Nat) (ecc : List Ecc) (s : State) : Result := within s true (s.homeRow .evictClean a dt ecc)
def execWrInv (a : Arrival) (dt : Nat) (ecc : List Ecc) (s : State) : Result := within s true (s.homeRow .wrInv a dt ecc)
def execWrPlace (a : Arrival) (dt : Nat) (ecc : List Ecc) (s : State) : Result := within s true (s.homeRow .wrPlace a dt ecc)
def execAtomic (a : Arrival) (dt : Nat) (ecc : List Ecc) (s : State) : Result := within s true (s.homeRow .atomic a dt ecc)

/-! ### Snoops and their answers (R344) -/

/-- A bay agent of the package receives a snoop and answers from what it holds: 0 nothing, 1 E or S, 2 M. One of an earlier admission it
discards (R329, R374). -/
def State.bayAnswers (s : State) (op : SnpOp) (tag answer : Nat) (data : List Byte) : State :=
  match s.snoops.find? (fun (n : Snoop) => n.tag == tag && n.op == op && n.answer.isNone) with
  | none => s
  | some n =>
    if !s.bayLive n.bay then s
    else if n.bgen != s.bayRd R.BAY_STATUS_BGEN n.bay then s.bump R.FLL_DISCARDS (n.bay / 2) [] 1
    else { s with snoops := s.snoops.map (fun (x : Snoop) =>
      if x.tag == tag then { x with answer := some answer, data := if answer = 2 then padTo 64 data else x.data } else x) }

def execSnpCur (tag holds : Nat) (data : List (BitVec 8)) (s : State) : Result :=
  within s true (s.bayAnswers .cur tag (if holds = 0 then 0 else if holds = 1 then 1 else 2) data)
def execSnpShare (tag holds : Nat) (data : List (BitVec 8)) (s : State) : Result :=
  within s true (s.bayAnswers .share tag (if holds = 0 then 0 else if holds = 1 then 1 else 2) data)
def execSnpInv (tag holds : Nat) (data : List (BitVec 8)) (s : State) : Result :=
  within s true (s.bayAnswers .inv tag (if holds = 2 ∨ 2 < holds then 2 else 0) data)
def execSnpPush (tag : Nat) (accept : Bool) (s : State) : Result :=
  within s true (s.bayAnswers .push tag (if accept then 3 else 4) [])

/-- What an answer changes at the home: the data are written (but those of SNP_CUR) or forwarded, and the entry follows the bay's new
state. The request goes on when its last answer is in (R343, R346). -/
def State.snoopOver (s : State) (n : Snoop) (ans : Nat) : State :=
  let s := { s with snoops := s.snoops.filter (fun (x : Snoop) => x.tag != n.tag) }
  let part := match s.req? n.rid with | some r => r.waysOf | none => 64
  let at_ := match s.req? n.rid with
    | some r => if r.lines.contains n.line then some (r.lineAt n.line) else s.decode (n.line * 64)
    | none => s.decode (n.line * 64)
  let s := if ans = 2 ∧ n.op ≠ .cur then s.putLine at_ n.line part n.data else s
  let s := match n.op with
    | .inv => s.dirDrop n.line n.bay
    | .share => if ans = 0 then s.dirDrop n.line n.bay else
        (match SMap.look s.dirs n.line with | some e => s.setDir n.line false e.bays | none => s)
    | _ => s
  let s := s.updReq n.rid (fun r =>
    if r.lines.contains n.line then
      { r with rsps := r.rsps ++ [(n.line, n.bay, ans)], fwd := if ans = 2 ∧ n.op = .cur then r.fwd ++ [(n.line, n.data)] else r.fwd }
    else r)
  let s := match s.req? n.rid with
    | some r => if r.stage == Stage.snoop && !s.snoops.any (fun (x : Snoop) => x.rid == n.rid) then s.homeMem n.rid else s
    | none => s
  s.pumpHome

/-- A snoop's answer of an earlier admission of the bay is discarded and counted (R329): its snoop then stays without an answer. -/
def State.rspStale (s : State) (n : Snoop) : Bool := n.bgen != s.bayRd R.BAY_STATUS_BGEN n.bay
def State.rspDrop (s : State) (n : Snoop) : State :=
  { (s.bump R.FLL_DISCARDS (s.linePort n.line / 32) [] 1) with snoops := s.snoops.map (fun (x : Snoop) => if x.tag == n.tag then { x with answer := some 5 } else x) }

def State.rspRow (s : State) (ans tag dt : Nat) : State :=
  match s.snoops.find? (fun (n : Snoop) => n.tag == tag && n.answer == some ans) with
  | none => s
  | some n => if s.rspStale n then (s.at_ dt).rspDrop n else (s.at_ dt).snoopOver n ans

def execRspI (tag dt : Nat) (s : State) : Result := within s true (s.rspRow 0 tag dt)
def execRspS (tag dt : Nat) (s : State) : Result := within s true (s.rspRow 1 tag dt)
def execRspData (tag dt : Nat) (s : State) : Result := within s true (s.rspRow 2 tag dt)

/-- The answers to SNP_PUSH (R347). -/
def State.pushOver (s : State) (tag dt : Nat) (ok : Bool) : State :=
  match s.snoops.find? (fun (n : Snoop) => n.tag == tag && n.answer == some (if ok then 3 else 4)) with
  | none => s
  | some n =>
    if s.rspStale n then (s.at_ dt).rspDrop n else
    let d := match s.decode (n.line * 64) with | some (q, _) => qDie q | none => n.bay / 2
    let s := { (s.at_ dt) with snoops := s.snoops.filter (fun (x : Snoop) => x.tag != tag) }
    let s := if ok then (s.bump R.COH_PUSH_ACK d [] 1).setDir n.line false [n.bay] else s.bump R.COH_PUSH_DROP d [] 1
    s.pumpHome

def execPushAck (tag dt : Nat) (s : State) : Result := within s true (s.pushOver tag dt true)
def execPushNack (tag dt : Nat) (s : State) : Result := within s true (s.pushOver tag dt false)

/-! ### The DRAM controllers (R280 to R283, R287) -/

/-- R281's keys of a request, smallest first. A drained request ranks as guaranteed at urgency 3 (R311). -/
def State.dramKey (s : State) (r : Req) (openIds : List Nat) : List Nat :=
  let urg := if r.drain then 3 else s.urgency (qDie r.q) r.cls (s.now - r.t)
  [if r.guar || r.drain then 0 else 1, 3 - urg, if r.cls = 0 then 0 else 1, if openIds.contains r.rid then 0 else 1, r.seq]

def lexLt : List Nat → List Nat → Bool
  | [], _ => false
  | _, [] => false
  | a :: l, b :: m => decide (a < b) || (a == b && lexLt l m)

/-- Whether a waiting request may be served: one of WEIGHT 0 only while none of another weight waits at the port (R282), one that
is not strict only within what strict masters leave (R287). -/
def State.maySend (s : State) (r : Req) : Bool :=
  let w (x : Req) : Nat := s.weightOf (leashKey x.die x.mport x.cls)
  !(r.be && w r == 0 && s.reqs.any (fun (x : Req) => (x.stage == .port || x.stage == .entry) && qPort x.q == qPort r.q && x.be && w x != 0)) &&
  s.mayServe r.die r.mport r.q r.units

/-- The requests a pseudo-channel may take a command for, and the one R281 chooses. -/
def State.dramWaiting (s : State) (q : Nat) : List Req := s.reqs.filter (fun (r : Req) => r.q == q && r.stage == .port && s.maySend r)
def State.dramChoice (s : State) (q : Nat) (openIds : List Nat) : Option Req :=
  (s.dramWaiting q).foldl (fun (b : Option Req) r => match b with
      | none => some r
      | some c => if lexLt (s.dramKey r openIds) (s.dramKey c openIds) then some r else some c) none

/-- A request is served; the sectors are read with a report of their codes (R267 to R269). An entry is free again (R282). -/
def State.dramServe (s : State) (r : Req) (ecc : List Ecc) : State :=
  let secs := maskList (s.dramSectors r.q (r.loc / 256) r.mask (r.op.writes && r.op != .atomic))
  let s := s.each (secs.zip ecc) (fun s x => s.eccRead r.q (r.loc / 256 * 256 + 32 * x.1) x.2 r.waysOf r.ctx)
  (s.portDone r).pumpHome.releaseHeld

/-- A pseudo-channel takes a command for the request R281 chooses. -/
def State.dramIssue (s : State) (q : Nat) (openIds : List Nat) (ecc : List Ecc) : State :=
  match s.dramChoice q openIds with
  | none => s
  | some r => if s.rd R.MEM_STACK_TEMP_BAND (qStack q / 4) [qStack q % 4] = 4 || !s.homeUp q then s else s.dramServe r ecc

def execDramCommandIssue (q dt : Nat) (openIds : List Nat) (ecc : List Ecc) (s : State) : Result :=
  within s (decide (q < 1024)) ((s.at_ dt).dramIssue q openIds ecc)

/-! ### Answers reach their requesters (R326, R329) -/

/-- The generation a requester would put in GEN now (R329). -/
def State.ownerGen (s : State) (r : Req) : Nat :=
  match r.owner with
  | .bay b _ => s.bayRd R.BAY_STATUS_BGEN b
  | _ => s.portGen r.die r.mport r.nopart r.part

/-- The pieces of a transfer one request stands for: a host request covers several (R447). -/
def Req.count (r : Req) : Nat := if r.q = 1024 then r.loc else 1

/-- The bytes of an answer that has come whole. -/
def Req.seqBytes (r : Req) : List Byte := padTo r.len r.answer

/-- Bytes that arrive for a transfer are stored; those of a command that a hazard has spoiled are free (R55). -/
def State.land (s : State) (x : Xfer) (bs : List Byte) (off : Nat) : State :=
  let spoiled := (s.tile x.tile).cmds.any (fun (c : TCmd) => c.seq == x.seq && c.spoiled)
  let b := if spoiled then s.freeBytes bs.length else bs
  let s := if spoiled then s.useFree bs.length else s
  match x.space with
  | .tm => s.setTile x.tile ((s.tile x.tile).putTm off b)
  | .cb => s.setClu (x.tile / 16) ((s.clu (x.tile / 16)).putCb off b)

/-- Data or an acknowledgement for a tile's transfer: the bytes into tile memory or cluster buffer, or the end of its unit. A
host read that fails has delivered the bytes below the first that did not arrive (R447). -/
def State.deliverXfer (s : State) (r : Req) (xid : Nat) : State :=
  match s.xfers.find? (fun (x : Xfer) => x.id == xid) with
  | none => s
  | some x =>
    let left := x.inflight - r.count
    let keep := !(x.pieces.isEmpty && left == 0)
    let xs : List Xfer := s.xfers.map (fun (y : Xfer) => if y.id == xid then { y with inflight := left } else y)
    let s := { s with xfers := xs.filter (fun (y : Xfer) => keep || y.id != xid) }
    let mine := (s.unitOfTile x.tile) == some r.uid
    if !mine then s
    else if x.faulted then (if r.status = 0 && !x.write then s.land x r.seqBytes r.off else s)
    else
      match r.status with
      | 0 => if x.write then s else s.land x r.seqBytes r.off
      | 1 => s.xferEnd x r.va r.trOff (.ue (leNat r.answer) (qPort r.q))
      | 2 => s.xferEnd x r.va r.trOff .down
      | 3 => s.xferEnd x r.va r.trOff (.fault r.va 9)
      | k =>
        let n := r.answer.length
        (if x.write then s else s.land x r.answer r.off).xferEnd x (r.va + n) (r.trOff + n) (.fault (r.va + n) (if k = 4 then 6 else 7))

/-- Whether an earlier answer of the same memory port to the same master port is still on its way: it arrives first (R335). -/
def State.answeredBefore (s : State) (r : Req) : Bool :=
  r.q != 1024 && s.reqs.any (fun (x : Req) => x.stage == .answered && x.die == r.die && x.mport == r.mport && qPort x.q == qPort r.q && decide (x.seq < r.seq))

/-- A response reaches its requester; writes of structures that waited for D to be set go on with it (R303). One of an earlier generation is discarded and counted (R329). -/
def State.deliver (s : State) (rid ans : Nat) : State :=
  match s.reqs.find? (fun (r : Req) => r.rid == rid && r.stage == .answered && r.ans == ans) with
  | none => s
  | some r =>
    if s.answeredBefore r then s
    else if r.gen != s.ownerGen r then
      let s := (s.dropReq rid).bump R.FLL_DISCARDS r.die [] 1
      (match r.owner with | .post (.zero p) => s.putFailed (.zero p) | _ => s)
    else
      match r.owner with
      | .xfer xid => (s.dropReq rid).deliverXfer r xid
      | .bay b tag =>
        let s := s.dropReq rid
        if s.bayLive b then s.bayAnswer b r.ans (portNode (qPort r.q)) tag r.slot (min 3 r.status) r.gen (if r.answer = [] then 0 else touchedM r.mask) r.spread else s
      | .agent =>
        let s := s.updReq rid (fun r => { r with stage := .here })
        if r.op == .atomic && !s.parked.isEmpty then s.unpark else s
      | .post b => let s := s.dropReq rid; if r.status = 0 then s else s.putFailed b

def execRdData (rid : Nat) (s : State) : Result := within s true (s.deliver rid 0)
def execWrAck (rid : Nat) (s : State) : Result := within s true (s.deliver rid 1)
def execGrantE (rid : Nat) (s : State) : Result := within s true (s.deliver rid 2)
def execGrantS (rid : Nat) (s : State) : Result := within s true (s.deliver rid 3)
def execGrantUpg (rid : Nat) (s : State) : Result := within s true (s.deliver rid 4)
def execWbAck (rid : Nat) (s : State) : Result := within s true (s.deliver rid 5)
def execAtomicData (rid : Nat) (s : State) : Result := within s true (s.deliver rid 6)

end Sys2Proof.Machine
end

