-- ==== Sys2Proof/Machine/TileCommands.lean ====
section
/-! DEFINITION. The tile commands, one meaning per opcode (R144). The row of an opcode is the control unit looking at the head of
issue of a tile whose next command has that opcode: it waits, faults, or issues, and the command starts at once when its unit can
take it (R137, R138). If the next command has another opcode, the row's event does not occur and nothing changes (log entry 1). -/

namespace Sys2Proof.Machine

/-- The tiles of the package (R38). -/
def tileOk (t : Nat) : Bool := decide (t < 8192)

/-- NOP, opcode 0x00 (R145). -/
def execNop (tile : Nat) (s : State) : Result := within s (tileOk tile) (s.issue tile (· == 0x00))

/-- TOKEN, opcode 0x01 (R146). -/
def execToken (tile : Nat) (s : State) : Result := within s (tileOk tile) (s.issue tile (· == 0x01))

/-- END, opcode 0x02 (R145). -/
def execTileEnd (tile : Nat) (s : State) : Result := within s (tileOk tile) (s.issue tile (· == 0x02))

/-- LOOP, opcode 0x03 (R141, R142). -/
def execLoop (tile : Nat) (s : State) : Result := within s (tileOk tile) (s.issue tile (· == 0x03))

/-- MOVE, opcode 0x10 (R148 to R151). -/
def execMove (tile : Nat) (s : State) : Result := within s (tileOk tile) (s.issue tile (· == 0x10))

/-- SETBASE, opcode 0x11 (R147, R148). -/
def execSetbase (tile : Nat) (s : State) : Result := within s (tileOk tile) (s.issue tile (· == 0x11))

/-- LDBASE, opcode 0x12 (R148). -/
def execLdbase (tile : Nat) (s : State) : Result := within s (tileOk tile) (s.issue tile (· == 0x12))

/-- SETSHAPE, opcode 0x13 (R147, R148). -/
def execSetshape (tile : Nat) (s : State) : Result := within s (tileOk tile) (s.issue tile (· == 0x13))

/-- FILL, opcode 0x14 (R148). -/
def execFill (tile : Nat) (s : State) : Result := within s (tileOk tile) (s.issue tile (· == 0x14))

/-- GATHER, opcode 0x20 (R152, R153). -/
def execGather (tile : Nat) (s : State) : Result := within s (tileOk tile) (s.issue tile (· == 0x20))

/-- SCATTER, opcode 0x21 (R152, R153). -/
def execScatter (tile : Nat) (s : State) : Result := within s (tileOk tile) (s.issue tile (· == 0x21))

/-- SEND, opcode 0x28 (R63, R154). -/
def execSend (tile : Nat) (s : State) : Result := within s (tileOk tile) (s.issue tile (· == 0x28))

/-- RECV, opcode 0x29 (R64, R154). -/
def execRecv (tile : Nat) (s : State) : Result := within s (tileOk tile) (s.issue tile (· == 0x29))

/-- CUBE, opcode 0x30 (R47, R156 to R161). -/
def execCube (tile : Nat) (s : State) : Result := within s (tileOk tile) (s.issue tile (· == 0x30))

/-- ACCZ, opcode 0x31 (R156). -/
def execAccz (tile : Nat) (s : State) : Result := within s (tileOk tile) (s.issue tile (· == 0x31))

/-- ACCLD, opcode 0x32 (R49, R156). -/
def execAccld (tile : Nat) (s : State) : Result := within s (tileOk tile) (s.issue tile (· == 0x32))

/-- ACCST, opcode 0x33 (R49, R156). -/
def execAccst (tile : Nat) (s : State) : Result := within s (tileOk tile) (s.issue tile (· == 0x33))

/-- DIAL, opcode 0x34 (R128, R160). -/
def execDial (tile : Nat) (s : State) : Result := within s (tileOk tile) (s.issue tile (· == 0x34))

/-- PLANES, opcode 0x35 (R156). -/
def execPlanes (tile : Nat) (s : State) : Result := within s (tileOk tile) (s.issue tile (· == 0x35))

/-- VRCMB, opcode 0x5F (R165). -/
def execVrcmb (tile : Nat) (s : State) : Result := within s (tileOk tile) (s.issue tile (· == 0x5F))

/-- CVT, opcode 0x60 (R168). -/
def execCvt (tile : Nat) (s : State) : Result := within s (tileOk tile) (s.issue tile (· == 0x60))

/-- CVTMX, opcode 0x61 (R169). -/
def execCvtmx (tile : Nat) (s : State) : Result := within s (tileOk tile) (s.issue tile (· == 0x61))

/-- CVTXM, opcode 0x62 (R169). -/
def execCvtxm (tile : Nat) (s : State) : Result := within s (tileOk tile) (s.issue tile (· == 0x62))

/-- SLICE, opcode 0x63 (R170). -/
def execSlice (tile : Nat) (s : State) : Result := within s (tileOk tile) (s.issue tile (· == 0x63))

/-- VADD, opcode 0x40 (R162 to R164). -/
def execVadd (tile : Nat) (s : State) : Result := within s (tileOk tile) (s.issue tile (· == 0x40))

/-- VSUB, opcode 0x41 (R162 to R164). -/
def execVsub (tile : Nat) (s : State) : Result := within s (tileOk tile) (s.issue tile (· == 0x41))

/-- VMUL, opcode 0x42 (R162 to R164). -/
def execVmul (tile : Nat) (s : State) : Result := within s (tileOk tile) (s.issue tile (· == 0x42))

/-- VFMA, opcode 0x43 (R162 to R164). -/
def execVfma (tile : Nat) (s : State) : Result := within s (tileOk tile) (s.issue tile (· == 0x43))

/-- VMIN, opcode 0x44 (R162 to R164). -/
def execVmin (tile : Nat) (s : State) : Result := within s (tileOk tile) (s.issue tile (· == 0x44))

/-- VMAX, opcode 0x45 (R162 to R164). -/
def execVmax (tile : Nat) (s : State) : Result := within s (tileOk tile) (s.issue tile (· == 0x45))

/-- VCEQ, opcode 0x46 (R162 to R164). -/
def execVceq (tile : Nat) (s : State) : Result := within s (tileOk tile) (s.issue tile (· == 0x46))

/-- VCNE, opcode 0x47 (R162 to R164). -/
def execVcne (tile : Nat) (s : State) : Result := within s (tileOk tile) (s.issue tile (· == 0x47))

/-- VCLT, opcode 0x48 (R162 to R164). -/
def execVclt (tile : Nat) (s : State) : Result := within s (tileOk tile) (s.issue tile (· == 0x48))

/-- VCLE, opcode 0x49 (R162 to R164). -/
def execVcle (tile : Nat) (s : State) : Result := within s (tileOk tile) (s.issue tile (· == 0x49))

/-- VAND, opcode 0x4A (R162 to R164). -/
def execVand (tile : Nat) (s : State) : Result := within s (tileOk tile) (s.issue tile (· == 0x4A))

/-- VOR, opcode 0x4B (R162 to R164). -/
def execVor (tile : Nat) (s : State) : Result := within s (tileOk tile) (s.issue tile (· == 0x4B))

/-- VXOR, opcode 0x4C (R162 to R164). -/
def execVxor (tile : Nat) (s : State) : Result := within s (tileOk tile) (s.issue tile (· == 0x4C))

/-- VSEL, opcode 0x4D (R162 to R164). -/
def execVsel (tile : Nat) (s : State) : Result := within s (tileOk tile) (s.issue tile (· == 0x4D))

/-- VABS, opcode 0x4E (R162 to R164). -/
def execVabs (tile : Nat) (s : State) : Result := within s (tileOk tile) (s.issue tile (· == 0x4E))

/-- VNEG, opcode 0x4F (R162 to R164). -/
def execVneg (tile : Nat) (s : State) : Result := within s (tileOk tile) (s.issue tile (· == 0x4F))

/-- VMOV, opcode 0x50 (R162 to R164). -/
def execVmov (tile : Nat) (s : State) : Result := within s (tileOk tile) (s.issue tile (· == 0x50))

/-- VRSUM, opcode 0x51 (R162 to R164). -/
def execVrsum (tile : Nat) (s : State) : Result := within s (tileOk tile) (s.issue tile (· == 0x51))

/-- VRMAX, opcode 0x52 (R162 to R164). -/
def execVrmax (tile : Nat) (s : State) : Result := within s (tileOk tile) (s.issue tile (· == 0x52))

/-- VEXP, opcode 0x53 (R162 to R164). -/
def execVexp (tile : Nat) (s : State) : Result := within s (tileOk tile) (s.issue tile (· == 0x53))

/-- VEXP2, opcode 0x54 (R162 to R164). -/
def execVexp2 (tile : Nat) (s : State) : Result := within s (tileOk tile) (s.issue tile (· == 0x54))

/-- VLOG, opcode 0x55 (R162 to R164). -/
def execVlog (tile : Nat) (s : State) : Result := within s (tileOk tile) (s.issue tile (· == 0x55))

/-- VLOG2, opcode 0x56 (R162 to R164). -/
def execVlog2 (tile : Nat) (s : State) : Result := within s (tileOk tile) (s.issue tile (· == 0x56))

/-- VRCP, opcode 0x57 (R162 to R164). -/
def execVrcp (tile : Nat) (s : State) : Result := within s (tileOk tile) (s.issue tile (· == 0x57))

/-- VSQRT, opcode 0x58 (R162 to R164). -/
def execVsqrt (tile : Nat) (s : State) : Result := within s (tileOk tile) (s.issue tile (· == 0x58))

/-- VRSQRT, opcode 0x59 (R162 to R164). -/
def execVrsqrt (tile : Nat) (s : State) : Result := within s (tileOk tile) (s.issue tile (· == 0x59))

/-- VSIN, opcode 0x5A (R162 to R164). -/
def execVsin (tile : Nat) (s : State) : Result := within s (tileOk tile) (s.issue tile (· == 0x5A))

/-- VCOS, opcode 0x5B (R162 to R164). -/
def execVcos (tile : Nat) (s : State) : Result := within s (tileOk tile) (s.issue tile (· == 0x5B))

/-- VTANH, opcode 0x5C (R162 to R164). -/
def execVtanh (tile : Nat) (s : State) : Result := within s (tileOk tile) (s.issue tile (· == 0x5C))

/-- VSIGM, opcode 0x5D (R162 to R164). -/
def execVsigm (tile : Nat) (s : State) : Result := within s (tileOk tile) (s.issue tile (· == 0x5D))

/-- VERF, opcode 0x5E (R162 to R164). -/
def execVerf (tile : Nat) (s : State) : Result := within s (tileOk tile) (s.issue tile (· == 0x5E))

/-- A command whose opcode R144 does not list faults with ILLEGAL_OPCODE. -/
def execIllegalOpcode (tile : Nat) (s : State) : Result := within s (tileOk tile) (s.issue tile (fun op => !knownOp op))

/-- The oldest command a unit has not started starts once it can (R138). -/
def execCommandStart (tile unit : Nat) (s : State) : Result :=
  within s (tileOk tile && decide (unit < 5)) (
    match (s.tile tile).cmds.find? (fun c => c.unit == unit && !c.started) with
    | some c => if s.canStart tile c then s.start tile c else s
    | none => s)

/-- A started command completes (R71). -/
def execCommandComplete (tile seq : Nat) (s : State) : Result := within s (tileOk tile) (s.complete tile seq)

/-- The k-th signal on its way to a tile arrives (R57, R59); one that reaches a tile whose part is over has no further effect, and one of a unit the
tile no longer works for has none at all (R60). -/
def execTokenSignalArrive (tile k : Nat) (s : State) : Result :=
  within s (tileOk tile) (
    match (s.sigs.filter (fun g => g.tile == tile))[k]? with
    | none => s
    | some g =>
      let s := { s with sigs := s.sigs.erase g }
      let x := s.tile tile
      if g.uid != s.unitOfTile tile then s else s.setTile tile (x.setToken g.tok (min 255 (x.token g.tok + g.inc))))

/-- Whether a tile works for a unit that is not over for it (R67). -/
def State.live (s : State) (t uid : Nat) : Bool :=
  s.unitOfTile t == some uid && decide (1 ≤ s.rdTil R.TIL_STATUS_STATE t) && decide (s.rdTil R.TIL_STATUS_STATE t ≤ 7)

/-- A data or credit flit of a channel arrives over Flial with a generation that is no longer its partition's (R329); a flit within one cluster
crosses no Flial. -/
def State.staleFlit (s : State) (src dst part gen : Nat) : Bool := src / 16 != dst / 16 && s.rd R.PAR_STATUS_GEN 0 [part] != gen

/-- A slot is written into the next slot of its receive ring. No token orders the write against commands that use those bytes (R55). -/
def State.slotWrite (s : State) (t ch : Nat) (data : List Byte) : State :=
  let i := (s.tile t).inCh ch
  let at_ := 128 * (i.base + i.wr)
  let w : TCmd := { seq := (s.tile t).nextSeq, op := 0x29, w0 := 0, w1 := 0, index := 0, unit := 1, mul := [], off := [], started := true,
                    spoiled := false, reads := [], writes := [⟨.tm, at_, 128⟩] }
  let s1 := s.hazards t w
  let s2 := s1.setTile t (((s1.tile t).putTm at_ data).setIn ch { i with wr := (i.wr + 1) % i.slots, arrived := i.arrived + 1 })
  s2.each (s2.rivals t w) (fun s p => s.each (p.2.writes.filter (meet ⟨.tm, at_, 128⟩)) (fun s r => s.freeRange t (overlap ⟨.tm, at_, 128⟩ r)))

/-- The links a slot to another cluster loads with its one data flit: those of the ring it crosses. Where its master port has no room for it in the
slot frame, it is still held there (R336, R340; log entry 121). -/
def SlotFlit.links (f : SlotFlit) : List Nat := f.path.map (128 + ·)
def State.flitHeld (s : State) (f : SlotFlit) : Bool :=
  f.src / 16 != f.dst / 16 && !s.fabricOk (tilDie f.src) (f.src / 16 % 128) f.links 1
def State.flitCross (s : State) (f : SlotFlit) : State :=
  if f.src / 16 = f.dst / 16 then s else s.fabricTake (tilDie f.src) (f.src / 16 % 128) f.links 1 true

/-- The oldest slot on its way to an inbound channel arrives in its receive ring (R61, R66, R176), or is discarded (R67, R329). -/
def execChannelSlotArrive (tile ch : Nat) (s : State) : Result :=
  within s (tileOk tile && decide (ch < 8)) (
    match s.slotFlits.find? (fun f => f.dst == tile && f.ch == ch) with
    | none => s
    | some f =>
      if s.flitHeld f then s
      else
      let s := ({ s with slotFlits := s.slotFlits.erase f }).flitCross f
      if s.staleFlit f.src tile f.part f.gen then s.bump R.FLL_DISCARDS (tilDie tile) [] 1
      else if !s.live tile f.uid then s
      else if ((s.tile tile).inCh ch).slots = 0 then s
      else s.slotWrite tile ch f.data)

/-- Credits on their way back reach the sending tile (R64); a counter taken above its starting value faults there (R65), and a
return after the tile has ended is discarded (R67). No command of the tile is at fault: TIL_FAULT names SEND and the head of issue (DESIGN CHOICE,
log entry 114). -/
def State.creditArrive (s : State) (tile ch : Nat) : State :=
  match s.creditFlits.find? (fun f => f.tile == tile && f.ch == ch) with
  | none => s
  | some f =>
    let s := { s with creditFlits := s.creditFlits.erase f }
    if s.staleFlit f.src tile f.part f.gen then s.bump R.FLL_DISCARDS (tilDie tile) [] 1
    else if !s.live tile f.uid then s
    else
      let x := s.tile tile
      let o := x.outCh ch
      if o.start < o.credits + f.n then s.tileFault tile 0xA 0x28 (x.head % x.ringSize) ch
      else s.setTile tile (x.setOut ch { o with credits := o.credits + f.n })

/-- A credit return within a cluster or over the response network arrives (R64). -/
def execCreditReturn (tile ch : Nat) (s : State) : Result :=
  within s (tileOk tile && decide (ch < 8)) (s.creditArrive tile ch)

end Sys2Proof.Machine
end

