-- ==== Sys2Proof/Machine/Island.lean ====
section
/-! DEFINITION. Coherent islands (R31, R350 to R353): the causes that take one down, the way down, a bay's Heel (R384, R385), and
re-initialisation. -/

namespace Sys2Proof.Machine

/-! ### Causes (R350) -/

/-- The recording die of a cause that no die of the island detects: its lowest die not in reset, or HD0. -/
def State.recDie (s : State) (i : Nat) : Nat := ((s.islDies i).find? (fun d => SMap.get 0 s.dies d != 1)).getD 0

/-- A bay misses the snoop timeout: cause 0x1, detected by the line's home. -/
def execSnoopTimeout (tag : Nat) (s : State) : Result :=
  within s true (match s.snoops.find? (fun (n : Snoop) => n.tag == tag) with
    | none => s
    | some n =>
      let d := match s.decode (n.line * 64) with | some (q, _) => qDie q | none => n.bay / 2
      ({ s with snoops := s.snoops.map (fun (x : Snoop) => if x.tag == tag then { x with answer := some 5 } else x) }).takeDown (s.island d) 1 (bayNode n.bay) n.line d)

/-- A router of a die meets a parity error: cause 0x3. Requests named in `lost` were on the flit and are answered ISLAND_DOWN (R351). -/
def execFlitParityError (die : Nat) (lost : List Nat) (s : State) : Result :=
  within s (decide (die < 4)) (
    let s := s.wr R.FLL_EVENT_PARITY die [] 1
    let s := s.each lost (fun s rid => match s.req? rid with
      | some r => if r.stage == Stage.sent then s.answer rid r.op.ans 2 [] else s
      | none => s)
    s.takeDown (s.island die) 3 (dieNode die) 0 die)

/-- A protocol error at a node of a die: cause 0x2, with the SRC node and the line of the offending flit (R350, R371, R379). -/
def execFlialUndefinedOpcode (die node line : Nat) (s : State) : Result :=
  within s (decide (die < 4)) (s.takeDown (s.island die) 2 node line die)

/-- FORCE_DOWN: cause 0x8. An island number no die bears takes nothing down. -/
def execCohForceDown (island : Nat) (s : State) : Result :=
  within s (decide (island < 4)) (if s.islDies island = [] then s else s.takeDown island 8 0 0 (s.recDie island))

/-! ### A bay enters Heel (R384, R385) -/

/-- The queue blocks bound to a bay: partition and ring number. -/
def State.bayQueues (s : State) (b : Nat) : List (Nat × Nat) :=
  (List.range 64).flatMap (fun p => (List.range 16).filterMap (fun k =>
    if s.rState p (64 + k) != 0 && s.rd R.BAY_Q_BIND_BAY 0 [p, k] == b then some (p, 64 + k) else none))

/-- Heel with a cause of R389; `off` switches the rail off. An entry the bay still owns takes its home's island down with cause 0x7,
unless the island is what went down; then the bay holds nothing. Only an ACTIVE queue goes to HELD (log entry 31). -/
def State.heelBay (s : State) (b cause : Nat) (off : Bool) : State :=
  let owned := s.dirs.filter (fun e => e.2.owned && e.2.bays == [b])
  let s := (s.bayWr R.BAY_STATUS_STATE b 4).bayWr R.BAY_STATUS_HEEL_CAUSE b cause
  let s := s.bayWr R.BAY_EVENT_HEEL b 1
  let s := s.bayErr b 6 1
  let s := if cause ≠ 8 ∧ owned ≠ [] then s.takeDown (s.island (b / 2)) 7 (bayNode b) 0 (b / 2) else s
  let x := s.bayInfo b
  let s := s.setBay b { x with ctl := 4, cause := 0, powered := x.powered && !off, overMs := 0, hotMs := 0 }
  let s := if off then s.bayRail b false else s
  let s := s.each (s.dirs.filter (fun e => e.2.bays.contains b)) (fun s e => s.dirDrop e.1 b)
  let s := s.each (s.bayQueues b) (fun s x => if s.rState x.1 x.2 = 1 then s.setRing x.1 x.2 5 0 else s)
  s.each (s.snoops.filter (fun (n : Snoop) => n.bay == b)) (fun s n => if s.snoops.any (fun (m : Snoop) => m.tag == n.tag) then s.snoopOver n 0 else s)

/-! ### The way down (R224, R351) -/

/-- Requests to the island's homes, those still held at a master port with them, end with STATUS ISLAND_DOWN. -/
def State.endTransactions (s : State) (home : Nat → Bool) : State :=
  let rs := s.reqs.filter (fun (r : Req) => decide (r.q < 1024) && home (qDie r.q) && (r.stage == .held || r.stage == .sent || r.stage == .waiting || r.stage == .snoop || r.stage == .entry || r.stage == .port))
  let s := { s with snoops := s.snoops.filter (fun (n : Snoop) => !rs.any (fun r => r.rid == n.rid)) }
  s.each rs (fun s r => s.answer r.rid r.op.ans 2 [])

/-- The units and fetched descriptors of a partition end ISLAND_DOWN: records go to host rings only, and the rings are STOPPED (R224). -/
def State.partDown (s : State) (p : Nat) : State :=
  let e : Ending := ⟨7, 0, s.downD1 (s.partIsland p)⟩
  let s := s.endUnits (fun u => u.part == p) e
  let s := s.muteUnits (fun u => u.part == p && s.rLoc p u.ring) 1
  let rs := allRings.filter (fun r => s.rState p r != 0)
  let s := s.each rs (fun s r => s.endDescs p r 7 e.d1 (!s.rLoc p r))
  let s := s.each rs (fun s r => if s.rState p r = 4 then s else s.setRing p r 3 5)
  let s := s.dropMisses (fun m => m.part == p)
  let s := if s.rdB R.PAR_STATUS_ZERO_BUSY 0 [p] then s.wr R.PAR_STATUS_ZERO_FAIL 0 [p] 1 else s
  s.wrkEvent p R.WRK_EVENT_ISLAND_DOWN

/-- The partitions of an island. -/
def State.partsOf (s : State) (i : Nat) : List Nat := (List.range 64).filter (fun p => s.rdB R.PAR_CFG_ENABLE 0 [p] && s.partIsland p == i)

/-- A checkpoint that is streaming is abandoned (R421): its granules are dirty again. -/
def State.knlAbandon (s : State) : State :=
  if s.rd R.KNL_STATUS_STATE 0 != 2 then s
  else
    let s := { s with knlDirty := s.knlCkpt.foldl (fun (m : SMap Nat) (e : Nat × Nat) => SMap.put 0 m e.1 (SMap.get 0 m e.1 ||| e.2)) s.knlDirty, knlCkpt := [], knlFrozen := [], knlStage := [] }
    let s := (s.wr R.KNL_EVENT_ABANDONED 0 [] 1).wr R.KNL_STATUS_STATE 0 [] 1
    (s.err 0 (.plain 3 7 0 (scopeOf 7 0) (s.regVal 0 [] [R.KNL_EVENT_MISMATCH, R.KNL_EVENT_RESTORED, R.KNL_EVENT_ABANDONED, R.KNL_EVENT_SKIPPED, R.KNL_EVENT_OVERFLOW]))).pumpHome

/-- Whether an island holds protected memory: Kennel's source. -/
def State.knlSource (s : State) (i : Nat) : Bool :=
  ((List.range 64).map s.region).any (fun r => r.valid && s.knlRegions.any (fun k => overlaps k.1 (k.2 * 2 ^ 16) r.base r.size) &&
    (s.islDies i).any (fun d => r.mode == 0 || (r.mode == 1 && r.target == d) || (r.mode == 2 && r.target / 4 == d)))

/-- The recording die's registers and its error record (R350). -/
def State.downRecord (s : State) (x : Down) : State :=
  let s := s.wrs x.die [] [(R.COH_DOWN_CAUSE_CAUSE, x.cause), (R.COH_DOWN_CAUSE_NODE, x.node), (R.COH_DOWN_LINE_LINE, x.line)]
  s.err x.die { src := 1, code := 1, sev := 2, scope := scopeOf 6 x.island, part := 255, ctx := 255, addr := x.line * 64, d0 := s.regVal x.die [] [R.COH_DOWN_CAUSE_CAUSE, R.COH_DOWN_CAUSE_NODE], d1 := 0, escalated := false }

/-- The steps of R351 for the oldest cause of an island. -/
def State.islandDown (s : State) (x : Down) : State :=
  let i := x.island
  let ds := s.islDies i
  let inIsl (d : Nat) : Bool := s.island d == i
  let s := (s.wr R.COH_ISL_STATE_STATE 0 [i] 1).wr R.COH_ISL_STATE_CAUSE 0 [i] x.cause
  let s := s.bump R.COH_ISL_STATE_DOWN_COUNT 0 [i] 1
  let ps := s.partsOf i
  let s := s.each ps State.partDown
  let s := s.endTransactions inIsl
  let s := s.each ds (fun s d => s.wr R.COH_LOST_OWNED d [] (s.dirs.filter (fun e => e.2.owned && (match s.decode (e.1 * 64) with | some (q, _) => qDie q == d | none => false))).length)
  let s := { s with dirs := s.dirs.filter (fun e => match s.decode (e.1 * 64) with | some (q, _) => !inIsl (qDie q) | none => false) }
  let s := s.each (ds.flatMap (fun d => [2 * d, 2 * d + 1])) (fun s b =>
    let st := s.bayRd R.BAY_STATUS_STATE b
    if st = 1 ∨ st = 2 ∨ st = 3 then s.heelBay b 8 false else s)
  let s := { s with snoops := s.snoops.filter (fun (n : Snoop) => match s.decode (n.line * 64) with | some (q, _) => !inIsl (qDie q) | none => true) }
  let s := if s.knlSource i then s.knlAbandon else s
  let s := s.each (s.invals.filter (fun (v : Inval) => ps.contains v.part && v.started)) (fun s v =>
    if s.invals.any (fun (w : Inval) => w.id == v.id) then s.finishInval { v with bays := [] } else s)
  let s := if x.cause = 1 then s.wr R.COH_EVENT_SNOOP_TIMEOUT x.die [] 1 else if x.cause = 2 then s.wr R.COH_EVENT_PROTOCOL x.die [] 1 else s
  s.downRecord x

/-- The island acts on its oldest cause: it goes down, from UP or from REINIT (R353); if it is DOWN already, only a further record is
written (R352). -/
def execIslandDownNotice (island : Nat) (s : State) : Result :=
  within s (decide (island < 4)) (match s.downs.find? (fun (x : Down) => x.island == island) with
    | none => s
    | some x =>
      let s := { s with downs := s.downs.erase x }
      if s.rd R.COH_ISL_STATE_STATE 0 [island] = 1 then s.downRecord x else s.islandDown x)

/-! ### Re-initialisation (R353, R481, R482) -/

/-- A partition's generation rises; RESET_BUSY stays until no request of the previous one is outstanding. -/
def State.raiseGen (s : State) (p : Nat) : State := (s.roll R.PAR_STATUS_GEN 0 [p] 1).wr R.PAR_STATUS_RESET_BUSY 0 [p] 1

/-- The bays of a die are to be admitted afresh; a thermal dummy never is (R353, R367). -/
def State.admitAgain (s : State) (d : Nat) : State :=
  s.each ([2 * d, 2 * d + 1].filter (fun b => s.population.getD b 0xFF != 0xFF)) (fun s b => (s.bayWr R.BAY_STATUS_STATE b 1).bayWr R.BAY_STATUS_HEEL_CAUSE b 0)

/-- REINIT: ignored unless the island is DOWN. -/
def execCohReinit (island : Nat) (s : State) : Result :=
  within s (decide (island < 4)) (
    if s.rd R.COH_ISL_STATE_STATE 0 [island] = 1 then
      (s.wr R.COH_ISL_STATE_STATE 0 [island] 2).each ((s.islDies island).filter (fun d => s.dieRuns d)) State.admitAgain
    else s)

/-- CLEAR_STATS of the COH block of a die (R355). -/
def execCohClearStats (die : Nat) (s : State) : Result :=
  within s (decide (die < 4)) (s.clear die [R.COH_DIR_EVICTS, R.COH_SNOOPS, R.COH_PUSH_ACK, R.COH_PUSH_DROP, R.COH_NOT_ISLAND, R.COH_LOST_OWNED])

/-- A channel credit-return flit arrives over Flial (R64, R326). -/
def execCredit (tile ch : Nat) (s : State) : Result := within s (decide (tile < 8192) && decide (ch < 8)) (s.creditArrive tile ch)

end Sys2Proof.Machine
end

