-- ==== Sys2Proof/Machine/Bay.lean ====
section
/-! DEFINITION. The bays (R357 to R391): admission, the link in service, power and heat, Heel and release, and the work port. -/

namespace Sys2Proof.Machine

/-! ### Admission (R365 to R370) -/

/-- A field of the chiplet's sideband space. -/
def admNat (record : List Byte) (off n : Nat) : Nat := leNat ((record.drop off).take n)

/-- What the record says (R365). -/
def admVid (r : List Byte) : Nat := admNat r 0x1A 2
def admClass (r : List Byte) : Nat := admNat r 0x18 1 % 16
def admProto (r : List Byte) : Nat := admNat r 0x1C 4
def admQueues (r : List Byte) : Nat := admNat r 0x21 1
def admDepth (r : List Byte) : Nat := admNat r 0x20 1
def admSnoop (r : List Byte) : Nat := admNat r 0x24 2

/-- The power limit of a class, W, and the least VID of its range, mV (R382). -/
def classLimit (c : Nat) : Nat := ([0, 40, 80, 120, 150] : List Nat).getD c 150
def classVid (c : Nat) : Nat := if c ≤ 2 then 650 else 700

/-- MAGIC, VERSION, reserved bits and value ranges. -/
def admRecordOk (r : List Byte) : Bool :=
  admNat r 0 4 == 0x41444D31 && admNat r 4 4 == 1 && admNat r 0x18 2 / 16 == 0 && decide (650 ≤ admVid r) && decide (admVid r ≤ 900) &&
  decide (admProto r < 128) && admNat r 0x22 2 == 0 && decide (admQueues r ≤ 64) && decide (1 ≤ admDepth r) && decide (admDepth r ≤ 64) &&
  admNat r 0x26 2 == 0

/-- The certificate's checks (R366, R368). -/
def admCertOk (r c : List Byte) : Bool :=
  let len := admNat c 4 4
  admNat c 0 4 == 0x43455254 && decide (64 ≤ len) && decide (len ≤ 12288) && Config.xmssOid (admNat c 8 4) && decide (admNat c 0xC 4 ≤ 3) &&
  (c.drop 0x10).take 32 == shake256 32 (r.take 0x80) &&
  Config.xmssVerify (Config.authorityKey 0 (admNat c 0xC 4)) (c.take 0x40) ((c.take len).drop 0x40)

/-- Groups in use of a direction with some disabled: a HALF link uses 64 and keeps the rest as replacements (R360, R369). -/
def bayGroups (half : Bool) (dead : List Nat) : Nat := let n := 128 - (dead.filter (· < 128)).dedup.length; if half then min 64 n else n

/-- The life-cycle states (R512). -/
def State.lcs (s : State) : Nat := s.rd R.LCS_STATE_STATE 0

/-- What the checks of R368 come to: refused with a reason, or admitted with a protocol, whether at 2 GT/s, whether uncertified, and
whether a CE record names a mismatch. -/
inductive Admit where
  | refuse (reason : Nat)
  | ok (proto : Nat) (rate2 : Bool) (uncert : Bool) (mismatch : Bool)

def State.admit368 (s : State) (b : Nat) (answers : Bool) (r c : List Byte) (f4t f4r f2t f2r : List Nat) : Admit :=
  let prod := s.lcs == 2 || s.lcs == 3
  let half := bit (admProto r) 4 || s.bayRd R.BAY_CFG_HALF b == 1
  let cert := admCertOk r c
  let fresh := decide (s.revFloor ≤ admNat c 0x34 4)
  let same := admNat c 0x30 1 == s.population.getD b 0xFF
  let proto := if bit (admProto r) 0 && s.bayRd R.BAY_CFG_FORCE_CXL b == 0 then 2 else if bit (admProto r) 1 then 1 else 0
  let fits (t u : List Nat) : Bool := decide (64 ≤ bayGroups half t) && decide (64 ≤ bayGroups half u)
  let slow := bit (admProto r) 5 || s.bayRd R.BAY_CFG_RATE_2 b == 1
  let rate2 := slow || !fits f4t f4r
  if !answers then .refuse 1
  else if !admRecordOk r then .refuse 2
  else if admClass r = 0 ∨ 4 < admClass r ∨ admVid r < classVid (admClass r) then .refuse 6
  else if s.rd R.COH_ISL_CFG_SNOOP_TIMEOUT 0 ≤ admSnoop r then .refuse 9
  else if !cert && prod then .refuse 3
  else if !fresh && prod then .refuse 4
  else if !same && prod then .refuse 5
  else if proto = 0 then .refuse 7
  else if rate2 && !fits f2t f2r then .refuse 8
  else if s.lcs = 3 then .refuse 0xA
  else .ok proto rate2 (!cert || !fresh) (!same)

/-- The hub writes a CTL register of the chiplet over the sideband; the operation number is the register's offset. -/
def State.ctl (s : State) (b off v : Nat) : State := s.send (.bay b off (leBytes 4 v))

/-- Free spare lanes over both directions: two in each group that is not disabled, less those used. -/
def BayInfo.spares (x : BayInfo) : Nat :=
  let dir (dead : List Nat) (used : SMap Nat) : Nat := (List.range 128).foldl (fun n g => if dead.contains g then n else n + (2 - SMap.get 0 used g)) 0
  dir x.deadTx x.usedTx + dir x.deadRx x.usedRx

def State.bayLanes (s : State) (b : Nat) : State :=
  let x := s.bayInfo b
  s.wrs (b / 2) [b % 2] [(R.BAY_LANES_TX_GROUPS, bayGroups x.half x.deadTx), (R.BAY_LANES_RX_GROUPS, bayGroups x.half x.deadRx), (R.BAY_LANES_SPARES, x.spares)]

/-- Count each mention of a group as one spare used. -/
def useSpares (l : List Nat) : SMap Nat := l.foldl (fun m g => SMap.put 0 m g (min 2 (SMap.get 0 m g + 1))) []

/-- Collar admits a bay that is to be admitted, or refuses it into Heel (R367 to R370). `answers`: the sideband answers at step 2; `record`
and `cert` are sideband bytes 0x0000 to 0x00FF and the certificate; the failing groups of each direction at 4 and at 2 GT/s, and the groups
that used a spare, one mention for each lane. A refusal writes its own CE record and no HEEL record (log entry 32). -/
def State.admitBay (s : State) (b : Nat) (answers : Bool) (record cert : List Byte) (f4t f4r f2t f2r rt rr : List Nat) : State :=
  if s.bayRd R.BAY_STATUS_STATE b != 1 || s.population.getD b 0xFF == 0xFF || s.islDown (s.island (b / 2)) then s
  else
    match s.admit368 b answers record cert f4t f4r f2t f2r with
    | .refuse k =>
      let s := s.setBay b { BayInfo.idle with ctl := 4 }
      let s := s.wrs (b / 2) [b % 2] [(R.BAY_STATUS_STATE, 4), (R.BAY_STATUS_HEEL_CAUSE, 1), (R.BAY_STATUS_REFUSE, k), (R.BAY_STATUS_PROTO, 0),
        (R.BAY_EVENT_REFUSED, 1), (R.BAY_EVENT_HEEL, 1)]
      let s := s.each (s.bayQueues b) (fun s x => if s.rState x.1 x.2 = 1 then s.setRing x.1 x.2 5 0 else s)
      (s.bayErr b 1 0).bayRail b false
    | .ok proto rate2 uncert mismatch =>
      let half := bit (admProto record) 4 || s.bayRd R.BAY_CFG_HALF b == 1
      let cls := admClass record
      let x : BayInfo := { BayInfo.idle with powered := true, push := bit (admProto record) 3, separate := bit (admProto record) 6, queues := admQueues record, depth := admDepth record, cls := cls, half := half, deadTx := (if rate2 then f2t else f4t), deadRx := (if rate2 then f2r else f4r), usedTx := useSpares rt, usedRx := useSpares rr, ctl := 2, plimit := classLimit cls }
      let g := (s.bayRd R.BAY_STATUS_BGEN b + 1) % 256
      let s := s.setBay b x
      let s := s.wrs (b / 2) [b % 2] [(R.BAY_STATUS_STATE, 2), (R.BAY_STATUS_HEEL_CAUSE, 0), (R.BAY_STATUS_PROTO, proto), (R.BAY_STATUS_RATE2, if rate2 then 1 else 0),
        (R.BAY_STATUS_HALF, if half then 1 else 0), (R.BAY_STATUS_UNCERT, if uncert then 1 else 0), (R.BAY_STATUS_BGEN, g),
        (R.BAY_IDENT_VENDOR, admNat record 0xA 2), (R.BAY_IDENT_PART, admNat record 8 2), (R.BAY_CLASS_SLOT, admNat cert 0x30 1), (R.BAY_CLASS_CLASS, cls)]
      let dg := shake256 32 (record.take 0x80 ++ cert.take (admNat cert 4 4))
      let s := s.each (List.range 8) (fun s i => s.wr R.BAY_DIGEST (b / 2) [b % 2, i] (admNat dg (4 * i) 4))
      let s := (s.bayLanes b).bayRail b true
      let s := (((s.ctl b 0x84 g).ctl b 0x80 1).ctl b 0x88 (proto * 16 + (if rate2 then 4 else 0) + (if half then 2 else 0))).ctl b 0x80 2
      let s := s.each (s.bayQueues b) (fun s x => if s.rState x.1 x.2 = 5 then s.setRing x.1 x.2 1 0 else s)
      let s := if mismatch then s.bayErr b 2 0 else s
      if uncert then s.bayErr b 1 0 else s

def execBayAdmission (bay : Nat) (answers : Bool) (record cert : List (BitVec 8)) (fail4Tx fail4Rx fail2Tx fail2Rx repTx repRx : List Nat) (s : State) : Result :=
  within s (decide (bay < 8)) (s.admitBay bay answers record cert fail4Tx fail4Rx fail2Tx fail2Rx repTx repRx)

/-! ### Evacuation and Heel (R384 to R386) -/

/-- The homes snoop out the entries that name a bay, but for lines with an active transaction, which they come back to. -/
def State.snoopOut (s : State) (b : Nat) : State :=
  s.each (s.dirs.filter (fun e => e.2.bays.contains b && !s.snoops.any (fun (n : Snoop) => n.line == e.1) &&
      !s.reqs.any (fun (r : Req) => r.active && r.lines.contains e.1))) (fun s e =>
    match s.decode (e.1 * 64) with
    | some (q, _) => s.snoop .inv 0 b e.1 (qDie q) []
    | none => s)

def State.evacuate (s : State) (b cause : Nat) : State :=
  let s := (s.bayWr R.BAY_STATUS_STATE b 3).setBay b { s.bayInfo b with ctl := 3, cause := cause }
  (s.ctl b 0x80 3).snoopOut b

/-- The end of an evacuation; POWER and THERMAL switch the rail off (R383). -/
def State.evacEnd (s : State) (b : Nat) : State := let c := (s.bayInfo b).cause; s.heelBay b c (c == 5 || c == 6)

/-- STS_EVAC_DONE is set: Heel once no entry names the bay; entries that are left are snooped out first. -/
def execBayEvacDone (bay : Nat) (s : State) : Result :=
  within s (decide (bay < 8)) (
    if s.bayRd R.BAY_STATUS_STATE bay != 3 then s
    else if s.dirs.any (fun e => e.2.bays.contains bay) then s.snoopOut bay
    else s.evacEnd bay)

/-- 10 ms have passed. -/
def execBayEvacTimeout (bay : Nat) (s : State) : Result :=
  within s (decide (bay < 8)) (if s.bayRd R.BAY_STATUS_STATE bay = 3 then s.evacEnd bay else s)

/-- FORCE_HEEL. A bay that does not run has nothing to evacuate. -/
def execBayForceHeel (bay : Nat) (s : State) : Result :=
  within s (decide (bay < 8)) (if s.bayRd R.BAY_STATUS_STATE bay = 2 then s.evacuate bay 7 else s)

/-- The link is lost (R362): Heel without evacuation. -/
def execBayLinkLost (bay : Nat) (s : State) : Result :=
  within s (decide (bay < 8)) (if s.bayLive bay then s.heelBay bay 3 false else s)

/-- READMIT (R386). A bay of a die whose island is DOWN stays in Heel until REINIT (R32). -/
def execBayReadmit (bay : Nat) (s : State) : Result :=
  within s (decide (bay < 8)) (
    if s.bayRd R.BAY_STATUS_STATE bay = 4 ∧ s.bayRd R.BAY_STATUS_HEEL_CAUSE bay ≠ 8 ∧ s.islDown (s.island (bay / 2)) = false then
      (s.bayWr R.BAY_STATUS_STATE bay 1).bayWr R.BAY_STATUS_HEEL_CAUSE bay 0
    else s)

/-- CLEAR_STATS of a bay (R388). -/
def execBayClearStats (bay : Nat) (s : State) : Result :=
  within s (decide (bay < 8)) (s.each [R.BAY_REPAIRS, R.BAY_REPLAYS, R.BAY_DENIED] (fun s f => s.bayWr f bay 0))

/-! ### The link and the rail in service (R361, R382, R383) -/

/-- A group with more than 16 parity errors in 1 ms has been retrained (R361): `lanes` data lanes fail, or its clock or track lane. -/
def execBayParityPoll (bay : Nat) (toBay : Bool) (group lanes : Nat) (clockLane : Bool) (s : State) : Result :=
  within s (decide (bay < 8) && decide (group < 128)) (
    let x := s.bayInfo bay
    let dead := if toBay then x.deadTx else x.deadRx
    let used := SMap.get 0 (if toBay then x.usedTx else x.usedRx) group
    if !s.bayLive bay || dead.contains group || (lanes == 0 && !clockLane) then s
    else if !clockLane && decide (used + lanes ≤ 2) then
      let s := s.setBay bay (if toBay then { x with usedTx := SMap.put 0 x.usedTx group (used + lanes) } else { x with usedRx := SMap.put 0 x.usedRx group (used + lanes) })
      let s := ((s.bayBump R.BAY_REPAIRS bay lanes).bayWr R.BAY_EVENT_REPAIR bay 1).bayLanes bay
      s.bayErr bay 3 0
    else
      let x := if toBay then { x with deadTx := x.deadTx ++ [group] } else { x with deadRx := x.deadRx ++ [group] }
      let s := (((s.setBay bay x).bayLanes bay).bayWr R.BAY_EVENT_DEGRADE bay 1).bayErr bay 4 0
      if (bayGroups x.half x.deadTx < 64 ∨ bayGroups x.half x.deadRx < 64) ∧ s.bayRd R.BAY_STATUS_STATE bay = 2 then s.evacuate bay 2 else s)

/-- The hub reads a bay's rail (the last ms and the average over 10 ms, W) and STS_TEMP, every 1 ms (R383). -/
def execBayPowerPoll (bay temp rail rail10 : Nat) (s : State) : Result :=
  within s (decide (bay < 8)) (
    if !s.bayLive bay then s
    else
      let x := s.bayInfo bay
      let lim := min (classLimit x.cls) (s.bayRd R.BAY_PLIMIT bay)
      let s := s.wrs (bay / 2) [bay % 2] [(R.BAY_TEMP_TEMP, min 255 temp), (R.BAY_TEMP_POWER, min 65535 rail)]
      let put (s : State) (x : BayInfo) (v : Nat) : State := if x.plimit = v then s.setBay bay x else (s.setBay bay { x with plimit := v }).ctl bay 0x8C v
      let cool := if 100 ≤ temp then true else if temp < 95 then false else x.cool
      let past := if lim < rail10 then x.overMs + 1 else 0
      let hot := if 105 < temp then x.hotMs + 1 else 0
      let x' := { x with cool := cool, overMs := past, hotMs := hot }
      let s := if cool then put s x' (lim * 8 / 10) else if x.cool || decide (past = 1) then put s x' lim else s.setBay bay x'
      let s := if past = 3 then (s.bayWr R.BAY_EVENT_POWER bay 1).bayErr bay 5 0 else s
      if s.bayRd R.BAY_STATUS_STATE bay ≠ 2 then s
      else if 2 ≤ hot then (s.bayWr R.BAY_EVENT_THERMAL bay 1).evacuate bay 6
      else if 101 ≤ past then (s.bayWr R.BAY_EVENT_POWER bay 1).evacuate bay 5
      else s)

/-! ### The work port (R374, R376, R379 to R381) -/

/-- An answer to a bay's work-port message. -/
def State.cfgAnswer (s : State) (ack : Bool) (value bay : Nat) (tag : Nat := 0) (gen : Nat := 0) : State :=
  { s with cfgs := s.cfgs ++ [(⟨s.nextId, ack, value, bay, tag, gen⟩ : CfgAns)], nextId := s.nextId + 1 }

/-- Whether a generation is older than the partition's (R380): of the two latest, R482 lets no other be outstanding. -/
def State.stale (s : State) (p gen : Nat) : Bool := gen % 2 ^ 16 != s.gen p

/-- BW_END (R380): the hub writes the record. -/
def State.bwEnd (s : State) (b uid gen status d0 d1 dt : Nat) : State :=
  match s.unit? uid with
  | none => s
  | some u =>
    if u.kind != .bay || s.rd R.BAY_Q_BIND_BAY 0 [u.part, u.ring - 64] != b || u.done || !s.bayLive b then s
    else if s.stale u.part gen then s.bump R.FLL_DISCARDS (b / 2) [] 1
    else if status ≠ 0 ∧ status ≠ 2 ∧ status ≠ 4 then s.takeDown (s.island (b / 2)) 2 (bayNode b) 0 (b / 2)
    else
      let e : Option Ending := if u.ending.isSome then u.ending else if status = 0 then none else some ⟨status, d0 % 2 ^ 64, d1 % 2 ^ 32⟩
      ((s.at_ dt).finishUnit { u with ending := e, done := true }).cfgAnswer true 0 b (s.bwId u.part u.ring u.count) gen

def execBwEnd (bay uid gen status d0 d1 dt : Nat) (s : State) : Result :=
  within s (decide (bay < 8) && decide (status < 256)) (s.bwEnd bay uid gen status d0 d1 dt)

/-- The answer to BW_XLATE for a translation (R376): DPA is that of the page whose size it names. -/
def xlateWord (e : TlbEntry) (va : Nat) : Nat :=
  let k := if e.size < 2 ^ 21 then 0 else if e.size < 2 ^ 30 then 1 else 2
  let pg := leafSize k
  k * 2 ^ 58 + (if e.w then 2 ^ 57 else 0) + e.addr (va / pg * pg) / 2 ^ 12 % 2 ^ 32 * 2 ^ 12

/-- BW_XLATE (R376, R379) for a context of a queue the bay runs; in CXL mode an ATS Translation Request with the context's PASID (R372), whose
completion carries the same word (log entry 121). -/
def State.bwXlate (s : State) (b wq p c va : Nat) (write : Bool) (gen : Nat) : State :=
  let v := va / 4096 % 2 ^ 36 * 4096
  let cxl := s.bayRd R.BAY_STATUS_PROTO b == 1
  if !s.bayLive b || !(s.bayQueues b).any (fun x => x.1 == p && s.rCtx x.1 x.2 == c) then s
  else if !cxl && s.stale p gen then s.bump R.FLL_DISCARDS (b / 2) [] 1
  else
    let src := masterNode (b / 2) 135
    let tag := wq * 64
    let ats (s : State) (w : Nat) : State := s.send (.bayAts b 0 (s.rd R.XLT_CTX_CFG_PASID 0 [p, c]) v w)
    let out (s : State) (w : Nat) : State := if cxl then ats s w else s.bayAnswer b 0 src tag false 0 gen 1 (leBytes 8 w ++ leBytes 2 (s.epoch p c))
    match s.xlate ⟨b / 2, p, c, 8704 + 64 * b + wq, false, 0, 0⟩ v write with
    | (.hit e, s) => out s (xlateWord e v)
    | (.fault k, s) => out (s.xltFault p c v k) (k * 2 ^ 60)
    | (.ue _ _, s) => if cxl then ats s (2 ^ 56) else s.bayAnswer b 0 src tag false 1 gen 0 []
    | (.down, s) => if cxl then ats s (2 ^ 55) else s.bayAnswer b 0 src tag false 2 gen 0 []
    | (.miss, s) => s

def execBwXlate (bay wq part ctx va : Nat) (write : Bool) (gen : Nat) (s : State) : Result :=
  within s (decide (bay < 8) && decide (wq < 64) && decide (part < 64) && decide (ctx < 16)) (s.orWait (fun s => s.bwXlate bay wq part ctx va write gen))

/-- BW_INVAL_DONE (R376). -/
def execBwInvalDone (bay part ctx epoch gen : Nat) (s : State) : Result :=
  within s (decide (bay < 8) && decide (part < 64) && decide (ctx < 16)) (
    if !s.bayLive bay then s
    else if s.bayRd R.BAY_STATUS_PROTO bay != 1 && s.stale part gen then s.bump R.FLL_DISCARDS (bay / 2) [] 1
    else
      ({ s with invals := s.invals.map (fun (v : Inval) =>
          if v.part == part && v.ctx == ctx && v.epoch == epoch % 16 then { v with bays := v.bays.filter (· != bay) } else v) }).cfgAnswer true 0 bay 0 gen)

/-- No BW_END came within ABORT_TIMEOUT (R381). -/
def execBayAbortTimeout (uid dt : Nat) (s : State) : Result :=
  within s true (match s.unit? uid with
    | none => s
    | some u =>
      if u.kind != .bay || u.ending.isNone || !u.stopped || u.done then s
      else
        let b := s.rd R.BAY_Q_BIND_BAY 0 [u.part, u.ring - 64]
        let s := ((s.at_ dt).finishUnit { u with done := true }).bayWr R.BAY_EVENT_ABORT_TIMEOUT b 1
        if s.bayLive b then s.heelBay b 4 false else s)

/-! ### Bay queues (R377, R390, R391) -/

def execBayQStop (part bq : Nat) (s : State) : Result := within s (decide (part < 64) && decide (bq < 16)) (s.ringStop part (64 + bq))

/-- RESET of a bay queue: also from HELD (R391). -/
def execBayQReset (part bq : Nat) (s : State) : Result :=
  within s (decide (part < 64) && decide (bq < 16)) (
    if s.rState part (64 + bq) = 5 ∧ s.rFlight part (64 + bq) = 0 then (s.setRing part (64 + bq) 3 0).ringReset part (64 + bq)
    else s.ringReset part (64 + bq))

/-- A write of BAY_Q_CFG with ENABLE = 1 (R229, R377). -/
def execBayQEnable (part bq value : Nat) (s : State) : Result :=
  within s (decide (part < 64) && decide (bq < 16) && decide (value < 2 ^ 32)) (
    let ix := [part, bq]
    let r := 64 + bq
    let st := s.rd R.PAR_CTX_CFG_STATE 0 [part, bits value 24 4]
    let fs := [R.BAY_Q_CFG_ENABLE, R.BAY_Q_CFG_IRQ_ALL, R.BAY_Q_CFG_CONTEXT, R.BAY_Q_CFG_SIZE_LOG2, R.BAY_Q_CFG_INT_BAY, R.BAY_Q_CFG_BAY, R.BAY_Q_CFG_VECTOR]
    let b := s.rd R.BAY_Q_BIND_BAY 0 ix
    let wq := s.rd R.BAY_Q_BIND_WQ 0 ix
    if !bit value 31 then s
    else if s.rState part r != 0 then s.regWrite .BAY_P 0 ix value (fun _ => true) fs
    else if st == 0 || st == 3 || s.rd R.BAY_WQ_OWNER (b / 2) [b % 2, wq] != part || decide ((s.bayInfo b).depth < s.rd R.BAY_Q_LIMIT_FETCH_MAX 0 ix) then
      s.cfgErr .BAY_P 0 ix (R.BAY_Q_CFG_ENABLE.offset ix)
    else
      let s := s.regWrite .BAY_P 0 ix value (fun _ => false) fs
      if st = 2 then s.setRing part r 3 3
      else if s.bayRd R.BAY_STATUS_STATE b = 4 then s.setRing part r 5 0 else s.setRing part r 1 0)

/-! ### Answers to register requests and work-port messages (R326) -/

/-- CFG_DATA or CFG_ACK reaches the requester: the package's own, or a bay in service. -/
def State.cfgTake (s : State) (id : Nat) (ack : Bool) : State :=
  match s.cfgs.find? (fun (x : CfgAns) => x.id == id && x.ack == ack) with
  | none => s
  | some x =>
    let s := { s with cfgs := s.cfgs.erase x }
    if x.bay = 8 then (if ack then s else s.send (.reg x.value))
    else if s.bayLive x.bay then s.send (.bayAns x.bay (rspWord (if ack then 0x12 else 0x11) (bayNode x.bay) (masterNode (x.bay / 2) 135) x.tag false 0 x.gen x.value) []) else s

def execCfgData (id : Nat) (s : State) : Result := within s true (s.cfgTake id false)
def execCfgAck (id : Nat) (s : State) : Result := within s true (s.cfgTake id true)

end Sys2Proof.Machine
end

