-- ==== Sys2Proof/Machine/RingLink.lean ====
section
/-! DEFINITION. The ring links between hub dies (R392 to R404): beats and replay, degrade and restripe, loss and training of an edge. -/

namespace Sys2Proof.Machine

/-! ### Ends and modules -/

/-- The other end of a link: link 0 of a die is its CW link, link 1 its CCW link (R19). -/
def linkPeer (die dir : Nat) : Nat × Nat := ((die + 1 + 2 * dir) % 4, 1 - dir)
/-- The edge of a link, by the die whose CW link it is (R541). -/
def linkEdge (die dir : Nat) : Nat := if dir = 0 then die else (die + 3) % 4

def RingMod.idle : RingMod :=
  { unacked := [], resend := 0, first := false, replayed := 0, markDue := false, again := [], crcAt := [], acked := 0, begun := [], good := 0, skip := false, nak := false, part := [], marked := false, held := [], repaired := 0, txPart := [],
    out := [], owed := [] }
def ringKey (die dir m : Nat) : Nat := (die * 2 + dir) * 16 + m
def State.ringMod (s : State) (die dir m : Nat) : RingMod := SMap.get RingMod.idle s.ringMods (ringKey die dir m)
def State.setRingMod (s : State) (die dir m : Nat) (x : RingMod) : State := { s with ringMods := SMap.put RingMod.idle s.ringMods (ringKey die dir m) x }

/-- The state of a module's transmit direction at an end, and of its receive direction: 0 OFF, 1 HALF, 2 FULL (R429). -/
def State.txMod (s : State) (die dir m : Nat) : Nat := bits (s.rd R.DDL_TX_MODS die [dir]) (2 * m) 2
def State.rxMod (s : State) (die dir m : Nat) : Nat := bits (s.rd R.DDL_RX_MODS die [dir]) (2 * m) 2

/-- A module direction changes state, seen at both its ends (R398). -/
def State.setMod (s : State) (die dir m v : Nat) : State :=
  let p := linkPeer die dir
  (s.wr R.DDL_TX_MODS die [dir] (setBits (s.rd R.DDL_TX_MODS die [dir]) (2 * m) 2 v)).wr R.DDL_RX_MODS p.1 [p.2] (setBits (s.rd R.DDL_RX_MODS p.1 [p.2]) (2 * m) 2 v)

/-- Whether a link is UP at both its ends. -/
def State.linkUp (s : State) (die dir : Nat) : Bool :=
  let p := linkPeer die dir
  s.rd R.DDL_STATUS_STATE die [dir] == 2 && s.rd R.DDL_STATUS_STATE p.1 [p.2] == 2

/-- A LINK record of a ring edge (R542). -/
def State.linkErr (s : State) (die dir code sev : Nat) : State :=
  s.err die (.plain 3 code sev (scopeOf 3 (linkEdge die dir)) (s.rd R.DDL_TX_MODS die [dir]))

/-! ### Beats (R393 to R395) -/

/-- One bit of CRC-16 with polynomial 0x1021, most significant bit first. -/
def crcBit (c : Nat) (b : Bool) : Nat :=
  let top := (c / 2 ^ 15 % 2 == 1) != b
  let c := c * 2 % 2 ^ 16
  if top then c ^^^ 0x1021 else c

/-- The CRC over bits [1023:16] of a beat, from the highest bit down. -/
def beatCrc (beat : List Byte) : Nat :=
  ((beat.drop 2).take 126).reverse.foldl (fun c b => ((List.range 8).reverse).foldl (fun c i => crcBit c (b.getLsbD i)) c) 0xFFFF

/-- The body length of an item by its tag, none for a tag that R394 does not give. -/
def itemLen (tag : Nat) : Option Nat :=
  if tag = 0 then some 0
  else if tag < 128 then none
  else if tag % 4 = 0 then some (([20, 12, 12, 140] : List Nat).getD (tag / 32 % 4) 0)
  else if tag % 4 = 1 then some 1 else none

/-- The items a stream holds, without idle fill, and the bytes of one that the next beat continues; none for a bad tag. -/
def ringItems : Nat → List Byte → Option (List (List Byte) × List Byte)
  | 0, bs => some ([], bs)
  | _ + 1, [] => some ([], [])
  | n + 1, b :: bs =>
    match itemLen b.toNat with
    | none => none
    | some k =>
      if bs.length < k then some ([], b :: bs)
      else (ringItems n (bs.drop k)).map (fun r => (if b.toNat = 0 then r.1 else (b :: bs.take k) :: r.1, r.2))

/-- What an item's tag says: whether it is a flit, or a credit return, and 8 × network + virtual channel (R394). -/
def itemFlit (i : List Byte) : Bool := (i.headD 0).toNat % 4 == 0
def itemVc (i : List Byte) : Nat := (i.headD 0).toNat / 4 % 32

/-- Hand items to the router of a die: a flit's credit is then due back, a credit frees room at the other end (R333). -/
def State.ringDeliver (s : State) (die dir m : Nat) (l : List (List Byte)) : State :=
  s.each l (fun s i =>
    let x := s.ringMod die dir m
    let v := itemVc i
    if itemFlit i then
      (s.setRingMod die dir m { x with owed := SMap.put 0 x.owed v (SMap.get 0 x.owed v + 1) }).send (.beat die dir m (i.headD 0).toNat ((i.drop 1).map (·.toNat)))
    else s.setRingMod die dir m { x with out := SMap.put 0 x.out v (SMap.get 0 x.out v - ((i.getD 1 0)).toNat) })

/-- Whether the receiver of a module's flits has room for one more of a network and virtual channel: it holds 192 flits of a network, of which 8 are
reserved for each channel (R333). -/
def RingMod.room (x : RingMod) (v : Nat) : Bool :=
  let n (k : Nat) : Nat := SMap.get 0 x.out k
  decide (n v < 8) || decide ((List.range 8).foldl (fun t c => t + (n (v / 8 * 8 + c) - 8)) 0 < 192 - 64)

/-- A sender puts an item on a module: a flit takes a credit, a credit return gives back what is due; none where it cannot (R333). -/
def RingMod.take (x : RingMod) (i : List Byte) : Option RingMod :=
  let v := itemVc i
  if itemFlit i then (if x.room v then some { x with out := SMap.put 0 x.out v (SMap.get 0 x.out v + 1) } else none)
  else
    let n := (i.getD 1 0).toNat
    if n = 0 ∨ SMap.get 0 x.owed v < n then none else some { x with owed := SMap.put 0 x.owed v (SMap.get 0 x.owed v - n) }
def RingMod.takeAll (x : RingMod) (l : List (List Byte)) : Option RingMod := l.foldl (fun a i => a.bind (·.take i)) (some x)

/-- The payload bytes of beats. -/
def beatBytes (l : List (Nat × List Byte)) : List Byte := l.flatMap (·.2)

/-- ACK frees beats of a module's sender; NAK has the rest sent again (R395). -/
def RingMod.acks (x : RingMod) (ack : Nat) (nak : Bool) : RingMod :=
  let n := (ack + 4096 - x.acked) % 4096
  let x := if 0 < n ∧ n ≤ x.unacked.length then
      let freed := x.begun ++ beatBytes (x.unacked.take n)
      { x with unacked := x.unacked.drop n, acked := ack, resend := min x.resend (x.unacked.length - n), begun := ((ringItems freed.length freed).map (·.2)).getD [],
               replayed := 0 }
    else x
  if nak && !x.unacked.isEmpty then { x with resend := x.unacked.length, first := true } else x

/-- The beat a module's sender sends next: its flags, 1 NAK, 2 MARK and 4 REPLAY, and its payload; the oldest again while it replays, else a new one
that carries `payload`. NAK is put on no beat with MARK, so that no replay of one looks like GOODBYE (log entry 122). -/
def RingMod.next (x : RingMod) (payload : List Byte) : Nat × List Byte :=
  let mark := x.markDue && x.again.isEmpty && x.txPart.isEmpty
  let b := if 0 < x.resend then x.unacked.getD (x.unacked.length - x.resend) (0, []) else (if mark then 2 else 0, padTo 124 payload)
  let nak := x.nak && !bit b.1 1
  ((b.1 ||| b2n nak) ||| (if 0 < x.resend && x.first then 4 else 0), b.2)

/-- The items of a new beat that no earlier beat began. -/
def RingMod.freshOf (x : RingMod) (items : List (List Byte)) : List (List Byte) := if x.txPart.isEmpty then items else items.drop 1

/-- The sender after it has sent that beat. -/
def RingMod.sent (x : RingMod) (b : Nat × List Byte) : RingMod :=
  let x := { x with nak := x.nak && !bit b.1 0 }
  if 0 < x.resend then { x with resend := x.resend - 1, first := false, replayed := if x.first then x.replayed + 1 else x.replayed }
  else { x with unacked := x.unacked ++ [(b.1 % 4, b.2)], markDue := x.markDue && !bit b.1 1 }

/-- A beat as bytes, the lowest bits first, with the ACK of its sender and its CRC (R393). -/
def beatWire (flags ack : Nat) (payload : List Byte) : List Byte :=
  let hdr := (ack % 4096) * 2 ^ 16 + bits flags 1 1 * 2 ^ 29 + bits flags 2 1 * 2 ^ 30 + bits flags 0 1 * 2 ^ 31
  leBytes 4 (hdr + beatCrc (leBytes 4 hdr ++ payload)) ++ payload

/-- What a link does to a beat on its way. -/
def withNoise (beat noise : List Byte) : List Byte := (beat.zip (padTo beat.length noise)).map (fun x => x.1 ^^^ x.2)

/-- Every in-service module of a receive direction has its MARK: what was held back is delivered in module order, what a module held that has gone
OFF since as well (R400). -/
def State.ringMarks (s : State) (die dir : Nat) : State :=
  let ms := (List.range 16).filter (fun m => s.rxMod die dir m != 0)
  if ms.all (fun m => (s.ringMod die dir m).marked) then
    s.each (List.range 16) (fun s m =>
      let x := s.ringMod die dir m
      (s.setRingMod die dir m { x with marked := false, held := [] }).ringDeliver die dir m x.held)
  else s

/-! ### Loss (R402, R403) -/

/-- Whether an island still has a path between its dies: its first die reaches each other one over edges inside it that stand (R30). -/
def State.joined (s : State) (i : Nat) : Bool :=
  let ds := s.islDies i
  let step (l : List Nat) : List Nat := ds.filter (fun d => l.contains d ||
    (l.contains ((d + 1) % 4) && !s.edgeLost d) || (l.contains ((d + 3) % 4) && !s.edgeLost ((d + 3) % 4)))
  match ds with
  | [] => true
  | d :: _ => ds.all (fun e => (step (step (step [d]))).contains e)

/-- Channel slots and credits on a path over a lost edge take the other direction (R30, R177). A channel's slots stay in one list, so those of the
new path arrive after those of the old. -/
def State.rerouteFlits (s : State) (e : Nat) : State :=
  let hit (p : List Nat) : Bool := p.any (fun x => edgeOf x == e)
  { s with
    slotFlits := s.slotFlits.map (fun (f : SlotFlit) => if hit f.path then { f with path := s.tilePath f.src f.dst } else f)
    creditFlits := s.creditFlits.map (fun (f : CreditFlit) => if hit f.path then { f with path := backPath (s.tilePath f.tile f.src) } else f) }

/-- A link is in training or UP at an end. -/
def State.linkOn (s : State) (die dir : Nat) : Bool := s.rd R.DDL_STATUS_STATE die [dir] == 1 || s.rd R.DDL_STATUS_STATE die [dir] == 2

/-- The edge enters Heel at the receiving die: buffers are flushed, transactions whose path crossed it end ISLAND_DOWN, those of a home agent whose
snoop crossed it among them (log entry 118) (R26, R30, R402, R403). -/
def State.edgeHeel (s : State) (die dir : Nat) : State :=
  let e := linkEdge die dir
  let crossed := s.reqs.filter (fun (r : Req) => r.stage != Stage.held && r.stage != Stage.here && decide (r.q < 1024) && (s.path (goesCw r.die r.mport) r.die (qDie r.q)).any (fun x => edgeOf x == e))
  let through (n : Snoop) : Bool := n.rid != 0 && (match s.decode (n.line * 64) with
    | some (q, _) => (s.snoopPath (qPort q) n.bay).any (fun x => edgeOf x == e)
    | none => false)
  let crossed := crossed ++ s.reqs.filter (fun (r : Req) => !crossed.any (fun c => c.rid == r.rid) && s.snoops.any (fun (n : Snoop) => n.rid == r.rid && through n))
  let s := (s.wr R.DDL_STATUS_STATE die [dir] 3).wr R.DDL_EVENT_HEEL die [dir] 1
  let s := { s with ringMods := SMap.keep (fun k => k / 16 != die * 2 + dir) s.ringMods, snoops := s.snoops.filter (fun (n : Snoop) => !crossed.any (fun r => r.rid == n.rid)) }
  let s := s.each crossed (fun s r => s.answer r.rid r.op.ans 2 [])
  let s := s.rerouteFlits e
  (s.linkErr die dir 3 2).pumpHome

/-- An edge is lost; an island it cuts in two goes down with cause 0x6 (R30, R350). -/
def State.linkLost (s : State) (die dir : Nat) : State :=
  if !s.linkOn die dir then s
  else
    let e := linkEdge die dir
    let isl := s.island e
    let cut := isl == s.island ((e + 1) % 4) && s.dieRuns e && s.dieRuns ((e + 1) % 4) && s.joined isl
    let s := s.edgeHeel die dir
    if cut && !s.joined isl then s.takeDown isl 6 0 0 (s.recDie isl) else s

/-- The die at the far end of a link has said GOODBYE (cause 4) or its clock is gone on every module (cause 5): the edge is lost, and so is that die's
island (R350, R402, R403). -/
def State.dieGone (s : State) (die dir cause : Nat) : State :=
  if !s.linkOn die dir then s
  else
    let far := (linkPeer die dir).1
    let s := s.edgeHeel die dir
    if SMap.get 0 s.dies far = 1 then s else s.takeDown (s.island far) cause (dieNode far) 0 (s.recDie (s.island far))

def execRingLinkLost (goodbye : Bool) (die dir : Nat) (s : State) : Result :=
  within s (decide (die < 4) && decide (dir < 2)) (s.dieGone die dir (if goodbye then 4 else 5))

/-- The module list of a direction: each FULL module twice, each HALF module once (R399). -/
def State.modList (s : State) (die dir : Nat) : List Nat := (List.range 16).flatMap (fun m => List.replicate (s.txMod die dir m) m)

/-- The fold of a flit's key (R399). -/
def ringHash (key : Nat) : Nat := (List.range 5).foldl (fun h k => h ^^^ (key / 256 ^ k % 256)) 0

/-- A flit's network, and its source node; a data flit does not hold one, but that of a channel slot is the cluster whose channel is bound to the
inbound channel it goes to, which the key names with its tile and CHk (R332, R399). -/
def itemNet (item : List Byte) : Nat := (item.headD 0).toNat / 32 % 4
def itemSrc (item : List Byte) : Option Nat :=
  let w := leNat (item.drop 1)
  match itemNet item with
  | 0 => some (bits w 130 12)
  | 3 => none
  | _ => some (bits w 67 12)
def State.flitKey (s : State) (item : List Byte) : Option Nat :=
  let w := leNat (item.drop 1)
  match itemNet item with
  | 0 => some (bits w 130 12 * 2 ^ 12 + bits w 142 12)
  | 3 =>
    (match (dataFlit w).kind, nodeOf (dataFlit w).dest with
     | .chan _ tile inj _ _, .master d m =>
       (((s.tile (16 * (128 * d + m) + tile)).inCh inj).src).map (fun x =>
         masterNode (tilDie x.1) (x.1 / 16 % 128) * 2 ^ 19 + (dataFlit w).dest * 2 ^ 7 + x.1 % 16 * 8 + x.2)
     | _, _ => none)
  | _ => some (bits w 67 12 * 2 ^ 12 + bits w 79 12)

/-- Whether an item may cross on module `m` of a link: a flit on the module that its key chooses, on virtual channel 2k of the k-th link it crosses
(R332, R333, R399; log entry 121). What its flit does not tell is not tested. -/
def State.mayCross (s : State) (die dir m : Nat) (item : List Byte) : Bool :=
  let list := s.modList die dir
  !itemFlit item ||
  ((match s.flitKey item with | some k => list.getD (ringHash k % list.length) 16 == m | none => true) &&
   (let k := itemVc item % 8
    k == 2 || k == 4 || k == 6) &&
   (match itemSrc item with
    | some n => itemVc item % 8 == vcOf (if dir = 0 then (die + 5 - n / 1024) % 4 else (n / 1024 + 5 - die) % 4) false
    | none => true))

/-- A data flit of a ring item, if it is one, and whether it is slotted (R328). -/
def itemData (item : List Byte) : Option Bool :=
  if itemFlit item && itemNet item == 3 then
    some (match (dataFlit (leNat (item.drop 1))).kind with
      | .data _ _ _ slot => slot
      | .packed _ slot => slot
      | .chan _ _ _ _ slot => slot
      | .mask _ _ => false)
  else none

/-- The data flits a die sends on a link are counted, and the slotted ones of them (R354). -/
def State.countFlits (s : State) (die dir : Nat) (items : List (List Byte)) : State :=
  let l := items.filterMap itemData
  let f : Fld × Fld := if dir = 0 then (R.FLL_CW_FLITS, R.FLL_CW_SLOTTED) else (R.FLL_CCW_FLITS, R.FLL_CCW_SLOTTED)
  (s.bump f.1 die [] l.length).bump f.2 die [] (l.filter id).length

/-- C of a transmit direction, in halves. -/
def State.linkC (s : State) (die dir : Nat) : Nat := (List.range 16).foldl (fun n m => n + s.txMod die dir m) 0

/-- The items a new beat completes, and what it leaves begun, may go on a module: each may cross, except that from a change of the module list until
MARK is sent only the rest of an item already begun and then the items to be sent again go (R400). -/
def State.mayFill (s : State) (die dir m : Nat) (items : List (List Byte)) (rest : List Byte) : Bool :=
  let x := s.ringMod die dir m
  let fresh := x.freshOf items
  if x.markDue || s.linkC die dir != s.rd R.DDL_CAP_C_TX die [dir] then
    fresh == x.again.take fresh.length && ((items.isEmpty && !x.txPart.isEmpty) || rest == (x.again.getD fresh.length []).take rest.length)
  else items.all (s.mayCross die dir m)

/-- The sender of a module sends its next beat, if it replays or fewer than 256 are not acknowledged (R395); a new one may hold items that may go
and have credit (R333). Answers the beat. -/
def State.ringSend (s : State) (die dir m : Nat) (payload : List Byte) : Option (State × List Byte) :=
  let x := s.ringMod die dir m
  let b := x.next payload
  let wire := beatWire b.1 x.good b.2
  if 0 < x.resend then some ((s.bump R.DDL_REPLAYS die [dir] 1).setRingMod die dir m (x.sent b), wire)
  else if 256 ≤ x.unacked.length then none
  else
    match ringItems 300 (x.txPart ++ b.2) with
    | none => none
    | some (items, rest) =>
      if s.mayFill die dir m items rest then
        (x.takeAll items).map (fun x =>
          ((s.countFlits die dir items).setRingMod die dir m { (x.sent b) with txPart := rest, again := x.again.drop (x.freshOf items).length }, wire))
      else none

/-- A beat reaches module `m` of link `dir` of a die: the one the other end sends next, with `payload` if it is a new one, as `noise` leaves it. A bad
CRC or tag is answered with NAK, and what follows is discarded up to a beat with REPLAY (R394, R395). What comes after MARK on one module waits for
the MARK of the others (R400). GOODBYE loses the link (R402). -/
def State.ringBeat (s : State) (die dir m : Nat) (payload noise : List Byte) : State :=
  let p := linkPeer die dir
  if !s.linkUp die dir || s.rxMod die dir m == 0 then s
  else
    match s.ringSend p.1 p.2 m payload with
    | none => s
    | some (s, wire) =>
      let beat := withNoise wire noise
      let w := leNat (beat.take 4)
      let me := s.ringMod die dir m
      let parsed := ringItems 300 (me.part ++ beat.drop 4)
      match (if beatCrc beat = w % 2 ^ 16 then parsed else none) with
      | none => (s.bump R.DDL_CRC_ERR die [dir] 1).setRingMod die dir m { me with skip := true, nak := true, crcAt := (s.now :: me.crcAt).take 65 }
      | some (items, rest) =>
        if me.skip && !bit w 30 then s
        else if bit w 31 && bit w 30 && bit w 29 then s.dieGone die dir 4
        else
          let me := { (me.acks (bits w 16 12) (bit w 31)) with skip := false, good := (me.good + 1) % 4096, part := rest }
          if me.marked then s.setRingMod die dir m { me with held := me.held ++ items }
          else ((s.setRingMod die dir m { me with marked := bit w 29 }).ringDeliver die dir m items).ringMarks die dir

def execRingBeat (die dir module : Nat) (payload noise : List (BitVec 8)) (dt : Nat) (s : State) : Result :=
  within s (decide (die < 4) && decide (dir < 2) && decide (module < 16)) ((s.at_ dt).ringBeat die dir module payload noise)

/-! ### Degrade (R398 to R401) -/

/-- C of a direction takes its new value; each change is recorded (R401). -/
def State.linkScale (s : State) (die dir : Nat) : State :=
  let c := s.linkC die dir
  if c = s.rd R.DDL_CAP_C_TX die [dir] then s
  else
    let s := (s.wr R.DDL_CAP_C_TX die [dir] c).wr R.DDL_EVENT_SCALED die [dir] 1
    s.err die (.plain 5 1 0 (scopeOf 3 (linkEdge die dir)) (s.regVal die [dir] [R.DDL_CAP_C_ADM_TX, R.DDL_CAP_C_TX]))

/-- An edge whose last module of a direction is gone is lost for the die that received on it (R30, R402). -/
def State.linkEmpty (s : State) (die dir : Nat) : State :=
  let p := linkPeer die dir
  if s.linkC die dir = 0 then s.linkLost p.1 p.2 else s

/-- What has a module direction retrained: a beat replayed 16 times in a row, or more than 64 CRC errors within 1 ms at the other end (R398). -/
def State.mustRetrain (s : State) (die dir m : Nat) : Bool :=
  let p := linkPeer die dir
  let far := (s.ringMod p.1 p.2 m).crcAt
  decide (16 ≤ (s.ringMod die dir m).replayed) || (far.length == 65 && decide (far.headD 0 ≤ far.getLastD 0 + 10 ^ 6))

/-- A module direction, sent by `die` over link `dir`, is retrained: `failing` are the lanes of 0 to 63 that fail PRBS31 with no repair
yet. A HALF module stays HALF when its lanes are repaired (R398). -/
def State.modRetrain (s : State) (die dir m : Nat) (failing : List Nat) : State :=
  let st := s.txMod die dir m
  let bad := (failing.filter (· < 64)).dedup
  let p := linkPeer die dir
  if !s.linkUp die dir || st == 0 || !s.mustRetrain die dir m then s
  else
    let s := s.setRingMod p.1 p.2 m { s.ringMod p.1 p.2 m with crcAt := [] }
    let s := s.setRingMod die dir m { s.ringMod die dir m with replayed := 0 }
    let x := s.ringMod die dir m
    if bad.isEmpty then s
    else if x.repaired + bad.length ≤ 4 then
      let s := (s.setRingMod die dir m { x with repaired := x.repaired + bad.length }).bump R.DDL_REPAIRS die [dir] bad.length
      (s.wr R.DDL_EVENT_REPAIR die [dir] 1).linkErr die dir 1 0
    else
      let v := if bad.all (fun l => decide (32 ≤ l)) || bad.all (fun l => decide (l < 32)) then 1 else 0
      let s := (s.setMod die dir m v).wr R.DDL_EVENT_DEGRADE die [dir] 1
      ((s.linkErr die dir 2 0).ringMarks p.1 p.2).linkEmpty die dir

def execRingModuleRetrain (die dir module : Nat) (failing : List Nat) (s : State) : Result :=
  within s (decide (die < 4) && decide (dir < 2) && decide (module < 16)) (s.modRetrain die dir module failing)

/-- The forwarded clock of some modules, not of all, is absent at the receiving end: those receive directions go OFF (R402). -/
def execRingModuleClockLoss (die dir : Nat) (modules : List Nat) (s : State) : Result :=
  within s (decide (die < 4) && decide (dir < 2)) (
    let p := linkPeer die dir
    let ms := (List.range 16).filter (fun m => modules.contains m && s.rxMod die dir m != 0)
    let on := (List.range 16).filter (fun m => s.rxMod die dir m != 0)
    if !s.linkUp die dir || ms.isEmpty || ms.length == on.length then s
    else
      let s := s.each ms (fun s m => s.setMod p.1 p.2 m 0)
      ((s.wr R.DDL_EVENT_DEGRADE p.1 [p.2] 1).linkErr p.1 p.2 2 0).ringMarks die dir)

/-- The sender of a direction whose module list has changed restripes (R400), once the MARKs of an earlier restripe are sent: flits of unacknowledged beats of modules that are OFF are to be sent again
on the modules of the new list, then every module in service is to send MARK, and C follows. The credits that such a beat returned were for the module
that is OFF. `srcs` are the sources of those flits that do not tell it. -/
def State.restripe (s : State) (die dir : Nat) (srcs : List Nat) : State :=
  if !s.linkUp die dir || s.linkC die dir == s.rd R.DDL_CAP_C_TX die [dir] ||
     (List.range 16).any (fun m => s.txMod die dir m != 0 && (s.ringMod die dir m).markDue) then s
  else
    let list := s.modList die dir
    let off := (List.range 16).filter (fun m => s.txMod die dir m == 0)
    let items := off.flatMap (fun m =>
      let x := s.ringMod die dir m
      let bs := x.begun ++ beatBytes x.unacked
      (((ringItems bs.length bs).map (·.1)).getD []).filter itemFlit ++ x.again)
    let s := s.each off (fun s m => s.setRingMod die dir m
      { s.ringMod die dir m with unacked := [], resend := 0, first := false, replayed := 0, markDue := false, again := [], begun := [], txPart := [], out := [] })
    let s := s.each (items.zip (List.range items.length)) (fun s x =>
      let key := (s.flitKey x.1).getD (srcs.getD x.2 0 % 4096 * 2 ^ 12 + (dataFlit (leNat (x.1.drop 1))).dest)
      let m := list.getD (ringHash key % list.length) 0
      s.setRingMod die dir m { s.ringMod die dir m with again := (s.ringMod die dir m).again ++ [x.1] })
    let s := s.each ((List.range 16).filter (fun m => s.txMod die dir m != 0)) (fun s m => s.setRingMod die dir m { s.ringMod die dir m with markDue := true })
    s.linkScale die dir

def execRingRestripe (die dir : Nat) (srcs : List Nat) (s : State) : Result :=
  within s (decide (die < 4) && decide (dir < 2)) (s.restripe die dir srcs)

/-! ### Training and management frames (R396, R397, R404) -/

/-- The Collars train a link: `tx` and `rx` hold the module states that result, seen from this end. A lost edge rejoins only while an island
of one of its dies re-initialises. A link on which a direction has no module does not come up. -/
def State.linkTrain (s : State) (die dir tx rx latency : Nat) : State :=
  let p := linkPeer die dir
  let st := s.rd R.DDL_STATUS_STATE die [dir]
  let sp := s.rd R.DDL_STATUS_STATE p.1 [p.2]
  let reinit := s.rd R.COH_ISL_STATE_STATE 0 [s.island die] == 2 || s.rd R.COH_ISL_STATE_STATE 0 [s.island p.1] == 2
  let held (d : Nat) : Bool := SMap.get 0 s.dies d == 1
  if held die || held p.1 || ((st == 3 || sp == 3) && !reinit) || (st == 2 && sp == 2) then s
  else
    let gen := (max (s.rd R.DDL_STATUS_LINK_GEN die [dir]) (s.rd R.DDL_STATUS_LINK_GEN p.1 [p.2]) + 1) % 256
    let clean (v : Nat) : Nat := (List.range 16).foldl (fun n m => n + min 2 (bits v (2 * m) 2) * 4 ^ m) 0
    let up := clean tx != 0 && clean rx != 0
    let ends : List (Nat × Nat × Nat × Nat) := [(die, dir, clean tx, clean rx), (p.1, p.2, clean rx, clean tx)]
    let s := s.each ends (fun s x => s.wrs x.1 [x.2.1]
      [(R.DDL_STATUS_STATE, if up then 2 else 0), (R.DDL_STATUS_LINK_GEN, gen), (R.DDL_TX_MODS, x.2.2.1), (R.DDL_RX_MODS, x.2.2.2), (R.DDL_LATENCY, latency)])
    let s := { s with ringMods := SMap.keep (fun k => k / 16 != die * 2 + dir && k / 16 != p.1 * 2 + p.2) s.ringMods }
    (s.linkScale die dir).linkScale p.1 p.2

def execRingLinkTrain (die dir tx rx latency : Nat) (s : State) : Result :=
  within s (decide (die < 4) && decide (dir < 2)) (s.linkTrain die dir tx rx latency)

/-- A management frame arrives from a neighbour. Kind 0 exchanges LINK_GEN; kind 1 brings the lead a deputy's measurements (R34, R491), in
the order of the registers SEC_DIE_STATE to SEC_PACK_MEAS; kind 2 its health data, the channels its history holds as retired (R272). The
others carry what their own rows act on. -/
def State.dieFrame (s : State) (die dir gen kind src : Nat) (data : List Nat) : State :=
  let mine := s.rd R.DDL_STATUS_LINK_GEN die [dir]
  if SMap.get 0 s.dies die = 1 || (0 < (mine + 256 - gen % 256) % 256 && (mine + 256 - gen % 256) % 256 < 128) then s
  else if kind = 0 then s.wr R.DDL_STATUS_LINK_GEN die [dir] (gen % 256)
  else if kind = 1 && die == 0 && decide (src < 4) then
    let s := s.wrs 0 [src] [(R.SEC_DIE_STATE_STATE, data.getD 0 0), (R.SEC_DIE_STATE_DIE_GEN, data.getD 1 0), (R.SEC_DIE_SVN_COLLAR, data.getD 2 0), (R.SEC_DIE_SVN_PACK, data.getD 3 0)]
    s.each (List.range 16) (fun s k => (s.wr R.SEC_COLLAR_MEAS 0 [src, k] (data.getD (4 + k) 0)).wr R.SEC_PACK_MEAS 0 [src, k] (data.getD (20 + k) 0))
  else if kind = 2 && die == 0 then
    ({ s with deadChans := (s.deadChans ++ data.filter (fun c => decide (c < 512) && !s.deadChans.contains c)) }).each (List.range 4) State.showDead
  else s

def execDieManagementFrame (die dir gen kind src : Nat) (data : List Nat) (s : State) : Result :=
  within s (decide (die < 4) && decide (dir < 2)) (s.dieFrame die dir gen kind src data)

/-- CLEAR_STATS of a link (R428). -/
def execDdlClearStats (die dir : Nat) (s : State) : Result :=
  within s (decide (die < 4) && decide (dir < 2)) (s.wrs die [dir] [(R.DDL_REPLAYS, 0), (R.DDL_CRC_ERR, 0), (R.DDL_REPAIRS, 0)])

end Sys2Proof.Machine
end

