-- ==== Sys2Proof/Machine/Torus.lean ====
section
/-! DEFINITION. Torus ports (R405 to R412), one-sided operations (R413 to R415), in-network reduction (R416) and stream channels (R417). -/

namespace Sys2Proof.Machine

/-! ### Ports (R405 to R408) -/

def TorPort.idle : TorPort :=
  { txSeq := 0, unacked := [], replayed := 0, queue := [], room := 0, credits := [], rxSeq := 0, skip := false, part := [], served := false }
def State.torPort (s : State) (k : Nat) : TorPort := SMap.get TorPort.idle s.torPorts k
def State.setTorPort (s : State) (k : Nat) (x : TorPort) : State := { s with torPorts := SMap.put TorPort.idle s.torPorts k x }
def State.torRd (s : State) (f : Fld) (k : Nat) : Nat := s.rd f (k / 2) [k % 2]
def State.torWr (s : State) (f : Fld) (k v : Nat) : State := s.wr f (k / 2) [k % 2] v
def State.torUp (s : State) (k : Nat) : Bool := s.torRd R.TOR_PORT_STATUS_STATE k == 2 && s.dieRuns (k / 2)
def State.torErr (s : State) (k code sev : Nat) : State :=
  s.err (k / 2) (.plain 3 code sev (scopeOf 4 k) (s.regVal (k / 2) [k % 2] [R.TOR_PORT_STATUS_STATE, R.TOR_PORT_STATUS_HALF, R.TOR_PORT_STATUS_PORT_GEN]))

/-- The buddy answers over W while a W port is UP; with both DOWN a streaming checkpoint is abandoned (R421, R432). -/
def State.buddy (s : State) : State :=
  let up := s.torUp 0 || s.torUp 4
  let s := if s.rdB R.KNL_STATUS_BUDDY_UP 0 == up then s else s.wr R.KNL_STATUS_BUDDY_UP 0 [] (if up then 1 else 0)
  if up then s else s.knlAbandon

/-- The credit a packet takes. -/
def units32 (bs : List Byte) : Nat := (bs.length + 31) / 32

/-- The packet a port sends next: the oldest of a virtual channel that has credit for it (R408). -/
def TorPort.pick (x : TorPort) (shut : List Nat) : List (Nat × List Byte) → Option (Nat × List Byte)
  | [] => none
  | p :: l =>
    if shut.contains p.1 then x.pick shut l
    else if SMap.get 0 x.credits p.1 + units32 p.2 ≤ x.room then some p else x.pick (p.1 :: shut) l

/-- Send what waits at a port and has credit, each item in a block of its own, while fewer than 2,048 blocks are unacknowledged (R407, R408). -/
def State.torPump (s : State) (k : Nat) : State := go (s.torPort k).queue.length s
where
  go : Nat → State → State
    | 0, s => s
    | n + 1, s =>
      let x := s.torPort k
      match x.pick [] x.queue with
      | none => s
      | some p =>
        if 2048 ≤ x.unacked.length then s
        else
          let item := BitVec.ofNat 8 (0x10 + p.1) :: p.2
          go n ((s.setTorPort k { x with queue := x.queue.erase p, unacked := x.unacked ++ [(x.txSeq, item)], txSeq := (x.txSeq + 1) % 4096,
                                         credits := SMap.put 0 x.credits p.1 (SMap.get 0 x.credits p.1 + units32 p.2) }).send (.torus k x.txSeq false item))

/-- An enabled port trains: all 16 lanes, or lanes 0 to 7, or lanes 8 to 15 (R406), then runs its pattern (R521). `room` is the credit the other end
begins with. -/
def State.torTrain (s : State) (k : Nat) (full lo hi pattern : Bool) (room : Nat) : State :=
  let st := s.torRd R.TOR_PORT_STATUS_STATE k
  if s.torRd R.TOR_PORT_CFG_ENABLE k = 0 || st == 2 || !s.dieRuns (k / 2) then s
  else if (full || lo || hi) && pattern then
    let s := (s.torWr R.TOR_PORT_STATUS_STATE k 2).torWr R.TOR_PORT_STATUS_HALF k (if full then 0 else 1)
    let s := if full then s else s.torWr R.TOR_PORT_EVENT_HALF k 1
    ((s.setTorPort k { s.torPort k with served := true, room := room, credits := [] }).torPump k).buddy
  else if (s.torPort k).served then
    let s := (s.torWr R.TOR_PORT_STATUS_STATE k 0).torWr R.TOR_PORT_EVENT_DOWN k 1
    ((s.setTorPort k { s.torPort k with served := false }).torErr k 5 1).buddy
  else s.torWr R.TOR_PORT_STATUS_STATE k 0

def execTorusPortTrain (port : Nat) (full lo hi pattern : Bool) (room : Nat) (s : State) : Result :=
  within s (decide (port < 8)) (s.torTrain port full lo hi pattern room)

/-- A block replayed 8 times in a row retrains its port: PORT_GEN rises and the replay buffer is flushed (R407). -/
def execTorusRetrain (port : Nat) (s : State) : Result :=
  within s (decide (port < 8)) (
    if !s.torUp port || decide ((s.torPort port).replayed < 8) then s
    else
      let s := (s.torWr R.TOR_PORT_STATUS_STATE port 1).torWr R.TOR_PORT_STATUS_PORT_GEN port (s.torRd R.TOR_PORT_STATUS_PORT_GEN port + 1)
      let x := s.torPort port
      let s := s.setTorPort port { x with txSeq := 0, unacked := [], replayed := 0, rxSeq := 0, skip := false, part := [] }
      ((s.torWr R.TOR_PORT_EVENT_RETRAIN port 1).torErr port 4 0).buddy)

def State.torSend (s : State) (k vc : Nat) (bs : List Byte) : State :=
  let x := s.torPort k
  (s.setTorPort k { x with queue := x.queue ++ [(vc, bs)] }).torPump k

/-- Payload bytes of a packet after its header: those of LENGTH, none for a GET, whose LENGTH is the bytes asked for (log entry 34). -/
def pktNat (p : List Byte) (off n : Nat) : Nat := leNat ((p.drop off).take n)
def pktBody (p : List Byte) : Nat := if pktNat p 0 1 = 2 then 0 else pktNat p 10 2

/-- One item of a block: a packet with its virtual channel, ACK, NAK or a credit return. -/
inductive TorItem where
  | packet (vc : Nat) (bs : List Byte)
  | ack (seq : Nat)
  | nak (seq : Nat)
  | credit (vc n : Nat)

/-- The items of a stream and the bytes of one that the next block continues. What follows a tag outside R408 is ignored. -/
def torItems : Nat → List Byte → List TorItem × List Byte
  | 0, _ => ([], [])
  | _ + 1, [] => ([], [])
  | n + 1, b :: bs =>
    let t := b.toNat
    if t = 0 then torItems n bs
    else if t / 8 = 2 then
      let len := 32 + pktBody bs
      if bs.length < 32 ∨ bs.length < len then ([], b :: bs)
      else let r := torItems n (bs.drop len); (.packet (t % 8) (bs.take len) :: r.1, r.2)
    else if t = 0x20 ∨ t = 0x21 ∨ t / 8 = 6 then
      if bs.length < 2 then ([], b :: bs)
      else
        let v := leNat (bs.take 2)
        let r := torItems n (bs.drop 2)
        ((if t = 0x20 then .ack (v % 4096) else if t = 0x21 then .nak (v % 4096) else .credit (t % 8) v) :: r.1, r.2)
    else ([], [])

/-- What an item does at the port that receives it. A retried block goes out again, the first with REPLAY. -/
def State.torItem (s : State) (k : Nat) (i : TorItem) : State :=
  let x := s.torPort k
  match i with
  | .packet vc bs => { s with torRx := s.torRx ++ [⟨k, vc, bs⟩] }
  | .ack q => if x.unacked.any (fun u => u.1 == q) then (s.setTorPort k { x with unacked := (x.unacked.dropWhile (fun u => u.1 != q)).drop 1, replayed := 0 }).torPump k else s
  | .nak q =>
    let again := x.unacked.dropWhile (fun u => u.1 != q)
    if again.isEmpty then s
    else (s.setTorPort k { x with unacked := again, replayed := if (x.unacked.head?.map (·.1)) == some q then x.replayed + 1 else 1 }).each again (fun s u => s.send (.torus k u.1 (u.1 == q) u.2))
  | .credit vc n => (s.setTorPort k { x with credits := SMap.put 0 x.credits vc (SMap.get 0 x.credits vc - n) }).torPump k

/-- A codeword arrives: corrected, lost, or good with its control word and block (R407). -/
def State.torCodeword (s : State) (k : Nat) (corrected lost : Bool) (seq : Nat) (replay : Bool) (block : List Byte) : State :=
  if !s.torUp k then s
  else
    let x := s.torPort k
    let nak (s : State) : State := (s.setTorPort k { x with skip := true }).send (.torusCtl k 0x21 x.rxSeq)
    if lost then nak (s.bump R.TOR_FEC_UNCORR (k / 2) [k % 2] 1)
    else
      let s := if corrected then s.bump R.TOR_FEC_CORR (k / 2) [k % 2] 1 else s
      if x.skip && !(replay && seq == x.rxSeq) then s
      else if seq != x.rxSeq then (if (seq + 4096 - x.rxSeq) % 4096 < 2048 then nak s else s)
      else
        let (items, rest) := torItems 640 (x.part ++ block.take 640)
        let s := (s.setTorPort k { x with rxSeq := (x.rxSeq + 1) % 4096, skip := false, part := rest }).send (.torusCtl k 0x20 seq)
        s.each items (fun s i => s.torItem k i)

def execTorusCodeword (port : Nat) (corrected lost : Bool) (seq : Nat) (replay : Bool) (block : List (BitVec 8)) (s : State) : Result :=
  within s (decide (port < 8)) (s.torCodeword port corrected lost (seq % 4096) replay block)

/-! ### Packets and routing (R409 to R412) -/

/-- Build a packet: type, destination, source, job, partition, context, length field, tag, generation, address, auxiliary word, payload. -/
structure Pkt where
  type : Nat
  dest : Nat
  src : Nat
  job : Nat
  part : Nat
  ctx : Nat
  len : Nat
  tag : Nat
  gen : Nat
  addr : Nat
  aux : Nat
  body : List Byte

def Pkt.bytes (p : Pkt) : List Byte :=
  leBytes 1 p.type ++ leBytes 1 0 ++ leBytes 2 p.dest ++ leBytes 2 p.src ++ leBytes 2 p.job ++ leBytes 1 p.part ++ leBytes 1 p.ctx ++ leBytes 2 p.len ++
    leBytes 2 p.tag ++ leBytes 2 p.gen ++ leBytes 8 p.addr ++ leBytes 8 p.aux ++ p.body

def Pkt.of (b : List Byte) : Pkt :=
  { type := pktNat b 0 1, dest := pktNat b 2 2 % 2 ^ 14, src := pktNat b 4 2 % 2 ^ 14, job := pktNat b 6 2, part := pktNat b 8 1, ctx := pktNat b 9 1 % 16,
    len := pktNat b 10 2, tag := pktNat b 12 2, gen := pktNat b 14 2, addr := pktNat b 16 8, aux := pktNat b 24 8, body := b.drop 32 }

def State.coord (s : State) : Nat := s.rd R.TOR_COORD 0

/-- Whether a type is a response (R410). -/
def isRsp (t : Nat) : Bool := t == 3 || t == 5 || t == 6 || t == 9

/-- The dimensions X, Y, Z, W: place and size in a coordinate word, and the ports of the positive and the negative way. -/
def dims : List (Nat × Nat × Nat × Nat) := [(10, 4, 1, 5), (6, 4, 2, 6), (1, 5, 3, 7), (0, 1, 0, 0)]
/-- The dimension a port belongs to; 8, the package's own engines, belongs to none. -/
def portDim (k : Nat) : Nat := ([3, 0, 1, 2, 3, 0, 1, 2, 4] : List Nat).getD k 4

/-- The hop a packet takes from coordinates `c` towards `d`: dimension, port, and whether it crosses the dateline (R411). -/
def hop (c d : Nat) : Option (Nat × Nat × Bool) :=
  ((List.range 4).zip dims).findSome? (fun x =>
    let (lo, w, pos, neg) := x.2
    let n := 2 ^ w
    let a := bits c lo w
    let b := bits d lo w
    let fwd := (b + n - a) % n
    if fwd = 0 then none
    else if 2 * fwd ≤ n then some (x.1, pos, a == n - 1) else some (x.1, neg, a == 0))

/-- The coordinates one hop away through a port. -/
def neighbour (c k : Nat) : Nat :=
  match dims.getD (portDim k) (0, 1, 0, 0) with
  | (lo, w, _, neg) =>
    let n := 2 ^ w
    setBits c lo w ((bits c lo w + (if k = neg ∧ lo ≠ 0 then n - 1 else 1)) % n)

/-- Send a packet on its way from arrival port `k` (8 for the package itself) and virtual channel `vc`. A packet whose departure port is DOWN
goes over W once; a second DOWN port discards it, and a request is answered NO_ROUTE (R412). `n` bounds the answer to the answer. -/
def State.torRoute (s : State) (n k vc : Nat) (p : List Byte) : State :=
  match n with
  | 0 => s
  | n + 1 =>
    let h := Pkt.of p
    match hop s.coord h.dest with
    | none => { s with torRx := s.torRx ++ [⟨8, vc, p⟩] }
    | some (dim, port, date) =>
      let det := bit (pktNat p 1 1) 0
      let base := (if isRsp h.type then 2 else 0) + (if det then 4 else 0)
      let odd := (if portDim k = dim then vc % 2 else 0)
      if s.torUp port then s.torSend port (base + (if date then 1 else odd)) p
      else
        let w := if s.torUp 0 then some 0 else if s.torUp 4 then some 4 else none
        match (if det then none else w) with
        | some w => s.torSend w ((if isRsp h.type then 6 else 4)) ((p.take 1) ++ [BitVec.ofNat 8 (setBits (pktNat p 1 1) 0 1 1)] ++ p.drop 2)
        | none =>
          let s := s.bump R.TOR_NOROUTE (port / 2) [port % 2] 1
          let ans := if h.type = 1 then 6 else if h.type = 2 then 3 else if h.type = 4 then 5 else if h.type = 8 then 9 else 0
          if isRsp h.type || ans == 0 then s
          else s.torRoute n 8 2 ({ h with type := ans, dest := h.src, src := s.coord, len := 0, aux := 5, body := [] } : Pkt).bytes

/-- Send a packet of the package's own. -/
def State.torEmit (s : State) (p : Pkt) : State := s.torRoute 2 8 (if isRsp p.type then 2 else 0) p.bytes

/-- Take the oldest packet of a port and virtual channel, which returns its credits. -/
def State.torTake (s : State) (k vc : Nat) : Option (TorPacket × State) :=
  (s.torRx.find? (fun (x : TorPacket) => x.port == k && x.vc == vc)).map (fun x =>
    let s := { s with torRx := s.torRx.erase x }
    (x, if k < 8 then s.send (.torusCtl k (0x30 + vc) (units32 x.bytes)) else s))

/-- A packet row: the oldest packet of the port and channel, if it has the row's type and this package is its destination. -/
def State.torRow (s : State) (k vc type : Nat) (f : State → Pkt → State) : State :=
  match s.torTake k vc with
  | some (x, s') => if pktNat x.bytes 0 1 == type && (Pkt.of x.bytes).dest == s.coord then f s' (Pkt.of x.bytes) else s
  | none => s

/-- A packet for another package crosses to its departure port (R411). -/
def execPacketForward (port vc : Nat) (s : State) : Result :=
  within s (decide (port < 8) && decide (vc < 8)) (match s.torTake port vc with
    | some (x, s') => if (Pkt.of x.bytes).dest == s.coord then s else s'.torRoute 2 port vc x.bytes
    | none => s)

/-! ### The target's side (R414) -/

/-- How an access for a remote request ends: status, fault kind, faulting VA or DPA, data (R415). -/
abbrev TorRes := Nat × Nat × Nat × List Byte

/-- The master port that serves a request: that of its arrival port, or of port 0 of the partition's die for the package's own. -/
def State.torAgent (s : State) (k p : Nat) : Agent := if k < 8 then .torus p (k / 2) (k % 2) else .torus p (s.partDie p) 0

/-- Translate for a remote request in the device half of its context (R297 to R301), and record a fault. -/
def State.torXlate (s : State) (k p c va : Nat) (write : Bool) : Except TorRes Nat × State :=
  let die := (s.torAgent k p).mdie
  let va := va % 2 ^ 48
  let bad (s : State) (kind : Nat) : Except TorRes Nat × State := (.error (2, kind, va, []), s.xltFault p c va kind)
  if isHost va then bad s 6
  else
    match s.xlate ⟨die, p, c, 9216 + 8 * p, false, 0, 0⟩ va write with
    | (.hit e, s) => (.ok (e.addr va), s)
    | (.fault kind, s) => bad s kind
    | (.ue d _, s) => (.error (3, 0, d, []), s)
    | (.down, s) => (.error (4, 0, va, []), s)
    | (.miss, s) => (.error (1, 0, va, []), s)

def ofMemRes (va : Nat) : MemRes → TorRes
  | .ok bs => (0, 0, 0, bs)
  | .ue d _ => (3, 0, d, [])
  | .down => (4, 0, va, [])
  | .outside => (2, 9, va, [])
  | .decode => (2, 4, va, [])

/-- Read or write a remote range page by page. -/
def State.torAccess (s : State) (k p c va len : Nat) (w : Option (List Byte)) : TorRes × State :=
  (pagesOf va len).foldl (fun acc pt =>
    match acc with
    | ((0, _, _, got), s) =>
      (match s.torXlate k p c pt.1 w.isSome with
       | (.error e, s) => (e, s)
       | (.ok dpa, s) =>
         let (r, s) := match w with
           | none => s.physRead { s.torAgent k p with ctx := c } dpa pt.2
           | some bs => s.physWrite { s.torAgent k p with ctx := c } dpa ((bs.drop (pt.1 - va)).take pt.2)
         let t := ofMemRes (pt.1 % 2 ^ 48) r
         ((t.1, t.2.1, t.2.2.1, got ++ t.2.2.2), if t.1 = 2 then s.xltFault p c pt.1 t.2.1 else s))
    | r => r) ((0, 0, 0, []), s)

/-- Whether the target accepts a request (R414). -/
def State.torAccepts (s : State) (h : Pkt) : Bool :=
  decide (h.part < 64) && s.rd R.TOR_P_ACCEPT_JOB 0 [h.part] == h.job && bit (s.rd R.TOR_P_ACCEPT_CTX_MASK 0 [h.part]) h.ctx

/-- Answer a request. -/
def State.torAnswer (s : State) (h : Pkt) (type status kind : Nat) (body : List Byte) : State :=
  s.torEmit { h with type := type, dest := h.src, src := s.coord, len := body.length, aux := status + kind * 256, body := body }

/-- Answer a request whose access has ended; a failure's address goes back in ADDR (R415). -/
def State.torEnd (s : State) (h : Pkt) (type : Nat) (r : TorRes) : State :=
  if r.1 = 0 then s.torAnswer h type 0 0 r.2.2.2 else s.torAnswer { h with addr := r.2.2.1 } type r.1 r.2.1 []

/-- PUT: the writes, then PUT_ACK once for every 16 packets of a command and once for its last packet, which `last` marks. -/
def State.putIn (s : State) (port : Nat) (last : Bool) (h : Pkt) : State :=
  let key := h.src * 2 ^ 16 + h.tag
  if !s.torAccepts h then { (s.torAnswer h 6 1 0 []) with torPuts := SMap.del s.torPuts key }
  else
    match s.torAccess port h.part h.ctx h.addr (min h.len 256) (some (padTo (min h.len 256) h.body)) with
    | ((0, _, _, _), s) =>
      let n := SMap.get 0 s.torPuts key + 1
      if n = 16 ∨ last then ({ s with torPuts := SMap.del s.torPuts key }).torAnswer h 6 0 0 []
      else { s with torPuts := SMap.put 0 s.torPuts key n }
    | (r, s) => ({ s with torPuts := SMap.del s.torPuts key }).torEnd h 6 r

def execPut (port vc : Nat) (last : Bool) (s : State) : Result :=
  within s (decide (port < 9) && decide (vc < 8)) (s.orWait (fun s => s.torRow port vc 1 (fun s h => s.putIn port last h)))

def State.getIn (s : State) (port : Nat) (h : Pkt) : State :=
  if !s.torAccepts h then s.torAnswer h 3 1 0 []
  else
    match s.torAccess port h.part h.ctx h.addr (min h.len 256) none with
    | (r, s) => s.torEnd h 3 r

def execGet (port vc : Nat) (s : State) : Result :=
  within s (decide (port < 9) && decide (vc < 8)) (s.orWait (fun s => s.torRow port vc 2 (fun s h => s.getIn port h)))

/-- ATOMIC runs at the home, as R343 gives: bay copies are invalidated, then the operation is one access. -/
def State.torAtomic (s : State) (k p c va size op opnd cmp : Nat) : TorRes × State :=
  match s.torXlate k p c va true with
  | (.error e, s) => (e, s)
  | (.ok dpa, s) =>
    let (r, s) := s.physAtomic { s.torAgent k p with ctx := c } dpa size op opnd cmp
    let t := ofMemRes (va % 2 ^ 48) r
    (t, if t.1 = 2 then s.xltFault p c (va % 2 ^ 48) t.2.1 else s)

def State.atomicIn (s : State) (port : Nat) (h : Pkt) : State :=
  if !s.torAccepts h then s.torAnswer h 5 1 0 []
  else
    let size := if bit h.aux 8 then 8 else 4
    match s.torAtomic port h.part h.ctx (h.addr % 2 ^ 48 / size * size) size (h.aux % 256) (leNat (h.body.take 8)) (leNat ((h.body.drop 8).take 8)) with
    | (r, s) => s.torEnd h 5 r

def execTorusAtomic (port vc : Nat) (s : State) : Result :=
  within s (decide (port < 9) && decide (vc < 8)) (s.orWait (fun s => s.torRow port vc 4 (fun s h => s.atomicIn port h)))

/-! ### The sender's side: torus queues (R413, R415) -/

def State.tq (s : State) (f : Fld) (p q : Nat) : Nat := s.rd f 0 [p, q]
/-- The engine of a torus queue: its partition's die, its context and its own stream (R307). -/
def State.tqVirt (s : State) (p q : Nat) (task : Nat := 0) : Virt := ⟨s.partDie p, p, s.tq R.TOR_Q_CFG_CONTEXT p q, 9216 + 8 * p + q, false, 0, task⟩
def State.tqSize (s : State) (p q : Nat) : Nat := 2 ^ (s.tq R.TOR_Q_CFG_SIZE p q + 6)

def TorCmd.nat (c : TorCmd) (off n : Nat) : Nat := leNat ((c.bytes.drop off).take n)
def TorCmd.op (c : TorCmd) : Nat := c.nat 0 1
def TorCmd.len (c : TorCmd) : Nat := c.nat 8 4
/-- What a command must send: bytes, or the chunks of a REDUCE. -/
def TorCmd.total (c : TorCmd) : Nat := if c.op = 4 then c.len / 256 else if c.op = 3 then 1 else c.len
def TorCmd.issued (c : TorCmd) : Bool := c.started && decide (c.total ≤ c.sent)

def State.updTor (s : State) (id : Nat) (f : TorCmd → TorCmd) : State :=
  { s with torCmds := s.torCmds.map (fun (c : TorCmd) => if c.id == id then f c else c) }

/-- The status word of a queue: HEAD and DONE. -/
def State.tqStatus (s : State) (p q : Nat) : State :=
  (s.virtPost (s.tqVirt p q) (s.tq R.TOR_Q_STAT p q) (leBytes 4 (SMap.get 0 s.torHead (8 * p + q)) ++ leBytes 4 (s.tq R.TOR_Q_DONE p q)) .none_).1

/-- A command completes: its entry, then DONE (R415). -/
def State.torDone (s : State) (c : TorCmd) (status kind addr : Nat) : State :=
  let p := c.part
  let q := c.queue
  let s := { s with torCmds := s.torCmds.filter (fun (x : TorCmd) => x.id != c.id) }
  let e := leBytes 4 (c.nat 0xC 4) ++ leBytes 1 status ++ leBytes 1 kind ++ leBytes 2 0 ++ leBytes 8 addr
  let s := (s.virtPost (s.tqVirt p q) (s.tq R.TOR_Q_CPL p q + 16 * (s.tq R.TOR_Q_DONE p q % s.tqSize p q)) e .none_).1
  (s.roll R.TOR_Q_DONE 0 [p, q] 1).tqStatus p q

/-- A status no rule gives, for a command whose fields lie outside their ranges. -/
def State.torBad (s : State) (c : TorCmd) : State := (s.useFree 1).torDone c (s.freeBelow 8) 0 0

/-- The tail word of a queue. -/
def State.tqTail (s : State) (p q : Nat) : Option Nat × State :=
  match s.virtReadH (s.tqVirt p q) (s.tq R.TOR_Q_TAIL p q) 4 [] with
  | (.ok bs, s) => (some (leNat bs), s)
  | (.fault va k, s) => (none, s.xltFault p (s.tq R.TOR_Q_CFG_CONTEXT p q) va k)
  | (_, s) => (none, s)

/-- The port engine reads the tail word of an enabled queue and fetches its new commands; one with no operation of R413 completes at once
with a status nothing states. -/
def State.torPoll (s : State) (p q : Nat) : State :=
  if s.tq R.TOR_Q_CFG_ENABLE p q = 0 then s
  else
    match s.tqTail p q with
    | (none, s) => s
    | (some tail, s) =>
      let head := SMap.get 0 s.torHead (8 * p + q)
      let n := min (s.tqSize p q) ((tail + 2 ^ 32 - head) % 2 ^ 32)
      let s := s.each (List.range n) (fun s i =>
        let cnt := (head + i) % 2 ^ 32
        if SMap.get 0 s.torHead (8 * p + q) != cnt then s
        else
          match s.virtReadH (s.tqVirt p q) (s.tq R.TOR_Q_RING p q + 64 * (cnt % s.tqSize p q)) 64 [] with
          | (.ok bs, s) =>
            let c : TorCmd := { id := s.nextId, part := p, queue := q, count := cnt, bytes := bs, started := false, sent := 0, done := 0, base := 0, tag := s.nextId % 2 ^ 16 }
            let s := { s with torCmds := s.torCmds ++ [c], nextId := s.nextId + 1, torHead := SMap.put 0 s.torHead (8 * p + q) ((cnt + 1) % 2 ^ 32) }
            if c.op = 0 ∨ 4 < c.op then s.torBad c else s
          | (.fault va k, s) => s.xltFault p (s.tq R.TOR_Q_CFG_CONTEXT p q) va k
          | (_, s) => s)
      if n = 0 then s else s.tqStatus p q
def execTorusQueuePoll (part q : Nat) (s : State) : Result := within s (decide (part < 64) && decide (q < 8)) (s.orWait (fun s => s.torPoll part q))

/-- The command a queue's engine turns to: the first not wholly issued, once FENCE lets it start (R413). -/
def State.torNext (s : State) (p q op : Nat) : Option TorCmd :=
  let cs := s.torCmds.filter (fun (c : TorCmd) => c.part == p && c.queue == q)
  (cs.find? (fun c => !c.issued)).bind (fun c =>
    if c.op == op && (c.started || !bit (c.nat 1 1) 0 || cs.head? == some c) then some c else none)

/-- A local access of a command failed. -/
def State.torLocal (s : State) (c : TorCmd) (r : VRes) : State :=
  match r with
  | .fault va k => (s.xltFault c.part (s.tq R.TOR_Q_CFG_CONTEXT c.part c.queue) va k).torDone c 2 k va
  | .ue d _ => s.torDone c 3 0 d
  | .down => s.torDone c 4 0 0
  | _ => s

/-- The header of a command's packets. -/
def State.torPkt (s : State) (c : TorCmd) (type addr len : Nat) (body : List Byte) : Pkt :=
  { type := type, dest := c.nat 2 2 % 2 ^ 14, src := s.coord, job := s.tq R.TOR_Q_CFG_JOB c.part c.queue, part := c.nat 4 1, ctx := c.nat 5 1 % 16, len := len,
    tag := c.tag, gen := s.gen c.part, addr := addr % 2 ^ 48, aux := 0, body := body }

/-- The packets of a length: offset and bytes. -/
def packets (len : Nat) : List (Nat × Nat) := (List.range ((len + 255) / 256)).map (fun i => (256 * i, min 256 (len - 256 * i)))

def lenOk (c : TorCmd) : Bool := decide (1 ≤ c.len) && decide (c.len ≤ 2 ^ 20)

/-- PUT: read LOCAL and send it. `host` is what the host half holds, if LOCAL lies there. -/
def execTqPut (part q : Nat) (host : List (BitVec 8)) (s : State) : Result :=
  within s (decide (part < 64) && decide (q < 8)) (s.orWait (fun s => match s.torNext part q 1 with
    | none => s
    | some c =>
      if !lenOk c then s.torBad c
      else
        match s.virtReadH (s.tqVirt part q c.id) (c.nat 0x10 8 % 2 ^ 48) c.len host with
        | (.ok bs, s) =>
          let s := s.updTor c.id (fun c => { c with started := true, sent := c.len })
          s.each (packets c.len) (fun s x => s.torEmit (s.torPkt c 1 (c.nat 0x18 8 + x.1) x.2 ((bs.drop x.1).take x.2)))
        | (r, s) => s.torLocal c r))

def execTqGet (part q : Nat) (s : State) : Result :=
  within s (decide (part < 64) && decide (q < 8)) (match s.torNext part q 2 with
    | none => s
    | some c =>
      if !lenOk c then s.torBad c
      else
        let s := s.updTor c.id (fun c => { c with started := true, sent := c.len })
        s.each (packets c.len) (fun s x => s.torEmit (s.torPkt c 2 (c.nat 0x18 8 + x.1) x.2 [])))

def execTqAtomic (part q : Nat) (s : State) : Result :=
  within s (decide (part < 64) && decide (q < 8)) (match s.torNext part q 3 with
    | none => s
    | some c =>
      let s := s.updTor c.id (fun c => { c with started := true, sent := 1 })
      let aop := c.nat 6 1
      s.torEmit { (s.torPkt c 4 (c.nat 0x18 8) 16 ((c.bytes.drop 0x20).take 16)) with aux := aop % 16 + (if bit aop 4 then 256 else 0) })

/-- The command an answer belongs to. An answer of another generation is discarded (R415). -/
def State.torOf (s : State) (h : Pkt) (op : Nat) : Option TorCmd :=
  (s.torCmds.find? (fun (c : TorCmd) => c.started && c.tag == h.tag && c.op == op)).bind (fun c => if h.gen == s.gen c.part then some c else none)

/-- Answers needed by a PUT: one for every 16 packets and one for the last. -/
def putAcks (len : Nat) : Nat := ((len + 255) / 256 + 15) / 16

def State.putAckIn (s : State) (h : Pkt) : State :=
  match s.torOf h 1 with
  | none => s
  | some c =>
    if h.aux % 256 != 0 then s.torDone c (h.aux % 256) (bits h.aux 8 4) h.addr
    else if c.done + 1 = putAcks c.len then s.torDone c 0 0 0
    else s.updTor c.id (fun c => { c with done := c.done + 1 })

def execPutAck (port vc : Nat) (s : State) : Result :=
  within s (decide (port < 9) && decide (vc < 8)) (s.torRow port vc 6 (fun s h => s.putAckIn h))

/-- Data for a GET, or an old value, goes to LOCAL. -/
def State.torData (s : State) (h : Pkt) (off n total : Nat) (c : TorCmd) : State :=
  if h.aux % 256 != 0 then s.torDone c (h.aux % 256) (bits h.aux 8 4) h.addr
  else
    match s.virtWriteV (s.tqVirt c.part c.queue c.id) ((c.nat 0x10 8 + off) % 2 ^ 48) (padTo n h.body) with
    | (.ok _, s) => if total ≤ c.done + n then s.torDone c 0 0 0 else s.updTor c.id (fun c => { c with done := c.done + n })
    | (r, s) => s.torLocal c r

def State.getDataIn (s : State) (h : Pkt) : State :=
  match s.torOf h 2 with
  | none => s
  | some c => s.torData h (h.addr - c.nat 0x18 8 % 2 ^ 48) (min h.len 256) c.len c

def execGetData (port vc : Nat) (s : State) : Result :=
  within s (decide (port < 9) && decide (vc < 8)) (s.orWait (fun s => s.torRow port vc 3 (fun s h => s.getDataIn h)))

def State.atomicDataIn (s : State) (h : Pkt) : State :=
  match s.torOf h 3 with
  | none => s
  | some c => let n := if bit (c.nat 6 1) 4 then 8 else 4; s.torData h 0 n n c

def execTorusAtomicData (port vc : Nat) (s : State) : Result :=
  within s (decide (port < 9) && decide (vc < 8)) (s.orWait (fun s => s.torRow port vc 5 (fun s h => s.atomicDataIn h)))

/-- No answer within TOR_TIMEOUT. -/
def execTorusCmdTimeout (part q id : Nat) (s : State) : Result :=
  within s (decide (part < 64) && decide (q < 8)) (match s.torCmds.find? (fun (c : TorCmd) => c.id == id && c.part == part && c.queue == q && c.started) with
    | some c => s.torDone c 6 0 0
    | none => s)

/-- A partition reset: every command in progress completes ABORTED, without an entry (R415). -/
def State.torAbort (s : State) (p : Nat) : State :=
  { s with torCmds := s.torCmds.filter (fun (c : TorCmd) => c.part != p) }

/-- Bus Master Enable is cleared: the commands complete ABORTED, an entry being written only to a queue in device memory (R451). -/
def State.torQuiet (s : State) (p : Nat) : State :=
  (s.each (s.torCmds.filter (fun (c : TorCmd) => c.part == p && !isHost (s.tq R.TOR_Q_CPL p c.queue))) (fun s c => s.torDone c 7 0 0)).torAbort p

/-! ### Reduction (R416) -/

/-- Elements of a format: bytes each. -/
def redBytes (fmt : Nat) : Nat := if fmt = 1 then 2 else if fmt = 0 ∨ fmt = 3 then 4 else 8

/-- Combine two elements: floats rounded by RNE (R115), integers wrapping. A format or operation code outside the lists combines to
nothing stated. -/
def redElem (op fmt a b : Nat) : Option Nat :=
  let w := 8 * redBytes fmt
  if 4 < fmt ∨ 2 < op then none
  else if fmt = 3 ∨ fmt = 4 then
    some (if op = 0 then (a + b) % 2 ^ w
      else if op = 1 then (if signed w a ≤ signed w b then a else b) else (if signed w a ≤ signed w b then b else a))
  else
    let f := if fmt = 0 then fp32 else if fmt = 1 then bf16 else fp64
    let x := f.decode a
    let y := f.decode b
    some (f.encode (if op = 0 then x.add y else if op = 1 then x.minNum y else x.maxNum y))

def redElems (w : Nat) (bs : List Byte) : List Nat := (List.range (256 / w)).map (fun i => leNat ((bs.drop (w * i)).take w))

def State.redRd (s : State) (f : Fld) (g : Nat) : Nat := s.rd f 0 [g]
def State.redChildren (s : State) (g : Nat) : List Nat := (List.range 8).filter (bit (s.redRd R.TOR_RED_CHILDREN g))

/-- Combine a chunk's inputs in order; what no rule states is free. -/
def State.redCombine (s : State) (g : Nat) (ins : List (List Byte)) : List Byte × State :=
  let op := s.redRd R.TOR_RED_OP g
  let fmt := s.redRd R.TOR_RED_FMT g
  if 4 < fmt ∨ 2 < op then (s.freeBytes 256, s.useFree 256)
  else
    let w := redBytes fmt
    match ins with
    | [] => ([], s)
    | a :: l =>
      let es := l.foldl (fun acc b => (acc.zip (redElems w b)).map (fun x => (redElem op fmt x.1 x.2).getD 0)) (redElems w a)
      (es.flatMap (leBytes w), s)

/-- A result reaches a member: it forwards it to its children, writes it to its result VA and completes its command. -/
def State.redResult (s : State) (g chunk status : Nat) (data : List Byte) : State :=
  match s.redChunks.find? (fun (x : RedChunk) => x.group == g && x.chunk == chunk) with
  | none => s
  | some x =>
    let s := { s with redChunks := s.redChunks.erase x }
    let s := s.each (x.inputs.filter (fun i => i.1 != 8)) (fun s i =>
      s.torEmit { type := 9, dest := neighbour s.coord i.1, src := s.coord, job := 0, part := g, ctx := 0, len := data.length, tag := 0, gen := i.2.1, addr := chunk, aux := status, body := data })
    match s.torCmds.find? (fun (c : TorCmd) => c.started && c.op == 4 && c.nat 4 1 == g && decide (c.base ≤ chunk) && decide (chunk < c.base + c.total)) with
    | none => s
    | some c =>
      if status != 0 then s.torDone c status 0 0
      else
        match s.virtWriteV (s.tqVirt c.part c.queue c.id) ((c.nat 0x18 8 + 256 * (chunk - c.base)) % 2 ^ 48) (padTo 256 data) with
        | (.ok _, s) => if c.done + 1 = c.total then s.torDone c 0 0 0 else s.updTor c.id (fun c => { c with done := c.done + 1 })
        | (r, s) => s.torLocal c r

/-- An input has come: with the package's own and every child's, the chunk combines, its own first and then the children in ascending port
order, and goes to the parent; at the root it is the result. -/
def State.redInput (s : State) (g chunk port gen : Nat) (data : List Byte) : State :=
  let old := (s.redChunks.find? (fun (x : RedChunk) => x.group == g && x.chunk == chunk)).getD ⟨g, chunk, [], false⟩
  let x : RedChunk := { old with inputs := old.inputs.filter (fun i => i.1 != port) ++ [(port, gen, data)] }
  let rest := s.redChunks.filter (fun (y : RedChunk) => !(y.group == g && y.chunk == chunk))
  let order := 8 :: s.redChildren g
  if order.all (fun k => x.inputs.any (fun i => i.1 == k)) && !x.up then
    let s := { s with redChunks := rest ++ [{ x with up := true }] }
    let ins := order.filterMap (fun k => (x.inputs.find? (fun i => i.1 == k)).map (fun i => i.2.2))
    let (bs, s) := s.redCombine g ins
    let parent := s.redRd R.TOR_RED_PARENT g
    if parent = 15 then s.redResult g chunk 0 bs
    else
      let own := (x.inputs.find? (fun i => i.1 == 8)).map (fun i => i.2.1)
      s.torEmit { type := 8, dest := neighbour s.coord parent, src := s.coord, job := 0, part := g, ctx := 0, len := 256, tag := 0, gen := own.getD 0, addr := chunk, aux := 0, body := bs }
  else { s with redChunks := rest ++ [x] }

/-- REDUCE contributes the next chunk of its buffer, at most 64 chunks of a group being in flight. -/
def execTqReduce (part q : Nat) (host : List (BitVec 8)) (s : State) : Result :=
  within s (decide (part < 64) && decide (q < 8)) (s.orWait (fun s => match s.torNext part q 4 with
    | none => s
    | some c =>
      let g := c.nat 4 1
      if !(decide (g < 64) && s.redRd R.TOR_RED_VALID g == 1 && s.redRd R.TOR_RED_PARTITION g == part) then s.torDone c 1 0 0
      else if !(lenOk c && c.len % 256 == 0) then s.torBad c
      else if 64 ≤ (s.redChunks.filter (fun (x : RedChunk) => x.group == g)).length &&
          !s.redChunks.any (fun (x : RedChunk) => x.group == g && x.chunk == (if c.started then c.base else SMap.get 0 s.redNext g) + c.sent) then s
      else
        match s.virtReadH (s.tqVirt part q c.id) ((c.nat 0x10 8 + 256 * c.sent) % 2 ^ 48) 256 host with
        | (.ok bs, s) =>
          let base := if c.started then c.base else SMap.get 0 s.redNext g
          let s := if c.started then s else { s with redNext := SMap.put 0 s.redNext g (base + c.total) }
          let s := s.updTor c.id (fun (c : TorCmd) => { c with started := true, sent := c.sent + 1, base := base })
          s.redInput g (base + c.sent) 8 (s.gen part) bs
        | (r, s) => s.torLocal c r))

/-- A child's chunk arrives. One of a group that is not valid, or from a port that is no child, is answered DENIED. -/
def State.reduceIn (s : State) (port : Nat) (h : Pkt) : State :=
  if decide (h.part < 64) && s.redRd R.TOR_RED_VALID h.part == 1 && (s.redChildren h.part).contains port then s.redInput h.part h.addr port h.gen (padTo 256 h.body)
  else s.torAnswer h 9 1 0 []

def execReduce (port vc : Nat) (s : State) : Result :=
  within s (decide (port < 9) && decide (vc < 8)) (s.orWait (fun s => s.torRow port vc 8 (fun s h => s.reduceIn port h)))

/-- A result arrives from the parent; one of another generation is discarded (R415). -/
def State.reduceResultIn (s : State) (h : Pkt) : State :=
  if decide (h.part < 64) && s.gen (s.redRd R.TOR_RED_PARTITION h.part) == h.gen then s.redResult h.part h.addr (h.aux % 256) h.body else s

def execReduceResult (port vc : Nat) (s : State) : Result :=
  within s (decide (port < 9) && decide (vc < 8)) (s.orWait (fun s => s.torRow port vc 9 (fun s h => s.reduceResultIn h)))

/-! ### Stream channels (R417) -/

def State.chRd (s : State) (f : Fld) (ch : Nat) : Nat := s.rd f 0 [ch]
def State.chChunk (s : State) (ch : Nat) : Nat := 4096 * 2 ^ s.chRd R.TOR_S_CFG_CHUNK_LOG2 ch
def State.chSlots (s : State) (ch : Nat) : Nat := 2 ^ s.chRd R.TOR_S_CFG_SLOTS_LOG2 ch

/-- A STREAM packet: written into its slot, or discarded as late or early. The payload of one that no channel accepts, or that runs past the
end of its chunk, is discarded. -/
def State.streamIn (s : State) (k : Nat) (h : Pkt) : State :=
  let ch := h.part
  if !(decide (ch < 64) && s.chRd R.TOR_S_CFG_ENABLE ch == 1 && s.chRd R.TOR_S_CFG_SOURCE ch == h.src) then s
  else
    let d := s.chRd R.TOR_S_CFG_DEADLINE ch
    let n := s.chSlots ch
    let t := h.addr
    if t + d ≤ s.tick then { (s.bump R.TOR_S_LATE 0 [ch] 1) with streamLate := if s.streamLate.contains ch then s.streamLate else s.streamLate ++ [ch] }
    else if max (s.tick + 1) d + n ≤ t + d then s.bump R.TOR_S_EARLY 0 [ch] 1
    else
      let len := min h.len 256
      if s.chChunk ch < h.aux + len then s
      else
        let p := s.chRd R.TOR_S_OWNER ch
        let c := s.chRd R.TOR_S_CFG_CONTEXT ch
        match s.torAccess k p c (s.chRd R.TOR_S_RING ch + t % n * s.chChunk ch + h.aux) len (some (padTo len h.body)) with
        | ((0, _, _, _), s) =>
          let old := match s.slots.find? (fun (x : StreamSlot) => x.ch == ch && x.tick == t) with | some x => x.bytes | none => 0
          let s := { s with slots := s.slots.filter (fun (x : StreamSlot) => !(x.ch == ch && x.tick == t)) ++ [(⟨ch, t, old + len⟩ : StreamSlot)] }
          s.bump R.TOR_S_BYTES 0 [ch] len
        | (_, s) => s

def execStream (port vc : Nat) (s : State) : Result :=
  within s (decide (port < 9) && decide (vc < 8)) (s.orWait (fun s => s.torRow port vc 10 (fun s h => s.streamIn port h)))

/-- Step 5 of a boundary: the chunks whose deadline has come are to be closed (R240, R417). -/
def State.streamBoundary (s : State) : State :=
  { s with closes := s.closes ++ (List.range 64).filterMap (fun ch =>
      if s.chRd R.TOR_S_CFG_ENABLE ch = 1 && decide (s.chRd R.TOR_S_CFG_DEADLINE ch ≤ s.tick) then some (ch, s.tick - s.chRd R.TOR_S_CFG_DEADLINE ch) else none) }

/-- A channel closes a chunk: its status entry (R417). -/
def execStreamChunkClose (ch : Nat) (s : State) : Result :=
  within s (decide (ch < 64)) (s.orWait (fun s => match s.closes.find? (fun x => x.1 == ch) with
    | none => s
    | some x =>
      let got := match s.slots.find? (fun (y : StreamSlot) => y.ch == ch && y.tick == x.2) with | some y => y.bytes | none => 0
      let late := s.streamLate.contains ch
      let fl := (if got = s.chChunk ch then 1 else 0) + (if late then 2 else 0)
      let e := leBytes 8 x.2 ++ leBytes 4 got ++ leBytes 4 fl
      let s := { s with closes := s.closes.erase x, slots := s.slots.filter (fun (y : StreamSlot) => !(y.ch == ch && y.tick == x.2)), streamLate := s.streamLate.filter (· != ch) }
      (s.torAccess 8 (s.chRd R.TOR_S_OWNER ch) (s.chRd R.TOR_S_CFG_CONTEXT ch) (s.chRd R.TOR_S_STATUS_RING ch + 16 * (x.2 % s.chSlots ch)) 16 (some e)).2))

end Sys2Proof.Machine
end

