-- ==== Sys2Proof/Machine/Kennel.lean ====
section
/-! DEFINITION. Kennel's checkpoints and restore (R418 to R422) and the sideband ring (R423 to R427). -/

namespace Sys2Proof.Machine

/-! ### Checkpoints (R419 to R421) -/

def State.knlState (s : State) : Nat := s.rd R.KNL_STATUS_STATE 0
def State.knlErr (s : State) : State :=
  s.err 0 (.plain 3 7 0 (scopeOf 7 0) (s.regVal 0 [] [R.KNL_EVENT_MISMATCH, R.KNL_EVENT_RESTORED, R.KNL_EVENT_ABANDONED, R.KNL_EVENT_SKIPPED, R.KNL_EVENT_OVERFLOW]))
def State.knlStageBase (s : State) : Nat := s.rd R.KNL_STAGE_BASE 0 * 2 ^ 16
def State.knlStoreBase (s : State) : Nat := s.rd R.KNL_STORE_BASE 0 * 2 ^ 16

/-- Step 4 of a boundary: the epoch closes, and the INTERVAL-th is a checkpoint: the trackers freeze their bitmaps, unless the last
checkpoint still streams (R240, R419). No epoch closes while a restore is in progress (log entry 122). -/
def State.knlBoundary (s : State) : State :=
  if !s.rdB R.KNL_CTRL_ENABLE 0 || s.knlState == 3 then s
  else if s.knlEpochs + 1 < s.rd R.KNL_CFG_INTERVAL 0 then { s with knlEpochs := s.knlEpochs + 1 }
  else
    let s := { s with knlEpochs := 0, knlDue := some (s.tick, s.knlState == 2) }
    if s.knlState = 2 then s else { s with knlCkpt := s.knlDirty, knlFrozen := s.knlDirty.map (·.1), knlDirty := [] }

/-- The frozen copy of a die's bitmap: 768 KiB (R419). -/
def State.knlBitmap (s : State) (d : Nat) : List Byte :=
  (List.range (768 * 1024)).map (fun i => BitVec.ofNat 8 ((List.range 8).foldl (fun v b => if bit (SMap.get 0 s.knlCkpt (8 * i + b)) d then v + 2 ^ b else v) 0))

/-- The engine of a granule: HD0's for an even one, HD2's for an odd one (R418). -/
def knlEngine (g : Nat) : Agent := Agent.kennel (if g % 2 = 0 then 0 else 2)

/-- Write granules of memory, each by its engine, and wait; false where one fails. -/
def State.knlWrites (s : State) (l : List (Nat × Nat × List Byte)) : Bool × State :=
  l.foldl (fun acc x =>
    match acc with
    | (true, s) => let (r, s) := s.physWrite (knlEngine x.1) x.2.1 x.2.2; (r.good, s)
    | r => r) (true, s)

/-- The checkpoint's turn: skipped, too large for a log, or streaming starts. -/
def execKennelCheckpoint (s : State) : Result :=
  within s true (s.orWait (fun s => match s.knlDue with
    | none => s
    | some (t, skip) =>
      let s := { s with knlDue := none }
      if skip then (s.wr R.KNL_EVENT_SKIPPED 0 [] 1).knlErr
      else if s.rd R.KNL_LOG_SIZE 0 < s.knlCkpt.length then
        let merged := s.knlCkpt.foldl (fun (m : SMap Nat) (e : Nat × Nat) => SMap.put 0 m e.1 (SMap.get 0 m e.1 ||| e.2)) s.knlDirty
        ((({ s with knlDirty := merged, knlCkpt := [], knlFrozen := [], knlStage := [] }).wr R.KNL_EVENT_OVERFLOW 0 [] 1).knlErr).pumpHome
      else
        let s := (({ s with knlTick := t }).wr R.KNL_STATUS_STATE 0 [] 2)
        let (ok, s) := s.knlWrites ((List.range 4).map (fun d => (0, s.knlStageBase + d * 768 * 1024, s.knlBitmap d)))
        if ok && (s.torUp 0 || s.torUp 4) then s else s.knlAbandon))

/-- Read a granule of protected memory; none where a sector of it is uncorrectable (R269; log entry 122). -/
def State.knlRead (s : State) (g : Nat) : Option (List Byte) × State :=
  match knlPlace s.knlRegions g with
  | none => (some [], s)
  | some a =>
    match s.physRead (knlEngine g) a (2 ^ 16) with
    | (.ok bs, s) => (some bs, s)
    | (_, s) => (none, s)

/-- Kennel copies a frozen granule into the staging area, if it has room beyond the bitmaps; held writes go on (R420). A checkpoint that cannot read
a granule is abandoned (log entry 122). -/
def execKennelGranuleStaged (granule : Nat) (s : State) : Result :=
  within s true (s.orWait (fun s =>
    let room := s.rd R.KNL_STAGE_SIZE 0 - 48
    let slot := s.knlStage.length
    if !s.knlFrozen.contains granule || decide (room ≤ slot) then s
    else
      match s.knlRead granule with
      | (none, s) => s.knlAbandon
      | (some bs, s) =>
        let (ok, s) := s.knlWrites [(granule, s.knlStageBase + (48 + slot) * 2 ^ 16, bs)]
        if ok then ({ s with knlStage := s.knlStage ++ [(granule, bs)], knlFrozen := s.knlFrozen.filter (· != granule) }).pumpHome else s.knlAbandon))

/-- The content a checkpoint sends for a granule: the staged copy, or memory as it stands, which no write has changed since. -/
def State.knlContent (s : State) (g : Nat) : Option (List Byte) × State :=
  match s.knlStage.find? (fun x => x.1 == g) with
  | some x => (some x.2, s)
  | none => s.knlRead g

/-- The W port a granule goes by: even granules over Wa, odd ones over Wb, all over the one that is UP (R418). -/
def State.knlPort (s : State) (g : Nat) : Nat := if g % 2 = 0 then (if s.torUp 0 then 0 else 4) else (if s.torUp 4 then 4 else 0)

/-- What a checkpoint sends, granule by granule; none where one cannot be read. -/
def State.knlLogOf (s : State) (gs : List Nat) : Option (List (Nat × List Byte)) × State :=
  gs.foldl (fun acc g =>
    match acc with
    | (some l, s) => let (b, s) := s.knlContent g; (b.map (fun bs => l ++ [(g, bs)]), s)
    | r => r) (some [], s)

/-- Every frozen granule and the commit have been sent (R419). `committed`: the buddy has found count and digest right; where not, the checkpoint is
abandoned at both ends (R421). -/
def execKennelStreamEnd (committed : Bool) (s : State) : Result :=
  within s true (s.orWait (fun s =>
    if s.knlState != 2 then s
    else if !(s.torUp 0 || s.torUp 4) then s.knlAbandon
    else
      match s.knlLogOf (s.knlCkpt.map (·.1)) with
      | (none, s) => s.knlAbandon
      | (some l, s) =>
        let s := s.each l (fun s x => s.send (.kennel (s.knlPort x.1) 0 x.1 s.knlTick x.2))
        let s := s.send (.kennel (s.knlPort 0) 1 s.knlTick l.length (shake256 64 (l.flatMap (·.2))))
        let s := s.bump R.KNL_SENT 0 [] l.length
        if !committed then s.knlAbandon else
        let s := s.wr R.KNL_LAST 0 [] s.knlTick
        (({ s with knlCkpt := [], knlFrozen := [], knlStage := [] }).wr R.KNL_STATUS_STATE 0 [] 1).pumpHome))

/-- The buddy's side of a commit: the log that arrived, its count and digest checked, is applied to the image in order (R419, R421). The image
stands at the start of the store, the two logs at its end. -/
def execKennelCommit (tick count : Nat) (digest : List (BitVec 8)) (granules : List Nat) (data : List (BitVec 8)) (s : State) : Result :=
  within s true (s.orWait (fun s =>
    let base := s.knlStoreBase
    let size := s.rd R.KNL_STORE_SIZE 0
    let logs := s.rd R.KNL_LOG_SIZE 0
    let good := granules.length == count && data.length == count * 2 ^ 16 && shake256 64 data == digest && decide (count ≤ logs) && decide (2 * logs ≤ size) &&
      granules.all (fun g => decide (g + 2 * logs < size))
    if good then
      let ks := granules.zip (List.range count)
      let part (k : Nat) : List Byte := (data.drop (k * 2 ^ 16)).take (2 ^ 16)
      let log := ks.map (fun x => (x.1, base + (size - 2 * logs + s.knlLog * logs + x.2) * 2 ^ 16, part x.2))
      let (_, s) := s.knlWrites (log ++ ks.map (fun x => (x.1, base + x.1 * 2 ^ 16, part x.2)))
      (({ s with knlLog := 1 - s.knlLog % 2 }).wr R.KNL_LAST 0 [] tick).send (.kennel (s.knlPort 0) 5 tick 1 [])
    else ((s.wr R.KNL_EVENT_ABANDONED 0 [] 1).knlErr).send (.kennel (s.knlPort 0) 5 tick 0 [])))

/-! ### Restore (R422) -/

/-- The buddy streams its image of `granules` granules back, or refuses because the partner's regions differ from its record. What a granule that
cannot be read goes out with is open (log entry 122). -/
def State.knlServe (s : State) (same : Bool) (granules : Nat) : State :=
  if !same then s.send (.kennel (s.knlPort 0) 4 0 0 [])
  else s.each (List.range granules) (fun s g =>
    let (bs, s) := match s.physRead (knlEngine g) (s.knlStoreBase + g * 2 ^ 16) (2 ^ 16) with
      | (.ok bs, s) => (bs, s)
      | (_, s) => (s.freeBytes (2 ^ 16), s.useFree (2 ^ 16))
    s.send (.kennel (s.knlPort g) 3 g (s.rd R.KNL_LAST 0) bs))

/-- RESTORE: as the requester (`asBuddy` false) the package asks its buddy, which refuses if the regions differ; as the buddy it answers. -/
def execKnlRestore (asBuddy same : Bool) (granules : Nat) (s : State) : Result :=
  within s true (s.orWait (fun s =>
    if asBuddy then s.knlServe same granules
    else if !(s.torUp 0 || s.torUp 4) || s.knlState == 3 then s
    else
      let regs := s.knlRegions.flatMap (fun r => leBytes 8 r.1 ++ leBytes 8 r.2)
      let s := s.send (.kennel (s.knlPort 0) 2 0 0 regs)
      if same then s.wr R.KNL_STATUS_STATE 0 [] 3 else (s.wr R.KNL_EVENT_MISMATCH 0 [] 1).knlErr))

/-- The buddy has streamed its whole image, the checkpoint of `tick`, back into the protected regions; or it has refused because they differ from its
record. -/
def execKennelRestoreDone (refused : Bool) (tick : Nat) (image : List (BitVec 8)) (s : State) : Result :=
  within s true (s.orWait (fun s =>
    if s.knlState != 3 then s
    else if refused then ((s.wr R.KNL_STATUS_STATE 0 [] (s.rd R.KNL_CTRL_ENABLE 0)).wr R.KNL_EVENT_MISMATCH 0 [] 1).knlErr
    else
      let n := s.knlRegions.foldl (fun k r => k + r.2) 0
      let (_, s) := s.knlWrites ((List.range n).filterMap (fun g => (knlPlace s.knlRegions g).map (fun a => (g, a, padTo (2 ^ 16) (image.drop (g * 2 ^ 16))))))
      s.wrs 0 [] [(R.KNL_EVENT_RESTORED, 1), (R.KNL_LAST, tick), (R.KNL_STATUS_STATE, 4)]))

/-- CLEAR_STATS of KNL (R432). -/
def execKnlClearStats (s : State) : Result := within s true (s.wrs 0 [] [(R.KNL_SENT, 0), (R.KNL_HELD, 0)])

/-! ### The sideband ring (R423 to R427) -/

def State.sbrUp (s : State) : Bool := s.rd R.SBR_STATUS_STATE 0 == 2
def State.sbrPos (s : State) : Nat := s.rd R.SBR_STATUS_POSITION 0
def State.sbrErr (s : State) : State :=
  s.err 0 (.plain 3 6 0 (scopeOf 7 0) (s.regVal 0 [] [R.SBR_EVENT_RETRY_FAIL, R.SBR_EVENT_HOP_FAIL, R.SBR_EVENT_CRC, R.SBR_EVENT_RELOCK]))

/-- A frame that is not the package's own goes on round the ring (R425). -/
def State.sbrForward (s : State) (kind src dest seq : Nat) (payload : List Byte) : State :=
  (s.bump R.SBR_FRAMES 0 [] 1).send (.side kind (sideHead kind src dest payload.length seq ++ payload))

/-- A frame arrives with its CRC good or bad: removed by its destination, or by its source when a broadcast comes back; all else is forwarded.
`f` is what its payload does here; a MGMT or ATTEST frame for this package is answered (R425). -/
def State.sbrFrame (s : State) (crcOk : Bool) (kind src dest seq : Nat) (payload : List Byte) (f : State → State) : State :=
  if !s.sbrUp then s
  else if !crcOk then ((s.bump R.SBR_CRC_ERR 0 [] 1).wr R.SBR_EVENT_CRC 0 [] 1).sbrErr
  else if dest = 255 then
    if src = s.sbrPos then { s with sideOut := s.sideOut.filter (fun (x : SideFrame) => x.seq != seq) }
    else f (s.sbrForward kind src dest seq payload)
  else if dest = s.sbrPos then (f s).send (.side 5 (sideHead 5 s.sbrPos src 0 seq))
  else s.sbrForward kind src dest seq payload

/-- MGMT: MCTP for Collar and Pack, an identity query, or a RESTORE request from the partner (R422, R424, R517). -/
def execMgmtFrame (crcOk : Bool) (dest src seq : Nat) (payload : List (BitVec 8)) (query restore same : Bool) (granules : Nat) (s : State) : Result :=
  within s (decide (dest < 256) && decide (src < 256)) (s.orWait (fun s => s.sbrFrame crcOk 2 src dest (seq % 2 ^ 16) payload (fun s =>
    if query then s.sideSend 2 src (leBytes 8 (s.rd R.LCS_SERIAL 0) ++ leBytes 1 (s.rd R.LCS_STATE_STATE 0))
    else if s.rd R.LCS_STATE_STATE 0 = 3 then s
    else if restore then s.knlServe same granules else s.send (.mgmt 0 2 src seq))))

/-- MGMT_ACK: the frame it answers needs no retry. -/
def execMgmtAck (crcOk : Bool) (dest src seq : Nat) (s : State) : Result :=
  within s (decide (dest < 256) && decide (src < 256)) (
    if !s.sbrUp then s
    else if !crcOk then ((s.bump R.SBR_CRC_ERR 0 [] 1).wr R.SBR_EVENT_CRC 0 [] 1).sbrErr
    else if dest = s.sbrPos then { s with sideOut := s.sideOut.filter (fun (x : SideFrame) => x.seq != seq % 2 ^ 16) }
    else s.sbrForward 5 src dest (seq % 2 ^ 16) [])

/-- No answer after 100 µs: sent again, up to 3 times, then RETRY_FAIL (R425). -/
def execSbrRetry (seq : Nat) (s : State) : Result :=
  within s true (match s.sideOut.find? (fun (x : SideFrame) => x.seq == seq) with
    | none => s
    | some x =>
      if x.tries < 3 then
        ({ s with sideOut := s.sideOut.map (fun (y : SideFrame) => if y.seq == seq then { y with tries := y.tries + 1 } else y) }).send
          (.side x.kind (sideHead x.kind s.sbrPos x.dest x.payload.length x.seq ++ x.payload))
      else (({ s with sideOut := s.sideOut.filter (fun (y : SideFrame) => y.seq != seq) }).wr R.SBR_EVENT_RETRY_FAIL 0 [] 1).sbrErr)

/-- The hop to the downstream neighbour has been measured, and goes to it in a TRAIN frame; or the measurement failed (R426). -/
def State.sbrHop (s : State) (ok : Bool) (hop : Nat) : State :=
  if ok then (s.wr R.SBR_HOP_DOWN 0 [] hop).send (.side 4 (leBytes 1 1 ++ leBytes 4 hop)) else (s.wr R.SBR_EVENT_HOP_FAIL 0 [] 1).sbrErr

/-- TRAIN: kind 0 carries the count that gives this package its position, and it measures its hop; back at the ring master the count is the number of
packages, which kind 2 then confirms to each; kind 1 is the upstream hop, this package's TCK_HOP_DELAY. -/
def execTrainFrame (kind value : Nat) (ok : Bool) (hop : Nat) (s : State) : Result :=
  within s true (
    if !s.sbrUp then s
    else if kind = 0 && decide (2 ≤ s.rd R.TCK_CTRL_SOURCE 0) && value != 0 then
      (s.wr R.SBR_STATUS_RING_SIZE 0 [] (value - 1)).send (.side 4 (leBytes 1 2 ++ leBytes 1 value))
    else if kind = 0 then
      let s := (s.wr R.SBR_STATUS_POSITION 0 [] value).send (.side 4 (leBytes 1 0 ++ leBytes 1 (value + 1)))
      s.sbrHop ok hop
    else if kind = 1 then s.wr R.TCK_HOP_DELAY 0 [] value
    else if 2 ≤ s.rd R.TCK_CTRL_SOURCE 0 then s
    else (s.wr R.SBR_STATUS_RING_SIZE 0 [] (value - 1)).send (.side 4 (leBytes 1 2 ++ leBytes 1 value)))

/-- The bypass closes: frames inside the package are lost (R427, R433). -/
def State.sbrBypass (s : State) : State := ({ s with sideOut := [] }).wr R.SBR_STATUS_STATE 0 [] 0
def execSbrLeave (s : State) : Result := within s true s.sbrBypass

/-- Collar's receiver has locked: the bypass opens, and hops are measured again, that upstream by the neighbour there (R427). -/
def execBypassOpen (ok : Bool) (hop : Nat) (s : State) : Result :=
  within s true (if s.sbrUp then s else (s.wrs 0 [] [(R.SBR_STATUS_STATE, 2), (R.SBR_EVENT_RELOCK, 1), (R.TCK_HOP_DELAY, 0)]).sbrHop ok hop)

/-- CLEAR_STATS of SBR (R433). -/
def execSbrClearStats (s : State) : Result := within s true (s.wrs 0 [] [(R.SBR_FRAMES, 0), (R.SBR_CRC_ERR, 0)])

end Sys2Proof.Machine
end

