-- ==== Sys2Proof/Machine/Partition.lean ====
section
/-! DEFINITION. Partitions and contexts (R467 to R485): reset, ZERO, contexts, cluster moves and the check of the PAR shadow, and the
reshaping of islands (R32). -/

namespace Sys2Proof.Machine

/-! ### Contexts (R477 to R480) -/

/-- Registers of HD0 from a byte offset return to their reset values, but for the keys kept. -/
def State.pageReset (s : State) (base size : Nat) (kept : Nat → Bool) : State :=
  let out (k : Nat) : Bool := decide (8 * base ≤ k) && decide (k < 8 * (base + size)) && !kept k
  { s with regs := SMap.keep (fun k => !out k) s.regs, shadow := SMap.keep (fun k => !out k) s.shadow }

/-- A context enters ENDING: its keys are wiped first (R505), its images are unregistered, its debt is cleared, and both halves of its address
space are invalidated (R480). -/
def State.ctxEnd (s : State) (p c : Nat) : State :=
  let k := 16 * p + c
  let s := { s with ctxs := SMap.del s.ctxs k, disclosed := s.disclosed.filter (· != k), indebted := s.indebted.filter (· != k), early := SMap.del s.early k }
  let s := s.wrs 0 [p, c] [(R.PAR_CTX_CFG_ENABLE, 0), (R.PAR_CTX_CFG_STATE, 3)]
  let s := (s.wr R.TCK_DEBT 0 [k] 0).wr R.SEC_DISCLOSE 0 [k] 0
  let s := { s with images := s.images.map (fun (i : Image) => if i.part == p && i.ctx == c then { i with live := false } else i) }
  (s.dropImages).invalidate p c 0 wholeSpace .reset

/-- The contexts of a partition that are not FREE and not ENDING. -/
def State.liveCtxs (s : State) (p : Nat) : List Nat := (List.range 16).filter (s.ctxLive p)

/-- A context is busy (R480): a ring bound to it is not IDLE, a unit of it is admitted, or a drain of it is in progress. -/
def State.ctxBusy (s : State) (p c : Nat) : Bool :=
  !(s.ringsOf p c).isEmpty || s.units.any (fun u => u.part == p && u.ctx == c) || s.invals.any (fun (v : Inval) => v.part == p && v.ctx == c)

/-- A write of PAR_CTX_CFG with ENABLE = 1. -/
def State.ctxEnable (s : State) (p c value : Nat) : State :=
  let off := R.PAR_CTX_CFG_ENABLE.offset [p, c]
  let st := s.rd R.PAR_CTX_CFG_STATE 0 [p, c]
  if st = 0 then
    let k := 16 * p + c
    let s := s.wrs 0 [p, c] [(R.PAR_CTX_CFG_ENABLE, 1), (R.PAR_CTX_CFG_CONFIDENTIAL, bits value 30 1), (R.PAR_CTX_CFG_STATE, 1)]
    let i : CtxInfo := { inst := s.tick, key := none, slots := [], weights := [] }
    (({ s with ctxs := SMap.ins s.ctxs k i }).wr R.SEC_DISCLOSE 0 [k] 0).wr R.TCK_DEBT 0 [k] 0
  else if st = 3 || bits value 30 1 != s.rd R.PAR_CTX_CFG_CONFIDENTIAL 0 [p, c] then s.cfgErr .PAR_P 0 [p, c] off
  else s

def execCtxEnable (part ctx value : Nat) (s : State) : Result :=
  within s (decide (part < 64) && decide (ctx < 16) && decide (value < 2 ^ 32)) (if bit value 31 then s.ctxEnable part ctx value else s)

/-- A write of PAR_CTX_CFG with ENABLE = 0. -/
def State.ctxDisable (s : State) (p c value : Nat) : State :=
  let off := R.PAR_CTX_CFG_ENABLE.offset [p, c]
  let bad := bits value 30 1 != s.rd R.PAR_CTX_CFG_CONFIDENTIAL 0 [p, c]
  if s.ctxLive p c then
    if s.ctxBusy p c then s.cfgErr .PAR_P 0 [p, c] off
    else
      let s := if bad then s.cfgErr .PAR_P 0 [p, c] off else s
      s.ctxEnd p c
  else if bad then s.cfgErr .PAR_P 0 [p, c] off else s

def execCtxDisable (part ctx value : Nat) (s : State) : Result :=
  within s (decide (part < 64) && decide (ctx < 16) && decide (value < 2 ^ 32)) (if bit value 31 then s else s.ctxDisable part ctx value)

/-! ### Partition reset and Function Level Reset (R452, R483) -/

/-- The units of a partition end without a record, its fetched descriptors and management commands are gone, and its torus commands complete
ABORTED without an entry (R224, R415). -/
def State.endPart (s : State) (p reason : Nat) : State :=
  let s := (s.endUnits (fun u => u.part == p) ⟨5, 0, reason⟩).muteUnits (fun u => u.part == p) 2
  let s := { s with eventsDue := s.eventsDue.filter (· != p), mgmtBad := SMap.del s.mgmtBad p, parked := s.parked.filter (fun (w : Parked) => w.part != p) }
  let s := { s with descs := s.descs.filter (fun (d : Desc) => d.part != p), mgmts := s.mgmts.filter (fun (m : Mgmt) => m.part != p) }
  let s := { (s.dropMisses (fun m => m.part == p)) with windows := SMap.keep (fun k => k / 17 != p) s.windows }
  let s := { s with doorbells := SMap.keep (fun k => k / 64 != p) s.doorbells, dbFails := SMap.del s.dbFails p, lead := SMap.del s.lead p }
  let s := { s with mgmtHead := SMap.del s.mgmtHead p, mgmtDone := SMap.del s.mgmtDone p, torHead := SMap.keep (fun k => k / 8 != p) s.torHead }
  s.torAbort p

/-- The partition's WRK, XLT, BAY and TOR pages return to their reset values, but for XLT_CTX_EPOCH (R452, R483). -/
def State.pagesReset (s : State) (p : Nat) : State :=
  let s := s.each ([0x02000000, 0x02800000, 0x02C00000] : List Nat) (fun s b => s.pageReset (b + p * 0x10000) 0x10000 (fun _ => false))
  s.pageReset (0x02400000 + p * 0x10000) 0x10000 (inFlds [R.XLT_CTX_EPOCH_DRAINS, R.XLT_CTX_EPOCH_EPOCH])

/-- A kernel unit or a Retriever unit is stopped and gone at once; a bay unit waits for its bay. -/
def State.dropUnit (s : State) (u : WUnit) : State :=
  match u.kind with
  | .bay => s
  | _ => (s.stopClusters u).finishUnit u

/-- A partition that a latched shadow disables (R224): its units and descriptors end without a record, its rings are IDLE, its generation rises and
its contexts' debt is cleared (R244). -/
def State.removePart (s : State) (p : Nat) : State :=
  let s := s.endPart p 5
  let s := s.each (s.units.filter (fun u => u.part == p)) State.dropUnit
  let s := s.each (allRings.filter (fun r => s.rState p r != 0)) (fun s r => (s.ringWr R.WRK_RING_STATE_IN_FLIGHT R.BAY_Q_STATE_IN_FLIGHT p r 0).ringIdle p r)
  (s.each (List.range 16) (fun s c => s.wr R.TCK_DEBT 0 [16 * p + c] 0)).raiseGen p

/-- RESET of a partition (R483). -/
def State.partReset (s : State) (p : Nat) : State :=
  if s.rdB R.PAR_STATUS_RESET_BUSY 0 [p] then s
  else
    let s := s.endPart p 5
    let s := s.each (s.units.filter (fun u => u.part == p)) State.dropUnit
    let s := s.raiseGen p
    let live := s.liveCtxs p
    let ending := (List.range 16).filter (fun c => s.rd R.PAR_CTX_CFG_STATE 0 [p, c] == 3)
    let s := s.each live (fun s c => s.ctxEnd p c)
    let s := s.pagesReset p
    let s := s.pageReset (0x03400100 + p * 0x10000) 0x100 (fun _ => false)
    let s := s.each (live ++ ending) (fun s c => s.wr R.PAR_CTX_CFG_STATE 0 [p, c] 3)
    let s := s.each ((List.range 64).filter (fun ch => s.chRd R.TOR_S_OWNER ch == p)) (fun s ch => s.wr R.TOR_S_CFG_ENABLE 0 [ch] 0)
    let s := s.each ((List.range 512).filter (fun c => (s.clu c).moveTo == some p)) (fun s c =>
      (s.setClu c { s.clu c with moveTo := none }).wr R.PAR_CLU_OWNER 0 [c] (match s.owner c with | some o => o | none => 0xFF))
    s.each (s.clustersOf p) State.scrubNow

def execParReset (part : Nat) (s : State) : Result := within s (decide (part < 64)) (s.partReset part)

/-- No request of the previous generation remains (R482). -/
def execResetBusyClear (part : Nat) (s : State) : Result :=
  within s (decide (part < 64)) (
    if s.rdB R.PAR_STATUS_RESET_BUSY 0 [part] && (s.oldGen part).isEmpty then s.wr R.PAR_STATUS_RESET_BUSY 0 [part] 0 else s)

/-- Step 5 of R311 at the first boundary after a generation has risen (R482). -/
def State.cutGen (s : State) (p : Nat) : State :=
  if s.rdB R.PAR_STATUS_RESET_BUSY 0 [p] then s.cutReqs (s.oldGen p) ⟨5, 0, 5⟩ false else s

/-! ### ZERO (R484, R485) -/

/-- The byte ranges ZERO covers: the quota and the image store. -/
def State.zeroRanges (s : State) (p : Nat) : List (Nat × Nat) :=
  (List.range 8).filterMap (fun k =>
    if s.rdB R.PAR_QUOTA_VALID 0 [p, k] then some (s.rd R.PAR_QUOTA_BASE 0 [p, k] * 2 ^ 26, s.rd R.PAR_QUOTA_SIZE 0 [p, k] * 2 ^ 26) else none)

/-- The writes of ZERO, whole granules of class BG from port 135; one that fails sets ZERO_FAIL. -/
def State.zeroRange (s : State) (p : Nat) (r : Nat × Nat) : State :=
  s.each (pieces r.1 r.2) (fun s x =>
    (s.post { Agent.mgmt p (s.partDie p) with wcls := 3 } (.zero p) x.1 (List.replicate x.2 0)).getD (s.putFailed (.zero p)))

def execParZero (part : Nat) (s : State) : Result :=
  within s (decide (part < 64)) (
    if s.rdB R.PAR_STATUS_ZERO_BUSY 0 [part] || (List.range 16).any (fun c => s.rd R.PAR_CTX_CFG_STATE 0 [part, c] != 0) then s
    else
      let s := (s.wr R.PAR_STATUS_ZERO_BUSY 0 [part] 1).wr R.PAR_STATUS_ZERO_FAIL 0 [part] 0
      if s.islUp (s.partIsland part) then s.each (s.zeroRanges part) (fun s r => s.zeroRange part r) else s.putFailed (.zero part))

/-- Every write of ZERO has been acknowledged or has failed. -/
def execParZeroDone (part : Nat) (s : State) : Result :=
  within s (decide (part < 64)) (
    if s.rdB R.PAR_STATUS_ZERO_BUSY 0 [part] && s.reqs.all (fun (r : Req) => r.owner != .post (.zero part)) then s.wr R.PAR_STATUS_ZERO_BUSY 0 [part] 0 else s)

/-! ### The check of the PAR shadow (R471) and cluster moves (R472 to R476) -/

def parFlds : List Fld :=
  [R.PAR_CFG_ENABLE, R.PAR_CFG_STRICT, R.PAR_CFG_ISLAND, R.PAR_CFG_IMG_STORE, R.PAR_QUOTA_VALID, R.PAR_QUOTA_SIZE, R.PAR_QUOTA_BASE, R.PAR_CLU_OWNER,
   R.PAR_CTX_SCHED]

/-- The dies a byte range lies on, by the region table; none if a byte of it is in no valid region. Region bases and sizes are multiples of
64 KiB at least, so granules of 64 KiB decide. -/
def State.rangeDies (s : State) (base len : Nat) : Option (List Nat) :=
  let rs := ((List.range 64).map s.region).filter (fun r => r.valid && decide (r.base < base + len) && decide (base < r.base + r.size))
  let inside := rs.foldl (fun n r => n + (min (base + len) (r.base + r.size) - max base r.base)) 0
  if inside < len then none
  else some ((List.range 4).filter (fun d => rs.any (fun r => r.mode == 0 || (r.mode == 1 && r.target == d) || (r.mode == 2 && r.target / 4 == d))))

def State.shEnabled (s : State) (p : Nat) : Bool := s.rdShadow R.PAR_CFG_ENABLE 0 [p] == 1
def State.shIsland (s : State) (p : Nat) : Nat := s.rdShadow R.PAR_CFG_ISLAND 0 [p]
/-- The valid quota ranges of the shadow, in 64 MiB units. -/
def State.shQuota (s : State) (p : Nat) : List (Nat × Nat) :=
  (List.range 8).filterMap (fun k =>
    if s.rdShadow R.PAR_QUOTA_VALID 0 [p, k] = 1 then some (s.rdShadow R.PAR_QUOTA_BASE 0 [p, k], s.rdShadow R.PAR_QUOTA_SIZE 0 [p, k]) else none)

/-- Memory whose release still drains (R476): by partition, ranges in 64 MiB units. -/
def State.drainingOf (s : State) (other : Nat) : List (Nat × Nat) :=
  (s.released.filter (fun x => x.1 != other)).map (·.2)

/-- The lowest-numbered reason the shadow fails for: reason, partition, cluster. -/
def State.parFail (s : State) : Option (Nat × Nat × Nat) :=
  let own (c : Nat) : Nat := s.rdShadow R.PAR_CLU_OWNER 0 [c]
  let ps := (List.range 64).filter s.shEnabled
  match (List.range 512).find? (fun c => own c != 0xFF && (decide (63 < own c) || !s.shEnabled (own c))) with
  | some c => some (1, if own c < 64 then own c else 0, c)
  | none =>
  match (List.range 512).find? (fun c => decide (own c < 64) && s.island (cluDie c) != s.shIsland (own c)) with
  | some c => some (2, own c, c)
  | none =>
  let badRange (p : Nat) (r : Nat × Nat) : Bool :=
    r.2 == 0 || decide (12288 < r.2) || decide (2 ^ 18 < r.1 + r.2) || (match s.rangeDies (r.1 * 2 ^ 26) (r.2 * 2 ^ 26) with
      | none => true
      | some ds => ds.any (fun d => s.island d != s.shIsland p))
  match ps.find? (fun p => (s.shQuota p).any (badRange p)) with
  | some p => some (3, p, 0)
  | none =>
  let meets (a b : Nat × Nat) : Bool := decide (a.1 < b.1 + b.2) && decide (b.1 < a.1 + a.2)
  match ps.find? (fun p => (s.shQuota p).any (fun r =>
      (ps.filter (· != p)).any (fun o => (s.shQuota o).any (meets r)) || (s.drainingOf p).any (meets r))) with
  | some p => some (4, p, 0)
  | none =>
  match ps.find? (fun p => s.rdShadow R.PAR_QUOTA_VALID 0 [p, 0] != 1 || s.rdShadow R.PAR_CFG_IMG_STORE 0 [p] == 0 ||
      decide (s.rdShadow R.PAR_QUOTA_SIZE 0 [p, 0] < s.rdShadow R.PAR_CFG_IMG_STORE 0 [p])) with
  | some p => some (5, p, 0)
  | none =>
  match ps.find? (fun p => s.rdShadow R.PAR_CFG_STRICT 0 [p] == 1 && (s.islDies (s.shIsland p)).any (fun d =>
      let w := s.rdShadow R.STC_PART_WAYS_WAYS d [p]
      w == 0 || (ps.filter (· != p)).any (fun o => s.rdShadow R.STC_PART_WAYS_WAYS d [o] &&& w != 0))) with
  | some p => some (6, p, 0)
  | none =>
  match ps.find? (fun p => (s.islDies (s.shIsland p)).isEmpty) with
  | some p => some (7, p, 0)
  | none => none

/-- The clusters a partition owns. -/
def State.countClu (s : State) (p : Nat) : State :=
  let n := (s.clustersOf p).length
  if s.rd R.PAR_STATUS_CLUSTERS 0 [p] = n then s else s.wr R.PAR_STATUS_CLUSTERS 0 [p] n

/-- STRICT of the cluster port follows its partition's (R287, R473). -/
def State.portOwner (s : State) (c : Nat) (o : Nat) : State :=
  let d := cluDie c
  let s := s.wrClu R.CLU_STATUS_PARTITION c (if o < 64 then o else 0)
  let s := s.wr R.LSH_M_CFG_PARTITION d [c % 128] o
  s.wr R.LSH_M_CFG_STRICT d [c % 128] (if o < 64 then s.rd R.PAR_CFG_STRICT 0 [o] else 0)

/-- A waiting move takes place at a boundary at which its cluster is idle (R472, R473). -/
def State.tryMove (s : State) (c : Nat) : State :=
  match (s.clu c).moveTo with
  | none => s
  | some o =>
    let st := s.rdClu R.CLU_STATUS_STATE c
    if (st == 0 || st == 6) && (s.clu c).unit.isNone then
      (s.setClu c { s.clu c with moveTo := none, lastCtx := none }).portOwner c o
    else s

def State.moveAll (s : State) : State :=
  let s := s.each (List.range 512) State.tryMove
  let s := s.each (List.range 64) State.countClu
  let n := ((List.range 512).filter (fun c => (s.clu c).moveTo.isSome)).length
  if s.rd R.PAR_CHECK_MOVES_PENDING 0 = n then s else s.wr R.PAR_CHECK_MOVES_PENDING 0 [] n

/-- A shadow that passes latches: owner changes become moves, memory taken from a quota, its image store growing too, drains (R472 to R476). -/
def State.latchPar (s : State) : State :=
  let whole (s : State) (p : Nat) : List (Nat × Nat) := if s.rdB R.PAR_CFG_ENABLE 0 [p] then s.zeroRanges p else []
  let before := (List.range 64).map (fun p => (p, whole s p, s.quotaRanges p))
  let gone := (List.range 64).filter (fun p => s.rdB R.PAR_CFG_ENABLE 0 [p] && !s.shEnabled p)
  let s := (s.latchKeys (inFlds parFlds)).each gone State.removePart
  let s := s.each (List.range 512) (fun s c =>
    let o := s.rd R.PAR_CLU_OWNER 0 [c]
    let cur := s.rd R.LSH_M_CFG_PARTITION (cluDie c) [c % 128]
    let want := if o = cur then none else some o
    if (s.clu c).moveTo = want then s else s.setClu c { s.clu c with moveTo := want })
  let s := s.each (List.range 512) (fun s c =>
    let o := s.rd R.LSH_M_CFG_PARTITION (cluDie c) [c % 128]
    let v := if o < 64 then s.rd R.PAR_CFG_STRICT 0 [o] else 0
    if s.rd R.LSH_M_CFG_STRICT (cluDie c) [c % 128] = v then s else s.wr R.LSH_M_CFG_STRICT (cluDie c) [c % 128] v)
  s.each before (fun (s : State) (x : Nat × List (Nat × Nat) × List (Nat × Nat)) =>
    let gone := rangesLess x.2.1 (whole s x.1) ++ rangesLess x.2.2 (s.quotaRanges x.1)
    if gone.isEmpty then s
    else
      let s := { s with released := s.released ++ gone.map (fun (r : Nat × Nat) => (x.1, r.1 / 2 ^ 26, r.2 / 2 ^ 26)) }
      let s := s.wr R.PAR_STATUS_DRAINING 0 [x.1] 1
      (s.each (s.liveCtxs x.1) (fun s c => s.invalidate x.1 c 0 (2 ^ 47) .quota)).drainOver)

/-- The check before step 1, which works on the region table and HUB_ISLAND as the boundary leaves them (R471, R579). -/
def State.checkPar (s : State) : State :=
  if !s.wrotePar then s
  else
    let s := { s with wrotePar := false }
    match s.parFail with
    | none => s.latchPar
    | some (k, p, c) =>
      let s := s.wrs 0 [] [(R.PAR_CHECK_REJECT, 1), (R.PAR_CHECK_REASON, k), (R.PAR_CHECK_PARTITION, p), (R.PAR_CHECK_CLUSTER, c)]
      s.err 0 { (Err.plain 5 3 0 (scopeOf 7 0) (s.regVal 0 [] [R.PAR_CHECK_REJECT, R.PAR_CHECK_REASON, R.PAR_CHECK_PARTITION, R.PAR_CHECK_CLUSTER, R.PAR_CHECK_MOVES_PENDING])) with part := recPart p }

/-! ### HUB_ISLAND (R31, R32) -/

/-- Whether every island of an assignment is contiguous on the ring. -/
def shapeOk (isl : Nat → Nat) : Bool :=
  (List.range 4).all (fun d => isl d != isl ((d + 2) % 4) || isl d == isl ((d + 1) % 4) || isl d == isl ((d + 3) % 4))

/-- The dies an enabled partition's clusters and quota stand on. -/
def State.partDies (s : State) (p : Nat) : List Nat :=
  let cs := (s.clustersOf p).map cluDie
  let qs := (s.zeroRanges p).flatMap (fun r => (s.rangeDies r.1 r.2).getD [])
  (List.range 4).filter (fun d => cs.contains d || qs.contains d)

/-- A write of HUB_ISLAND (R31, R32): dropped while busy, for a shape that R31 does not list, or where it would split a partition. Islands of the new
shape that hold a die of a DOWN one start DOWN, and their bays are in Heel until REINIT. -/
def execHubIslandWrite (value : Nat) (s : State) : Result :=
  within s (decide (value < 2 ^ 32)) (
    let isl (d : Nat) : Nat := bits value (2 * d) 2
    let same := (List.range 4).all (fun d => isl d == s.island d)
    let busy := !s.units.isEmpty || !s.dirs.isEmpty || (List.range 4).any (fun i => s.rd R.COH_ISL_STATE_STATE 0 [i] == 2)
    let spans := (List.range 64).any (fun p => s.rdB R.PAR_CFG_ENABLE 0 [p] && (match s.partDies p with
      | [] => false
      | d :: ds => ds.any (fun e => isl e != isl d)))
    if same then s
    else if busy || !shapeOk isl || spans then s.cfgErr .HUB 0 [] (R.HUB_ISLAND_HD0_ISL.offset [])
    else
      let down (d : Nat) : Bool := s.rd R.COH_ISL_STATE_STATE 0 [s.island d] == 1
      let causes := (List.range 4).map (fun i =>
        ((List.range 4).find? (fun d => isl d == i && down d)).map (fun d => s.rd R.COH_ISL_STATE_CAUSE 0 [s.island d]))
      let s := s.wrs 0 [] [(R.HUB_ISLAND_HD0_ISL, isl 0), (R.HUB_ISLAND_HD1_ISL, isl 1), (R.HUB_ISLAND_HD2_ISL, isl 2), (R.HUB_ISLAND_HD3_ISL, isl 3)]
      let s := s.each (List.range 4) (fun s i => match causes.getD i none with
        | some c => s.wrs 0 [i] [(R.COH_ISL_STATE_STATE, 1), (R.COH_ISL_STATE_CAUSE, c)]
        | none => s.wrs 0 [i] [(R.COH_ISL_STATE_STATE, 0), (R.COH_ISL_STATE_CAUSE, 0)])
      s.each ((List.range 8).filter (fun b => s.islDown (s.island (b / 2)) && ([1, 2, 3] : List Nat).contains (s.bayRd R.BAY_STATUS_STATE b)))
        (fun s b => s.heelBay b 8 false))

end Sys2Proof.Machine
end

