-- ==== Sys2Proof/Machine/Host.lean ====
section
/-! DEFINITION. The PCIe endpoint (R434 to R466): completions and their failures, Heel, functions and their resets, BAR2, the expansion ROM and
the resource directory, configuration requests, interrupts and power states. -/

namespace Sys2Proof.Machine

/-! ### Configuration space (R434, R436; log entry 27) -/

/-- Reset values of the keys that PCIe does not reset to 0: Device Control, the AER severity and correctable mask, the Resizable BAR at 64 GiB. -/
def cfgDefault (k : Nat) : Nat := ([(2, 0x2010), (6, 0x462030), (8, 0xE000), (12, 0x1000)].find? (fun x => x.1 == k)).elim 0 (·.2)
def State.cfgGet (s : State) (fn k : Nat) : Nat := SMap.get (cfgDefault k) s.config (4096 * fn + k)
def State.cfgSet (s : State) (fn k v : Nat) : State := { s with config := SMap.ins s.config (4096 * fn + k) v }

/-- PF0 exists; VF n while VF Enable is set and NumVFs ≥ n (R436). -/
def State.fnExists (s : State) (fn : Nat) : Bool := fn == 0 || (s.vfEnable && decide (fn ≤ s.numVfs))

/-! ### Heel on the host port (R449, R454 to R458) -/

def State.heelStatus (s : State) : Nat := s.regVal 0 [] [R.HEL_HOST_STATUS_ACTIVE, R.HEL_HOST_STATUS_REFUSED, R.HEL_HOST_STATUS_CAUSE]

/-- A second uncorrectable error in Heel takes HD0's island down, unless it is down already (R549). -/
def State.hostEscalate (s : State) : State :=
  let i := s.island 0
  if s.rd R.COH_ISL_STATE_STATE 0 [i] = 1 then s
  else
    let e : Err := { (Err.plain 4 1 2 (scopeOf 5 0) s.heelStatus) with escalated := true }
    (s.err 0 e).takeDown i 7 136 0 0

/-- An uncorrectable AER error of a function: its status bit, and its message unless masked. -/
def State.aerSet (s : State) (fn b : Nat) : State :=
  let s := s.cfgSet fn 4 (s.cfgGet fn 4 ||| 2 ^ b)
  if bit (s.cfgGet fn 5) b then s else s.send (.hostMsg 5 fn (if bit (s.cfgGet fn 6) b then 2 else 1))
def State.aer (s : State) (fn b : Nat) : State := if s.heel then (s.aerSet fn b).hostEscalate else s.aerSet fn b
/-- An advisory non-fatal error: correctable status bit 13. -/
def State.aerAdvisory (s : State) (fn : Nat) : State :=
  let s := s.cfgSet fn 7 (s.cfgGet fn 7 ||| 2 ^ 13)
  if bit (s.cfgGet fn 8) 13 then s else s.send (.hostMsg 5 fn 0)

/-- A read's request fails with what has arrived: status 4 for UR and CA, else 5 (R316, R447). -/
def State.failRead (s : State) (h : HostRead) (status : Nat) : State := s.answer h.tag 0 status h.got
def State.setRead (s : State) (tag st : Nat) : State :=
  { s with hreads := s.hreads.map (fun (h : HostRead) => if h.tag == tag then { h with state := st } else h) }

/-- The Sheepdog's reads on PCIe: of doorbell blocks and words, of descriptors and of management commands. -/
def State.dbReads (s : State) : List Nat := (List.range (64 * 17)).filter (fun k => s.window (k / 17) (k % 17) == 1 && s.dbHost (k / 17) (k % 17))
def State.descReads (s : State) : List Desc := s.descs.filter (fun (d : Desc) => !d.read? && (!s.rLoc d.part d.ring || isHost (s.rBase d.part d.ring)))
def State.mgmtReads (s : State) : List Mgmt :=
  s.mgmts.filter (fun (m : Mgmt) => !m.read && m.answer.isNone && (!s.rdB R.WRK_MGMT_LO_LOC 0 [m.part] || bit (s.rd R.WRK_MGMT_HI 0 [m.part]) 15))

/-- The tags of PCIe that are held, those that wait under R450 among them (R435, R463). -/
def State.tagsOut (s : State) : Nat := s.hreads.length + s.atsOut + s.dbReads.length + s.descReads.length + s.mgmtReads.length

/-- Every outstanding read fails (R449, R455, R456): tiles' reads, doorbell, descriptor and management reads, and host-half translations.
HEL_FAILED counts each tile read, doorbell read, descriptor and command. -/
def State.failReads (s : State) : State :=
  let rs := s.hreads.filter (fun (h : HostRead) => h.state == 0)
  let dbs := s.dbReads
  let ds := s.descReads
  let ms := s.mgmtReads
  let s := s.wr R.HEL_FAILED 0 [] (rs.length + dbs.length + ds.length + ms.length)
  let s := s.each rs (fun s h => (s.failRead h 5).setRead h.tag 2)
  let s := { s with misses := s.misses.filterMap (fun (m : Miss) => match m.stage with
      | .queued | .ats | .prg | .againQueued | .again => if m.orphan then none else some { m with stage := .failed 7 }
      | _ => some m) }
  let s := s.each dbs (fun s k => s.dbFail (k / 17) (k % 17))
  let s := s.each (ds.map (fun d => (d.part, d.ring))).dedup (fun s x => s.descReturn x.1 x.2 false [])
  s.each (ms.map (·.part)).dedup (fun s p => s.descReturn p 80 false [])

/-- HEEL is shown on every function. -/
def State.heelFlag (s : State) (v : Nat) : State :=
  let s := (s.wr R.HEL_HOST_STATUS_ACTIVE 0 [] v).wr R.PCI_STATUS_HEEL 0 [] v
  s.each (List.range 64) (fun s n => s.wr R.PCI_VF_STATUS_HEEL 0 [n] v)

/-- The host port enters Heel with a cause bit of R466, or meets it there: a protocol error or a link that goes down is then a second error, a link
that is down already is not (R458). -/
def State.hostHeel (s : State) (cause : Nat) (second : Bool) : State :=
  let was := s.heel
  let s := s.wr R.HEL_HOST_STATUS_CAUSE 0 [] (s.rd R.HEL_HOST_STATUS_CAUSE 0 ||| 2 ^ cause)
  if was then (if second then s.hostEscalate else s)
  else
    let s := (s.heelFlag 1).wr R.HEL_ENTRY_TICK 0 [] s.tick
    let s := s.err 0 (.plain 4 1 1 (scopeOf 5 0) s.heelStatus)
    s.failReads

/-- FORCE. -/
def execHelForce (s : State) : Result := within s true (s.hostHeel 4 false)

/-- Malformed TLP, Data Link or Flow Control Protocol Error, or a flit error not recovered: the AER status bit PCIe gives it, in PF0. -/
def execHostLinkError (aerBit : Nat) (s : State) : Result := within s (decide (aerBit < 32)) ((s.aerSet 0 aerBit).hostHeel 3 true)

/-- The link is lost: SPEED, WIDTH and FLIT read 0. -/
def State.linkOff (s : State) : State := s.wrs 0 [] [(R.PCI_STATUS_SPEED, 0), (R.PCI_STATUS_WIDTH, 0), (R.PCI_STATUS_FLIT, 0), (R.PCI_STATUS_LPOWER, 0)]

/-- DL_Down or Surprise Down; one that a reset causes is no second error and no surprise (R449, R549). -/
def execLinkDown (byReset : Bool) (s : State) : Result :=
  within s true (
    let up := s.rd R.PCI_STATUS_SPEED 0 != 0
    let s := if byReset then s else s.aerSet 0 5
    s.linkOff.hostHeel 0 (up && !byReset))

/-- RELEASE (R457): accepted once CAUSE is clear, the link is up and no function holds an unmasked uncorrectable status bit. -/
def State.helRelease (s : State) : State :=
  if !s.heel then s
  else if s.rd R.HEL_HOST_STATUS_CAUSE 0 != 0 || s.rd R.PCI_STATUS_SPEED 0 == 0 ||
      (List.range 65).any (fun fn => ((List.range 32).any (fun b => bit (s.cfgGet fn 4) b && !bit (s.cfgGet fn 5) b))) then
    s.wr R.HEL_HOST_STATUS_REFUSED 0 [] 1
  else
    let ws := s.heldWrites
    let vs := s.heldMsix
    let s := (({ s with heldWrites := [], heldMsix := [] }).heelFlag 0).wr R.HEL_HELD 0 [] 0
    let s := s.each ws (fun s w => match w with
      | .hostWrite ro fn a bs => s.hostWrite fn a bs ro
      | w => s.send w)
    let s := s.each vs (fun s k => s.msix (k / 64) (k % 64))
    let s := s.each (s.errs.filter (fun (r : ErrRec) => !r.wait)) State.mirror
    s.pumpAts.unpark

def execHelRelease (s : State) : Result := within s true s.helRelease

/-! ### Completions (R447 to R450) -/

/-- A completion of a read whose timeout was reported, or that a drain cut off (R311): counted each time, recorded at most once per ms and function. -/
def State.lateCpl (s : State) (fn : Nat) : State :=
  let s := (s.bump R.PCI_LATE 0 [] 1).aerAdvisory fn
  let last := SMap.get 0 s.host.lateAt fn
  if last ≠ 0 ∧ s.now + 1 < last + 10 ^ 6 then s
  else
    let s := { s with host := { s.host with lateAt := SMap.ins s.host.lateAt fn (s.now + 1) } }
    s.err 0 { (Err.plain 4 2 0 (scopeOf 5 0) (s.regVal 0 [fn] [R.PCI_FN_STATE_FLR_BUSY, R.PCI_FN_STATE_BME, R.PCI_FN_STATE_FGEN])) with part := if fn = 0 then 255 else fn - 1 }

/-- A completion: `status` 0 successful, 1 UR, 4 CA; `ep` its EP bit. A tag whose bytes have all arrived is free again. -/
def State.hostCpl (s : State) (tag status : Nat) (ep : Bool) (data : List Byte) : State :=
  match s.hreads.find? (fun (h : HostRead) => h.tag == tag) with
  | none => if s.heel then s.bump R.HEL_DISCARDED 0 [] 1 else (s.bump R.PCI_UNEXPECTED 0 [] 1).aerAdvisory 0
  | some h =>
    let got := if status = 0 then h.got ++ data.take (h.len - h.got.length) else h.got
    let h' := { h with got := got }
    let whole := got.length == h.len
    let s1 := { s with hreads := if whole then s.hreads.filter (fun (x : HostRead) => x.tag != tag) else s.hreads.map (fun (x : HostRead) => if x.tag == tag then h' else x) }
    if h.state = 1 then s1.lateCpl h.fn
    else if s.heel then s1.bump R.HEL_DISCARDED 0 [] 1
    else if h.state = 3 then s1.lateCpl h.fn
    else if h.fgen != s.rd R.PCI_FN_STATE_FGEN 0 [h.fn] then s1.bump R.PCI_DISCARDS 0 [] 1
    else if h.state != 0 then s1
    else if ep then (s.aerSet h.fn 12).hostHeel 2 false
    else if status != 0 then (s.failRead h 4).setRead tag 2
    else
      let s1 := s1.bump R.PCI_RD_BYTES 0 [] (got.length - h.got.length)
      if whole then s1.answer tag 0 0 got else s1

def execHostCompletion (tag status : Nat) (ep : Bool) (data : List (BitVec 8)) (s : State) : Result := within s true (s.hostCpl tag status ep data)

/-- The completion timeout in ns of each Completion Timeout Value (R448). -/
def cplTimeout (v : Nat) : Nat :=
  (([(1, 80), (2, 8000), (5, 40000), (6, 160000), (9, 700000), (10, 2800000), (13, 10000000), (14, 50000000)].find? (fun x => x.1 == v)).elim 40000 (·.2)) * 1000
/-- A function's: Device Control 2 bits [3:0], configuration key 13 (log entry 27). -/
def State.cplTimeout (s : State) (fn : Nat) : Nat := Sys2Proof.Machine.cplTimeout (s.cfgGet fn 13 % 16)
/-- So much time has passed since a read's issue, `dt` ns after the last boundary. -/
def State.waitedFor (s : State) (h : HostRead) (t dt : Nat) : Bool := decide (h.issued + t ≤ s.now + dt)

/-- A completion timeout (R448, R449): nothing for a read of an older generation. -/
def execHostCompletionTimeout (tag dt : Nat) (s : State) : Result :=
  within s true (match s.hreads.find? (fun (h : HostRead) => h.tag == tag && h.state == 0) with
    | none => s
    | some h =>
      if !s.waitedFor h (s.cplTimeout h.fn) dt then s
      else if h.fgen != s.rd R.PCI_FN_STATE_FGEN 0 [h.fn] then s
      else ((s.aer h.fn 14).hostHeel 1 false).setRead tag 1)

/-- Twice the function's timeout has passed since the read was issued (R450). -/
def execTagReuse (tag dt : Nat) (s : State) : Result :=
  within s true ({ s with hreads := s.hreads.filter (fun (h : HostRead) => !(h.tag == tag && s.waitedFor h (2 * s.cplTimeout h.fn) dt && (h.state != 0 || h.fgen != s.rd R.PCI_FN_STATE_FGEN 0 [h.fn]))) })

/-! ### Bus Master Enable and Function Level Reset (R451 to R453) -/

/-- The partitions a function serves (R436). -/
def State.partsOfFn (s : State) (fn : Nat) : List Nat := (List.range 64).filter (fun p => s.fnOf p == fn)

/-- A function's generation rises: what its outstanding reads bring is discarded, and their requests end. -/
def State.fgenUp (s : State) (fn : Nat) : State :=
  let rs := s.hreads.filter (fun (h : HostRead) => h.fn == fn && h.state == 0 && h.fgen == s.rd R.PCI_FN_STATE_FGEN 0 [fn])
  let s := s.roll R.PCI_FN_STATE_FGEN 0 [fn] 1
  let s := if fn = 0 then s else s.roll R.PCI_VF_STATUS_FGEN 0 [fn - 1] 1
  s.each rs (fun s h => s.failRead h 5)

/-- What a function that stops issuing does to its partitions (R224, R415, R451): units and descriptors end ABORTED, reason 0x01, with records only
to rings in device memory, the rings stop, and torus commands complete ABORTED. -/
def State.partQuiet (s : State) (p : Nat) : State :=
  let s := s.endUnits (fun u => u.part == p) ⟨5, 0, 1⟩
  let s := s.muteUnits (fun u => u.part == p && !s.rLoc p u.ring) 1
  let rs := allRings.filter (fun r => s.rState p r != 0)
  let s := s.each rs (fun s r => s.endDescs p r 5 1 (s.rLoc p r))
  let s := s.each rs (fun s r => if s.rState p r = 4 then s else s.setRing p r 3 4)
  s.torQuiet p

/-- Bus Master Enable of a function is cleared. -/
def State.bmeClear (s : State) (fn : Nat) : State :=
  let s := (s.wr R.PCI_FN_STATE_BME 0 [fn] 0).fgenUp fn
  s.each (s.partsOfFn fn) State.partQuiet

def execBmeClear (fn : Nat) (s : State) : Result := within s (decide (fn < 65)) (if s.rdB R.PCI_FN_STATE_BME 0 [fn] then s.bmeClear fn else s)

/-- What a Function Level Reset does to a partition (R452, steps 2 to 5). -/
def State.partFlr (s : State) (p : Nat) : State :=
  let s := s.endPart p 2
  let live := s.liveCtxs p
  let ending := (List.range 16).filter (fun c => s.rd R.PAR_CTX_CFG_STATE 0 [p, c] == 3)
  let s := s.each live (fun s c => s.ctxEnd p c)
  let s := s.each (s.clustersOf p) (fun s c => s.setClu c { s.clu c with lastCtx := none })
  let s := s.pagesReset p
  s.each (live ++ ending) (fun s c => s.wr R.PAR_CTX_CFG_STATE 0 [p, c] 3)

/-- A function's own registers and configuration space return to their reset values; its generation and the views of READY and Heel stay. -/
def State.fnReset (s : State) (fn : Nat) : State :=
  let s := { s with config := SMap.keep (fun k => k / 4096 != fn) s.config }
  let s := s.wr R.PCI_FN_STATE_BME 0 [fn] 0
  if fn = 0 then
    (s.pageReset 0x00648000 0x1008 (fun _ => false)).wr R.PCI_BAR2_BASE_BASE 0 [] 0
  else s.pageReset (0x03000000 + (fn - 1) * 0x10000) 0x10000 (inFlds [R.PCI_VF_STATUS_READY, R.PCI_VF_STATUS_HEEL, R.PCI_VF_STATUS_FGEN])

/-- An FLR of VF n and of its partition. -/
def State.flrOf (s : State) (fn : Nat) : State :=
  let s := (s.fgenUp fn).fnReset fn
  s.partFlr (fn - 1)

def execFlr (fn : Nat) (s : State) : Result :=
  within s (decide (1 ≤ fn) && decide (fn < 65)) (if s.fnExists fn then (s.flrOf fn).wr R.PCI_FN_STATE_FLR_BUSY 0 [fn] 1 else s)

def execFlrDone (fn : Nat) (s : State) : Result := within s (decide (fn < 65)) (s.wr R.PCI_FN_STATE_FLR_BUSY 0 [fn] 0)

/-- The VFs that cease to exist are reset; their partitions then take PF0 as their function (R453). -/
def State.dropVfs (s : State) (on : Bool) (n : Nat) : State :=
  let gone := (List.range 64).filter (fun k => s.fnExists (k + 1) && !(on && decide (k + 1 ≤ n)))
  let s := s.each gone (fun s k => s.flrOf (k + 1))
  { s with vfEnable := on, numVfs := n }

def execVfDisable (enable : Bool) (n : Nat) (s : State) : Result :=
  within s (decide (n < 65)) (if s.vfEnable && (!enable || decide (n ≤ s.numVfs)) then s.dropVfs enable n else s)

/-- A Function Level Reset of PF0. -/
def State.flrPf0 (s : State) : State :=
  let ps := s.partsOfFn 0
  let s := s.dropVfs false 0
  let s := (s.fgenUp 0).fnReset 0
  s.each ps State.partFlr

def execPf0Flr (s : State) : Result := within s true (s.flrPf0.wr R.PCI_FN_STATE_FLR_BUSY 0 [0] 1)

/-- PERST#, a Hot Reset and Link Disable: an FLR of PF0, and what Heel holds is discarded; the link has to train again (R453). -/
def State.hostReset (s : State) : State :=
  let s := s.flrPf0
  ((({ s with heldWrites := [], heldMsix := [] }).wr R.HEL_HELD 0 [] 0).linkOff)

def execPerst (s : State) : Result := within s true s.hostReset
/-- A Hot Reset, or Link Disable. -/
def execHotReset (s : State) : Result := within s true s.hostReset

/-- The link trains, PERST# being deasserted: speed code, width and flit mode. WAKE# is released (R434, R460, R462). In END_OF_LIFE PCIe stays in
reset (R517). -/
def execPcieLinkTrain (speed width : Nat) (flit : Bool) (s : State) : Result :=
  within s (decide (1 ≤ speed) && decide (speed < 7) && decide (1 ≤ width) && decide (width < 17)) (
    if s.rd R.LCS_STATE_STATE 0 = 3 then s
    else
      let s := { s with host := { s.host with wakeLow := false } }
      s.wrs 0 [] [(R.PCI_STATUS_SPEED, speed), (R.PCI_STATUS_WIDTH, width), (R.PCI_STATUS_FLIT, if flit || speed == 6 then 1 else 0), (R.PCI_STATUS_LPOWER, 0)])

/-! ### BAR2 (R439 to R442, R455) -/

/-- The size of PF0 BAR2: Resizable BAR Control bits [13:8], 2^(20 + n) bytes. -/
def State.bar2Size (s : State) : Nat := 2 ^ (20 + bits (s.cfgGet 0 12) 8 6)

/-- BAR2 answers nothing: Heel, or D2 and below (R455, R459). -/
def State.barShut (s : State) : Bool := s.heel || (decide (2 ≤ s.rd R.PCI_STATUS_DSTATE 0) && !s.rdB R.PCI_STATUS_D2_DEFERRED 0)

/-- An access through BAR2 into a partition's quota touches its confidential contexts (R439, R510). -/
def State.bar2Touch (s : State) (dpa len : Nat) : State :=
  s.each ((List.range 64).filter (fun p => (s.quotaRanges p).any (fun r => overlaps r.1 r.2 dpa len))) (fun s p =>
    s.each (s.liveCtxs p) (fun s c => s.touchCtx p c))

/-- A VF's aperture, and where an access through it reaches (R440). -/
def State.apt (s : State) (fn : Nat) : Virt := .apt (fn - 1) (s.rd R.PCI_VF_APT_CONTEXT 0 [fn - 1])
def State.aptVa (s : State) (fn off : Nat) : Nat := s.rd R.PCI_VF_APT_APT_BASE 0 [fn - 1] * 2 ^ 30 + off

/-- A read through the aperture, page by page: each translated for the context, its faults recorded (R317), then sent from the endpoint's master
port (R440). -/
def State.aperture (s : State) (a : Virt) (va len : Nat) : Option (List Byte) × State :=
  match s.virtReadH a va len [] with
  | (.ok bs, s) => (some bs, s)
  | (.fault v k, s) => (none, s.xltFault a.part a.ctx v k)
  | (_, s) => (none, s)

/-- Whether a byte range meets an image store, which no BAR access reaches (R469). -/
def State.inStore (s : State) (dpa len : Nat) : Bool :=
  (List.range 64).any (fun p => s.rdB R.PAR_CFG_ENABLE 0 [p] && overlaps (s.storeRange p).1 (s.storeRange p).2 dpa len)

/-- Where PF0's BAR2 leads (R439). -/
def State.bar2Dpa (s : State) (off : Nat) : Nat := s.rd R.PCI_BAR2_BASE_BASE 0 * 2 ^ 30 + off

/-- Whether an access hits the function's BAR2 at all. -/
def State.inBar2 (s : State) (fn off len : Nat) : Bool := s.fnExists fn && decide (off + len ≤ (if fn = 0 then s.bar2Size else 2 ^ 30))

/-- An access goes nowhere: the window shut, its size not taken, an image store, or the aperture off (R439 to R441, R455, R459, R469). -/
def State.bar2Off (s : State) (fn off len : Nat) : Bool :=
  s.barShut || !(decide (1 ≤ len) && decide (len ≤ 1024)) ||
    (if fn = 0 then s.inStore (s.bar2Dpa off) len else !s.rdB R.PCI_VF_APT_ENABLE 0 [fn - 1])

/-- A read through BAR2: none if it fails. -/
def State.bar2Get (s : State) (fn off len : Nat) : Option (List Byte) × State :=
  if s.bar2Off fn off len then (none, s)
  else if fn = 0 then
    let r := (s.bar2Touch (s.bar2Dpa off) len).physRead .pcie (s.bar2Dpa off) len
    (match r.1 with | .ok bs => some bs | _ => none, r.2)
  else s.aperture (s.apt fn) (s.aptVa fn off) len

/-- A write through BAR2 is posted; one known to fail is discarded and counted, one that fails later as it fails (R441, R442). -/
def State.bar2Put (s : State) (fn off : Nat) (bs : List Byte) : State :=
  if s.bar2Off fn off bs.length then s.bar2Fail fn
  else
    let b : PostBy := .bar fn (s.nextId + 1)
    let s := { s with nextId := s.nextId + 1 }
    if fn = 0 then ((s.bar2Touch (s.bar2Dpa off) bs.length).post .pcie b (s.bar2Dpa off) bs).getD ((s.bar2Touch (s.bar2Dpa off) bs.length).putFailed b)
    else
      let r := s.virtPost (s.apt fn) (s.aptVa fn off) bs b
      if r.2 then r.1 else r.1.putFailed b

/-- A read waits for every earlier posted write of its function (R442). -/
def execBar2Read (fn off len : Nat) (s : State) : Result :=
  within s (decide (fn < 65)) (
    if !s.inBar2 fn off len then s.send (.hostCpl fn 1 [])
    else if s.barPosted fn then s
    else s.orWait (fun s => match s.bar2Get fn off len with
      | (some bs, s) => s.send (.hostCpl fn 0 bs)
      | (none, s) => (s.bar2Fail fn).send (.hostCpl fn 4 [])))

def execBar2Write (fn off : Nat) (data : List (BitVec 8)) (s : State) : Result :=
  within s (decide (fn < 65)) (
    if !s.inBar2 fn off data.length then s else s.bar2Put fn off data)

/-- A request no BAR matches, an AtomicOp or an I/O request (R441). -/
def execUnsupportedRequest (fn : Nat) (s : State) : Result := within s (decide (fn < 65)) (s.send (.hostCpl fn 1 []))

/-- A posted write with EP set is discarded and logged; no Heel (R441). -/
def execPoisonedWrite (fn : Nat) (s : State) : Result := within s (decide (fn < 65)) (s.aer fn 12)

/-! ### Expansion ROM and resource directory (R443 to R445) -/

/-- An entry: TYPE, LENGTH and its body. -/
def dirEntry (type len : Nat) (body : List Byte) : List Byte := leBytes 2 type ++ leBytes 2 len ++ padTo (len - 4) body

/-- The character of a population code value (R2). -/
def popChar (v : Nat) : Nat :=
  if v = 0xFF then 78 else if v = 0xD0 then 68 else if v < 10 then 48 + v
  else ([65, 66, 67, 69, 70, 71, 72, 74, 75, 76, 77, 80, 81, 83, 84, 85, 86, 87, 88, 89, 90] : List Nat).getD (v - 10) 0

/-- A die's state: 0 UP, 1 RESET, 2 HELD, 3 ISLAND_DOWN (R444, R503). -/
def State.dieState (s : State) (d : Nat) : Nat :=
  let k := SMap.get 0 s.dies d
  if k != 0 then k else if s.islUp (s.island d) then 0 else 3

def State.dirDie (s : State) (d : Nat) : List Byte :=
  dirEntry 1 16 ([d, s.dieState d, s.island d, s.rd R.HUB_ID_DIE_REV d].flatMap (leBytes 1) ++ leBytes 2 (s.rd R.HUB_CLUSTERS_EXPOSED d) ++
    leBytes 1 (s.rd R.HUB_CLUSTERS_SPARE d))

/-- Bits of the channels of a stack that a MEM_PORT_STATUS field names. -/
def State.chanMask (s : State) (st : Nat) (f : Fld) : Nat :=
  (List.range 8).foldl (fun n k => n + s.rd f (st / 4) [8 * (st % 4) + k] * 2 ^ (4 * k)) 0

def State.dirStack (s : State) (st : Nat) : List Byte :=
  let d := st / 4
  let ix := [st % 4]
  dirEntry 2 24 (leBytes 1 st ++ leBytes 1 (s.rd R.MEM_STACK_TEMP_BAND d ix) ++ leBytes 2 48 ++ leBytes 4 (s.chanMask st R.MEM_PORT_STATUS_RETIRED) ++
    leBytes 4 (s.chanMask st R.MEM_PORT_STATUS_HALF) ++ leBytes 2 (s.rd R.MEM_STACK_SPARES_ROWS d ix) ++ leBytes 2 (s.rd R.MEM_STACK_SPARES_LANES d ix))

def State.dirBay (s : State) (b : Nat) : List Byte :=
  let r (f : Fld) : Nat := s.rd f (b / 2) [b % 2]
  dirEntry 3 24 ([b, popChar (s.population.getD b 0xFF), r R.BAY_STATUS_STATE, r R.BAY_STATUS_HEEL_CAUSE].flatMap (leBytes 1) ++
    leBytes 2 (r R.BAY_IDENT_VENDOR) ++ leBytes 2 (r R.BAY_IDENT_PART) ++
    [r R.BAY_CLASS_SLOT, r R.BAY_CLASS_CLASS, r R.BAY_STATUS_PROTO, r R.BAY_STATUS_RATE2 + 2 * r R.BAY_STATUS_HALF + 4 * r R.BAY_STATUS_UNCERT,
     r R.BAY_LANES_TX_GROUPS, r R.BAY_LANES_RX_GROUPS, r R.BAY_STATUS_BGEN].flatMap (leBytes 1))

/-- The qualified-part table, whose contents the spec does not give. -/
def dirPart (slot : Nat) : List Byte := dirEntry 4 48 (leBytes 1 slot ++ (List.range 43).map (fun i => Config.partByte slot (5 + i)))

def dirAttach (d kind i : Nat) : List Byte := dirEntry 5 8 (leBytes 1 d ++ leBytes 1 kind ++ leBytes 1 i ++ leBytes 1 (attachRouter d kind i))

def State.dirTorus (s : State) (k : Nat) : List Byte :=
  let role := s.rd (if k % 2 = 0 then R.HUB_TORUS_ROLE_T0_ROLE else R.HUB_TORUS_ROLE_T1_ROLE) (k / 2)
  dirEntry 6 8 (leBytes 1 k ++ leBytes 1 role ++ leBytes 1 (s.rd R.TOR_PORT_STATUS_STATE (k / 2) [k % 2]) ++ leBytes 1 (s.rd R.TOR_PORT_STATUS_HALF (k / 2) [k % 2]))

def State.dirPartition (s : State) (p : Nat) : List Byte :=
  dirEntry 7 24 ([p, s.partIsland p, s.fnOf p, s.rd R.PAR_CFG_STRICT 0 [p]].flatMap (leBytes 1) ++ leBytes 2 (s.clustersOf p).length ++ List.replicate 6 0 ++
    leBytes 8 (s.quotaBytes p))

def dirLimits : List Byte := dirEntry 8 40 (([64, 16, 64, 1024, 65536, 10, 2000, 256, 4096] : List Nat).flatMap (leBytes 4))

def State.dirWithdrawn (s : State) (d : Nat) : List Byte :=
  dirEntry 9 24 (leBytes 1 d ++ List.replicate 3 0 ++ (List.range 4).flatMap (fun i => leBytes 4 (s.rd R.CLU_WITHDRAWN d [i])))

/-- The entries as Collar writes them. -/
def State.dirEntries (s : State) : List (List Byte) :=
  let slots := (s.population.filter (fun v => decide (v ≤ 30))).dedup
  let ds := List.range 4
  ds.map s.dirDie ++ (List.range 16).map s.dirStack ++ (List.range 8).map s.dirBay ++ slots.map dirPart ++
    ds.flatMap (fun d => (List.range 32).map (dirAttach d 0) ++ (List.range 2).map (dirAttach d 1) ++ (List.range 2).map (dirAttach d 2) ++
      (List.range 16).map (dirAttach d 3) ++ (List.range 16).map (dirAttach d 4) ++ [132, 133, 134, 135].map (dirAttach d 5)) ++
    [dirAttach 0 5 136] ++ (List.range 8).map s.dirTorus ++
    ((List.range 64).filter (fun p => s.rdB R.PAR_CFG_ENABLE 0 [p])).map s.dirPartition ++ [dirLimits] ++
    (ds.filter (fun d => (List.range 4).any (fun i => s.rd R.CLU_WITHDRAWN d [i] != 0))).map s.dirWithdrawn

/-- The ASCII order code (R1). -/
def State.orderCode (s : State) : List Byte :=
  padTo 24 (([65, 71, 76, 45, 49, 54, 52, 56, 45] ++ s.population.map popChar : List Nat).map (BitVec.ofNat 8))

/-- The header, whose GENERATION is read from the counter itself. -/
def State.dirHeader (s : State) (n len : Nat) : List Byte :=
  leBytes 4 0x52494452 ++ leBytes 2 1 ++ leBytes 2 n ++ leBytes 4 len ++ leBytes 4 s.host.dirGen ++ leBytes 8 (s.rd R.LCS_SERIAL 0) ++ s.orderCode ++
    leBytes 1 s.lcs ++ List.replicate 15 0

/-- Collar starts rewriting the directory, or finishes: GENERATION rises by 1 each time (R444, R445). -/
def execResourceDirectoryRewrite (finish : Bool) (s : State) : Result :=
  within s true (
    if (s.host.dirGen % 2 == 1) != finish then s
    else
      let s := { s with host := { s.host with dirGen := (s.host.dirGen + 1) % 2 ^ 32 } }
      if finish then
        let es := s.dirEntries
        let body := es.flatten
        { s with host := { s.host with directory := s.dirHeader es.length (64 + body.length) ++ body } }
      else { s with host := { s.host with directory := s.host.directory.take 12 ++ leBytes 4 s.host.dirGen ++ s.host.directory.drop 16 } })

/-- A byte of the expansion ROM window: the image's signature, its pointer at 0x18 to the PCI Data Structure, and there the code type at 0x14
and the last-image indicator, bit 7 at 0x15, as PCI places them (log entry 87). -/
def State.romByte (s : State) (a : Nat) : Byte :=
  let image (i : Nat) : Nat := (Config.uefiByte i).toNat
  let pcir := image 0x18 + 256 * image 0x19
  if a = 0 then 0x55 else if a = 1 then 0xAA else if a = pcir + 0x14 then 0x03
  else if a = pcir + 0x15 then BitVec.ofNat 8 (image a ||| 128) else if a < 0x80000 then Config.uefiByte a else s.host.directory.getD (a - 0x80000) 0

def execExpansionRomRead (off len : Nat) (s : State) : Result :=
  within s (decide (off + len ≤ 2 ^ 20)) (s.send (.hostCpl 0 0 ((List.range len).map (fun i => s.romByte (off + i)))))

/-! ### Interrupts (R446) -/

/-- A pending vector that is masked no more sends its message. -/
def State.sendPending (s : State) (fn v : Nat) : State :=
  if s.msixPending fn v && !s.msixMasked fn v && !s.fnMask fn then (s.setPending fn v false).msix fn v else s

/-- Function Mask is cleared. -/
def State.fnUnmask (s : State) (fn : Nat) : State :=
  let s := s.cfgSet fn 1 (setBits (s.cfgGet fn 1) 14 1 0)
  s.each (List.range (if fn = 0 then 64 else 31)) (fun s v => s.sendPending fn v)

/-- A vector's Mask is cleared. -/
def State.vecUnmask (s : State) (fn v : Nat) : State :=
  let s := if fn = 0 then s.wr R.PCI_MSIX_MASK 0 [v] 0 else s.wr R.PCI_VF_MSIX_MASK 0 [fn - 1, v] 0
  s.sendPending fn v

/-- A mask is cleared: the vector's, or for vector 64 the Function Mask. -/
def execMsixUnmask (fn vector : Nat) (s : State) : Result :=
  within s (decide (fn < 65) && (vector == 64 || decide (vector < (if fn = 0 then 64 else 31)))) (
    if vector = 64 then s.fnUnmask fn else s.vecUnmask fn vector)

/-- CLEAR_STATS of PCI (R463). -/
def execPciClearStats (s : State) : Result :=
  within s true (s.clearAll 0 [R.PCI_LATE, R.PCI_DISCARDS, R.PCI_UNEXPECTED, R.PCI_BAR_ERR, R.PCI_RD_BYTES, R.PCI_WR_BYTES, R.PCI_VF_APT_FAULTS])

/-! ### Power states (R459 to R461) -/

/-- A PowerState write: PF0's takes effect at the next boundary; a VF in D3hot acts as in R451. -/
def State.setPower (s : State) (fn st : Nat) : State :=
  let old := s.cfgGet fn 9
  let s' := s.cfgSet fn 9 (setBits old 0 2 st)
  if fn = 0 then { s' with host := { s.host with powerDue := some st } }
  else if st = 3 && old % 4 != 3 then (s'.fgenUp fn).each (s'.partsOfFn fn) State.partQuiet
  else s'

def execPowerStateChange (fn state : Nat) (s : State) : Result :=
  within s (decide (fn < 65) && decide (state < 4)) (if !s.fnExists fn || (fn != 0 && state != 0 && state != 3) then s else s.setPower fn state)

/-- D2 and D3hot act as D1 while a torus port, a stream channel or Kennel is enabled. -/
def State.deferD2 (s : State) : Bool :=
  (List.range 8).any (fun k => s.rdB R.TOR_PORT_CFG_ENABLE (k / 2) [k % 2]) || (List.range 64).any (fun ch => s.rdB R.TOR_S_CFG_ENABLE 0 [ch]) || s.rdB R.KNL_CTRL_ENABLE 0

/-- PF0's power state at a boundary (R459): the state comes into effect; once no unit runs and no slice is in progress the clusters are gated, and in
D2 and D3hot the stack caches are flushed and invalidated and the stacks go to self-refresh. Back in D0 memory is in SERVICE. -/
def State.powerBoundary (s : State) : State :=
  let s := match s.host.powerDue with
    | none => s
    | some st =>
      let s := { s with host := { s.host with powerDue := none } }
      let s := s.wrs 0 [] [(R.PCI_STATUS_DSTATE, st), (R.PCI_STATUS_D2_DEFERRED, if 2 ≤ st ∧ s.deferD2 = true then 1 else 0)]
      if st < 2 then s.each (List.range 4) (fun s d => if s.rd R.MEM_STATUS_STATE d = 3 then s.memState d 2 else s) else s
  let st := s.rd R.PCI_STATUS_DSTATE 0
  if st = 0 || !s.units.isEmpty || (List.range 4).any (fun d => s.rdB R.CLU_STANDIN_ACTIVE d) then s
  else
    let s := s.each (List.range 4) (fun s d => s.each (List.range 5) (fun s i => if s.rd R.PWR_CLU_ON d [i] = 0 then s else s.wr R.PWR_CLU_ON d [i] 0))
    if st = 1 || s.rdB R.PCI_STATUS_D2_DEFERRED 0 then s
    else s.each (List.range 4) (fun s d =>
      if s.rd R.MEM_STATUS_STATE d != 2 then s
      else
        let s := s.flushStc d
        ({ s with stcLines := s.stcLines.filter (fun (l : StcLine) => qDie l.q != d) }).memState d 3)

/-- A wake event (R460): 0 a wake request over the sideband, 1 signal energy on an armed torus port. With PME_En (PMCSR bit 8) set it sends a PME
message in D3hot and drives WAKE# low in D3cold. -/
def execWakeEvent (kind port : Nat) (s : State) : Result :=
  within s (decide (kind < 2) && decide (port < 8)) (
    if s.boot.mainOff then
      (match s.host.wake with
       | some (sbr, stream, ports) =>
         if (kind == 0 && sbr) || (kind == 1 && stream && ports.contains port) then ({ s with host := { s.host with wakeLow := true } }).send (.hostMsg 7 0 0) else s
       | none => s)
    else if s.rd R.PCI_STATUS_DSTATE 0 = 3 ∧ bit (s.cfgGet 0 9) 8 = true ∧
        ((kind = 0 ∧ s.rdB R.PCI_CTRL_WAKE_SBR 0 = true) ∨ (kind = 1 ∧ s.rdB R.PCI_CTRL_WAKE_STREAM 0 = true)) then
      (s.cfgSet 0 9 (setBits (s.cfgGet 0 9) 15 1 1)).send (.hostMsg 6 0 0)
    else s)

/-- L0p (R461): ×8 after a light tick, ×16 again when a request waits for credit. -/
def execL0pRequest (width : Nat) (s : State) : Result :=
  within s (width == 8 || width == 16) (
    if !s.rdB R.PCI_CTRL_L0P_AUTO 0 || s.rd R.PCI_STATUS_SPEED 0 == 0 || s.rd R.PCI_STATUS_LPOWER 0 == 2 then s
    else (s.wrs 0 [] [(R.PCI_STATUS_WIDTH, width), (R.PCI_STATUS_LPOWER, if width = 8 then 1 else 0)]).send (.hostMsg 8 width 0))

/-! ### Configuration requests (R436, R439, R459, R462, R516) -/

/-- The device answers with CRS: before READY, during an FLR of the function, and from E1 on. -/
def State.crs (s : State) (fn : Nat) : Bool := !s.rdB R.PCI_STATUS_READY 0 || s.rdB R.PCI_FN_STATE_FLR_BUSY 0 [fn] || s.scrapped

/-- What a configuration read returns: key 17 the Device and Vendor ID, 18 the class code; the rest as stored. -/
def State.cfgRead (s : State) (fn key : Nat) : Nat :=
  if key = 17 then (if fn = 0 then 0x0A16 else 0x0A17) * 2 ^ 16 + Config.freeNat s.free % 2 ^ 16
  else if key = 18 then 0x120000
  else if key = 10 then (if s.vfEnable then 1 else 0) else if key = 11 then s.numVfs
  else s.cfgGet fn key

/-- What a configuration write does. -/
def State.cfgWrite (s : State) (fn key v : Nat) : State :=
  if key = 0 then
    let s := s.cfgSet fn 0 (v % 2 ^ 16)
    if bit v 2 then s.wr R.PCI_FN_STATE_BME 0 [fn] 1 else if s.rdB R.PCI_FN_STATE_BME 0 [fn] then s.bmeClear fn else s
  else if key = 1 then (if s.fnMask fn && !bit v 14 then (s.cfgSet fn 1 v).fnUnmask fn else s.cfgSet fn 1 v)
  else if key = 2 then
    if bit v 15 then (if fn = 0 then s.flrPf0.wr R.PCI_FN_STATE_FLR_BUSY 0 [0] 1 else (s.flrOf fn).wr R.PCI_FN_STATE_FLR_BUSY 0 [fn] 1) else s.cfgSet fn 2 v
  else if key = 4 ∨ key = 7 then s.cfgSet fn key (s.cfgGet fn key - (s.cfgGet fn key &&& v))
  else if key = 9 then
    let st := v % 4
    let s := s.cfgSet fn 9 (setBits (setBits (s.cfgGet fn 9) 8 1 (bits v 8 1)) 15 1 (if bit v 15 then 0 else bits (s.cfgGet fn 9) 15 1))
    if fn ≠ 0 ∧ st ≠ 0 ∧ st ≠ 3 ∨ st = s.cfgGet fn 9 % 4 then s else s.setPower fn st
  else if key = 10 then (if fn ≠ 0 then s else if bit v 0 then { s with vfEnable := true } else s.dropVfs false s.numVfs)
  else if key = 11 then (if fn ≠ 0 ∨ 64 < v then s else if s.vfEnable && decide (v < s.numVfs) then s.dropVfs true v else { s with numVfs := v })
  else if key = 12 then
    if fn ≠ 0 ∨ bits v 8 6 < 10 ∨ 16 < bits v 8 6 then s
    else
      let s := s.cfgSet 0 12 v
      let g := s.bar2Size / 2 ^ 30
      s.wr R.PCI_BAR2_BASE_BASE 0 [] (s.rd R.PCI_BAR2_BASE_BASE 0 / g * g)
  else if key < 17 then s.cfgSet fn key v
  else s

/-- A configuration request to a function: one that does not exist answers Unsupported Request. -/
def execConfigRequest (fn key : Nat) (write : Bool) (value : Nat) (s : State) : Result :=
  within s (decide (fn < 65) && decide (key < 4096) && decide (value < 2 ^ 32)) (
    if s.crs fn then s.send (.hostCpl fn 2 [])
    else if !s.fnExists fn then s.send (.hostCpl fn 1 [])
    else if write then (s.cfgWrite fn key value).send (.hostCpl fn 0 [])
    else (s.useFree 1).send (.hostCpl fn 0 (leBytes 4 (s.cfgRead fn key))))

end Sys2Proof.Machine
end

