-- ==== Sys2Proof/Machine/Security.lean ====
section
/-! DEFINITION. Security and attestation (R491 to R512, R517, R574, R575): firmware, signing, reports, keys and weights, the test port and I3C, and
the commands of the life cycle up to their first mark. -/

namespace Sys2Proof.Machine

/-! ### Firmware (R495 to R497) -/

def Firmware.bytes (f : Firmware) (collar : Bool) : List Byte :=
  match f with
  | .factory => if collar then Config.factoryCollar else Config.factoryPack
  | .image b => b
def Firmware.svn (f : Firmware) (collar : Bool) : Nat := Config.fwSvn (f.bytes collar) % 2 ^ 16
/-- Whether an image passes: its signature verifies, as that of the factory's own images does, and its SVN is at least the floor. -/
def Firmware.passes (f : Firmware) (collar : Bool) (floor : Nat) : Bool :=
  (match f with | .factory => true | .image b => Config.fwSigned b) && decide (floor ≤ f.svn collar)
def Firmware.measure (f : Firmware) (collar : Bool) : List Byte := shake256 64 (f.bytes collar)

def State.slotPack (s : State) (k : Nat) : Option Firmware := (s.sec.packSlots.getD k none)
def State.slotCollar (s : State) (k : Nat) : Option Firmware := (s.sec.collarSlots.getD k none)

/-- Write 16 words of a measurement. -/
def State.putWords (s : State) (f : Fld) (d : Nat) (bs : List Byte) : State :=
  s.each (List.range 16) (fun s i => s.wr f 0 [d, i] (leNat ((bs.drop (4 * i)).take 4)))

/-- A die's Collar, and its Pack, are measured as they start (R495, R496, R498). -/
def State.measureCollar (s : State) (d : Nat) : State :=
  match s.slotCollar s.sec.collarSlot with
  | none => s
  | some f => (s.putWords R.SEC_COLLAR_MEAS d (f.measure true)).wr R.SEC_DIE_SVN_COLLAR 0 [d] (f.svn true)

/-- Whether the Pack image in use passes R496, and whether a die may run it: in PRODUCTION only if it does. -/
def State.packOk (s : State) : Bool := match s.slotPack s.sec.packSlot with | some f => f.passes false s.sec.packFloor | none => false
def State.packLoads (s : State) : Bool := (s.slotPack s.sec.packSlot).isSome && (s.packOk || decide (s.lcs ≤ 1))
def State.measurePack (s : State) (d : Nat) : State :=
  match s.slotPack s.sec.packSlot with
  | none => s
  | some f =>
    if !s.packLoads then s
    else
      let s := (s.putWords R.SEC_PACK_MEAS d (f.measure false)).wr R.SEC_DIE_SVN_PACK 0 [d] (f.svn false)
      if s.packOk then s else s.wr R.SEC_STATUS_PACK_UNSIGNED 0 [] 1

/-- A die in reset or held under R22 has no measurement (R498). -/
def State.unmeasure (s : State) (d : Nat) : State :=
  ((s.putWords R.SEC_COLLAR_MEAS d []).putWords R.SEC_PACK_MEAS d []).wrs 0 [d] [(R.SEC_DIE_SVN_COLLAR, 0), (R.SEC_DIE_SVN_PACK, 0)]

/-- Commands the Pack had started when it was reset are answered BUSY, RESTARTED (R558). -/
def State.packCut (s : State) (d : Nat) : State :=
  s.each (s.mgmts.filter (fun (m : Mgmt) => (m.stage != 0 || m.out != []) && m.answer.isNone && (d == 0 || d == s.partDie m.part))) (fun s m => s.mgmtAnswer m 0xB 0 0x10001)

/-- The outcome of staging the `n` bytes at DPA `a`: a code of SEC_PACK_RESULT, and the image. A Collar image must pass R495; a Pack image must
pass R496 in PRODUCTION. -/
def State.stageOutcome (s : State) (a n : Nat) : State × Nat × Option Firmware :=
  if n = 0 ∨ 2 ^ 23 < n then (s, 4, none)
  else if a % 64 ≠ 0 || (List.range 64).any (fun p => s.rdB R.PAR_CFG_ENABLE 0 [p] && (s.zeroRanges p).any (fun r => overlaps a n r.1 r.2)) then (s, 3, none)
  else
    match s.physRead (.collar 0) a n with
    | (.ok bs, s) =>
      let collar := Config.fwIsCollar bs
      if !Config.fwSigned bs && (collar || decide (2 ≤ s.lcs)) then (s, 1, none)
      else if decide (Config.fwSvn bs % 2 ^ 16 < (if collar then s.sec.collarFloor else s.sec.packFloor)) && (collar || decide (2 ≤ s.lcs)) then (s, 2, none)
      else (s, 0, some (.image bs))
    | (_, s) => (s, 3, none)

def State.staging (s : State) : Bool := s.rdB R.SEC_STATUS_STAGING 0
def State.activating (s : State) : Bool := s.rdB R.SEC_STATUS_ACTIVATING 0 || s.sec.activateDue

/-- STAGE: the Collar starts to read the image at SEC_PACK_SRC. -/
def execPackStage (s : State) : Result :=
  within s true (
    if s.staging || s.activating then s.cfgErr .SEC 0 [] R.SEC_CTRL_STAGE.base
    else ({ s with sec := { s.sec with staging := some (s.rd R.SEC_PACK_SRC_SRC 0, s.rd R.SEC_PACK_LEN_LEN 0) } }).wr R.SEC_STATUS_STAGING 0 [] 1)

/-- The stage ends, once the image has been read: it goes to the inactive slot, or PACK_REJECT is set and nothing else changes. -/
def execPackStageDone (s : State) : Result :=
  within s true (s.orWait (fun s =>
    match s.sec.staging with
    | none => s
    | some (a, n) =>
      let (s, k, f) := s.stageOutcome a n
      let s := ({ s with sec := { s.sec with staging := none } }).wrs 0 [] [(R.SEC_STATUS_STAGING, 0), (R.SEC_PACK_RESULT, k)]
      match f with
      | none => s.secEvent R.SEC_EVENT_PACK_REJECT
      | some f =>
        let collar := Config.fwIsCollar (f.bytes false)
        let s := if collar then { s with sec := { s.sec with collarSlots := s.sec.collarSlots.set (1 - s.sec.collarSlot) (some f) } }
          else { s with sec := { s.sec with packSlots := s.sec.packSlots.set (1 - s.sec.packSlot) (some f), staged := true } }
        s.each (List.range 4) (fun s d => s.putWords R.SEC_PACK_STAGED d (f.measure collar))))

/-- ACTIVATE: it takes effect at the next boundary. -/
def execPackActivate (s : State) : Result :=
  within s true (
    if s.sec.staged && !s.activating then { s with sec := { s.sec with activateDue := true } }
    else s.cfgErr .SEC 0 [] R.SEC_CTRL_ACTIVATE.base)

/-- The boundary at which an activation begins: every die's Pack cores are reset into the staged image. -/
def State.activateBoundary (s : State) : State :=
  if !s.sec.activateDue then s
  else (({ s with sec := { s.sec with activateDue := false, activateAt := s.now } }).wr R.SEC_STATUS_ACTIVATING 0 [] 1).packCut 0

/-- All four Packs are measured and running. -/
def execPackActivateDone (s : State) : Result :=
  within s true (
    if !s.rdB R.SEC_STATUS_ACTIVATING 0 then s
    else
      let s := { s with sec := { s.sec with packSlot := 1 - s.sec.packSlot, staged := false } }
      let s := s.wrs 0 [] [(R.SEC_STATUS_ACTIVATING, 0), (R.SEC_STATUS_PACK_UNSIGNED, 0)]
      let s := s.each (List.range 4) (fun s d => let s := s.putWords R.SEC_PACK_STAGED d []; if s.dieRuns d then s.measurePack d else s)
      s.secEvent R.SEC_EVENT_PACK_ACTIVE)

/-- COMMIT_SVN. -/
def execCommitSvn (s : State) : Result :=
  within s true (match s.slotPack s.sec.packSlot with
    | none => s
    | some f => { s with sec := { s.sec with packFloor := max s.sec.packFloor (f.svn false) } })

/-- CLEAR_STATS of SEC (R518). -/
def execSecClearStats (s : State) : Result :=
  within s true (s.clear 0 [R.SEC_ATT_COUNT, R.SEC_ATT_BUSY, R.SEC_DEBUG_TICKS, R.SEC_PACK_DENIED])

/-! ### Signing (R499 to R501, R511, R516) -/

/-- The key that signs: 0 the test identity, 1 and 2 the device identity in bank A or B; none in BLANK and END_OF_LIFE, and from P1 and E1 on. -/
def State.signer (s : State) : Option Nat :=
  if s.scrapped then none
  else if s.lcs = 1 then (if s.sec.testId && s.rd R.LCS_STATE_TARGET 0 != 2 then some 0 else none)
  else if s.lcs = 2 then (if s.rdB R.LCS_STATE_ID_READY 0 then some (1 + s.rd R.LCS_STATE_ID_BANK 0) else none)
  else none

def State.blocksUsed (s : State) : Nat := s.rd R.SEC_STATUS_BLOCKS_USED 0

/-- Every counter bit is burned and the current block is spent. -/
def State.signSpent (s : State) : Bool :=
  match s.sec.signNext with
  | none => true
  | some n => decide (4096 ≤ s.blocksUsed) && decide (s.blocksUsed * 2 ^ 16 ≤ n)

/-- Burn the lowest unburned counter bit. -/
def State.burnBlock (s : State) : State :=
  let s := s.wr R.SEC_STATUS_BLOCKS_USED 0 [] (s.blocksUsed + 1)
  if s.blocksUsed = 4032 then s.secEvent R.SEC_EVENT_SIGN_LOW else s

/-- The tokens in the bucket (R501). -/
def State.tokens (s : State) : Nat := min (s.rd R.SEC_ATT_RATE_BURST 0) s.sec.tokens

/-- When the bucket gains its next token, in ns. -/
def State.nextToken (s : State) : Nat := s.sec.tokenAt + s.rd R.SEC_ATT_RATE_PERIOD_MS 0 * 10 ^ 6

/-- PERIOD_MS after the last one the bucket gains a token; `dt`: nanoseconds since the last boundary. -/
def execSignTokenRefill (dt : Nat) (s : State) : Result :=
  within s true (
    let t := (s.at_ dt).now
    if t < s.nextToken then s
    else { s with now := t, sec := { s.sec with tokens := min (s.rd R.SEC_ATT_RATE_BURST 0) (s.sec.tokens + 1), tokenAt := t } })

/-- Take a token and an index, which is recorded before the signature leaves; a spent block is followed by the next. -/
def State.takeIndex (s : State) : Nat × State :=
  let i := s.sec.signNext.getD 0
  let s := if i = s.blocksUsed * 2 ^ 16 then s.burnBlock else s
  let s := { s with sec := { s.sec with signNext := some (i + 1), tokens := s.tokens - 1 } }
  let s := (s.bump R.SEC_ATT_COUNT 0 [] 1).wr R.SEC_SIGN_LEFT_LEFT 0 [] (s.blocksUsed * 2 ^ 16 - (i + 1))
  (i, if s.signSpent then s.secEvent R.SEC_EVENT_SIGN_EXHAUSTED else s)

/-- A signature of 9,893 bytes (R493). -/
def signature (key i : Nat) (msg : List Byte) : List Byte := padTo 9893 (Config.xmssSign key i msg)

/-! ### Reports (R502 to R504) -/

/-- Whether a command can use a buffer of virtual memory: every page of it translates for writing, and the hold buffer has room. -/
def State.probe (s : State) (a : Virt) (va len : Nat) : VRes × State :=
  (pagesOf va len).foldl (fun acc pt =>
    match acc with
    | (.ok _, s) =>
      (match s.xlate a pt.1 true with
       | (.hit _, s) => if isHost pt.1 && s.holdFull len then s.stall else (.ok [], s)
       | (.fault k, s) => (.fault pt.1 k, s)
       | (.ue d port, s) => (.ue d port, s)
       | (.down, s) => (.down, s)
       | (.miss, s) => (.wait, s))
    | r => r) (.ok [], s)

def CertStore.bytes : CertStore → List Byte
  | .none => []
  | .factory => Config.factoryCert
  | .installed b => b

/-- A BUSY answer of this chapter (R504). -/
def State.attBusy (s : State) (m : Mgmt) (retry : Nat) : State :=
  (s.bump R.SEC_ATT_BUSY 0 [] 1).mgmtAnswer m 0xB 0 (min 65535 (max 1 retry))

/-- Ticks until a time. -/
def State.ticksTo (s : State) (t : Nat) : Nat := if s.period = 0 then 1 else (t - s.now + s.period - 1) / s.period
/-- Ticks until 200 ms after ACTIVATE took effect. -/
def State.activeTicks (s : State) : Nat := s.ticksTo (s.sec.activateAt + 200000000)

/-- Write a signed answer to the buffer of its command; the response follows its acknowledgement (R504). -/
def State.signedOut (s : State) (m : Mgmt) (bs : List Byte) : State :=
  s.orWait (fun s =>
    match s.virtWriteV (s.packVirt m.part m.ctx) m.addr bs with
    | (.fault va k, s) => (s.xltFault m.part m.ctx va k).mgmtAnswer m 9 0 0x12
    | (.ue _ _, s) | (.down, s) => s.mgmtAnswer m 9 0 0x12
    | (_, s) => s.mgmtAnswer m 0 bs.length 0)

/-- A command that ends in a signed answer of `len` bytes: its refusals, its BUSY cases, then the answer that `f` gives for an index and a key, made
once, and its write. -/
def State.signed (s : State) (m : Mgmt) (len : Nat) (keyMissing : Bool) (f : State → Nat → Nat → List Byte) : State :=
  if m.out ≠ [] then s.signedOut m m.out
  else if m.len < len then s.mgmtAnswer m 9 0 0x12
  else if s.signSpent then s.mgmtAnswer m 9 0 0x13
  else
    match s.signer, s.sec.cert with
    | none, _ | _, .none => s.mgmtAnswer m 9 0 0x18
    | some key, _ =>
      if s.rdB R.SEC_STATUS_ACTIVATING 0 then s.attBusy m s.activeTicks
      else if keyMissing then s.attBusy m 1
      else if s.tokens = 0 then s.attBusy m (s.ticksTo s.nextToken)
      else
        match s.probe (s.packVirt m.part m.ctx) m.addr len with
        | (.wait, s) => s
        | (.ok _, s) =>
          let (i, s) := s.takeIndex
          let bs := f s i key
          ({ s with mgmts := s.mgmts.map (fun (x : Mgmt) => if x.part == m.part && x.entry == m.entry then { x with out := bs } else x) }).signedOut m bs
        | (.fault va k, s) => (s.xltFault m.part m.ctx va k).mgmtAnswer m 9 0 0x12
        | (_, s) => s.mgmtAnswer m 9 0 0x12

def State.confidential (s : State) (p c : Nat) : Bool := s.rdB R.PAR_CTX_CFG_CONFIDENTIAL 0 [p, c]
def State.ctxInfo (s : State) (p c : Nat) : CtxInfo := (SMap.look s.ctxs (16 * p + c)).getD ⟨0, none, [], []⟩
def State.setInfo (s : State) (p c : Nat) (i : CtxInfo) : State := { s with ctxs := SMap.ins s.ctxs (16 * p + c) i }

/-- The DIE entry of a report. -/
def State.repDie (s : State) (d : Nat) : List Byte :=
  leBytes 1 (s.dieState d) ++ leBytes 1 (s.island d) ++ leBytes 2 (s.rd R.SEC_DIE_STATE_DIE_GEN 0 [d]) ++ leBytes 4 (s.rd R.SEC_DIE_SVN_COLLAR 0 [d]) ++
    leBytes 4 (s.rd R.SEC_DIE_SVN_PACK 0 [d]) ++ leBytes 4 (if s.dieRuns d then s.rd R.SEC_STATUS_PACK_UNSIGNED 0 else 0) ++
    (List.range 16).flatMap (fun i => leBytes 4 (s.rd R.SEC_COLLAR_MEAS 0 [d, i])) ++
    (List.range 16).flatMap (fun i => leBytes 4 (s.rd R.SEC_PACK_MEAS 0 [d, i])) ++ List.replicate 16 0

/-- The BAY entry. -/
def State.repBay (s : State) (b : Nat) : List Byte :=
  let r (f : Fld) : Nat := s.rd f (b / 2) [b % 2]
  [r R.BAY_STATUS_STATE, popChar (s.population.getD b 0xFF), r R.BAY_STATUS_PROTO, r R.BAY_STATUS_RATE2 + 2 * r R.BAY_STATUS_HALF + 4 * r R.BAY_STATUS_UNCERT,
    r R.BAY_STATUS_BGEN, r R.BAY_CLASS_SLOT, 0, 0].flatMap (leBytes 1) ++
    leBytes 2 (r R.BAY_IDENT_VENDOR) ++ leBytes 2 (r R.BAY_IDENT_PART) ++ leBytes 4 0 ++
    (List.range 8).flatMap (fun i => leBytes 4 (s.rd R.BAY_DIGEST (b / 2) [b % 2, i]))

/-- The registered images of a context in handle order. -/
def State.ctxImages (s : State) (p c : Nat) : List Image :=
  (s.images.filter (fun (i : Image) => i.part == p && i.ctx == c && i.live)).mergeSort (fun a b => a.handle ≤ b.handle)

def State.repLen (s : State) (p c : Nat) : Nat := 0x0AC0 + 64 * (s.ctxImages p c).length + 48 * (s.ctxInfo p c).weights.length + 9893

/-- The signed bytes of a report. -/
def State.report (s : State) (p c key : Nat) (nonce : List Byte) : List Byte :=
  let i := s.ctxInfo p c
  let imgs := s.ctxImages p c
  let uncert := (List.range 8).any (fun b => s.rdB R.BAY_STATUS_UNCERT (b / 2) [b % 2])
  let flags := (if key = 0 then 1 else 0) + 2 * s.rd R.SEC_STATUS_PACK_UNSIGNED 0 + (if uncert then 4 else 0)
  let head := leBytes 4 0x54505241 ++ leBytes 2 1 ++ leBytes 2 flags ++ leBytes 4 (s.repLen p c) ++ leBytes 4 (s.repLen p c - 9893) ++
    leBytes 8 (s.rd R.LCS_SERIAL 0) ++ leBytes 1 s.lcs ++
    leBytes 1 (s.regVal 0 [] [R.HUB_ISLAND_HD0_ISL, R.HUB_ISLAND_HD1_ISL, R.HUB_ISLAND_HD2_ISL, R.HUB_ISLAND_HD3_ISL]) ++ List.replicate 6 0 ++ padTo 32 nonce ++
    leBytes 8 s.tick ++ leBytes 8 (s.rd R.TCK_TOD 0) ++ leBytes 4 s.sec.collarFloor ++ leBytes 4 s.sec.packFloor ++ List.replicate 8 0
  let part := [p, s.partIsland p, s.rd R.PAR_CFG_STRICT 0 [p], 0].flatMap (leBytes 1) ++ leBytes 2 (s.gen p) ++ leBytes 2 (s.clustersOf p).length ++
    leBytes 8 (s.quotaBytes p) ++ leBytes 1 (s.fnOf p)
  let conf := s.confidential p c
  let ctx := [c, (if conf then 1 else 0), s.rd R.PAR_CTX_CFG_STATE 0 [p, c], 0].flatMap (leBytes 1) ++ leBytes 4 (s.rd R.SEC_DISCLOSE 0 [16 * p + c]) ++
    leBytes 8 i.inst ++ leBytes 2 imgs.length ++ leBytes 2 i.weights.length
  let ek := match i.key with | some k => if conf then Config.mlkemPublic k else [] | none => []
  head ++ (List.range 4).flatMap s.repDie ++ (List.range 8).flatMap s.repBay ++ padTo 32 part ++ padTo 32 ctx ++ padTo 1568 ek ++
    imgs.flatMap (fun (x : Image) => padTo 64 x.digest) ++ i.weights.flatMap (fun w => padTo 32 w.1 ++ leBytes 8 w.2.1 ++ leBytes 8 w.2.2)

def State.attest (s : State) (m : Mgmt) : State :=
  let missing := s.confidential m.part m.ctx && (s.ctxInfo m.part m.ctx).key.isNone
  s.signed m (s.repLen m.part m.ctx) missing (fun s i key =>
    let r := s.report m.part m.ctx key ((m.cmd.drop 0x14).take 32)
    r ++ signature key i r)

def execAttest (part : Nat) (s : State) : Result :=
  within s (decide (part < 64)) (s.onMgmt part (· == 0x40) (fun m => m.unusedSet false true true 0 0x34) true State.attest)

/-- The identity certificate; its answer takes a signature too (R501; log entry 36). -/
def State.getIdentity (s : State) (m : Mgmt) : State :=
  s.signed m s.sec.cert.bytes.length false (fun s _ _ => s.sec.cert.bytes)

def execGetIdentity (part : Nat) (s : State) : Result :=
  within s (decide (part < 64)) (s.onMgmt part (· == 0x43) (fun m => m.unusedSet false true true 0 0x14) true State.getIdentity)

/-! ### Keys and weights (R505 to R509) -/

/-- The key pair of a confidential context is ready (R506). -/
def execEkGenerated (part ctx : Nat) (s : State) : Result :=
  within s (decide (part < 64) && decide (ctx < 16)) (
    match SMap.look s.ctxs (16 * part + ctx) with
    | none => s
    | some i =>
      if s.confidential part ctx && i.key.isNone then { (s.setInfo part ctx { i with key := some s.nextKey }) with nextKey := s.nextKey + 1 } else s)

/-- "AGL-KEK". -/
def kekLabel : List Byte := ([0x41, 0x47, 0x4C, 0x2D, 0x4B, 0x45, 0x4B] : List Nat).map (BitVec.ofNat 8)

/-- The weight key a blob carries, if its tag holds. -/
def State.unwrap (s : State) (p c k inst : Nat) (blob : List Byte) : Option (List Byte) :=
  let serial := leBytes 8 (s.rd R.LCS_SERIAL 0)
  let ss := Config.mlkemDecap k (blob.take 1568)
  let kek := shake256 32 (ss ++ serial ++ leBytes 8 p ++ leBytes 8 c ++ leBytes 8 inst ++ kekLabel)
  let iv := (blob.drop 0x620).take 12
  let ct := (blob.drop 0x62C).take 32
  let aad := serial ++ leBytes 8 inst
  if gcmTag kek iv aad ct == (blob.drop 0x64C).take 16 then some (gcmPlain kek iv ct) else none

def State.loadKey (s : State) (m : Mgmt) (host : List Byte) : State :=
  let p := m.part
  let c := m.ctx
  let i := s.ctxInfo p c
  if !s.confidential p c then s.mgmtAnswer m 9 0 0x11
  else
    match i.key with
    | none => s.mgmtAnswer m 9 0 0x10
    | some k =>
      if m.len ≠ 1628 then s.mgmtAnswer m 9 0 0x14
      else
        match s.virtReadH (s.packVirt p c) m.addr 1628 host with
        | (.wait, s) => s
        | (.ok blob, s) =>
          (match s.unwrap p c k i.inst blob with
           | none => s.mgmtAnswer m 9 0 0x14
           | some key => (s.setInfo p c { i with slots := SMap.ins i.slots (m.nat 2 2 % 8) key }).mgmtAnswer m 0 0 0)
        | (r, s) => s.mgmtFail m r m.addr

def execLoadKey (part : Nat) (host : List (BitVec 8)) (s : State) : Result :=
  within s (decide (part < 64)) (s.onMgmt part (· == 0x41) (fun m => m.unusedSet true true true 3 0x14) true (fun s m => s.loadKey m host))

/-- Read as much of a virtual range as can be read: the bytes, and how it ended. -/
def State.readSome (s : State) (a : Virt) (va len : Nat) (hd : List Byte) : List Byte × VRes × State :=
  (pagesOf va len).foldl (fun acc pt =>
    match acc with
    | (bs, .ok _, s) =>
      (match s.virtPart a pt.1 pt.2 none (hd.drop (pt.1 - va)) with
       | (.ok cs, s) => (bs ++ cs, .ok [], s)
       | (r, s) => (bs, r, s))
    | r => r) ([], .ok [], s)

/-- Write as much of a virtual range as can be written: how many bytes, and how it ended. -/
def State.writeSome (s : State) (a : Virt) (va : Nat) (bs : List Byte) : Nat × VRes × State :=
  (pagesOf va bs.length).foldl (fun acc pt =>
    match acc with
    | (n, .ok _, s) =>
      (match s.virtPart a pt.1 pt.2 (some ((bs.drop (pt.1 - va)).take pt.2)) [] with
       | (.ok _, s) => (n + pt.2, .ok [], s)
       | (r, s) => (n, r, s))
    | r => r) (0, .ok [], s)

/-- The crypto engine of the die that holds DST (R508), or of the partition's first die while DST does not translate; HD0's for a die whose engine failed
the known-answer run (R525). -/
def State.engineDie (s : State) (p c dst : Nat) : Nat × State :=
  let (r, t) := s.xlate (s.packVirt p c) dst true
  let s := match r with | .hit _ | .miss => t | _ => s
  let d := match r with
    | .hit e => (match s.decode (e.addr dst) with | some (q, _) => qDie q | none => s.partDie p)
    | _ => s.partDie p
  (if s.boot.engines.contains d then 0 else d, s)

/-- A job that ended without completing: what it wrote to DST is overwritten with 0, but not on an island that is down (R509). -/
def State.decryptFail (s : State) (m : Mgmt) (a : Virt) (dst n : Nat) (r : VRes) (base : Nat) : State :=
  match r with
  | .down => s.mgmtFail m r base
  | _ => ((s.writeSome a dst (List.replicate n 0)).2.2).mgmtFail m r base

/-- DECRYPT_WEIGHTS is taken up, or refused (R502). Its stage says whether the context was ACTIVE or STOPPED then. -/
def State.decryptStart (s : State) (m : Mgmt) : State :=
  let i := s.ctxInfo m.part m.ctx
  if !s.confidential m.part m.ctx then s.mgmtAnswer m 9 0 0x11
  else if 1024 ≤ i.weights.length then s.mgmtAnswer m 9 0 0x16
  else if (SMap.look i.slots (m.nat 2 2 % 8)).isNone then s.mgmtAnswer m 9 0 0x17
  else s.mgmtStage m (if s.rd R.PAR_CTX_CFG_STATE 0 [m.part, m.ctx] = 1 then 3 else 4)

/-- The DECRYPT_WEIGHTS job of a partition that is under way. -/
def State.decryptJob (s : State) (p : Nat) : Option Mgmt :=
  s.mgmts.find? (fun (m : Mgmt) => m.part == p && decide (3 ≤ m.stage) && m.answer.isNone)

/-- The job itself (R508): cut off once the context has become STOPPED or ENDING (R509). -/
def State.decryptWeights (s : State) (m : Mgmt) (host : List Byte) : State :=
  let p := m.part
  let c := m.ctx
  let i := s.ctxInfo p c
  let dst := m.nat 0x14 8
  let st := s.rd R.PAR_CTX_CFG_STATE 0 [p, c]
  if st != 1 && !(st == 2 && m.stage == 4) then s.mgmtAnswer m 5 0 3
  else
    match SMap.look i.slots (m.nat 2 2 % 8) with
    | none => s.mgmtAnswer m 9 0 0x17
    | some key =>
      let (die, s) := s.engineDie p c dst
      let a : Virt := .dog die p c
      let iv := (m.cmd.drop 0x1C).take 12
      let aad := (m.cmd.drop 0x38).take 8
      match s.readSome a m.addr m.len host with
      | (_, .wait, s) => s
      | (ct, .ok _, s) =>
        let pt := gcmPlain key iv ct
        (match s.writeSome a dst pt with
         | (_, .ok _, s) =>
           if gcmTag key iv aad ct != (m.cmd.drop 0x28).take 16 then
             (((s.writeSome a dst (List.replicate m.len 0)).2.2).secEvent R.SEC_EVENT_AUTH_FAIL).mgmtAnswer m 9 0 0x15
           else
             let dig := shake256 32 pt
             let s := s.setInfo p c { i with weights := i.weights ++ [(dig, m.len, m.nat 0x38 8)] }
             s.mgmtAnswer m 0 (leNat (dig.take 8)) i.weights.length
         | (n, r, s) => s.decryptFail m a dst n r dst)
      | (ct, r, s) =>
        let (n, _, s) := s.writeSome a dst (gcmPlain key iv ct)
        s.decryptFail m a dst n r m.addr

/-- DECRYPT_WEIGHTS: the first issue takes the command up, the next runs the job of the crypto engine. -/
def execDecryptWeights (part : Nat) (host : List (BitVec 8)) (s : State) : Result :=
  within s (decide (part < 64)) (match s.decryptJob part with
    | some m => s.orWait (fun s => s.decryptWeights m host)
    | none => s.onMgmt part (· == 0x42) (fun m => m.unusedSet true true true 3 0x40 || m.len == 0 || m.len % 64 != 0 ||
        m.nat 0x14 8 % 64 != 0 || decide (2 ^ 47 ≤ m.nat 0x14 8)) true State.decryptStart)

/-! ### Sideband, I3C and the test port (R424, R510, R517, R574, R575) -/

/-- ATTEST over the sideband: removed and acknowledged as any frame; while a signature can be made, its payload is signed and the signature goes back in
ATTEST frames (R424, R501; log entry 36). -/
def execAttestFrame (crcOk : Bool) (dest src seq : Nat) (payload : List (BitVec 8)) (s : State) : Result :=
  within s (decide (dest < 256) && decide (src < 256)) (s.sbrFrame crcOk 3 src dest (seq % 2 ^ 16) payload (fun s =>
    match s.signer with
    | none => s
    | some key =>
      if s.signSpent || s.tokens == 0 || s.rdB R.SEC_STATUS_ACTIVATING 0 then s.bump R.SEC_ATT_BUSY 0 [] 1
      else
        let (i, s) := s.takeIndex
        let sig := signature key i payload
        s.each (List.range 42) (fun s k => s.sideSend 3 src ((sig.drop (240 * k)).take 240))))

/-- MCTP over I3C: the messages of sideband MGMT frames; in END_OF_LIFE identity queries only. -/
def execI3cMctp (query restore same : Bool) (granules : Nat) (s : State) : Result :=
  within s true (s.orWait (fun s =>
    if query then s.send (.i3c (leBytes 8 (s.rd R.LCS_SERIAL 0) ++ leBytes 1 s.lcs))
    else if s.lcs = 3 then s
    else if restore then s.knlServe same granules
    else s.send (.mgmt 0 3 0 0)))

/-- Every confidential context of the package is touched. -/
def State.touchAll (s : State) : State :=
  s.each (List.range 64) (fun s p => s.each (s.liveCtxs p) (fun s c => s.touchCtx p c))

/-- Whether the test port reaches a die (target 0) or one of its bays, B(2n) and B(2n + 1): without VDD_IO HD0 alone; a bay whose rail is off is
left out of the network (R387). -/
def State.jtagReach (s : State) (die target : Nat) : Bool :=
  (s.rdB R.PWR_STATUS_IO_GOOD 0 || (die == 0 && target == 0)) && (target == 0 || (s.bayInfo (2 * die + target - 1)).powered)

/-- A test-port instruction on a die or on the chiplet of one of its bays, which `Out.jtag` numbers from 4: 0 BYPASS, 1 IDCODE, 2 any other, IEEE 1687
instruments included. What an instrument returns is open. In END_OF_LIFE only IDCODE answers. -/
def execJtagInstruction (die target kind : Nat) (s : State) : Result :=
  within s (decide (die < 4) && decide (target < 3) && decide (kind < 3)) (
    let place := if target = 0 then die else 3 + 2 * die + target
    if !s.jtagReach die target then s
    else if kind = 1 then (s.useFree 1).send (.jtag place [1, Config.freeNat s.free % 2 ^ 32])
    else if s.lcs = 3 then s
    else if kind = 0 then s.send (.jtag place [0])
    else (s.touchAll.useFree 1).send (.jtag place [2, Config.freeNat s.free]))

/-! ### Life-cycle commands (R511 to R513, R515) -/

/-- LCS_ARM: 0x4C43_5300 + CMD arms that command for 1 s; any other value arms none. -/
def execLcsArm (value dt : Nat) (s : State) : Result :=
  within s (decide (value < 2 ^ 32)) (
    let s := s.at_ dt
    { s with sec := { s.sec with lcsArmed := if value / 16 = 0x4C43530 then some (value % 16, s.now) else none } })

def State.lcsResult (s : State) (reason : Nat) : State := s.wrs 0 [] [(R.LCS_RESULT_DONE, 1), (R.LCS_RESULT_REASON, reason)]

/-- A transition is open or a command runs. -/
def State.lcsBusy (s : State) : Bool := s.sec.lcsRun.isSome || s.rd R.LCS_STATE_TARGET 0 != 15

/-- A write of LCS_CMD: refused, or carried out by `go` once `pre` gives no reason against it. -/
def State.lcsCmd (s : State) (k dt : Nat) (allowed : Bool) (pre : State → Nat) (go : State → State) : State :=
  let s := s.at_ dt
  let armed := match s.sec.lcsArmed with | some (c, t) => c == k && decide (s.now ≤ t + 10 ^ 9) | none => false
  let s := { s with sec := { s.sec with lcsArmed := none } }
  if !armed then s.lcsResult 1
  else if s.lcsBusy then s.lcsResult 8
  else if !allowed then s.lcsResult 2
  else
    let r := pre s
    if r ≠ 0 then s.lcsResult r else go ({ s with sec := { s.sec with lcsRun := some k } })

/-- GEN_IDENTITY: G1 names the bank. -/
def execGenIdentity (dt : Nat) (s : State) : Result :=
  within s true (s.lcsCmd 1 dt (s.lcs == 1 && !s.sec.banks.contains 2) (fun s => if s.sec.banks.contains 0 then 0 else 7) (fun s =>
    let b := if s.sec.banks.getD 0 0 = 0 then 0 else 1
    { s with sec := { s.sec with banks := s.sec.banks.set b 1 } }))

/-- INSTALL_CERT: the certificate is read and checked as the command runs. -/
def execInstallCert (dt : Nat) (s : State) : Result :=
  within s true (s.lcsCmd 2 dt (s.lcs == 1) (fun s => if s.rdB R.LCS_STATE_ID_READY 0 then 0 else 4) id)

/-- The bytes at LCS_BLOB_ADDR, unless they lie in a quota or cannot be read. -/
def State.lcsBlob (s : State) : State × Option (List Byte) :=
  let a := s.rd R.LCS_BLOB_ADDR_ADDR 0
  let n := s.rd R.LCS_BLOB_LEN_LEN 0
  if n = 0 || decide (12288 < n) || (List.range 64).any (fun p => s.rdB R.PAR_CFG_ENABLE 0 [p] && (s.zeroRanges p).any (fun r => overlaps a n r.1 r.2)) then (s, none)
  else match s.physRead (.collar 0) a n with
    | (.ok bs, s) => (s, some bs)
    | (_, s) => (s, none)

/-- The public key of the burned identity. -/
def State.publicKey (s : State) : List Byte := padTo 68 (Config.devicePublic (1 + s.rd R.LCS_STATE_ID_BANK 0))
def State.keyDigest (s : State) : List Byte := shake256 32 s.publicKey

/-- Whether bytes are the package's identity certificate (R499). -/
def State.certOk (s : State) (b : List Byte) : Bool :=
  let n := leNat ((b.drop 4).take 4)
  leNat (b.take 4) == 0x49444331 && decide (96 ≤ n) && decide (n ≤ 10240) && decide (n ≤ b.length) && (b.drop 8).take 8 == leBytes 8 (s.rd R.LCS_SERIAL 0) &&
  decide (leNat ((b.drop 16).take 4) < 4) && (b.drop 0x14).take 68 == s.publicKey && leNat ((b.drop 0x58).take 8) == 0 &&
  Config.xmssVerify (Config.authorityKey 3 (leNat ((b.drop 16).take 4))) (b.take 96) ((b.take n).drop 96)

/-- The package serial, the key digest and "PROD", which the production token signs (R512). -/
def State.tokenBody (s : State) : List Byte :=
  leBytes 8 (s.rd R.LCS_SERIAL 0) ++ s.keyDigest ++ ([0x50, 0x52, 0x4F, 0x44] : List Nat).map (BitVec.ofNat 8)

/-- TO_PRODUCTION: the token is read and verified as the command runs. -/
def execToProduction (dt : Nat) (s : State) : Result :=
  within s true (s.lcsCmd 3 dt (s.lcs == 1) (fun s =>
    if (List.range 64).any (fun p => s.rdB R.PAR_CFG_ENABLE 0 [p]) then 3
    else if !s.rdB R.LCS_STATE_ID_READY 0 then 4
    else if s.sec.cert == .none then 5 else 0) id)

/-- Whether a blob is a production token (R512). -/
def State.tokenOk (s : State) (b : List Byte) : Bool := (List.range 4).any (fun i => Config.xmssVerify (Config.authorityKey 2 i) s.tokenBody b)

/-- TO_END_OF_LIFE: E1 is burned, nothing more is admitted, and every enabled partition is reset. -/
def execToEndOfLife (dt : Nat) (s : State) : Result :=
  within s true (s.lcsCmd 4 dt (s.lcs != 3) (fun _ => 0) (fun s =>
    let s := s.wrs 0 [] [(R.LCS_STATE_TARGET, 3), (R.LCS_STATE_LAST_MARK, 1)]
    s.each ((List.range 64).filter (fun p => s.rdB R.PAR_CFG_ENABLE 0 [p])) State.partReset))

end Sys2Proof.Machine
end

