-- ==== Sys2Proof/Machine/Start.lean ====
section
/-! DEFINITION. Package starts (R520 to R537, R570, R571), package reset (R37), rotating BIST and the life-cycle transitions up to their
last mark (R513 to R517). -/

namespace Sys2Proof.Machine

/-! ### Package reset -/

/-- Registers a package reset keeps: what OTP, boot flash and the VAUX-retained store hold, and the record of the start that they show until the next
one (R498, R500, R518, R519, R532, R538, R539, R561, R566). -/
def keptFlds : List Fld :=
  [R.SEC_STATUS_BLOCKS_USED, R.SEC_DIE_STATE_DIE_GEN, R.LCS_STATE_STATE, R.LCS_STATE_TARGET, R.LCS_STATE_LAST_MARK, R.LCS_STATE_ID_BANK, R.LCS_STATE_ID_READY,
   R.LCS_STATE_BANK_A_SPOILED, R.LCS_STATE_BANK_B_SPOILED, R.LCS_SERIAL, R.BST_STATUS_FAILED, R.BST_FUSE_GOOD, R.BST_FAIL_MAP, R.BST_NEXT_NEXT_COLD,
   R.HUB_POS_FUSED_POS, R.MEM_PORT_STATUS_RETIRED, R.AGE_STATUS_VALID, R.AGE_STATUS_DAYS, R.AGE_EOL_EOL_DAYS, R.AGE_EOL_FIT_DAY, R.AGE_EOL_BAND_HIGH, R.AGE_EOL_BAND_LOW,
   R.AGE_EOL_SOURCE_KIND, R.AGE_EOL_SOURCE_INDEX, R.AGE_SENSOR_MARGIN0, R.AGE_SENSOR_MARGIN, R.AGE_STACK_HOURS_85, R.AGE_STACK_HOURS_90, R.AGE_STACK_RET,
   R.AGE_LANE_HBM, R.AGE_LANE_RING, R.AGE_LANE_BAY, R.AGE_LANE_TORUS]

/-- Clusters of a die the fail map names. -/
def State.failBit (s : State) (d i : Nat) : Bool := bit (s.rd R.BST_FAIL_MAP d [i / 32]) (i % 32)

/-- Every die is reset (R37): registers and volatile state return to their reset values; DRAM is kept in self-refresh (R252), but for what the stack
caches had not written back. The package then waits for its start. -/
def State.packageReset (s : State) : State :=
  let s := s.each (List.range 4) State.stcLost
  let r := State.reset
  { r with
      regs := SMap.keep (inFlds keptFlds) s.regs, free := s.free, dram := s.dram, ue := s.ue, nextUid := s.nextUid, nextId := s.nextId, nextKey := s.nextKey,
      population := s.population, revFloor := s.revFloor, deadChans := s.deadChans, knlLog := s.knlLog,
      host := { r.host with wakeLow := s.host.wakeLow, wake := s.host.wake },
      sec := { s.sec with tokens := r.sec.tokens, tokenAt := 0, staging := none, staged := false, activateDue := false, lcsArmed := none, lcsRun := none },
      boot := { s.boot with starting := true, bists := [], failed := [], coordSet := false, engines := [], wavedAt := [] },
      heat := { r.heat with ageLow := s.heat.ageLow },
      out := s.out, pending := s.pending }

/-- VAUX comes within range after it was lost: Collar's VAUX-retained store is invalid, the receiver of the sideband ring listens and I3C answers, and
MAIN_PWRGD has not risen (R423, R520, R570). -/
def State.vauxOn (s : State) : State :=
  let s := { (s.packageReset) with dram := [], ue := [] }
  let s := { s with boot := { s.boot with vauxLost := true, storeGood := false, mainOff := true }, sec := { s.sec with signNext := none },
                    host := { s.host with wakeLow := false, wake := none } }
  (s.wr R.SBR_STATUS_STATE 0 [] 1).wr R.BST_NEXT_NEXT_COLD 0 [] 0

def execVauxPowerOn (s : State) : Result := within s true s.vauxOn

/-- MAIN_PWRGD falls: Collar saves the store if the rails hold for 1 ms, drops the enables and asserts package reset; memory loses its contents. In
D3hot the wake sources are stored first (R460, R571). -/
def execPowerDown (inTime : Bool) (s : State) : Result :=
  within s true (
    if s.boot.mainOff then s
    else
      let ports := if (List.range 64).any (fun ch => s.rdB R.TOR_S_CFG_ENABLE 0 [ch]) then (List.range 8).filter s.torUp else []
      let armed := s.rd R.PCI_STATUS_DSTATE 0 == 3 && bit (s.cfgGet 0 9) 8
      let wake := if armed then some (s.rdB R.PCI_CTRL_WAKE_SBR 0, s.rdB R.PCI_CTRL_WAKE_STREAM 0, ports) else none
      let s := { (s.packageReset) with dram := [], ue := [] }
      { s with boot := { s.boot with mainOff := true, storeGood := s.boot.storeGood && inTime }, host := { s.host with wake := wake } })

/-- MAIN_PWRGD has risen, or a package reset has ended: the lead Collar decides between cold and warm (R520); every die's DIE_GEN rises (R498). -/
def execPackageStart (s : State) : Result :=
  within s true (
    if !(s.boot.starting && s.rd R.BST_START_STEP 0 == 1 && !s.rdB R.BST_START_FAILED 0) then s
    else
      let cold := s.boot.vauxLost || !s.boot.storeGood || !s.boot.reached || s.rdB R.BST_NEXT_NEXT_COLD 0
      let s := if s.boot.storeGood && !s.boot.vauxLost then s else { s with sec := { s.sec with signNext := none } }
      let s := { s with boot := { s.boot with vauxLost := false, reached := false, mainOff := false } }
      let s := s.wr R.BST_START_COLD 0 [] (if cold then 1 else 0)
      let s := s.each (List.range 4) (fun s d => s.roll R.SEC_DIE_STATE_DIE_GEN 0 [d] 1)
      if !cold then s
      else
        let s := s.each s.boot.clearFails (fun s d => (s.each (List.range 5) (fun s i => s.wr R.BST_FAIL_MAP d [i] 0)).wr R.BST_STATUS_FAILED d [] 0)
        { s with boot := { s.boot with clearFails := [] } })

/-! ### Failures of a start (R525) -/

def State.startReg (s : State) : Nat :=
  s.regVal 0 [] [R.BST_START_STEP, R.BST_START_DIE, R.BST_START_COLD, R.BST_START_FALLBACK, R.BST_START_FAILED, R.BST_START_ELAPSED_MS]

/-- The start ends FATAL-PACKAGE: BST_START keeps the step and the die. -/
def State.startFail (s : State) (d scope : Nat) : State :=
  let s := s.wrs 0 [] [(R.BST_START_FAILED, 1), (R.BST_START_DIE, d)]
  s.err 0 (.plain 10 5 3 scope s.startReg)

/-- BST_EVENT, and a CE record of one of its bits. -/
def State.bstReg (s : State) (d : Nat) : Nat := s.regVal d [] [R.BST_EVENT_DEGRADED, R.BST_EVENT_KAT_FAIL, R.BST_EVENT_START_FAIL, R.BST_EVENT_SLICE_FAIL]
def State.bstErr (s : State) (d code scope : Nat) : State := s.err d (.plain 7 code 0 scope (s.bstReg d))

/-- A physical cluster enters the fail map (R532). -/
def State.failClu (s : State) (d i : Nat) : State :=
  if s.failBit d i || decide (143 < i) then s
  else (s.wr R.BST_FAIL_MAP d [i / 32] (setBits (s.rd R.BST_FAIL_MAP d [i / 32]) (i % 32) 1 1)).bump R.BST_STATUS_FAILED d [] 1

/-! ### Clusters (R530, R531, R537) -/

def BistDie.start : BistDie :=
  { phys := List.range 128, spares := (List.range 16).map (· + 128), next := 0, target := none, tries := 0, testing := none, since := 0 }
def State.bist (s : State) (d : Nat) : BistDie := (SMap.look s.boot.bists d).getD BistDie.start
def State.setBist (s : State) (d : Nat) (b : BistDie) : State := { s with boot := { s.boot with bists := SMap.ins s.boot.bists d b } }

def State.fuseGood (s : State) (d i : Nat) : Bool := bit (s.rd R.BST_FUSE_GOOD d [i / 32]) (i % 32)

/-- SPARE, SPARES_FREE and EXPOSED follow the assignment; a cluster under test still counts as a spare. -/
def State.countSpares (s : State) (d : Nat) : State :=
  let b := s.bist d
  let n := b.spares.length
  let s := s.wrs d [] [(R.HUB_CLUSTERS_SPARE, n + (if b.testing.isSome then 1 else 0)), (R.CLU_STANDIN_SPARES_FREE, n)]
  s.wr R.HUB_CLUSTERS_EXPOSED d [] (b.phys.filter (· != 144)).length

/-- A die numbers its clusters afresh. -/
def State.numberDie (s : State) (d : Nat) : State :=
  let usable := (List.range 144).filter (fun i => s.fuseGood d i && !s.failBit d i)
  let s := s.setBist d { BistDie.start with phys := usable.take 128, spares := usable.drop 128, since := (s.bist d).since }
  let s := (s.each (List.range 4) (fun s i => s.wr R.CLU_WITHDRAWN d [i] 0)).countSpares d
  let s := s.wrs d [] [(R.CLU_STANDIN_ACTIVE, 0), (R.CLU_STANDIN_TARGET, 0)]
  if usable.length < 128 then (s.wr R.BST_EVENT_DEGRADED d [] 1).bstErr d 6 (scopeOf 9 d) else s

/-- Whether a physical cluster is powered, and the clusters of a wave that are to be: a failed one only during a start, to be retested. -/
def State.cluOn (s : State) (d i : Nat) : Bool := bit (s.rd R.PWR_CLU_ON d [i / 32]) (i % 32)
def State.setOn (s : State) (d i v : Nat) : State := s.wr R.PWR_CLU_ON d [i / 32] (setBits (s.rd R.PWR_CLU_ON d [i / 32]) (i % 32) 1 v)
def State.waveOf (s : State) (d w : Nat) : List Nat :=
  (List.range 144).filter (fun i => i % 16 == w && s.fuseGood d i && (s.boot.starting || !s.failBit d i))
/-- The next wave of a die that is not powered. -/
def State.nextWave (s : State) (d : Nat) : Option Nat := (List.range 16).find? (fun w => !(s.waveOf d w).all (s.cluOn d))

/-- The next wave of a die starts, WAVE_US after the last and once VDD_CORE is back within 2 % of its setpoint; `dt`: nanoseconds since the last
boundary. -/
def execPowerWave (die dt : Nat) (s : State) : Result :=
  within s (decide (die < 4)) (
    let t := (s.at_ dt).now
    let due := if s.boot.starting then s.rd R.BST_START_STEP 0 == 8 else s.rd R.PCI_STATUS_DSTATE 0 == 0
    if !due || !s.dieRuns die || !s.rdB R.PWR_STATUS_CORE_GOOD die then s
    else match s.nextWave die with
      | none => s
      | some w =>
        if w ≠ 0 ∧ t < SMap.get 0 s.boot.wavedAt die + s.rd R.PWR_WAVE_WAVE_US die * 1000 then s
        else ({ s with now := t, boot := { s.boot with wavedAt := SMap.put 0 s.boot.wavedAt die t } }).each (s.waveOf die w) (fun s i => s.setOn die i 1))

/-- Failed clusters are gated again once the start has retested them. -/
def State.gateFailed (s : State) (d : Nat) : State :=
  s.each ((List.range 144).filter (fun i => s.failBit d i && s.cluOn d i)) (fun s i => s.setOn d i 0)

/-! ### The steps of a start (R521 to R525) -/

/-- What the dies report at the end of a step: the last die to finish, its duration in ms, whether a die fell back to full training, whether a block without
a substitute failed, straps that are wrong (4 × die + the position sampled), AVS setpoints, package channels, physical clusters (144 × die + number), memory ports, ring-link modules
(32 × die + 16 × link + module), bays and crypto engines that failed, and spare-row repairs by die. -/
structure StepReport where
  die : Nat
  ms : Nat
  fallback : Bool
  fatal : Bool
  mis : List Nat
  vids : List Nat
  chans : List Nat
  clus : List Nat
  ports : List Nat
  mods : List Nat
  bays : List Nat
  engines : List Nat
  repairs : List Nat

/-- The dies that take part: not held under R22. -/
def State.upDies (s : State) : List Nat := (List.range 4).filter s.dieRuns

/-- A die that has sampled a position other than its own keeps it in STRAP_POS and holds itself in the reduced state (R20, R22). -/
def State.mismatch (s : State) (d pos : Nat) : State :=
  let s := ({ s with dies := SMap.put 0 s.dies d 2 }).wrs d [] [(R.HUB_POS_STRAP_POS, pos), (R.HUB_POS_MISMATCH, 1)]
  (s.unmeasure d).startFail d (scopeOf 9 d)

/-- Step 2: the Collar slot of the highest SVN that passes. -/
def State.chooseCollar (s : State) : Option Nat :=
  let ok (k : Nat) : Option Firmware := (s.slotCollar k).filter (fun f => f.passes true s.sec.collarFloor)
  match ok 0, ok 1 with
  | some a, some b => some (if a.svn true < b.svn true then 1 else 0)
  | some _, none => some 0
  | none, some _ => some 1
  | none, none => none

/-- The signing record: kept while the VAUX-retained store holds it, else the lowest counter bit is burned (R500). -/
def State.startSigning (s : State) : State :=
  let s := { s with boot := { s.boot with storeGood := true } }
  match s.sec.signNext with
  | some n => s.wr R.SEC_SIGN_LEFT_LEFT 0 [] (s.blocksUsed * 2 ^ 16 - n)
  | none =>
    if s.blocksUsed < 4096 ∧ (s.lcs = 1 ∨ s.lcs = 2) then
      let k := s.blocksUsed
      let s := { s with sec := { s.sec with signNext := some (k * 2 ^ 16) } }
      s.burnBlock.wr R.SEC_SIGN_LEFT_LEFT 0 [] (2 ^ 16)
    else s

/-- Step 3: a bank whose seed was not burned whole is spoiled (R515); the certificate is matched. -/
def State.readMarks (s : State) : State :=
  let s := s.each (List.range 2) (fun s b =>
    if s.sec.banks.getD b 0 = 1 then
      ({ s with sec := { s.sec with banks := s.sec.banks.set b 3 } }).wr (if b = 0 then R.LCS_STATE_BANK_A_SPOILED else R.LCS_STATE_BANK_B_SPOILED) 0 [] 1
    else s)
  let match_ := match s.sec.cert with | .none => false | .factory => s.rdB R.LCS_STATE_ID_READY 0 | .installed b => s.certOk b
  let s := s.wr R.LCS_STATE_CERT 0 [] (if match_ then 1 else 0)
  let s := if s.rdB R.LCS_STATE_ID_READY 0 then s.each (List.range 8) (fun s i => s.wr R.LCS_ID_DIGEST 0 [i] (leNat ((s.keyDigest.drop (4 * i)).take 4))) else s
  let t := s.rd R.LCS_STATE_TARGET 0
  if t = 2 ∨ t = 3 then { s with sec := { s.sec with lcsRun := some (t + 1) } } else s

/-- Step 4: the rails are good and the PLLs locked. -/
def State.railsUp (s : State) (vids : List Nat) : State :=
  s.each s.upDies (fun s d =>
    let v := vids.getD d 750
    let s := s.wrs d [] [(R.PWR_STATUS_FCLK_LOCK, 1), (R.PWR_STATUS_TCLK_LOCK, 1), (R.PWR_STATUS_HBM_GOOD, 1), (R.PWR_STATUS_SRAM_GOOD, 1), (R.PWR_STATUS_CORE_GOOD, 1),
      (R.PWR_STATUS_IO_GOOD, if d = 0 then 1 else 0), (R.PWR_CORE_VID_MV, max 650 (min 850 v))]
    if v < 850 then s
    else
      let s := s.wr R.PWR_EVENT_AVS_LIMIT d [] 1
      s.err d (.plain 9 2 0 (scopeOf 9 d) (s.regVal d [] [R.PWR_STATUS_FCLK_LOCK, R.PWR_STATUS_TCLK_LOCK, R.PWR_STATUS_BAY_B_GOOD, R.PWR_STATUS_BAY_A_GOOD,
        R.PWR_STATUS_HBM_GOOD, R.PWR_STATUS_SRAM_GOOD, R.PWR_STATUS_CORE_GOOD, R.PWR_STATUS_IO_GOOD, R.PWR_STATUS_VAUX_GOOD])))

/-- The channels of memory ports, retired (R525). -/
def State.retireAll (s : State) (chans : List Nat) : State := s.each (chans.filter (fun c => decide (c < 512))) State.retire
def portChans (ports : List Nat) : List Nat := ports.flatMap (fun p => (List.range 4).map (4 * p + ·))

/-- Kept records are written, now that the die's memory is in service (R546). -/
def State.heldRetry (s : State) (d : Nat) : State := s.each (s.errs.filter (fun (r : ErrRec) => r.die == d && r.wait)) State.retryErr

/-- Memory of dies has been trained and is in service; the spares a stack is left with are what training finds, and channels that fail it are
retired (R271, R274, R525). -/
def State.memTrained (s : State) (ds chans : List Nat) : State :=
  let s := s.each ds (fun s d =>
    let s := s.each (List.range 4) (fun s k => (s.useFree 2).wrs d [k]
      [(R.MEM_STACK_SPARES_ROWS, Config.freeNat s.free), (R.MEM_STACK_SPARES_LANES, Config.freeNat (s.free + 1))])
    s.memUp d)
  s.retireAll (chans.filter (fun c => ds.contains (c / 128)))

/-- The end of step 6. -/
def State.memTrain (s : State) (r : StepReport) : State :=
  let s := s.memTrained s.upDies r.chans
  let s := s.wr R.BST_START_FALLBACK 0 [] (if r.fallback && !s.rdB R.BST_START_COLD 0 then 1 else 0)
  let s := s.each s.upDies State.heldRetry
  s.each s.upDies State.admitAgain

/-- Clusters, memory ports and modules that failed a test of a start. -/
def State.testFails (s : State) (r : StepReport) (ev : Fld) (code : Nat) : State :=
  let s := s.each (r.clus.filter (fun c => decide (c < 576))) (fun s c => ((s.failClu (c / 144) (c % 144)).bump R.BST_START_RESULT_CLU_FAIL (c / 144) [] 1).wr ev (c / 144) [] 1)
  let s := s.retireAll (portChans r.ports)
  let s := s.each (r.ports.filter (fun p => decide (p < 128))) (fun s p => (s.bump R.BST_START_RESULT_PORT_FAIL (p / 32) [] 1).wr ev (p / 32) [] 1)
  let s := s.each (r.mods.filter (fun m => decide (m < 128))) (fun s m => ((s.setMod (m / 32) (m / 16 % 2) (m % 16) 0).bump R.BST_START_RESULT_MOD_FAIL (m / 32) [] 1).wr ev (m / 32) [] 1)
  let s := s.each (List.range 4) (fun s d => if s.rdB ev d then s.bstErr d code (scopeOf 9 d) else s)
  s.each (s.upDies.filter (fun d => r.clus.any (fun c => c / 144 == d))) State.numberDie

/-- READY (R462, R521): the functions answer, Device Readiness Status is sent, and the identity that signs is shown. -/
def State.ready (s : State) : State :=
  let s := s.each s.upDies State.gateFailed
  let s := (s.wr R.PCI_STATUS_READY 0 [] 1).each (List.range 64) (fun s n => s.wr R.PCI_VF_STATUS_READY 0 [n] 1)
  let s := if s.rd R.PCI_STATUS_SPEED 0 = 0 then s else s.send (.hostMsg 9 0 0)
  let s := s.wrs 0 [] [(R.SEC_STATUS_IDENTITY, if s.signer.isSome then 1 else 0), (R.SEC_STATUS_TEST_KEY, if s.signer == some 0 then 1 else 0)]
  let s := s.each (List.range 4) (fun s d => s.setBist d { s.bist d with since := s.now })
  { s with boot := { s.boot with starting := false, reached := true } }

/-- The known-answer run of step 10, on the dies that a start or a re-initialisation brings up (R524, R525). -/
def State.katFails (s : State) (r : StepReport) : State :=
  let s := s.testFails r R.BST_EVENT_KAT_FAIL 5
  let s := s.each (r.bays.filter (fun b => decide (b < 8) && s.bayLive b)) (fun s b => s.heelBay b 3 false)
  s.each (r.engines.filter (fun d => decide (d < 4))) (fun s d => (s.wr R.BST_EVENT_KAT_FAIL d [] 1).bstErr d 5 (scopeOf 9 d))

/-- What a step begins with: the training of memory and of the ring links in step 6, and the test of step 9, before which the stack caches are flushed
(R271, R273, R397). -/
def State.beginStep (s : State) (n : Nat) : State :=
  if n = 6 then (s.each s.upDies (fun s d => s.memState d 1)).each s.upDies (fun s d =>
    s.each ((List.range 2).filter (fun dir => s.rd R.DDL_STATUS_STATE d [dir] == 0)) (fun s dir => s.wr R.DDL_STATUS_STATE d [dir] 1))
  else if n = 9 then s.each s.upDies (fun s d => (s.flushStc d).memState d 4)
  else s

/-- What the end of a step does. None: the step cannot end yet. -/
def State.endStep (s : State) (n : Nat) (r : StepReport) : Option State :=
  if n = 1 then
    some (s.each (r.mis.filter (fun m => decide (m < 16) && m % 4 != m / 4)) (fun s m => s.mismatch (m / 4) (m % 4)))
  else if n = 2 then
    (match s.chooseCollar with
     | none => some (s.startFail r.die (scopeOf 7 0))
     | some k =>
       let s := { s with sec := { s.sec with collarSlot := k } }
       some ((s.each s.upDies State.measureCollar).startSigning.wr R.BST_NEXT_NEXT_COLD 0 [] 0))
  else if n = 3 then
    let s := s.readMarks
    if s.lcs = 3 ∨ (s.rd R.LCS_STATE_TARGET 0 = 3 ∧ 3 ≤ s.rd R.LCS_STATE_LAST_MARK 0) then none else some s
  else if n = 4 then some (s.railsUp r.vids)
  else if n = 6 then some (s.memTrain r)
  else if n = 7 then (if s.scrapped then none else some s)
  else if n = 8 then (if s.upDies.all (fun d => (s.nextWave d).isNone) then some (s.each s.upDies State.numberDie) else none)
  else if n = 9 then
    let s := s.each (List.range 4) (fun s d => s.wr R.BST_START_RESULT_REPAIRS d [] (min 255 (r.repairs.getD d 0)))
    let s := ({ s with dram := [], ue := [], stcLines := [] }).testFails r R.BST_EVENT_START_FAIL 5
    some (s.each s.upDies State.memUp)
  else if n = 10 then
    let s := s.katFails r
    let s := { s with boot := { s.boot with engines := r.engines } }
    some (if r.engines.contains 0 then s.startFail 0 (scopeOf 7 0) else s)
  else if n = 11 then
    if s.packLoads then some (s.each s.upDies State.measurePack) else some (s.startFail 0 (scopeOf 7 0))
  else some s

/-- The limit of a step in ms (R521): none while step 3 resumes a transition, and the cold limit of step 6 where a die falls back to full training
(R522). -/
def State.stepLimit (s : State) (n : Nat) (fallback : Bool) : Option Nat :=
  if n = 3 ∧ s.rd R.LCS_STATE_TARGET 0 ≠ 15 then none
  else if n = 6 ∧ s.rd R.BST_START_COLD 0 = 0 ∧ fallback = false then some 300
  else ([50, 800, 20, 300, 50, 6000, 102, 4, 26000, 500, 1000] : List Nat)[n - 1]?

/-- Every die has finished a step: its duration is kept, and the next begins; a warm start skips step 9. A step that took longer than its limit ends the
start (R525). -/
def State.startStep (s : State) (r : StepReport) : State :=
  let n := s.rd R.BST_START_STEP 0
  if !s.boot.starting || s.boot.mainOff || s.rdB R.BST_START_FAILED 0 || decide (11 < n) then s
  else
    let f := if n % 2 = 0 then R.BST_STEP_MS_EVEN else R.BST_STEP_MS_ODD
    let s := s.wr f 0 [(n - 1) / 2] (min 65535 r.ms)
    let s := s.wrs 0 [] [(R.BST_START_DIE, r.die), (R.BST_START_ELAPSED_MS, min (2 ^ 23 - 1) (s.rd R.BST_START_ELAPSED_MS 0 + r.ms))]
    if r.fatal || (match s.stepLimit n r.fallback with | some l => decide (l < r.ms) | none => false) then s.startFail r.die (scopeOf 7 0)
    else
      match s.endStep n r with
      | none => s
      | some s =>
        if s.rdB R.BST_START_FAILED 0 then s
        else
          let next := if n = 8 ∧ s.rd R.BST_START_COLD 0 = 0 then 10 else n + 1
          let s := (s.wr R.BST_START_STEP 0 [] next).beginStep next
          if next = 12 then s.ready else s

def execStartStep (die ms : Nat) (fallback fatal : Bool) (mis vids chans clus ports mods bays engines repairs : List Nat) (s : State) : Result :=
  within s (decide (die < 4)) (s.startStep ⟨die, ms, fallback, fatal, mis, vids, chans, clus, ports, mods, bays, engines, repairs⟩)

/-- A die passes a step's limit (R525). -/
def execStartStepTimeout (die : Nat) (s : State) : Result :=
  within s (decide (die < 4)) (
    if s.boot.starting && !s.boot.mainOff && !s.rdB R.BST_START_FAILED 0 && decide (s.rd R.BST_START_STEP 0 < 12) then s.startFail die (scopeOf 7 0) else s)

/-! ### A die comes out of reset (R20, R22, R353, R498, R523, R551) -/

/-- HD1 to HD3 is released while its island re-initialises, and after THERMAL_TRIP once it has cooled; it samples its position and numbers its clusters. -/
def execDieResetRelease (die pos : Nat) (s : State) : Result :=
  within s (decide (die < 4) && decide (pos < 4)) (
    if SMap.get 0 s.dies die != 1 || s.heat.tripped.contains die || s.rd R.COH_ISL_STATE_STATE 0 [s.island die] != 2 then s
    else
      let s := s.roll R.SEC_DIE_STATE_DIE_GEN 0 [die] 1
      if pos ≠ die then s.mismatch die pos
      else
        let s := ({ s with dies := SMap.put 0 s.dies die 0 }).wr R.HUB_POS_STRAP_POS die [] pos
        let s := ((s.measureCollar die).measurePack die).railsUp (([0, 1, 2, 3] : List Nat).map (fun d => s.rd R.PWR_CORE_VID_MV d))
        ((s.numberDie die).admitAgain die).memState die 1)

/-- Re-initialisation finishes (R353, R523): no die of the island is in reset, none of its bays is being admitted, no unit of it is left,
no partition of it still has RESET_BUSY, and the clusters of its released dies are powered, but below D0 (R459, R537). Of the dies that were released from reset, `chans` are the channels that fail training, and `clus`, `ports`,
`mods`, `bays` and `engines` what fails the known-answer run (R525). -/
def execIslandReinitDone (island : Nat) (chans clus ports mods bays engines : List Nat) (s : State) : Result :=
  within s (decide (island < 4)) (
    let ds := s.islDies island
    let ps := s.partsOf island
    let new := ds.filter (fun d => s.rd R.MEM_STATUS_STATE d == 1)
    if s.rd R.COH_ISL_STATE_STATE 0 [island] != 2 || (s.rd R.PCI_STATUS_DSTATE 0 == 0 && new.any (fun d => (s.nextWave d).isSome)) || ds.any (fun d => SMap.get 0 s.dies d != 0) ||
       s.downs.any (fun (x : Down) => x.island == island) ||
       ds.any (fun d => s.bayRd R.BAY_STATUS_STATE (2 * d) == 1 || s.bayRd R.BAY_STATUS_STATE (2 * d + 1) == 1) ||
       s.units.any (fun u => ps.contains u.part) || ps.any (fun p => s.rdB R.PAR_STATUS_RESET_BUSY 0 [p]) then s
    else
      let s := s.memTrained new chans
      let mine (n : Nat) (l : List Nat) : List Nat := l.filter (fun x => new.contains (x / n))
      let s := s.katFails ⟨0, 0, false, false, [], [], [], mine 144 clus, mine 32 ports, mine 32 mods, mine 2 bays, mine 1 engines, []⟩
      let s := { s with boot := { s.boot with engines := s.boot.engines.filter (fun d => !new.contains d) ++ (mine 1 engines).dedup } }
      let s := s.each new State.heldRetry
      let s := { s with dirs := s.dirs.filter (fun e => match s.decode (e.1 * 64) with | some (q, _) => s.island (qDie q) != island | none => false) }
      let s := s.each ((List.range 512).filter (fun c => s.island (cluDie c) == island)) State.scrubNow
      let s := s.each ps State.raiseGen
      s.wr R.COH_ISL_STATE_STATE 0 [island] 0)

/-! ### Rotating BIST (R85, R86, R533 to R536) -/

/-- Thermal protection is active on a die (R553, R554, R576). -/
def State.hot (s : State) (d : Nat) : Bool := s.rd R.ERR_THERMAL_LEVEL d != 0 || s.heat.capOn || s.heat.prochot

/-- Why a die runs no rotating BIST: OFF_REASON, 0 for none. -/
def State.rotReason (s : State) (d : Nat) : Nat :=
  if !s.rdB R.BST_CTRL_ROT_ENABLE d then 1
  else if s.rd R.HUB_CLUSTERS_SPARE d < 2 then 2
  else if s.rd R.PCI_STATUS_DSTATE 0 ≠ 0 then 3
  else if s.hot d then 4
  else if s.rd R.MEM_STATUS_STATE d ≠ 2 then 5
  else 0

/-- ROT_STATE and OFF_REASON show what the rotation does. -/
def State.rotShow (s : State) (d : Nat) : State :=
  if !s.dieRuns d || !s.rdB R.PCI_STATUS_READY 0 then s
  else
    let b := s.bist d
    let k := s.rotReason d
    let st := if b.testing.isSome then 3 else if b.target.isSome then 2 else if k = 0 then 1 else if k = 3 ∨ k = 4 then 4 else 0
    if s.rd R.BST_STATUS_ROT_STATE d = st ∧ s.rd R.BST_STATUS_OFF_REASON d = k then s
    else s.wrs d [] [(R.BST_STATUS_ROT_STATE, st), (R.BST_STATUS_OFF_REASON, k)]

/-- The exposed numbers a die has. -/
def BistDie.numbers (b : BistDie) : List Nat := (List.range b.phys.length).filter (fun i => b.phys.getD i 144 != 144)

/-- Nominate the next exposed number, in rising order and round again. -/
def State.nominate (s : State) (d : Nat) : State :=
  let b := s.bist d
  if !s.rdB R.PCI_STATUS_READY 0 || !s.dieRuns d || s.rotReason d != 0 || b.target.isSome || b.testing.isSome then s.rotShow d
  else
    let l := b.numbers
    match (l.find? (fun i => decide (b.next ≤ i))).or l.head? with
    | none => s
    | some t => ((s.setBist d { b with target := some t, tries := 0, next := t + 1 }).wr R.CLU_STANDIN_TARGET d [] t).rotShow d

/-- INTERVAL_MS after READY or the end of the last slice (R533); `dt`: nanoseconds since the last boundary. -/
def execBistNominate (die dt : Nat) (s : State) : Result :=
  within s (decide (die < 4)) (
    if (s.at_ dt).now < (s.bist die).since + s.rd R.BST_ROT_CFG_INTERVAL_MS die * 10 ^ 6 then s else s.nominate die)

/-- A boundary tries the swap of a die's target: a scrubbed spare takes its number, and the target goes to test (R85, R86). -/
def State.standinBoundary (s : State) (d : Nat) : State :=
  let b := s.bist d
  match b.target, b.spares with
  | some t, sp :: rest =>
    let c := 128 * d + t
    if (s.clu c).unit.isNone && (s.rdClu R.CLU_STATUS_STATE c == 0 || s.rdClu R.CLU_STATUS_STATE c == 6) then
      let s := (s.setBlocked c false).scrubNow c
      let s := s.setBist d { b with phys := b.phys.set t sp, spares := rest, target := none, tries := 0, testing := some (b.phys.getD t 144, t) }
      ((s.wr R.CLU_STANDIN_ACTIVE d [] 1).countSpares d).rotShow d
    else s.setBist d { b with tries := b.tries + 1 }
  | _, _ => s

/-- After 16 boundaries without a swap the target is admitted no new unit. -/
def execStandinBlock (die : Nat) (s : State) : Result :=
  within s (decide (die < 4)) (
    let b := s.bist die
    match b.target with
    | some t => if 16 ≤ b.tries then s.setBlocked (128 * die + t) true else s
    | none => s)

/-- A target still HELD after 64 boundaries is given up for the next number. -/
def execBistNominationWithdraw (die : Nat) (s : State) : Result :=
  within s (decide (die < 4)) (
    let b := s.bist die
    match b.target with
    | some t =>
      let c := 128 * die + t
      if 64 ≤ b.tries ∧ s.rdClu R.CLU_STATUS_STATE c = 5 then
        let s := s.setBlocked c false
        (s.setBist die { b with target := none, tries := 0 }).nominate die
      else s
    | none => s)

/-- A slice ends (R535), `dt` nanoseconds after the last boundary. -/
def execBistSliceDone (die : Nat) (pass : Bool) (dt : Nat) (s : State) : Result :=
  within s (decide (die < 4)) (
    let b := { s.bist die with since := (s.at_ dt).now }
    match b.testing with
    | none => s
    | some (i, t) =>
      let s := (s.bump R.BST_SLICES die [] 1).wr R.CLU_STANDIN_ACTIVE die [] 0
      if pass then ((s.setBist die { b with testing := none, spares := b.spares ++ [i] }).countSpares die).rotShow die
      else
        let s := ((s.setBist die { b with testing := none }).countSpares die).failClu die i
        let s := (s.wr R.BST_EVENT_SLICE_FAIL die [] 1).bump R.BST_SLICE_FAILS die [] 1
        ((s.gateFailed die).bstErr die 4 (scopeOf 8 (128 * die + t))).rotShow die)

/-- CLEAR_FAILS: the fail map is emptied at the next cold start. -/
def execBstClearFails (die : Nat) (s : State) : Result :=
  within s (decide (die < 4)) (if s.boot.clearFails.contains die then s else { s with boot := { s.boot with clearFails := s.boot.clearFails ++ [die] } })

/-- CLEAR_STATS of BST (R538). -/
def execBstClearStats (die : Nat) (s : State) : Result := within s (decide (die < 4)) (s.clear die [R.BST_SLICES, R.BST_SLICE_FAILS])

/-! ### Life-cycle transitions (R513 to R517) -/

def State.mark (s : State) (k : Nat) : State := s.wr R.LCS_STATE_LAST_MARK 0 [] k

/-- The state cells read END_OF_LIFE: no link, no bay, no cluster and no stack is left running, and PCIe is held in reset (R517). -/
def State.scrapNow (s : State) : State :=
  let s := s.wrs 0 [] [(R.LCS_STATE_STATE, 3), (R.LCS_STATE_TARGET, 15), (R.LCS_STATE_LAST_MARK, 0), (R.PCI_STATUS_READY, 0)]
  s.linkOff.each (List.range 4) (fun s d =>
    let s := s.each (List.range 5) (fun s i => s.wr R.PWR_CLU_ON d [i] 0)
    let s := s.each (List.range 2) (fun s k => (s.wrs d [k] [(R.BAY_STATUS_STATE, 0), (R.DDL_STATUS_STATE, 0), (R.DDL_TX_MODS, 0), (R.DDL_RX_MODS, 0)]).wr R.TOR_PORT_STATUS_STATE d [k] 0)
    (s.wr R.MEM_STATUS_STACK_UP d [] 0).memState d 0)

/-- The next mark of the END_OF_LIFE transition. E1 and E2 wait until the start has trained memory. -/
def State.scrapStep (s : State) : State :=
  let m := s.rd R.LCS_STATE_LAST_MARK 0
  if m ≤ 2 ∧ s.boot.starting = true ∧ s.rd R.BST_START_STEP 0 < 7 then s
  else if m = 1 then
    let s := { s with sec := { s.sec with banks := [3, 3], testId := false } }
    let s := { s with ctxs := s.ctxs.map (fun (e : Nat × CtxInfo) => (e.1, { e.2 with key := none, slots := [] })) }
    (s.wrs 0 [] [(R.LCS_STATE_ID_READY, 0), (R.SEC_STATUS_IDENTITY, 0), (R.SEC_STATUS_TEST_KEY, 0)]).mark 2
  else if m = 2 then ({ s with dram := [], ue := [], stcLines := [] }).mark 3
  else if m = 3 then
    (({ s with sec := { s.sec with collarSlots := [none, none], packSlots := [none, none], cert := .none, staged := false } }).wr R.LCS_STATE_CERT 0 [] 0).mark 4
  else if m = 4 then ({ s with boot := { s.boot with storeGood := false } }).mark 5
  else
    let s := (s.lcsResult 0).scrapNow
    { s with sec := { s.sec with lcsRun := none } }

/-- A life-cycle command finishes, or a transition burns its next mark. -/
def State.lcsDone (s : State) : State :=
  match s.sec.lcsRun with
  | none => s
  | some k =>
    let s' := ({ s with sec := { s.sec with lcsRun := none } })
    if k = 1 then
      match (List.range 2).find? (fun b => s.sec.banks.getD b 0 == 1) with
      | none => s'.lcsResult 0
      | some b =>
        let s := ({ s' with sec := { s'.sec with banks := s'.sec.banks.set b 2 } }).wrs 0 [] [(R.LCS_STATE_ID_READY, 1), (R.LCS_STATE_ID_BANK, b)]
        (s.each (List.range 8) (fun s i => s.wr R.LCS_ID_DIGEST 0 [i] (leNat ((s.keyDigest.drop (4 * i)).take 4)))).lcsResult 0
    else if k = 2 then
      let (s, blob) := s'.lcsBlob
      match blob with
      | some b =>
        if s.certOk b then
          (({ s with sec := { s.sec with cert := .installed (b.take (leNat ((b.drop 4).take 4))) } }).wr R.LCS_STATE_CERT 0 [] 1).lcsResult 0
        else s.lcsResult 5
      | none => s.lcsResult 5
    else if k = 3 then
      if s.boot.starting then s
      else if s.rd R.LCS_STATE_TARGET 0 = 15 then
        -- the token is verified: P1
        match s.lcsBlob with
        | (s, some b) => if s.tokenOk b then s.wrs 0 [] [(R.LCS_STATE_TARGET, 2), (R.LCS_STATE_LAST_MARK, 1)] else ({ s with sec := { s.sec with lcsRun := none } }).lcsResult 6
        | (s, none) => ({ s with sec := { s.sec with lcsRun := none } }).lcsResult 6
      else if s.rd R.LCS_STATE_LAST_MARK 0 = 1 then
        (({ s with sec := { s.sec with testId := false, signNext := none } }).wr R.SEC_STATUS_BLOCKS_USED 0 [] 0).mark 2
      else ((s'.wrs 0 [] [(R.LCS_STATE_STATE, 2), (R.LCS_STATE_TARGET, 15), (R.LCS_STATE_LAST_MARK, 0)]).lcsResult 0).packageReset
    else s.scrapStep

def execLcsCommandDone (s : State) : Result := within s true (s.orWait State.lcsDone)

end Sys2Proof.Machine
end

