-- ==== Sys2Proof/Machine/Ras.lean ====
section
/-! DEFINITION. Errors, containment and health (R541 to R567, R569, R576): error queues, die resets, heat and power, cluster failures, the Pack
watchdog, telemetry and ageing. -/

namespace Sys2Proof.Machine

/-! ### Error queues (R543, R546, R564) -/

/-- Kept records are tried again (R546). -/
def execHeldRecordRetry (die : Nat) (s : State) : Result := within s (decide (die < 4)) (s.heldRetry die)

/-- A write of ERR_Q_ACK: dropped if beyond ERR_Q_HEAD; else the records it counts are handled, and folding into them ends. -/
def State.errAck (s : State) (d src v : Nat) : State :=
  let v := v % 2 ^ 32
  let old := s.rd R.ERR_Q_ACK d [src]
  let n := (v + 2 ^ 32 - old) % 2 ^ 32
  if s.unhandled d src < n then s.cfgErr .ERR d [] (R.ERR_Q_ACK.offset [src])
  else
    let s := s.wr R.ERR_Q_ACK d [src] v
    let s := { s with errs := s.errs.filter (fun (r : ErrRec) => !(r.die == d && r.src == src && !r.wait && decide ((r.n + 2 ^ 32 - old) % 2 ^ 32 < n))) }
    s.wr R.ERR_Q_STATUS_UNHANDLED d [src] (s.unhandled d src)

def execErrQAck (die source value : Nat) (s : State) : Result :=
  within s (decide (die < 4) && decide (source < 11) && decide (value < 2 ^ 32)) (if s.dieRuns die then s.errAck die source value else s)

/-- CLEAR_STATS of ERR (R564). -/
def execErrClearStats (die : Nat) (s : State) : Result :=
  within s (decide (die < 4)) ((s.clearAll die [R.ERR_Q_STATUS_LOST]).wr R.ERR_WDT_RESETS die [] 0)

/-! ### Die reset (R550 to R552) -/

/-- Registers a die reset keeps: the health history and the fail map, the fuse map, the bays' Heel, the owners of its clusters, and a Pack that is given
up until the next package reset (R552, R559, R561). -/
def dieKept : List Fld :=
  keptFlds ++ [R.BAY_STATUS_STATE, R.BAY_STATUS_HEEL_CAUSE, R.BAY_STATUS_BGEN, R.LSH_M_CFG_PARTITION, R.LSH_M_CFG_STRICT, R.CLU_STATUS_PARTITION, R.PWR_CORE_VID_MV]

/-- The cause record of a reset, which the lead Collar writes (R551). -/
def State.causeRecord (s : State) (d cause : Nat) : State :=
  let d0 := if cause = 9 * 256 + 4 then s.regVal d [] [R.ERR_THERMAL_TEMP, R.ERR_THERMAL_LEVEL, R.ERR_THERMAL_TCLK_16, R.ERR_THERMAL_THROTTLE_C] else d
  s.err 0 (.plain (cause / 256) (cause % 256) 2 (scopeOf 9 d) d0)

/-- HD1 to HD3 is reset: its bays enter Heel with cause ISLAND, its neighbours lose their edges, its island goes down, and its registers and records
are lost. -/
def State.dieReset (s : State) (d cause : Nat) : State :=
  let i := s.island d
  let s := s.causeRecord d cause
  let s := s.each ([2 * d, 2 * d + 1].filter (fun b => s.bayRd R.BAY_STATUS_STATE b == 1 || s.bayLive b)) (fun s b => s.heelBay b 8 false)
  let s := if d = 2 then s.knlAbandon else s
  let s := { s with dies := SMap.put 0 s.dies d 1 }
  let s := s.takeDown i (if cause = 10 * 256 + 4 then 5 else 4) (dieNode d) 0 (s.recDie i)
  let s := (s.linkLost ((d + 1) % 4) 1).linkLost ((d + 3) % 4) 0
  let gaveUp := s.rd R.ERR_WDT_PACK_STATE d == 2
  let mine (k : Nat) : Bool := decide (d * 2 ^ 29 ≤ k) && decide (k < (d + 1) * 2 ^ 29) && !inFlds dieKept (k - d * 2 ^ 29)
  let s := s.stcLost d
  let s := { s with regs := SMap.keep (fun k => !mine k) s.regs, shadow := SMap.keep (fun k => !mine k) s.shadow,
                    errs := s.errs.filter (fun (r : ErrRec) => r.die != d), tlbs := s.tlbs.filter (fun x => x.1 != d && !(decide (4 + 128 * d ≤ x.1) && decide (x.1 < 132 + 128 * d))) }
  let s := { s with walks := s.walks.filter (fun x => x.1 != d), ringMods := SMap.keep (fun k => k / 32 != d) s.ringMods,
                    torPorts := SMap.keep (fun k => k / 2 != d) s.torPorts, torRx := s.torRx.filter (fun (p : TorPacket) => p.port / 2 != d) }
  let s := { s with leash := SMap.keep (fun k => k / 548 != d) s.leash, loopbacks := s.loopbacks.filter (fun p => p / 32 != d), rowCe := s.rowCe.filter (fun (r : RowCe) => qDie r.q != d) }
  let s := { s with boot := { s.boot with bists := SMap.del s.boot.bists d, failed := s.boot.failed.filter (fun c => cluDie c != d) },
                    heat := { s.heat with tclkDie := SMap.del s.heat.tclkDie d, tclkAt := SMap.del s.heat.tclkAt d, hotReads := SMap.del s.heat.hotReads d, telSlots := SMap.del s.heat.telSlots d, resets := s.heat.resets.filter (fun x => x.1 != d) } }
  let s := if gaveUp then s.wr R.ERR_WDT_PACK_STATE d [] 2 else s
  ((s.unmeasure d).recapDie d).buddy

/-- A cause of R550: on HD0 a package reset; a die in reset meets none. -/
def State.askReset (s : State) (d cause : Nat) : State :=
  if d = 0 then s.packageReset
  else if SMap.get 0 s.dies d = 1 || s.heat.resets.any (fun x => x.1 == d) then s
  else { s with heat := { s.heat with resets := s.heat.resets ++ [(d, cause)] } }

/-- The die enters reset for the cause that was found. -/
def execDieReset (die : Nat) (s : State) : Result :=
  within s (decide (die < 4)) (match s.heat.resets.find? (fun x => x.1 == die) with
    | some x => s.dieReset die x.2
    | none => s)

/-- DIE_RESET bits of ERR_PKG_CTRL; bit 0 is ignored. -/
def execDieResetWrite (value : Nat) (s : State) : Result :=
  within s (decide (value < 2 ^ 32)) (s.each (([1, 2, 3] : List Nat).filter (bit value)) (fun s d => s.askReset d (10 * 256 + 3)))

/-- A PLL unlocks, or the reference clock is absent. -/
def execClockLoss (die : Nat) (s : State) : Result := within s (decide (die < 4)) (s.askReset die (10 * 256 + 4))

/-- A deputy Collar is silent. -/
def execDeputySilent (die : Nat) (s : State) : Result :=
  within s (decide (die < 4)) (if die = 0 || !s.dieRuns die then s else s.askReset die (10 * 256 + 3))

def State.pwrReg (s : State) (d : Nat) : Nat :=
  s.regVal d [] [R.PWR_STATUS_FCLK_LOCK, R.PWR_STATUS_TCLK_LOCK, R.PWR_STATUS_BAY_B_GOOD, R.PWR_STATUS_BAY_A_GOOD, R.PWR_STATUS_HBM_GOOD, R.PWR_STATUS_SRAM_GOOD,
    R.PWR_STATUS_CORE_GOOD, R.PWR_STATUS_IO_GOOD, R.PWR_STATUS_VAUX_GOOD]
/-- A rail of die `d` has failed: RAIL_FAULT there, and a record of the die that still runs (R542, R551). -/
def State.railRecord (s : State) (d by_ scope : Nat) : State := (s.wr R.PWR_EVENT_RAIL_FAULT d [] 1).err by_ (.plain 9 1 0 scope (s.pwrReg d))

/-- A rail leaves its operating range after step 4 (R549, R569): 0 VDD_CORE and 1 HBM4 of die `n`, 2 VDD_SRAM, 3 VDD_IO, 4 VDD_BAY of bay `n`, 5 VAUX. -/
def execRailFault (rail n : Nat) (s : State) : Result :=
  within s (decide (rail < 6) && decide (n < 8)) (
    if s.boot.mainOff || (s.boot.starting && decide (s.rd R.BST_START_STEP 0 ≤ 4) && rail != 5) then s
    else if rail ≤ 1 then
      if 4 ≤ n ∨ s.dieRuns n = false then s
      else
        let s := s.wr (if rail = 0 then R.PWR_STATUS_CORE_GOOD else R.PWR_STATUS_HBM_GOOD) n [] 0
        if n = 0 then (s.railRecord 0 0 (scopeOf 9 0)).packageReset
        else (s.railRecord n 0 (scopeOf 9 n)).askReset n (10 * 256 + 3)
    else if rail = 4 then
      let d := n / 2
      if !s.dieRuns d then s
      else
        let s := (s.wr (if n % 2 = 0 then R.PWR_STATUS_BAY_A_GOOD else R.PWR_STATUS_BAY_B_GOOD) d [] 0).railRecord d d (scopeOf 2 n)
        if s.bayRd R.BAY_STATUS_STATE n ≠ 4 ∨ s.rd R.COH_ISL_STATE_STATE 0 [s.island d] = 1 then s
        else (s.err d { (Err.plain 2 6 2 (scopeOf 2 n) (s.bayStatus n)) with escalated := true }).takeDown (s.island d) 7 (bayNode n) 0 d
    else if rail = 5 then
      let s := s.packageReset
      { s with boot := { s.boot with vauxLost := true, storeGood := false }, sec := { s.sec with signNext := none } }
    else s.packageReset)

/-! ### Heat and power (R553, R554, R576) -/

def State.tclkDie (s : State) (d : Nat) : Nat := SMap.get 16 s.heat.tclkDie d

/-- TCLK of a die: 4/16 at HOLD, else the lower of what its own controller and the package ask for. -/
def State.tclkShow (s : State) (d : Nat) : State :=
  let v := if s.rd R.ERR_THERMAL_LEVEL d = 2 then 4 else min (s.tclkDie d) s.heat.tclkCap
  if s.rd R.ERR_THERMAL_TCLK_16 d = v then s else s.wr R.ERR_THERMAL_TCLK_16 d [] v

/-- The level after a reading, with the hysteresis of R553. -/
def nextLevel (old temp throttle : Nat) : Nat :=
  if 100 ≤ temp ∨ (old = 2 ∧ 97 ≤ temp) then 2
  else if throttle ≤ temp ∨ (1 ≤ old ∧ throttle ≤ temp + 3) then 1
  else 0

def State.thermalReg (s : State) (d : Nat) : Nat :=
  s.regVal d [] [R.ERR_THERMAL_TEMP, R.ERR_THERMAL_LEVEL, R.ERR_THERMAL_TCLK_16, R.ERR_THERMAL_THROTTLE_C]

/-- A reading of a die's hottest hub sensor. A die held after THERMAL_TRIP may be released once it reads below 90 °C (R551). -/
def State.thermalSample (s : State) (d temp : Nat) : State :=
  if SMap.get 0 s.dies d = 1 then
    if temp < 90 then { s with heat := { s.heat with tripped := s.heat.tripped.filter (· != d) } } else s
  else
    let old := s.rd R.ERR_THERMAL_LEVEL d
    let new := nextLevel old temp (s.rd R.ERR_THERMAL_THROTTLE_C d)
    let s := { s with heat := { s.heat with hotReads := SMap.put 0 s.heat.hotReads d (if 105 ≤ temp then SMap.get 0 s.heat.hotReads d + 1 else 0) } }
    let s := (s.wrs d [] [(R.ERR_THERMAL_TEMP, min 255 temp), (R.ERR_THERMAL_LEVEL, new)]).tclkShow d
    let s := if new = 2 ∧ old ≠ 2 then
        s.each ([2 * d, 2 * d + 1].filter s.bayLive) (fun s b =>
          let x := s.bayInfo b
          let half := min (classLimit x.cls) (s.bayRd R.BAY_PLIMIT b) / 2
          (s.setBay b { x with plimit := half }).ctl b 0x8C half)
      else s
    if old < new then
      let s := s.wr R.ERR_EVENT_THERMAL d [] 1
      s.err d (.plain 9 3 0 (scopeOf 9 d) (s.thermalReg d))
    else s

def execThermalSample (die temp : Nat) (s : State) : Result := within s (decide (die < 4)) (s.thermalSample die temp)

/-- A timer of TCLK has run since its last step, `dt` nanoseconds after the last boundary: it steps now. -/
def State.tclkStep (s : State) (k wait dt : Nat) (f : State → State) : State :=
  let t := (s.at_ dt).now
  match SMap.look s.heat.tclkAt k with
  | some l => if t < l + wait then s else f { s with now := t, heat := { s.heat with tclkAt := SMap.ins s.heat.tclkAt k t } }
  | none => f { s with now := t, heat := { s.heat with tclkAt := SMap.ins s.heat.tclkAt k t } }

/-- A timer of R553 or R554 moves TCLK by 1/16: a die's own, every 100 µs down and every 1 ms up, or the package's, every 1 ms down and every 10 ms
up. -/
def execTclkAdjust (package : Bool) (die dt : Nat) (s : State) : Result :=
  within s (decide (die < 4)) (
    if package then
      if s.heat.prochot then s
      else s.tclkStep 4 (if s.heat.capOn then 10 ^ 6 else 10 ^ 7) dt (fun s =>
        let v := if s.heat.capOn then max 8 (s.heat.tclkCap - 1) else min 16 (s.heat.tclkCap + 1)
        ({ s with heat := { s.heat with tclkCap := v } }).each s.upDies State.tclkShow)
    else if !s.dieRuns die then s
    else s.tclkStep die (if 1 ≤ s.rd R.ERR_THERMAL_LEVEL die then 10 ^ 5 else 10 ^ 6) dt (fun s =>
      let v := if 1 ≤ s.rd R.ERR_THERMAL_LEVEL die then max 8 (s.tclkDie die - 1) else min 16 (s.tclkDie die + 1)
      ({ s with heat := { s.heat with tclkDie := SMap.put 16 s.heat.tclkDie die v } }).tclkShow die))

/-- The die has read 105 °C for 100 µs, ten readings: reset, on HD0 of the package. -/
def execThermalTrip (die : Nat) (s : State) : Result :=
  within s (decide (die < 4)) (
    if SMap.get 0 s.heat.hotReads die < 10 || !s.dieRuns die then s
    else if die = 0 then (s.err 0 (.plain 9 4 3 (scopeOf 9 0) (s.thermalReg 0))).packageReset
    else ({ s with heat := { s.heat with tripped := if s.heat.tripped.contains die then s.heat.tripped else s.heat.tripped ++ [die] } }).askReset die (9 * 256 + 4))

/-- An episode of the power cap or of PROCHOT_N: POWER_CAP and its record. -/
def State.capRecord (s : State) : State :=
  (s.wr R.ERR_PKG_EVENT_POWER_CAP 0 [] 1).err 0 (.plain 9 5 0 (scopeOf 7 0) (s.regVal 0 [] [R.ERR_PKG_POWER_LIMIT_W, R.ERR_PKG_POWER_POWER_W]))

/-- The sum of package power over a millisecond: above LIMIT_W for 10 ms a cap begins, and it ends below LIMIT_W. -/
def execPkgPowerSample (power : Nat) (s : State) : Result :=
  within s true (
    let s := s.wr R.ERR_PKG_POWER_POWER_W 0 [] (min 65535 power)
    let lim := s.rd R.ERR_PKG_POWER_LIMIT_W 0
    let n := if lim < power then s.heat.overMs + 1 else 0
    let s := { s with heat := { s.heat with overMs := n } }
    if s.heat.capOn then (if power < lim then { s with heat := { s.heat with capOn := false } } else s)
    else if 10 ≤ n then ({ s with heat := { s.heat with capOn := true } }).capRecord
    else s)

/-- PROCHOT_N has been low for 1 ms. -/
def execProchot (s : State) : Result :=
  within s true (
    if s.heat.prochot then s
    else (({ s with heat := { s.heat with prochot := true, tclkCap := min 8 s.heat.tclkCap } }).each s.upDies State.tclkShow).capRecord)

/-- PROCHOT_N has been high for 10 ms: TCLK returns under R554. -/
def execProchotRelease (s : State) : Result := within s true { s with heat := { s.heat with prochot := false } }

/-! ### Pins (R364, R460, R551, R570, R574) -/

/-- What the package drives: THERM_TRIP_N is low while a die is held after THERMAL_TRIP, WAKE# while a wake waits for PERST#, BAY_EN of a bay is raised
while its rail is on, and EN_SRAM, EN_CORE and EN_HBM from step 4 of a start until main power goes. -/
def State.thermTripN (s : State) : Bool := s.heat.tripped.isEmpty
def State.wakeN (s : State) : Bool := !s.host.wakeLow
def State.bayEn (s : State) (b : Nat) : Bool := (s.bayInfo b).powered
def State.railEn (s : State) : Bool := !s.boot.mainOff && decide (4 ≤ s.rd R.BST_START_STEP 0)

/-! ### Cluster failure in service (R556) -/

/-- The physical cluster that holds a package cluster's number. -/
def State.physOf (s : State) (c : Nat) : Nat := (s.bist (cluDie c)).phys.getD (c % 128) 144

/-- An error of a cluster, with the partition and context it works for and the unit an uncorrectable one ends (R541, R542). -/
def State.cluErr (s : State) (c code sev : Nat) : Err :=
  let e := Err.plain 7 code sev (scopeOf 8 c) (s.physOf c)
  match (s.clu c).unit.bind s.unit? with
  | some u => { e with part := u.part, ctx := u.ctx, d1 := if sev = 0 then 0 else s.unitD1 u.id }
  | none => e

/-- An SRAM error of a cluster: corrected, or its unit ends and the cluster is marked. -/
def execSramError (cluster : Nat) (corrected : Bool) (s : State) : Result :=
  within s (decide (cluster < 512)) (
    let d := cluDie cluster
    if !s.dieRuns d || !s.cluExists cluster then s
    else if corrected then s.err d (s.cluErr cluster 1 0)
    else
      let u := (s.clu cluster).unit.bind s.unit?
      let s := s.err d (s.cluErr cluster 2 1)
      let s := match u with | some u => s.endUnit u.id ⟨4, 0x00000FFFFFFFFFFF, 0⟩ | none => s
      if s.boot.failed.contains cluster then s else { s with boot := { s.boot with failed := s.boot.failed ++ [cluster] } })

/-- The first boundary at which a failed cluster is idle: a free spare takes its number, or the number is withdrawn. -/
def State.withdraw (s : State) (c : Nat) : State :=
  let d := cluDie c
  let t := c % 128
  let b := s.bist d
  let old := b.phys.getD t 144
  let s := { s with boot := { s.boot with failed := s.boot.failed.filter (· != c) } }
  let s := s.failClu d old
  let b := if b.target = some t then { b with target := none, tries := 0 } else b
  let s := match b.spares with
    | sp :: rest =>
      (((s.setBlocked c false).scrubNow c).setBist d { b with phys := b.phys.set t sp, spares := rest }).countSpares d
    | [] =>
      let s := (s.setBist d { b with phys := b.phys.set t 144 }).countSpares d
      let s := s.wr R.CLU_WITHDRAWN d [t / 32] (setBits (s.rd R.CLU_WITHDRAWN d [t / 32]) (t % 32) 1 1)
      let p := s.rd R.LSH_M_CFG_PARTITION d [t]
      let s := ((s.wr R.PAR_CLU_OWNER 0 [c] 0xFF).wrShadow R.PAR_CLU_OWNER 0 [c] 0xFF).portOwner c 0xFF
      let s := (s.setClu c { s.clu c with moveTo := none }).setBlocked c false
      let s := if p < 64 then s.countClu p else s
      (s.wr R.BST_EVENT_DEGRADED d [] 1).bstErr d 6 (scopeOf 9 d)
  (s.gateFailed d).err d (.plain 7 3 0 (scopeOf 8 c) old)

def execClusterWithdraw (cluster : Nat) (s : State) : Result :=
  within s (decide (cluster < 512)) (
    let st := s.rdClu R.CLU_STATUS_STATE cluster
    if s.boot.failed.contains cluster && (s.clu cluster).unit.isNone && (st == 0 || st == 6) then s.withdraw cluster else s)

/-! ### The Pack watchdog (R558, R559) -/

def State.wdtReg (s : State) (d : Nat) : Nat := s.regVal d [] [R.ERR_WDT_PACK_STATE, R.ERR_WDT_RESETS, R.ERR_WDT_WDT_MS]

/-- A Pack core has not kicked its watchdog: both cores are reset and the image is reloaded; at the third expiry within 600 s it is given up. -/
def execPackWdtExpire (die dt : Nat) (s : State) : Result :=
  within s (decide (die < 4)) (
    if s.rd R.ERR_WDT_PACK_STATE die != 0 || !s.dieRuns die then s
    else
      let s := s.at_ dt
      let mine := s.heat.wdtTimes.filter (fun x => x.1 == die && decide (s.now ≤ x.2 + 600 * 10 ^ 9))
      let s := { s with heat := { s.heat with wdtTimes := s.heat.wdtTimes.filter (fun (x : Nat × Nat) => x.1 != die) ++ mine ++ [(die, s.now)] } }
      let third := decide (3 ≤ mine.length + 1)
      let s := (s.bump R.ERR_WDT_RESETS die [] 1).wrs die [] [(R.ERR_EVENT_PACK_WDT, 1), (R.ERR_WDT_PACK_STATE, if third then 2 else 1)]
      let s := s.err die (.plain 10 1 0 (scopeOf 9 die) (s.wdtReg die))
      let s := if third then s.err die (.plain 10 2 1 (scopeOf 9 die) (s.wdtReg die)) else s
      s.packCut die)

def execPackRestartDone (die : Nat) (s : State) : Result :=
  within s (decide (die < 4)) (if s.rd R.ERR_WDT_PACK_STATE die = 1 then s.wr R.ERR_WDT_PACK_STATE die [] 0 else s)

/-! ### Telemetry (R560) -/

/-- The counters of a die in the blocks' order; an inner list is one register (log entry 38). -/
def telRegs : List (List (List Fld)) :=
  [[[R.MEM_STACK_TEMP_TEMP, R.MEM_STACK_TEMP_BAND], [R.MEM_STACK_REPAIRS], [R.MEM_PORT_CE], [R.MEM_PORT_UE], [R.MEM_PORT_SECTORS]],
   [[R.STC_HITS], [R.STC_MISSES], [R.STC_WRITEBACKS], [R.STC_BYPASS], [R.STC_SECTOR_ERR]],
   [[R.LSH_M_GUAR], [R.LSH_M_BE], [R.LSH_PORT_UNITS], [R.LSH_PORT_LATE]],
   [[R.FLL_DISCARDS], [R.FLL_CW_FLITS], [R.FLL_CW_SLOTTED], [R.FLL_CCW_FLITS], [R.FLL_CCW_SLOTTED], [R.FLL_M_SLOTTED], [R.FLL_M_STALL]],
   [[R.COH_DIR_EVICTS], [R.COH_SNOOPS], [R.COH_PUSH_ACK], [R.COH_PUSH_DROP], [R.COH_NOT_ISLAND], [R.COH_LOST_OWNED]],
   [[R.XLT_DTLB_HITS], [R.XLT_DTLB_MISSES], [R.XLT_WALK_READS], [R.XLT_INVALS], [R.XLT_CUT], [R.XLT_ATS_REQS], [R.XLT_PRI_REQS], [R.XLT_PRI_LATE], [R.XLT_ATS_INV],
    [R.XLT_CTX_FAULTS]],
   [[R.DDL_REPLAYS], [R.DDL_CRC_ERR], [R.DDL_REPAIRS]],
   [[R.TOR_FEC_CORR], [R.TOR_FEC_UNCORR], [R.TOR_NOROUTE], [R.TOR_S_LATE], [R.TOR_S_EARLY], [R.TOR_S_BYTES]],
   [[R.CLU_PERF_CUBE], [R.CLU_PERF_TOKEN], [R.CLU_PERF_CREDIT], [R.CLU_PERF_FETCH], [R.CLU_PERF_UNITS], [R.TIL_PERF_CUBE], [R.TIL_PERF_VEC]],
   [[R.PWR_CORE_POWER_W]],
   [[R.AGE_SENSOR_MARGIN0, R.AGE_SENSOR_MARGIN], [R.AGE_STACK_RET]]]

/-- Before a read of a counter of what the model has no time for, FCLK cycles that a flit waited and flits replayed on a bay's link, it rises by
what no read has shown, a free value; and what the power meter shows is free (log entry 3). -/
def State.waited (s : State) (f : Fld) (d : Nat) (ix : List Nat) : State :=
  if f == R.PWR_CORE_POWER_W then (s.wr f d ix (Config.freeNat s.free)).useFree 1
  else if f == R.FLL_M_STALL || (f == R.BAY_REPLAYS && s.bayLive (2 * d + ix.getD 0 0)) then (s.bump f d ix (Config.freeNat s.free)).useFree 1 else s

/-- The registers of a block with their offsets, in ascending order. -/
def telBlock (d : Nat) (b : List (List Fld)) : List (Nat × List Fld × List Nat) :=
  (b.flatMap (fun fs => match fs with
    | f :: _ => if f.hd0 && d != 0 then [] else f.indices.map (fun ix => (f.offset ix, fs, ix))
    | [] => [])).mergeSort (fun x y => x.1 ≤ y.1)

/-- The bytes of a snapshot. -/
def State.telBytes (s : State) (d : Nat) : List Byte :=
  let l := telRegs.flatMap (telBlock d)
  let body := l.flatMap (fun x => leBytes 8 (s.regVal d x.2.2 x.2.1))
  leBytes 8 s.tick ++ leBytes 1 d ++ List.replicate 3 0 ++ leBytes 4 (64 + body.length) ++ List.replicate 48 0 ++ body

/-- Step 3 of R240: in a tick whose number is a multiple of TEL_EVERY, a die's counters are sampled at the boundary instant. -/
def State.telSample (s : State) (d : Nat) : State :=
  let every := s.rd R.ERR_TEL_CFG_TEL_EVERY d
  if every = 0 || s.tick % every != 0 || !s.dieRuns d then s
  else
    let s := s.each ((List.range 128).map (· + 128 * d)) State.perfTime
    let s := s.each ([R.PWR_CORE_POWER_W, R.FLL_M_STALL] : List Fld) (fun s f => s.each f.indices (fun s ix => s.waited f d ix))
    let bs := s.telBytes d
    { s with heat := { s.heat with telDue := s.heat.telDue ++ [(d, bs)] } }

/-- A die writes its oldest sampled snapshot into the next slot of its ring. -/
def execTelSnapshot (die : Nat) (s : State) : Result :=
  within s (decide (die < 4)) (
    match s.heat.telDue.find? (fun x => x.1 == die) with
    | none => s
    | some x =>
      let n := SMap.get 0 s.heat.telSlots die
      let s := { s with heat := { s.heat with telDue := s.heat.telDue.erase x, telSlots := SMap.ins s.heat.telSlots die (n + 1) } }
      (s.post { Agent.collar die with wcls := 3 } .none_ (s.rd R.ERR_TEL_BASE_BASE die * 2 ^ 16 + n % 2 ^ s.rd R.ERR_TEL_CFG_TEL_LOG2 die * 2 ^ 16) x.2).getD s)

/-! ### Ageing (R561 to R563) -/


/-- A value against a threshold: a record at each crossing, and none more until it has recovered. DETAIL0 is the sensor or the term (R563). -/
def State.ageCheck (s : State) (d k : Nat) (low : Bool) (ev : Fld) (d0 : Nat) : State :=
  let key := 1000 * d + k
  if !low then (if s.heat.ageLow.contains key then { s with heat := { s.heat with ageLow := s.heat.ageLow.filter (· != key) } } else s)
  else if s.heat.ageLow.contains key then s
  else (({ s with heat := { s.heat with ageLow := s.heat.ageLow ++ [key] } }).wr ev d [] 1).err d (.plain 9 6 0 (scopeOf 9 d) d0)

/-- AGE_PKG takes the earliest prediction among the dies (R562, R567). -/
def State.agePkg (s : State) : State :=
  let l := (List.range 4).filter (fun d => s.rdB R.AGE_STATUS_VALID d)
  match l.foldl (fun (b : Option Nat) d => match b with
      | none => some d
      | some e => if s.rd R.AGE_EOL_EOL_DAYS d < s.rd R.AGE_EOL_EOL_DAYS e then some d else some e) none with
  | some d => s.wrs 0 [] [(R.AGE_PKG_EOL_DAYS, s.rd R.AGE_EOL_EOL_DAYS d), (R.AGE_PKG_DIE, d), (R.AGE_PKG_VALID, 1)]
  | none => s

/-- The history of a day (R561): the day's minimum of each sensor, hours and corrected errors of each stack, and worst eye margins. -/
def State.ageDay (s : State) (d : Nat) (mins hours85 hours90 ret lanes : List Nat) : State :=
  let s := s.bump R.AGE_STATUS_DAYS d [] 1
  let s := s.each (List.range 64) (fun s k => s.wr R.AGE_SENSOR_MARGIN d [k] (min 65535 (mins.getD k 0)))
  let s := s.each (List.range 4) (fun s k => s.wrs d [k] [(R.AGE_STACK_HOURS_85, min 65535 (hours85.getD k 0)), (R.AGE_STACK_HOURS_90, min 65535 (hours90.getD k 0)),
    (R.AGE_STACK_RET, ret.getD k 0)])
  s.wrs d [] [(R.AGE_LANE_HBM, lanes.getD 0 0), (R.AGE_LANE_RING, lanes.getD 1 0), (R.AGE_LANE_BAY, lanes.getD 2 0), (R.AGE_LANE_TORUS, lanes.getD 3 0)]

/-- Each sensor's margin against WARN and CRIT (R563). -/
def State.ageMargins (s : State) (d : Nat) : State :=
  s.each (List.range 64) (fun s k =>
    let m := s.rd R.AGE_SENSOR_MARGIN d [k]
    (s.ageCheck d k (decide (m < s.rd R.AGE_CFG_WARN_PS d)) R.AGE_EVENT_WARN k).ageCheck d (100 + k) (decide (m < s.rd R.AGE_CFG_CRIT_PS d)) R.AGE_EVENT_CRIT k)

/-- The prediction of the day's fit, with its bounds and its term (R562). -/
def State.agePredict (s : State) (d eol low high kind index : Nat) : State :=
  let s := s.wrs d [] [(R.AGE_STATUS_VALID, 1), (R.AGE_EOL_EOL_DAYS, min 65535 eol), (R.AGE_EOL_FIT_DAY, s.rd R.AGE_STATUS_DAYS d), (R.AGE_EOL_BAND_HIGH, min 65535 high),
    (R.AGE_EOL_BAND_LOW, min 65535 low), (R.AGE_EOL_SOURCE_KIND, kind), (R.AGE_EOL_SOURCE_INDEX, index)]
  (s.ageCheck d 200 (decide (s.rd R.AGE_EOL_EOL_DAYS d < s.rd R.AGE_CFG_NEAR_DAYS d)) R.AGE_EVENT_EOL_NEAR
    (s.regVal d [] [R.AGE_EOL_SOURCE_KIND, R.AGE_EOL_SOURCE_INDEX])).agePkg

/-- A day ends; after 30 days the fit gives a prediction. -/
def execAgeDailyFit (die : Nat) (mins : List Nat) (hours85 hours90 ret lanes : List Nat) (eol low high kind index : Nat) (s : State) : Result :=
  within s (decide (die < 4)) (
    if !s.dieRuns die then s
    else
      let s := (s.ageDay die mins hours85 hours90 ret lanes).ageMargins die
      if s.rd R.AGE_STATUS_DAYS die < 30 then s else s.agePredict die eol low high kind index)

end Sys2Proof.Machine
end

