-- ==== Sys2Proof/Machine/Tick.lean ====
section
/-! DEFINITION. The Tick (R231 to R250): where boundaries come from, phase alignment over the sideband ring, the steps of a boundary, and
changes of the period. -/

namespace Sys2Proof.Machine

def State.source (s : State) : Nat := s.rd R.TCK_CTRL_SOURCE 0
def State.tckState (s : State) : Nat := s.rd R.TCK_STATUS_STATE 0

/-- A TCK_EVENT bit is set, with its CE record (R249). -/
def State.tckEvent (s : State) (f : Fld) : State :=
  let s := s.wr f 0 [] 1
  s.err 0 (.plain 6 1 0 (scopeOf 7 0) (s.regVal 0 [] [R.TCK_EVENT_NUMBER_JUMP, R.TCK_EVENT_MASTER_CONFLICT, R.TCK_EVENT_PERIOD_CHANGED, R.TCK_EVENT_TICK_LOST,
    R.TCK_EVENT_HOLDOVER, R.TCK_EVENT_TICKIN_FAULT]))

/-- SOURCE takes a value (R233, R250): FREE for LOCAL and MASTER, ACQUIRING for RING and PIN; MASTER and PIN send sync frames. -/
def State.setSource (s : State) (v : Nat) : State :=
  let s := { s with tck := { s.tck with edgeAt := none, edgeMiss := 0, masterNumber := none, syncGood := 0, holdTicks := 0, masterPos := none } }
  s.wrs 0 [] [(R.TCK_CTRL_SOURCE, v), (R.TCK_STATUS_STATE, if v = 1 ∨ v = 3 then 1 else 0), (R.TCK_STATUS_MASTER, if 2 ≤ v then 1 else 0)]

/-! ### TICK_IN (R235) -/

/-- The time at which the next boundary is expected. -/
def State.expected (s : State) : Nat := s.rd R.TCK_TOD 0 + s.period

/-- A rising edge on TICK_IN, `dt` ns after the last boundary. -/
def execTickInEdge (dt : Nat) (s : State) : Result :=
  within s true (
    if s.source != 3 || s.tck.edgeAt.isSome then s
    else
      let t := s.rd R.TCK_TOD 0 + dt
      let near := decide (s.expected ≤ t + 1000) && decide (t ≤ s.expected + 1000)
      if s.tckState = 4 then
        if 10000 ≤ dt then ({ s with tck := { s.tck with edgeAt := some t, edgeMiss := 0 } }).wr R.TCK_STATUS_STATE 0 [] 2
        else if near then s else s.tckEvent R.TCK_EVENT_TICKIN_FAULT
      else if near then ({ s with tck := { s.tck with edgeAt := some t, edgeMiss := 0 } }).wr R.TCK_STATUS_STATE 0 [] 2
      else s.tckEvent R.TCK_EVENT_TICKIN_FAULT)

/-- The window closes with no edge: the boundary comes at the expected time; after 8 in a row, LOST. -/
def execTickInMissed (s : State) : Result :=
  within s true (
    if s.source != 3 || s.tck.edgeAt.isSome || s.tckState == 4 then s
    else
      let n := s.tck.edgeMiss + 1
      let s := ({ s with tck := { s.tck with edgeAt := some s.expected, edgeMiss := n } }).bump R.TCK_MISSED 0 [] 1
      if n < 8 then s else (s.wr R.TCK_STATUS_STATE 0 [] 4).tckEvent R.TCK_EVENT_TICK_LOST)

/-! ### Sync frames (R234, R236 to R238, R424) -/

/-- The payload of a SYNC frame. -/
def syncPayload (tickNo tod correction period nextAt src : Nat) : List Byte :=
  leBytes 8 tickNo ++ leBytes 8 tod ++ leBytes 8 correction ++ leBytes 1 period ++ leBytes 8 nextAt ++ leBytes 8 src

/-- The master sends a sync frame (every 10 µs). -/
def execSyncSend (s : State) : Result :=
  within s true (
    if s.source < 2 || !s.sbrUp then s
    else
      let q := s.sideSeq % 2 ^ 16
      let pending := s.rdB R.TCK_NEXT_PENDING 0
      let body := syncPayload s.tick (s.rd R.TCK_TOD 0) 0 (if pending then s.rd R.TCK_NEXT_NEXT_PERIOD 0 else 0) (if pending then s.rd R.TCK_NEXT_AT 0 else 0) s.sbrPos
      ({ s with sideSeq := q + 1 }).send (.side 1 (sideHead 1 s.sbrPos 0xFF body.length q ++ body)))

/-- What a valid sync frame says; `offset` is local minus master time, in ps. -/
structure SyncMsg where
  src : Nat
  tickNo : Nat
  tod : Nat
  period : Nat
  nextAt : Nat
  offset : Int

/-- How far the slew has moved the time of day, `ps` of the oscillator after the last boundary: at most 100 ppm (R238). -/
def State.slewed (s : State) (ps : Nat) : Int := max (-((ps / 10000 : Nat) : Int)) (min ((ps / 10000 : Nat) : Int) s.tck.slew)

/-- A follower's offset (R236): its time of day, `ps` of the oscillator after its last boundary, less the master's: the `k`-th frame of its tick was
sent 10 µs × k after the master's last boundary, and has come over the accumulated delay (log entry 39). -/
def State.syncOffset (s : State) (tod delay k ps : Nat) : Int :=
  ((1000 * s.rd R.TCK_TOD 0 + ps : Nat) : Int) + s.slewed ps - ((1000 * tod + 10000000 * k + delay : Nat) : Int)

/-- The number and the time, in the master's count, of the boundary that comes next here (log entry 39). -/
def State.syncNext (s : State) (m : SyncMsg) : Nat × Nat :=
  let k : Int := ((s.rd R.TCK_TOD 0 : Int) - m.offset / 1000 - m.tod + s.period / 2) / s.period + 1
  ((m.tickNo + k).toNat, (m.tod + k * s.period).toNat)

/-- The schedule the master sends (R248): taken while it lies ahead; a frame without one from before its tick takes it back. -/
def State.syncSchedule (s : State) (m : SyncMsg) : State :=
  if m.period ≠ 0 then
    if s.tick < m.nextAt then s.wrs 0 [] [(R.TCK_NEXT_NEXT_PERIOD, m.period), (R.TCK_NEXT_AT, m.nextAt), (R.TCK_NEXT_PENDING, 1)] else s
  else if s.rdB R.TCK_NEXT_PENDING 0 && decide (m.tickNo < s.rd R.TCK_NEXT_AT 0) then s.wrs 0 [] [(R.TCK_NEXT_NEXT_PERIOD, 0), (R.TCK_NEXT_PENDING, 0)]
  else s

/-- A follower steers by a frame of its master, and enters LOCKED after 16 in a row within 20 ns. It slews the offset out; one above 1 µs, met before it
is LOCKED, moves the next boundary instead. -/
def State.syncFollow (s : State) (m : SyncMsg) (ps : Nat) : State :=
  let s := s.syncSchedule m
  let jump := s.tckState != 2 && decide (1000000 < m.offset.natAbs)
  let s := { s with tck := { s.tck with syncAt := s.now, slew := if jump then 0 else s.slewed ps - m.offset } }
  if s.tckState = 2 then s
  else
    let near := decide (m.offset.natAbs ≤ 20000)
    let good := if near && s.tck.masterPos.getD m.src == m.src then s.tck.syncGood + 1 else if near then 1 else 0
    let next := s.syncNext m
    let s := { s with tck := { s.tck with syncGood := good, masterPos := some m.src, edgeAt := if jump then some next.2 else s.tck.edgeAt } }
    if good < 16 then s
    else
      let s := { s with tck := { s.tck with holdTicks := 0, masterNumber := if next.1 = s.tick + 1 then none else some next.1 } }
      s.wr R.TCK_STATUS_STATE 0 [] 2

/-- A signed value of 32 bits, saturated. -/
def sat32 (x : Int) : Nat := let y := max (-(2 ^ 31 : Int)) (min (2 ^ 31 - 1) x); (y % 2 ^ 32).toNat

/-- A SYNC frame arrives, the `k`-th of the master's tick, `ps` of the oscillator after the last boundary here. One's own is taken off the ring; any
other goes on with both delays added once the hop is measured (R427), and is a conflict if it is not from the master followed, or if this package is a
master itself (R234). -/
def execSyncFrame (crcOk : Bool) (src seq tickNo tod correction period nextAt residence k dtPs : Nat) (s : State) : Result :=
  within s (decide (src < 256) && decide (tickNo < 2 ^ 64) && decide (tod < 2 ^ 64) && decide (correction < 2 ^ 64) && decide (period < 256) && decide (nextAt < 2 ^ 64)) (
    if !s.sbrUp then s
    else if !crcOk then ((s.bump R.SBR_CRC_ERR 0 [] 1).wr R.SBR_EVENT_CRC 0 [] 1).sbrErr
    else if src = s.sbrPos then s
    else
      let s := s.at_ (dtPs / 1000)
      let hop := s.rd R.TCK_HOP_DELAY 0
      let s := if hop = 0 then s else s.sbrForward 1 src 0xFF (seq % 2 ^ 16) (syncPayload tickNo tod (correction + hop + residence) period nextAt src)
      if 2 ≤ s.source then s.tckEvent R.TCK_EVENT_MASTER_CONFLICT
      else if s.source = 0 then s
      else if (s.tckState = 2 ∨ s.tckState = 3) ∧ s.tck.masterPos ≠ some src then s.tckEvent R.TCK_EVENT_MASTER_CONFLICT
      else
        let m : SyncMsg := ⟨src, tickNo, tod, period, nextAt, s.syncOffset tod (correction + hop) k dtPs⟩
        (s.wrs 0 [] [(R.TCK_MASTER_DELAY, min (2 ^ 32 - 1) ((correction + hop) / 1000)), (R.TCK_OFFSET, sat32 m.offset)]).syncFollow m dtPs)

/-- No valid sync frame for 1 ms or two ticks, whichever is longer. -/
def execSyncHoldover (dt : Nat) (s : State) : Result :=
  within s true (
    if s.source != 1 || s.tckState != 2 then s
    else
      let s' := s.at_ dt
      if s'.now < s.tck.syncAt + max 1000000 (2 * s.period) then s
      else (({ s' with tck := { s'.tck with syncGood := 0, holdTicks := 0, slew := 0 } }).wr R.TCK_STATUS_STATE 0 [] 3).tckEvent R.TCK_EVENT_HOLDOVER)

/-- 64 ticks in HOLDOVER. -/
def execSyncLost (s : State) : Result :=
  within s true (
    if s.source != 1 || s.tckState != 3 || decide (s.tck.holdTicks < 64) then s
    else (s.wr R.TCK_STATUS_STATE 0 [] 4).tckEvent R.TCK_EVENT_TICK_LOST)

/-! ### A boundary (R240 to R244) -/

/-- What is left of the last boundary's windows ends before the next one (R208). -/
def State.endWindow (s : State) (p q : Nat) : State :=
  if s.window p q = 0 then s
  else if s.window p q = 1 then s.dbFail p q
  else if s.window p q = 2 then (s.markLate p q).closeWindow p q
  else s.closeWindow p q

def State.endWindows (s : State) : State := s.each (List.range 64) (fun s p => s.each (List.range 17) (fun s q => s.endWindow p q))

/-- The instant of the next boundary, once it is known: by SOURCE (R233, R235, R237). -/
def State.nextBoundary (s : State) : Option Nat :=
  if s.source = 3 ∧ s.tckState ≠ 4 then s.tck.edgeAt else some (s.tck.edgeAt.getD s.expected)

/-- T-class fields outside the groups that are checked as a whole (R11, R579). -/
def groupFlds : List Fld := regionFlds ++ leashFlds ++ slotFlds ++ parFlds

/-- The number of the tick that begins (R232, R238, R249), and the period it has (R248). -/
def State.tickOver (s : State) (t : Nat) : State :=
  let s := match s.tck.masterNumber with
    | some n => (s.wr R.TCK_NUMBER 0 [] n).tckEvent R.TCK_EVENT_NUMBER_JUMP
    | none => s.wr R.TCK_NUMBER 0 [] (s.tck.numNext.getD (s.tick + 1))
  let missed := (s.source == 1 && s.tckState != 2) || (s.source == 3 && s.tckState == 4 && s.tck.edgeAt.isNone)
  let s := if missed then s.bump R.TCK_MISSED 0 [] 1 else s
  let s := { s with tck := { s.tck with masterNumber := none, numNext := none, edgeAt := none,
                                        holdTicks := if s.tckState = 3 then s.tck.holdTicks + 1 else 0,
                                        slew := s.tck.slew - s.slewed (1000 * s.period) },
                    now := t }
  let s := s.wr R.TCK_TOD 0 [] t
  if s.rdB R.TCK_NEXT_PENDING 0 && decide (s.rd R.TCK_NEXT_AT 0 ≤ s.tick) then
    (s.wrs 0 [] [(R.TCK_PERIOD_CURRENT, s.rd R.TCK_NEXT_NEXT_PERIOD 0), (R.TCK_NEXT_PENDING, 0)]).tckEvent R.TCK_EVENT_PERIOD_CHANGED
  else s

/-- Step 7: what debt lets each context do (R244). -/
def State.repay (s : State) : State :=
  let s := { s with indebted := [], early := [] }
  s.each (List.range 1024) (fun s k =>
    let debt := s.rd R.TCK_DEBT 0 [k]
    if debt = 0 || !s.mayAdmit (k / 16) (k % 16) then s
    else if s.period ≤ debt then ({ s with indebted := s.indebted ++ [k] }).wr R.TCK_DEBT 0 [k] (debt - s.period)
    else ({ s with early := SMap.put 0 s.early k debt }).wr R.TCK_DEBT 0 [k] 0)

/-- Step 9 begins: the doorbell reads of every partition with DB_ENABLE, and of its bay queues that are not IDLE (R205, R378). -/
def State.openWindows (s : State) : State :=
  s.each (List.range 64) (fun s p =>
    if !s.rdB R.WRK_CTRL_DB_ENABLE 0 [p] then s
    else s.each (List.range 17) (fun s q => if q = 0 || s.rState p (q + 63) != 0 then
        let (loc, addr, len) := s.dbPlace p q
        (s.setWindow p q 1).locAsk loc p 0 addr len s.dbTask
      else s))

/-- Before step 1: the windows of the last boundary end, and the groups written since are checked (R579). -/
def State.beforeTick (s : State) : State := s.endWindows.mgmtBoundary.checkRegions.checkLeash.checkSlots.checkPar

/-- What the last boundary's admission left is over, and the events since then qualify (R205, R219, R241). -/
def State.newTurn (s : State) : State :=
  let ps := s.eventsDue
  ({ s with stopped := [], freed := [], eventsDue := [], descs := s.descs.map (fun (d : Desc) => { d with late := false }) }).each ps State.eventSend

/-- Steps 1 to 8 at time `t`. -/
def State.tickSteps (s : State) (t : Nat) : State :=
  let s := (s.latchKeys (fun k => !inFlds groupFlds k)).tickOver t
  let s := { s with units := s.units.map (fun (u : WUnit) => { u with boundaries := u.boundaries + 1 }),
                    invals := s.invals.map (fun (v : Inval) => if v.started then { v with boundary := true } else v),
                    mgmts := if s.pack = 1 then s.mgmts else s.mgmts.map (fun (m : Mgmt) => { m with age := m.age + 1 }),
                    disclosed := [] }
  let s := s.newTurn
  let s := s.forsake (fun r => !s.readWanted r)
  let s := s.each (List.range 4) State.telSample
  let s := s.moveAll.frame.knlBoundary.streamBoundary.powerBoundary.activateBoundary
  let s := s.each (List.range 64) State.cutGen
  let s := s.repay
  s.each (List.range 4) (fun s d => (s.standinBoundary d).rotShow d)

/-- Steps 9 and 10 begin; the tick number goes to each bay in RUN (R379), and the interrupts go that wait for no window. -/
def State.afterTick (s : State) : State :=
  let s := s.each (List.range 8) (fun s b => if s.bayRun b then s.bwSend b 0x31 0 0 0 0 0 (s.tick % 2 ^ 36) 0 [] else s)
  let s := (s.each (List.range 4) State.heldRetry).openWindows
  s.sendIrqs s.irqReady

/-- A tick boundary. It comes to a package that has power, and under PIN once its instant is known. -/
def execTickBoundary (s : State) : Result :=
  within s true (
    if s.boot.mainOff then s
    else match s.nextBoundary with
      | none => s
      | some t => ((s.beforeTick).tickSteps t).afterTick)

/-! ### The period (R248) and CLEAR_STATS -/

/-- The write of the low word of TCK_NEXT_AT: the change is armed, or the write is dropped. -/
def execTckNextAtArm (low : Nat) (s : State) : Result :=
  within s (decide (low < 2 ^ 32)) (
    let at_ := s.rd R.TCK_NEXT_AT 0 / 2 ^ 32 * 2 ^ 32 + low
    if s.source == 1 || s.rdB R.TCK_NEXT_PENDING 0 || s.rd R.TCK_NEXT_NEXT_PERIOD 0 == 0 || decide (at_ < s.tick + 64) then s.cfgErr .TCK 0 [] R.TCK_NEXT_AT.base
    else s.wrs 0 [] [(R.TCK_NEXT_AT, at_), (R.TCK_NEXT_PENDING, 1)])

/-- A write of NEXT_PERIOD = 0 takes a pending change back. -/
def execTckPeriodCancel (s : State) : Result :=
  within s true (
    if s.source = 1 then s.cfgErr .TCK 0 [] R.TCK_NEXT_NEXT_PERIOD.base
    else s.wrs 0 [] [(R.TCK_NEXT_NEXT_PERIOD, 0), (R.TCK_NEXT_PENDING, 0)])

def execTckClearStats (s : State) : Result := within s true (s.wr R.TCK_MISSED 0 [] 0)

end Sys2Proof.Machine
end

