-- ==== Sys2Proof/Machine/Bus.lean ====
section
/-! DEFINITION. Register reads and writes over the bus (R7 to R16, R36, R91, R325, R437, R438, R579): which fields an access covers, what a
read of each returns, when a write is dropped, and what a write that asks for an action does. -/

namespace Sys2Proof.Machine

/-- The state a meaning leaves. -/
def Result.after (r : Result) (s : State) : State := match r with | .next t => t | _ => s

/-! ### Which fields an access covers -/

/-- The index list at which a field's register stands at a byte offset. -/
def Fld.ixAt (f : Fld) (o : Nat) : Option (List Nat) := go o f.base f.dims
where
  go (o base : Nat) : List (Nat × Nat) → Option (List Nat)
    | [] => if o = base then some [] else none
    | (n, st) :: ds =>
      if o < base then none
      else
        let i := min (n - 1) ((o - base) / st)
        (go o (base + i * st) ds).map (i :: ·)

/-- A field covered by an access, at its indices. -/
abbrev Part := Fld × List Nat

/-- The fields with bits in the word at an offset: package-level ones on HD0 only (R7, R36). -/
def wordParts (d w : Nat) : List Part :=
  R.table.filterMap (fun f =>
    if f.hd0 && d != 0 then none
    else match f.ixAt w with
      | some ix => if f.lo < 32 then some (f, ix) else none
      | none => if 4 ≤ w ∧ 32 < f.lo + f.width then (f.ixAt (w - 4)).map (fun ix => (f, ix)) else none)

/-- The words of an access. -/
def accWords (off len : Nat) : List Nat := (List.range ((len + 3) / 4)).map (fun k => off + 4 * k)

def accParts (d off len : Nat) : List Part := (accWords off len).foldl (fun l w => l ++ (wordParts d w).filter (fun p => !l.contains p)) []

/-- The bits of a field that an access writes, over its other bits `cur`. -/
def mergeBits (cur fstart width value off len : Nat) : Nat :=
  let lo := max fstart (8 * off)
  let hi := min (fstart + width) (8 * (off + len))
  if hi ≤ lo then cur else setBits cur (lo - fstart) (hi - lo) (bits value (lo - 8 * off) (hi - lo))

/-! ### Reading -/

/-- A tile's token and channel counts as the TIL registers pack them (R94). -/
def Tile.tokWord (t : Tile) (i : Nat) : Nat := (List.range 4).foldl (fun n b => n + SMap.get 0 t.tok (4 * i + b) % 256 * 2 ^ (8 * b)) 0
def Tile.credit (t : Tile) (k : Nat) : Nat := match SMap.look t.outs k with | some o => o.credits | none => 0
def Tile.arrived (t : Tile) (k : Nat) : Nat := match SMap.look t.ins k with | some o => o.arrived | none => 0

/-- A set of numbers as bits. -/
def bitSet (n : Nat) (p : Nat → Bool) : Nat := ((List.range n).filter p).foldl (fun m k => m + 2 ^ k) 0

/-- The directory entries of a die in use (R342). -/
def State.dirUsed (s : State) (d : Nat) : Nat :=
  (s.dirs.filter (fun e => match s.decode (64 * e.1) with | some (q, _) => qDie q == d | none => false)).length

/-- Fields that show what the machine holds elsewhere. -/
def State.shown (s : State) (f : Fld) (d : Nat) (ix : List Nat) : Option Nat :=
  let i := ix.getD 0 0
  let tile := s.tile (2048 * d + 16 * i + ix.getD 1 0)
  let k := ix.getD 2 0
  let not32 (v : Nat) : Nat := if v = 0xAAAAAAAA then 0 else 1
  if f == R.HUB_RING_CW_UP then some (if s.rd R.DDL_STATUS_STATE d [0] = 2 then 1 else 0)
  else if f == R.HUB_RING_CCW_UP then some (if s.rd R.DDL_STATUS_STATE d [1] = 2 then 1 else 0)
  else if f == R.HUB_RING_CW_DEGRADED then some (if s.rd R.DDL_STATUS_STATE d [0] = 2 then max (not32 (s.rd R.DDL_TX_MODS d [0])) (not32 (s.rd R.DDL_RX_MODS d [0])) else 0)
  else if f == R.HUB_RING_CCW_DEGRADED then some (if s.rd R.DDL_STATUS_STATE d [1] = 2 then max (not32 (s.rd R.DDL_TX_MODS d [1])) (not32 (s.rd R.DDL_RX_MODS d [1])) else 0)
  else if f == R.TIL_STATUS_UNIT_BUSY then some (bitSet 5 (fun u => tile.cmds.any (fun c => c.started && c.unit == u)))
  else if f == R.TIL_STATUS_HEAD then some (tile.head % tile.ringSize)
  else if f == R.TIL_TOKEN then some (tile.tokWord k)
  else if f == R.TIL_TOKEN_HI then some (tile.tokWord (4 + k))
  else if f == R.TIL_CREDIT then some (tile.credit (2 * k) + tile.credit (2 * k + 1) * 2 ^ 16)
  else if f == R.TIL_FILL then some (tile.arrived (2 * k) + tile.arrived (2 * k + 1) * 2 ^ 16)
  else if f == R.SHD_EVENT_PART then
    some (bitSet 64 (fun p => (([R.WRK_EVENT_DB_FAIL, R.WRK_EVENT_RING_ERROR, R.WRK_EVENT_HARD_LIMIT, R.WRK_EVENT_ISLAND_DOWN] : List Fld).any
      (fun e => s.rdB e 0 [p] && !bit (s.rd R.WRK_EVENT_MASK 0 [p]) e.lo))))
  else if f == R.XLT_ATS_STATUS_ATS_OUT then some s.atsOut
  else if f == R.XLT_ATS_STATUS_PRG_OUT then some (s.misses.filter (fun m => m.stage == .prg)).length
  else if f == R.COH_STATUS_ISLAND then some (s.island d)
  else if f == R.COH_STATUS_STATE then some (s.rd R.COH_ISL_STATE_STATE 0 [s.island d])
  else if f == R.COH_DIR_USED then some (s.dirUsed d)
  else if f == R.COH_ISL_STATE_DIES then some (bitSet 4 (fun x => s.island x == i))
  else if f == R.COH_ISL_STATE_RESET_DIES then some (bitSet 4 (fun x => s.island x == i && SMap.get 0 s.dies x == 1))
  else if f == R.PCI_TAGS_OUT then some s.tagsOut
  else if f == R.HEL_SUMMARY_HOST then some (if s.heel then 1 else 0)
  else if f == R.HEL_SUMMARY_EDGE then some (bitSet 4 (fun n => s.rd R.DDL_STATUS_STATE n [0] == 3))
  else if f == R.HEL_SUMMARY_BAY then some (bitSet 8 (fun b => s.bayRd R.BAY_STATUS_STATE b == 4))
  else if f == R.HEL_SUMMARY_ISLAND then some (bitSet 4 (fun x => s.rd R.COH_ISL_STATE_STATE 0 [x] == 1))
  else if f == R.PAR_P_STATUS_STRICT then some (s.rd R.PAR_CFG_STRICT 0 ix)
  else if f == R.PAR_P_STATUS_ISLAND then some (s.rd R.PAR_CFG_ISLAND 0 ix)
  else if f == R.PAR_P_STATUS_CLUSTERS then some (s.rd R.PAR_STATUS_CLUSTERS 0 ix)
  else if f == R.PAR_P_STATUS_GEN then some (s.rd R.PAR_STATUS_GEN 0 ix)
  else if f == R.PAR_P_QUOTA then some (s.regVal 0 ix [R.PAR_QUOTA_VALID, R.PAR_QUOTA_SIZE, R.PAR_QUOTA_BASE])
  else if f == R.SEC_DIE_STATE_STATE then some (s.dieState i)
  else none

/-- The value a read of a field finds (R8, R12). -/
def State.fieldVal (s : State) (f : Fld) (d : Nat) (ix : List Nat) : Nat × State :=
  if f.acc == .WO then (0, s) else ((s.shown f d ix).getD (s.rd f d ix) % 2 ^ f.width, s)

/-- The registers whose high word a read of the low word latches: the 64-bit counters (R91), and the 64-bit TCK registers, which R249 has read
as R91 gives. Every other field of 64 bits is read word by word (R8, R12). -/
def latchedFlds : List Fld :=
  [R.CLU_PERF_CUBE, R.CLU_PERF_TOKEN, R.CLU_PERF_CREDIT, R.CLU_PERF_FETCH, R.SHD_ADMITTED, R.TCK_NEXT_AT, R.TCK_NUMBER, R.TCK_TOD,
   R.MEM_PORT_SECTORS, R.STC_HITS, R.STC_MISSES, R.STC_WRITEBACKS, R.STC_BYPASS, R.LSH_M_GUAR, R.LSH_M_BE, R.LSH_PORT_UNITS,
   R.XLT_DTLB_HITS, R.XLT_DTLB_MISSES, R.XLT_WALK_READS, R.XLT_INVALS, R.XLT_CUT, R.XLT_ATS_REQS, R.XLT_PRI_REQS, R.XLT_CTX_FAULTS,
   R.FLL_DISCARDS, R.FLL_CW_FLITS, R.FLL_CW_SLOTTED, R.FLL_CCW_FLITS, R.FLL_CCW_SLOTTED, R.FLL_M_SLOTTED, R.FLL_M_STALL, R.COH_DIR_EVICTS,
   R.COH_SNOOPS, R.COH_PUSH_ACK, R.COH_PUSH_DROP, R.COH_NOT_ISLAND, R.DDL_REPLAYS, R.DDL_CRC_ERR, R.TOR_FEC_CORR, R.TOR_FEC_UNCORR,
   R.TOR_S_BYTES, R.KNL_SENT, R.KNL_HELD, R.SBR_FRAMES, R.SBR_CRC_ERR, R.PCI_RD_BYTES, R.PCI_WR_BYTES, R.SEC_ATT_COUNT, R.BST_SLICES]

/-- Counters of time, brought up to date before a read (R91). -/
def perfFlds : List Fld := [R.CLU_PERF_CUBE, R.CLU_PERF_TOKEN, R.CLU_PERF_CREDIT, R.CLU_PERF_FETCH]

/-- What a read of the low word has latched at a byte address is gone. -/
def State.unlatch (s : State) (key : Nat) : State := { s with latch := SMap.del s.latch key }

/-- A register read over the bits of one field. A read of the low word alone of a register of `latchedFlds` latches its high word for the
next read (R91). -/
def State.readField (s : State) (d off len : Nat) (p : Part) : Nat × State :=
  let (f, ix) := p
  let fo := f.offset ix
  if f == R.CLU_DBG_DATA then
    let c := 128 * d + ix.getD 0 0
    if len = 4 then (let (s, v) := s.dbgRead c (off != fo); (v, s))
    else
      let (s, lo) := s.dbgRead c false
      let (s, hi) := s.dbgRead c true
      (lo + hi * 2 ^ 32, s)
  else
    let s := if perfFlds.contains f then s.perfTime (128 * d + ix.getD 0 0) else s.waited f d ix
    let (v, s) := s.fieldVal f d ix
    let key := d * 2 ^ 26 + fo
    if len = 4 && latchedFlds.contains f then
      if off = fo then (v % 2 ^ 32, { s with latch := SMap.ins s.latch key (v / 2 ^ 32) })
      else (SMap.get (v / 2 ^ 32) s.latch key, s.unlatch key)
    else
      let fs := 8 * fo + f.lo
      if 8 * off ≤ fs then (v * 2 ^ (fs - 8 * off) % 2 ^ (8 * len), s) else (v / 2 ^ (8 * off - fs) % 2 ^ (8 * len), s)

/-- The cluster whose register window holds an offset (R90). -/
def windowClu (d off : Nat) : Option Nat := if 2 ^ 24 ≤ off ∧ off < 2 ^ 24 + 2 ^ 23 then some (128 * d + (off - 2 ^ 24) / 2 ^ 16) else none

/-- The context whose data a read of a cluster or tile register shows (R510): that of the unit the cluster holds or is HELD for. -/
def State.regTouch (s : State) (d off len : Nat) : State :=
  match windowClu d off with
  | none => s
  | some c =>
    let plain : List Fld := [R.CLU_STATUS_STATE, R.CLU_UNIT_RING, R.CLU_FAULT_CODE, R.TIL_STATUS_STATE]
    let open_ := (accWords off len).all (fun w => plain.any (fun f => (f.ixAt w).isSome))
    if open_ then s
    else if (s.clu c).unit.isSome || s.rdClu R.CLU_STATUS_STATE c == 5 then
      match (s.clu c).unit.bind s.unit? with
      | some u => s.touchCtx u.part u.ctx
      | none => s.touchCtx (s.rdClu R.CLU_STATUS_PARTITION c) (s.rdClu R.CLU_STATUS_CONTEXT c)
    else s

/-- A register read (R8, R9, R36, R97, R531). -/
def State.busRead (s : State) (d off len : Nat) : Nat × State :=
  if !s.dieRuns d then (2 ^ (8 * len) - 1, s)
  else if (match windowClu d off with | some c => !s.cluExists c | none => false) then (0, s)
  else (accParts d off len).foldl (fun acc p =>
    let (v, s) := acc.2.readField d off len p
    (acc.1 ||| v, s)) (0, s)

/-! ### When a write is dropped (R13, R14) -/

/-- Whether the block of a Q-class field is busy, or a K-class field locked. -/
def State.fieldBusy (s : State) (f : Fld) (d : Nat) (ix : List Nat) : Bool :=
  let p := ix.getD 0 0
  let k := ix.getD 1 0
  let mgmt : List Fld := [R.WRK_MGMT_LO_ADDR, R.WRK_MGMT_LO_LOC, R.WRK_MGMT_HI, R.WRK_MRSP_LO_ADDR, R.WRK_MRSP_LO_LOC, R.WRK_MRSP_HI, R.WRK_MGMT_CFG_ENABLE,
    R.WRK_MGMT_CFG_SIZE_LOG2, R.WRK_MGMT_CFG_VECTOR]
  match f.blk with
  | .CLU => (s.clu (128 * d + p)).unit.isSome || s.rd R.CLU_STATUS_STATE d [p] == 4
  | .WRK =>
    if f.dims.length = 2 then s.rState p k != 0
    else if mgmt.contains f then s.rdB R.WRK_MGMT_CFG_ENABLE 0 [p]
    else (List.range 64).any (fun r => s.rState p r != 0) || s.rdB R.WRK_MGMT_CFG_ENABLE 0 [p]
  | .TCK => (List.range 64).any (fun q => s.rdB R.WRK_CTRL_DB_ENABLE 0 [q])
  | .MEM => s.rd R.MEM_STATUS_STATE d != 1 && s.rd R.MEM_STATUS_STATE d != 4
  | .STC => s.rd R.MEM_STATUS_STATE d == 2
  | .XLT_P => s.ctxBusy p k
  | .BAY =>
    if f == R.BAY_WQ_OWNER then
      (List.range 64).any (fun q => (List.range 16).any (fun j =>
        s.rdB R.BAY_Q_CFG_ENABLE 0 [q, j] && s.rd R.BAY_Q_BIND_BAY 0 [q, j] == 2 * d + p && s.rd R.BAY_Q_BIND_WQ 0 [q, j] == k))
    else ([1, 2, 3] : List Nat).contains (s.rd R.BAY_STATUS_STATE d [p])
  | .BAY_P => s.rState p (64 + k) != 0
  | .TOR =>
    if f == R.TOR_COORD then s.boot.coordSet || (List.range 8).any s.torUp
    else if f == R.TOR_PORT_CFG_ENABLE || f == R.TOR_PORT_CFG_MEDIUM then s.rd R.TOR_PORT_STATUS_STATE d [p] != 0
    else if 0x5A1000 ≤ f.base then s.rdB R.TOR_S_CFG_ENABLE 0 [p]
    else s.redChunks.any (fun (x : RedChunk) => x.group == p) || s.torCmds.any (fun (c : TorCmd) => c.started && c.op == 4 && c.nat 4 1 == p)
  | .TOR_P => s.rdB R.TOR_Q_CFG_ENABLE 0 ix
  | .KNL => s.rdB R.KNL_CTRL_ENABLE 0 || s.knlState == 3
  | .SEC => s.staging || s.activating
  | .LCS => s.lcsBusy
  | .BST => s.rdB R.CLU_STANDIN_ACTIVE d
  | .ERR =>
    if f == R.ERR_QUEUE_BASE_BASE then (List.range 11).any (fun q => decide (0 < s.unhandled d q))
    else if f == R.ERR_MIRROR_LO_ADDR || f == R.ERR_MIRROR_HI_ADDR then s.rdB R.ERR_MIRROR_LO_ENABLE 0
    else s.rd R.ERR_TEL_CFG_TEL_EVERY d != 0
  | _ => false

/-- The value a field would have after a write of `asks`. -/
def newVal (s : State) (d : Nat) (asks : List (Part × Nat)) (f : Fld) (ix : List Nat) : Nat :=
  match asks.find? (fun a => a.1.1 == f && a.1.2 == ix) with
  | some a => a.2
  | none => if f.cls == .T then s.rdShadow f d ix else s.rd f d ix

/-- The pairs of R229 and R390: the HI address and the LOC that goes with it. -/
def locPairs : List (Fld × Fld) :=
  [(R.WRK_DB_HI_ADDR, R.WRK_DB_LO_LOC), (R.WRK_STAT_HI, R.WRK_STAT_LO_LOC), (R.WRK_MGMT_HI, R.WRK_MGMT_LO_LOC), (R.WRK_MRSP_HI, R.WRK_MRSP_LO_LOC),
   (R.WRK_RING_HI, R.WRK_RING_LO_LOC), (R.WRK_CPL_HI, R.WRK_RING_LO_LOC), (R.BAY_Q_DB_HI, R.BAY_Q_DB_LO_LOC), (R.BAY_Q_STAT_HI, R.BAY_Q_STAT_LO_LOC),
   (R.BAY_Q_RING_HI, R.BAY_Q_RING_LO_LOC), (R.BAY_Q_CPL_HI, R.BAY_Q_RING_LO_LOC)]

/-- The other half of a LO word: a refused pair keeps all its values. -/
def loAddr : List (Fld × Fld) :=
  [(R.WRK_DB_LO_ADDR, R.WRK_DB_LO_LOC), (R.WRK_STAT_LO_ADDR, R.WRK_STAT_LO_LOC), (R.WRK_MGMT_LO_ADDR, R.WRK_MGMT_LO_LOC), (R.WRK_MRSP_LO_ADDR, R.WRK_MRSP_LO_LOC),
   (R.WRK_RING_LO_ADDR, R.WRK_RING_LO_LOC), (R.BAY_Q_DB_LO_ADDR, R.BAY_Q_DB_LO_LOC), (R.BAY_Q_STAT_LO_ADDR, R.BAY_Q_STAT_LO_LOC),
   (R.BAY_Q_RING_LO_ADDR, R.BAY_Q_RING_LO_LOC)]

/-- Whether a rule that looks at other fields forbids the write of a field (R229, R373, R377, R418, R431, R566). -/
def State.forbidden (s : State) (d : Nat) (asks : List (Part × Nat)) (f : Fld) (ix : List Nat) (v : Nat) : Bool :=
  let nv := newVal s d asks
  let loc := match loAddr.find? (fun x => x.1 == f) with | some x => x.2 | none => f
  if locPairs.any (fun x => x.1 == f || x.2 == loc) then
    locPairs.any (fun x => (x.1 == f || x.2 == loc) && nv x.2 ix == 1 && decide (2 ^ 16 ≤ nv x.1 ix))
  else if f == R.BAY_GRANT then
    let b := 2 * d + ix.getD 0 0
    s.bayRd R.BAY_STATUS_PROTO b == 1 && !(s.bayInfo b).separate && decide (1 < popcount v 64)
  else if f == R.BAY_Q_LIMIT_FETCH_MAX then decide ((s.bayInfo (nv R.BAY_Q_BIND_BAY ix)).depth < v)
  else if f == R.TOR_Q_CFG_ENABLE then
    let st := s.rd R.PAR_CTX_CFG_STATE 0 [ix.getD 0 0, nv R.TOR_Q_CFG_CONTEXT ix]
    v == 1 && (st == 0 || st == 3)
  else if f == R.KNL_REGION_VALID || f == R.KNL_REGION_SIZE then
    decide (384 * 2 ^ 14 < (List.range 16).foldl (fun n e => if nv R.KNL_REGION_VALID [e] = 1 then n + nv R.KNL_REGION_SIZE [e] else n) 0)
  else if f == R.PCI_BAR2_BASE_BASE then v % (s.bar2Size / 2 ^ 30) != 0
  else if f == R.AGE_CFG_WARN_PS || f == R.AGE_CFG_CRIT_PS then decide (nv R.AGE_CFG_WARN_PS ix < nv R.AGE_CFG_CRIT_PS ix)
  else false

/-! ### What a write does -/

/-- The action a write of a WO field asks for. -/
def State.act (s : State) (f : Fld) (d : Nat) (ix : List Nat) (v dt : Nat) : State :=
  let p := ix.getD 0 0
  let k := ix.getD 1 0
  let b := 2 * d + p
  if f == R.CLU_CTRL_PERF_CLEAR then (execCluPerfClear (128 * d + p) s).after s
  else if f == R.CLU_CTRL_RELEASE then (execCluRelease (128 * d + p) s).after s
  else if f == R.SHD_CTRL_CLEAR_STATS then (execShdClearStats s).after s
  else if f == R.WRK_RING_CTRL_RESET then s.ringReset p k
  else if f == R.WRK_RING_CTRL_STOP then s.ringStop p k
  else if f == R.TCK_CTRL_CLEAR_STATS then (execTckClearStats s).after s
  else if f == R.MEM_CTRL_CLEAR_STATS then (execMemClearStats d s).after s
  else if f == R.STC_CTRL_FLUSH then (execStcFlush d s).after s
  else if f == R.STC_CTRL_CLEAR_STATS then (execStcClearStats d s).after s
  else if f == R.LSH_CTRL_CLEAR_STATS then (execLshClearStats d s).after s
  else if f == R.LSH_CTRL_READMIT then (if d = 0 then (execLshReadmit s).after s else s)
  else if f == R.XLT_CTRL_CLEAR_STATS then (execXltClearStats d s).after s
  else if f == R.FLL_CTRL_CLEAR_STATS then (execFllClearStats d s).after s
  else if f == R.COH_CTRL_CLEAR_STATS then (execCohClearStats d s).after s
  else if f == R.COH_ISL_CTRL_FORCE_DOWN then (execCohForceDown p s).after s
  else if f == R.COH_ISL_CTRL_REINIT then (execCohReinit p s).after s
  else if f == R.BAY_CTRL_CLEAR_STATS then (execBayClearStats b s).after s
  else if f == R.BAY_CTRL_FORCE_HEEL then (execBayForceHeel b s).after s
  else if f == R.BAY_CTRL_READMIT then (execBayReadmit b s).after s
  else if f == R.BAY_Q_CTRL_RESET then (execBayQReset p k s).after s
  else if f == R.BAY_Q_CTRL_STOP then (execBayQStop p k s).after s
  else if f == R.DDL_CTRL_CLEAR_STATS then (execDdlClearStats d p s).after s
  else if f == R.KNL_CTRL_CLEAR_STATS then (execKnlClearStats s).after s
  else if f == R.KNL_CTRL_RESTORE then (execKnlRestore false true 0 s).after s
  else if f == R.SBR_CTRL_CLEAR_STATS then (execSbrClearStats s).after s
  else if f == R.SBR_CTRL_LEAVE then (execSbrLeave s).after s
  else if f == R.PCI_CTRL_CLEAR_STATS then (execPciClearStats s).after s
  else if f == R.HEL_RELEASE_FORCE then (execHelForce s).after s
  else if f == R.HEL_RELEASE_RELEASE then (execHelRelease s).after s
  else if f == R.PAR_CTRL_ZERO then (execParZero p s).after s
  else if f == R.PAR_CTRL_RESET then (execParReset p s).after s
  else if f == R.SEC_CTRL_CLEAR_STATS then (execSecClearStats s).after s
  else if f == R.SEC_CTRL_COMMIT_SVN then (execCommitSvn s).after s
  else if f == R.SEC_CTRL_ACTIVATE then (execPackActivate s).after s
  else if f == R.SEC_CTRL_STAGE then (execPackStage s).after s
  else if f == R.LCS_ARM then (execLcsArm v dt s).after s
  else if f == R.LCS_CMD_CMD then
    (if v = 1 then (execGenIdentity dt s).after s
     else if v = 2 then (execInstallCert dt s).after s
     else if v = 3 then (execToProduction dt s).after s
     else if v = 4 then (execToEndOfLife dt s).after s
     else s.lcsCmd v dt false (fun _ => 0) id)
  else if f == R.BST_CTRL_CLEAR_STATS then (execBstClearStats d s).after s
  else if f == R.BST_CTRL_CLEAR_FAILS then (execBstClearFails d s).after s
  else if f == R.ERR_CTRL_CLEAR_STATS then (execErrClearStats d s).after s
  else if f == R.ERR_PKG_CTRL_DIE_RESET then (execDieResetWrite (2 * v) s).after s
  else s

/-- Set a field to a value that is not dropped, with what a change of it brings about. -/
def State.putField (s : State) (f : Fld) (d : Nat) (ix : List Nat) (v : Nat) : State :=
  let p := ix.getD 0 0
  if f == R.TCK_CTRL_SOURCE then s.setSource v
  else if f == R.CLU_CTRL_PERF_ENABLE then
    let s := s.wr f d ix v
    let c := 128 * d + p
    s.setClu c { s.clu c with metered := (s.clu c).metered || s.meters c }
  else if f == R.STC_CTRL_ENABLE && v == 0 then (execStcDisable d s).after s
  else if f == R.KNL_CTRL_ENABLE then (s.wr f d ix v).wr R.KNL_STATUS_STATE 0 [] v
  else if f == R.TOR_COORD then { (s.wr f d ix v) with boot := { s.boot with coordSet := true } }
  else if f == R.PCI_MSIX_MASK && v == 0 then s.vecUnmask 0 p
  else if f == R.PCI_VF_MSIX_MASK && v == 0 then s.vecUnmask (p + 1) (ix.getD 1 0)
  else if f == R.WRK_EVENT_MASK then
    let old := s.rd f 0 ix
    let s := s.wr f d ix v
    if ([R.WRK_EVENT_DB_FAIL, R.WRK_EVENT_RING_ERROR, R.WRK_EVENT_HARD_LIMIT, R.WRK_EVENT_ISLAND_DOWN] : List Fld).any
      (fun e => s.rdB e 0 [p] && bit old e.lo && !bit v e.lo) then s.eventIrq p else s
  else if f.cls == .T && f.acc == .RW then s.wrShadow f d ix v
  else s.wr f d ix v

/-- What a write asks of one field. -/
def State.askOf (s : State) (d : Nat) (asks : List (Part × Nat)) (a : Part × Nat) : Put :=
  let (f, ix) := a.1
  let cur := if f.cls == .T then s.rdShadow f d ix else s.rd f d ix
  if f.acc == .RW && s.forbidden d asks f ix a.2 then (if a.2 = cur then .none else .drop)
  else s.putOf f d ix a.2 (s.fieldBusy f d ix)

/-- A group that is checked as a whole has been written (R579). -/
def State.wroteGroup (s : State) (f : Fld) : State :=
  if regionFlds.contains f then { s with wroteRegion := true }
  else if leashFlds.contains f then { s with wroteLeash := true }
  else if slotFlds.contains f then { s with wroteSlots := true }
  else if parFlds.contains f then { s with wrotePar := true } else s

/-- The write of the fields of a register by the change classes (R10 to R15). The first drop is recorded; a SPACE of 3 to 15 is dropped without a
record, since CLU_CFG_ERR takes dropped Q-class and K-class writes alone (R90, R91). -/
def State.putAll (s : State) (d : Nat) (asks : List (Part × Nat)) (dt : Nat) : State :=
  let ps := asks.map (fun a => (a, s.askOf d asks a))
  let s := s.each ps (fun (s : State) (x : (Part × Nat) × Put) =>
    let (f, ix) := x.1.1
    match x.2 with
    | .put v => (s.putField f d ix v).wroteGroup f
    | .none => if f.acc == .WO && x.1.2 != 0 then s.act f d ix x.1.2 dt else if f == R.TOR_COORD then s.putField f d ix x.1.2 else s
    | .drop => s)
  match ps.find? (fun x => match x.2 with | .drop => x.1.1.1 != R.CLU_DBG_ADDR_SPACE | _ => false) with
  | some x => s.cfgErr x.1.1.1.blk d x.1.1.2 (x.1.1.1.offset x.1.1.2)
  | none => s

/-- A write of `len` bytes at `off` within TCK_NUMBER (R248, R249): the number that the next boundary takes. A dropped write is recorded once,
whatever its length (R14). -/
def State.putNumber (s : State) (off len v : Nat) : State :=
  let cur := s.tck.numNext.getD s.tick
  let new := mergeBits cur (8 * R.TCK_NUMBER.base) 64 v off len
  if s.source == 1 || s.rdB R.TCK_NEXT_PENDING 0 then s.cfgErr .TCK 0 [] R.TCK_NUMBER.base
  else if s.fieldBusy R.TCK_NUMBER 0 [] then (if new = cur then s else s.cfgErr .TCK 0 [] R.TCK_NUMBER.base)
  else { s with tck := { s.tck with numNext := some new } }

/-- NEXT_PERIOD (R248); 201 to 255 are dropped, and no rule has that recorded (R249). -/
def State.putPeriod (s : State) (v : Nat) : State :=
  let n := v % 256
  if n = 0 then (execTckPeriodCancel s).after s
  else if s.source == 1 || s.rdB R.TCK_NEXT_PENDING 0 then s.cfgErr .TCK 0 [] R.TCK_NEXT_NEXT_PERIOD.base
  else if 200 < n then s
  else s.wr R.TCK_NEXT_NEXT_PERIOD 0 [] n

/-- A write of `len` bytes at `off` within TCK_NEXT_AT (R248): the high word schedules nothing, the low word arms; both in one write, the high
one first. While neither may be written, the write is dropped and recorded once. -/
def State.putNextAt (s : State) (off len v : Nat) : State :=
  let lo := off == R.TCK_NEXT_AT.base
  if s.source == 1 || s.rdB R.TCK_NEXT_PENDING 0 then s.cfgErr .TCK 0 [] (if lo then R.TCK_NEXT_AT.base else R.TCK_NEXT_AT.base + 4)
  else
    let hi := if lo then v / 2 ^ 32 else v
    let s := if !lo || len == 8 then s.wr R.TCK_NEXT_AT 0 [] (hi % 2 ^ 32 * 2 ^ 32 + s.rd R.TCK_NEXT_AT 0 % 2 ^ 32) else s
    if lo then (execTckNextAtArm (v % 2 ^ 32) s).after s else s

/-- A write within TCK_NUMBER or TCK_NEXT_AT, whose latched word a write ends. -/
def State.tckPair (s : State) (off len v : Nat) : Option State :=
  if off = R.TCK_NUMBER.base ∨ off = R.TCK_NUMBER.base + 4 then some ((s.putNumber off len v).unlatch R.TCK_NUMBER.base)
  else if off = R.TCK_NEXT_AT.base ∨ off = R.TCK_NEXT_AT.base + 4 then some ((s.putNextAt off len v).unlatch R.TCK_NEXT_AT.base)
  else none

/-- A word whose write is a command of its own. -/
def State.ownWord (s : State) (d w v : Nat) : Option State :=
  if R.ERR_Q_ACK.ixAt w |>.isSome then some (s.errAck d (((R.ERR_Q_ACK.ixAt w).getD []).getD 0 0) v)
  else if (R.MEM_PORT_LB_CTRL_START.ixAt w).isSome then some ((execLoopbackStart (32 * d + ((R.MEM_PORT_LB_CTRL_START.ixAt w).getD []).getD 0 0) v s).after s)
  else if d ≠ 0 then none
  else if w = R.HUB_ISLAND_HD0_ISL.base then some ((execHubIslandWrite v s).after s)
  else if w = R.TCK_NEXT_NEXT_PERIOD.base then some (s.putPeriod v)
  else
    match R.PAR_CTX_CFG_ENABLE.ixAt w, R.WRK_RING_CFG_ENABLE.ixAt w, R.BAY_Q_CFG_ENABLE.ixAt w, R.WRK_MGMT_CFG_ENABLE.ixAt w with
    | some ix, _, _, _ => some (if bit v 31 then s.ctxEnable (ix.getD 0 0) (ix.getD 1 0) v else s.ctxDisable (ix.getD 0 0) (ix.getD 1 0) v)
    | _, some ix, _, _ => if bit v 31 then some ((execRingEnable (ix.getD 0 0) (ix.getD 1 0) v s).after s) else none
    | _, _, some ix, _ => if bit v 31 then some ((execBayQEnable (ix.getD 0 0) (ix.getD 1 0) v s).after s) else none
    | _, _, _, some ix => if bit v 31 then some ((execMgmtQueueEnable (ix.getD 0 0) v s).after s) else none
    | _, _, _, _ => none

/-- A register write of 4 or 8 bytes. The words that are commands of their own go first, a high word before a low one. -/
def State.busWrite (s : State) (d off len value dt : Nat) : State :=
  if !s.dieRuns d then s
  else if (match windowClu d off with | some c => !s.cluExists c | none => false) then s
  else match (if d = 0 then s.tckPair off len value else none) with
  | some t => t
  | none =>
    let own := (accWords off len).reverse.foldl (fun (acc : State × List Nat) w =>
      match acc.1.ownWord d w (value / 2 ^ (8 * (w - off)) % 2 ^ 32) with
      | some t => (t, w :: acc.2)
      | none => acc) (s, [])
    let s := own.1
    let parts := (accParts d off len).filter (fun p => !((accWords (p.1.offset p.2 + p.1.lo / 32 * 4) 4).any own.2.contains))
    let asks := parts.map (fun p =>
      let (f, ix) := p
      let cur := if f.acc == .RW then (if f.cls == .T then s.rdShadow f d ix else s.rd f d ix) else 0
      (p, mergeBits cur (8 * f.offset ix + f.lo) f.width value off len))
    s.putAll d asks dt

/-! ### The rows -/

/-- Accesses of 4 B and 8 B, aligned (R437). -/
def regSize (off len : Nat) : Bool := (len == 4 && off % 4 == 0) || (len == 8 && off % 8 == 0)

/-- A register write with no row of its own, and through it any other. -/
def execRegWrite (die off len value dt : Nat) (s : State) : Result :=
  within s (decide (die < 4) && decide (off < 2 ^ 26) && decide (value < 2 ^ 64)) (
    if regSize off len then s.busWrite die off len value dt else s)

/-- A read of the low word of a counter; its high word waits for the next read (R91). -/
def execCounterLowRead (die off : Nat) (s : State) : Result :=
  within s (decide (die < 4) && decide (off < 2 ^ 26)) (
    if off % 4 != 0 then s
    else
      let (v, s) := s.busRead die off 4
      s.send (.reg v))

/-- A register-read request reaches a register block over Flial; a die in reset answers nothing (R325, R326). -/
def execCfgRd (die off len : Nat) (s : State) : Result :=
  within s (decide (die < 4) && decide (off < 2 ^ 26)) (
    if !regSize off len || !s.dieRuns die then s
    else
      let (v, s) := s.busRead die off len
      s.cfgAnswer false v 8)

/-- The SEC and LCS registers, which a Pack core does not write (R491). -/
def secOff (off : Nat) : Bool := decide (0x700000 ≤ off) && decide (off < 0x780000)

/-- A register-write request reaches a register block over Flial; one of a Pack core to a SEC or LCS register writes nothing (R491). -/
def execCfgWr (pack : Bool) (die off len value dt : Nat) (s : State) : Result :=
  within s (decide (die < 4) && decide (off < 2 ^ 26) && decide (value < 2 ^ 64)) (
    if !regSize off len || !s.dieRuns die then s
    else (if pack && secOff off then s else s.busWrite die off len value dt).cfgAnswer true 0 8)

/-- Where a BAR0 offset of a function leads (R36, R437, R438): a die and its register offset; none for a reserved slot. -/
def bar0Place (fn off : Nat) : Option (Nat × Nat) :=
  if fn = 0 then some (off / 2 ^ 26, off % 2 ^ 26)
  else
    let page (base : Nat) : Option (Nat × Nat) := some (0, base + (fn - 1) * 0x10000 + off % 0x10000)
    match off / 0x10000 with
    | 0 => page 0x02000000
    | 1 => page 0x02400000
    | 2 => page 0x02800000
    | 3 => page 0x02C00000
    | 4 => page 0x03400000
    | 5 => page 0x03000000
    | _ => none

def bar0Size (fn : Nat) : Nat := if fn = 0 then 2 ^ 28 else 2 ^ 19

/-- A host access to BAR0 of a function (R36, R437, R438, R441, R455, R510); a read waits for every earlier write of the function through BAR2
(R442). -/
def execBar0Access (fn off len : Nat) (write : Bool) (value dt : Nat) (s : State) : Result :=
  within s (decide (fn < 65) && decide (value < 2 ^ 64)) (
    let fail (s : State) : State :=
      let s := s.bump R.PCI_BAR_ERR 0 [] 1
      if write then s else s.send (.hostCpl fn 4 [])
    if !s.fnExists fn || decide (bar0Size fn < off + len) then (if write then s else s.send (.hostCpl fn 1 []))
    else if !regSize off len then fail s
    else if fn != 0 && s.heel then (if write then s else s.send (.hostCpl fn 4 []))
    else if !write && s.barPosted fn then s
    else
      match bar0Place fn off with
      | none => if write then s else s.send (.hostCpl fn 0 (leBytes len 0))
      | some (d, o) =>
        if write then s.busWrite d o len value dt
        else
          let s := if fn = 0 then s.regTouch d o len else s
          let (v, s) := s.busRead d o len
          s.send (.hostCpl fn 0 (leBytes len v)))

end Sys2Proof.Machine
end

