-- ==== Sys2Proof/Machine/Dispatch.lean ====
section
/-! DEFINITION. The dispatch: one arm per command, each one call of its meaning. -/

namespace Sys2Proof.Machine

def exec (i : Instr) (s : State) : Host.Outcome State Fault Refusal :=
  match i with
  | .regWrite die off len value dt => Sys2Proof.Machine.execRegWrite die off len value dt s
  | .counterLowRead die off => Sys2Proof.Machine.execCounterLowRead die off s
  | .cluDbgDataRead cluster high => Sys2Proof.Machine.execCluDbgDataRead cluster high s
  | .hubIslandWrite value => Sys2Proof.Machine.execHubIslandWrite value s
  | .tickBoundary => Sys2Proof.Machine.execTickBoundary s
  | .standinBlock die => Sys2Proof.Machine.execStandinBlock die s
  | .slotFrameStart dt => Sys2Proof.Machine.execSlotFrameStart dt s
  | .dieResetRelease die pos => Sys2Proof.Machine.execDieResetRelease die pos s
  | .nop tile => Sys2Proof.Machine.execNop tile s
  | .token tile => Sys2Proof.Machine.execToken tile s
  | .tileEnd tile => Sys2Proof.Machine.execTileEnd tile s
  | .loop tile => Sys2Proof.Machine.execLoop tile s
  | .move tile => Sys2Proof.Machine.execMove tile s
  | .setbase tile => Sys2Proof.Machine.execSetbase tile s
  | .ldbase tile => Sys2Proof.Machine.execLdbase tile s
  | .setshape tile => Sys2Proof.Machine.execSetshape tile s
  | .fill tile => Sys2Proof.Machine.execFill tile s
  | .gather tile => Sys2Proof.Machine.execGather tile s
  | .scatter tile => Sys2Proof.Machine.execScatter tile s
  | .send tile => Sys2Proof.Machine.execSend tile s
  | .recv tile => Sys2Proof.Machine.execRecv tile s
  | .cube tile => Sys2Proof.Machine.execCube tile s
  | .accz tile => Sys2Proof.Machine.execAccz tile s
  | .accld tile => Sys2Proof.Machine.execAccld tile s
  | .accst tile => Sys2Proof.Machine.execAccst tile s
  | .dial tile => Sys2Proof.Machine.execDial tile s
  | .planes tile => Sys2Proof.Machine.execPlanes tile s
  | .vadd tile => Sys2Proof.Machine.execVadd tile s
  | .vsub tile => Sys2Proof.Machine.execVsub tile s
  | .vmul tile => Sys2Proof.Machine.execVmul tile s
  | .vfma tile => Sys2Proof.Machine.execVfma tile s
  | .vmin tile => Sys2Proof.Machine.execVmin tile s
  | .vmax tile => Sys2Proof.Machine.execVmax tile s
  | .vceq tile => Sys2Proof.Machine.execVceq tile s
  | .vcne tile => Sys2Proof.Machine.execVcne tile s
  | .vclt tile => Sys2Proof.Machine.execVclt tile s
  | .vcle tile => Sys2Proof.Machine.execVcle tile s
  | .vand tile => Sys2Proof.Machine.execVand tile s
  | .vor tile => Sys2Proof.Machine.execVor tile s
  | .vxor tile => Sys2Proof.Machine.execVxor tile s
  | .vsel tile => Sys2Proof.Machine.execVsel tile s
  | .vabs tile => Sys2Proof.Machine.execVabs tile s
  | .vneg tile => Sys2Proof.Machine.execVneg tile s
  | .vmov tile => Sys2Proof.Machine.execVmov tile s
  | .vrsum tile => Sys2Proof.Machine.execVrsum tile s
  | .vrmax tile => Sys2Proof.Machine.execVrmax tile s
  | .vexp tile => Sys2Proof.Machine.execVexp tile s
  | .vexp2 tile => Sys2Proof.Machine.execVexp2 tile s
  | .vlog tile => Sys2Proof.Machine.execVlog tile s
  | .vlog2 tile => Sys2Proof.Machine.execVlog2 tile s
  | .vrcp tile => Sys2Proof.Machine.execVrcp tile s
  | .vsqrt tile => Sys2Proof.Machine.execVsqrt tile s
  | .vrsqrt tile => Sys2Proof.Machine.execVrsqrt tile s
  | .vsin tile => Sys2Proof.Machine.execVsin tile s
  | .vcos tile => Sys2Proof.Machine.execVcos tile s
  | .vtanh tile => Sys2Proof.Machine.execVtanh tile s
  | .vsigm tile => Sys2Proof.Machine.execVsigm tile s
  | .verf tile => Sys2Proof.Machine.execVerf tile s
  | .vrcmb tile => Sys2Proof.Machine.execVrcmb tile s
  | .cvt tile => Sys2Proof.Machine.execCvt tile s
  | .cvtmx tile => Sys2Proof.Machine.execCvtmx tile s
  | .cvtxm tile => Sys2Proof.Machine.execCvtxm tile s
  | .slice tile => Sys2Proof.Machine.execSlice tile s
  | .commandStart tile unit => Sys2Proof.Machine.execCommandStart tile unit s
  | .commandComplete tile seq => Sys2Proof.Machine.execCommandComplete tile seq s
  | .tokenSignalArrive tile k => Sys2Proof.Machine.execTokenSignalArrive tile k s
  | .channelSlotArrive tile ch => Sys2Proof.Machine.execChannelSlotArrive tile ch s
  | .creditReturn tile ch => Sys2Proof.Machine.execCreditReturn tile ch s
  | .unitStop uid => Sys2Proof.Machine.execUnitStop uid s
  | .clusterUnitEnd cluster => Sys2Proof.Machine.execClusterUnitEnd cluster s
  | .dispatchLoad cluster host => Sys2Proof.Machine.execDispatchLoad cluster host s
  | .startRelease uid dt => Sys2Proof.Machine.execStartRelease uid dt s
  | .ringRefill tile => Sys2Proof.Machine.execRingRefill tile s
  | .cluRelease cluster => Sys2Proof.Machine.execCluRelease cluster s
  | .cluPerfClear cluster => Sys2Proof.Machine.execCluPerfClear cluster s
  | .doorbellReadReturn part queue ok data => Sys2Proof.Machine.execDoorbellReadReturn part queue ok data s
  | .fetchDeadline part queue => Sys2Proof.Machine.execFetchDeadline part queue s
  | .descriptorReadReturn part ring ok data => Sys2Proof.Machine.execDescriptorReadReturn part ring ok data s
  | .kernel part ring dt => Sys2Proof.Machine.execKernel part ring dt s
  | .marker part ring dt => Sys2Proof.Machine.execMarker part ring dt s
  | .copy part ring dt host => Sys2Proof.Machine.execCopy part ring dt host s
  | .migrate part ring dt host => Sys2Proof.Machine.execMigrate part ring dt host s
  | .warm part ring dt => Sys2Proof.Machine.execWarm part ring dt s
  | .stcFill part ring dt host => Sys2Proof.Machine.execStcFill part ring dt host s
  | .stcClean part ring dt => Sys2Proof.Machine.execStcClean part ring dt s
  | .completionRecordWrite uid dt => Sys2Proof.Machine.execCompletionRecordWrite uid dt s
  | .ringEnable part ring value => Sys2Proof.Machine.execRingEnable part ring value s
  | .ringStop part ring => Sys2Proof.Machine.execRingStop part ring s
  | .ringReset part ring => Sys2Proof.Machine.execRingReset part ring s
  | .mgmtQueueEnable part value => Sys2Proof.Machine.execMgmtQueueEnable part value s
  | .shdClearStats => Sys2Proof.Machine.execShdClearStats s
  | .registerImage part host => Sys2Proof.Machine.execRegisterImage part host s
  | .unregisterImage part => Sys2Proof.Machine.execUnregisterImage part s
  | .stopContext part => Sys2Proof.Machine.execStopContext part s
  | .resumeContext part => Sys2Proof.Machine.execResumeContext part s
  | .invalidate part => Sys2Proof.Machine.execInvalidate part s
  | .mgmtBusyTimeout part => Sys2Proof.Machine.execMgmtBusyTimeout part s
  | .budgetEnd uid => Sys2Proof.Machine.execBudgetEnd uid s
  | .hardLimit uid => Sys2Proof.Machine.execHardLimit uid s
  | .tickInEdge dt => Sys2Proof.Machine.execTickInEdge dt s
  | .tickInMissed => Sys2Proof.Machine.execTickInMissed s
  | .syncSend => Sys2Proof.Machine.execSyncSend s
  | .syncFrame crcOk src seq tickNo tod correction period nextAt residence k dtPs => Sys2Proof.Machine.execSyncFrame crcOk src seq tickNo tod correction period nextAt residence k dtPs s
  | .syncHoldover dt => Sys2Proof.Machine.execSyncHoldover dt s
  | .syncLost => Sys2Proof.Machine.execSyncLost s
  | .tckNextAtArm low => Sys2Proof.Machine.execTckNextAtArm low s
  | .tckPeriodCancel => Sys2Proof.Machine.execTckPeriodCancel s
  | .tckClearStats => Sys2Proof.Machine.execTckClearStats s
  | .rdCur a dt ecc => Sys2Proof.Machine.execRdCur a dt ecc s
  | .rdShared a dt ecc => Sys2Proof.Machine.execRdShared a dt ecc s
  | .rdOwn a dt ecc => Sys2Proof.Machine.execRdOwn a dt ecc s
  | .upgrade a dt ecc => Sys2Proof.Machine.execUpgrade a dt ecc s
  | .wbDirty a dt ecc => Sys2Proof.Machine.execWbDirty a dt ecc s
  | .evictClean a dt ecc => Sys2Proof.Machine.execEvictClean a dt ecc s
  | .wrInv a dt ecc => Sys2Proof.Machine.execWrInv a dt ecc s
  | .wrPlace a dt ecc => Sys2Proof.Machine.execWrPlace a dt ecc s
  | .atomic a dt ecc => Sys2Proof.Machine.execAtomic a dt ecc s
  | .cfgRd die off len => Sys2Proof.Machine.execCfgRd die off len s
  | .cfgWr pack die off len value dt => Sys2Proof.Machine.execCfgWr pack die off len value dt s
  | .dramCommandIssue q dt openIds ecc => Sys2Proof.Machine.execDramCommandIssue q dt openIds ecc s
  | .rdData rid => Sys2Proof.Machine.execRdData rid s
  | .wrAck rid => Sys2Proof.Machine.execWrAck rid s
  | .grantE rid => Sys2Proof.Machine.execGrantE rid s
  | .grantS rid => Sys2Proof.Machine.execGrantS rid s
  | .grantUpg rid => Sys2Proof.Machine.execGrantUpg rid s
  | .wbAck rid => Sys2Proof.Machine.execWbAck rid s
  | .atomicData rid => Sys2Proof.Machine.execAtomicData rid s
  | .rspI tag dt => Sys2Proof.Machine.execRspI tag dt s
  | .rspS tag dt => Sys2Proof.Machine.execRspS tag dt s
  | .rspData tag dt => Sys2Proof.Machine.execRspData tag dt s
  | .pushAck tag dt => Sys2Proof.Machine.execPushAck tag dt s
  | .pushNack tag dt => Sys2Proof.Machine.execPushNack tag dt s
  | .credit tile ch => Sys2Proof.Machine.execCredit tile ch s
  | .cfgData id => Sys2Proof.Machine.execCfgData id s
  | .cfgAck id => Sys2Proof.Machine.execCfgAck id s
  | .snpCur tag holds data => Sys2Proof.Machine.execSnpCur tag holds data s
  | .snpShare tag holds data => Sys2Proof.Machine.execSnpShare tag holds data s
  | .snpInv tag holds data => Sys2Proof.Machine.execSnpInv tag holds data s
  | .snpPush tag accept => Sys2Proof.Machine.execSnpPush tag accept s
  | .stcFlush die => Sys2Proof.Machine.execStcFlush die s
  | .stcFlushDone die => Sys2Proof.Machine.execStcFlushDone die s
  | .stcDisable die => Sys2Proof.Machine.execStcDisable die s
  | .stcClearStats die => Sys2Proof.Machine.execStcClearStats die s
  | .memClearStats die => Sys2Proof.Machine.execMemClearStats die s
  | .patrolScrub q sector dt ecc => Sys2Proof.Machine.execPatrolScrub q sector dt ecc s
  | .stackTempRead stack temp => Sys2Proof.Machine.execStackTempRead stack temp s
  | .channelRecal chan lanes spare halfOk => Sys2Proof.Machine.execChannelRecal chan lanes spare halfOk s
  | .loopbackStart port128 value => Sys2Proof.Machine.execLoopbackStart port128 value s
  | .loopbackDone port128 errors => Sys2Proof.Machine.execLoopbackDone port128 errors s
  | .lshReadmit => Sys2Proof.Machine.execLshReadmit s
  | .lshClearStats die => Sys2Proof.Machine.execLshClearStats die s
  | .leashRequest src dt => Sys2Proof.Machine.execLeashRequest src dt s
  | .tlbMiss xfer k => Sys2Proof.Machine.execTlbMiss xfer k s
  | .pageWalk miss => Sys2Proof.Machine.execPageWalk miss s
  | .atsTranslationCompletion miss timedOut ok r w size pa => Sys2Proof.Machine.execAtsTranslationCompletion miss timedOut ok r w size pa s
  | .prgResponse miss success => Sys2Proof.Machine.execPrgResponse miss success s
  | .atsInvalidateRequest fn tag pasid va size => Sys2Proof.Machine.execAtsInvalidateRequest fn tag pasid va size s
  | .invalidationComplete inval => Sys2Proof.Machine.execInvalidationComplete inval s
  | .drainCut inval => Sys2Proof.Machine.execDrainCut inval s
  | .xltClearStats die => Sys2Proof.Machine.execXltClearStats die s
  | .snoopTimeout tag => Sys2Proof.Machine.execSnoopTimeout tag s
  | .flitParityError die lost => Sys2Proof.Machine.execFlitParityError die lost s
  | .islandDownNotice island => Sys2Proof.Machine.execIslandDownNotice island s
  | .cohForceDown island => Sys2Proof.Machine.execCohForceDown island s
  | .cohReinit island => Sys2Proof.Machine.execCohReinit island s
  | .islandReinitDone island chans clus ports mods bays engines => Sys2Proof.Machine.execIslandReinitDone island chans clus ports mods bays engines s
  | .cohClearStats die => Sys2Proof.Machine.execCohClearStats die s
  | .fllClearStats die => Sys2Proof.Machine.execFllClearStats die s
  | .bayAdmission bay answers record cert fail4Tx fail4Rx fail2Tx fail2Rx repTx repRx => Sys2Proof.Machine.execBayAdmission bay answers record cert fail4Tx fail4Rx fail2Tx fail2Rx repTx repRx s
  | .bayParityPoll bay toBay group lanes clockLane => Sys2Proof.Machine.execBayParityPoll bay toBay group lanes clockLane s
  | .bayLinkLost bay => Sys2Proof.Machine.execBayLinkLost bay s
  | .bwEnd bay uid gen status d0 d1 dt => Sys2Proof.Machine.execBwEnd bay uid gen status d0 d1 dt s
  | .bwXlate bay wq part ctx va write gen => Sys2Proof.Machine.execBwXlate bay wq part ctx va write gen s
  | .bwInvalDone bay part ctx epoch gen => Sys2Proof.Machine.execBwInvalDone bay part ctx epoch gen s
  | .bayAbortTimeout uid dt => Sys2Proof.Machine.execBayAbortTimeout uid dt s
  | .bayPowerPoll bay temp rail rail10 => Sys2Proof.Machine.execBayPowerPoll bay temp rail rail10 s
  | .bayEvacDone bay => Sys2Proof.Machine.execBayEvacDone bay s
  | .bayEvacTimeout bay => Sys2Proof.Machine.execBayEvacTimeout bay s
  | .bayForceHeel bay => Sys2Proof.Machine.execBayForceHeel bay s
  | .bayReadmit bay => Sys2Proof.Machine.execBayReadmit bay s
  | .bayClearStats bay => Sys2Proof.Machine.execBayClearStats bay s
  | .bayQStop part bq => Sys2Proof.Machine.execBayQStop part bq s
  | .bayQReset part bq => Sys2Proof.Machine.execBayQReset part bq s
  | .bayQEnable part bq value => Sys2Proof.Machine.execBayQEnable part bq value s
  | .ringBeat die dir module payload noise dt => Sys2Proof.Machine.execRingBeat die dir module payload noise dt s
  | .ringModuleRetrain die dir module failing => Sys2Proof.Machine.execRingModuleRetrain die dir module failing s
  | .ringRestripe die dir srcs => Sys2Proof.Machine.execRingRestripe die dir srcs s
  | .ringLinkLost goodbye die dir => Sys2Proof.Machine.execRingLinkLost goodbye die dir s
  | .ringLinkTrain die dir tx rx latency => Sys2Proof.Machine.execRingLinkTrain die dir tx rx latency s
  | .ddlClearStats die dir => Sys2Proof.Machine.execDdlClearStats die dir s
  | .torusPortTrain port full lo hi pattern room => Sys2Proof.Machine.execTorusPortTrain port full lo hi pattern room s
  | .torusCodeword port corrected lost seq replay block => Sys2Proof.Machine.execTorusCodeword port corrected lost seq replay block s
  | .torusRetrain port => Sys2Proof.Machine.execTorusRetrain port s
  | .put port vc last => Sys2Proof.Machine.execPut port vc last s
  | .get port vc => Sys2Proof.Machine.execGet port vc s
  | .getData port vc => Sys2Proof.Machine.execGetData port vc s
  | .torusAtomic port vc => Sys2Proof.Machine.execTorusAtomic port vc s
  | .torusAtomicData port vc => Sys2Proof.Machine.execTorusAtomicData port vc s
  | .putAck port vc => Sys2Proof.Machine.execPutAck port vc s
  | .reduce port vc => Sys2Proof.Machine.execReduce port vc s
  | .reduceResult port vc => Sys2Proof.Machine.execReduceResult port vc s
  | .stream port vc => Sys2Proof.Machine.execStream port vc s
  | .packetForward port vc => Sys2Proof.Machine.execPacketForward port vc s
  | .torusQueuePoll part q => Sys2Proof.Machine.execTorusQueuePoll part q s
  | .tqPut part q host => Sys2Proof.Machine.execTqPut part q host s
  | .tqGet part q => Sys2Proof.Machine.execTqGet part q s
  | .tqAtomic part q => Sys2Proof.Machine.execTqAtomic part q s
  | .tqReduce part q host => Sys2Proof.Machine.execTqReduce part q host s
  | .torusCmdTimeout part q id => Sys2Proof.Machine.execTorusCmdTimeout part q id s
  | .streamChunkClose ch => Sys2Proof.Machine.execStreamChunkClose ch s
  | .kennelCheckpoint => Sys2Proof.Machine.execKennelCheckpoint s
  | .kennelGranuleStaged granule => Sys2Proof.Machine.execKennelGranuleStaged granule s
  | .kennelCommit tick count digest granules data => Sys2Proof.Machine.execKennelCommit tick count digest granules data s
  | .knlRestore asBuddy same granules => Sys2Proof.Machine.execKnlRestore asBuddy same granules s
  | .knlClearStats => Sys2Proof.Machine.execKnlClearStats s
  | .mgmtFrame crcOk dest src seq payload query restore same granules => Sys2Proof.Machine.execMgmtFrame crcOk dest src seq payload query restore same granules s
  | .attestFrame crcOk dest src seq payload => Sys2Proof.Machine.execAttestFrame crcOk dest src seq payload s
  | .trainFrame kind value ok hop => Sys2Proof.Machine.execTrainFrame kind value ok hop s
  | .mgmtAck crcOk dest src seq => Sys2Proof.Machine.execMgmtAck crcOk dest src seq s
  | .sbrRetry seq => Sys2Proof.Machine.execSbrRetry seq s
  | .sbrLeave => Sys2Proof.Machine.execSbrLeave s
  | .bypassOpen ok hop => Sys2Proof.Machine.execBypassOpen ok hop s
  | .sbrClearStats => Sys2Proof.Machine.execSbrClearStats s
  | .i3cMctp query restore same granules => Sys2Proof.Machine.execI3cMctp query restore same granules s
  | .bar0Access fn off len write value dt => Sys2Proof.Machine.execBar0Access fn off len write value dt s
  | .bar2Read fn off len => Sys2Proof.Machine.execBar2Read fn off len s
  | .bar2Write fn off data => Sys2Proof.Machine.execBar2Write fn off data s
  | .expansionRomRead off len => Sys2Proof.Machine.execExpansionRomRead off len s
  | .configRequest fn key write value => Sys2Proof.Machine.execConfigRequest fn key write value s
  | .unsupportedRequest fn => Sys2Proof.Machine.execUnsupportedRequest fn s
  | .poisonedWrite fn => Sys2Proof.Machine.execPoisonedWrite fn s
  | .hostCompletion tag status ep data => Sys2Proof.Machine.execHostCompletion tag status ep data s
  | .hostCompletionTimeout tag dt => Sys2Proof.Machine.execHostCompletionTimeout tag dt s
  | .hostLinkError aerBit => Sys2Proof.Machine.execHostLinkError aerBit s
  | .linkDown byReset => Sys2Proof.Machine.execLinkDown byReset s
  | .helRelease => Sys2Proof.Machine.execHelRelease s
  | .helForce => Sys2Proof.Machine.execHelForce s
  | .tagReuse tag dt => Sys2Proof.Machine.execTagReuse tag dt s
  | .bmeClear fn => Sys2Proof.Machine.execBmeClear fn s
  | .flr fn => Sys2Proof.Machine.execFlr fn s
  | .flrDone fn => Sys2Proof.Machine.execFlrDone fn s
  | .pf0Flr => Sys2Proof.Machine.execPf0Flr s
  | .vfDisable enable n => Sys2Proof.Machine.execVfDisable enable n s
  | .perst => Sys2Proof.Machine.execPerst s
  | .hotReset => Sys2Proof.Machine.execHotReset s
  | .pcieLinkTrain speed width flit => Sys2Proof.Machine.execPcieLinkTrain speed width flit s
  | .powerStateChange fn state => Sys2Proof.Machine.execPowerStateChange fn state s
  | .wakeEvent kind port => Sys2Proof.Machine.execWakeEvent kind port s
  | .l0pRequest width => Sys2Proof.Machine.execL0pRequest width s
  | .msixUnmask fn vector => Sys2Proof.Machine.execMsixUnmask fn vector s
  | .pciClearStats => Sys2Proof.Machine.execPciClearStats s
  | .parReset part => Sys2Proof.Machine.execParReset part s
  | .resetBusyClear part => Sys2Proof.Machine.execResetBusyClear part s
  | .parZero part => Sys2Proof.Machine.execParZero part s
  | .parZeroDone part => Sys2Proof.Machine.execParZeroDone part s
  | .ctxEnable part ctx value => Sys2Proof.Machine.execCtxEnable part ctx value s
  | .ctxDisable part ctx value => Sys2Proof.Machine.execCtxDisable part ctx value s
  | .attest part => Sys2Proof.Machine.execAttest part s
  | .loadKey part host => Sys2Proof.Machine.execLoadKey part host s
  | .decryptWeights part host => Sys2Proof.Machine.execDecryptWeights part host s
  | .getIdentity part => Sys2Proof.Machine.execGetIdentity part s
  | .signTokenRefill dt => Sys2Proof.Machine.execSignTokenRefill dt s
  | .ekGenerated part ctx => Sys2Proof.Machine.execEkGenerated part ctx s
  | .jtagInstruction die target kind => Sys2Proof.Machine.execJtagInstruction die target kind s
  | .packStage => Sys2Proof.Machine.execPackStage s
  | .packStageDone => Sys2Proof.Machine.execPackStageDone s
  | .packActivate => Sys2Proof.Machine.execPackActivate s
  | .packActivateDone => Sys2Proof.Machine.execPackActivateDone s
  | .commitSvn => Sys2Proof.Machine.execCommitSvn s
  | .secClearStats => Sys2Proof.Machine.execSecClearStats s
  | .lcsArm value dt => Sys2Proof.Machine.execLcsArm value dt s
  | .genIdentity dt => Sys2Proof.Machine.execGenIdentity dt s
  | .installCert dt => Sys2Proof.Machine.execInstallCert dt s
  | .toProduction dt => Sys2Proof.Machine.execToProduction dt s
  | .toEndOfLife dt => Sys2Proof.Machine.execToEndOfLife dt s
  | .lcsCommandDone => Sys2Proof.Machine.execLcsCommandDone s
  | .packageStart => Sys2Proof.Machine.execPackageStart s
  | .startStep die ms fallback fatal mis vids chans clus ports mods bays engines repairs => Sys2Proof.Machine.execStartStep die ms fallback fatal mis vids chans clus ports mods bays engines repairs s
  | .startStepTimeout die => Sys2Proof.Machine.execStartStepTimeout die s
  | .powerWave die dt => Sys2Proof.Machine.execPowerWave die dt s
  | .bistNominate die dt => Sys2Proof.Machine.execBistNominate die dt s
  | .bistSliceDone die pass dt => Sys2Proof.Machine.execBistSliceDone die pass dt s
  | .bistNominationWithdraw die => Sys2Proof.Machine.execBistNominationWithdraw die s
  | .bstClearFails die => Sys2Proof.Machine.execBstClearFails die s
  | .bstClearStats die => Sys2Proof.Machine.execBstClearStats die s
  | .powerDown inTime => Sys2Proof.Machine.execPowerDown inTime s
  | .heldRecordRetry die => Sys2Proof.Machine.execHeldRecordRetry die s
  | .errQAck die source value => Sys2Proof.Machine.execErrQAck die source value s
  | .errClearStats die => Sys2Proof.Machine.execErrClearStats die s
  | .dieResetWrite value => Sys2Proof.Machine.execDieResetWrite value s
  | .dieReset die => Sys2Proof.Machine.execDieReset die s
  | .clockLoss die => Sys2Proof.Machine.execClockLoss die s
  | .deputySilent die => Sys2Proof.Machine.execDeputySilent die s
  | .railFault rail n => Sys2Proof.Machine.execRailFault rail n s
  | .thermalSample die temp => Sys2Proof.Machine.execThermalSample die temp s
  | .tclkAdjust package die dt => Sys2Proof.Machine.execTclkAdjust package die dt s
  | .thermalTrip die => Sys2Proof.Machine.execThermalTrip die s
  | .pkgPowerSample power => Sys2Proof.Machine.execPkgPowerSample power s
  | .prochot => Sys2Proof.Machine.execProchot s
  | .sramError cluster corrected => Sys2Proof.Machine.execSramError cluster corrected s
  | .clusterWithdraw cluster => Sys2Proof.Machine.execClusterWithdraw cluster s
  | .packWdtExpire die dt => Sys2Proof.Machine.execPackWdtExpire die dt s
  | .packRestartDone die => Sys2Proof.Machine.execPackRestartDone die s
  | .telSnapshot die => Sys2Proof.Machine.execTelSnapshot die s
  | .ageDailyFit die mins hours85 hours90 ret lanes eol low high kind index => Sys2Proof.Machine.execAgeDailyFit die mins hours85 hours90 ret lanes eol low high kind index s
  | .resourceDirectoryRewrite finish => Sys2Proof.Machine.execResourceDirectoryRewrite finish s
  | .illegalOpcode tile => Sys2Proof.Machine.execIllegalOpcode tile s
  | .undefinedMgmtCommand part => Sys2Proof.Machine.execUndefinedMgmtCommand part s
  | .rtrBadOp part ring dt => Sys2Proof.Machine.execRtrBadOp part ring dt s
  | .flialUndefinedOpcode die node line => Sys2Proof.Machine.execFlialUndefinedOpcode die node line s
  | .ringModuleClockLoss die dir modules => Sys2Proof.Machine.execRingModuleClockLoss die dir modules s
  | .dieManagementFrame die dir gen kind src data => Sys2Proof.Machine.execDieManagementFrame die dir gen kind src data s
  | .clusterScrubDone cluster => Sys2Proof.Machine.execClusterScrubDone cluster s
  | .kennelStreamEnd committed => Sys2Proof.Machine.execKennelStreamEnd committed s
  | .kennelRestoreDone refused tick image => Sys2Proof.Machine.execKennelRestoreDone refused tick image s
  | .vauxPowerOn => Sys2Proof.Machine.execVauxPowerOn s
  | .prochotRelease => Sys2Proof.Machine.execProchotRelease s

end Sys2Proof.Machine
end

