-- ==== Sys2Proof/Safety.lean ====
section
/-! DEFINITION. What a safe step is, in the terms the statements use: it answers a next state; and when a tile's next command may
issue. -/

namespace Sys2Proof

open Sys2Proof.Machine

/-- A command completes in a state: it answers a next state, no fault and no refusal. -/
def Completes (c : Instr) (s : State) : Prop := ∃ t, exec c s = .next t

/-- A step that can be taken. -/
def Runs (s : State) : Prop := ∃ t, step s = .next t

/-- Every waiting command names something the package has. -/
def QueueWf (s : State) : Prop := ∀ c ∈ s.pending, c.wf = true

/-- The tile and the opcode of a command that is a row of R144. -/
def tileRow : Instr → Option (Nat × Nat)
  | .nop t => some (t, 0x00)
  | .token t => some (t, 0x01)
  | .tileEnd t => some (t, 0x02)
  | .loop t => some (t, 0x03)
  | .move t => some (t, 0x10)
  | .setbase t => some (t, 0x11)
  | .ldbase t => some (t, 0x12)
  | .setshape t => some (t, 0x13)
  | .fill t => some (t, 0x14)
  | .gather t => some (t, 0x20)
  | .scatter t => some (t, 0x21)
  | .send t => some (t, 0x28)
  | .recv t => some (t, 0x29)
  | .cube t => some (t, 0x30)
  | .accz t => some (t, 0x31)
  | .accld t => some (t, 0x32)
  | .accst t => some (t, 0x33)
  | .dial t => some (t, 0x34)
  | .planes t => some (t, 0x35)
  | .vadd t => some (t, 0x40)
  | .vsub t => some (t, 0x41)
  | .vmul t => some (t, 0x42)
  | .vfma t => some (t, 0x43)
  | .vmin t => some (t, 0x44)
  | .vmax t => some (t, 0x45)
  | .vceq t => some (t, 0x46)
  | .vcne t => some (t, 0x47)
  | .vclt t => some (t, 0x48)
  | .vcle t => some (t, 0x49)
  | .vand t => some (t, 0x4A)
  | .vor t => some (t, 0x4B)
  | .vxor t => some (t, 0x4C)
  | .vsel t => some (t, 0x4D)
  | .vabs t => some (t, 0x4E)
  | .vneg t => some (t, 0x4F)
  | .vmov t => some (t, 0x50)
  | .vrsum t => some (t, 0x51)
  | .vrmax t => some (t, 0x52)
  | .vexp t => some (t, 0x53)
  | .vexp2 t => some (t, 0x54)
  | .vlog t => some (t, 0x55)
  | .vlog2 t => some (t, 0x56)
  | .vrcp t => some (t, 0x57)
  | .vsqrt t => some (t, 0x58)
  | .vrsqrt t => some (t, 0x59)
  | .vsin t => some (t, 0x5A)
  | .vcos t => some (t, 0x5B)
  | .vtanh t => some (t, 0x5C)
  | .vsigm t => some (t, 0x5D)
  | .verf t => some (t, 0x5E)
  | .vrcmb t => some (t, 0x5F)
  | .cvt t => some (t, 0x60)
  | .cvtmx t => some (t, 0x61)
  | .cvtxm t => some (t, 0x62)
  | .slice t => some (t, 0x63)
  | _ => none

/-- The next command of a tile has opcode `op` and words `w0` and `w1` (0 for a command of one entry), both in the prefetch buffer; it
passes the field checks, and its waits, credits or slots and its unit's queue let it issue (R69, R137). -/
def HeadReady (s : State) (t op w0 w1 : Nat) : Prop :=
  let x := s.tile t
  t < 8192 ∧ s.issues t = true ∧ SMap.look x.prefetch x.head = some w0 ∧ opcodeOf w0 = op ∧
  (if entriesOf w0 = 2 then SMap.look x.prefetch (x.head + 1) = some w1 else w1 = 0) ∧
  issueFault (s.rdClu R.CLU_STATUS_TILE_MASK (t / 16)) (s.clu (t / 16)).ringRegion x op w0 w1
    ((List.range 3).map (fun k => x.loopIdx.off (idxOf w0 k))) = none ∧
  waitState x op w0 (waitsOf (syncWord op w0 w1)) = none

/-- Nothing is in flight in a tile's cluster, and no transfer of the tile is. -/
def ClusterQuiet (s : State) (t : Nat) : Prop :=
  (∀ i < 16, (s.tile (t / 16 * 16 + i)).cmds = []) ∧ (∀ f ∈ s.xfers, f.tile ≠ t)

/-- The tile as its unit finds it when its next command starts in its issue TCLK, and that command. -/
def startTile (s : State) (t op w0 w1 : Nat) : Tile :=
  let x := (s.tile t).afterIssue op w0 w1
  { x with cmds := [((s.tile t).command op w0 w1).begin { x with cmds := [(s.tile t).command op w0 w1] }] }
def startCmd (s : State) (t op w0 w1 : Nat) : TCmd :=
  ((s.tile t).command op w0 w1).begin { (s.tile t).afterIssue op w0 w1 with cmds := [(s.tile t).command op w0 w1] }

/-- A unit at its hard limit: HARD_LIMIT ends it, unless something has already (R215, R222, R245). -/
def hardEnd (u : WUnit) : WUnit :=
  { u with hard := true, overran := true, stopped := u.stopped || u.done, ending := some (u.ending.getD ⟨6, 0, 0⟩) }

/-- The signals of a command fit their counters one after the other (R58). -/
def SignalsFit (s : State) (t : Nat) (sg : List (Nat × Nat × Nat)) : Prop :=
  match sg with
  | [] => True
  | [a] => s.tokenDue (t / 16 * 16 + a.1) a.2.1 + a.2.2 ≤ 255
  | a :: b :: _ =>
    s.tokenDue (t / 16 * 16 + a.1) a.2.1 + a.2.2 ≤ 255 ∧
    s.tokenDue (t / 16 * 16 + b.1) b.2.1 + (if a.1 = b.1 ∧ a.2.1 = b.2.1 then a.2.2 else 0) + b.2.2 ≤ 255

/-- A management command the Pack can carry out: the oldest of its partition, its code as given, no unused bit set, its context ACTIVE or STOPPED, fetched
less than 64 boundaries ago, and the Packs it needs RUNNING (R35, R225 to R227, R581). -/
def MgmtReady (s : State) (p code : Nat) (m : Mgmt) (unused : Bool) : Prop :=
  p < 64 ∧ s.mgmtHead? p = some m ∧ m.code = code ∧ s.packFor p = 0 ∧ m.age < 64 ∧ unused = false ∧ s.ctxLive p m.ctx = true

/-- The descriptor at the head of a ring in its turn, returned and free of the reasons of R202. -/
def HeadTurn (s : State) (p r kind : Nat) (d : Desc) : Prop :=
  s.headDesc p r = some d ∧ s.turn p r = true ∧ d.kind = kind ∧ d.failed = false

/-- The Retriever's commands: ring, OP and operation (R318). -/
def rtrRow : Instr → Option (Nat × Nat × Nat × Nat × RtrOp)
  | .copy p r dt host => some (p, r, dt, 1, copyOp host)
  | .migrate p r dt host => some (p, r, dt, 2, migrateOp host)
  | .warm p r dt => some (p, r, dt, 3, warmOp)
  | .stcFill p r dt host => some (p, r, dt, 4, fillOp host)
  | .stcClean p r dt => some (p, r, dt, 5, cleanOp)
  | _ => none

/-- The request rows (R343): operation and arrival. -/
def reqRow : Instr → Option (ReqOp × Arrival × Nat × List Ecc)
  | .rdCur a dt ecc => some (.rdCur, a, dt, ecc)
  | .rdShared a dt ecc => some (.rdShared, a, dt, ecc)
  | .rdOwn a dt ecc => some (.rdOwn, a, dt, ecc)
  | .upgrade a dt ecc => some (.upgrade, a, dt, ecc)
  | .wbDirty a dt ecc => some (.wbDirty, a, dt, ecc)
  | .evictClean a dt ecc => some (.evictClean, a, dt, ecc)
  | .wrInv a dt ecc => some (.wrInv, a, dt, ecc)
  | .wrPlace a dt ecc => some (.wrPlace, a, dt, ecc)
  | .atomic a dt ecc => some (.atomic, a, dt, ecc)
  | _ => none

/-- The answers of R326 to requests: opcode and request. -/
def ansRow : Instr → Option (Nat × Nat)
  | .rdData rid => some (0, rid)
  | .wrAck rid => some (1, rid)
  | .grantE rid => some (2, rid)
  | .grantS rid => some (3, rid)
  | .grantUpg rid => some (4, rid)
  | .wbAck rid => some (5, rid)
  | .atomicData rid => some (6, rid)
  | _ => none

/-- The snoops of R327: operation, tag, and what the bay answers from what it holds (R344). -/
def snpRow : Instr → Option (SnpOp × Nat × Nat × List Byte)
  | .snpCur tag holds data => some (.cur, tag, min 2 holds, data)
  | .snpShare tag holds data => some (.share, tag, min 2 holds, data)
  | .snpInv tag holds data => some (.inv, tag, (if 2 ≤ holds then 2 else 0), data)
  | .snpPush tag accept => some (.push, tag, (if accept then 3 else 4), [])
  | _ => none

/-- The CLEAR_STATS rows: die, the index the block stands at, and the counters of that block. -/
def clearRow : Instr → Option (Nat × Option Nat × List Fld)
  | .shdClearStats => some (0, none, [R.SHD_ADMITTED, R.SHD_DB_LATE, R.SHD_DESC_LATE, R.SHD_WINDOW_WINDOW_MAX])
  | .tckClearStats => some (0, none, [R.TCK_MISSED])
  | .stcClearStats d => some (d, none, [R.STC_HITS, R.STC_MISSES, R.STC_WRITEBACKS, R.STC_BYPASS, R.STC_SECTOR_ERR])
  | .memClearStats d => some (d, none, [R.MEM_STACK_REPAIRS, R.MEM_PORT_CE, R.MEM_PORT_UE, R.MEM_PORT_SECTORS])
  | .lshClearStats d => some (d, none, [R.LSH_M_GUAR, R.LSH_M_BE, R.LSH_PORT_UNITS, R.LSH_PORT_LATE])
  | .xltClearStats d => some (d, none, [R.XLT_DTLB_HITS, R.XLT_DTLB_MISSES, R.XLT_WALK_READS, R.XLT_INVALS, R.XLT_CUT])
  | .fllClearStats d => some (d, none, [R.FLL_DISCARDS, R.FLL_CW_FLITS, R.FLL_CW_SLOTTED, R.FLL_CCW_FLITS, R.FLL_CCW_SLOTTED, R.FLL_M_SLOTTED, R.FLL_M_STALL])
  | .cohClearStats d => some (d, none, [R.COH_DIR_EVICTS, R.COH_SNOOPS, R.COH_PUSH_ACK, R.COH_PUSH_DROP, R.COH_NOT_ISLAND, R.COH_LOST_OWNED])
  | .bayClearStats b => some (b / 2, some (b % 2), [R.BAY_REPAIRS, R.BAY_REPLAYS, R.BAY_DENIED])
  | .ddlClearStats d k => some (d, some k, [R.DDL_REPLAYS, R.DDL_CRC_ERR, R.DDL_REPAIRS])
  | .knlClearStats => some (0, none, [R.KNL_SENT, R.KNL_HELD])
  | .sbrClearStats => some (0, none, [R.SBR_FRAMES, R.SBR_CRC_ERR])
  | .pciClearStats => some (0, none, [R.PCI_LATE, R.PCI_DISCARDS, R.PCI_UNEXPECTED, R.PCI_BAR_ERR, R.PCI_RD_BYTES, R.PCI_WR_BYTES, R.PCI_VF_APT_FAULTS])
  | .secClearStats => some (0, none, [R.SEC_ATT_COUNT, R.SEC_ATT_BUSY, R.SEC_DEBUG_TICKS, R.SEC_PACK_DENIED])
  | .bstClearStats d => some (d, none, [R.BST_SLICES, R.BST_SLICE_FAILS])
  | .errClearStats d => some (d, none, [R.ERR_Q_STATUS_LOST, R.ERR_WDT_RESETS])
  | _ => none

/-- Rows whose effect is on registers and on what the host, the signing record, a link or a start holds, and on nothing else. -/
def calmRow : Instr → Bool
  | .tckNextAtArm _ | .tckPeriodCancel | .stcFlushDone _ | .loopbackDone _ _ | .lshReadmit | .parZeroDone _ | .resetBusyClear _ | .signTokenRefill _ | .lcsArm _ _
  | .packActivate | .commitSvn | .bstClearFails _ | .prochotRelease | .packRestartDone _ | .l0pRequest _ | .pcieLinkTrain _ _ _ | .wakeEvent _ _
  | .unsupportedRequest _ | .expansionRomRead _ _ | .flrDone _ | .resourceDirectoryRewrite _ | .powerWave _ _ | .tagReuse _ _ | .ringEnable _ _ _
  | .ekGenerated _ _ | .bistNominate _ _ => true
  | c => (clearRow c).isSome

/-- The oldest packet of a port and virtual channel, of a type and for this package, and the state that has taken it. -/
def PacketHere (s : State) (k vc type : Nat) (h : Pkt) (t : State) : Prop :=
  k < 9 ∧ vc < 8 ∧ ∃ x, s.torTake k vc = some (x, t) ∧ pktNat x.bytes 0 1 = type ∧ Pkt.of x.bytes = h ∧ h.dest = s.coord

/-- Hops between two coordinate words: the shorter way round each dimension (R409, R411). -/
def torDist (c d : Nat) : Nat :=
  let one (lo w : Nat) : Nat := let f := (bits d lo w + 2 ^ w - bits c lo w) % 2 ^ w; min f (2 ^ w - f)
  one 10 4 + one 6 4 + one 1 5 + one 0 1

end Sys2Proof
end

