-- ==== Sys2Proof/Certificates/Slice0/Obligations.lean ====
section
/-! DEFINITION. The statements for the provers. -/

open Sys2Proof Sys2Proof.Machine


/-- A step takes the command at the front of the queue and runs it with the queue's rest; with nothing waiting the block idles (the model's choice, log entry
1). -/
def Obligations.StepRunsFrontCommand : Prop :=
  (∀ (c : Instr) (q : List Instr) (s : State), step { s with pending := c :: q } = exec c { s with pending := q }) ∧
  (∀ s : State, s.pending = [] → step s = .next s)

/-- No command that names something the package has ever stops the block: it answers a next state with the queue as it was, one that names nothing is a fault,
and from a queue of the former every step goes on and keeps it so. Of the model, not the spec: what a command without its precondition does is log entry 1. -/
def Obligations.WaitingCommandsComplete : Prop :=
  (∀ (c : Instr) (s : State), c.wf = true → ∃ t, exec c s = .next t ∧ t.pending = s.pending) ∧
  (∀ (c : Instr) (s : State), c.wf = false → exec c s = .fault .noSuchInstance) ∧
  (∀ s : State, QueueWf s → ∃ t, step s = .next t ∧ QueueWf t ∧ t.pending = s.pending.tail)

/-- After reset no command waits, memory lists nothing, every register field reads as its table's reset column says (R9, R37), no unit, request or transfer is
there, and the package waits for its start at step 1 (R37, R520, R521). Reset values the spec does not give are the model's (log entries 2 and 9). Of the
model, not the spec: what unwritten memory reads as is the model's choice, log entry 2. -/
def Obligations.ResetIsAsStated : Prop :=
  QueueWf State.reset ∧ State.reset.pending = [] ∧ Memory.wf State.reset.dram = true ∧ (∀ a, memRead State.reset.dram a = 0) ∧
  (∀ (f : Fld) (d : Nat) (ix : List Nat), State.reset.rd f d ix = f.resetAt d ix) ∧
  (∀ f ∈ R.table, f.kind = .const → ∀ d ix, State.reset.rd f d ix = f.rst) ∧
  State.reset.units = [] ∧ State.reset.reqs = [] ∧ State.reset.xfers = [] ∧ State.reset.errs = [] ∧ State.reset.images = [] ∧
  State.reset.boot.starting = true ∧ State.reset.rd R.BST_START_STEP 0 = 1 ∧ State.reset.rdB R.PCI_STATUS_READY 0 = false ∧
  State.reset.rd R.TCK_PERIOD_CURRENT 0 = R.TCK_PERIOD_CURRENT.rst

/-- Memory keeps its canonical form, so equal memories are equal data: under every write; what was written is read back, and every other byte is left alone.
Of the model, not the spec: what unwritten memory reads as is the model's choice, log entry 2. -/
def Obligations.MemoryReadsWhatWasWritten : Prop :=
  (∀ (m : SMap Byte) (a : Nat) (bs : List Byte), Memory.wf m = true → Memory.wf (memPut m a bs) = true) ∧
  (∀ (m : SMap Byte) (a : Nat) (bs : List Byte), memBytes (memPut m a bs) a bs.length = bs) ∧
  (∀ (m : SMap Byte) (a b : Nat) (bs : List Byte), (b < a ∨ a + bs.length ≤ b) → memRead (memPut m a bs) b = memRead m b) ∧
  (∀ m n : SMap Byte, Memory.wf m = true → Memory.wf n = true → (∀ a, memRead m a = memRead n a) → m = n) ∧
  (∀ (m : SMap Byte) (a n v : Nat), v < 2 ^ (8 * n) → memNat (memPutNat m a n v) a n = v)

/-- Commands that only change registers of their own or what the host, the signing record, a link or a queue holds: memory, the caches over it, tiles,
clusters, units, directories, translations, requests and error records stay as they were. PERF_CLEAR also leaves the clusters but for what their counters have
still to show, and a change of the islands of HUB_ISLAND does so while none of them is down. -/
def Obligations.CalmCommandsFrame : Prop :=
  (∀ (c : Instr) (s u : State), calmRow c = true → exec c s = .next u →
    (∀ a, memRead u.dram a = memRead s.dram a) ∧ u.stcLines = s.stcLines ∧ u.ue = s.ue ∧ u.tiles = s.tiles ∧ u.clusters = s.clusters ∧ u.units = s.units ∧
    u.descs = s.descs ∧ u.images = s.images ∧ u.dirs = s.dirs ∧ u.tlbs = s.tlbs ∧ u.reqs = s.reqs ∧ u.xfers = s.xfers ∧ u.errs = s.errs ∧ u.pending = s.pending) ∧
  (∀ (c : Nat) (s u : State), exec (.cluPerfClear c) s = .next u →
    (∀ a, memRead u.dram a = memRead s.dram a) ∧ u.stcLines = s.stcLines ∧ u.ue = s.ue ∧ u.tiles = s.tiles ∧
    (∀ k, { u.clu k with metered := (s.clu k).metered } = s.clu k) ∧ u.units = s.units ∧
    u.descs = s.descs ∧ u.images = s.images ∧ u.dirs = s.dirs ∧ u.tlbs = s.tlbs ∧ u.reqs = s.reqs ∧ u.xfers = s.xfers ∧ u.errs = s.errs ∧ u.pending = s.pending) ∧
  (∀ (v : Nat) (s u : State), (∀ i, s.islDown i = false) → exec (.hubIslandWrite v) s = .next u →
    (∀ a, memRead u.dram a = memRead s.dram a) ∧ u.stcLines = s.stcLines ∧ u.ue = s.ue ∧ u.tiles = s.tiles ∧ u.clusters = s.clusters ∧ u.units = s.units ∧
    u.descs = s.descs ∧ u.images = s.images ∧ u.dirs = s.dirs ∧ u.tlbs = s.tlbs ∧ u.reqs = s.reqs ∧ u.xfers = s.xfers ∧ u.errs = s.errs ∧ u.pending = s.pending)

/-- PHASE of completion records (R213). -/
def Obligations.PhaseAlternatesByPass : Prop :=
  (∀ (c : Cpl) (size n : Nat), 0 < size → (((c.bytes size n).getD 3 0).toNat / 128 = 1 ↔ n / size % 2 = 0)) ∧
  (∀ (c : Cpl) (size n : Nat), n < size → ((c.bytes size n).getD 3 0).toNat / 128 = 1) ∧
  (∀ (c : Cpl) (size n : Nat), size ≤ n → n < 2 * size → ((c.bytes size n).getD 3 0).toNat / 128 = 0) ∧
  (∀ (c : Cpl) (size n : Nat), 0 < size → ((c.bytes size (n + size)).getD 3 0).toNat / 128 = 1 - ((c.bytes size n).getD 3 0).toNat / 128) ∧
  (∀ (m : SMap Byte) (a : Nat) (c : Cpl) (size n : Nat), memBytes m a 32 = List.replicate 32 0 → n < size →
    (memRead m (a + 3)).toNat / 128 = 0 ∧ (memRead (memPut m a (c.bytes size n)) (a + 3)).toNat / 128 = 1)

/-- The torus ports and their roles (R24); role codes as HUB_TORUS_ROLE gives them: 0 X+, 1 X−, 2 Y+, 3 Y−, 4 Z+, 5 Z−, 6 Wa, 7 Wb. -/
def Obligations.TorusRolesByPosition : Prop :=
  (∀ d < 4, State.reset.rd R.HUB_TORUS_ROLE_T0_ROLE d = ([6, 2, 7, 3] : List Nat).getD d 0 ∧ State.reset.rd R.HUB_TORUS_ROLE_T1_ROLE d = ([0, 4, 1, 5] : List Nat).getD d 0) ∧
  (∀ d e i j : Nat, d < 4 → e < 4 → i < 2 → j < 2 →
    let role (d i : Nat) : Nat := if i = 0 then State.reset.rd R.HUB_TORUS_ROLE_T0_ROLE d else State.reset.rd R.HUB_TORUS_ROLE_T1_ROLE d
    role d i / 2 = role e j / 2 → role d i ≠ role e j → d ≠ e ∧ (role d i / 2 = 3 → d % 2 = e % 2)) ∧
  (∀ k : Nat, k < 8 → portDim k =
    (if k % 2 = 0 then State.reset.rd R.HUB_TORUS_ROLE_T0_ROLE (k / 2) else State.reset.rd R.HUB_TORUS_ROLE_T1_ROLE (k / 2)) / 2)

/-- A read of a T-class field returns the value in effect (R12): a pending shadow value changes no read, and the field reads as what is in effect. -/
def Obligations.ReadsReturnTheValueInEffect : Prop :=
  (∀ (f g : Fld) (d e v : Nat) (ix jx : List Nat) (s : State), ((s.wrShadow f d ix v).fieldVal g e jx).1 = (s.fieldVal g e jx).1) ∧
  (∀ f ∈ R.table, f.cls = .T → f.acc = .RW → ∀ (d : Nat) (ix : List Nat) (s : State), (s.fieldVal f d ix).1 = s.rd f d ix % 2 ^ f.width) ∧
  (∀ (f : Fld) (d v : Nat) (ix : List Nat) (s : State), (s.wrShadow f d ix v).rd f d ix = s.rd f d ix)

/-- Integer steps (R111). -/
def Obligations.IntegerStepsAreExact : Prop :=
  (∀ (p : Pair) (rd : Nat → Byte) (aBase bBase sa sb r c acc : Nat), p.acc = .int32 →
    stepEntry p rd aBase bBase sa sb r c acc = unsigned 32 (signed 32 acc + ((List.range p.d).map (fun e =>
      p.a.int (packedElem rd aBase p.a.bits (r * p.d + e)) * p.b.int (packedElem rd bBase p.b.bits (c * p.d + e)))).sum)) ∧
  (∀ (p : Pair) (rd : Nat → Byte) (aBase bBase sa sb r c acc : Nat), p.acc = .int48 →
    stepEntry p rd aBase bBase sa sb r c acc = unsigned 48 (signed 48 acc + ((List.range p.d).map (fun e =>
      p.a.int (packedElem rd aBase p.a.bits (r * p.d + e)) * p.b.int (packedElem rd bBase p.b.bits (c * p.d + e)))).sum)) ∧
  (∀ v : Int, (unsigned 32 v : Int) = v % 2 ^ 32 ∧ (unsigned 48 v : Int) = v % 2 ^ 48) ∧
  (∀ x : Int × Int, -128 ≤ x.1 → x.1 ≤ 127 → -128 ≤ x.2 → x.2 ≤ 127 → -16256 ≤ x.1 * x.2 ∧ x.1 * x.2 ≤ 2 ^ 14) ∧
  (∀ l : List (Int × Int), l.length ≤ 131071 → (∀ x ∈ l, -128 ≤ x.1 ∧ x.1 ≤ 127 ∧ -128 ≤ x.2 ∧ x.2 ≤ 127) →
    (l.map (fun x => x.1 * x.2)).sum ≤ 2 ^ 31 - 2 ^ 14 ∧ signed 32 (unsigned 32 (l.map (fun x => x.1 * x.2)).sum) = (l.map (fun x => x.1 * x.2)).sum) ∧
  (((List.replicate 131072 ((-128 : Int), (-128 : Int))).map (fun x => x.1 * x.2)).sum = 2 ^ 31 ∧ signed 32 (unsigned 32 (2 ^ 31)) = -2 ^ 31)

/-- The charge of a request (R278): its data bytes in units of 32, read or write, and nothing for UPGRADE and EVICT_CLEAN, which move none (R326); what leaves
as guaranteed comes off the class's counter. -/
def Obligations.RequestsAreChargedByTheUnit : Prop :=
  (∀ len : Nat, len ≤ 32 * unitCharge false len ∧ 32 * unitCharge false len < len + 32) ∧
  (∀ len : Nat, unitCharge true len = 4) ∧
  (∀ r : Req, r.op ≠ .upgrade → r.op ≠ .evictClean → r.units = unitCharge r.narrow (popcount r.mask 256)) ∧
  (∀ r : Req, (r.op = .upgrade ∨ r.op = .evictClean) → r.units = 0) ∧
  (∀ (r : Req) (s : State), r.die < 4 → r.mport < 137 → r.cls < 4 →
    (s.goes r true).rd R.LSH_M_GUAR r.die [r.mport, r.cls] =
      min (2 ^ R.LSH_M_GUAR.width - 1) (s.rd R.LSH_M_GUAR r.die [r.mport, r.cls] + r.units) ∧
    SMap.get 0 (s.goes r true).leash (leashKey r.die r.mport r.cls) = SMap.get 0 s.leash (leashKey r.die r.mport r.cls) - r.units ∧
    (s.goes r false).rd R.LSH_M_BE r.die [r.mport, r.cls] =
      min (2 ^ R.LSH_M_BE.width - 1) (s.rd R.LSH_M_BE r.die [r.mport, r.cls] + r.units)) ∧
  (32 * 10 ^ 9 = 62500000 * 512)

/-- NOP, TOKEN, END and LOOP complete in their issue TCLK (R71, R141, R142, R145, R146): what they consume and where the head goes, their signals on their
way, and the state TIL_STATUS shows. Of the model, not the spec: the end of a loop body is log entry 13. -/
def Obligations.TileControlCommandsComplete : Prop :=
  (∀ p ∈ ([(Instr.nop, 0x00), (Instr.token, 0x01), (Instr.tileEnd, 0x02), (Instr.loop, 0x03)] : List ((Nat → Instr) × Nat)),
    ∀ (t w0 w1 : Nat) (s : State), HeadReady s t p.2 w0 w1 → SignalsFit s t (signalsOf (syncWord p.2 w0 w1)) →
    ∃ u, exec (p.1 t) s = .next u ∧ u.tile t = (s.tile t).afterIssue p.2 w0 w1 ∧
      u.sigs = s.sigs ++ (signalsOf (syncWord p.2 w0 w1)).map (fun g => ⟨t / 16 * 16 + g.1, g.2.1, g.2.2, s.unitOfTile t⟩) ∧
      u.rdTil R.TIL_STATUS_STATE t = (if p.2 = 2 then (if (s.tile t).cmds = [] then 8 else 7) else 1)) ∧
  (∀ (t w0 w1 : Nat) (s : State), HeadReady s t 0x02 w0 w1 → SignalsFit s t (signalsOf (syncWord 0x02 w0 w1)) →
    ∃ u, exec (.tileEnd t) s = .next u ∧ (u.tile t).loops = []) ∧
  (∀ (t w0 w1 : Nat) (s : State), HeadReady s t 0x03 w0 w1 → SignalsFit s t (signalsOf (syncWord 0x03 w0 w1)) →
    ∃ u, exec (.loop t) s = .next u ∧ (u.tile t).head = (s.tile t).head + 2 ∧
        (u.tile t).loops = ⟨(s.tile t).head + 2, (s.tile t).head + 1 + bits w0 22 12, bits w0 34 16 + 1, signed 16 (bits w1 48 16),
          signed 16 (bits w1 32 16), bits w1 24 8, 0⟩ :: (s.tile t).loops)

/-- Every command that works on its tile's own stores (SETBASE to FILL, the cube's, the vector's and the conversions, each named with its opcode) starts in
its issue TCLK when nothing is in flight in the cluster (R138), and leaves the tile as its operation gives it. A command whose unit cannot take it yet waits
for the unit: what it consumes is consumed, and it stands last in its tile's list (R70, R137, R138). Of the model, not the spec: what passes over ranges that
overlap leave is log entry 112. -/
def Obligations.TileStoreCommandsComplete : Prop :=
  (
  ∀ p ∈ ([(Instr.setbase, 0x11), (Instr.ldbase, 0x12), (Instr.setshape, 0x13), (Instr.fill, 0x14), (Instr.cube, 0x30), (Instr.accz, 0x31),
      (Instr.accld, 0x32), (Instr.accst, 0x33), (Instr.dial, 0x34), (Instr.planes, 0x35), (Instr.vadd, 0x40), (Instr.vsub, 0x41), (Instr.vmul, 0x42),
      (Instr.vfma, 0x43), (Instr.vmin, 0x44), (Instr.vmax, 0x45), (Instr.vceq, 0x46), (Instr.vcne, 0x47), (Instr.vclt, 0x48), (Instr.vcle, 0x49),
      (Instr.vand, 0x4A), (Instr.vor, 0x4B), (Instr.vxor, 0x4C), (Instr.vsel, 0x4D), (Instr.vabs, 0x4E), (Instr.vneg, 0x4F), (Instr.vmov, 0x50),
      (Instr.vrsum, 0x51), (Instr.vrmax, 0x52), (Instr.vexp, 0x53), (Instr.vexp2, 0x54), (Instr.vlog, 0x55), (Instr.vlog2, 0x56), (Instr.vrcp, 0x57),
      (Instr.vsqrt, 0x58), (Instr.vrsqrt, 0x59), (Instr.vsin, 0x5A), (Instr.vcos, 0x5B), (Instr.vtanh, 0x5C), (Instr.vsigm, 0x5D), (Instr.verf, 0x5E),
      (Instr.vrcmb, 0x5F), (Instr.cvt, 0x60), (Instr.cvtmx, 0x61), (Instr.cvtxm, 0x62), (Instr.slice, 0x63)] : List ((Nat → Instr) × Nat)),
    ∀ (t w0 w1 : Nat) (s : State) (y : Tile), HeadReady s t p.2 w0 w1 → ClusterQuiet s t →
    tileEffect (startCmd s t p.2 w0 w1) (s.clu (t / 16)) (startTile s t p.2 w0 w1) = .ok y →
    ∃ u, exec (p.1 t) s = .next u ∧ u.tile t = y ∧ u.rdTil R.TIL_STATUS_STATE t = 1) ∧
  (
  ∀ (c : Instr) (t op w0 w1 : Nat) (s : State), tileRow c = some (t, op) → unitOf op ≠ 0 → HeadReady s t op w0 w1 →
    State.canStart (s.setTile t { (s.tile t).afterIssue op w0 w1 with cmds := (s.tile t).cmds ++ [(s.tile t).command op w0 w1] }) t ((s.tile t).command op w0 w1) =
      false →
    ∃ u, exec c s = .next u ∧
      u.tile t = { (s.tile t).afterIssue op w0 w1 with cmds := (s.tile t).cmds ++ [(s.tile t).command op w0 w1] } ∧ u.xfers = s.xfers)

/-- MOVE, GATHER and SCATTER to or from Flial memory open a transfer of the lines or sectors their registers name (R149 to R153); a MOVE inside the cluster
copies line by line. SEND takes its credits and sends its slots; RECV reserves its slots, copies the oldest to its destination and steps past them (R63, R64,
R137). Of the model, not the spec: the cut of an address above 48 bits is log entry 15. -/
def Obligations.TileTransferCommandsComplete : Prop :=
  (
  (∀ (t w0 w1 : Nat) (s : State), HeadReady s t 0x20 w0 w1 → ClusterQuiet s t →
    gatherAlignBad (startCmd s t 0x20 w0 w1) ((s.tile t).abrOf (bits w0 47 3)) = false →
    ∃ u, exec (.gather t) s = .next u ∧
      u.xfers = (s.openXfer t (startCmd s t 0x20 w0 w1) false true .tm (sectorPieces (startCmd s t 0x20 w0 w1) (startTile s t 0x20 w0 w1))).xfers ∧
      u.tile t = startTile s t 0x20 w0 w1) ∧
  (∀ (t w0 w1 : Nat) (s : State), HeadReady s t 0x21 w0 w1 → ClusterQuiet s t →
    gatherAlignBad (startCmd s t 0x21 w0 w1) ((s.tile t).abrOf (bits w0 47 3)) = false →
    ∃ u, exec (.scatter t) s = .next u ∧
      u.xfers = (s.openXfer t (startCmd s t 0x21 w0 w1) true true .tm (sectorPieces (startCmd s t 0x21 w0 w1) (startTile s t 0x21 w0 w1))).xfers ∧
      u.tile t = startTile s t 0x21 w0 w1) ∧
  (∀ (t w0 w1 : Nat) (s : State), HeadReady s t 0x10 w0 w1 → ClusterQuiet s t →
    (moveExtents (startCmd s t 0x10 w0 w1) ((s.tile t).shapeOf (bits w0 45 2))).find? (outside (s.clu (t / 16)).ringRegion) = none →
    moveAlignBad (startCmd s t 0x10 w0 w1) ((s.tile t).abrOf (bits w0 42 3)) ((s.tile t).shapeOf (bits w0 45 2)) = false →
    ∃ u, exec (.move t) s = .next u ∧
      (∀ dp, dirSrc (bits w0 47 3) = none → dirDst (bits w0 47 3) = some dp →
        u.tile t = startTile s t 0x10 w0 w1 ∧
        u.xfers = (s.openXfer t (startCmd s t 0x10 w0 w1) false false dp (((s.tile t).shapeOf (bits w0 45 2)).lines.flatMap (fun l =>
          linePieces (fmAddr ((s.tile t).abrOf (bits w0 42 3)) (bits w0 20 22) ((startCmd s t 0x10 w0 w1).mul.getD 0 0) l.1)
            ((startCmd s t 0x10 w0 w1).byteInt 1 + l.2.1).toNat l.2.2))).xfers) ∧
      (∀ sp, dirSrc (bits w0 47 3) = some sp → dirDst (bits w0 47 3) = none →
        u.tile t = startTile s t 0x10 w0 w1 ∧
        u.xfers = (s.openXfer t (startCmd s t 0x10 w0 w1) true false sp (((s.tile t).shapeOf (bits w0 45 2)).lines.flatMap (fun l =>
          linePieces (fmAddr ((s.tile t).abrOf (bits w0 42 3)) (bits w0 0 20) ((startCmd s t 0x10 w0 w1).mul.getD 1 0) l.2.1)
            ((startCmd s t 0x10 w0 w1).byteInt 0 + l.1).toNat l.2.2))).xfers) ∧
      (∀ sp dp, dirSrc (bits w0 47 3) = some sp → dirDst (bits w0 47 3) = some dp → u.xfers = s.xfers ∧
        ∃ v : State, v = (s.setTile t (startTile s t 0x10 w0 w1)).each ((s.tile t).shapeOf (bits w0 45 2)).lines (fun v l =>
          v.copyLine t sp dp ((startCmd s t 0x10 w0 w1).byteInt 0 + l.1).toNat ((startCmd s t 0x10 w0 w1).byteInt 1 + l.2.1).toNat) ∧
          u.tiles = v.tiles ∧ u.clusters = v.clusters))) ∧
  (
  (∀ (t w0 w1 dt j uid : Nat) (s : State), HeadReady s t 0x28 w0 w1 → ClusterQuiet s t →
    ((s.tile t).outCh (bits w0 47 3)).bound = some (dt, j) → s.unitOfTile t = some uid →
    ∃ u, exec (.send t) s = .next u ∧
      ((u.tile t).outCh (bits w0 47 3)).credits = ((s.tile t).outCh (bits w0 47 3)).credits - bits w0 29 7 ∧
      u.slotFlits = s.slotFlits ++ (List.range (bits w0 29 7)).map (fun i =>
        ⟨dt, j, uid, t, bits w0 47 3, (s.tile t).nextSeq, s.partOfTile t, s.rd R.PAR_STATUS_GEN 0 [s.partOfTile t], s.tilePath t dt,
          (s.tile t).tmBytes ((startCmd s t 0x28 w0 w1).byteOf 0 + 128 * i) 128⟩)) ∧
  (∀ (t w0 w1 : Nat) (s : State), HeadReady s t 0x29 w0 w1 → ClusterQuiet s t →
    ∃ u, exec (.recv t) s = .next u ∧
      ((u.tile t).inCh (bits w0 47 3)).reserved = ((s.tile t).inCh (bits w0 47 3)).reserved + bits w0 29 7 ∧
      ((u.tile t).inCh (bits w0 47 3)).rd =
        (((s.tile t).inCh (bits w0 47 3)).rd + bits w0 29 7) % ((s.tile t).inCh (bits w0 47 3)).slots ∧
      (u.tile t).mem = ((List.range (bits w0 29 7)).foldl (fun (y : Tile) k =>
        y.putTm ((startCmd s t 0x29 w0 w1).byteOf 0 + 128 * k)
          ((s.tile t).tmBytes (128 * (((s.tile t).inCh (bits w0 47 3)).base +
            (((s.tile t).inCh (bits w0 47 3)).rd + k) % ((s.tile t).inCh (bits w0 47 3)).slots)) 128)) (s.tile t)).mem))

/-- A command that fails a field check faults its tile, whatever its row, one of word 0 before its second entry is there (R137), and an opcode R144 does not
list faults ILLEGAL_OPCODE: the tile is FAULTED with the code, the opcode and the ring index, and nothing is consumed (R74, R75, R144, R172). One that passes
them but lacks a token, a credit, a slot or room in its unit's queue waits, and nothing is consumed (R137). Of the model, not the spec: the order of the
checks is log entry 17. -/
def Obligations.TileIssueFaults : Prop :=
  (∀ (c : Instr) (t op w0 w1 code info : Nat) (s : State), tileRow c = some (t, op) → t < 8192 → s.issues t = true →
    SMap.look (s.tile t).prefetch (s.tile t).head = some w0 → opcodeOf w0 = op →
    (if entriesOf w0 = 2 then SMap.look (s.tile t).prefetch ((s.tile t).head + 1) = some w1 else w1 = 0) →
    issueFault (s.rdClu R.CLU_STATUS_TILE_MASK (t / 16)) (s.clu (t / 16)).ringRegion (s.tile t) op w0 w1
      ((List.range 3).map (fun k => (s.tile t).loopIdx.off (idxOf w0 k))) = some (code, info) →
    ∃ u, exec c s = .next u ∧ u.rdTil R.TIL_STATUS_STATE t = 9 ∧ u.rdTil R.TIL_FAULT_CODE t = code % 256 ∧
      u.rdTil R.TIL_FAULT_OPCODE t = op % 128 ∧ (u.tile t).tok = (s.tile t).tok ∧ (u.tile t).outs = (s.tile t).outs ∧
      u.rdTil R.TIL_FAULT_INDEX t = (s.tile t).head % (s.tile t).ringSize % 2 ^ R.TIL_FAULT_INDEX.width ∧
      u.rdTil R.TIL_FAULT_INFO t = info % 2 ^ R.TIL_FAULT_INFO.width ∧
      (u.tile t).ins = (s.tile t).ins ∧ (u.tile t).mem = (s.tile t).mem ∧ u.sigs = s.sigs) ∧
  (∀ (c : Instr) (t op w0 code info : Nat) (s : State), tileRow c = some (t, op) → t < 8192 → s.issues t = true →
    SMap.look (s.tile t).prefetch (s.tile t).head = some w0 → opcodeOf w0 = op → entriesOf w0 = 2 →
    SMap.look (s.tile t).prefetch ((s.tile t).head + 1) = none → (s.tile t).written ≤ (s.tile t).head + 1 →
    issueFault (s.rdClu R.CLU_STATUS_TILE_MASK (t / 16)) (s.clu (t / 16)).ringRegion (s.tile t) op w0 (plainWord op)
      ((List.range 3).map (fun k => (s.tile t).loopIdx.off (idxOf w0 k))) = some (code, info) →
    ∃ u, exec c s = .next u ∧ u.rdTil R.TIL_STATUS_STATE t = 9 ∧ u.rdTil R.TIL_FAULT_CODE t = code % 256) ∧
  (∀ (c : Instr) (t op w0 w1 st : Nat) (s : State), tileRow c = some (t, op) → t < 8192 → s.issues t = true →
    SMap.look (s.tile t).prefetch (s.tile t).head = some w0 → opcodeOf w0 = op →
    (if entriesOf w0 = 2 then SMap.look (s.tile t).prefetch ((s.tile t).head + 1) = some w1 else w1 = 0) →
    issueFault (s.rdClu R.CLU_STATUS_TILE_MASK (t / 16)) (s.clu (t / 16)).ringRegion (s.tile t) op w0 w1
      ((List.range 3).map (fun k => (s.tile t).loopIdx.off (idxOf w0 k))) = none →
    waitState (s.tile t) op w0 (waitsOf (syncWord op w0 w1)) = some st →
    ∃ u, exec c s = .next u ∧ u.rdTil R.TIL_STATUS_STATE t = st ∧ u.tile t = s.tile t ∧ u.sigs = s.sigs ∧ u.xfers = s.xfers) ∧
  (∀ (t w0 : Nat) (s : State), t < 8192 → s.issues t = true → SMap.look (s.tile t).prefetch (s.tile t).head = some w0 →
    knownOp (opcodeOf w0) = false →
    ∃ u, exec (.illegalOpcode t) s = .next u ∧ u.rdTil R.TIL_STATUS_STATE t = 9 ∧ u.rdTil R.TIL_FAULT_CODE t = 1 ∧
      u.rdTil R.TIL_FAULT_OPCODE t = opcodeOf w0 % 128 ∧ (u.tile t).mem = (s.tile t).mem)

/-- A command that waited starts once its unit can take it; a command whose bytes have moved completes, and its signals go on their way; signals, slots and
credits arrive (R57 to R59, R64, R66, R71, R138). -/
def Obligations.TileEventsComplete : Prop :=
  (∀ (t unit : Nat) (c : TCmd) (s : State) (y : Tile), t < 8192 → unit < 5 →
    (s.tile t).cmds.find? (fun d => d.unit == unit && !d.started) = some c → s.canStart t c = true →
    (∀ i < 16, ∀ d ∈ (s.tile (t / 16 * 16 + i)).cmds, d.started = false) →
    c.op ≠ 0x10 → c.op ≠ 0x20 → c.op ≠ 0x21 → c.op ≠ 0x28 → c.op ≠ 0x29 →
    tileEffect (c.begin (s.tile t)) (s.clu (t / 16))
      { s.tile t with cmds := (s.tile t).cmds.map (fun e => if e.seq == c.seq then c.begin (s.tile t) else e) } = .ok y →
    ∃ u, exec (.commandStart t unit) s = .next u ∧ u.tile t = y) ∧
  (∀ (t unit : Nat) (c : TCmd) (s v : State), t < 8192 → unit < 5 →
    (s.tile t).cmds.find? (fun d => d.unit == unit && !d.started) = some c → s.canStart t c = true →
    ((s.setTile t { s.tile t with cmds := (s.tile t).cmds.map (fun e => if e.seq == c.seq then c.begin (s.tile t) else e) }).hazards t
      (c.begin (s.tile t))).startEffect t (c.begin (s.tile t)) = .ok v →
    ∃ u, exec (.commandStart t unit) s = .next u ∧ u.xfers = v.xfers ∧ u.slotFlits = v.slotFlits ∧ (u.tile t).cmds = (v.tile t).cmds ∧
      (u.tile t).banks = (v.tile t).banks ∧ (u.tile t).abr = (v.tile t).abr ∧ (u.tile t).shapes = (v.tile t).shapes ∧
      (u.tile t).ins = (v.tile t).ins ∧ (u.tile t).planes = (v.tile t).planes ∧ (u.tile t).sBlock = (v.tile t).sBlock) ∧
  (∀ (t seq : Nat) (c : TCmd) (s : State), t < 8192 →
    (s.tile t).cmds.find? (fun d => d.seq == seq && d.started) = some c → (∀ f ∈ s.xfers, ¬(f.tile = t ∧ f.seq = seq)) →
    SignalsFit s t (signalsOf (syncWord c.op c.w0 c.w1)) →
    ∃ u, exec (.commandComplete t seq) s = .next u ∧ (u.tile t).cmds = (s.tile t).cmds.filter (fun d => d.seq != seq) ∧
      u.sigs = s.sigs ++ (signalsOf (syncWord c.op c.w0 c.w1)).map (fun g => ⟨t / 16 * 16 + g.1, g.2.1, g.2.2, s.unitOfTile t⟩) ∧
      (c.op = 0x63 → (u.tile t).planes = bits c.w0 45 4) ∧
      (c.op = 0x29 → ((u.tile t).inCh (bits c.w0 47 3)).arrived = ((s.tile t).inCh (bits c.w0 47 3)).arrived - bits c.w0 29 7 ∧
        ∀ st k uid, ((s.tile t).inCh (bits c.w0 47 3)).src = some (st, k) → s.unitOfTile t = some uid →
          u.creditFlits = s.creditFlits ++ [⟨st, k, bits c.w0 29 7, uid, t, s.partOfTile t, s.rd R.PAR_STATUS_GEN 0 [s.partOfTile t],
            backPath (s.tilePath st t)⟩])) ∧
  (∀ (t k : Nat) (g : Sig) (s : State), t < 8192 → (s.sigs.filter (fun g => g.tile == t))[k]? = some g →
    ∃ u, exec (.tokenSignalArrive t k) s = .next u ∧ u.sigs = s.sigs.erase g ∧
      (g.uid = s.unitOfTile t → (u.tile t).token g.tok = min 255 ((s.tile t).token g.tok + g.inc)) ∧
      (g.uid ≠ s.unitOfTile t → u.tile t = s.tile t)) ∧
  (∀ (t ch : Nat) (f : SlotFlit) (s : State), t < 8192 → ch < 8 → s.slotFlits.find? (fun f => f.dst == t && f.ch == ch) = some f →
    s.flitHeld f = false → s.staleFlit f.src t f.part f.gen = false →
    s.live t f.uid = true → ((s.tile t).inCh ch).slots ≠ 0 → (∀ i < 16, (s.tile (t / 16 * 16 + i)).cmds = []) →
    ∃ u, exec (.channelSlotArrive t ch) s = .next u ∧ u.slotFlits = s.slotFlits.erase f ∧
      ((u.tile t).inCh ch).arrived = ((s.tile t).inCh ch).arrived + 1 ∧
      (u.tile t).mem = ((s.tile t).putTm (128 * (((s.tile t).inCh ch).base + ((s.tile t).inCh ch).wr)) f.data).mem) ∧
  (∀ (t ch : Nat) (f : CreditFlit) (s : State), t < 8192 → ch < 8 → s.creditFlits.find? (fun f => f.tile == t && f.ch == ch) = some f →
    s.staleFlit f.src t f.part f.gen = false → s.live t f.uid = true → ((s.tile t).outCh ch).credits + f.n ≤ ((s.tile t).outCh ch).start →
    ∃ u, exec (.creditReturn t ch) s = .next u ∧ u.creditFlits = s.creditFlits.erase f ∧
      ((u.tile t).outCh ch).credits = ((s.tile t).outCh ch).credits + f.n) ∧
  (∀ (t ch : Nat) (f : SlotFlit) (s : State), t < 8192 → ch < 8 → s.slotFlits.find? (fun f => f.dst == t && f.ch == ch) = some f →
    s.flitHeld f = false → s.staleFlit f.src t f.part f.gen = false → s.live t f.uid = false →
    ∃ u, exec (.channelSlotArrive t ch) s = .next u ∧ u.slotFlits = s.slotFlits.erase f ∧ u.tiles = s.tiles)

/-- What a tile command leaves alone, whether it issues, waits or faults: memory and the caches over it, every tile and cluster outside its cluster, every
register outside its cluster's window (R90), and everything that is not the tile's, its unit's or on its way. What requests of the cluster carry may become
free (R55), and nothing else of them. -/
def Obligations.TileCommandsFrame : Prop :=
  ∀ (c : Instr) (t op : Nat) (s u : State), tileRow c = some (t, op) → exec c s = .next u →
    u.dram = s.dram ∧ u.stcLines = s.stcLines ∧ u.ue = s.ue ∧ u.dirs = s.dirs ∧
    u.reqs.map (fun (r : Req) => { r with data := [] }) = s.reqs.map (fun (r : Req) => { r with data := [] }) ∧ u.descs = s.descs ∧ u.images = s.images ∧
    u.shadow = s.shadow ∧ u.tlbs = s.tlbs ∧ u.errs = s.errs ∧ u.out = s.out ∧ u.now = s.now ∧ u.pending = s.pending ∧
    (∀ v, v / 16 ≠ t / 16 → u.tile v = s.tile v) ∧ (∀ k, k ≠ t / 16 → u.clu k = s.clu k) ∧
    (∀ k, (k < 8 * (t / 2048 * 2 ^ 26 + 2 ^ 24 + t / 16 % 128 * 2 ^ 16) ∨
        8 * (t / 2048 * 2 ^ 26 + 2 ^ 24 + t / 16 % 128 * 2 ^ 16 + 2 ^ 16) ≤ k) → SMap.look u.regs k = SMap.look s.regs k)

/-- What the dispatcher does with a unit: it loads an assigned cluster, the unit's tiles start together, rings are refilled, and a cluster whose tiles have
all ended is ENDING (R80, R81). The stop of a unit with an ending: every cluster of it has ended and the unit is over on the hub (R75). Of the model, not the
spec: what a load reads is log entry 65. -/
def Obligations.DispatcherCommandsComplete : Prop :=
  (
  (∀ (c : Nat) (host : List Byte) (s s1 : State) (uid : Nat) (w : WUnit) (img : Image) (d : List Byte), c < 512 →
    (s.clu c).unit = some uid → s.unit? uid = some w → s.rdClu R.CLU_STATUS_STATE c = 1 → (s.clu c).loaded = false → w.stopped = false →
    s.images.find? (fun (i : Image) => i.part == w.part && i.ctx == w.ctx && i.handle == w.image) = some img →
    (s.clu c).lastCtx = some (16 * w.part + w.ctx) → s.physRead (Agent.loader w c) img.store img.data.length = (.ok d, s1) →
    imgNat d 0x24 4 = 0 →
    ∃ u, exec (.dispatchLoad c host) s = .next u ∧ (u.clu c).loaded = true ∧ (u.clu c).ringRegion = imgNat d 0x20 4 ∧
      (u.clu c).lastCtx = some (16 * w.part + w.ctx) ∧
      (∀ t ∈ maskTiles (imgMask d (s.clu c).logical), (u.tile (16 * c + t)).ringSize = 2 ^ imgNat d (imgHeader d (s.clu c).logical t + 8) 1 ∧
        (u.tile (16 * c + t)).codeLen = imgNat d (imgHeader d (s.clu c).logical t + 4) 4 ∧ (u.tile (16 * c + t)).head = 0)) ∧
  (∀ (uid dt : Nat) (s : State) (w : WUnit), s.unit? uid = some w → w.kind = .kernel → w.released = false → w.ending = none →
    (∀ c ∈ w.clusters, (s.clu c).loaded = true) →
    ∃ u, exec (.startRelease uid dt) s = .next u ∧ (∀ c ∈ w.clusters, u.rdClu R.CLU_STATUS_STATE c = 2) ∧
      u.unit? uid = some { w with released := true }) ∧
  (∀ (t : Nat) (s : State), t < 8192 → s.rdClu R.CLU_STATUS_STATE (t / 16) = 2 →
    (s.tile t).written < min (s.tile t).codeLen ((s.tile t).oldest + (s.tile t).ringSize) →
    ∃ u, exec (.ringRefill t) s = .next u ∧ (u.tile t).written = min (s.tile t).codeLen ((s.tile t).oldest + (s.tile t).ringSize)) ∧
  (∀ (c uid : Nat) (s : State), c < 512 → (s.clu c).unit = some uid → s.rdClu R.CLU_STATUS_STATE c = 2 →
    (∀ t ∈ maskTiles (s.rdClu R.CLU_STATUS_TILE_MASK c), s.rdTil R.TIL_STATUS_STATE (16 * c + t) = 8) →
    ∃ u, exec (.clusterUnitEnd c) s = .next u ∧ (u.clu c).ended = true ∧ u.rdClu R.CLU_STATUS_STATE c = 3)) ∧
  (
  ∀ (uid : Nat) (s : State) (w : WUnit) (e : Ending), s.unit? uid = some w → w.ending = some e → w.stopped = false → w.done = false →
    w.kind = .kernel →
    ∃ u, exec (.unitStop uid) s = .next u ∧ (∀ c ∈ w.clusters, (u.clu c).ended = true ∧ u.rdClu R.CLU_STATUS_STATE c = 3) ∧
      u.unit? uid = some { w with stopped := true, done := true })

/-- RELEASE starts the scrub of a HELD cluster and its end empties the cluster (R83, R91); PERF_CLEAR clears its counters (R91); a debug read of a HELD
cluster returns its bytes, a word at a time with the high one stepping on by 8, and one of a cluster not HELD returns 0 (R93); the first touch of a
confidential context in a tick is counted (R510). Of the model, not the spec: the latch of a high word is log entry 45. -/
def Obligations.ClusterControlCompletes : Prop :=
  (∀ (c : Nat) (s : State), c < 512 → s.rdClu R.CLU_STATUS_STATE c = 5 →
    ∃ u, exec (.cluRelease c) s = .next u ∧ u.rdClu R.CLU_STATUS_STATE c = 4) ∧
  (∀ (c : Nat) (s : State), c < 512 → s.rdClu R.CLU_STATUS_STATE c = 4 →
    ∃ u, exec (.clusterScrubDone c) s = .next u ∧ (∀ t < 16, u.tile (16 * c + t) = Tile.idle) ∧ (u.clu c).buf = [] ∧ u.rdClu R.CLU_STATUS_TILE_MASK c = 0 ∧
      (∀ x ∈ u.tlbs, x.1 ≠ 4 + c) ∧ u.rdClu R.CLU_STATUS_STATE c = (if (s.clu c).blocked then 6 else 0)) ∧
  (∀ (c : Nat) (s : State), c < 512 →
    ∃ u, exec (.cluPerfClear c) s = .next u ∧ u.rdClu R.CLU_PERF_UNITS c = 0 ∧ u.rdClu R.CLU_PERF_CUBE c = 0 ∧
      (∀ t < 16, u.rdTil R.TIL_PERF_CUBE (16 * c + t) = 0 ∧ u.rdTil R.TIL_PERF_VEC (16 * c + t) = 0)) ∧
  (∀ (c : Nat) (s : State), c < 512 → s.rdClu R.CLU_STATUS_STATE c = 5 →
    s.rdB R.PAR_CTX_CFG_CONFIDENTIAL 0 [s.rdClu R.CLU_STATUS_PARTITION c, s.rdClu R.CLU_STATUS_CONTEXT c] = false →
    s.rdClu R.CLU_DBG_ADDR_SPACE c = 0 → s.rdClu R.CLU_DBG_ADDR_OFFSET c ≤ 0x1FFF8 → s.rdClu R.CLU_DBG_ADDR_OFFSET c % 8 = 0 →
    ∃ u, exec (.cluDbgDataRead c false) s = .next u ∧
      u.out = s.out ++ [.reg ((s.tile (16 * c + s.rdClu R.CLU_DBG_ADDR_TILE c)).tmNat (s.rdClu R.CLU_DBG_ADDR_OFFSET c) 8 % 2 ^ 32)]) ∧
  (∀ (c : Nat) (s : State), c < 512 → s.rdClu R.CLU_STATUS_STATE c ≠ 5 →
    (∃ u, exec (.cluDbgDataRead c false) s = .next u ∧ u.out = s.out ++ [.reg 0]) ∧
    (∃ u, exec (.cluDbgDataRead c true) s = .next u ∧ u.out = s.out ++ [.reg 0])) ∧
  (∀ (c p k : Nat) (s : State), c < 512 → s.rdClu R.CLU_STATUS_PARTITION c = p → s.rdClu R.CLU_STATUS_CONTEXT c = k →
    (s.rdClu R.CLU_STATUS_STATE c ≠ 5 ∨ s.rdB R.PAR_CTX_CFG_CONFIDENTIAL 0 [p, k] = false ∨ s.rdB R.PAR_CTX_CFG_ENABLE 0 [p, k] = false ∨
      16 * p + k ∈ s.disclosed) →
    (∃ u, exec (.cluDbgDataRead c false) s = .next u ∧ u.out = s.out ++ [.reg (s.dbgWord c % 2 ^ 32)] ∧
      SMap.look u.latch (cluDie c * 2 ^ 26 + R.CLU_DBG_DATA.offset (cluIx c)) = some (s.dbgWord c / 2 ^ 32) ∧ u.tiles = s.tiles ∧ u.regs = s.regs) ∧
    (∃ u, exec (.cluDbgDataRead c true) s = .next u ∧
      u.rdClu R.CLU_DBG_ADDR_OFFSET c = (s.rdClu R.CLU_DBG_ADDR_OFFSET c + 8) % 2 ^ R.CLU_DBG_ADDR_OFFSET.width ∧ u.tiles = s.tiles ∧
      u.out = s.out ++ [.reg (if s.rdClu R.CLU_STATUS_STATE c = 5 then
        SMap.get (s.dbgWord c / 2 ^ 32) s.latch (cluDie c * 2 ^ 26 + R.CLU_DBG_DATA.offset (cluIx c)) else 0)])) ∧
  (∀ (c : Nat) (s : State), s.rdClu R.CLU_STATUS_STATE c = 5 → s.rdClu R.CLU_DBG_ADDR_OFFSET c % 8 = 0 →
    (s.rdClu R.CLU_DBG_ADDR_SPACE c = 1 → s.rdClu R.CLU_DBG_ADDR_OFFSET c ≤ 0x1F8 →
      ((s.tile (16 * c + s.rdClu R.CLU_DBG_ADDR_TILE c)).bank (s.rdClu R.CLU_DBG_ADDR_OFFSET c / 128)).type = some .int48 →
      s.dbgWord c = unsigned 64 (signed 48
        (((s.tile (16 * c + s.rdClu R.CLU_DBG_ADDR_TILE c)).bank (s.rdClu R.CLU_DBG_ADDR_OFFSET c / 128)).entries.getD (s.rdClu R.CLU_DBG_ADDR_OFFSET c % 128 / 8) 0))) ∧
    (s.rdClu R.CLU_DBG_ADDR_SPACE c = 2 → s.rdClu R.CLU_DBG_ADDR_OFFSET c ≤ 0xFFFF8 → s.dbgWord c = (s.clu c).cbNat (s.rdClu R.CLU_DBG_ADDR_OFFSET c) 8) ∧
    (s.rdClu R.CLU_DBG_ADDR_SPACE c = 0 → 0x1FFF8 < s.rdClu R.CLU_DBG_ADDR_OFFSET c → s.dbgWord c = 0) ∧
    (2 < s.rdClu R.CLU_DBG_ADDR_SPACE c → s.dbgWord c = 0)) ∧
  (∀ (c p k : Nat) (h : Bool) (s : State), c < 512 → s.rdClu R.CLU_STATUS_STATE c = 5 → s.rdClu R.CLU_STATUS_PARTITION c = p →
    s.rdClu R.CLU_STATUS_CONTEXT c = k → p < 64 → k < 16 → s.rdB R.PAR_CTX_CFG_CONFIDENTIAL 0 [p, k] = true → s.rdB R.PAR_CTX_CFG_ENABLE 0 [p, k] = true →
    16 * p + k ∉ s.disclosed →
    ∃ u, exec (.cluDbgDataRead c h) s = .next u ∧ u.disclosed = s.disclosed ++ [16 * p + k] ∧
      u.rd R.SEC_DISCLOSE 0 [16 * p + k] = min (2 ^ R.SEC_DISCLOSE.width - 1) (s.rd R.SEC_DISCLOSE 0 [16 * p + k] + 1))

/-- The heads of a ring in its turn (R202 to R205): a KERNEL descriptor that passes its checks and can be placed is admitted on its clusters, a MARKER
completes OK, a head that fails a check completes BAD_DESCRIPTOR, one that cannot be placed NO_PLACEMENT, and one of a bay queue goes to its chiplet (R204,
R379). -/
def Obligations.AdmissionCompletes : Prop :=
  (∀ (p r dt : Nat) (s : State) (d : Desc) (i : Image) (cs : List Nat), p < 64 → r < 64 → s.headDesc p r = some d → s.turn p r = true →
    d.kind = 1 → d.failed = false → (s.at_ dt).badReason d = none → (s.at_ dt).image? p ((s.at_ dt).rCtx p r) (d.nat 0x10 2) = some i →
    (s.at_ dt).place p i.data = some cs →
    exec (.kernel p r dt) s = .next (((((s.at_ dt).takeUnit d .kernel cs).assign d s.nextUid i.data cs).advance p (queueOf r)).withQueue s.pending) ∧
    ((s.at_ dt).takeUnit d .kernel cs).units = s.units ++ [(s.at_ dt).newUnit d .kernel cs] ∧
    (∀ c ∈ cs, (((s.at_ dt).takeUnit d .kernel cs).assign d s.nextUid i.data cs).rdClu R.CLU_STATUS_STATE c = 1 ∧
      ((((s.at_ dt).takeUnit d .kernel cs).assign d s.nextUid i.data cs).clu c).unit = some s.nextUid)) ∧
  (∀ (p r dt : Nat) (s : State) (d : Desc), p < 64 → r < 80 → s.headDesc p r = some d → s.turn p r = true →
    d.kind = 3 → d.failed = false → (s.at_ dt).badReason d = none →
    exec (.marker p r dt) s = .next ((((s.at_ dt).completeDesc d 0 0).advance p (queueOf r)).withQueue s.pending)) ∧
  (∀ (p r dt reason : Nat) (s : State) (d : Desc), p < 64 → r < 80 → s.headDesc p r = some d → s.turn p r = true →
    d.kind = 1 → d.failed = false → (s.at_ dt).badReason d = some reason →
    exec (.kernel p r dt) s = .next (((((s.at_ dt).endDesc d 9 0 reason true).settleRing d.part d.ring).advance p (queueOf r)).withQueue s.pending)) ∧
  (∀ (p r dt : Nat) (s : State) (d : Desc) (i : Image), p < 64 → r < 64 → s.headDesc p r = some d → s.turn p r = true →
    d.kind = 1 → d.failed = false → (s.at_ dt).badReason d = none → (s.at_ dt).image? p ((s.at_ dt).rCtx p r) (d.nat 0x10 2) = some i →
    (s.at_ dt).place p i.data = none →
    exec (.kernel p r dt) s = .next (((((s.at_ dt).endDesc d 8 0 (((s.at_ dt).clustersOf p).length * 2 ^ 16 + imgClusters i.data) true).settleRing d.part d.ring).advance
      p (queueOf r)).withQueue s.pending)) ∧
  (∀ (p r dt : Nat) (s : State) (d : Desc), p < 64 → 64 ≤ r → r < 80 → s.headDesc p r = some d → s.turn p r = true →
    d.kind = 1 → d.failed = false → (s.at_ dt).badReason d = none →
    exec (.kernel p r dt) s = .next (((((s.at_ dt).takeUnit d .bay []).bwSend (s.rd R.BAY_Q_BIND_BAY 0 [p, r - 64]) 0x30 ((s.at_ dt).bwId p r d.count)
      ((s.at_ dt).gen p) p ((s.at_ dt).rCtx p r) 0 (d.count % 2 ^ 32) 0 d.bytes).advance p (queueOf r)).withQueue s.pending))

/-- A doorbell read that is late or in error counts and shuts the partition's window (R208); a descriptor read that returns hands its bytes over (R205); the
deadline of a window with every doorbell in closes it to later reads (R208). Sampling (R199, R205, R208): counts further apart than the ring size put the ring
in ERROR with TAIL_RANGE or CPL_RANGE; otherwise the new descriptors are fetched, no more than FETCH_MAX and the completion ring allow. Of the model, not the
spec: rings whose counts are tested are log entry 54, and the failures in a row log entry 55. -/
def Obligations.FetchCommandsComplete : Prop :=
  (
  (∀ (p : Nat) (data : List Byte) (s : State), p < 64 → s.window p 0 = 1 → s.rdB R.WRK_DB_LO_LOC 0 [p] = false → (s.dbFail p 0).ask = [] →
    exec (.doorbellReadReturn p 0 false data) s = .next ((s.dbFail p 0).withQueue s.pending)) ∧
  (∀ (p top first : Nat) (data : List Byte) (s t : State), p < 64 → s.window p 0 = 1 → s.rdB R.WRK_DB_LO_LOC 0 [p] = false → s.heel = false →
    s.bme (s.fnOf p) = true → (s.dbPlace p 0).2.2 = 0x40 + 16 * top → 0x40 + 16 * top ≤ data.length →
    (let n (o : Nat) : Nat := leNat (((data.take (0x40 + 16 * top)).drop o).take 4)
     let v := (({ s with dbFails := SMap.del s.dbFails p }).sampleMgmt p (n 0) (n 4)).each (List.range top)
       (fun v r => v.sampleRing p r (n (0x40 + 16 * r)) (n (0x44 + 16 * r)))
     (((List.range 64).map (fun k => (SMap.get 0 v.lead p + k) % 64)).find? (fun r => v.rState p r == 1)) = some first ∧
     t = (({ v with lead := SMap.put 0 v.lead p (first + 1) }).setWindow p 0 2).advance p 0) → t.ask = [] →
    exec (.doorbellReadReturn p 0 true data) s = .next (t.withQueue s.pending)) ∧
  (∀ (p : Nat) (data : List Byte) (s : State), p < 64 → s.window p 0 = 1 → s.rdB R.WRK_DB_LO_LOC 0 [p] = false → s.heel = false →
    s.bme (s.fnOf p) = true → (∀ r < 64, s.rState p r = 0) → s.rdB R.WRK_MGMT_CFG_ENABLE 0 [p] = false → data.length = 0x40 →
    let u := (({ s with dbFails := SMap.del s.dbFails p, lead := SMap.put 0 s.lead p (SMap.get 0 s.lead p) }).setWindow p 0 2).closeWindow p 0
    u.ask = [] → exec (.doorbellReadReturn p 0 true data) s = .next (u.withQueue s.pending)) ∧
  (∀ (p q : Nat) (s : State), p < 64 → q < 17 → s.window p q = 1 →
    exec (.fetchDeadline p q) s = .next ((s.dbFail p q).withQueue s.pending)) ∧
  (∀ (p q : Nat) (s : State), p < 64 → q < 17 → s.window p q = 2 →
    exec (.fetchDeadline p q) s = .next (((s.markLate p q).advance p q).withQueue s.pending) ∧
    (s.markLate p q).window p q = 3 ∧ ∀ d ∈ (s.markLate p q).descs, d.part = p → queueOf d.ring = q → d.read? = false → d.late = true) ∧
  (∀ (p r : Nat) (d : Desc) (data : List Byte) (s : State), p < 64 → r < 64 → s.rLoc p r = false → s.heel = false → s.bme (s.fnOf p) = true → s.ask = [] →
    s.descs.filter (fun e => e.part == p && e.ring == r && !e.read?) = [d] → data.length = 128 →
    exec (.descriptorReadReturn p r true data) s = .next ((({ s with descs := s.descs.map (fun (y : Desc) =>
      if y.part == p && y.ring == r && y.count == d.count then { y with data := some (some data) } else y) }).advance p 0).withQueue s.pending))) ∧
  (
  ∀ (p r tail cplHead : Nat) (s : State), p < 64 → r < 64 → s.rState p r = 1 →
    (s.rSize p r < sub32 tail (s.rHead p r) → s.sampleRing p r tail cplHead = (s.ringError p r 6).settleRing p r) ∧
    (sub32 tail (s.rHead p r) ≤ s.rSize p r → s.rSize p r < sub32 (s.rDone p r) cplHead →
      s.sampleRing p r tail cplHead = (s.ringError p r 7).settleRing p r) ∧
    (sub32 tail (s.rHead p r) ≤ s.rSize p r → sub32 (s.rDone p r) cplHead ≤ s.rSize p r → s.rFlight p r ≤ 64 →
      s.rd R.WRK_RING_LIMIT_FETCH_MAX 0 [p, r] ≤ 64 →
      (s.sampleRing p r tail cplHead).descs = s.descs ++
        (List.range (min (sub32 tail (s.rHead p r)) (min (s.rd R.WRK_RING_LIMIT_FETCH_MAX 0 [p, r] - s.rFlight p r)
          (s.rSize p r - sub32 (s.rHead p r) cplHead)))).map (fun k => ⟨p, r, (s.rHead p r + k) % 2 ^ 32, none, false⟩) ∧
      (s.sampleRing p r tail cplHead).rHead p r = (s.rHead p r + min (sub32 tail (s.rHead p r))
        (min (s.rd R.WRK_RING_LIMIT_FETCH_MAX 0 [p, r] - s.rFlight p r) (s.rSize p r - sub32 (s.rHead p r) cplHead))) % 2 ^ 32 ∧
      (s.sampleRing p r tail cplHead).rFlight p r ≤ max (s.rFlight p r) (s.rd R.WRK_RING_LIMIT_FETCH_MAX 0 [p, r])))

/-- A unit that has ended with its writes acknowledged gets its record: its status is its ending's, or OVERRUN after its budget end, or OK, and DONE rises by
1 (R211, R214, R215, R224). A unit that passes its budget end is marked OVERRAN (R215, R246); at the fourth boundary after its admission it ends HARD_LIMIT
with its whole context, those of it that have come to the limit at the same boundary alike (R215), and HARD_LIMIT is set in WRK_EVENT (R222, R245). -/
def Obligations.UnitEndsComplete : Prop :=
  (
  (∀ (uid dt : Nat) (s : State) (w : WUnit), s.unit? uid = some w → w.done = true → w.atLimit = false → s.writesOut uid = false →
    exec (.completionRecordWrite uid dt) s = .next (((s.at_ dt).finishUnit w).withQueue s.pending)) ∧
  (∀ (p r : Nat) (c : Cpl) (s : State), p < 64 → r < 64 → s.rLoc p r = false → c.irq = false → s.rd R.WRK_RING_CFG_IRQ_ALL 0 [p, r] ≠ 1 →
    s.rState p r = 1 → (s.record p r c).rDone p r = (s.rDone p r + 1) % 2 ^ 32 ∧
      (s.record p r c).rFlight p r = (s.rFlight p r - 1) % 128) ∧
  (∀ (c : Cpl) (size n : Nat), (c.bytes size n).length = 32 ∧
    (c.bytes size n).getD 2 0 = BitVec.ofNat 8 c.status ∧
    ((c.bytes size n).getD 3 0).toNat = (if n / size % 2 = 0 then 128 else 0) + (if c.overran then 1 else 0))) ∧
  (
  (∀ (uid : Nat) (s : State) (w : WUnit), s.unit? uid = some w →
    ∃ u, exec (.budgetEnd uid) s = .next u ∧ u.unit? uid = some { w with overran := true } ∧ w.budgetEnd ≤ u.now) ∧
  (∀ (uid : Nat) (s : State) (w : WUnit), s.unit? uid = some w → w.hard = false → 4 ≤ w.boundaries →
    exec (.hardLimit uid) s = .next (((({ s with units := s.units.map (fun (v : WUnit) =>
      if v.part == w.part && v.ctx == w.ctx && v.atLimit then hardEnd v else v) }).stopCtx w.part w.ctx 4 2).wrkEvent w.part
        R.WRK_EVENT_HARD_LIMIT).withQueue s.pending)) ∧
  (∀ (uid : Nat) (s : State) (w : WUnit), s.unit? uid = some w → w.hard = false → 4 ≤ w.boundaries → w.ending = none →
    ∃ u x, exec (.hardLimit uid) s = .next u ∧ u.unit? uid = some x ∧ x.ending = some ⟨6, 0, 0⟩ ∧ x.overran = true))

/-- The ring controls (R220, R221, R229): ENABLE moves an IDLE ring of an ACTIVE context to ACTIVE; STOP drains an ACTIVE ring and ends its fetched
descriptors; RESET returns a STOPPED or ERROR ring with nothing in flight to IDLE with its counts at 0. Of the model, not the spec: a Q-class field of the
word that makes its block busy is log entry 44. -/
def Obligations.RingControlsComplete : Prop :=
  (∀ (p r v : Nat) (s : State), p < 64 → r < 64 → v < 2 ^ 32 → bit v 31 = true → s.rState p r = 0 → s.rd R.PAR_CTX_CFG_STATE 0 [p, bits v 24 4] = 1 →
    6 ≤ bits v 16 5 → bits v 16 5 ≤ 16 →
    ∃ u, exec (.ringEnable p r v) s = .next u ∧ u.rState p r = 1 ∧ u.rCtx p r = bits v 24 4 ∧ u.rSize p r = 2 ^ bits v 16 5) ∧
  (∀ (p r v : Nat) (s : State), p < 64 → r < 64 → v < 2 ^ 32 → bit v 31 = true → s.rState p r = 0 →
    (s.rd R.PAR_CTX_CFG_STATE 0 [p, bits v 24 4] = 0 ∨ s.rd R.PAR_CTX_CFG_STATE 0 [p, bits v 24 4] = 3) →
    ∃ u, exec (.ringEnable p r v) s = .next u ∧ u.rState p r = 0 ∧ u.rdB R.WRK_CFG_ERR_CFG_ERR 0 [p] = true) ∧
  (∀ (p r : Nat) (s : State), p < 64 → r < 64 → s.rState p r = 1 →
    exec (.ringStop p r) s = .next ((((s.setRing p r 2 1).endDescs p r 5 6 true).drained p r).withQueue s.pending) ∧
    ((∀ d ∈ s.descs, ¬(d.part = p ∧ d.ring = r)) → s.rFlight p r = 0 → (((s.setRing p r 2 1).endDescs p r 5 6 true).drained p r).rState p r = 3) ∧
    ((∀ d ∈ s.descs, ¬(d.part = p ∧ d.ring = r)) → s.rFlight p r ≠ 0 → (((s.setRing p r 2 1).endDescs p r 5 6 true).drained p r).rState p r = 2)) ∧
  (∀ (p r : Nat) (s : State), p < 64 → r < 64 → (s.rState p r = 3 ∨ s.rState p r = 4) → s.rFlight p r = 0 →
    ∃ u, exec (.ringReset p r) s = .next u ∧ u.rState p r = 0 ∧ u.rHead p r = 0 ∧ u.rDone p r = 0) ∧
  (∀ (p v : Nat) (s : State), p < 64 → v < 2 ^ 32 → bit v 31 = true → s.rdB R.WRK_MGMT_CFG_ENABLE 0 [p] = false → 6 ≤ bits v 16 5 → bits v 16 5 ≤ 12 →
    ∃ u, exec (.mgmtQueueEnable p v) s = .next u ∧ u.rdB R.WRK_MGMT_CFG_ENABLE 0 [p] = true ∧
      u.rd R.WRK_MGMT_CFG_SIZE_LOG2 0 [p] = bits v 16 5 ∧ SMap.get 0 u.mgmtHead p = 0 ∧ SMap.get 0 u.mgmtDone p = 0) ∧
  (∀ s : State, ∃ u, exec .shdClearStats s = .next u ∧ u.rd R.SHD_ADMITTED 0 = 0 ∧ u.rd R.SHD_DB_LATE 0 = 0 ∧ u.rd R.SHD_DESC_LATE 0 = 0 ∧
    u.rd R.SHD_WINDOW_WINDOW_MAX 0 = 0)

/-- REGISTER_IMAGE checks, stores and names an image (R186, R187, R226); UNREGISTER_IMAGE takes its handle away; STOP_CONTEXT and RESUME_CONTEXT wait for the
boundary unless there is nothing to do; INVALIDATE starts a drain over its pages; a code no chapter defines is answered with reason 1; and a command not
started for 64 ticks is answered BUSY. What a management command meets before it is carried out (R225, R226, R558, R581): a set unused bit is answered 9 with
reason 2, a context neither ACTIVE nor STOPPED 9 with reason 0x10, every command BUSY while the Pack is given up, and so one that 64 ticks have passed by. A
command that ends while an older one of its partition has not leaves no response behind yet: responses keep the order of the commands (R225). Of the model,
not the spec: the place in the image store is log entry 24, stops and resumes are log entry 58, and the order of image reasons is log entry 104. -/
def Obligations.ManagementCommandsComplete : Prop :=
  (
  (∀ (p at_ : Nat) (host h d : List Byte) (r : MemRes) (m : Mgmt) (s s1 s2 s3 : State), MgmtReady s p 1 m (m.unusedSet false true true 0 0x14) →
    256 ≤ m.len → m.len ≤ 2 ^ 28 → s.virtReadH (s.packVirt p m.ctx) m.addr 256 host = (.ok h, s1) → imgNat h 8 4 = m.len →
    s1.virtReadH (s.packVirt p m.ctx) m.addr m.len host = (.ok d, s2) → (∀ k, 1 ≤ k → k ≤ 8 → imgReason d m.len k = false) →
    s2.storeRoom p m.len = some at_ → (s2.images.filter (fun i => i.part == p && i.live)).length < 1024 → m.part = p →
    s2.physWrite (Agent.mgmt p (s.packVirt p m.ctx).die) at_ d = (r, s3) → r.good = true →
    let t := { s3.useFree 1 with images := s3.images ++
      [(⟨p, m.ctx, s3.newHandle p, at_, d, (d.drop 0x40).take 64, true⟩ : Image)] }.mgmtAnswer m 0 (s3.newHandle p) 0
    t.ask = [] → exec (.registerImage p host) s = .next (t.withQueue s.pending)) ∧
  (∀ (p : Nat) (m : Mgmt) (i : Image) (s : State), MgmtReady s p 2 m (m.unusedSet true false false 16 0x14) → s.image? p m.ctx (m.nat 2 2) = some i →
    let t := ({ s with images := s.images.map (fun (x : Image) => if x == i then { x with live := false } else x) }.dropImages).mgmtAnswer m 0 0 0
    t.ask = [] → exec (.unregisterImage p) s = .next (t.withQueue s.pending)) ∧
  (∀ (p : Nat) (m : Mgmt) (s : State), MgmtReady s p 3 m (m.unusedSet false false false 0 0x14) → s.rd R.PAR_CTX_CFG_STATE 0 [p, m.ctx] = 1 → s.ask = [] →
    exec (.stopContext p) s = .next (s.mgmtStage m 2)) ∧
  (∀ (p : Nat) (m : Mgmt) (s : State), MgmtReady s p 4 m (m.unusedSet false false false 0 0x14) → s.rd R.PAR_CTX_CFG_STATE 0 [p, m.ctx] = 2 → s.ask = [] →
    exec (.resumeContext p) s = .next (s.mgmtStage m 2)) ∧
  (∀ (p : Nat) (m : Mgmt) (s : State), MgmtReady s p 0x20 m (m.unusedSet false true true 0 0x14) → m.addr % 4096 = 0 →
    let t := (s.mgmtStage m 1).invalidate p m.ctx (if m.len = 0 then 0 else m.addr)
      (if m.len = 0 then wholeSpace else m.len * 4096) (.mgmt p m.entry 0)
    t.ask = [] → exec (.invalidate p) s = .next (t.withQueue s.pending)) ∧
  (∀ (p : Nat) (m : Mgmt) (s : State), p < 64 → s.mgmtHead? p = some m → s.packFor p = 0 → m.age < 64 → mgmtKnown m.code = false →
    (s.mgmtAnswer m 9 0 1).ask = [] → exec (.undefinedMgmtCommand p) s = .next ((s.mgmtAnswer m 9 0 1).withQueue s.pending)) ∧
  (∀ (p : Nat) (m : Mgmt) (s : State), p < 64 → s.mgmts.find? (fun m => m.part == p && m.stage == 0 && m.answer.isNone) = some m → s.pack ≠ 1 → 64 ≤ m.age →
    exec (.mgmtBusyTimeout p) s = .next (((s.useFree 1).mgmtAnswer m 0xB 0 (Config.freeNat s.free % 2 ^ 16)).withQueue s.pending))) ∧
  (
  (∀ (p : Nat) (m : Mgmt) (s : State), p < 64 → s.mgmtHead? p = some m → s.packFor p = 0 → m.age < 64 → m.code = 3 → m.unusedSet false false false 0 0x14 = true →
    exec (.stopContext p) s = .next ((s.mgmtAnswer m 9 0 2).withQueue s.pending)) ∧
  (∀ (p : Nat) (m : Mgmt) (s : State), p < 64 → s.mgmtHead? p = some m → s.packFor p = 0 → m.age < 64 → m.code = 4 → m.unusedSet false false false 0 0x14 = false →
    s.ctxLive p m.ctx = false → exec (.resumeContext p) s = .next ((s.mgmtAnswer m 9 0 0x10).withQueue s.pending)) ∧
  (∀ (p : Nat) (m : Mgmt) (s : State), p < 64 → s.mgmtHead? p = some m → s.packFor p = 2 →
    exec (.invalidate p) s = .next ((s.mgmtAnswer m 0xB 0 0xFFFF).withQueue s.pending)) ∧
  (∀ (p : Nat) (m : Mgmt) (s : State), p < 64 → s.mgmtHead? p = some m → s.packFor p = 0 → 64 ≤ m.age → m.code = 1 →
    ∀ host, exec (.registerImage p host) s = .next (((s.useFree 1).mgmtAnswer m 0xB 0 (Config.freeNat s.free % 2 ^ 16)).withQueue s.pending)) ∧
  (∀ (p : Nat) (m : Mgmt) (s : State), s.mgmts.find? (fun (x : Mgmt) => x.part == p) = some m → m.part = p → m.answer = none →
    ∀ (y : Mgmt) (st d0 d1 : Nat), y.part = p → y.entry ≠ m.entry →
      (s.mgmtAnswer y st d0 d1).out = s.out ∧ (s.mgmtAnswer y st d0 d1).reqs = s.reqs))

/-- A Retriever descriptor whose checks pass is admitted as a unit and begins its operation; once all it reads is at hand the operation is done whole and the
unit is over, or waits for its drain (R318, R319); until then the command is issued again and goes on with the unit; one that fails the Retriever's own checks
ends its unit with status 0x40 (R321). The order of a COPY and where it stops (R320): it moves 64-byte lines, upwards unless the ranges overlap and the
destination lies above the source; the first line that fails ends it and every later line stays as it was. -/
def Obligations.RetrieverCommandsComplete : Prop :=
  (
  (∀ (p r dt : Nat) (host : List Byte) (d : Desc) (s : State), p < 64 → r < 64 → HeadTurn s p r 2 d → d.opOk = true → (s.at_ dt).badReason d = none →
    let after (f : RtrOp) : State := ((((s.at_ dt).rtrUnit d f).advance p (queueOf r)).withQueue s.pending)
    (d.op = 1 → exec (.copy p r dt host) s = .next (after (copyOp host))) ∧
    (d.op = 2 → exec (.migrate p r dt host) s = .next (after (migrateOp host))) ∧
    (d.op = 3 → exec (.warm p r dt) s = .next (after warmOp)) ∧
    (d.op = 4 → exec (.stcFill p r dt host) s = .next (after (fillOp host))) ∧
    (d.op = 5 → exec (.stcClean p r dt) s = .next (after cleanOp))) ∧
  (∀ (uid : Nat) (u : WUnit) (f : RtrOp) (s t : State) (e : Option Ending) (w : Bool) (die : Nat) (s1 : State), s.unit? uid = some u →
    s.rtrDie u.descr uid = (die, s1) → f u.descr s1 uid ⟨die, u.part, u.ctx, 9728 + die, bit (u.descr.nat 0x11 1) 0, uid, 0⟩ = (t, e, w) → t.ask = [] →
    s.rtrRun uid f = t.updUnit uid (fun u => { u with ending := e, done := !w, released := true })) ∧
  (∀ (p r dt : Nat) (host : List Byte) (u : WUnit) (s : State), p < 64 → r < 64 → s.headDesc p r = none → s.rtrWaiting p r 1 = some u →
    exec (.copy p r dt host) s = .next (((s.at_ dt).rtrRun u.id (copyOp host)).withQueue s.pending)) ∧
  (∀ (p r dt : Nat) (d : Desc) (s : State), p < 64 → r < 64 → HeadTurn s p r 2 d → d.opOk = false → (s.at_ dt).badReason d = none →
    exec (.rtrBadOp p r dt) s = .next (((((s.at_ dt).takeUnit d .retriever []).updUnit s.nextUid
      (fun u => { u with ending := some ⟨0x40, 0, 0⟩, done := true, released := true })).advance p (queueOf r)).withQueue s.pending))) ∧
  (
  (∀ (s : State) (a : Virt) (src dst : Nat) (host : List Byte), s.copyRange a src dst 0 host = (s, none)) ∧
  (∀ (s s1 : State) (e : Option Ending) (a : Virt) (src dst n : Nat) (host : List Byte), (dst ≤ src ∨ src + 64 * (n + 1) ≤ dst) →
    s.copyStep a src dst host 0 false = (s1, e) → e.isSome = true → s.copyRange a src dst (64 * (n + 1)) host = (s1, e)) ∧
  (∀ (s s1 : State) (e : Option Ending) (a : Virt) (src dst n : Nat) (host : List Byte), src < dst → dst < src + 64 * (n + 1) →
    s.copyStep a src dst host n true = (s1, e) → e.isSome = true →
    s.copyRange a src dst (64 * (n + 1)) host = (s1, e)))

/-- A tick boundary comes at its instant with the steps of R240, and the tick that begins takes the number and the time (R231, R232). Of the model, not the
spec: windows that are still open are closed first, log entry 43. -/
def Obligations.TickBoundaryCompletes : Prop :=
  (∀ (t : Nat) (s : State), s.boot.mainOff = false → s.nextBoundary = some t →
    exec .tickBoundary s = .next ((((s.beforeTick).tickSteps t).afterTick).withQueue s.pending)) ∧
  (∀ (t : Nat) (s : State), s.tck.masterNumber = none → s.rdB R.TCK_NEXT_PENDING 0 = false →
    (s.tickOver t).tick = (s.tck.numNext.getD (s.tick + 1)) % 2 ^ 64 ∧ (s.tickOver t).rd R.TCK_TOD 0 = t % 2 ^ 64 ∧ (s.tickOver t).now = t ∧
    (s.tickOver t).period = s.period ∧ (s.tickOver t).tck.edgeAt = none) ∧
  (∀ (t : Nat) (s : State), s.tck.masterNumber = none → s.rdB R.TCK_NEXT_PENDING 0 = false →
    (s.tickOver t).tck.slew = s.tck.slew - s.slewed (1000 * s.period)) ∧
  (∀ s : State, s.source ≠ 3 → s.tck.edgeAt = none → s.nextBoundary = some (s.rd R.TCK_TOD 0 + s.rd R.TCK_PERIOD_CURRENT 0 * 10000)) ∧
  (∀ s : State, s.source = 3 → s.tckState ≠ 4 → s.nextBoundary = s.tck.edgeAt)

/-- Edges and sync frames steer the boundary (R234 to R238): an edge within 1 µs of the expected time is taken and locks; a missed one counts, and eight in a
row lose the lock; a master sends a frame; a frame of the master followed is steered by: its offset is slewed out, at most 100 ppm, or moves the next boundary
where it is above 1 µs and the follower is not LOCKED; 1 ms without one is HOLDOVER, and 64 ticks of that are LOST. A change of the period is armed at least
64 ticks ahead and can be taken back (R248); an arming that comes too late is dropped with CFG_ERR. Of the model, not the spec: what the frames carry and when
they steer are log entries 39 to 42. -/
def Obligations.TickSourcesComplete : Prop :=
  (
  (∀ (dt : Nat) (s : State), s.source = 3 → s.tck.edgeAt = none → s.tckState ≠ 4 → s.expected ≤ s.rd R.TCK_TOD 0 + dt + 1000 →
    s.rd R.TCK_TOD 0 + dt ≤ s.expected + 1000 →
    ∃ u, exec (.tickInEdge dt) s = .next u ∧ u.tckState = 2 ∧ u.nextBoundary = some (s.rd R.TCK_TOD 0 + dt)) ∧
  (∀ s : State, s.source = 3 → s.tck.edgeAt = none → s.tckState ≠ 4 → s.tck.edgeMiss < 7 →
    ∃ u, exec .tickInMissed s = .next u ∧ u.tckState = s.tckState ∧ u.nextBoundary = some s.expected ∧ u.tck.edgeMiss = s.tck.edgeMiss + 1 ∧
      u.rd R.TCK_MISSED 0 = min (2 ^ 32 - 1) (s.rd R.TCK_MISSED 0 + 1)) ∧
  (∀ s : State, 2 ≤ s.source → s.sbrUp = true →
    ∃ u, exec .syncSend s = .next u ∧ u.sideSeq = s.sideSeq % 2 ^ 16 + 1 ∧
      u.out = s.out ++ [.side 1 (sideHead 1 s.sbrPos 0xFF 41 (s.sideSeq % 2 ^ 16) ++ syncPayload s.tick (s.rd R.TCK_TOD 0) 0
        (if s.rdB R.TCK_NEXT_PENDING 0 then s.rd R.TCK_NEXT_NEXT_PERIOD 0 else 0) (if s.rdB R.TCK_NEXT_PENDING 0 then s.rd R.TCK_NEXT_AT 0 else 0) s.sbrPos)]) ∧
  (∀ (src seq tickNo tod correction period nextAt residence k ps : Nat) (s : State), src < 256 → tickNo < 2 ^ 64 → tod < 2 ^ 64 →
    correction < 2 ^ 64 → period < 256 → nextAt < 2 ^ 64 → s.sbrUp = true → src ≠ s.sbrPos → s.source = 1 → s.tckState = 1 → s.rd R.TCK_HOP_DELAY 0 = 0 →
    exec (.syncFrame true src seq tickNo tod correction period nextAt residence k ps) s =
      .next ((((s.at_ (ps / 1000)).wrs 0 [] [(R.TCK_MASTER_DELAY, min (2 ^ 32 - 1) (correction / 1000)),
        (R.TCK_OFFSET, sat32 (s.syncOffset tod correction k ps))]).syncFollow
        ⟨src, tickNo, tod, period, nextAt, s.syncOffset tod correction k ps⟩ ps).withQueue s.pending) ∧
    s.syncOffset tod correction k ps = 1000 * (s.rd R.TCK_TOD 0 : Int) + ps + s.slewed ps - (1000 * (tod : Int) + 10000000 * k + correction)) ∧
  (∀ (m : SyncMsg) (ps : Nat) (s : State), s.tckState ≠ 2 → m.offset.natAbs ≤ 20000 → s.tck.masterPos = some m.src → m.period = 0 →
    s.rdB R.TCK_NEXT_PENDING 0 = false →
    (s.tck.syncGood < 15 → (s.syncFollow m ps).tckState = s.tckState ∧ (s.syncFollow m ps).tck.syncGood = s.tck.syncGood + 1) ∧
    (15 ≤ s.tck.syncGood → (s.syncFollow m ps).tckState = 2)) ∧
  (∀ (m : SyncMsg) (ps : Nat) (s : State), m.period = 0 → s.rdB R.TCK_NEXT_PENDING 0 = false → (s.tckState = 2 ∨ m.offset.natAbs ≤ 1000000) →
    (s.syncFollow m ps).tck.slew = s.slewed ps - m.offset ∧ (s.syncFollow m ps).tck.edgeAt = s.tck.edgeAt) ∧
  (∀ (m : SyncMsg) (ps : Nat) (s : State), m.period = 0 → s.rdB R.TCK_NEXT_PENDING 0 = false → s.tckState ≠ 2 → 1000000 < m.offset.natAbs →
    (s.syncFollow m ps).tck.slew = 0 ∧ (s.syncFollow m ps).tck.edgeAt.isSome = true) ∧
  (∀ (ps : Nat) (s : State), (s.slewed ps).natAbs ≤ ps / 10000) ∧
  (∀ (dt : Nat) (s : State), s.source = 1 → s.tckState = 2 → s.tck.syncAt + max 1000000 (2 * s.period) ≤ (s.at_ dt).now →
    exec (.syncHoldover dt) s = .next (((({ s.at_ dt with tck := { s.tck with syncGood := 0, holdTicks := 0, slew := 0 } } : State).wr R.TCK_STATUS_STATE 0 [] 3).tckEvent
      R.TCK_EVENT_HOLDOVER).withQueue s.pending)) ∧
  (∀ s : State, s.source = 1 → s.tckState = 3 → 64 ≤ s.tck.holdTicks →
    exec .syncLost s = .next (((s.wr R.TCK_STATUS_STATE 0 [] 4).tckEvent R.TCK_EVENT_TICK_LOST).withQueue s.pending))) ∧
  (
  (∀ (low : Nat) (s : State), low < 2 ^ 32 → s.source ≠ 1 → s.rdB R.TCK_NEXT_PENDING 0 = false → s.rd R.TCK_NEXT_NEXT_PERIOD 0 ≠ 0 →
    s.tick + 64 ≤ s.rd R.TCK_NEXT_AT 0 / 2 ^ 32 * 2 ^ 32 + low → s.rd R.TCK_NEXT_AT 0 < 2 ^ 64 →
    ∃ u, exec (.tckNextAtArm low) s = .next u ∧ u.rdB R.TCK_NEXT_PENDING 0 = true ∧
      u.rd R.TCK_NEXT_AT 0 = s.rd R.TCK_NEXT_AT 0 / 2 ^ 32 * 2 ^ 32 + low) ∧
  (∀ (low : Nat) (s : State), low < 2 ^ 32 → s.rd R.TCK_NEXT_AT 0 / 2 ^ 32 * 2 ^ 32 + low < s.tick + 64 → s.rdB R.TCK_CFG_ERR_CFG_ERR 0 = false →
    ∃ u, exec (.tckNextAtArm low) s = .next u ∧ u.rdB R.TCK_CFG_ERR_CFG_ERR 0 = true ∧ u.rdB R.TCK_NEXT_PENDING 0 = s.rdB R.TCK_NEXT_PENDING 0 ∧
      u.rd R.TCK_NEXT_AT 0 = s.rd R.TCK_NEXT_AT 0) ∧
  (∀ s : State, s.source ≠ 1 →
    ∃ u, exec .tckPeriodCancel s = .next u ∧ u.rdB R.TCK_NEXT_PENDING 0 = false ∧ u.rd R.TCK_NEXT_NEXT_PERIOD 0 = 0))

/-- CLEAR_STATS of a block sets its counters to 0 (R229, R249, R274, R275, R294, R322, R354, R355, R387, R401, R422, R427, R462, R518, R538, R564) and changes
no other register. -/
def Obligations.ClearStatsClearsCounters : Prop :=
  (∀ (c : Instr) (d : Nat) (k : Option Nat) (l : List Fld) (s : State), clearRow c = some (d, k, l) → c.wf = true →
    ∃ u, exec c s = .next u ∧
      (∀ f ∈ l, ∀ ix ∈ f.indices, (∀ j, k = some j → ix.head? = some j) → u.rd f d ix = 0) ∧
      (∀ key, (∀ f ∈ l, ∀ ix ∈ f.indices, f.key d ix ≠ key) → (∀ e, c = .xltClearStats e → e ≠ 0) → SMap.look u.regs key = SMap.look s.regs key) ∧
      u = { s with regs := u.regs }) ∧
  (∀ d < 4, ∀ x ∈ ([
      (.shdClearStats, 0, [R.SHD_ADMITTED, R.SHD_DB_LATE, R.SHD_DESC_LATE, R.SHD_WINDOW_WINDOW_MAX]),
      (.tckClearStats, 0, [R.TCK_MISSED]),
      (.stcClearStats d, d, [R.STC_HITS, R.STC_MISSES, R.STC_WRITEBACKS, R.STC_BYPASS, R.STC_SECTOR_ERR]),
      (.memClearStats d, d, [R.MEM_STACK_REPAIRS, R.MEM_PORT_CE, R.MEM_PORT_UE, R.MEM_PORT_SECTORS]),
      (.lshClearStats d, d, [R.LSH_M_GUAR, R.LSH_M_BE, R.LSH_PORT_UNITS, R.LSH_PORT_LATE]),
      (.xltClearStats d, d, [R.XLT_DTLB_HITS, R.XLT_DTLB_MISSES, R.XLT_WALK_READS, R.XLT_INVALS, R.XLT_CUT]),
      (.xltClearStats 0, 0, [R.XLT_ATS_REQS, R.XLT_PRI_REQS, R.XLT_PRI_LATE, R.XLT_ATS_INV]),
      (.fllClearStats d, d, [R.FLL_DISCARDS, R.FLL_CW_FLITS, R.FLL_CW_SLOTTED, R.FLL_CCW_FLITS, R.FLL_CCW_SLOTTED, R.FLL_M_SLOTTED, R.FLL_M_STALL]),
      (.cohClearStats d, d, [R.COH_DIR_EVICTS, R.COH_SNOOPS, R.COH_PUSH_ACK, R.COH_PUSH_DROP, R.COH_NOT_ISLAND, R.COH_LOST_OWNED]),
      (.knlClearStats, 0, [R.KNL_SENT, R.KNL_HELD]),
      (.sbrClearStats, 0, [R.SBR_FRAMES, R.SBR_CRC_ERR]),
      (.pciClearStats, 0, [R.PCI_LATE, R.PCI_DISCARDS, R.PCI_UNEXPECTED, R.PCI_BAR_ERR, R.PCI_RD_BYTES, R.PCI_WR_BYTES, R.PCI_VF_APT_FAULTS]),
      (.secClearStats, 0, [R.SEC_ATT_COUNT, R.SEC_ATT_BUSY, R.SEC_DEBUG_TICKS, R.SEC_PACK_DENIED]),
      (.bstClearStats d, d, [R.BST_SLICES, R.BST_SLICE_FAILS]),
      (.errClearStats d, d, [R.ERR_Q_STATUS_LOST, R.ERR_WDT_RESETS])] : List (Instr × Nat × List Fld)),
    ∀ s : State, ∃ u, exec x.1 s = .next u ∧ ∀ f ∈ x.2.2, ∀ ix ∈ f.indices, u.rd f x.2.1 ix = 0) ∧
  (∀ (b : Nat) (s : State), b < 8 → ∃ u, exec (.bayClearStats b) s = .next u ∧
    ∀ f ∈ [R.BAY_REPAIRS, R.BAY_REPLAYS, R.BAY_DENIED], u.rd f (b / 2) [b % 2] = 0) ∧
  (∀ (d k : Nat) (s : State), d < 4 → k < 2 → ∃ u, exec (.ddlClearStats d k) s = .next u ∧
    ∀ f ∈ [R.DDL_REPLAYS, R.DDL_CRC_ERR, R.DDL_REPAIRS], u.rd f d [k] = 0)

/-- A request reaches its home: one on its way over Flial (R335, R342), and one a bay sends as the flits of its stream (R371, R373). A stream whose request
word names what the island does not have is a protocol error (R350, R371, R372), and a bay that is not admitted sends nothing. Of the model, not the spec:
what a response carries is log entry 107. -/
def Obligations.RequestCommandsComplete : Prop :=
  ∀ x ∈ ([(Instr.rdCur, ReqOp.rdCur), (Instr.rdShared, ReqOp.rdShared), (Instr.rdOwn, ReqOp.rdOwn), (Instr.upgrade, ReqOp.upgrade),
      (Instr.wbDirty, ReqOp.wbDirty), (Instr.evictClean, ReqOp.evictClean), (Instr.wrInv, ReqOp.wrInv), (Instr.wrPlace, ReqOp.wrPlace),
      (Instr.atomic, ReqOp.atomic)] : List ((Arrival → Nat → List Ecc → Instr) × ReqOp)),
  (∀ (rid dt : Nat) (ecc : List Ecc) (r : Req) (s : State), s.req? rid = some r → r.stage = .sent → r.op = x.2 → s.overtakes r = false →
    exec (x.1 (.req rid) dt ecc) s = .next (((s.at_ dt).homeArrive rid ecc).withQueue s.pending)) ∧
  (∀ (b k word dt : Nat) (stream : List Nat) (items : List (Nat × Nat)) (ecc : List Ecc) (s : State), b < 8 → s.bayLive b = true →
    bayItems stream.length stream = some items → items.find? (fun y => y.1 == 0xA0) = some (k, word) → (reqFlit word).opcode = x.2.code →
    nodeOf (reqFlit word).dest ≠ .reserved → nodeOf (reqFlit word).src ≠ .reserved →
    ¬(s.bayRd R.BAY_STATUS_PROTO b = 1 ∧ (x.2 = .wrPlace ∨ x.2 = .atomic)) →
    exec (x.1 (.bay b stream) dt ecc) s = .next (((s.at_ dt).bayRequest x.2 b word ((items.filter (fun y => y.1 == 0xA3)).map (·.2)) ecc).withQueue s.pending)) ∧
  (∀ (b k word dt : Nat) (stream : List Nat) (items : List (Nat × Nat)) (ecc : List Ecc) (s : State), b < 8 → s.bayLive b = true →
    bayItems stream.length stream = some items → items.find? (fun y => y.1 == 0xA0) = some (k, word) →
    (nodeOf (reqFlit word).dest = .reserved ∨ nodeOf (reqFlit word).src = .reserved ∨ opcodeDefined (reqFlit word).opcode = false ∨
      (s.bayRd R.BAY_STATUS_PROTO b = 1 ∧ ((reqFlit word).opcode = ReqOp.code .wrPlace ∨ (reqFlit word).opcode = ReqOp.code .atomic))) →
    exec (x.1 (.bay b stream) dt ecc) s = .next (((s.at_ dt).takeDown (s.island (b / 2)) 2 (reqFlit word).src
      ((reqFlit word).granule * 4 + (maskList (reqFlit word).smask).headD 0 / 2) (b / 2)).withQueue s.pending)) ∧
  (∀ (b dt : Nat) (stream : List Nat) (ecc : List Ecc) (s : State), s.bayLive b = false → exec (x.1 (.bay b stream) dt ecc) s = .next s)

/-- What a home does with a request it takes up (R29, R342, R343, R348, R351): the answer of an island that is down or another island, a wait for a busy line,
the snoops the directory asks for, or the memory at once. -/
def Obligations.HomeTakesUp : Prop :=
  ∀ (rid : Nat) (ecc : List Ecc) (r : Req) (s : State), s.req? rid = some r →
    (s.homeUp r.q = false → r.op.writes = false → s.homeTry rid ecc = s.answer rid r.op.ans 2 []) ∧
    (s.homeUp r.q = true → r.roams = false → s.island r.die ≠ s.island (qDie r.q) →
      s.homeTry rid ecc = (s.bump R.COH_NOT_ISLAND (qDie r.q) [] 1).answer rid r.op.ans 3 []) ∧
    (s.homeUp r.q = true → (r.roams = true ∨ s.island r.die = s.island (qDie r.q)) → s.snoops = [] → s.lineBusy r = true →
      s.homeTry rid ecc = s.updReq rid (fun x => { x with stage := .waiting })) ∧
    (s.homeUp r.q = true → (r.roams = true ∨ s.island r.die = s.island (qDie r.q)) → s.snoops = [] → s.lineBusy r = false → r.op = .rdCur →
      s.homeTry rid ecc = (let v := (s.sliceEcc r.q (r.loc / 256) r.mask ecc r.dpa r.waysOf r.ctx).updReq rid (fun x => { x with ans := 0, stage := .snoop })
        if s.needs r = [] then v.homeMem rid else v.each (s.needs r) (fun v n => v.snoop n.1 rid n.2.1 n.2.2 (qDie r.q) [])))

/-- The directory after a request that succeeds (R343): a read for ownership and an upgrade leave the requester the owner and only holder of the line; a
shared read of a line nobody holds makes it owner, of a line others hold one holder more; and no entry that an owner holds has a second holder. -/
def Obligations.DirectoryFollowsRequests : Prop :=
  (∀ (r : Req) (s : State), (r.op = .rdOwn ∨ r.op = .upgrade) →
    ∃ o, SMap.look (s.dirAfter r).dirs (r.dpa / 64) = some ⟨true, [r.bay], o⟩) ∧
  (∀ (r : Req) (s : State), r.op = .rdShared → SMap.look s.dirs (r.dpa / 64) = none → r.rsps = [] →
    SMap.look (s.dirAfter r).dirs (r.dpa / 64) = some ⟨true, [r.bay], s.dirOrder⟩) ∧
  (∀ (r : Req) (s : State) (e : DirEntry), r.op = .rdShared → SMap.look s.dirs (r.dpa / 64) = some e → e.owned = false →
    ∃ f : DirEntry, SMap.look (s.dirAfter r).dirs (r.dpa / 64) = some f ∧ f.owned = false ∧ r.bay ∈ f.bays ∧ (∀ b ∈ e.bays, b ∈ f.bays)) ∧
  (∀ (r : Req) (s : State), (∀ l e, SMap.look s.dirs l = some e → e.owned = true → e.bays.length = 1) →
    ∀ l e, SMap.look (s.dirAfter r).dirs l = some e → e.owned = true → e.bays.length = 1)

/-- A bay answers a snoop from what it holds (R344); the home acts on the answer and the request goes on with its last one (R343, R346); the answers to
SNP_PUSH count, and an accepted push makes the bay a holder (R347). An answer reaches its requester (R326), in the order of its memory port (R335): a tile's
transfer takes its bytes, a bay gets its response, an agent of the package its answer, and a write nobody waits for is over or has failed; an answer to a
request of an earlier generation is discarded and counted (R329). Of the model, not the spec: discarding by the answer's own row is log entry 107. -/
def Obligations.SnoopAndAnswerCommandsComplete : Prop :=
  (
  (∀ (tag holds : Nat) (accept : Bool) (data : List Byte) (n : Snoop) (s : State), s.snoops.find? (fun (n : Snoop) => n.tag == tag && n.answer.isNone) = some n →
    (s.snoops.filter (fun (x : Snoop) => x.tag == tag) = [n]) → s.bayLive n.bay = true → n.bgen = s.bayRd R.BAY_STATUS_BGEN n.bay →
    let after (a : Nat) : State := { s with snoops := s.snoops.map (fun (x : Snoop) =>
      if x.tag == tag then { x with answer := some a, data := if a = 2 then padTo 64 data else x.data } else x) }
    (n.op = .cur → exec (.snpCur tag holds data) s = .next (after (min 2 holds))) ∧
    (n.op = .share → exec (.snpShare tag holds data) s = .next (after (min 2 holds))) ∧
    (n.op = .inv → exec (.snpInv tag holds data) s = .next (after (if 2 ≤ holds then 2 else 0))) ∧
    (n.op = .push → exec (.snpPush tag accept) s = .next (after (if accept then 3 else 4)))) ∧
  (∀ x ∈ ([(Instr.rspI, 0), (Instr.rspS, 1), (Instr.rspData, 2)] : List ((Nat → Nat → Instr) × Nat)), ∀ (tag dt : Nat) (n : Snoop) (s : State),
    s.snoops.find? (fun (n : Snoop) => n.tag == tag && n.answer == some x.2) = some n →
    (n.bgen = s.bayRd R.BAY_STATUS_BGEN n.bay → exec (x.1 tag dt) s = .next (((s.at_ dt).snoopOver n x.2).withQueue s.pending)) ∧
    (n.bgen ≠ s.bayRd R.BAY_STATUS_BGEN n.bay → exec (x.1 tag dt) s = .next (((s.at_ dt).rspDrop n).withQueue s.pending))) ∧
  (∀ (tag dt : Nat) (n : Snoop) (s : State) (q loc : Nat), s.snoops.find? (fun (n : Snoop) => n.tag == tag && n.answer == some 3) = some n →
    n.bgen = s.bayRd R.BAY_STATUS_BGEN n.bay → s.decode (n.line * 64) = some (q, loc) →
    exec (.pushAck tag dt) s = .next (((({ s.at_ dt with snoops := s.snoops.filter (fun (x : Snoop) => x.tag != tag) } : State).bump R.COH_PUSH_ACK (qDie q) [] 1
      ).setDir n.line false [n.bay]).pumpHome.withQueue s.pending)) ∧
  (∀ (tag dt : Nat) (n : Snoop) (s : State) (q loc : Nat), s.snoops.find? (fun (n : Snoop) => n.tag == tag && n.answer == some 4) = some n →
    n.bgen = s.bayRd R.BAY_STATUS_BGEN n.bay → s.decode (n.line * 64) = some (q, loc) →
    exec (.pushNack tag dt) s = .next ((({ s.at_ dt with snoops := s.snoops.filter (fun (x : Snoop) => x.tag != tag) } : State).bump R.COH_PUSH_DROP (qDie q) [] 1
      ).pumpHome.withQueue s.pending))) ∧
  (
  (∀ x ∈ ([(Instr.rdData, 0), (Instr.wrAck, 1), (Instr.grantE, 2), (Instr.grantS, 3), (Instr.grantUpg, 4), (Instr.wbAck, 5), (Instr.atomicData, 6)] :
      List ((Nat → Instr) × Nat)), ∀ (rid : Nat) (r : Req) (s : State),
    s.reqs.find? (fun (r : Req) => r.rid == rid && r.stage == .answered && r.ans == x.2) = some r → s.answeredBefore r = false →
    (r.gen = s.ownerGen r → ∀ xid, r.owner = .xfer xid → exec (x.1 rid) s = .next (((s.dropReq rid).deliverXfer r xid).withQueue s.pending)) ∧
    (r.gen = s.ownerGen r → ∀ b tag, r.owner = .bay b tag → s.bayLive b = true → exec (x.1 rid) s = .next (((s.dropReq rid).bayAnswer b r.ans
      (portNode (qPort r.q)) tag r.slot (min 3 r.status) r.gen (if r.answer = [] then 0 else touchedM r.mask) r.spread).withQueue s.pending)) ∧
    (r.gen = s.ownerGen r → r.owner = .agent → s.parked = [] → exec (x.1 rid) s = .next (s.updReq rid (fun r => { r with stage := .here }))) ∧
    (r.gen = s.ownerGen r → ∀ b, r.owner = .post b → r.status = 0 → exec (x.1 rid) s = .next (s.dropReq rid)) ∧
    (r.gen = s.ownerGen r → ∀ b, r.owner = .post b → r.status ≠ 0 → exec (x.1 rid) s = .next (((s.dropReq rid).putFailed b).withQueue s.pending)) ∧
    (r.gen ≠ s.ownerGen r → r.die < 4 → (∀ p, r.owner = .post (.zero p) → p < 64) →
      ∃ u, exec (x.1 rid) s = .next u ∧ u.rd R.FLL_DISCARDS r.die = min (2 ^ 64 - 1) (s.rd R.FLL_DISCARDS r.die + 1) ∧ u.tiles = s.tiles ∧ u.out = s.out)) ∧
  (∀ (r : Req) (xid : Nat) (x : Xfer) (s : State), s.xfers.find? (fun (x : Xfer) => x.id == xid) = some x → s.unitOfTile x.tile = some r.uid →
    x.faulted = false → r.status = 0 → x.write = false → x.space = .tm → (∀ c ∈ (s.tile x.tile).cmds, ¬(c.seq = x.seq ∧ c.spoiled = true)) →
    ((s.deliverXfer r xid).tile x.tile) = (s.tile x.tile).putTm r.off r.seqBytes))

/-- A pseudo-channel serves the request R281 chooses: none of those that may be served comes before it in the order of R281. -/
def Obligations.DramServesByKey : Prop :=
  (∀ (q dt : Nat) (openIds : List Nat) (ecc : List Ecc) (r : Req) (s : State), q < 1024 → (s.at_ dt).dramChoice q openIds = some r →
    s.rd R.MEM_STACK_TEMP_BAND (qStack q / 4) [qStack q % 4] ≠ 4 → s.homeUp q = true →
    exec (.dramCommandIssue q dt openIds ecc) s = .next (((s.at_ dt).dramServe r ecc).withQueue s.pending)) ∧
  (∀ (q : Nat) (openIds : List Nat) (r : Req) (s : State), s.dramChoice q openIds = some r →
    r ∈ s.dramWaiting q ∧ ∀ x ∈ s.dramWaiting q, lexLt (s.dramKey x openIds) (s.dramKey r openIds) = false) ∧
  (∀ (q : Nat) (openIds : List Nat) (s : State), s.dramWaiting q ≠ [] → s.dramChoice q openIds ≠ none)

/-- FLUSH writes every dirty sector of a die back: no line of it is dirty after, no line leaves, and what memory reads as is as before (R263); clearing ENABLE
outside SERVICE does the same and turns the cache off (R275). -/
def Obligations.StackCacheControlsComplete : Prop :=
  (∀ (d : Nat) (s : State), d < 4 →
    exec (.stcFlush d) s = .next (((s.flushStc d).wr R.STC_STATUS_FLUSH_BUSY d [] 1).withQueue s.pending) ∧
    (∀ l ∈ (s.flushStc d).stcLines, qDie l.q = d → l.dirty = 0) ∧
    (∀ l ∈ s.stcLines, ∃ m ∈ (s.flushStc d).stcLines, m.q = l.q ∧ m.gran = l.gran) ∧
    (s.flushStc d).dram = s.dram) ∧
  (∀ (d : Nat) (s : State), d < 4 → ∃ u, exec (.stcFlushDone d) s = .next u ∧ u.rdB R.STC_STATUS_FLUSH_BUSY d = false) ∧
  (∀ (d : Nat) (s : State), d < 4 → s.rdB R.STC_CTRL_ENABLE d = true → s.rd R.MEM_STATUS_STATE d ≠ 2 →
    ∃ u, exec (.stcDisable d) s = .next u ∧ u.rdB R.STC_CTRL_ENABLE d = false ∧ u.stcLines = (s.flushStc d).stcLines)

/-- The two codes of a sector (R267): the second code decides what is lost, the first corrects, and only a sector free of both is clean; the patrol scrub
deals with what it reads and reports an uncorrectable sector (R268 to R270). Of the model, not the spec: where errors are found is log entry 49. -/
def Obligations.ErrorCorrectionCompletes : Prop :=
  (∀ e : Ecc, (eccResult e = .uncorrectable ↔ 2 ≤ e.secDed) ∧ (eccResult e = .clean ↔ e.secDed = 0 ∧ e.onDie ≤ 1)) ∧
  (∀ (q loc : Nat) (e : Ecc) (s : State), eccResult e = .uncorrectable → SMap.look (s.eccRead q loc e).ue (qAddr q loc / 32) = some 1) ∧
  (∀ (q loc : Nat) (e : Ecc) (s : State), eccResult e = .clean → s.eccRead q loc e = s) ∧
  (∀ (q sector dt : Nat) (e : Ecc) (s : State), q < 1024 → sector < 768 * 2 ^ 15 → s.dieRuns (qDie q) = true → s.rd R.MEM_STATUS_STATE (qDie q) = 2 →
    s.rd R.MEM_CTRL_SCRUB_HOURS (qDie q) ≠ 0 → s.retired q = false → s.rd R.MEM_STACK_TEMP_BAND (qDie q) [qStack q % 4] ≠ 4 →
    (∀ r ∈ s.reqs, ¬(r.q = q ∧ r.stage = .port)) →
    (eccResult e = .clean → SMap.get 0 s.ue (qAddr q (32 * sector) / 32) ≠ 1 → exec (.patrolScrub q sector dt [e]) s = .next (s.at_ dt)) ∧
    (eccResult e = .corrected → SMap.get 0 s.ue (qAddr q (32 * sector) / 32) ≠ 1 →
      exec (.patrolScrub q sector dt [e]) s = .next (((s.at_ dt).corrected q (32 * sector) e.spareRow).withQueue s.pending)) ∧
    (∀ dpa, eccResult e = .uncorrectable → s.encode q (32 * sector) = some dpa →
      exec (.patrolScrub q sector dt [e]) s = .next ((((s.at_ dt).eccRead q (32 * sector) e).logUe q dpa true).withQueue s.pending)))

/-- A stack's temperature moves its band at once upwards, and downwards only past an edge by 2 °C (R266); a reading that leaves the band alone is shown, one
that changes it rescales the stack's cap. Channels retune (R272): spare lanes repair them; without spares a channel goes to half rate, or is retired if half
rate does not calibrate. Loop-back runs in TRAINING and TEST, and shows its errors when done (R273). Of the model, not the spec: what retirement clears is log
entry 67. -/
def Obligations.StackHealthCommandsComplete : Prop :=
  (
  (∀ t old : Nat, old ≤ 4 → bandOf t ≤ nextBand t old ∧ nextBand t old ≤ max old (bandOf t) ∧
    (nextBand t old < old → t + 2 ≤ bandEdge (nextBand t old + 1)) ∧ (bandEdge (old) < t + 2 → old ≤ nextBand t old)) ∧
  (∀ (st temp : Nat) (s : State), st < 16 → temp < 256 → s.dieRuns (st / 4) = true → s.rd R.MEM_STATUS_STATE (st / 4) ≠ 0 →
    s.rd R.MEM_STACK_TEMP_BAND (st / 4) [st % 4] ≤ 4 →
    (nextBand temp (s.rd R.MEM_STACK_TEMP_BAND (st / 4) [st % 4]) = s.rd R.MEM_STACK_TEMP_BAND (st / 4) [st % 4] →
      ∃ u, exec (.stackTempRead st temp) s = .next u ∧ u.rd R.MEM_STACK_TEMP_TEMP (st / 4) [st % 4] = temp ∧
        u.rd R.MEM_STACK_TEMP_BAND (st / 4) [st % 4] = s.rd R.MEM_STACK_TEMP_BAND (st / 4) [st % 4] ∧ u.errs = s.errs) ∧
    (nextBand temp (s.rd R.MEM_STACK_TEMP_BAND (st / 4) [st % 4]) ≠ s.rd R.MEM_STACK_TEMP_BAND (st / 4) [st % 4] →
      ∃ v : State, exec (.stackTempRead st temp) s = .next (((v.err (st / 4) (.plain 0 7 0 (scopeOf 1 (8 * st)) (v.tempReg st))).recap st).withQueue s.pending) ∧
        v.rd R.MEM_STACK_TEMP_TEMP (st / 4) [st % 4] = temp ∧
        v.rd R.MEM_STACK_TEMP_BAND (st / 4) [st % 4] = nextBand temp (s.rd R.MEM_STACK_TEMP_BAND (st / 4) [st % 4]) ∧
        v.rdB R.MEM_EVENT_THROTTLE (st / 4) = true))) ∧
  (
  (∀ (ch lanes : Nat) (half : Bool) (s : State), ch < 512 → s.dieRuns (ch / 128) = true → s.rd R.MEM_STATUS_STATE (ch / 128) = 2 →
    bit (s.rd R.MEM_PORT_STATUS_UP (ch / 128) [ch / 4 % 32]) (ch % 4) = true → bit (s.rd R.MEM_PORT_STATUS_HALF (ch / 128) [ch / 4 % 32]) (ch % 4) = false →
    0 < lanes → lanes ≤ s.rd R.MEM_STACK_SPARES_LANES (ch / 128) [ch / 32 % 4] →
    exec (.channelRecal ch lanes true half) s = .next (((s.wr R.MEM_STACK_SPARES_LANES (ch / 128) [ch / 32 % 4]
      (s.rd R.MEM_STACK_SPARES_LANES (ch / 128) [ch / 32 % 4] - lanes)).repaired (ch / 4) lanes).withQueue s.pending)) ∧
  (∀ (ch lanes : Nat) (s : State), ch < 512 → s.dieRuns (ch / 128) = true → s.rd R.MEM_STATUS_STATE (ch / 128) = 2 →
    bit (s.rd R.MEM_PORT_STATUS_UP (ch / 128) [ch / 4 % 32]) (ch % 4) = true → bit (s.rd R.MEM_PORT_STATUS_HALF (ch / 128) [ch / 4 % 32]) (ch % 4) = true →
    exec (.channelRecal ch lanes false false) s = .next ((s.retire ch).withQueue s.pending) ∧ exec (.channelRecal ch lanes false true) s = .next s) ∧
  (∀ (p v : Nat) (s : State), p < 128 → s.rd R.MEM_STATUS_STATE (p / 32) = 4 → v < 2 ^ 32 → bit v 31 = true → p ∉ s.loopbacks →
    ∃ u, exec (.loopbackStart p v) s = .next u ∧ u.loopbacks = s.loopbacks ++ [p]) ∧
  (∀ (p n : Nat) (s : State), p < 128 → p ∈ s.loopbacks →
    ∃ u, exec (.loopbackDone p n) s = .next u ∧ p ∉ u.loopbacks ∧ u.rdB R.MEM_PORT_LB_STATUS_DONE (p / 32) [p % 32] = true ∧
      u.rd R.MEM_PORT_LB_ERR (p / 32) [p % 32] = min (2 ^ 32 - 1) n))

/-- A slot frame refills every class counter to its EFF and forgets what the ports served (R284, R287), an EFF that has changed in the first frame that starts
at least 1 µs later (R292); READMIT asks for an admission at the next boundary (R288); a request leaves as guaranteed while its class counter is not 0, is
held behind a held one of its granule, in strict mode or where its memory port takes no best effort, and else leaves as best effort (R282, R284 to R287). Of
the model, not the spec: how a meaning waits for what it reads is log entry 119. -/
def Obligations.LeashCommandsComplete : Prop :=
  (∀ (dt : Nat) (s : State), exec (.slotFrameStart dt) s = .next ((s.at_ dt).frame.withQueue s.pending) ∧ s.frame.served = [] ∧ s.frame.frameAt = s.now) ∧
  (∀ (s : State) (d m c : Nat), d < 4 → m < 137 → c < 4 → SMap.get 0 s.effMap (leashKey d m c) = s.rd R.LSH_M_EFF_EFF d [m, c]) ∧
  (∀ s : State, s.effDue = [] → s.refill.leash = s.effUse ∧ s.refill.effUse = s.effUse) ∧
  (∀ (s : State) (t : Nat) (e : SMap Nat), s.effDue = [(t, e)] → (t + 1000 ≤ s.now → s.refill.leash = e ∧ s.refill.effUse = e ∧ s.refill.effDue = []) ∧
    (s.now < t + 1000 → s.refill.leash = s.effUse ∧ s.refill.effDue = s.effDue)) ∧
  (∀ s : State, exec .lshReadmit s = .next { s with wroteLeash := true }) ∧
  (∀ (s : State) (r : Req), s.invals = [] →
    (s.heldAt r.die r.mport (r.dpa / 256) = true → s.leash1 r = s.addReq { r with stage := .held, slot := false }) ∧
    (s.heldAt r.die r.mport (r.dpa / 256) = false → s.fabricOk r.die r.mport (s.reqLinks r) r.flits = true →
      (s.covers r.die r.mport r.cls r.q r.units = true → s.leash1 r =
        (s.goes r true).addReq { r with stage := .sent, guar := true, slot := s.slotted r.die r.mport (s.reqLinks r) r.flits }) ∧
      (s.covers r.die r.mport r.cls r.q r.units = false →
        (s.strictPort r.die r.mport = true ∨ s.beOpen (qPort r.q) = false → s.leash1 r = s.addReq { r with stage := .held, slot := false }) ∧
        (s.strictPort r.die r.mport = false → s.beOpen (qPort r.q) = true → s.leash1 r =
          (s.goes r false).addReq { r with stage := .sent, slot := s.slotted r.die r.mport (s.reqLinks r) r.flits })))) ∧
  (∀ (s : State) (r : Req), (∀ k, k ≠ leashKey r.die r.mport r.cls → SMap.get 0 (s.goes r true).leash k = SMap.get 0 s.leash k) ∧ (s.goes r false).leash = s.leash)

/-- A transfer's piece whose translation a TLB holds leaves (R284, R307), and the first piece of one whose translation has failed ends it (R316); one whose
page no TLB holds becomes a miss, of at most 32 that its stream has pending. Walkers serve misses in the streams' turn: the translation goes into both TLBs,
or the failure waits for its piece (R308). A memory request of a Pack's core is answered UE and counted (R492). Each has its effect once no answer of memory
it needs is missing (log entry 119). Of the model, not the spec: the sets of the die TLB are log entry 120. -/
def Obligations.TranslationCommandsComplete : Prop :=
  (∀ (xid k : Nat) (x : Xfer) (p : Piece) (w : WUnit) (e e' : TlbEntry) (dt : Nat) (s s1 s2 : State), s.xfers.find? (fun (x : Xfer) => x.id == xid) = some x →
    x.pieces[k]? = some p → s.xferUnit x = some w → x.faulted = false → s.pieceTurn x k = true → s.streamFull x.tile = false →
    s.tileOut x < (if x.narrow then 512 else 256) → s.halfOff w.part w.ctx p.va = none → s.missOf x.tile p.va = none → s.tileLook (x.tile / 16) w.part w.ctx p.va = some (e, s1) →
    (k = 0 ∨ x.write = false ∨ e.w = true) → s1.allow (cluDie (x.tile / 16)) e x.write w.id = (.hit e', s2) →
    (s2.issuePiece x w k p e' dt).ask = [] → exec (.leashRequest (.piece xid k) dt) s = .next ((s2.issuePiece x w k p e' dt).withQueue s.pending)) ∧
  (∀ (xid dt : Nat) (x : Xfer) (p : Piece) (w : WUnit) (m : Miss) (r : XRes) (s : State), s.xfers.find? (fun (x : Xfer) => x.id == xid) = some x →
    x.pieces[0]? = some p → s.xferUnit x = some w → x.faulted = false → s.streamFull x.tile = false → s.tileOut x < (if x.narrow then 512 else 256) →
    s.halfOff w.part w.ctx p.va = none → s.missOf x.tile p.va = some m → m.res = some r →
    (({ s with misses := s.misses.erase m }).xferEnd x p.va p.trOff (r.atVa m.va)).ask = [] →
    exec (.leashRequest (.piece xid 0) dt) s = .next ((({ s with misses := s.misses.erase m }).xferEnd x p.va p.trOff (r.atVa m.va)).withQueue s.pending)) ∧
  (∀ (die core dt : Nat) (s : State), die < 4 → core < 2 → ∃ u, exec (.leashRequest (.pack die core) dt) s = .next u ∧ u.out = s.out ++ [.pack die core 1] ∧
    u.reqs = s.reqs ∧ u.rd R.SEC_PACK_DENIED 0 = min (2 ^ R.SEC_PACK_DENIED.width - 1) (s.rd R.SEC_PACK_DENIED 0 + 1)) ∧
  (∀ (xid k : Nat) (x : Xfer) (p : Piece) (w : WUnit) (s : State), s.xfers.find? (fun (x : Xfer) => x.id == xid) = some x →
    x.pieces[k]? = some p → s.xferUnit x = some w → x.faulted = false → s.pieceTurn x k = true → s.halfOff w.part w.ctx p.va = none →
    s.missOf x.tile p.va = none → s.tileLook (x.tile / 16) w.part w.ctx p.va = none → s.streamFull x.tile = false →
    exec (.tlbMiss xid k) s = .next (((s.bump R.XLT_DTLB_MISSES (cluDie (x.tile / 16)) [] 1).addMiss ⟨0, x.tile, cluDie (x.tile / 16), x.tile / 16, x.id, w.part,
      w.ctx, s.epoch w.part w.ctx, p.va, x.write, p.trOff, if isHost p.va then (if s.heel then .failed 7 else .queued) else .device, w.id, false⟩).withQueue s.pending)) ∧
  (∀ (id : Nat) (m : Miss) (s : State), s.misses.find? (fun (m : Miss) => m.id == id) = some m → m.stage = .walking → (s.walkMiss m).ask = [] →
    ((s.walkMiss m).parked.any (fun (w : Parked) => w.stream == m.stream) = false → exec (.pageWalk id) s = .next ((s.walkMiss m).withQueue s.pending)) ∧
    ((s.walkMiss m).parked.any (fun (w : Parked) => w.stream == m.stream) = true → (s.walkMiss m).unpark.ask = [] →
      exec (.pageWalk id) s = .next ((s.walkMiss m).unpark.withQueue s.pending))) ∧
  (∀ (id : Nat) (m : Miss) (s : State), s.misses.find? (fun (m : Miss) => m.id == id) = some m → m.stage = .device → s.mayWalk m.die m.stream = true →
    s.walkNext m.die = m.stream → exec (.pageWalk id) s = exec (.pageWalk id) (s.takeWalker m) ∧
      (s.takeWalker m).misses.find? (fun (m : Miss) => m.id == id) = some { m with stage := .walking }) ∧
  (∀ (m : Miss) (e : TlbEntry) (s s1 : State), m.cluster < 512 → s.walk m.die m.part m.ctx m.va m.uid m.id = (.hit e, s1) →
    s.walkMiss m = { (s1.tlbFill m.die e).tlbFill (4 + m.cluster) e with misses := s1.misses.erase m }) ∧
  (∀ (m : Miss) (k : Nat) (s s1 : State), s.walk m.die m.part m.ctx m.va m.uid m.id = (.fault k, s1) → s.walkMiss m = s1.setMiss m (.failed k))

/-- The host's side of translation (R309, R310, R312): a completion that allows the access fills the TLBs, another asks for the page, one that comes after a
page request or not in time is a failure, and one that an ATS invalidation in progress meets is asked for again; a good PRG response asks again, a late one is
only counted. An invalidate request starts an invalidation in each context of its PASID, and with none of them is answered at once. An invalidation (R311,
R312): it raises the epoch, drops the translations of its range at once and counts as a drain; it completes when nothing of an older epoch is left and every
bay has answered, and the first boundary cuts off what still drains. Of the model, not the spec: answers of ATS are log entry 68. -/
def Obligations.AddressServiceCommandsComplete : Prop :=
  (
  (∀ (id size pa : Nat) (w : Bool) (m : Miss) (s : State), s.misses.find? (fun (m : Miss) => m.id == id && (m.stage == .ats || m.stage == .again)) = some m →
    (s.atsCovers m size = false → (w = true ∨ m.write = false) → exec (.atsTranslationCompletion id false true true w size pa) s =
      .next (({ s.atsFill m w size pa with misses := s.misses.erase m }.pumpAts.unpark).withQueue s.pending)) ∧
    (∀ ok r, exec (.atsTranslationCompletion id true ok r w size pa) s = .next ((s.atsFail m 7).withQueue s.pending)) ∧
    (∀ ok r, s.atsCovers m size = true → m.orphan = false → exec (.atsTranslationCompletion id false ok r w size pa) s =
      .next (((s.setMiss m (if m.stage = .again then .againQueued else .queued)).pumpAts).withQueue s.pending)) ∧
    (s.atsCovers m size = false → m.orphan = false → m.stage = .ats → ∀ ok r, (ok = false ∨ r = false ∨ (w = false ∧ m.write = true)) →
      exec (.atsTranslationCompletion id false ok r w size pa) s = .next ((
        let u := (s.setMiss m .prg).bump R.XLT_PRI_REQS 0 [] 1
        (u.send (.hostMsg 1 m.id (u.hostName m.part m.ctx (m.va % 2 ^ 47 + (if m.write then 2 ^ 47 else 0))))).pumpAts).withQueue s.pending)) ∧
    (s.atsCovers m size = false → m.stage = .again → ∀ ok r, (ok = false ∨ r = false ∨ (w = false ∧ m.write = true)) →
      exec (.atsTranslationCompletion id false ok r w size pa) s = .next ((s.atsFail m 6).withQueue s.pending))) ∧
  (∀ (id : Nat) (m : Miss) (s : State), s.misses.find? (fun (m : Miss) => m.id == id && m.stage == .prg) = some m → m.orphan = false →
    exec (.prgResponse id true) s = .next (((s.setMiss m .againQueued).pumpAts).withQueue s.pending) ∧
    exec (.prgResponse id false) s = .next ((s.atsFail m 6).withQueue s.pending)) ∧
  (∀ (id : Nat) (ok : Bool) (s : State), s.misses.find? (fun (m : Miss) => m.id == id && m.stage == .prg) = none →
    exec (.prgResponse id ok) s = .next (s.bump R.XLT_PRI_LATE 0 [] 1)) ∧
  (∀ (fn tag pasid va size : Nat) (s : State), fn < 65 →
    (∀ p < 64, s.fnOf p = fn → ∀ c < 16, s.rd R.XLT_CTX_CFG_PASID 0 [p, c] ≠ pasid) →
    ∃ u, exec (.atsInvalidateRequest fn tag pasid va size) s = .next u ∧ u.out = s.out ++ [.hostMsg 3 tag 0] ∧ u.invals = s.invals) ∧
  (∀ (fn tag pasid va size p c : Nat) (s : State), fn < 65 → p < 64 → c < 16 →
    (∀ q < 64, ∀ k < 16, (s.fnOf q = fn ∧ s.rd R.XLT_CTX_CFG_PASID 0 [q, k] = pasid) ↔ (q = p ∧ k = c)) →
    exec (.atsInvalidateRequest fn tag pasid va size) s =
      .next (((s.bump R.XLT_ATS_INV 0 [] 1).invalidate p c (2 ^ 47 + va % 2 ^ 47) size (.ats tag)).withQueue s.pending))) ∧
  (
  (∀ (id : Nat) (v : Inval) (s : State), s.invals.find? (fun v => v.id == id) = some v → s.invalDone v = true →
    exec (.invalidationComplete id) s = .next ((s.finishInval v).withQueue s.pending)) ∧
  (∀ (id : Nat) (v : Inval) (s : State), s.invals.find? (fun v => v.id == id) = some v → s.invalDone v = false →
    exec (.invalidationComplete id) s = .next s) ∧
  (∀ (id : Nat) (v : Inval) (s : State), s.invals.find? (fun v => v.id == id) = some v → v.started = true → v.boundary = true →
    exec (.drainCut id) s = .next ((s.cutInval v).withQueue s.pending)) ∧
  (∀ (v : Inval) (s : State), v.part < 64 → v.ctx < 16 → s.rd R.XLT_CTX_EPOCH_DRAINS 0 [v.part, v.ctx] < 8 →
    (∀ q ∈ s.reqs, q.part = v.part → q.ctx = v.ctx → q.stage = .held → q.die < 4 ∧ q.mport < 137 ∧ q.cls < 4) →
    (s.startInval v).epoch v.part v.ctx = (s.epoch v.part v.ctx + 1) % 16 ∧
    (s.startInval v).rd R.XLT_CTX_EPOCH_DRAINS 0 [v.part, v.ctx] = s.rd R.XLT_CTX_EPOCH_DRAINS 0 [v.part, v.ctx] + 1 ∧
    (∀ x ∈ (s.startInval v).tlbs, x ∈ s.tlbs ∧ ¬(x.2.part = v.part ∧ x.2.ctx = v.ctx ∧ overlaps x.2.va x.2.size v.va v.size = true)) ∧
    (∀ x ∈ s.tlbs, ¬(x.2.part = v.part ∧ x.2.ctx = v.ctx ∧ overlaps x.2.va x.2.size v.va v.size = true) → x ∈ (s.startInval v).tlbs) ∧
    (s.startInval v).dram = s.dram))

/-- The causes of R350 wait for their island to act; the island acts on the oldest (R351, R352), REINIT brings a DOWN island to REINIT and the end of it to UP
(R353), and a credit flit returns its credits (R64). Of the model, not the spec: events that take an island down are log entry 73. -/
def Obligations.IslandCommandsComplete : Prop :=
  (∀ (tag q loc : Nat) (n : Snoop) (s : State), s.snoops.find? (fun (n : Snoop) => n.tag == tag) = some n → s.decode (n.line * 64) = some (q, loc) →
    ∃ u, exec (.snoopTimeout tag) s = .next u ∧ u.downs = s.downs ++ [⟨s.island (qDie q), 1, bayNode n.bay, n.line, qDie q⟩] ∧
      u.snoops = s.snoops.map (fun (x : Snoop) => if x.tag = tag then { x with answer := some 5 } else x)) ∧
  (∀ (d : Nat) (lost : List Nat) (s : State), d < 4 →
    ∃ u, exec (.flitParityError d lost) s = .next u ∧ u.downs = s.downs ++ [⟨s.island d, 3, dieNode d, 0, d⟩] ∧ u.rdB R.FLL_EVENT_PARITY d = true ∧
      (∀ rid ∈ lost, ∀ r, s.req? rid = some r → r.stage = .sent → ∃ r', u.req? rid = some r' ∧ r'.stage = .answered ∧ r'.status = 2)) ∧
  (∀ (d node line : Nat) (s : State), d < 4 → ∃ u, exec (.flialUndefinedOpcode d node line) s = .next u ∧ u.downs = s.downs ++ [⟨s.island d, 2, node, line, d⟩]) ∧
  (∀ (i : Nat) (s : State), i < 4 → s.islDies i ≠ [] → ∃ u, exec (.cohForceDown i) s = .next u ∧ u.downs = s.downs ++ [⟨i, 8, 0, 0, s.recDie i⟩]) ∧
  (∀ (i : Nat) (x : Down) (s : State), i < 4 → s.downs.find? (fun (x : Down) => x.island == i) = some x →
    (s.rd R.COH_ISL_STATE_STATE 0 [i] ≠ 1 → exec (.islandDownNotice i) s = .next ((State.islandDown { s with downs := s.downs.erase x } x).withQueue s.pending)) ∧
    (s.rd R.COH_ISL_STATE_STATE 0 [i] = 1 → exec (.islandDownNotice i) s = .next ((State.downRecord { s with downs := s.downs.erase x } x).withQueue s.pending))) ∧
  (∀ (i : Nat) (s : State), i < 4 → s.rd R.COH_ISL_STATE_STATE 0 [i] = 1 →
    ∃ u, exec (.cohReinit i) s = .next u ∧ u.rd R.COH_ISL_STATE_STATE 0 [i] = 2 ∧
      (∀ d < 4, s.island d = i → s.dieRuns d = true → s.population.getD (2 * d) 0xFF ≠ 0xFF → u.bayRd R.BAY_STATUS_STATE (2 * d) = 1)) ∧
  (∀ (i : Nat) (chans clus ports mods bays engines : List Nat) (s : State), i < 4 → s.rd R.COH_ISL_STATE_STATE 0 [i] = 2 →
    (s.rd R.PCI_STATUS_DSTATE 0 = 0 → ∀ d < 4, s.island d = i → s.rd R.MEM_STATUS_STATE d = 1 → s.nextWave d = none) →
    (∀ d < 4, s.island d = i → SMap.get 0 s.dies d = 0 ∧ s.bayRd R.BAY_STATUS_STATE (2 * d) ≠ 1 ∧ s.bayRd R.BAY_STATUS_STATE (2 * d + 1) ≠ 1) →
    (∀ x ∈ s.downs, x.island ≠ i) → (∀ p ∈ s.partsOf i, s.rdB R.PAR_STATUS_RESET_BUSY 0 [p] = false ∧ ∀ u ∈ s.units, u.part ≠ p) →
    ∃ u, exec (.islandReinitDone i chans clus ports mods bays engines) s = .next u ∧ u.rd R.COH_ISL_STATE_STATE 0 [i] = 0 ∧
      (∀ p ∈ s.partsOf i, u.rdB R.PAR_STATUS_RESET_BUSY 0 [p] = true)) ∧
  (∀ (t ch : Nat) (f : CreditFlit) (s : State), t < 8192 → ch < 8 → s.creditFlits.find? (fun f => f.tile == t && f.ch == ch) = some f →
    s.staleFlit f.src t f.part f.gen = false → s.live t f.uid = true → ((s.tile t).outCh ch).credits + f.n ≤ ((s.tile t).outCh ch).start →
    ∃ u, exec (.credit t ch) s = .next u ∧ u.creditFlits = s.creditFlits.erase f ∧ ((u.tile t).outCh ch).credits = ((s.tile t).outCh ch).credits + f.n)

/-- A bay is admitted with its protocol, rate and generation and its queues run, or refused into Heel with a reason (R367 to R370); in service its lanes are
repaired or its groups disabled (R361), its power and heat bring it to evacuate (R383, R384), and it goes to Heel and is admitted again, but not while its
island is DOWN (R32, R385, R386). Of the model, not the spec: refusals are log entry 32. -/
def Obligations.BayCommandsComplete : Prop :=
  (∀ (b proto : Nat) (rate2 uncert mm answers : Bool) (record cert : List Byte) (f4t f4r f2t f2r rt rr : List Nat) (s : State), b < 8 →
    s.bayRd R.BAY_STATUS_STATE b = 1 → s.population.getD b 0xFF ≠ 0xFF → s.islDown (s.island (b / 2)) = false →
    s.admit368 b answers record cert f4t f4r f2t f2r = .ok proto rate2 uncert mm →
    exec (.bayAdmission b answers record cert f4t f4r f2t f2r rt rr) s = .next ((s.admitBay b answers record cert f4t f4r f2t f2r rt rr).withQueue s.pending) ∧
    answers = true ∧ (proto = 1 ∨ proto = 2) ∧ (s.admitBay b answers record cert f4t f4r f2t f2r rt rr).bayRd R.BAY_STATUS_STATE b = 2 ∧
    (s.admitBay b answers record cert f4t f4r f2t f2r rt rr).bayRd R.BAY_STATUS_PROTO b = proto) ∧
  (∀ (b k : Nat) (answers : Bool) (record cert : List Byte) (f4t f4r f2t f2r rt rr : List Nat) (s : State), b < 8 →
    s.bayRd R.BAY_STATUS_STATE b = 1 → s.population.getD b 0xFF ≠ 0xFF → s.islDown (s.island (b / 2)) = false →
    s.admit368 b answers record cert f4t f4r f2t f2r = .refuse k → s.bayQueues b = [] →
    exec (.bayAdmission b answers record cert f4t f4r f2t f2r rt rr) s = .next (((State.bayErr ((s.setBay b { BayInfo.idle with ctl := 4 }).wrs (b / 2) [b % 2]
      [(R.BAY_STATUS_STATE, 4), (R.BAY_STATUS_HEEL_CAUSE, 1), (R.BAY_STATUS_REFUSE, k), (R.BAY_STATUS_PROTO, 0), (R.BAY_EVENT_REFUSED, 1), (R.BAY_EVENT_HEEL, 1)])
      b 1 0).bayRail b false).withQueue s.pending)) ∧
  (∀ (b : Nat) (answers : Bool) (record cert : List Byte) (f4t f4r f2t f2r rt rr : List Nat) (s : State), b < 8 → s.islDown (s.island (b / 2)) = true →
    exec (.bayAdmission b answers record cert f4t f4r f2t f2r rt rr) s = .next s) ∧
  (∀ (b g lanes : Nat) (s : State), b < 8 → g < 128 → s.bayRd R.BAY_STATUS_STATE b = 2 → g ∉ (s.bayInfo b).deadTx → 0 < lanes →
    SMap.get 0 (s.bayInfo b).usedTx g + lanes ≤ 2 →
    ∃ v : State, exec (.bayParityPoll b true g lanes false) s = .next ((v.bayErr b 3 0).withQueue s.pending) ∧
      SMap.get 0 (v.bayInfo b).usedTx g = SMap.get 0 (s.bayInfo b).usedTx g + lanes ∧ (v.bayInfo b).deadTx = (s.bayInfo b).deadTx ∧
      v.bayRd R.BAY_EVENT_REPAIR b = 1) ∧
  (∀ (b g : Nat) (s : State), b < 8 → g < 128 → s.bayRd R.BAY_STATUS_STATE b = 2 → g ∉ (s.bayInfo b).deadRx →
    ∃ v : State, exec (.bayParityPoll b false g 0 true) s = .next ((if bayGroups (s.bayInfo b).half (s.bayInfo b).deadTx < 64 ∨
        bayGroups (s.bayInfo b).half ((s.bayInfo b).deadRx ++ [g]) < 64 then v.evacuate b 2 else v).withQueue s.pending) ∧
      v = (((s.setBay b { s.bayInfo b with deadRx := (s.bayInfo b).deadRx ++ [g] }).bayLanes b).bayWr R.BAY_EVENT_DEGRADE b 1).bayErr b 4 0) ∧
  (∀ (b : Nat) (s : State), b < 8 → s.bayLive b = true → exec (.bayLinkLost b) s = .next ((s.heelBay b 3 false).withQueue s.pending)) ∧
  (∀ (b temp rail rail10 : Nat) (s : State), b < 8 → s.bayRd R.BAY_STATUS_STATE b = 2 → temp < 95 → rail < 2 ^ 16 → (s.bayInfo b).cool = false →
    rail10 ≤ min (classLimit (s.bayInfo b).cls) (s.bayRd R.BAY_PLIMIT b) →
    ∃ u, exec (.bayPowerPoll b temp rail rail10) s = .next u ∧ u.bayRd R.BAY_TEMP_TEMP b = temp ∧ u.bayRd R.BAY_TEMP_POWER b = rail ∧
      (u.bayInfo b).overMs = 0 ∧ (u.bayInfo b).hotMs = 0 ∧ u.out = s.out ∧ u.bayRd R.BAY_STATUS_STATE b = 2) ∧
  (∀ (b : Nat) (s : State), b < 8 → s.bayRd R.BAY_STATUS_STATE b = 3 → (∀ e ∈ s.dirs, b ∉ e.2.bays) →
    exec (.bayEvacDone b) s = .next ((s.heelBay b (s.bayInfo b).cause ((s.bayInfo b).cause == 5 || (s.bayInfo b).cause == 6)).withQueue s.pending)) ∧
  (∀ (b : Nat) (s : State), b < 8 → s.bayRd R.BAY_STATUS_STATE b = 3 →
    exec (.bayEvacTimeout b) s = .next ((s.heelBay b (s.bayInfo b).cause ((s.bayInfo b).cause == 5 || (s.bayInfo b).cause == 6)).withQueue s.pending)) ∧
  (∀ (b : Nat) (s : State), b < 8 → s.bayRd R.BAY_STATUS_STATE b = 2 → exec (.bayForceHeel b) s = .next ((s.evacuate b 7).withQueue s.pending)) ∧
  (∀ (b : Nat) (s : State), b < 8 → s.bayRd R.BAY_STATUS_STATE b = 4 → s.bayRd R.BAY_STATUS_HEEL_CAUSE b ≠ 8 → s.islDown (s.island (b / 2)) = false →
    ∃ u, exec (.bayReadmit b) s = .next u ∧ u.bayRd R.BAY_STATUS_STATE b = 1 ∧ u.bayRd R.BAY_STATUS_HEEL_CAUSE b = 0) ∧
  (∀ (b : Nat) (s : State), b < 8 → s.bayRd R.BAY_STATUS_STATE b = 4 → (s.bayRd R.BAY_STATUS_HEEL_CAUSE b = 8 ∨ s.islDown (s.island (b / 2)) = true) →
    exec (.bayReadmit b) s = .next s)

/-- The work port and the bay queues (R374 to R381, R390, R391): BW_END ends its unit with the bay's record, BW_XLATE and its CXL form are answered with the
translation once no answer of memory the walk needs is missing (log entry 119), an invalidation no longer waits for a bay that has answered, an abort that is
not answered sends the bay to Heel; the queues stop, reset and start like rings. Of the model, not the spec: answers to BW_XLATE are log entry 72. -/
def Obligations.WorkPortCommandsComplete : Prop :=
  (∀ (b uid gen st d0 d1 dt : Nat) (w : WUnit) (s : State), b < 8 → (st = 0 ∨ st = 2 ∨ st = 4) → s.unit? uid = some w → w.kind = .bay →
    s.rd R.BAY_Q_BIND_BAY 0 [w.part, w.ring - 64] = b → w.done = false → s.bayLive b = true → s.stale w.part gen = false →
    exec (.bwEnd b uid gen st d0 d1 dt) s = .next ((((s.at_ dt).finishUnit
      { w with ending := (w.ending.orElse (fun _ => if st = 0 then none else some ⟨st, d0 % 2 ^ 64, d1 % 2 ^ 32⟩)), done := true }).cfgAnswer true 0 b (s.bwId w.part w.ring w.count) gen).withQueue s.pending)) ∧
  (∀ (b wq p c va gen : Nat) (write : Bool) (e : TlbEntry) (s s1 : State), b < 8 → wq < 64 → p < 64 → c < 16 → va < 2 ^ 48 → va % 4096 = 0 → s.bayLive b = true →
    s.bayRd R.BAY_STATUS_PROTO b = 2 → (s.bayQueues b).any (fun x => x.1 == p && s.rCtx x.1 x.2 == c) = true → s.stale p gen = false →
    s.xlate ⟨b / 2, p, c, 8704 + 64 * b + wq, false, 0, 0⟩ va write = (.hit e, s1) → s1.ask = [] →
    exec (.bwXlate b wq p c va write gen) s = .next ((s1.bayAnswer b 0 (masterNode (b / 2) 135) (wq * 64) false 0 gen 1
      (leBytes 8 (xlateWord e va) ++ leBytes 2 (s1.epoch p c))).withQueue s.pending)) ∧
  (∀ (b wq p c va gen : Nat) (write : Bool) (e : TlbEntry) (s s1 : State), b < 8 → wq < 64 → p < 64 → c < 16 → va < 2 ^ 48 → va % 4096 = 0 → s.bayLive b = true →
    s.bayRd R.BAY_STATUS_PROTO b = 1 → (s.bayQueues b).any (fun x => x.1 == p && s.rCtx x.1 x.2 == c) = true →
    s.xlate ⟨b / 2, p, c, 8704 + 64 * b + wq, false, 0, 0⟩ va write = (.hit e, s1) → s1.ask = [] →
    exec (.bwXlate b wq p c va write gen) s =
      .next ((s1.send (.bayAts b 0 (s1.rd R.XLT_CTX_CFG_PASID 0 [p, c]) va (xlateWord e va))).withQueue s.pending)) ∧
  (∀ (b p c e gen : Nat) (s : State), b < 8 → p < 64 → c < 16 → s.bayLive b = true → (s.bayRd R.BAY_STATUS_PROTO b = 1 ∨ s.stale p gen = false) →
    ∃ u, exec (.bwInvalDone b p c e gen) s = .next u ∧ u.invals = s.invals.map (fun (v : Inval) =>
      if v.part == p && v.ctx == c && v.epoch == e % 16 then { v with bays := v.bays.filter (· != b) } else v) ∧
      u.cfgs = s.cfgs ++ [⟨s.nextId, true, 0, b, 0, gen⟩]) ∧
  (∀ (uid dt b : Nat) (w : WUnit) (e : Ending) (s : State), s.unit? uid = some w → w.kind = .bay → w.ending = some e → w.stopped = true → w.done = false →
    s.rd R.BAY_Q_BIND_BAY 0 [w.part, w.ring - 64] = b →
    exec (.bayAbortTimeout uid dt) s = .next ((let v := ((s.at_ dt).finishUnit { w with done := true }).bayWr R.BAY_EVENT_ABORT_TIMEOUT b 1
      if v.bayLive b then v.heelBay b 4 false else v).withQueue s.pending)) ∧
  (∀ (p k : Nat) (s : State), p < 64 → k < 16 → s.rState p (64 + k) = 1 →
    exec (.bayQStop p k) s = .next ((((s.setRing p (64 + k) 2 1).endDescs p (64 + k) 5 6 true).drained p (64 + k)).withQueue s.pending)) ∧
  (∀ (p k : Nat) (s : State), p < 64 → k < 16 → (s.rState p (64 + k) = 3 ∨ s.rState p (64 + k) = 4 ∨ s.rState p (64 + k) = 5) → s.rFlight p (64 + k) = 0 →
    ∃ u, exec (.bayQReset p k) s = .next u ∧ u.rState p (64 + k) = 0 ∧ u.rHead p (64 + k) = 0 ∧ u.rDone p (64 + k) = 0) ∧
  (∀ (p k v : Nat) (s : State), p < 64 → k < 16 → v < 2 ^ 32 → bit v 31 = true → s.rState p (64 + k) = 0 → s.rd R.PAR_CTX_CFG_STATE 0 [p, bits v 24 4] = 1 →
    s.rd R.BAY_WQ_OWNER (s.rd R.BAY_Q_BIND_BAY 0 [p, k] / 2) [s.rd R.BAY_Q_BIND_BAY 0 [p, k] % 2, s.rd R.BAY_Q_BIND_WQ 0 [p, k]] = p →
    s.rd R.BAY_Q_LIMIT_FETCH_MAX 0 [p, k] ≤ (s.bayInfo (s.rd R.BAY_Q_BIND_BAY 0 [p, k])).depth →
    ∃ u, exec (.bayQEnable p k v) s = .next u ∧ u.rState p (64 + k) = (if s.bayRd R.BAY_STATUS_STATE (s.rd R.BAY_Q_BIND_BAY 0 [p, k]) = 4 then 5 else 1)) ∧
  (∀ (id : Nat) (x : CfgAns) (s : State), s.cfgs.find? (fun (x : CfgAns) => x.id == id && x.ack == false) = some x → x.bay = 8 →
    ∃ u, exec (.cfgData id) s = .next u ∧ u.out = s.out ++ [.reg x.value] ∧ u.cfgs = s.cfgs.erase x) ∧
  (∀ (id : Nat) (x : CfgAns) (s : State), s.cfgs.find? (fun (x : CfgAns) => x.id == id && x.ack == true) = some x → s.bayLive x.bay = true → x.bay ≠ 8 →
    ∃ u, exec (.cfgAck id) s = .next u ∧ u.out = s.out ++ [.bayAns x.bay (rspWord 0x12 (bayNode x.bay) (masterNode (x.bay / 2) 135) x.tag false 0 x.gen x.value) []] ∧ u.cfgs = s.cfgs.erase x)

/-- The ring links (R392 to R404): the other end sends its oldest beat again while it replays, else a new one while fewer than 256 are not acknowledged; a
beat whose CRC is wrong counts and is answered with NAK, what follows is discarded up to a replay, and a good one is acknowledged and its flits delivered.
Lanes are repaired or a module degrades, a sender restripes, an edge is lost or trained, and management frames of the current generation are taken. Of the
model, not the spec: beats and training are log entries 74 and 75. -/
def Obligations.RingLinkCommandsComplete : Prop :=
  (∀ (d k m dt : Nat) (payload noise wire : List Byte) (s s1 : State), d < 4 → k < 2 → m < 16 → s.linkUp d k = true → s.rxMod d k m ≠ 0 →
    (s.at_ dt).ringSend (linkPeer d k).1 (linkPeer d k).2 m payload = some (s1, wire) →
    (beatCrc (withNoise wire noise) ≠ leNat ((withNoise wire noise).take 4) % 2 ^ 16 →
      exec (.ringBeat d k m payload noise dt) s = .next (((s1.bump R.DDL_CRC_ERR d [k] 1).setRingMod d k m
        { s1.ringMod d k m with skip := true, nak := true, crcAt := (s1.now :: (s1.ringMod d k m).crcAt).take 65 }).withQueue s.pending)) ∧
    (∀ items rest, beatCrc (withNoise wire noise) = leNat ((withNoise wire noise).take 4) % 2 ^ 16 →
      ringItems 300 ((s1.ringMod d k m).part ++ (withNoise wire noise).drop 4) = some (items, rest) →
      ((s1.ringMod d k m).skip = true → bit (leNat ((withNoise wire noise).take 4)) 30 = false →
        exec (.ringBeat d k m payload noise dt) s = .next (s1.withQueue s.pending)) ∧
      ((s1.ringMod d k m).skip = false → (s1.ringMod d k m).marked = false → bit (leNat ((withNoise wire noise).take 4)) 29 = false →
        ∃ u, exec (.ringBeat d k m payload noise dt) s = .next u ∧
          u.out = s1.out ++ (items.filter itemFlit).map (fun i => .beat d k m (i.headD 0).toNat ((i.drop 1).map (·.toNat))) ∧
          (u.ringMod d k m).good = ((s1.ringMod d k m).good + 1) % 4096 ∧ (u.ringMod d k m).part = rest ∧ (u.ringMod d k m).skip = false))) ∧
  (∀ (d k m dt : Nat) (payload noise : List Byte) (s : State), d < 4 → k < 2 → m < 16 →
    (s.at_ dt).ringSend (linkPeer d k).1 (linkPeer d k).2 m payload = none → exec (.ringBeat d k m payload noise dt) s = .next (s.at_ dt)) ∧
  (∀ (d k m : Nat) (payload : List Byte) (s : State),
    (0 < (s.ringMod d k m).resend → s.ringSend d k m payload = some ((s.bump R.DDL_REPLAYS d [k] 1).setRingMod d k m
      ((s.ringMod d k m).sent ((s.ringMod d k m).next payload)),
      beatWire ((s.ringMod d k m).next payload).1 (s.ringMod d k m).good
        ((s.ringMod d k m).unacked.getD ((s.ringMod d k m).unacked.length - (s.ringMod d k m).resend) (0, [])).2)) ∧
    ((s.ringMod d k m).resend = 0 → 256 ≤ (s.ringMod d k m).unacked.length → s.ringSend d k m payload = none)) ∧
  (∀ (x : RingMod) (ack : Nat), 0 < (ack + 4096 - x.acked) % 4096 → (ack + 4096 - x.acked) % 4096 ≤ x.unacked.length →
    (x.acks ack false).unacked = x.unacked.drop ((ack + 4096 - x.acked) % 4096) ∧ (x.acks ack false).acked = ack ∧ (x.acks ack false).replayed = 0 ∧
    ((ack + 4096 - x.acked) % 4096 < x.unacked.length → (x.acks ack true).resend = x.unacked.length - (ack + 4096 - x.acked) % 4096 ∧ (x.acks ack true).first = true)) ∧
  (∀ (d k m : Nat) (failing : List Nat) (s s1 s2 : State), d < 4 → k < 2 → m < 16 → s.linkUp d k = true → s.txMod d k m ≠ 0 → s.mustRetrain d k m = true →
    s1 = s.setRingMod (linkPeer d k).1 (linkPeer d k).2 m { s.ringMod (linkPeer d k).1 (linkPeer d k).2 m with crcAt := [] } →
    s2 = s1.setRingMod d k m { s1.ringMod d k m with replayed := 0 } →
    ((failing.filter (· < 64)).dedup = [] → exec (.ringModuleRetrain d k m failing) s = .next (s2.withQueue s.pending)) ∧
    ((failing.filter (· < 64)).dedup ≠ [] → (s.ringMod d k m).repaired + ((failing.filter (· < 64)).dedup).length ≤ 4 →
      ∃ v : State, exec (.ringModuleRetrain d k m failing) s = .next ((v.linkErr d k 1 0).withQueue s.pending) ∧
        (v.ringMod d k m).repaired = (s.ringMod d k m).repaired + ((failing.filter (· < 64)).dedup).length ∧ v.rdB R.DDL_EVENT_REPAIR d [k] = true) ∧
    (4 < (s.ringMod d k m).repaired + ((failing.filter (· < 64)).dedup).length → (failing.filter (· < 64)).dedup ≠ [] →
      exec (.ringModuleRetrain d k m failing) s = .next ((((((s2.setMod d k m (if ((failing.filter (· < 64)).dedup).all (fun l => decide (32 ≤ l)) ||
        ((failing.filter (· < 64)).dedup).all (fun l => decide (l < 32)) then 1 else 0)).wr R.DDL_EVENT_DEGRADE d [k] 1).linkErr d k 2 0).ringMarks
        (linkPeer d k).1 (linkPeer d k).2).linkEmpty d k).withQueue s.pending))) ∧
  (∀ (d k : Nat) (srcs : List Nat) (s : State), d < 4 → k < 2 → s.linkUp d k = true → s.linkC d k ≠ s.rd R.DDL_CAP_C_TX d [k] →
    (∀ m < 16, s.txMod d k m ≠ 0 → (s.ringMod d k m).markDue = false) →
    ∃ u, exec (.ringRestripe d k srcs) s = .next u ∧ u.rd R.DDL_CAP_C_TX d [k] = s.linkC d k % 2 ^ R.DDL_CAP_C_TX.width ∧
      (∀ m < 16, s.txMod d k m ≠ 0 → (u.ringMod d k m).markDue = true) ∧ (∀ m < 16, s.txMod d k m = 0 → (u.ringMod d k m).unacked = [])) ∧
  (∀ (goodbye : Bool) (d k : Nat) (s u : State), d < 4 → k < 2 → s.linkOn d k = true → u = s.edgeHeel d k → SMap.get 0 u.dies (linkPeer d k).1 ≠ 1 →
    exec (.ringLinkLost goodbye d k) s = .next ((u.takeDown (u.island (linkPeer d k).1) (if goodbye then 4 else 5) (dieNode (linkPeer d k).1) 0
      (u.recDie (u.island (linkPeer d k).1))).withQueue s.pending)) ∧
  (∀ (d k tx rx lat : Nat) (s : State), d < 4 → k < 2 → SMap.get 0 s.dies d ≠ 1 → SMap.get 0 s.dies (linkPeer d k).1 ≠ 1 → s.rd R.DDL_STATUS_STATE d [k] = 0 →
    s.rd R.DDL_STATUS_STATE (linkPeer d k).1 [(linkPeer d k).2] = 0 →
    exec (.ringLinkTrain d k tx rx lat) s = .next ((s.linkTrain d k tx rx lat).withQueue s.pending) ∧
    ((∃ m < 16, bits tx (2 * m) 2 ≠ 0) → (∃ m < 16, bits rx (2 * m) 2 ≠ 0) → (s.linkTrain d k tx rx lat).linkUp d k = true)) ∧
  (∀ (d k : Nat) (ms : List Nat) (s : State), d < 4 → k < 2 → s.linkUp d k = true → (∃ m < 16, m ∈ ms ∧ s.rxMod d k m ≠ 0) →
    (∃ m < 16, m ∉ ms ∧ s.rxMod d k m ≠ 0) →
    exec (.ringModuleClockLoss d k ms) s = .next ((((((s.each ((List.range 16).filter (fun m => ms.contains m && s.rxMod d k m != 0)) (fun s m =>
      s.setMod (linkPeer d k).1 (linkPeer d k).2 m 0)).wr R.DDL_EVENT_DEGRADE (linkPeer d k).1 [(linkPeer d k).2] 1).linkErr (linkPeer d k).1 (linkPeer d k).2 2 0)
      ).ringMarks d k).withQueue s.pending)) ∧
  (∀ (d k gen src : Nat) (data : List Nat) (s : State), d < 4 → k < 2 → SMap.get 0 s.dies d ≠ 1 → gen < 256 → s.rd R.DDL_STATUS_LINK_GEN d [k] = gen →
    ∃ u, exec (.dieManagementFrame d k gen 0 src data) s = .next u ∧ u.rd R.DDL_STATUS_LINK_GEN d [k] = gen) ∧
  (∀ (k gen src : Nat) (data : List Nat) (s : State), k < 2 → src < 4 → SMap.get 0 s.dies 0 ≠ 1 → gen < 256 → s.rd R.DDL_STATUS_LINK_GEN 0 [k] = gen →
    ∃ u, exec (.dieManagementFrame 0 k gen 1 src data) s = .next u ∧ u.rd R.SEC_DIE_STATE_STATE 0 [src] = data.getD 0 0 % 2 ^ R.SEC_DIE_STATE_STATE.width ∧
      (∀ i < 16, u.rd R.SEC_COLLAR_MEAS 0 [src, i] = data.getD (4 + i) 0 % 2 ^ R.SEC_COLLAR_MEAS.width)) ∧
  (∀ (k gen src : Nat) (data : List Nat) (s : State), k < 2 → SMap.get 0 s.dies 0 ≠ 1 → gen < 256 → s.rd R.DDL_STATUS_LINK_GEN 0 [k] = gen →
    ∃ u, exec (.dieManagementFrame 0 k gen 2 src data) s = .next u ∧ (∀ c ∈ data, c < 512 → c ∈ u.deadChans) ∧ (∀ c ∈ s.deadChans, c ∈ u.deadChans)) ∧
  (∀ (d k gen kind src : Nat) (data : List Nat) (s : State), d < 4 → k < 2 → SMap.get 0 s.dies d ≠ 1 → gen < 256 → s.rd R.DDL_STATUS_LINK_GEN d [k] = (gen + 1) % 256 →
    exec (.dieManagementFrame d k gen kind src data) s = .next s)

/-- Torus ports (R406, R407, R411): a port that trains is UP, a codeword that carries the next block is acknowledged and its items handed on, a lost one is
answered with NAK and everything up to the replay is skipped; a port whose oldest block has been replayed 8 times in a row retrains, which raises PORT_GEN and
empties the replay buffer; a packet for another package goes on. Of the model, not the spec: details of the torus are log entry 76. -/
def Obligations.TorusPortCommandsComplete : Prop :=
  (∀ (k room : Nat) (lo hi : Bool) (s : State), k < 8 → s.torRd R.TOR_PORT_CFG_ENABLE k ≠ 0 → s.torRd R.TOR_PORT_STATUS_STATE k ≠ 2 → s.dieRuns (k / 2) = true →
    ∃ v : State, exec (.torusPortTrain k true lo hi true room) s = .next (v.buddy.withQueue s.pending) ∧ v.torRd R.TOR_PORT_STATUS_STATE k = 2 ∧
      v.torRd R.TOR_PORT_STATUS_HALF k = 0 ∧ (v.torPort k).served = true ∧ (v.torPort k).room = room) ∧
  (∀ (k seq : Nat) (replay : Bool) (block : List Byte) (s : State), k < 8 → s.torUp k = true →
    ∃ u, exec (.torusCodeword k false true seq replay block) s = .next u ∧
      u.torRd R.TOR_FEC_UNCORR k = min (2 ^ R.TOR_FEC_UNCORR.width - 1) (s.torRd R.TOR_FEC_UNCORR k + 1) ∧ (u.torPort k).skip = true ∧
      u.out = s.out ++ [.torusCtl k 0x21 (s.torPort k).rxSeq] ∧ u.torRx = s.torRx) ∧
  (∀ (k seq : Nat) (replay : Bool) (block : List Byte) (s : State), k < 8 → s.torUp k = true → seq < 4096 → (s.torPort k).rxSeq = seq →
    ((s.torPort k).skip = false ∨ replay = true) →
    exec (.torusCodeword k false false seq replay block) s = .next ((((s.setTorPort k { s.torPort k with
      rxSeq := (seq + 1) % 4096, skip := false, part := (torItems 640 ((s.torPort k).part ++ block.take 640)).2 }).send (.torusCtl k 0x20 seq)).each
      (torItems 640 ((s.torPort k).part ++ block.take 640)).1 (fun v i => v.torItem k i)).withQueue s.pending)) ∧
  (∀ (k seq : Nat) (block : List Byte) (s : State), k < 8 → s.torUp k = true → (s.torPort k).skip = true →
    exec (.torusCodeword k false false seq false block) s = .next s) ∧
  (∀ (k : Nat) (s : State), k < 8 → s.torUp k = true → (s.torPort k).replayed < 8 → exec (.torusRetrain k) s = .next s) ∧
  (∀ (k : Nat) (s : State), k < 8 → s.torUp k = true → 8 ≤ (s.torPort k).replayed →
    ∃ v : State, exec (.torusRetrain k) s = .next (((v.torErr k 4 0).buddy).withQueue s.pending) ∧ v.torRd R.TOR_PORT_STATUS_STATE k = 1 ∧
      (v.torPort k).unacked = [] ∧ (v.torPort k).txSeq = 0 ∧ (v.torPort k).queue = (s.torPort k).queue ∧
      v.torRd R.TOR_PORT_STATUS_PORT_GEN k = (s.torRd R.TOR_PORT_STATUS_PORT_GEN k + 1) % 2 ^ R.TOR_PORT_STATUS_PORT_GEN.width) ∧
  (∀ (k vc : Nat) (x : TorPacket) (s t : State), k < 8 → vc < 8 → s.torTake k vc = some (x, t) → (Pkt.of x.bytes).dest ≠ s.coord →
    exec (.packetForward k vc) s = .next ((t.torRoute 2 k vc x.bytes).withQueue s.pending))

/-- Dimension-ordered routing brings a packet nearer with every hop (R411): the neighbour a hop goes to is one hop closer to the destination, and there is no
hop only at the destination. -/
def Obligations.RoutingMakesProgress : Prop :=
  (∀ c d : Nat, c < 2 ^ 14 → d < 2 ^ 14 → (hop c d = none ↔ c = d)) ∧
  (∀ (c d i k : Nat) (date : Bool), c < 2 ^ 14 → d < 2 ^ 14 → hop c d = some (i, k, date) →
    torDist (neighbour c k) d + 1 = torDist c d ∧ neighbour c k < 2 ^ 14 ∧ k < 8 ∧ portDim k = i)

/-- Packets at their target (R414 to R417), once no answer of memory they need is missing (log entry 119): PUT writes and acknowledges the 16th and the last
packet, GET answers with the bytes or the failure, ATOMIC with the old value; answers move their command on; reduction inputs and results and stream packets
go to their group and channel, and a request no partition accepts is answered DENIED. Of the model, not the spec: details of the torus, of reductions and of
streams are log entries 76 to 78. -/
def Obligations.TorusPacketsComplete : Prop :=
  (∀ (k vc a b : Nat) (last : Bool) (h : Pkt) (bs : List Byte) (s t t1 : State), PacketHere s k vc 1 h t → t.torAccepts h = true →
    t.torAccess k h.part h.ctx h.addr (min h.len 256) (some (padTo (min h.len 256) h.body)) = ((0, a, b, bs), t1) → t1.ask = [] →
    (last = true ∨ SMap.get 0 t1.torPuts (h.src * 2 ^ 16 + h.tag) = 15 →
      exec (.put k vc last) s = .next ((State.torAnswer { t1 with torPuts := SMap.del t1.torPuts (h.src * 2 ^ 16 + h.tag) } h 6 0 0 []).withQueue s.pending)) ∧
    (last = false → SMap.get 0 t1.torPuts (h.src * 2 ^ 16 + h.tag) ≠ 15 →
      ∃ m, m = SMap.put 0 t1.torPuts (h.src * 2 ^ 16 + h.tag) (SMap.get 0 t1.torPuts (h.src * 2 ^ 16 + h.tag) + 1) ∧
        exec (.put k vc last) s = .next (({ t1 with torPuts := m } : State).withQueue s.pending))) ∧
  (∀ (k vc a b : Nat) (h : Pkt) (bs : List Byte) (s t t1 : State), PacketHere s k vc 2 h t → t.torAccepts h = true →
    t.torAccess k h.part h.ctx h.addr (min h.len 256) none = ((0, a, b, bs), t1) → t1.ask = [] →
    exec (.get k vc) s = .next ((t1.torAnswer h 3 0 0 bs).withQueue s.pending)) ∧
  (∀ (k vc st kind a : Nat) (h : Pkt) (bs : List Byte) (s t t1 : State), PacketHere s k vc 2 h t → t.torAccepts h = true → st ≠ 0 →
    t.torAccess k h.part h.ctx h.addr (min h.len 256) none = ((st, kind, a, bs), t1) → t1.ask = [] →
    exec (.get k vc) s = .next ((t1.torAnswer { h with addr := a } 3 st kind []).withQueue s.pending)) ∧
  (∀ (k vc size a b : Nat) (h : Pkt) (old : List Byte) (s t t1 : State), PacketHere s k vc 4 h t → t.torAccepts h = true → size = (if bit h.aux 8 then 8 else 4) →
    t.torAtomic k h.part h.ctx (h.addr % 2 ^ 48 / size * size) size (h.aux % 256) (leNat (h.body.take 8)) (leNat ((h.body.drop 8).take 8)) = ((0, a, b, old), t1) →
    t1.ask = [] → exec (.torusAtomic k vc) s = .next ((t1.torAnswer h 5 0 0 old).withQueue s.pending)) ∧
  (∀ (k vc : Nat) (h : Pkt) (s t : State), PacketHere s k vc 2 h t → t.torAccepts h = false → s.ask = [] →
    exec (.get k vc) s = .next ((t.torAnswer h 3 1 0 []).withQueue s.pending)) ∧
  (∀ (k vc : Nat) (h : Pkt) (c : TorCmd) (s t : State), PacketHere s k vc 6 h t → t.torOf h 1 = some c → h.aux % 256 = 0 →
    exec (.putAck k vc) s = .next ((if c.done + 1 = putAcks c.len then t.torDone c 0 0 0 else t.updTor c.id (fun c => { c with done := c.done + 1 })).withQueue s.pending)) ∧
  (∀ (k vc : Nat) (h : Pkt) (c : TorCmd) (s t : State), PacketHere s k vc 3 h t → t.torOf h 2 = some c →
    (t.torData h (h.addr - c.nat 0x18 8 % 2 ^ 48) (min h.len 256) c.len c).ask = [] →
    exec (.getData k vc) s = .next ((t.torData h (h.addr - c.nat 0x18 8 % 2 ^ 48) (min h.len 256) c.len c).withQueue s.pending)) ∧
  (∀ (k vc n : Nat) (h : Pkt) (c : TorCmd) (s t : State), PacketHere s k vc 5 h t → t.torOf h 3 = some c → n = (if bit (c.nat 6 1) 4 then 8 else 4) →
    (t.torData h 0 n n c).ask = [] → exec (.torusAtomicData k vc) s = .next ((t.torData h 0 n n c).withQueue s.pending)) ∧
  (∀ (h : Pkt) (off n total : Nat) (c : TorCmd) (bs : List Byte) (s t : State), h.aux % 256 = 0 →
    s.virtWriteV (s.tqVirt c.part c.queue c.id) ((c.nat 0x10 8 + off) % 2 ^ 48) (padTo n h.body) = (.ok bs, t) →
    s.torData h off n total c = (if total ≤ c.done + n then t.torDone c 0 0 0 else t.updTor c.id (fun c => { c with done := c.done + n }))) ∧
  (∀ (k vc : Nat) (h : Pkt) (s t : State), PacketHere s k vc 8 h t → h.part < 64 → t.redRd R.TOR_RED_VALID h.part = 1 → k ∈ t.redChildren h.part →
    (t.redInput h.part h.addr k h.gen (padTo 256 h.body)).ask = [] →
    exec (.reduce k vc) s = .next ((t.redInput h.part h.addr k h.gen (padTo 256 h.body)).withQueue s.pending)) ∧
  (∀ (k vc : Nat) (h : Pkt) (s t : State), PacketHere s k vc 8 h t → k ∉ t.redChildren h.part → s.ask = [] →
    exec (.reduce k vc) s = .next ((t.torAnswer h 9 1 0 []).withQueue s.pending)) ∧
  (∀ (k vc : Nat) (h : Pkt) (s t : State), PacketHere s k vc 9 h t → h.part < 64 → t.gen (t.redRd R.TOR_RED_PARTITION h.part) = h.gen →
    (t.redResult h.part h.addr (h.aux % 256) h.body).ask = [] →
    exec (.reduceResult k vc) s = .next ((t.redResult h.part h.addr (h.aux % 256) h.body).withQueue s.pending)) ∧
  (∀ (k vc : Nat) (h : Pkt) (s t : State), PacketHere s k vc 10 h t → (t.streamIn k h).ask = [] → exec (.stream k vc) s = .next ((t.streamIn k h).withQueue s.pending)) ∧
  (∀ (k : Nat) (h : Pkt) (s : State), h.part < 64 → s.chRd R.TOR_S_CFG_ENABLE h.part = 1 → s.chRd R.TOR_S_CFG_SOURCE h.part = h.src →
    h.addr + s.chRd R.TOR_S_CFG_DEADLINE h.part ≤ s.tick → (s.streamIn k h).dram = s.dram ∧ h.part ∈ (s.streamIn k h).streamLate ∧
      (s.streamIn k h).rd R.TOR_S_LATE 0 [h.part] = min (2 ^ R.TOR_S_LATE.width - 1) (s.rd R.TOR_S_LATE 0 [h.part] + 1)) ∧
  (∀ (ch tk : Nat) (r : TorRes) (s t : State), ch < 64 → s.closes.find? (fun x => x.1 == ch) = some (ch, tk) → s.slots = [] → s.streamLate = [] →
    ({ s with closes := s.closes.erase (ch, tk) } : State).torAccess 8 (s.chRd R.TOR_S_OWNER ch) (s.chRd R.TOR_S_CFG_CONTEXT ch)
      (s.chRd R.TOR_S_STATUS_RING ch + 16 * (tk % s.chSlots ch)) 16 (some (leBytes 8 tk ++ leBytes 4 0 ++ leBytes 4 0)) = (r, t) → t.ask = [] →
    exec (.streamChunkClose ch) s = .next (t.withQueue s.pending))

/-- Torus queues (R413, R415), once no answer of memory they need is missing (log entry 119): a poll fetches new commands; PUT, GET, ATOMIC and REDUCE send
their packets once their turn has come, and a command with no answer in time completes with status 6. Of the model, not the spec: the LENGTH of a GET is log
entry 34. -/
def Obligations.TorusQueueCommandsComplete : Prop :=
  (∀ (p q : Nat) (s : State), p < 64 → q < 8 → s.tq R.TOR_Q_CFG_ENABLE p q ≠ 0 → (s.torPoll p q).ask = [] →
    exec (.torusQueuePoll p q) s = .next ((s.torPoll p q).withQueue s.pending)) ∧
  (∀ (p q : Nat) (s t : State) (tail : Nat), s.tq R.TOR_Q_CFG_ENABLE p q ≠ 0 → s.tqTail p q = (some tail, t) → tail = SMap.get 0 t.torHead (8 * p + q) →
    tail < 2 ^ 32 → s.torPoll p q = t) ∧
  (∀ (p q : Nat) (host bs : List Byte) (c : TorCmd) (s t : State), p < 64 → q < 8 → s.torNext p q 1 = some c → lenOk c = true →
    s.virtReadH (s.tqVirt p q c.id) (c.nat 0x10 8 % 2 ^ 48) c.len host = (.ok bs, t) → t.ask = [] →
    exec (.tqPut p q host) s = .next (((t.updTor c.id (fun c => { c with started := true, sent := c.len })).each (packets c.len) (fun v x =>
      v.torEmit (v.torPkt c 1 (c.nat 0x18 8 + x.1) x.2 ((bs.drop x.1).take x.2)))).withQueue s.pending)) ∧
  (∀ (p q : Nat) (c : TorCmd) (s : State), p < 64 → q < 8 → s.torNext p q 2 = some c → lenOk c = true →
    exec (.tqGet p q) s = .next (((s.updTor c.id (fun c => { c with started := true, sent := c.len })).each (packets c.len) (fun v x =>
      v.torEmit (v.torPkt c 2 (c.nat 0x18 8 + x.1) x.2 []))).withQueue s.pending)) ∧
  (∀ (p q : Nat) (c : TorCmd) (s : State), p < 64 → q < 8 → s.torNext p q 3 = some c →
    ∃ v : State, exec (.tqAtomic p q) s = .next ((v.torEmit { v.torPkt c 4 (c.nat 0x18 8) 16 ((c.bytes.drop 0x20).take 16) with
      aux := c.nat 6 1 % 16 + (if bit (c.nat 6 1) 4 then 256 else 0) }).withQueue s.pending) ∧ v = s.updTor c.id (fun c => { c with started := true, sent := 1 })) ∧
  (∀ (p q : Nat) (host bs : List Byte) (c : TorCmd) (s t : State), p < 64 → q < 8 → s.torNext p q 4 = some c → c.nat 4 1 < 64 →
    s.redRd R.TOR_RED_VALID (c.nat 4 1) = 1 → s.redRd R.TOR_RED_PARTITION (c.nat 4 1) = p → lenOk c = true → c.len % 256 = 0 → c.started = true →
    (s.redChunks.filter (fun (x : RedChunk) => x.group == c.nat 4 1)).length < 64 →
    s.virtReadH (s.tqVirt p q c.id) ((c.nat 0x10 8 + 256 * c.sent) % 2 ^ 48) 256 host = (.ok bs, t) →
    ∀ v : State, v = t.updTor c.id (fun (x : TorCmd) => { x with started := true, sent := x.sent + 1, base := c.base }) →
      (v.redInput (c.nat 4 1) (c.base + c.sent) 8 (v.gen p) bs).ask = [] →
      exec (.tqReduce p q host) s = .next ((v.redInput (c.nat 4 1) (c.base + c.sent) 8 (v.gen p) bs).withQueue s.pending)) ∧
  (∀ (p q id : Nat) (c : TorCmd) (s : State), p < 64 → q < 8 →
    s.torCmds.find? (fun (c : TorCmd) => c.id == id && c.part == p && c.queue == q && c.started) = some c →
    exec (.torusCmdTimeout p q id) s = .next ((s.torDone c 6 0 0).withQueue s.pending)) ∧
  (∀ len x, x ∈ packets len → x.2 ≤ 256 ∧ x.1 + x.2 ≤ len ∧ 0 < x.2) ∧
  (∀ len, ((packets len).map (·.2)).sum = len)

/-- Kennel (R418 to R422), once no answer of memory it needs is missing (log entry 119): a checkpoint's turn writes the bitmaps and starts the stream of its
granules, a granule is staged, the end of the stream commits it and clears what it sent, or abandons it where the buddy refused; the buddy applies a commit
only if count and digest hold; RESTORE asks the buddy and its end sets RESTORED, or MISMATCH where the buddy refused. Of the model, not the spec: when LAST is
set is log entry 35, and where the logs stand is log entry 79. -/
def Obligations.KennelCommandsComplete : Prop :=
  (∀ (t : Nat) (s : State), s.knlDue = some (t, true) → s.ask = [] →
    exec .kennelCheckpoint s = .next (((({ s with knlDue := none } : State).wr R.KNL_EVENT_SKIPPED 0 [] 1).knlErr).withQueue s.pending)) ∧
  (∀ (t : Nat) (ok : Bool) (s v u : State), s.knlDue = some (t, false) → s.knlCkpt.length ≤ s.rd R.KNL_LOG_SIZE 0 →
    (({ s with knlDue := none, knlTick := t } : State).wr R.KNL_STATUS_STATE 0 [] 2).knlWrites
      ((List.range 4).map (fun d => (0, s.knlStageBase + d * 768 * 1024, s.knlBitmap d))) = (ok, v) →
    u = (if ok && (v.torUp 0 || v.torUp 4) then v else v.knlAbandon) → u.ask = [] → exec .kennelCheckpoint s = .next (u.withQueue s.pending)) ∧
  (∀ (t : Nat) (m : SMap Nat) (s u : State), s.knlDue = some (t, false) → s.rd R.KNL_LOG_SIZE 0 < s.knlCkpt.length →
    m = s.knlCkpt.foldl (fun (m : SMap Nat) (e : Nat × Nat) => SMap.put 0 m e.1 (SMap.get 0 m e.1 ||| e.2)) s.knlDirty →
    u = ((({ s with knlDue := none, knlDirty := m, knlCkpt := [], knlFrozen := [], knlStage := [] } : State).wr R.KNL_EVENT_OVERFLOW 0 [] 1).knlErr).pumpHome →
    u.ask = [] → exec .kennelCheckpoint s = .next (u.withQueue s.pending)) ∧
  (∀ (g : Nat) (bs : List Byte) (s s1 s2 u : State), g ∈ s.knlFrozen → s.knlStage.length < s.rd R.KNL_STAGE_SIZE 0 - 48 → s.knlRead g = (some bs, s1) →
    s1.knlWrites [(g, s1.knlStageBase + (48 + s.knlStage.length) * 2 ^ 16, bs)] = (true, s2) →
    u = ({ s2 with knlStage := s2.knlStage ++ [(g, bs)], knlFrozen := s2.knlFrozen.filter (· != g) } : State).pumpHome → u.ask = [] →
    exec (.kennelGranuleStaged g) s = .next (u.withQueue s.pending)) ∧
  (∀ (l : List (Nat × List Byte)) (s s1 : State), s.knlState = 2 → s.torUp 0 = true → s.knlLogOf (s.knlCkpt.map (·.1)) = (some l, s1) →
    ∃ v : State, v.out = s1.out ++ l.map (fun x => .kennel (s1.knlPort x.1) 0 x.1 s1.knlTick x.2) ++
        [.kennel (s1.knlPort 0) 1 s1.knlTick l.length (shake256 64 (l.flatMap (·.2)))] ∧
      (v.knlAbandon.ask = [] → exec (.kennelStreamEnd false) s = .next (v.knlAbandon.withQueue s.pending)) ∧
      ∃ w : State, w.out = v.out ∧ w.knlState = 1 ∧ w.knlCkpt = [] ∧ w.knlFrozen = [] ∧ w.knlStage = [] ∧ w.rd R.KNL_LAST 0 = s1.knlTick % 2 ^ R.KNL_LAST.width ∧
        (w.pumpHome.ask = [] → exec (.kennelStreamEnd true) s = .next (w.pumpHome.withQueue s.pending))) ∧
  (∀ (tick count : Nat) (digest data : List Byte) (gs : List Nat) (s : State), gs.length ≠ count ∨ data.length ≠ count * 2 ^ 16 ∨
      shake256 64 data ≠ digest → s.ask = [] →
    exec (.kennelCommit tick count digest gs data) s =
      .next ((((s.wr R.KNL_EVENT_ABANDONED 0 [] 1).knlErr).send (.kennel (s.knlPort 0) 5 tick 0 [])).withQueue s.pending)) ∧
  (∀ (tick : Nat) (gs : List Nat) (data : List Byte) (ok : Bool) (s v : State), data.length = gs.length * 2 ^ 16 → gs.length ≤ s.rd R.KNL_LOG_SIZE 0 →
    2 * s.rd R.KNL_LOG_SIZE 0 ≤ s.rd R.KNL_STORE_SIZE 0 → (∀ g ∈ gs, g + 2 * s.rd R.KNL_LOG_SIZE 0 < s.rd R.KNL_STORE_SIZE 0) →
    s.knlWrites ((gs.zip (List.range gs.length)).map (fun x => (x.1, s.knlStoreBase + (s.rd R.KNL_STORE_SIZE 0 - 2 * s.rd R.KNL_LOG_SIZE 0 +
        s.knlLog * s.rd R.KNL_LOG_SIZE 0 + x.2) * 2 ^ 16, (data.drop (x.2 * 2 ^ 16)).take (2 ^ 16))) ++
      (gs.zip (List.range gs.length)).map (fun x => (x.1, s.knlStoreBase + x.1 * 2 ^ 16, (data.drop (x.2 * 2 ^ 16)).take (2 ^ 16)))) = (ok, v) → v.ask = [] →
    exec (.kennelCommit tick gs.length (shake256 64 data) gs data) s = .next (((({ v with knlLog := 1 - v.knlLog % 2 } : State).wr R.KNL_LAST 0 [] tick).send
      (.kennel (v.knlPort 0) 5 tick 1 [])).withQueue s.pending)) ∧
  (∀ (g : Nat) (s : State), s.torUp 0 = true → s.knlState ≠ 3 → s.ask = [] →
    ∃ u, exec (.knlRestore false true g) s = .next u ∧ u.knlState = 3 ∧
      u.out = s.out ++ [.kennel 0 2 0 0 (s.knlRegions.flatMap (fun r => leBytes 8 r.1 ++ leBytes 8 r.2))]) ∧
  (∀ (g : Nat) (s : State), s.ask = [] → exec (.knlRestore true false g) s = .next ((s.send (.kennel (s.knlPort 0) 4 0 0 [])).withQueue s.pending)) ∧
  (∀ (tick : Nat) (image : List Byte) (ok : Bool) (s v : State), s.knlState = 3 →
    s.knlWrites ((List.range (s.knlRegions.foldl (fun k r => k + r.2) 0)).filterMap (fun g =>
      (knlPlace s.knlRegions g).map (fun a => (g, a, padTo (2 ^ 16) (image.drop (g * 2 ^ 16)))))) = (ok, v) → v.ask = [] →
    ∃ u, exec (.kennelRestoreDone false tick image) s = .next u ∧ u.knlState = 4 ∧ u.rdB R.KNL_EVENT_RESTORED 0 = true ∧
      u.rd R.KNL_LAST 0 = tick % 2 ^ R.KNL_LAST.width ∧ u.dram = v.dram) ∧
  (∀ (tick : Nat) (image : List Byte) (s : State), s.knlState = 3 → s.ask = [] → s.rd R.KNL_CTRL_ENABLE 0 < 2 →
    ∃ v : State, exec (.kennelRestoreDone true tick image) s = .next (v.knlErr.withQueue s.pending) ∧ v.rdB R.KNL_EVENT_MISMATCH 0 = true ∧
      v.knlState = s.rd R.KNL_CTRL_ENABLE 0 ∧
      v.dram = s.dram)

/-- The sideband ring (R424 to R427): a frame for this package is acted on and acknowledged, one for another goes on; an acknowledgement ends a retry, 100 µs
without one sends again up to three times; TRAIN gives the position and the hop, and the bypass opens and closes. Of the model, not the spec: positions are
log entry 80. -/
def Obligations.SidebandCommandsComplete : Prop :=
  (∀ (src seq g : Nat) (payload : List Byte) (same : Bool) (s : State), src < 256 → seq < 2 ^ 16 → s.sbrUp = true → s.sbrPos < 255 → s.rd R.LCS_STATE_STATE 0 ≠ 3 → s.ask = [] →
    ∃ u, exec (.mgmtFrame true s.sbrPos src seq payload false false same g) s = .next u ∧
      u.out = s.out ++ [.mgmt 0 2 src seq, .side 5 (sideHead 5 s.sbrPos src 0 seq)]) ∧
  (∀ (dest src seq g : Nat) (payload : List Byte) (query restore same : Bool) (s : State), dest < 255 → src < 256 → s.sbrUp = true → dest ≠ s.sbrPos → s.ask = [] →
    ∃ u, exec (.mgmtFrame true dest src seq payload query restore same g) s = .next u ∧
      u.out = s.out ++ [.side 2 (sideHead 2 src dest payload.length (seq % 2 ^ 16) ++ payload)] ∧
      u.rd R.SBR_FRAMES 0 = min (2 ^ R.SBR_FRAMES.width - 1) (s.rd R.SBR_FRAMES 0 + 1)) ∧
  (∀ (dest src seq : Nat) (payload : List Byte) (s : State), dest < 255 → src < 256 → s.sbrUp = true → dest ≠ s.sbrPos →
    ∃ u, exec (.attestFrame true dest src seq payload) s = .next u ∧ u.out = s.out ++ [.side 3 (sideHead 3 src dest payload.length (seq % 2 ^ 16) ++ payload)]) ∧
  (∀ (src seq : Nat) (s : State), src < 256 → s.sbrUp = true → s.sbrPos < 256 →
    ∃ u, exec (.mgmtAck true s.sbrPos src seq) s = .next u ∧ u.sideOut = s.sideOut.filter (fun (x : SideFrame) => x.seq != seq % 2 ^ 16)) ∧
  (∀ (seq : Nat) (x : SideFrame) (s : State), s.sideOut.find? (fun (x : SideFrame) => x.seq == seq) = some x →
    (x.tries < 3 → ∃ u, exec (.sbrRetry seq) s = .next u ∧
      u.out = s.out ++ [.side x.kind (sideHead x.kind s.sbrPos x.dest x.payload.length x.seq ++ x.payload)]) ∧
    (3 ≤ x.tries → ∃ v : State, exec (.sbrRetry seq) s = .next (v.sbrErr.withQueue s.pending) ∧ v.rdB R.SBR_EVENT_RETRY_FAIL 0 = true ∧
      v.sideOut = s.sideOut.filter (fun (y : SideFrame) => y.seq != seq))) ∧
  (∀ (value hop : Nat) (s : State), value < 2 ^ R.SBR_STATUS_POSITION.width → s.sbrUp = true → (s.rd R.TCK_CTRL_SOURCE 0 < 2 ∨ value = 0) →
    ∃ u, exec (.trainFrame 0 value true hop) s = .next u ∧ u.sbrPos = value ∧ u.rd R.SBR_HOP_DOWN 0 = hop % 2 ^ R.SBR_HOP_DOWN.width ∧
      u.out = s.out ++ [.side 4 (leBytes 1 0 ++ leBytes 1 (value + 1)), .side 4 (leBytes 1 1 ++ leBytes 4 hop)]) ∧
  (∀ (value hop : Nat) (ok : Bool) (s : State), s.sbrUp = true → 2 ≤ s.rd R.TCK_CTRL_SOURCE 0 → value ≠ 0 →
    ∃ u, exec (.trainFrame 0 value ok hop) s = .next u ∧ u.rd R.SBR_STATUS_RING_SIZE 0 = (value - 1) % 2 ^ R.SBR_STATUS_RING_SIZE.width ∧
      u.out = s.out ++ [.side 4 (leBytes 1 2 ++ leBytes 1 value)]) ∧
  (∀ (hop : Nat) (s : State), s.sbrUp = false →
    ∃ u, exec (.bypassOpen true hop) s = .next u ∧ u.sbrUp = true ∧ u.out = s.out ++ [.side 4 (leBytes 1 1 ++ leBytes 4 hop)]) ∧
  (∀ s : State, ∃ u, exec .sbrLeave s = .next u ∧ u.sbrUp = false ∧ u.sideOut = [])

/-- Heel of the host port (R449, R455 to R458): FORCE, a link error and a link that goes down enter it, with HEEL shown, the instant kept, one record and
every outstanding read failed; in Heel a protocol error or a lost link is a second error, FORCE only another cause, a link a reset takes down no error;
RELEASE is refused while a cause, a link that is down or an unmasked uncorrectable error stands, and else sends what was held. Of the model, not the spec:
reset of the link is log entry 84. -/
def Obligations.HostHeelCommandsComplete : Prop :=
  (∀ s : State, exec .helForce s = .next ((s.hostHeel 4 false).withQueue s.pending)) ∧
  (∀ (b : Nat) (s : State), b < 32 → exec (.hostLinkError b) s = .next (((s.aerSet 0 b).hostHeel 3 true).withQueue s.pending)) ∧
  (∀ s : State, exec (.linkDown false) s = .next (((s.aerSet 0 5).linkOff.hostHeel 0 (s.rd R.PCI_STATUS_SPEED 0 != 0)).withQueue s.pending)) ∧
  (∀ s : State, exec (.linkDown true) s = .next ((s.linkOff.hostHeel 0 false).withQueue s.pending)) ∧
  (∀ (k : Nat) (second : Bool) (s : State), k < 5 → s.heel = false →
    ∃ v : State, s.hostHeel k second = (v.err 0 (.plain 4 1 1 (scopeOf 5 0) v.heelStatus)).failReads ∧ v.heel = true ∧
      bit (v.rd R.HEL_HOST_STATUS_CAUSE 0) k = true ∧ v.rdB R.PCI_STATUS_HEEL 0 = true ∧ (∀ n < 64, v.rdB R.PCI_VF_STATUS_HEEL 0 [n] = true) ∧
      v.rd R.HEL_ENTRY_TICK 0 = s.tick % 2 ^ R.HEL_ENTRY_TICK.width ∧ v.hreads = s.hreads) ∧
  (∀ (k : Nat) (s : State), k < 5 → s.heel = true →
    ∃ v : State, s.hostHeel k false = v ∧ s.hostHeel k true = v.hostEscalate ∧ bit (v.rd R.HEL_HOST_STATUS_CAUSE 0) k = true ∧ v.heel = true ∧
      v.errs = s.errs ∧ v.hreads = s.hreads) ∧
  (∀ s : State, s.heel = true → (s.rd R.HEL_HOST_STATUS_CAUSE 0 ≠ 0 ∨ s.rd R.PCI_STATUS_SPEED 0 = 0 ∨
      ∃ fn < 65, ∃ b < 32, bit (s.cfgGet fn 4) b = true ∧ bit (s.cfgGet fn 5) b = false) →
    ∃ u, exec .helRelease s = .next u ∧ u.rdB R.HEL_HOST_STATUS_REFUSED 0 = true ∧ u.heel = true ∧ u.heldWrites = s.heldWrites) ∧
  (∀ s : State, s.heel = true → s.rd R.HEL_HOST_STATUS_CAUSE 0 = 0 → s.rd R.PCI_STATUS_SPEED 0 ≠ 0 →
    (∀ fn < 65, ∀ b < 32, bit (s.cfgGet fn 4) b = true → bit (s.cfgGet fn 5) b = true) →
    ∃ v x : State, exec .helRelease s = .next (x.pumpAts.unpark.withQueue s.pending) ∧ v.heel = false ∧ v.heldWrites = [] ∧ v.heldMsix = [] ∧ v.rd R.HEL_HELD 0 = 0 ∧
      x = (let w := (v.each s.heldWrites (fun (v : State) (o : Out) => match o with
          | .hostWrite ro fn a bs => v.hostWrite fn a bs ro
          | o => v.send o)).each s.heldMsix (fun v k => v.msix (k / 64) (k % 64))
        w.each (w.errs.filter (fun (r : ErrRec) => !r.wait)) State.mirror)) ∧
  (∀ s : State, s.heel = false → exec .helRelease s = .next s)

/-- Completions (R441, R447 to R450): one that ends its read answers it with the bytes, one of an unknown tag is unexpected, one of an older generation is
discarded, one of a read that timed out is late, a poisoned one and a timeout enter Heel, UR and CA fail the read; a timeout comes when the function's time
has passed, and a tag is used again only once its read is over and twice that time has passed. -/
def Obligations.HostCompletionCommandsComplete : Prop :=
  (∀ (tag : Nat) (data : List Byte) (h : HostRead) (s : State), s.hreads.find? (fun (h : HostRead) => h.tag == tag) = some h → h.state = 0 → s.heel = false →
    h.fgen = s.rd R.PCI_FN_STATE_FGEN 0 [h.fn] → h.got.length + data.length = h.len →
    ∃ v : State, exec (.hostCompletion tag 0 false data) s = .next ((v.answer tag 0 0 (h.got ++ data)).withQueue s.pending) ∧
      v.hreads = s.hreads.filter (fun (x : HostRead) => x.tag != tag) ∧
      v.rd R.PCI_RD_BYTES 0 = min (2 ^ R.PCI_RD_BYTES.width - 1) (s.rd R.PCI_RD_BYTES 0 + data.length)) ∧
  (∀ (tag : Nat) (data : List Byte) (h : HostRead) (s : State), s.hreads.find? (fun (h : HostRead) => h.tag == tag) = some h → h.state = 0 → s.heel = false →
    h.fgen = s.rd R.PCI_FN_STATE_FGEN 0 [h.fn] → h.got.length + data.length < h.len →
    ∃ u, exec (.hostCompletion tag 0 false data) s = .next u ∧ u.reqs = s.reqs ∧
      u.hreads = s.hreads.map (fun (x : HostRead) => if x.tag == tag then { h with got := h.got ++ data } else x)) ∧
  (∀ (tag st : Nat) (ep : Bool) (data : List Byte) (s : State), (∀ h ∈ s.hreads, h.tag ≠ tag) → s.heel = false →
    exec (.hostCompletion tag st ep data) s = .next (((s.bump R.PCI_UNEXPECTED 0 [] 1).aerAdvisory 0).withQueue s.pending)) ∧
  (∀ (tag st : Nat) (ep : Bool) (data : List Byte) (h : HostRead) (s : State), s.hreads.find? (fun (h : HostRead) => h.tag == tag) = some h → h.state ≠ 1 → h.state ≠ 3 →
    s.heel = false → h.fgen ≠ s.rd R.PCI_FN_STATE_FGEN 0 [h.fn] →
    ∃ u, exec (.hostCompletion tag st ep data) s = .next u ∧ u.reqs = s.reqs ∧ u.out = s.out ∧
      u.rd R.PCI_DISCARDS 0 = min (2 ^ R.PCI_DISCARDS.width - 1) (s.rd R.PCI_DISCARDS 0 + 1)) ∧
  (∀ (tag st : Nat) (ep : Bool) (data : List Byte) (h : HostRead) (s : State), s.hreads.find? (fun (h : HostRead) => h.tag == tag) = some h → (h.state = 1 ∨ (h.state = 3 ∧ s.heel = false)) →
    ∃ v : State, exec (.hostCompletion tag st ep data) s = .next ((v.lateCpl h.fn).withQueue s.pending) ∧ v.regs = s.regs ∧ v.reqs = s.reqs) ∧
  (∀ (tag st : Nat) (data : List Byte) (h : HostRead) (s : State), s.hreads.find? (fun (h : HostRead) => h.tag == tag) = some h → h.state = 0 → s.heel = false →
    h.fgen = s.rd R.PCI_FN_STATE_FGEN 0 [h.fn] →
    exec (.hostCompletion tag st true data) s = .next (((s.aerSet h.fn 12).hostHeel 2 false).withQueue s.pending)) ∧
  (∀ (tag st : Nat) (data : List Byte) (h : HostRead) (s : State), s.hreads.find? (fun (h : HostRead) => h.tag == tag) = some h → h.state = 0 → s.heel = false →
    h.fgen = s.rd R.PCI_FN_STATE_FGEN 0 [h.fn] → st ≠ 0 →
    exec (.hostCompletion tag st false data) s = .next (((s.failRead h 4).setRead tag 2).withQueue s.pending)) ∧
  (∀ (tag dt : Nat) (h : HostRead) (s : State), s.hreads.find? (fun (h : HostRead) => h.tag == tag && h.state == 0) = some h →
    (s.waitedFor h (s.cplTimeout h.fn) dt = true → h.fgen = s.rd R.PCI_FN_STATE_FGEN 0 [h.fn] →
      exec (.hostCompletionTimeout tag dt) s = .next ((((s.aer h.fn 14).hostHeel 1 false).setRead tag 1).withQueue s.pending)) ∧
    (s.waitedFor h (s.cplTimeout h.fn) dt = false ∨ h.fgen ≠ s.rd R.PCI_FN_STATE_FGEN 0 [h.fn] → exec (.hostCompletionTimeout tag dt) s = .next s)) ∧
  (∀ (tag dt : Nat) (s : State), ∃ u, exec (.tagReuse tag dt) s = .next u ∧
    ∀ h, h ∈ u.hreads ↔ h ∈ s.hreads ∧ (h.tag = tag → s.waitedFor h (2 * s.cplTimeout h.fn) dt = true →
      h.state = 0 ∧ h.fgen = s.rd R.PCI_FN_STATE_FGEN 0 [h.fn])) ∧
  (∀ (fn : Nat) (s : State), fn < 65 → exec (.poisonedWrite fn) s = .next ((s.aer fn 12).withQueue s.pending)) ∧
  (∀ (fn : Nat) (s : State), fn < 65 → ∃ u, exec (.unsupportedRequest fn) s = .next u ∧ u.out = s.out ++ [.hostCpl fn 1 []])

/-- Functions (R436, R451 to R453, R459, R462, R516): a Bus Master Enable that falls and a Function Level Reset raise the function's generation and end the
work of its partitions; VFs that cease to exist are reset; a host reset is an FLR of PF0 that drops what Heel holds and the link; a PF0 power state waits for
the boundary; a mask that is cleared sends what is pending; a configuration request is answered by CRS, by UR or by its register. Of the model, not the spec:
configuration space is the model's presumption, log entries 11 and 27. -/
def Obligations.FunctionCommandsComplete : Prop :=
  (∀ (fn : Nat) (s : State), fn < 65 → s.rdB R.PCI_FN_STATE_BME 0 [fn] = true →
    ∃ v : State, exec (.bmeClear fn) s = .next ((v.each (v.partsOfFn fn) State.partQuiet).withQueue s.pending) ∧ v = (s.wr R.PCI_FN_STATE_BME 0 [fn] 0).fgenUp fn) ∧
  (∀ (fn : Nat) (s : State), fn < 65 → s.rdB R.PCI_FN_STATE_BME 0 [fn] = false → exec (.bmeClear fn) s = .next s) ∧
  (∀ (fn : Nat) (s : State), 1 ≤ fn → fn < 65 → s.fnExists fn = true →
    exec (.flr fn) s = .next (((s.flrOf fn).wr R.PCI_FN_STATE_FLR_BUSY 0 [fn] 1).withQueue s.pending)) ∧
  (∀ (fn : Nat) (s : State), 1 ≤ fn → fn < 65 → s.fnExists fn = false → exec (.flr fn) s = .next s) ∧
  (∀ (fn : Nat) (s : State), fn < 65 → ∃ u, exec (.flrDone fn) s = .next u ∧ u.rd R.PCI_FN_STATE_FLR_BUSY 0 [fn] = 0 ∧
    (∀ g, g < 65 → g ≠ fn → u.rd R.PCI_FN_STATE_FLR_BUSY 0 [g] = s.rd R.PCI_FN_STATE_FLR_BUSY 0 [g])) ∧
  (∀ s : State, ∃ v, exec .pf0Flr s = .next v ∧ v = (s.flrPf0.wr R.PCI_FN_STATE_FLR_BUSY 0 [0] 1).withQueue s.pending ∧ v.rdB R.PCI_FN_STATE_FLR_BUSY 0 [0] = true) ∧
  (∀ (on : Bool) (n : Nat) (s : State), n < 65 → s.vfEnable = true → (on = false ∨ n ≤ s.numVfs) →
    ∃ u, exec (.vfDisable on n) s = .next u ∧ u = (s.dropVfs on n).withQueue s.pending ∧ u.vfEnable = on ∧ u.numVfs = n) ∧
  (∀ s : State, ∃ u, exec .perst s = .next u ∧ exec .hotReset s = .next u ∧ u.heldWrites = [] ∧ u.heldMsix = [] ∧ u.rd R.PCI_STATUS_SPEED 0 = 0 ∧
    u = s.hostReset.withQueue s.pending) ∧
  (∀ (st : Nat) (s : State), st < 4 → ∃ u, exec (.powerStateChange 0 st) s = .next u ∧ u.host.powerDue = some st ∧ u.cfgGet 0 9 % 4 = st ∧ u.regs = s.regs) ∧
  (∀ (fn : Nat) (s : State), 1 ≤ fn → fn < 65 → s.fnExists fn = true → s.cfgGet fn 9 % 4 ≠ 3 →
    ∃ v : State, exec (.powerStateChange fn 3) s = .next (((v.fgenUp fn).each (v.partsOfFn fn) State.partQuiet).withQueue s.pending) ∧ v.cfgGet fn 9 % 4 = 3 ∧ v.regs = s.regs) ∧
  (∀ (fn v : Nat) (s : State), fn < 65 → v < (if fn = 0 then 64 else 31) → exec (.msixUnmask fn v) s = .next ((s.vecUnmask fn v).withQueue s.pending)) ∧
  (∀ (fn : Nat) (s : State), fn < 65 → exec (.msixUnmask fn 64) s = .next ((s.fnUnmask fn).withQueue s.pending)) ∧
  (∀ (v : Nat) (s : State), v < 64 → s.fnMask 0 = false → s.heel = false → s.bme 0 = true → bit (s.rd R.PCI_MSIX_PBA 0) v = true →
    ∃ u, exec (.msixUnmask 0 v) s = .next u ∧ u.rd R.PCI_MSIX_MASK 0 [v] = 0 ∧ bit (u.rd R.PCI_MSIX_PBA 0) v = false ∧
      u.out = s.out ++ [.msix 0 v (s.rd R.PCI_MSIX_ADDR 0 [v]) (s.rd R.PCI_MSIX_DATA 0 [v])]) ∧
  (∀ (fn key value : Nat) (write : Bool) (s : State), fn < 65 → key < 4096 → value < 2 ^ 32 →
    (s.crs fn = true → ∃ u, exec (.configRequest fn key write value) s = .next u ∧ u.out = s.out ++ [.hostCpl fn 2 []] ∧ u.regs = s.regs ∧ u.config = s.config) ∧
    (s.crs fn = false → s.fnExists fn = false → ∃ u, exec (.configRequest fn key write value) s = .next u ∧ u.out = s.out ++ [.hostCpl fn 1 []] ∧ u.config = s.config) ∧
    (s.crs fn = false → s.fnExists fn = true → write = true →
      exec (.configRequest fn key write value) s = .next (((s.cfgWrite fn key value).send (.hostCpl fn 0 [])).withQueue s.pending)) ∧
    (s.crs fn = false → s.fnExists fn = true → write = false →
      ∃ u, exec (.configRequest fn key write value) s = .next u ∧ u.out = s.out ++ [.hostCpl fn 0 (leBytes 4 (s.cfgRead fn key))] ∧ u.config = s.config)) ∧
  (∀ (v : Nat) (s : State), v < 2 ^ 32 → bit v 15 = true → s.cfgWrite 0 2 v = s.flrPf0.wr R.PCI_FN_STATE_FLR_BUSY 0 [0] 1)

/-- Windows and the link (R36, R434, R437 to R445, R460 to R462): BAR0 leads to registers, BAR2 to memory, by writes that are posted and reads that wait for
them; a size BAR0 does not take and an access no window holds fail; the expansion ROM shows its header and the directory, whose GENERATION is odd while Collar
rewrites it; the link trains; wakes, L0p and I3C. Of the model, not the spec: sizes BAR2 takes are log entry 86, the directory before its first writing log
entry 87, and identity queries log entry 94. -/
def Obligations.HostWindowCommandsComplete : Prop :=
  (∀ (off len value dt : Nat) (s : State), value < 2 ^ 64 → off + len ≤ 2 ^ 28 → regSize off len = true →
    exec (.bar0Access 0 off len true value dt) s = .next ((s.busWrite (off / 2 ^ 26) (off % 2 ^ 26) len value dt).withQueue s.pending) ∧
    (s.barPosted 0 = false → ∃ v t, (s.regTouch (off / 2 ^ 26) (off % 2 ^ 26) len).busRead (off / 2 ^ 26) (off % 2 ^ 26) len = (v, t) ∧
      exec (.bar0Access 0 off len false value dt) s = .next ((t.send (.hostCpl 0 0 (leBytes len v))).withQueue s.pending))) ∧
  (∀ (fn off len value dt o : Nat) (s : State), 1 ≤ fn → fn < 65 → value < 2 ^ 64 → off + len ≤ 2 ^ 19 → regSize off len = true → s.fnExists fn = true →
    s.heel = false → bar0Place fn off = some (0, o) →
    exec (.bar0Access fn off len true value dt) s = .next ((s.busWrite 0 o len value dt).withQueue s.pending)) ∧
  (∀ (fn off len value dt o v : Nat) (s t : State), 1 ≤ fn → fn < 65 → value < 2 ^ 64 → off + len ≤ 2 ^ 19 → regSize off len = true → s.fnExists fn = true →
    s.heel = false → s.barPosted fn = false → bar0Place fn off = some (0, o) → s.busRead 0 o len = (v, t) →
    exec (.bar0Access fn off len false value dt) s = .next ((t.send (.hostCpl fn 0 (leBytes len v))).withQueue s.pending)) ∧
  (∀ fn off : Nat, 1 ≤ fn → fn < 65 → off < 2 ^ 19 → (bar0Place fn off = none ↔ 6 * 0x10000 ≤ off)) ∧
  (∀ (fn off len value dt : Nat) (s : State), fn < 65 → value < 2 ^ 64 → s.fnExists fn = true → off + len ≤ bar0Size fn → regSize off len = false →
    ∃ u, exec (.bar0Access fn off len false value dt) s = .next u ∧ u.out = s.out ++ [.hostCpl fn 4 []] ∧
      u.rd R.PCI_BAR_ERR 0 = min (2 ^ R.PCI_BAR_ERR.width - 1) (s.rd R.PCI_BAR_ERR 0 + 1)) ∧
  (∀ (fn off len : Nat) (s : State), fn < 65 → s.inBar2 fn off len = true → s.barPosted fn = true → exec (.bar2Read fn off len) s = .next s) ∧
  (∀ (fn off len : Nat) (bs : List Byte) (s t : State), fn < 65 → s.inBar2 fn off len = true → s.barPosted fn = false → s.bar2Get fn off len = (some bs, t) →
    t.ask = [] → exec (.bar2Read fn off len) s = .next ((t.send (.hostCpl fn 0 bs)).withQueue s.pending)) ∧
  (∀ (fn off len : Nat) (s t : State), fn < 65 → s.inBar2 fn off len = true → s.barPosted fn = false → s.bar2Get fn off len = (none, t) → t.ask = [] →
    exec (.bar2Read fn off len) s = .next (((t.bar2Fail fn).send (.hostCpl fn 4 [])).withQueue s.pending)) ∧
  (∀ (fn off len : Nat) (s : State), fn < 65 → s.inBar2 fn off len = false → exec (.bar2Read fn off len) s = .next (s.send (.hostCpl fn 1 []))) ∧
  (∀ (fn off : Nat) (data : List Byte) (s : State), fn < 65 → s.inBar2 fn off data.length = true →
    exec (.bar2Write fn off data) s = .next ((s.bar2Put fn off data).withQueue s.pending)) ∧
  (∀ (fn off : Nat) (data : List Byte) (s : State), s.bar2Off fn off data.length = true → s.bar2Put fn off data = s.bar2Fail fn) ∧
  (∀ (off : Nat) (data : List Byte) (s t : State), s.bar2Off 0 off data.length = false →
    ((({ s with nextId := s.nextId + 1 } : State).bar2Touch (s.bar2Dpa off) data.length).post .pcie (.bar 0 (s.nextId + 1)) (s.bar2Dpa off) data) = some t →
    s.bar2Put 0 off data = t) ∧
  (∀ (fn off len : Nat) (s : State), s.barShut = true → s.bar2Off fn off len = true ∧ s.bar2Get fn off len = (none, s)) ∧
  (∀ (off len : Nat) (s : State), off + len ≤ 2 ^ 20 → ∃ u, exec (.expansionRomRead off len) s = .next u ∧
    ∃ bs : List Byte, u.out = s.out ++ [.hostCpl 0 0 bs] ∧ bs.length = len ∧ (∀ i, i < len → off + i = 0 → bs.getD i 0 = 0x55) ∧
      (∀ i, i < len → off + i = 1 → bs.getD i 0 = 0xAA) ∧ (∀ i, i < len → 0x80000 ≤ off + i → bs.getD i 0 = s.host.directory.getD (off + i - 0x80000) 0)) ∧
  (∀ s : State, s.host.dirGen % 2 = 0 → ∃ u, exec (.resourceDirectoryRewrite false) s = .next u ∧ u.host.dirGen = (s.host.dirGen + 1) % 2 ^ 32 ∧
      u.host.directory = s.host.directory.take 12 ++ leBytes 4 u.host.dirGen ++ s.host.directory.drop 16) ∧
  (∀ s : State, s.host.dirGen % 2 = 1 → ∃ u, exec (.resourceDirectoryRewrite true) s = .next u ∧ u.host.dirGen = (s.host.dirGen + 1) % 2 ^ 32 ∧
      u.host.directory = u.dirHeader u.dirEntries.length (64 + u.dirEntries.flatten.length) ++ u.dirEntries.flatten) ∧
  (∀ (speed width : Nat) (flit : Bool) (s : State), 1 ≤ speed → speed < 7 → 1 ≤ width → width < 17 → s.rd R.LCS_STATE_STATE 0 ≠ 3 →
    ∃ u, exec (.pcieLinkTrain speed width flit) s = .next u ∧ u.rd R.PCI_STATUS_SPEED 0 = speed ∧ u.rd R.PCI_STATUS_WIDTH 0 = width ∧
      u.rd R.PCI_STATUS_FLIT 0 = (if flit || speed == 6 then 1 else 0) ∧ u.host.wakeLow = false) ∧
  (∀ (speed width : Nat) (flit : Bool) (s : State), 1 ≤ speed → speed < 7 → 1 ≤ width → width < 17 → s.rd R.LCS_STATE_STATE 0 = 3 →
    exec (.pcieLinkTrain speed width flit) s = .next s) ∧
  (∀ (port : Nat) (s : State), port < 8 → s.boot.mainOff = false → s.rd R.PCI_STATUS_DSTATE 0 = 3 → bit (s.cfgGet 0 9) 8 = true →
    s.rdB R.PCI_CTRL_WAKE_SBR 0 = true →
    ∃ u, exec (.wakeEvent 0 port) s = .next u ∧ bit (u.cfgGet 0 9) 15 = true ∧ u.out = s.out ++ [.hostMsg 6 0 0]) ∧
  (∀ (port : Nat) (sbr : Bool) (ports : List Nat) (s : State), port < 8 → s.boot.mainOff = true → s.host.wake = some (sbr, true, ports) → port ∈ ports →
    ∃ u, exec (.wakeEvent 1 port) s = .next u ∧ u.host.wakeLow = true ∧ u.out = s.out ++ [.hostMsg 7 0 0]) ∧
  (∀ (w : Nat) (s : State), (w = 8 ∨ w = 16) → s.rdB R.PCI_CTRL_L0P_AUTO 0 = true → s.rd R.PCI_STATUS_SPEED 0 ≠ 0 → s.rd R.PCI_STATUS_LPOWER 0 ≠ 2 →
    ∃ u, exec (.l0pRequest w) s = .next u ∧ u.rd R.PCI_STATUS_WIDTH 0 = w ∧ u.rd R.PCI_STATUS_LPOWER 0 = (if w = 8 then 1 else 0)) ∧
  (∀ (restore same : Bool) (g : Nat) (s : State), s.ask = [] → ∃ u, exec (.i3cMctp true restore same g) s = .next u ∧
    u.out = s.out ++ [.i3c (leBytes 8 (s.rd R.LCS_SERIAL 0) ++ leBytes 1 s.lcs)]) ∧
  (∀ (restore same : Bool) (g : Nat) (s : State), s.lcs = 3 → s.ask = [] → exec (.i3cMctp false restore same g) s = .next s) ∧
  (∀ (same : Bool) (g : Nat) (s : State), s.lcs ≠ 3 → (s.ask = [] → exec (.i3cMctp false false same g) s = .next (s.send (.mgmt 0 3 0 0))) ∧
    ((s.knlServe same g).ask = [] → exec (.i3cMctp false true same g) s = .next ((s.knlServe same g).withQueue s.pending)))

/-- Partitions and contexts (R477 to R485): RESET runs once at a time and is over when no request of the old generation is left; ZERO needs every context
FREE; a FREE context is enabled with its confidentiality and a new instance, and a live one that is not busy ends; a reshape of the islands takes place only
while nothing runs, nothing is held and every island stays contiguous, and an island of the new shape that holds a die of a DOWN one is DOWN (R31, R32). Of
the model, not the spec: ZERO and resets are log entries 81 and 82. -/
def Obligations.PartitionCommandsComplete : Prop :=
  (∀ (p : Nat) (s : State), p < 64 → exec (.parReset p) s = .next ((s.partReset p).withQueue s.pending)) ∧
  (∀ (p : Nat) (s : State), s.rdB R.PAR_STATUS_RESET_BUSY 0 [p] = true → s.partReset p = s) ∧
  (∀ (p : Nat) (s : State), p < 64 → s.rdB R.PAR_STATUS_RESET_BUSY 0 [p] = true →
    (s.oldGen p = [] → ∃ u, exec (.resetBusyClear p) s = .next u ∧ u.rdB R.PAR_STATUS_RESET_BUSY 0 [p] = false ∧ u.reqs = s.reqs) ∧
    (s.oldGen p ≠ [] → exec (.resetBusyClear p) s = .next s)) ∧
  (∀ (p : Nat) (s : State), p < 64 → s.rdB R.PAR_STATUS_ZERO_BUSY 0 [p] = false → (∀ c < 16, s.rd R.PAR_CTX_CFG_STATE 0 [p, c] = 0) →
    s.islUp (s.partIsland p) = true →
    ∃ v : State, exec (.parZero p) s = .next ((v.each (v.zeroRanges p) (fun v r => v.zeroRange p r)).withQueue s.pending) ∧
      v.rdB R.PAR_STATUS_ZERO_BUSY 0 [p] = true ∧ v.rdB R.PAR_STATUS_ZERO_FAIL 0 [p] = false ∧ v.dram = s.dram) ∧
  (∀ (p c : Nat) (s : State), p < 64 → c < 16 → s.rd R.PAR_CTX_CFG_STATE 0 [p, c] ≠ 0 → exec (.parZero p) s = .next s) ∧
  (∀ (p : Nat) (s : State), p < 64 → s.rdB R.PAR_STATUS_ZERO_BUSY 0 [p] = true → (∃ r ∈ s.reqs, r.owner = .post (.zero p)) → exec (.parZeroDone p) s = .next s) ∧
  (∀ (p : Nat) (s : State), p < 64 → (∀ r ∈ s.reqs, r.owner ≠ .post (.zero p)) → ∃ u, exec (.parZeroDone p) s = .next u ∧ u.rdB R.PAR_STATUS_ZERO_BUSY 0 [p] = false) ∧
  (∀ (p c v : Nat) (s : State), p < 64 → c < 16 → v < 2 ^ 32 → bit v 31 = true → s.rd R.PAR_CTX_CFG_STATE 0 [p, c] = 0 →
    ∃ u, exec (.ctxEnable p c v) s = .next u ∧ u.rd R.PAR_CTX_CFG_STATE 0 [p, c] = 1 ∧ u.rdB R.PAR_CTX_CFG_ENABLE 0 [p, c] = true ∧
      u.rd R.PAR_CTX_CFG_CONFIDENTIAL 0 [p, c] = bits v 30 1 ∧ u.rd R.SEC_DISCLOSE 0 [16 * p + c] = 0 ∧
      SMap.look u.ctxs (16 * p + c) = some { inst := s.tick, key := none, slots := [], weights := [] }) ∧
  (∀ (p c v : Nat) (s : State), p < 64 → c < 16 → v < 2 ^ 32 → bit v 31 = true → s.rd R.PAR_CTX_CFG_STATE 0 [p, c] = 3 →
    exec (.ctxEnable p c v) s = .next ((s.cfgErr .PAR_P 0 [p, c] (R.PAR_CTX_CFG_ENABLE.offset [p, c])).withQueue s.pending)) ∧
  (∀ (p c v : Nat) (s : State), p < 64 → c < 16 → v < 2 ^ 32 → bit v 31 = false → s.ctxLive p c = true → bits v 30 1 = s.rd R.PAR_CTX_CFG_CONFIDENTIAL 0 [p, c] →
    (s.ctxBusy p c = false → exec (.ctxDisable p c v) s = .next ((s.ctxEnd p c).withQueue s.pending)) ∧
    (s.ctxBusy p c = true → exec (.ctxDisable p c v) s = .next ((s.cfgErr .PAR_P 0 [p, c] (R.PAR_CTX_CFG_ENABLE.offset [p, c])).withQueue s.pending))) ∧
  (∀ (v : Nat) (s : State), v < 2 ^ 32 → s.units = [] → s.dirs = [] → (∀ i < 4, s.rd R.COH_ISL_STATE_STATE 0 [i] ≠ 2) →
    (∀ p < 64, s.rdB R.PAR_CFG_ENABLE 0 [p] = false) → shapeOk (fun d => bits v (2 * d) 2) = true →
    ∃ u, exec (.hubIslandWrite v) s = .next u ∧ (∀ d < 4, u.island d = bits v (2 * d) 2) ∧
      ((∃ d < 4, s.island d ≠ bits v (2 * d) 2) → ∀ i < 4, (u.rd R.COH_ISL_STATE_STATE 0 [i] = 1 ↔
        ∃ d < 4, bits v (2 * d) 2 = i ∧ s.rd R.COH_ISL_STATE_STATE 0 [s.island d] = 1))) ∧
  (∀ (v : Nat) (s : State), v < 2 ^ 32 → (∃ d < 4, s.island d ≠ bits v (2 * d) 2) → (s.units ≠ [] ∨ s.dirs ≠ [] ∨ shapeOk (fun d => bits v (2 * d) 2) = false) →
    exec (.hubIslandWrite v) s = .next ((s.cfgErr .HUB 0 [] (R.HUB_ISLAND_HD0_ISL.offset [])).withQueue s.pending))

/-- Attestation and confidential contexts (R499 to R510), once no answer of memory they need is missing (log entry 119): a report and an identity answer are
made by the signing operation, which refuses a short buffer, a spent signing counter and a package without identity, and is BUSY without a token, of which the
bucket gains one each PERIOD_MS; a key pair is generated for a confidential context; LOAD_KEY keeps the key of a blob whose tag holds; DECRYPT_WEIGHTS is
taken up, then writes plaintext that authenticates and clears one that does not. The test port reaches the dies, and the bays whose rail is on (R387, R574,
R575). Of the model, not the spec: the cryptographic functions are opaque, log entry 5; signatures that take a token are log entry 36, corners log entries 91
and 93, and what an instrument returns log entry 94. -/
def Obligations.AttestationCommandsComplete : Prop :=
  (∀ (p : Nat) (m : Mgmt) (s : State), MgmtReady s p 0x40 m (m.unusedSet false true true 0 0x34) → (s.attest m).ask = [] →
    exec (.attest p) s = .next ((s.attest m).withQueue s.pending)) ∧
  (∀ (p : Nat) (m : Mgmt) (s : State), MgmtReady s p 0x43 m (m.unusedSet false true true 0 0x14) → (s.getIdentity m).ask = [] →
    exec (.getIdentity p) s = .next ((s.getIdentity m).withQueue s.pending)) ∧
  (∀ (m : Mgmt) (len : Nat) (f : State → Nat → Nat → List Byte) (s : State), m.out = [] →
    (m.len < len → s.signed m len false f = s.mgmtAnswer m 9 0 0x12) ∧
    (len ≤ m.len → s.signSpent = true → s.signed m len false f = s.mgmtAnswer m 9 0 0x13) ∧
    (len ≤ m.len → s.signSpent = false → s.signer = none → s.signed m len false f = s.mgmtAnswer m 9 0 0x18) ∧
    (∀ k, len ≤ m.len → s.signSpent = false → s.signer = some k → s.sec.cert ≠ .none → s.rdB R.SEC_STATUS_ACTIVATING 0 = false →
      (s.tokens = 0 → s.signed m len false f = s.attBusy m (s.ticksTo s.nextToken)) ∧
      (∀ r t, s.tokens ≠ 0 → s.probe (s.packVirt m.part m.ctx) m.addr len = (.ok r, t) → s.signed m len false f =
        State.signedOut { t.takeIndex.2 with mgmts := t.takeIndex.2.mgmts.map (fun (x : Mgmt) =>
          if x.part == m.part && x.entry == m.entry then { x with out := f t.takeIndex.2 t.takeIndex.1 k } else x) } m (f t.takeIndex.2 t.takeIndex.1 k)))) ∧
  (∀ (m : Mgmt) (bs r : List Byte) (s t : State), s.virtWriteV (s.packVirt m.part m.ctx) m.addr bs = (.ok r, t) → (t.mgmtAnswer m 0 bs.length 0).ask = [] →
    s.signedOut m bs = t.mgmtAnswer m 0 bs.length 0) ∧
  (∀ s : State, s.sec.signNext.getD 0 ≠ s.blocksUsed * 2 ^ 16 → s.signSpent = false →
    ∃ v : State, s.takeIndex.1 = s.sec.signNext.getD 0 ∧ s.takeIndex.2 = (if v.signSpent then v.secEvent R.SEC_EVENT_SIGN_EXHAUSTED else v) ∧
      v.sec.signNext = some (s.sec.signNext.getD 0 + 1) ∧ v.sec.tokens = s.tokens - 1) ∧
  (∀ (dt : Nat) (s : State), (s.nextToken ≤ (s.at_ dt).now → ∃ u, exec (.signTokenRefill dt) s = .next u ∧
      u.sec.tokens = min (s.rd R.SEC_ATT_RATE_BURST 0) (s.sec.tokens + 1) ∧ u.sec.tokenAt = (s.at_ dt).now) ∧
    ((s.at_ dt).now < s.nextToken → exec (.signTokenRefill dt) s = .next s)) ∧
  (∀ (p c : Nat) (i : CtxInfo) (s : State), p < 64 → c < 16 → SMap.look s.ctxs (16 * p + c) = some i → s.confidential p c = true → i.key = none →
    ∃ u, exec (.ekGenerated p c) s = .next u ∧ SMap.look u.ctxs (16 * p + c) = some { i with key := some s.nextKey } ∧ u.nextKey = s.nextKey + 1) ∧
  (∀ (p k : Nat) (host blob key : List Byte) (m : Mgmt) (s t u : State), MgmtReady s p 0x41 m (m.unusedSet true true true 3 0x14) → m.part = p →
    s.confidential p m.ctx = true → (s.ctxInfo p m.ctx).key = some k → m.len = 1628 → s.virtReadH (s.packVirt p m.ctx) m.addr 1628 host = (.ok blob, t) →
    t.unwrap p m.ctx k (s.ctxInfo p m.ctx).inst blob = some key →
    u = (t.setInfo p m.ctx { s.ctxInfo p m.ctx with slots := SMap.ins (s.ctxInfo p m.ctx).slots (m.nat 2 2 % 8) key }).mgmtAnswer m 0 0 0 → u.ask = [] →
    exec (.loadKey p host) s = .next (u.withQueue s.pending)) ∧
  (∀ (p : Nat) (host : List Byte) (m : Mgmt) (s : State), MgmtReady s p 0x41 m (m.unusedSet true true true 3 0x14) → m.part = p → s.confidential p m.ctx = false →
    (s.mgmtAnswer m 9 0 0x11).ask = [] → exec (.loadKey p host) s = .next ((s.mgmtAnswer m 9 0 0x11).withQueue s.pending)) ∧
  (∀ (p : Nat) (host key : List Byte) (m : Mgmt) (s : State), MgmtReady s p 0x42 m (m.unusedSet true true true 3 0x40 || m.len == 0 || m.len % 64 != 0 ||
      m.nat 0x14 8 % 64 != 0 || decide (2 ^ 47 ≤ m.nat 0x14 8)) → s.decryptJob p = none → m.part = p → s.confidential p m.ctx = true →
    (s.ctxInfo p m.ctx).weights.length < 1024 → SMap.look (s.ctxInfo p m.ctx).slots (m.nat 2 2 % 8) = some key → s.ask = [] →
    exec (.decryptWeights p host) s = .next (s.mgmtStage m (if s.rd R.PAR_CTX_CFG_STATE 0 [p, m.ctx] = 1 then 3 else 4))) ∧
  (∀ (p n die : Nat) (host key ct r r' : List Byte) (m : Mgmt) (s s0 t v u w : State), p < 64 → s.decryptJob p = some m →
    s.rd R.PAR_CTX_CFG_STATE 0 [p, m.ctx] = 1 → SMap.look (s.ctxInfo p m.ctx).slots (m.nat 2 2 % 8) = some key →
    s.engineDie p m.ctx (m.nat 0x14 8) = (die, s0) → s0.readSome (.dog die p m.ctx) m.addr m.len host = (ct, .ok r, t) →
    t.writeSome (.dog die p m.ctx) (m.nat 0x14 8) (gcmPlain key ((m.cmd.drop 0x1C).take 12) ct) = (n, .ok r', v) →
    u = (v.setInfo p m.ctx { s.ctxInfo p m.ctx with weights := (s.ctxInfo p m.ctx).weights ++
        [(shake256 32 (gcmPlain key ((m.cmd.drop 0x1C).take 12) ct), m.len, m.nat 0x38 8)] }).mgmtAnswer m 0
        (leNat ((shake256 32 (gcmPlain key ((m.cmd.drop 0x1C).take 12) ct)).take 8)) (s.ctxInfo p m.ctx).weights.length →
    w = (((v.writeSome (.dog die p m.ctx) (m.nat 0x14 8) (List.replicate m.len 0)).2.2).secEvent R.SEC_EVENT_AUTH_FAIL).mgmtAnswer m 9 0 0x15 →
    (gcmTag key ((m.cmd.drop 0x1C).take 12) ((m.cmd.drop 0x38).take 8) ct = (m.cmd.drop 0x28).take 16 → u.ask = [] →
      exec (.decryptWeights p host) s = .next (u.withQueue s.pending)) ∧
    (gcmTag key ((m.cmd.drop 0x1C).take 12) ((m.cmd.drop 0x38).take 8) ct ≠ (m.cmd.drop 0x28).take 16 → w.ask = [] →
      exec (.decryptWeights p host) s = .next (w.withQueue s.pending))) ∧
  (∀ (p : Nat) (host : List Byte) (m : Mgmt) (s : State), p < 64 → s.decryptJob p = some m → s.rd R.PAR_CTX_CFG_STATE 0 [p, m.ctx] ≠ 1 →
    (s.rd R.PAR_CTX_CFG_STATE 0 [p, m.ctx] ≠ 2 ∨ m.stage ≠ 4) → (s.mgmtAnswer m 5 0 3).ask = [] →
    exec (.decryptWeights p host) s = .next ((s.mgmtAnswer m 5 0 3).withQueue s.pending)) ∧
  (∀ (d g place : Nat) (s : State), d < 4 → g < 3 → s.jtagReach d g = true → place = (if g = 0 then d else 3 + 2 * d + g) →
    (∃ u, exec (.jtagInstruction d g 1) s = .next u ∧ u.out = s.out ++ [.jtag place [1, Config.freeNat s.free % 2 ^ 32]] ∧ u.regs = s.regs) ∧
    (s.lcs ≠ 3 → ∃ u, exec (.jtagInstruction d g 0) s = .next u ∧ u.out = s.out ++ [.jtag place [0]] ∧ u.regs = s.regs) ∧
    (s.lcs = 3 → exec (.jtagInstruction d g 0) s = .next s ∧ exec (.jtagInstruction d g 2) s = .next s) ∧
    (s.lcs ≠ 3 → exec (.jtagInstruction d g 2) s = .next (((s.touchAll.useFree 1).send (.jtag place [2, Config.freeNat s.free])).withQueue s.pending))) ∧
  (∀ (d g k : Nat) (s : State), d < 4 → g < 3 → k < 3 → s.jtagReach d g = false → exec (.jtagInstruction d g k) s = .next s)

/-- Firmware and the life cycle (R495 to R497, R511 to R517): STAGE holds the outcome until the stage is done, a good image goes to the other slot and a bad
one is reported; ACTIVATE waits for the boundary and swaps the slots at its end; COMMIT_SVN raises the floor; an armed command that nothing stands against
runs and one that is not armed is refused; the commands carry their marks to the end. Of the model, not the spec: the order of refusals is log entry 90, and
staging log entry 92. -/
def Obligations.LifeCycleCommandsComplete : Prop :=
  (∀ s : State, s.staging = false → s.activating = false →
    ∃ u, exec .packStage s = .next u ∧ u.sec.staging = some (s.rd R.SEC_PACK_SRC_SRC 0, s.rd R.SEC_PACK_LEN_LEN 0) ∧ u.rdB R.SEC_STATUS_STAGING 0 = true) ∧
  (∀ s : State, (s.staging = true ∨ s.activating = true) → exec .packStage s = .next ((s.cfgErr .SEC 0 [] R.SEC_CTRL_STAGE.base).withQueue s.pending)) ∧
  (∀ (a n k : Nat) (o : Option Firmware) (s t : State), s.sec.staging = some (a, n) → s.stageOutcome a n = (t, k, o) → t.ask = [] →
    ∃ u, exec .packStageDone s = .next u ∧
      match o with
      | none => ∃ v : State, u = (v.secEvent R.SEC_EVENT_PACK_REJECT).withQueue s.pending ∧ v.sec = { t.sec with staging := none } ∧
          v.rdB R.SEC_STATUS_STAGING 0 = false ∧ v.rd R.SEC_PACK_RESULT 0 = k % 2 ^ R.SEC_PACK_RESULT.width
      | some f => u.rdB R.SEC_STATUS_STAGING 0 = false ∧ u.sec = (if Config.fwIsCollar (f.bytes false) then { t.sec with staging := none, collarSlots := t.sec.collarSlots.set (1 - t.sec.collarSlot) (some f) }
          else { t.sec with staging := none, packSlots := t.sec.packSlots.set (1 - t.sec.packSlot) (some f), staged := true })) ∧
  (∀ (a n : Nat) (s : State), (n = 0 ∨ 2 ^ 23 < n → s.stageOutcome a n = (s, 4, none)) ∧ (0 < n → n ≤ 2 ^ 23 → a % 64 ≠ 0 → s.stageOutcome a n = (s, 3, none))) ∧
  (∀ s : State, s.sec.staged = true → s.activating = false → ∃ u, exec .packActivate s = .next u ∧ u.sec.activateDue = true ∧ u.regs = s.regs) ∧
  (∀ s : State, s.sec.staged = false → exec .packActivate s = .next ((s.cfgErr .SEC 0 [] R.SEC_CTRL_ACTIVATE.base).withQueue s.pending)) ∧
  (∀ s : State, s.rdB R.SEC_STATUS_ACTIVATING 0 = true → ∃ v : State, exec .packActivateDone s = .next ((v.secEvent R.SEC_EVENT_PACK_ACTIVE).withQueue s.pending) ∧
    v.sec = { s.sec with packSlot := 1 - s.sec.packSlot, staged := false }) ∧
  (∀ (f : Firmware) (s : State), s.slotPack s.sec.packSlot = some f →
    ∃ u, exec .commitSvn s = .next u ∧ u.sec = { s.sec with packFloor := max s.sec.packFloor (f.svn false) } ∧ u.regs = s.regs) ∧
  (∀ (v dt : Nat) (s : State), v < 2 ^ 32 → ∃ u, exec (.lcsArm v dt) s = .next u ∧ u.regs = s.regs ∧
    u.sec.lcsArmed = (if v / 16 = 0x4C43530 then some (v % 16, max s.now (s.rd R.TCK_TOD 0 + dt)) else none)) ∧
  (∀ (c : Instr) (dt k : Nat) (s : State), ((c = .genIdentity dt ∧ k = 1) ∨ (c = .installCert dt ∧ k = 2) ∨ (c = .toProduction dt ∧ k = 3) ∨
      (c = .toEndOfLife dt ∧ k = 4)) →
    (∀ a t, s.sec.lcsArmed = some (a, t) → a ≠ k ∨ t + 10 ^ 9 < (s.at_ dt).now) →
    ∃ u, exec c s = .next u ∧ u.rdB R.LCS_RESULT_DONE 0 = true ∧ u.rd R.LCS_RESULT_REASON 0 = 1 ∧ u.sec = { s.sec with lcsArmed := none }) ∧
  (∀ (dt t : Nat) (s : State), s.sec.lcsArmed = some (1, t) → (s.at_ dt).now ≤ t + 10 ^ 9 → s.lcsBusy = false → s.lcs = 1 →
    s.sec.banks.contains 2 = false → s.sec.banks.contains 0 = true →
    ∃ u, exec (.genIdentity dt) s = .next u ∧ u.sec.banks = s.sec.banks.set (if s.sec.banks.getD 0 0 = 0 then 0 else 1) 1 ∧ u.sec.lcsRun = some 1 ∧ u.regs = s.regs) ∧
  (∀ (dt t : Nat) (s : State), s.sec.lcsArmed = some (2, t) → (s.at_ dt).now ≤ t + 10 ^ 9 → s.lcsBusy = false → s.lcs = 1 → s.rdB R.LCS_STATE_ID_READY 0 = true →
    ∃ u, exec (.installCert dt) s = .next u ∧ u.sec.lcsRun = some 2 ∧ u.regs = s.regs) ∧
  (∀ (dt t : Nat) (s : State), s.sec.lcsArmed = some (3, t) → (s.at_ dt).now ≤ t + 10 ^ 9 → s.lcsBusy = false → s.lcs = 1 →
    (∀ p < 64, s.rdB R.PAR_CFG_ENABLE 0 [p] = false) → s.rdB R.LCS_STATE_ID_READY 0 = true → s.sec.cert ≠ .none →
    ∃ u, exec (.toProduction dt) s = .next u ∧ u.sec.lcsRun = some 3 ∧ u.regs = s.regs) ∧
  (∀ (dt t : Nat) (s : State), s.sec.lcsArmed = some (4, t) → (s.at_ dt).now ≤ t + 10 ^ 9 → s.lcsBusy = false → s.lcs ≠ 3 →
    ∃ v : State, exec (.toEndOfLife dt) s = .next ((v.each ((List.range 64).filter (fun p => v.rdB R.PAR_CFG_ENABLE 0 [p])) State.partReset).withQueue s.pending) ∧
      v.rd R.LCS_STATE_TARGET 0 = 3 ∧ v.rd R.LCS_STATE_LAST_MARK 0 = 1 ∧ v.sec.lcsRun = some 4) ∧
  (∀ (b : Nat) (s : State), s.sec.lcsRun = some 1 → s.ask = [] → (List.range 2).find? (fun b => s.sec.banks.getD b 0 == 1) = some b →
    ∃ u, exec .lcsCommandDone s = .next u ∧ u.sec = { s.sec with lcsRun := none, banks := s.sec.banks.set b 2 } ∧ u.rdB R.LCS_STATE_ID_READY 0 = true ∧
      u.rd R.LCS_STATE_ID_BANK 0 = b ∧ u.rdB R.LCS_RESULT_DONE 0 = true ∧ u.rd R.LCS_RESULT_REASON 0 = 0) ∧
  (∀ (b : List Byte) (s t : State), s.sec.lcsRun = some 2 → ({ s with sec := { s.sec with lcsRun := none } } : State).lcsBlob = (t, some b) → t.ask = [] →
    ∃ u, exec .lcsCommandDone s = .next u ∧ u.rdB R.LCS_RESULT_DONE 0 = true ∧
      (t.certOk b = true → u.sec = { t.sec with cert := .installed (b.take (leNat ((b.drop 4).take 4))) } ∧ u.rd R.LCS_STATE_CERT 0 = 1 ∧
        u.rd R.LCS_RESULT_REASON 0 = 0) ∧
      (t.certOk b = false → u.sec = t.sec ∧ u.rd R.LCS_RESULT_REASON 0 = 5)) ∧
  (∀ (b : List Byte) (s t : State), s.sec.lcsRun = some 3 → s.boot.starting = false → s.rd R.LCS_STATE_TARGET 0 = 15 → s.lcsBlob = (t, some b) → t.ask = [] →
    ∃ u, exec .lcsCommandDone s = .next u ∧
      (t.tokenOk b = true → u.rd R.LCS_STATE_TARGET 0 = 2 ∧ u.rd R.LCS_STATE_LAST_MARK 0 = 1 ∧ u.sec = t.sec) ∧
      (t.tokenOk b = false → u.rdB R.LCS_RESULT_DONE 0 = true ∧ u.rd R.LCS_RESULT_REASON 0 = 6 ∧ u.sec = { t.sec with lcsRun := none })) ∧
  (∀ (b : List Byte) (s : State), s.tokenOk b = true ↔ ∃ i < 4, Config.xmssVerify (Config.authorityKey 2 i) s.tokenBody b = true) ∧
  (∀ s : State, s.sec.lcsRun = some 3 → s.ask = [] → s.boot.starting = false → s.rd R.LCS_STATE_TARGET 0 ≠ 15 → s.rd R.LCS_STATE_LAST_MARK 0 = 1 →
    ∃ u, exec .lcsCommandDone s = .next u ∧ u.rd R.LCS_STATE_LAST_MARK 0 = 2 ∧ u.sec = { s.sec with testId := false, signNext := none } ∧
      u.rd R.SEC_STATUS_BLOCKS_USED 0 = 0) ∧
  (∀ s : State, s.sec.lcsRun = some 4 → s.scrapStep.ask = [] → exec .lcsCommandDone s = .next (s.scrapStep.withQueue s.pending)) ∧
  (∀ s : State, s.sec.lcsRun = none → s.ask = [] → exec .lcsCommandDone s = .next s)

/-- Power and package starts (R20, R22, R423, R520 to R532, R551, R570, R571): power that comes and goes, the decision between cold and warm, the steps one
after the other, the failures that end a start, the waves of clusters, and a die that leaves reset. Of the model, not the spec: what memory keeps is log entry
95. -/
def Obligations.StartCommandsComplete : Prop :=
  (∀ s : State, ∃ u, exec .vauxPowerOn s = .next u ∧ u.dram = [] ∧ u.boot.vauxLost = true ∧ u.boot.storeGood = false ∧ u.boot.mainOff = true ∧
    u.rd R.SBR_STATUS_STATE 0 = 1 ∧ u.pending = s.pending) ∧
  (∀ (inTime : Bool) (s : State), s.boot.mainOff = false → ∃ u, exec (.powerDown inTime) s = .next u ∧ u.dram = [] ∧ u.boot.mainOff = true ∧
    u.boot.starting = true ∧ (inTime = false → u.boot.storeGood = false) ∧ u.units = [] ∧ u.rdB R.PCI_STATUS_READY 0 = false) ∧
  (∀ (inTime : Bool) (s : State), s.boot.mainOff = true → exec (.powerDown inTime) s = .next s) ∧
  (∀ s : State, s.boot.starting = true → s.rd R.BST_START_STEP 0 = 1 → s.rdB R.BST_START_FAILED 0 = false →
    ∃ u, exec .packageStart s = .next u ∧ u.boot.mainOff = false ∧ u.boot.vauxLost = false ∧ u.boot.reached = false ∧
      u.rdB R.BST_START_COLD 0 = (s.boot.vauxLost || !s.boot.storeGood || !s.boot.reached || s.rdB R.BST_NEXT_NEXT_COLD 0) ∧
      (∀ d < 4, u.rd R.SEC_DIE_STATE_DIE_GEN 0 [d] = (s.rd R.SEC_DIE_STATE_DIE_GEN 0 [d] + 1) % 2 ^ R.SEC_DIE_STATE_DIE_GEN.width) ∧
      ((s.boot.vauxLost || !s.boot.storeGood || !s.boot.reached || s.rdB R.BST_NEXT_NEXT_COLD 0) = true → u.boot.clearFails = [])) ∧
  (∀ s : State, s.boot.starting = false → exec .packageStart s = .next s) ∧
  (∀ (die ms : Nat) (fallback fatal : Bool) (mis vids chans clus ports mods bays engines repairs : List Nat) (s : State), die < 4 →
    exec (.startStep die ms fallback fatal mis vids chans clus ports mods bays engines repairs) s =
      .next ((s.startStep ⟨die, ms, fallback, fatal, mis, vids, chans, clus, ports, mods, bays, engines, repairs⟩).withQueue s.pending)) ∧
  (∀ (r : StepReport) (s : State), s.boot.starting = true → s.boot.mainOff = false → s.rdB R.BST_START_FAILED 0 = false → s.rd R.BST_START_STEP 0 = 5 → r.fatal = false →
    r.ms ≤ 50 → (s.startStep r).rd R.BST_START_STEP 0 = 6 ∧ (s.startStep r).rd R.BST_STEP_MS_ODD 0 [2] = min 65535 r.ms ∧ (s.startStep r).rd R.BST_START_DIE 0 = r.die % 4) ∧
  (∀ (r : StepReport) (s : State), s.boot.starting = true → s.boot.mainOff = false → s.rdB R.BST_START_FAILED 0 = false → s.rd R.BST_START_STEP 0 ≤ 11 →
    (r.fatal = true ∨ ∃ l, s.stepLimit (s.rd R.BST_START_STEP 0) r.fallback = some l ∧ l < r.ms) →
    ∃ v : State, s.startStep r = v.startFail r.die (scopeOf 7 0) ∧ v.rd R.BST_START_STEP 0 = s.rd R.BST_START_STEP 0) ∧
  (∀ (fallback : Bool) (s : State), s.stepLimit 1 fallback = some 50 ∧ s.stepLimit 2 fallback = some 800 ∧ s.stepLimit 4 fallback = some 300 ∧
    s.stepLimit 9 fallback = some 26000 ∧ s.stepLimit 10 fallback = some 500 ∧ s.stepLimit 11 fallback = some 1000 ∧
    s.stepLimit 6 fallback = some (if s.rd R.BST_START_COLD 0 = 0 ∧ fallback = false then 300 else 6000) ∧
    s.stepLimit 3 fallback = (if s.rd R.LCS_STATE_TARGET 0 = 15 then some 20 else none)) ∧
  (∀ (d scope : Nat) (s : State), ∃ v : State, s.startFail d scope = v.err 0 (.plain 10 5 3 scope v.startReg) ∧ v.rdB R.BST_START_FAILED 0 = true ∧
    v.rd R.BST_START_DIE 0 = d % 4 ∧ v.rd R.BST_START_STEP 0 = s.rd R.BST_START_STEP 0) ∧
  (∀ (d : Nat) (s : State), d < 4 → s.boot.starting = true → s.boot.mainOff = false → s.rdB R.BST_START_FAILED 0 = false → s.rd R.BST_START_STEP 0 < 12 →
    exec (.startStepTimeout d) s = .next ((s.startFail d (scopeOf 7 0)).withQueue s.pending)) ∧
  (∀ (d : Nat) (s : State), d < 4 → s.boot.starting = false → exec (.startStepTimeout d) s = .next s) ∧
  (∀ (d w dt : Nat) (s : State), d < 4 → (if s.boot.starting then s.rd R.BST_START_STEP 0 = 8 else s.rd R.PCI_STATUS_DSTATE 0 = 0) → s.dieRuns d = true →
    s.rdB R.PWR_STATUS_CORE_GOOD d = true → s.nextWave d = some w →
    (w = 0 ∨ SMap.get 0 s.boot.wavedAt d + s.rd R.PWR_WAVE_WAVE_US d * 1000 ≤ (s.at_ dt).now) →
    ∃ u, exec (.powerWave d dt) s = .next u ∧ u.now = (s.at_ dt).now ∧ (∀ i ∈ s.waveOf d w, u.cluOn d i = true) ∧ (∀ i < 144, i % 16 ≠ w → u.cluOn d i = s.cluOn d i)) ∧
  (∀ (d w dt : Nat) (s : State), d < 4 → s.nextWave d = some w → w ≠ 0 → (s.at_ dt).now < SMap.get 0 s.boot.wavedAt d + s.rd R.PWR_WAVE_WAVE_US d * 1000 →
    exec (.powerWave d dt) s = .next s) ∧
  (∀ (d : Nat) (s r v w : State), d < 4 → SMap.get 0 s.dies d = 1 → d ∉ s.heat.tripped → s.rd R.COH_ISL_STATE_STATE 0 [s.island d] = 2 →
    r = s.roll R.SEC_DIE_STATE_DIE_GEN 0 [d] 1 → v = ({ r with dies := SMap.put 0 s.dies d 0 } : State).wr R.HUB_POS_STRAP_POS d [] d →
    w = ((v.measureCollar d).measurePack d).railsUp (([0, 1, 2, 3] : List Nat).map (fun e => v.rd R.PWR_CORE_VID_MV e)) →
    exec (.dieResetRelease d d) s = .next ((((w.numberDie d).admitAgain d).memState d 1).withQueue s.pending) ∧ v.rd R.HUB_POS_STRAP_POS d = d ∧ v.dieRuns d = true ∧
    v.rd R.SEC_DIE_STATE_DIE_GEN 0 [d] = (s.rd R.SEC_DIE_STATE_DIE_GEN 0 [d] + 1) % 2 ^ R.SEC_DIE_STATE_DIE_GEN.width) ∧
  (∀ (d pos : Nat) (s : State), d < 4 → pos < 4 → pos ≠ d → SMap.get 0 s.dies d = 1 → d ∉ s.heat.tripped → s.rd R.COH_ISL_STATE_STATE 0 [s.island d] = 2 →
    exec (.dieResetRelease d pos) s = .next (((s.roll R.SEC_DIE_STATE_DIE_GEN 0 [d] 1).mismatch d pos).withQueue s.pending)) ∧
  (∀ (d pos : Nat) (s : State), d < 4 → pos < 4 → ∃ v : State, s.mismatch d pos = v.startFail d (scopeOf 9 d) ∧ v.rd R.HUB_POS_STRAP_POS d = pos ∧
    v.rdB R.HUB_POS_MISMATCH d = true ∧ v.dieRuns d = false) ∧
  (∀ (d pos : Nat) (s : State), d < 4 → pos < 4 → d ∈ s.heat.tripped → exec (.dieResetRelease d pos) s = .next s)

/-- Rotating BIST (R85, R86, R533 to R536): a nomination names the next exposed number, after 16 boundaries its cluster is blocked, after 64 it is given up; a
slice that passes gives its cluster back as a spare, one that fails enters the fail map. Of the model, not the spec: the count of spares is log entry 96. -/
def Obligations.RotatingBistCommandsComplete : Prop :=
  (∀ (d dt : Nat) (s : State), d < 4 → (s.bist d).since + s.rd R.BST_ROT_CFG_INTERVAL_MS d * 10 ^ 6 ≤ (s.at_ dt).now →
    exec (.bistNominate d dt) s = .next ((s.nominate d).withQueue s.pending)) ∧
  (∀ (d dt : Nat) (s : State), d < 4 → (s.at_ dt).now < (s.bist d).since + s.rd R.BST_ROT_CFG_INTERVAL_MS d * 10 ^ 6 → exec (.bistNominate d dt) s = .next s) ∧
  (∀ (d t : Nat) (s : State), d < 4 → s.rdB R.PCI_STATUS_READY 0 = true → s.dieRuns d = true → s.rotReason d = 0 → (s.bist d).target = none → (s.bist d).testing = none →
    t < 128 → t ∈ (s.bist d).numbers → (s.bist d).next ≤ t → (∀ i ∈ (s.bist d).numbers, (s.bist d).next ≤ i → t ≤ i) →
    ∃ v : State, s.nominate d = v.rotShow d ∧ v.bist d = { s.bist d with target := some t, tries := 0, next := t + 1 } ∧ v.rd R.CLU_STANDIN_TARGET d = t) ∧
  (∀ (d t : Nat) (s : State), d < 4 → (s.bist d).target = some t → 16 ≤ (s.bist d).tries →
    exec (.standinBlock d) s = .next ((s.setBlocked (128 * d + t) true).withQueue s.pending)) ∧
  (∀ (c : Nat) (b : Bool) (s : State), c < 512 → (s.setBlocked c b).clu c = { s.clu c with blocked := b } ∧
    ((s.rdClu R.CLU_STATUS_STATE c = 0 ∨ s.rdClu R.CLU_STATUS_STATE c = 6) → (s.setBlocked c b).rdClu R.CLU_STATUS_STATE c = if b then 6 else 0) ∧
    (s.rdClu R.CLU_STATUS_STATE c ≠ 0 → s.rdClu R.CLU_STATUS_STATE c ≠ 6 → (s.setBlocked c b).regs = s.regs)) ∧
  (∀ (d : Nat) (s : State), d < 4 → (s.bist d).tries < 16 → exec (.standinBlock d) s = .next s) ∧
  (∀ (d t : Nat) (s : State), d < 4 → (s.bist d).target = some t → 64 ≤ (s.bist d).tries → s.rdClu R.CLU_STATUS_STATE (128 * d + t) = 5 →
    exec (.bistNominationWithdraw d) s =
      .next ((((s.setBlocked (128 * d + t) false).setBist d { s.bist d with target := none, tries := 0 }).nominate d).withQueue s.pending)) ∧
  (∀ (d t : Nat) (s : State), d < 4 → (s.bist d).target = some t → ((s.bist d).tries < 64 ∨ s.rdClu R.CLU_STATUS_STATE (128 * d + t) ≠ 5) →
    exec (.bistNominationWithdraw d) s = .next s) ∧
  (∀ (d i t dt : Nat) (s : State), d < 4 → i < 144 → (s.bist d).testing = some (i, t) →
    (∃ v : State, exec (.bistSliceDone d true dt) s = .next (((v.countSpares d).rotShow d).withQueue s.pending) ∧
      v.bist d = { s.bist d with testing := none, spares := (s.bist d).spares ++ [i], since := (s.at_ dt).now } ∧ v.rd R.CLU_STANDIN_ACTIVE d = 0 ∧
      v.rd R.BST_SLICES d = min (2 ^ R.BST_SLICES.width - 1) (s.rd R.BST_SLICES d + 1)) ∧
    (∃ v : State, exec (.bistSliceDone d false dt) s = .next ((((v.gateFailed d).bstErr d 4 (scopeOf 8 (128 * d + t))).rotShow d).withQueue s.pending) ∧
      v.bist d = { s.bist d with testing := none, since := (s.at_ dt).now } ∧ v.failBit d i = true ∧ v.rdB R.BST_EVENT_SLICE_FAIL d = true)) ∧
  (∀ (d dt : Nat) (pass : Bool) (s : State), d < 4 → (s.bist d).testing = none → exec (.bistSliceDone d pass dt) s = .next s) ∧
  (∀ (d : Nat) (s : State), d < 4 → ∃ u, exec (.bstClearFails d) s = .next u ∧ d ∈ u.boot.clearFails ∧ u.regs = s.regs)

/-- The error engine and resets (R541 to R552, R556, R558, R559, R569): a new class takes the next entry of its queue while there is room; ERR_Q_ACK handles
what it counts; a cause of reset waits for its die, on HD0 it resets the package; rails, SRAM errors, withdrawn clusters and the Pack's watchdog. Of the
model, not the spec: causes that wait are log entry 98. -/
def Obligations.ErrorCommandsComplete : Prop :=
  (∀ (d : Nat) (e : Err) (s : State), d < 4 → e.src < 11 → e.sev < 3 → SMap.get 0 s.dies d ≠ 1 →
    (∀ r ∈ s.errs, ¬(r.die = d ∧ r.src = e.src ∧ r.code = e.code ∧ r.scope = e.scope ∧ r.sev = e.sev)) →
    s.unhandled d e.src + (s.waiting d e.src).length < (if e.sev = 0 then 12 else 16) →
    ∃ (v : State) (r : ErrRec), s.err d e = v.putErr r ∧ r.die = d ∧ r.wait = false ∧ r.seq = s.rd R.ERR_SEQ d ∧ r.tick = s.tick ∧ r.src = e.src ∧
      r.code = e.code ∧ r.scope = e.scope ∧ r.d0 = e.d0 ∧ v.rd R.ERR_SEQ d = (s.rd R.ERR_SEQ d + 1) % 2 ^ 32 ∧ v.dram = s.dram ∧ v.errs = s.errs) ∧
  (∀ (r : ErrRec) (s v : State), r.die < 4 → r.src < 11 → s.waiting r.die r.src = [] → s.writeErr r = some v →
    s.putErr r = v ∧
    ∃ (p : State) (q : ErrRec), q = { r with n := s.rd R.ERR_Q_HEAD r.die [r.src], held := r.wait, wait := false } ∧
      s.post (Agent.collar r.die) (.err r.die r.seq) (s.errAddr q) q.bytes = some p ∧ v.rd R.ERR_Q_HEAD r.die [r.src] = (p.rd R.ERR_Q_HEAD r.die [r.src] + 1) % 2 ^ 32) ∧
  (∀ (r : ErrRec) (s : State), r.die < 4 → s.writeErr r = none → ∃ u, s.putErr r = u ∧ u.rdB R.ERR_EVENT_QWRITE_FAIL r.die = true ∧ u.dram = s.dram ∧
    u.rd R.ERR_Q_HEAD r.die [r.src] = s.rd R.ERR_Q_HEAD r.die [r.src]) ∧
  (∀ (d : Nat) (e : Err) (s : State), d < 4 → e.src < 11 → e.sev < 3 → SMap.get 0 s.dies d = 1 → s.err d e = s) ∧
  (∀ (d : Nat) (s : State), d < 4 → exec (.heldRecordRetry d) s = .next ((s.heldRetry d).withQueue s.pending)) ∧
  (∀ (d src v : Nat) (s : State), d < 4 → src < 11 → v < 2 ^ 32 → s.dieRuns d = true →
    (v + 2 ^ 32 - s.rd R.ERR_Q_ACK d [src]) % 2 ^ 32 ≤ s.unhandled d src →
    ∃ u, exec (.errQAck d src v) s = .next u ∧ u.rd R.ERR_Q_ACK d [src] = v ∧
      u.errs = s.errs.filter (fun (r : ErrRec) => !(r.die == d && r.src == src && !r.wait && decide ((r.n + 2 ^ 32 - s.rd R.ERR_Q_ACK d [src]) % 2 ^ 32 <
        (v + 2 ^ 32 - s.rd R.ERR_Q_ACK d [src]) % 2 ^ 32)))) ∧
  (∀ (d src v : Nat) (s : State), d < 4 → src < 11 → v < 2 ^ 32 → s.dieRuns d = true →
    s.unhandled d src < (v + 2 ^ 32 - s.rd R.ERR_Q_ACK d [src]) % 2 ^ 32 →
    exec (.errQAck d src v) s = .next ((s.cfgErr .ERR d [] (R.ERR_Q_ACK.offset [src])).withQueue s.pending)) ∧
  (∀ (d cause : Nat) (s : State), d < 4 → d ≠ 0 → SMap.get 0 s.dies d ≠ 1 → (∀ x ∈ s.heat.resets, x.1 ≠ d) →
    s.askReset d cause = { s with heat := { s.heat with resets := s.heat.resets ++ [(d, cause)] } }) ∧
  (∀ (cause : Nat) (s : State), s.askReset 0 cause = s.packageReset) ∧
  (∀ (d : Nat) (s : State), d < 4 → exec (.clockLoss d) s = .next ((s.askReset d (10 * 256 + 4)).withQueue s.pending)) ∧
  (∀ (d : Nat) (s : State), d < 4 → d ≠ 0 → s.dieRuns d = true → exec (.deputySilent d) s = .next ((s.askReset d (10 * 256 + 3)).withQueue s.pending)) ∧
  (∀ (d : Nat) (s : State), d < 4 → (d = 0 ∨ s.dieRuns d = false) → exec (.deputySilent d) s = .next s) ∧
  (∀ (v : Nat) (s : State), v < 2 ^ 32 → exec (.dieResetWrite v) s = .next ((s.each (([1, 2, 3] : List Nat).filter (bit v)) (fun v d => v.askReset d (10 * 256 + 3))).withQueue s.pending)) ∧
  (∀ (d : Nat) (x : Nat × Nat) (s : State), d < 4 → s.heat.resets.find? (fun x => x.1 == d) = some x → exec (.dieReset d) s = .next ((s.dieReset d x.2).withQueue s.pending)) ∧
  (∀ (d : Nat) (s : State), d < 4 → (∀ x ∈ s.heat.resets, x.1 ≠ d) → exec (.dieReset d) s = .next s) ∧
  (∀ (rail n : Nat) (s : State), (rail = 2 ∨ rail = 3) → n < 8 → s.boot.mainOff = false → s.boot.starting = false →
    exec (.railFault rail n) s = .next (s.packageReset.withQueue s.pending)) ∧
  (∀ (rail n : Nat) (s v : State), rail < 2 → n < 4 → s.boot.mainOff = false → s.boot.starting = false → s.dieRuns n = true →
    v = (s.wr (if rail = 0 then R.PWR_STATUS_CORE_GOOD else R.PWR_STATUS_HBM_GOOD) n [] 0).railRecord n 0 (scopeOf 9 n) →
    exec (.railFault rail n) s = .next ((if n = 0 then v.packageReset else v.askReset n (10 * 256 + 3)).withQueue s.pending)) ∧
  (∀ (b : Nat) (s v : State), b < 8 → s.boot.mainOff = false → s.boot.starting = false → s.dieRuns (b / 2) = true →
    v = (s.wr (if b % 2 = 0 then R.PWR_STATUS_BAY_A_GOOD else R.PWR_STATUS_BAY_B_GOOD) (b / 2) [] 0).railRecord (b / 2) (b / 2) (scopeOf 2 b) →
    v.bayRd R.BAY_STATUS_STATE b ≠ 4 → exec (.railFault 4 b) s = .next (v.withQueue s.pending)) ∧
  (∀ (n : Nat) (s : State), n < 8 → s.boot.mainOff = false → ∃ u, exec (.railFault 5 n) s = .next u ∧ u.boot.vauxLost = true ∧ u.boot.storeGood = false ∧ u.sec.signNext = none) ∧
  (∀ (c : Nat) (s : State), c < 512 → s.dieRuns (c / 128) = true → s.cluExists c = true →
    exec (.sramError c true) s = .next ((s.err (c / 128) (s.cluErr c 1 0)).withQueue s.pending)) ∧
  (∀ (c : Nat) (s t : State), c < 512 → s.dieRuns (c / 128) = true → s.cluExists c = true →
    t = (match (s.clu c).unit.bind s.unit? with
      | some u => (s.err (c / 128) (s.cluErr c 2 1)).endUnit u.id ⟨4, 0x00000FFFFFFFFFFF, 0⟩
      | none => s.err (c / 128) (s.cluErr c 2 1)) →
    exec (.sramError c false) s = .next ((if c ∈ t.boot.failed then t else { t with boot := { t.boot with failed := t.boot.failed ++ [c] } } : State).withQueue s.pending)) ∧
  (∀ (c : Nat) (s : State), c < 512 → c ∈ s.boot.failed → (s.clu c).unit = none → (s.rdClu R.CLU_STATUS_STATE c = 0 ∨ s.rdClu R.CLU_STATUS_STATE c = 6) →
    exec (.clusterWithdraw c) s = .next ((s.withdraw c).withQueue s.pending)) ∧
  (∀ (c : Nat) (s : State), c < 512 → c ∉ s.boot.failed → exec (.clusterWithdraw c) s = .next s) ∧
  (∀ (d dt : Nat) (s : State), d < 4 → s.rd R.ERR_WDT_PACK_STATE d = 0 → s.dieRuns d = true → (∀ x ∈ s.heat.wdtTimes, x.1 ≠ d) →
    ∃ v : State, exec (.packWdtExpire d dt) s = .next (((v.err d (.plain 10 1 0 (scopeOf 9 d) (v.wdtReg d))).packCut d).withQueue s.pending) ∧
      v.rd R.ERR_WDT_PACK_STATE d = 1 ∧ v.rdB R.ERR_EVENT_PACK_WDT d = true ∧ v.heat.wdtTimes = s.heat.wdtTimes ++ [(d, v.now)] ∧
      v.rd R.ERR_WDT_RESETS d = min (2 ^ R.ERR_WDT_RESETS.width - 1) (s.rd R.ERR_WDT_RESETS d + 1)) ∧
  (∀ (d dt : Nat) (s : State), d < 4 → s.rd R.ERR_WDT_PACK_STATE d = 0 → s.dieRuns d = true →
    2 ≤ (s.heat.wdtTimes.filter (fun x => x.1 == d && decide ((s.at_ dt).now ≤ x.2 + 600 * 10 ^ 9))).length →
    ∃ v w : State, w = v.err d (.plain 10 1 0 (scopeOf 9 d) (v.wdtReg d)) ∧ v.rd R.ERR_WDT_PACK_STATE d = 2 ∧
      exec (.packWdtExpire d dt) s = .next (((w.err d (.plain 10 2 1 (scopeOf 9 d) (w.wdtReg d))).packCut d).withQueue s.pending)) ∧
  (∀ (d : Nat) (s : State), d < 4 → s.rd R.ERR_WDT_PACK_STATE d = 1 → ∃ u, exec (.packRestartDone d) s = .next u ∧ u.rd R.ERR_WDT_PACK_STATE d = 0) ∧
  (∀ (d : Nat) (s : State), d < 4 → s.rd R.ERR_WDT_PACK_STATE d ≠ 1 → exec (.packRestartDone d) s = .next s)

/-- Heat, power, telemetry and ageing (R551, R553, R554, R560 to R563, R576): the level follows the reading with its hysteresis; TCLK is 4/16 at HOLD and
moves a sixteenth at a time; a die at 105 °C asks for its reset; the power cap begins after ten milliseconds above the limit; PROCHOT_N caps TCLK at 8/16. Of
the model, not the spec: the power cap is log entry 100, and the slots of snapshots log entry 101. -/
def Obligations.HeatCommandsComplete : Prop :=
  (∀ old t throttle : Nat, throttle ≤ 100 → old ≤ 2 → (100 ≤ t → nextLevel old t throttle = 2) ∧ (t < 100 → throttle ≤ t → old < 2 → nextLevel old t throttle = 1) ∧
    (t + 3 < throttle → nextLevel old t throttle = if old = 2 ∧ 97 ≤ t then 2 else 0) ∧ (old = 2 → 97 ≤ t → nextLevel old t throttle = 2) ∧
    (old = 1 → t < 100 → throttle ≤ t + 3 → nextLevel old t throttle = 1) ∧ (old = 0 → t < throttle → t < 100 → nextLevel old t throttle = 0)) ∧
  (∀ (d t : Nat) (s : State), d < 4 → SMap.get 0 s.dies d ≠ 1 → s.rd R.ERR_THERMAL_LEVEL d ≤ 2 → nextLevel (s.rd R.ERR_THERMAL_LEVEL d) t (s.rd R.ERR_THERMAL_THROTTLE_C d) ≤ s.rd R.ERR_THERMAL_LEVEL d →
    ∃ v : State, exec (.thermalSample d t) s = .next ((v.tclkShow d).withQueue s.pending) ∧ v.rd R.ERR_THERMAL_TEMP d = min 255 t ∧
      v.rd R.ERR_THERMAL_LEVEL d = nextLevel (s.rd R.ERR_THERMAL_LEVEL d) t (s.rd R.ERR_THERMAL_THROTTLE_C d) ∧
      v.heat = { s.heat with hotReads := SMap.put 0 s.heat.hotReads d (if 105 ≤ t then SMap.get 0 s.heat.hotReads d + 1 else 0) } ∧ v.errs = s.errs) ∧
  (∀ (d t : Nat) (s : State), d < 4 → SMap.get 0 s.dies d ≠ 1 → s.rd R.ERR_THERMAL_LEVEL d = 0 → t < 100 → s.rd R.ERR_THERMAL_THROTTLE_C d ≤ t →
    ∃ v : State, exec (.thermalSample d t) s = .next ((v.err d (.plain 9 3 0 (scopeOf 9 d) (v.thermalReg d))).withQueue s.pending) ∧
      v.rd R.ERR_THERMAL_LEVEL d = 1 ∧ v.rdB R.ERR_EVENT_THERMAL d = true ∧ v.errs = s.errs) ∧
  (∀ (d t : Nat) (s : State), d < 4 → SMap.get 0 s.dies d ≠ 1 → s.rd R.ERR_THERMAL_LEVEL d < 2 → 100 ≤ t →
    ∃ v : State, exec (.thermalSample d t) s = .next ((v.err d (.plain 9 3 0 (scopeOf 9 d) (v.thermalReg d))).withQueue s.pending) ∧
      v.rd R.ERR_THERMAL_LEVEL d = 2 ∧ v.rdB R.ERR_EVENT_THERMAL d = true ∧
      (∀ b, b / 2 = d → s.bayLive b = true → (v.bayInfo b).plimit = min (classLimit (s.bayInfo b).cls) (s.bayRd R.BAY_PLIMIT b) / 2)) ∧
  (∀ (d : Nat) (s : State), d < 4 → min (s.tclkDie d) s.heat.tclkCap ≤ 16 →
    (s.tclkShow d).rd R.ERR_THERMAL_TCLK_16 d = (if s.rd R.ERR_THERMAL_LEVEL d = 2 then 4 else min (s.tclkDie d) s.heat.tclkCap)) ∧
  (∀ (d t : Nat) (s : State), d < 4 → SMap.get 0 s.dies d = 1 → t < 90 → ∃ u, exec (.thermalSample d t) s = .next u ∧ d ∉ u.heat.tripped ∧ u.regs = s.regs) ∧
  (∀ (d t : Nat) (s : State), d < 4 → SMap.get 0 s.dies d = 1 → 90 ≤ t → exec (.thermalSample d t) s = .next s) ∧
  (∀ (d dt : Nat) (s : State), d < 4 → s.dieRuns d = true →
    (∀ l, SMap.look s.heat.tclkAt d = some l → l + (if 1 ≤ s.rd R.ERR_THERMAL_LEVEL d then 10 ^ 5 else 10 ^ 6) ≤ (s.at_ dt).now) →
    ∃ v : State, exec (.tclkAdjust false d dt) s = .next ((v.tclkShow d).withQueue s.pending) ∧ v.regs = s.regs ∧
      v.tclkDie d = (if 1 ≤ s.rd R.ERR_THERMAL_LEVEL d then max 8 (s.tclkDie d - 1) else min 16 (s.tclkDie d + 1))) ∧
  (∀ (d dt l : Nat) (s : State), d < 4 → SMap.look s.heat.tclkAt d = some l →
    (s.at_ dt).now < l + (if 1 ≤ s.rd R.ERR_THERMAL_LEVEL d then 10 ^ 5 else 10 ^ 6) → exec (.tclkAdjust false d dt) s = .next s) ∧
  (∀ (d dt : Nat) (s : State), d < 4 → s.heat.prochot = false →
    (∀ l, SMap.look s.heat.tclkAt 4 = some l → l + (if s.heat.capOn then 10 ^ 6 else 10 ^ 7) ≤ (s.at_ dt).now) →
    ∃ v : State, exec (.tclkAdjust true d dt) s = .next ((v.each v.upDies State.tclkShow).withQueue s.pending) ∧ v.regs = s.regs ∧
      v.heat = { s.heat with tclkCap := if s.heat.capOn then max 8 (s.heat.tclkCap - 1) else min 16 (s.heat.tclkCap + 1), tclkAt := SMap.ins s.heat.tclkAt 4 (s.at_ dt).now }) ∧
  (∀ (d dt : Nat) (s : State), d < 4 → s.heat.prochot = true → exec (.tclkAdjust true d dt) s = .next s) ∧
  (∀ (d : Nat) (s : State), 1 ≤ d → d < 4 → 10 ≤ SMap.get 0 s.heat.hotReads d → s.dieRuns d = true → (∀ x ∈ s.heat.resets, x.1 ≠ d) →
    ∃ u, exec (.thermalTrip d) s = .next u ∧ d ∈ u.heat.tripped ∧ u.heat.resets = s.heat.resets ++ [(d, 9 * 256 + 4)] ∧ u.regs = s.regs) ∧
  (∀ s : State, 10 ≤ SMap.get 0 s.heat.hotReads 0 → s.dieRuns 0 = true →
    exec (.thermalTrip 0) s = .next ((s.err 0 (.plain 9 4 3 (scopeOf 9 0) (s.thermalReg 0))).packageReset.withQueue s.pending)) ∧
  (∀ (d : Nat) (s : State), d < 4 → SMap.get 0 s.heat.hotReads d < 10 → exec (.thermalTrip d) s = .next s) ∧
  (∀ (p : Nat) (s : State), s.heat.capOn = false → s.rd R.ERR_PKG_POWER_LIMIT_W 0 < p →
    (s.heat.overMs < 9 → ∃ u, exec (.pkgPowerSample p) s = .next u ∧ u.rd R.ERR_PKG_POWER_POWER_W 0 = min 65535 p ∧ u.heat = { s.heat with overMs := s.heat.overMs + 1 }) ∧
    (9 ≤ s.heat.overMs → ∃ v : State, exec (.pkgPowerSample p) s = .next (v.capRecord.withQueue s.pending) ∧
      v.heat = { s.heat with overMs := s.heat.overMs + 1, capOn := true } ∧ v.rd R.ERR_PKG_POWER_POWER_W 0 = min 65535 p)) ∧
  (∀ (p : Nat) (s : State), p < s.rd R.ERR_PKG_POWER_LIMIT_W 0 → ∃ u, exec (.pkgPowerSample p) s = .next u ∧ u.heat = { s.heat with overMs := 0, capOn := false }) ∧
  (∀ s : State, s.heat.prochot = false → ∃ v : State, exec .prochot s = .next ((v.each v.upDies State.tclkShow).capRecord.withQueue s.pending) ∧ v.regs = s.regs ∧
    v.heat = { s.heat with prochot := true, tclkCap := min 8 s.heat.tclkCap }) ∧
  (∀ s : State, ∃ u, exec .prochotRelease s = .next u ∧ u.heat = { s.heat with prochot := false } ∧ u.regs = s.regs) ∧
  (∀ (d : Nat) (s : State), d < 4 → s.rd R.ERR_TEL_CFG_TEL_EVERY d ≠ 0 → s.tick % s.rd R.ERR_TEL_CFG_TEL_EVERY d = 0 → s.dieRuns d = true →
    ∃ v : State, (s.telSample d).heat.telDue = s.heat.telDue ++ [(d, v.telBytes d)] ∧ v.tick = s.tick ∧ v.dram = s.dram) ∧
  (∀ (d : Nat) (s : State), (s.rd R.ERR_TEL_CFG_TEL_EVERY d = 0 ∨ s.tick % s.rd R.ERR_TEL_CFG_TEL_EVERY d ≠ 0) → s.telSample d = s) ∧
  (∀ (d : Nat) (x : Nat × List Byte) (s v : State), d < 4 → s.heat.telDue.find? (fun x => x.1 == d) = some x →
    v = { s with heat := { s.heat with telDue := s.heat.telDue.erase x, telSlots := SMap.ins s.heat.telSlots d (SMap.get 0 s.heat.telSlots d + 1) } } →
    exec (.telSnapshot d) s = .next (((v.post { Agent.collar d with wcls := 3 } .none_ (s.rd R.ERR_TEL_BASE_BASE d * 2 ^ 16 +
      SMap.get 0 s.heat.telSlots d % 2 ^ s.rd R.ERR_TEL_CFG_TEL_LOG2 d * 2 ^ 16) x.2).getD v).withQueue s.pending)) ∧
  (∀ (d : Nat) (s : State), d < 4 → (∀ x ∈ s.heat.telDue, x.1 ≠ d) → exec (.telSnapshot d) s = .next s) ∧
  (∀ (d : Nat) (mins h85 h90 ret lanes : List Nat) (eol low high kind index : Nat) (s w : State), d < 4 → s.dieRuns d = true →
    w = (s.ageDay d mins h85 h90 ret lanes).ageMargins d →
    exec (.ageDailyFit d mins h85 h90 ret lanes eol low high kind index) s = .next ((if w.rd R.AGE_STATUS_DAYS d < 30 then w else
      w.agePredict d eol low high kind index).withQueue s.pending)) ∧
  (∀ (d : Nat) (mins h85 h90 ret lanes : List Nat) (s : State), d < 4 →
    (s.ageDay d mins h85 h90 ret lanes).rd R.AGE_STATUS_DAYS d = min (2 ^ R.AGE_STATUS_DAYS.width - 1) (s.rd R.AGE_STATUS_DAYS d + 1) ∧
    (∀ k < 64, (s.ageDay d mins h85 h90 ret lanes).rd R.AGE_SENSOR_MARGIN d [k] = min 65535 (mins.getD k 0)))

/-- Register accesses (R8 to R15, R91, R325): a write of 4 or 8 aligned bytes goes to the register's fields, other sizes do nothing; an L field takes its
value at once, a T field in its shadow, a busy Q field and a value its map forbids drop the write with CFG_ERR, an RO field takes none; the low word of a
counter keeps its high word for the read that follows; an access over Flial is answered. Of the model, not the spec: accesses through Flial are log entry 46,
and the latch of a high word log entry 45. -/
def Obligations.RegisterAccessesComplete : Prop :=
  (∀ (d off len v dt : Nat) (s : State), d < 4 → off < 2 ^ 26 → v < 2 ^ 64 →
    (regSize off len = true → exec (.regWrite d off len v dt) s = .next ((s.busWrite d off len v dt).withQueue s.pending)) ∧
    (regSize off len = false → exec (.regWrite d off len v dt) s = .next s)) ∧
  (∀ (v dt : Nat) (s : State), 1 ≤ v → v ≤ 3584 → s.dieRuns 0 = true →
    ∃ u, exec (.regWrite 0 0x640010 4 v dt) s = .next u ∧ u.rd R.PCI_TAG_LIMIT_VF_TAGS 0 = v ∧
      (∀ k, k ≠ R.PCI_TAG_LIMIT_VF_TAGS.key 0 [] → SMap.look u.regs k = SMap.look s.regs k) ∧ u = { s with regs := u.regs }) ∧
  (∀ (v dt : Nat) (s : State), 3584 < v → v < 2 ^ 13 → s.dieRuns 0 = true → s.rd R.PCI_TAG_LIMIT_VF_TAGS 0 ≤ 3584 →
    exec (.regWrite 0 0x640010 4 v dt) s = .next ((s.cfgErr .PCI 0 [] 0x640010).withQueue s.pending)) ∧
  (∀ (v dt : Nat) (s : State), 1 ≤ v → v < 2 ^ 16 → s.dieRuns 0 = true →
    ∃ u, exec (.regWrite 0 0x5A0004 4 v dt) s = .next u ∧ u.rdShadow R.TOR_TIMEOUT 0 [] = v ∧ u.regs = s.regs) ∧
  (∀ (v dt : Nat) (s : State), v < 2 ^ 32 → s.dieRuns 0 = true → s.cluExists 0 = true → (s.clu 0).unit = none → s.rd R.CLU_STATUS_STATE 0 [0] ≠ 4 →
    ∃ u, exec (.regWrite 0 0x1001040 4 v dt) s = .next u ∧ u.rdTil R.TIL_SEED_LO 0 = v) ∧
  (∀ (v dt uid : Nat) (s : State), v < 2 ^ 32 → s.dieRuns 0 = true → s.cluExists 0 = true → (s.clu 0).unit = some uid → s.rdTil R.TIL_SEED_LO 0 ≠ v →
    exec (.regWrite 0 0x1001040 4 v dt) s = .next ((s.cfgErr .CLU 0 [0, 0] 0x1001040).withQueue s.pending)) ∧
  (∀ (v dt : Nat) (s : State), v < 2 ^ 32 → exec (.regWrite 0 0x200010 4 v dt) s = .next s) ∧
  (∀ (d off v : Nat) (s t : State), d < 4 → off < 2 ^ 26 → off % 4 = 0 → s.busRead d off 4 = (v, t) →
    exec (.counterLowRead d off) s = .next ((t.send (.reg v)).withQueue s.pending)) ∧
  (∀ (d off : Nat) (s : State), d < 4 → off < 2 ^ 26 → off % 4 ≠ 0 → exec (.counterLowRead d off) s = .next s) ∧
  (∀ s : State, s.dieRuns 0 = true → ∃ u, exec (.counterLowRead 0 0x200010) s = .next u ∧
    u.out = s.out ++ [.reg (s.rd R.SHD_ADMITTED 0 % 2 ^ 64 % 2 ^ 32)] ∧ SMap.look u.latch 0x200010 = some (s.rd R.SHD_ADMITTED 0 % 2 ^ 64 / 2 ^ 32) ∧ u.regs = s.regs) ∧
  (∀ (h : Nat) (s : State), s.dieRuns 0 = true → h < 2 ^ 32 → SMap.look s.latch 0x200010 = some h → ∃ u, exec (.cfgRd 0 0x200014 4) s = .next u ∧
    u.cfgs = s.cfgs ++ [⟨s.nextId, false, h, 8, 0, 0⟩] ∧ SMap.look u.latch 0x200010 = none ∧ u.regs = s.regs) ∧
  (∀ (d off len v dt : Nat) (s : State), d < 4 → off < 2 ^ 26 → v < 2 ^ 64 → regSize off len = true → s.dieRuns d = true →
    exec (.cfgWr false d off len v dt) s = .next (((s.busWrite d off len v dt).cfgAnswer true 0 8).withQueue s.pending) ∧
    exec (.cfgWr true d off len v dt) s = .next (((if secOff off then s else s.busWrite d off len v dt).cfgAnswer true 0 8).withQueue s.pending) ∧
    (∃ x t, s.busRead d off len = (x, t) ∧ exec (.cfgRd d off len) s = .next ((t.cfgAnswer false x 8).withQueue s.pending))) ∧
  (∀ (pack : Bool) (d off len v dt : Nat) (s : State), d < 4 → off < 2 ^ 26 → v < 2 ^ 64 → s.dieRuns d = false →
    exec (.cfgWr pack d off len v dt) s = .next s ∧ exec (.cfgRd d off len) s = .next s)
end

