-- ==== Sys2Proof/Laws/SMap.lean ====
section
/-! SUPPORT. What the sparse maps do: a read after a write, and the canonical form that every operation of a memory keeps. -/

namespace Sys2Proof.Machine

theorem SMap.look_ins_same {α : Type} (m : SMap α) (k : Nat) (v : α) : SMap.look (SMap.ins m k v) k = some v := by
  induction m with
  | nil => simp [SMap.ins, SMap.look]
  | cons e m ih =>
    obtain ⟨j, w⟩ := e
    simp only [SMap.ins]
    split
    · simp [SMap.look]
    · split
      · simp [SMap.look]
      · rename_i h
        simp [SMap.look, h, ih]

theorem SMap.look_ins_ne {α : Type} (m : SMap α) {k i : Nat} (v : α) (h : i ≠ k) :
    SMap.look (SMap.ins m k v) i = SMap.look m i := by
  induction m with
  | nil => simp [SMap.ins, SMap.look, Ne.symm h]
  | cons e m ih =>
    obtain ⟨j, w⟩ := e
    simp only [SMap.ins]
    split
    · simp [SMap.look, Ne.symm h]
    · split
      · rename_i hj
        simp [SMap.look, Ne.symm h, hj]
      · simp [SMap.look, ih]

theorem SMap.look_del_same {α : Type} (m : SMap α) (k : Nat) : SMap.look (SMap.del m k) k = none := by
  induction m with
  | nil => rfl
  | cons e m ih =>
    obtain ⟨j, w⟩ := e
    by_cases h : j = k <;> simp [SMap.del, SMap.look, h, ih]

theorem SMap.look_del_ne {α : Type} (m : SMap α) {k i : Nat} (h : i ≠ k) : SMap.look (SMap.del m k) i = SMap.look m i := by
  induction m with
  | nil => rfl
  | cons e m ih =>
    obtain ⟨j, w⟩ := e
    by_cases hj : j = k
    · simp [SMap.del, SMap.look, hj, Ne.symm h, ih]
    · simp [SMap.del, SMap.look, hj, ih]

/-- A number reads as what was last written there. -/
@[simp] theorem SMap.get_put_same {α : Type} [DecidableEq α] (d : α) (m : SMap α) (k : Nat) (v : α) :
    SMap.get d (SMap.put d m k v) k = v := by
  unfold SMap.get SMap.put
  split
  · rename_i h
    simp [SMap.look_del_same, h]
  · simp [SMap.look_ins_same]

/-- A write leaves every other number alone. -/
theorem SMap.get_put_ne {α : Type} [DecidableEq α] (d : α) (m : SMap α) {k i : Nat} (v : α) (h : i ≠ k) :
    SMap.get d (SMap.put d m k v) i = SMap.get d m i := by
  unfold SMap.get SMap.put
  split
  · simp [SMap.look_del_ne m h]
  · simp [SMap.look_ins_ne m v h]

@[simp] theorem SMap.get_ins_same {α : Type} (d : α) (m : SMap α) (k : Nat) (v : α) : SMap.get d (SMap.ins m k v) k = v := by
  simp [SMap.get, SMap.look_ins_same]

theorem SMap.get_ins_ne {α : Type} (d : α) (m : SMap α) {k i : Nat} (v : α) (h : i ≠ k) :
    SMap.get d (SMap.ins m k v) i = SMap.get d m i := by
  simp [SMap.get, SMap.look_ins_ne m v h]

/-! ### The canonical form -/

/-- The form one entry at a time: the head is no default, lies below the next number, and the rest has the form. -/
theorem SMap.wf_cons {α : Type} [DecidableEq α] (d : α) (j : Nat) (v : α) (m : SMap α) :
    SMap.wf d ((j, v) :: m) = true ↔ v ≠ d ∧ (∀ e ∈ m.head?, j < e.1) ∧ SMap.wf d m = true := by
  cases m with
  | nil => simp [SMap.wf]
  | cons e m =>
    obtain ⟨k, w⟩ := e
    simp only [SMap.wf, Bool.and_eq_true, decide_eq_true_eq, bne_iff_ne, ne_eq, List.head?_cons, Option.mem_def, Option.some.injEq,
      forall_eq']
    tauto

theorem SMap.del_head {α : Type} [DecidableEq α] (d : α) (b k : Nat) (m : SMap α) (h : SMap.wf d m = true)
    (hb : ∀ e ∈ m.head?, b < e.1) : ∀ e ∈ (SMap.del m k).head?, b < e.1 := by
  induction m with
  | nil => simp [SMap.del]
  | cons e m ih =>
    obtain ⟨j, v⟩ := e
    rw [SMap.wf_cons] at h
    have hj : b < j := hb (j, v) (by simp)
    by_cases hk : j = k
    · simp only [SMap.del, hk, if_true]
      exact ih h.2.2 (fun e he => Nat.lt_trans hj (h.2.1 e he))
    · simpa [SMap.del, hk] using hj

theorem SMap.wf_del {α : Type} [DecidableEq α] (d : α) (m : SMap α) (k : Nat) (h : SMap.wf d m = true) :
    SMap.wf d (SMap.del m k) = true := by
  induction m with
  | nil => rfl
  | cons e m ih =>
    obtain ⟨j, v⟩ := e
    rw [SMap.wf_cons] at h
    by_cases hk : j = k
    · simpa [SMap.del, hk] using ih h.2.2
    · simp only [SMap.del, hk, if_false, SMap.wf_cons]
      exact ⟨h.1, SMap.del_head d j k m h.2.2 h.2.1, ih h.2.2⟩

theorem SMap.ins_head {α : Type} (b k : Nat) (v : α) (m : SMap α) (hk : b < k) (hb : ∀ e ∈ m.head?, b < e.1) :
    ∀ e ∈ (SMap.ins m k v).head?, b < e.1 := by
  cases m with
  | nil => simpa [SMap.ins] using hk
  | cons e m =>
    obtain ⟨j, w⟩ := e
    have hj : b < j := hb (j, w) (by simp)
    simp only [SMap.ins]
    split
    · simpa using hk
    · split
      · simpa using hk
      · simpa using hj

theorem SMap.wf_ins {α : Type} [DecidableEq α] (d : α) (m : SMap α) (k : Nat) (v : α) (hv : v ≠ d) (h : SMap.wf d m = true) :
    SMap.wf d (SMap.ins m k v) = true := by
  induction m with
  | nil => simp [SMap.ins, SMap.wf, hv]
  | cons e m ih =>
    obtain ⟨j, w⟩ := e
    have h' := h
    rw [SMap.wf_cons] at h
    simp only [SMap.ins]
    split
    · rename_i hkj
      rw [SMap.wf_cons]
      exact ⟨hv, by simpa using hkj, h'⟩
    · split
      · rename_i hjk
        subst hjk
        rw [SMap.wf_cons]
        exact ⟨hv, h.2.1, h.2.2⟩
      · rename_i h1 h2
        rw [SMap.wf_cons]
        exact ⟨h.1, SMap.ins_head j k v m (by omega) h.2.1, ih h.2.2⟩

/-- Writing keeps the canonical form. -/
theorem SMap.wf_put {α : Type} [DecidableEq α] (d : α) (m : SMap α) (k : Nat) (v : α) (h : SMap.wf d m = true) :
    SMap.wf d (SMap.put d m k v) = true := by
  unfold SMap.put
  split
  · exact SMap.wf_del d m k h
  · rename_i hv
    exact SMap.wf_ins d m k v hv h

/-! ### Bytes -/

/-- A byte reads as what was last written there, and a write leaves every other byte alone. -/
theorem memRead_memWrite (m : SMap Byte) (a b : Nat) (v : Byte) :
    memRead (memWrite m a v) b = if b = a then v else memRead m b := by
  unfold memRead memWrite
  split
  · rename_i h
    subst h
    simp
  · rename_i h
    exact SMap.get_put_ne 0 m v h

/-- Writing one byte keeps the canonical form of a memory. -/
theorem memWrite_wf (m : SMap Byte) (a : Nat) (v : Byte) (h : Memory.wf m = true) : Memory.wf (memWrite m a v) = true :=
  SMap.wf_put 0 m a v h

/-- Writing a list of bytes keeps the canonical form of a memory. -/
theorem memPut_wf (m : SMap Byte) (a : Nat) (bs : List Byte) (h : Memory.wf m = true) : Memory.wf (memPut m a bs) = true := by
  induction bs generalizing m a with
  | nil => exact h
  | cons b bs ih => exact ih (memWrite m a b) (a + 1) (memWrite_wf m a b h)

/-- Writing a list of bytes leaves every byte outside it alone. -/
theorem memRead_memPut_out (m : SMap Byte) (a b : Nat) (bs : List Byte) (h : b < a ∨ a + bs.length ≤ b) :
    memRead (memPut m a bs) b = memRead m b := by
  induction bs generalizing m a with
  | nil => rfl
  | cons v bs ih =>
    simp only [List.length_cons] at h
    rw [memPut, ih (memWrite m a v) (a + 1) (by omega), memRead_memWrite, if_neg (by omega)]

end Sys2Proof.Machine
end

