-- ==== Sys2Proof/Laws/State.lean ====
section
/-! SUPPORT. What the updates of the state leave alone, field by field, and what a register field reads after a write. -/

namespace Sys2Proof.Machine

variable (s : State)

/-! ### `wr` -/

@[simp] theorem State.wr_shadow (f : Fld) (d : Nat) (ix : List Nat) (v : Nat) : (s.wr f d ix v).shadow = s.shadow := rfl
@[simp] theorem State.wr_latch (f : Fld) (d : Nat) (ix : List Nat) (v : Nat) : (s.wr f d ix v).latch = s.latch := rfl
@[simp] theorem State.wr_wroteRegion (f : Fld) (d : Nat) (ix : List Nat) (v : Nat) : (s.wr f d ix v).wroteRegion = s.wroteRegion := rfl
@[simp] theorem State.wr_wroteLeash (f : Fld) (d : Nat) (ix : List Nat) (v : Nat) : (s.wr f d ix v).wroteLeash = s.wroteLeash := rfl
@[simp] theorem State.wr_wroteSlots (f : Fld) (d : Nat) (ix : List Nat) (v : Nat) : (s.wr f d ix v).wroteSlots = s.wroteSlots := rfl
@[simp] theorem State.wr_wrotePar (f : Fld) (d : Nat) (ix : List Nat) (v : Nat) : (s.wr f d ix v).wrotePar = s.wrotePar := rfl
@[simp] theorem State.wr_now (f : Fld) (d : Nat) (ix : List Nat) (v : Nat) : (s.wr f d ix v).now = s.now := rfl
@[simp] theorem State.wr_free (f : Fld) (d : Nat) (ix : List Nat) (v : Nat) : (s.wr f d ix v).free = s.free := rfl
@[simp] theorem State.wr_dies (f : Fld) (d : Nat) (ix : List Nat) (v : Nat) : (s.wr f d ix v).dies = s.dies := rfl
@[simp] theorem State.wr_dram (f : Fld) (d : Nat) (ix : List Nat) (v : Nat) : (s.wr f d ix v).dram = s.dram := rfl
@[simp] theorem State.wr_stcLines (f : Fld) (d : Nat) (ix : List Nat) (v : Nat) : (s.wr f d ix v).stcLines = s.stcLines := rfl
@[simp] theorem State.wr_ue (f : Fld) (d : Nat) (ix : List Nat) (v : Nat) : (s.wr f d ix v).ue = s.ue := rfl
@[simp] theorem State.wr_rowCe (f : Fld) (d : Nat) (ix : List Nat) (v : Nat) : (s.wr f d ix v).rowCe = s.rowCe := rfl
@[simp] theorem State.wr_dirs (f : Fld) (d : Nat) (ix : List Nat) (v : Nat) : (s.wr f d ix v).dirs = s.dirs := rfl
@[simp] theorem State.wr_dirOrder (f : Fld) (d : Nat) (ix : List Nat) (v : Nat) : (s.wr f d ix v).dirOrder = s.dirOrder := rfl
@[simp] theorem State.wr_tiles (f : Fld) (d : Nat) (ix : List Nat) (v : Nat) : (s.wr f d ix v).tiles = s.tiles := rfl
@[simp] theorem State.wr_clusters (f : Fld) (d : Nat) (ix : List Nat) (v : Nat) : (s.wr f d ix v).clusters = s.clusters := rfl
@[simp] theorem State.wr_sigs (f : Fld) (d : Nat) (ix : List Nat) (v : Nat) : (s.wr f d ix v).sigs = s.sigs := rfl
@[simp] theorem State.wr_slotFlits (f : Fld) (d : Nat) (ix : List Nat) (v : Nat) : (s.wr f d ix v).slotFlits = s.slotFlits := rfl
@[simp] theorem State.wr_creditFlits (f : Fld) (d : Nat) (ix : List Nat) (v : Nat) : (s.wr f d ix v).creditFlits = s.creditFlits := rfl
@[simp] theorem State.wr_units (f : Fld) (d : Nat) (ix : List Nat) (v : Nat) : (s.wr f d ix v).units = s.units := rfl
@[simp] theorem State.wr_descs (f : Fld) (d : Nat) (ix : List Nat) (v : Nat) : (s.wr f d ix v).descs = s.descs := rfl
@[simp] theorem State.wr_images (f : Fld) (d : Nat) (ix : List Nat) (v : Nat) : (s.wr f d ix v).images = s.images := rfl
@[simp] theorem State.wr_nextUid (f : Fld) (d : Nat) (ix : List Nat) (v : Nat) : (s.wr f d ix v).nextUid = s.nextUid := rfl
@[simp] theorem State.wr_mgmtHead (f : Fld) (d : Nat) (ix : List Nat) (v : Nat) : (s.wr f d ix v).mgmtHead = s.mgmtHead := rfl
@[simp] theorem State.wr_mgmtDone (f : Fld) (d : Nat) (ix : List Nat) (v : Nat) : (s.wr f d ix v).mgmtDone = s.mgmtDone := rfl
@[simp] theorem State.wr_lead (f : Fld) (d : Nat) (ix : List Nat) (v : Nat) : (s.wr f d ix v).lead = s.lead := rfl
@[simp] theorem State.wr_dbFails (f : Fld) (d : Nat) (ix : List Nat) (v : Nat) : (s.wr f d ix v).dbFails = s.dbFails := rfl
@[simp] theorem State.wr_indebted (f : Fld) (d : Nat) (ix : List Nat) (v : Nat) : (s.wr f d ix v).indebted = s.indebted := rfl
@[simp] theorem State.wr_early (f : Fld) (d : Nat) (ix : List Nat) (v : Nat) : (s.wr f d ix v).early = s.early := rfl
@[simp] theorem State.wr_windows (f : Fld) (d : Nat) (ix : List Nat) (v : Nat) : (s.wr f d ix v).windows = s.windows := rfl
@[simp] theorem State.wr_stopped (f : Fld) (d : Nat) (ix : List Nat) (v : Nat) : (s.wr f d ix v).stopped = s.stopped := rfl
@[simp] theorem State.wr_freed (f : Fld) (d : Nat) (ix : List Nat) (v : Nat) : (s.wr f d ix v).freed = s.freed := rfl
@[simp] theorem State.wr_doorbells (f : Fld) (d : Nat) (ix : List Nat) (v : Nat) : (s.wr f d ix v).doorbells = s.doorbells := rfl
@[simp] theorem State.wr_irqs (f : Fld) (d : Nat) (ix : List Nat) (v : Nat) : (s.wr f d ix v).irqs = s.irqs := rfl
@[simp] theorem State.wr_eventsDue (f : Fld) (d : Nat) (ix : List Nat) (v : Nat) : (s.wr f d ix v).eventsDue = s.eventsDue := rfl
@[simp] theorem State.wr_mgmts (f : Fld) (d : Nat) (ix : List Nat) (v : Nat) : (s.wr f d ix v).mgmts = s.mgmts := rfl
@[simp] theorem State.wr_mgmtBad (f : Fld) (d : Nat) (ix : List Nat) (v : Nat) : (s.wr f d ix v).mgmtBad = s.mgmtBad := rfl
@[simp] theorem State.wr_parked (f : Fld) (d : Nat) (ix : List Nat) (v : Nat) : (s.wr f d ix v).parked = s.parked := rfl
@[simp] theorem State.wr_disclosed (f : Fld) (d : Nat) (ix : List Nat) (v : Nat) : (s.wr f d ix v).disclosed = s.disclosed := rfl
@[simp] theorem State.wr_xfers (f : Fld) (d : Nat) (ix : List Nat) (v : Nat) : (s.wr f d ix v).xfers = s.xfers := rfl
@[simp] theorem State.wr_reqs (f : Fld) (d : Nat) (ix : List Nat) (v : Nat) : (s.wr f d ix v).reqs = s.reqs := rfl
@[simp] theorem State.wr_nextId (f : Fld) (d : Nat) (ix : List Nat) (v : Nat) : (s.wr f d ix v).nextId = s.nextId := rfl
@[simp] theorem State.wr_hreads (f : Fld) (d : Nat) (ix : List Nat) (v : Nat) : (s.wr f d ix v).hreads = s.hreads := rfl
@[simp] theorem State.wr_snoops (f : Fld) (d : Nat) (ix : List Nat) (v : Nat) : (s.wr f d ix v).snoops = s.snoops := rfl
@[simp] theorem State.wr_downs (f : Fld) (d : Nat) (ix : List Nat) (v : Nat) : (s.wr f d ix v).downs = s.downs := rfl
@[simp] theorem State.wr_cfgs (f : Fld) (d : Nat) (ix : List Nat) (v : Nat) : (s.wr f d ix v).cfgs = s.cfgs := rfl
@[simp] theorem State.wr_bays (f : Fld) (d : Nat) (ix : List Nat) (v : Nat) : (s.wr f d ix v).bays = s.bays := rfl
@[simp] theorem State.wr_population (f : Fld) (d : Nat) (ix : List Nat) (v : Nat) : (s.wr f d ix v).population = s.population := rfl
@[simp] theorem State.wr_revFloor (f : Fld) (d : Nat) (ix : List Nat) (v : Nat) : (s.wr f d ix v).revFloor = s.revFloor := rfl
@[simp] theorem State.wr_ringMods (f : Fld) (d : Nat) (ix : List Nat) (v : Nat) : (s.wr f d ix v).ringMods = s.ringMods := rfl
@[simp] theorem State.wr_torPorts (f : Fld) (d : Nat) (ix : List Nat) (v : Nat) : (s.wr f d ix v).torPorts = s.torPorts := rfl
@[simp] theorem State.wr_torRx (f : Fld) (d : Nat) (ix : List Nat) (v : Nat) : (s.wr f d ix v).torRx = s.torRx := rfl
@[simp] theorem State.wr_torCmds (f : Fld) (d : Nat) (ix : List Nat) (v : Nat) : (s.wr f d ix v).torCmds = s.torCmds := rfl
@[simp] theorem State.wr_torHead (f : Fld) (d : Nat) (ix : List Nat) (v : Nat) : (s.wr f d ix v).torHead = s.torHead := rfl
@[simp] theorem State.wr_torPuts (f : Fld) (d : Nat) (ix : List Nat) (v : Nat) : (s.wr f d ix v).torPuts = s.torPuts := rfl
@[simp] theorem State.wr_redChunks (f : Fld) (d : Nat) (ix : List Nat) (v : Nat) : (s.wr f d ix v).redChunks = s.redChunks := rfl
@[simp] theorem State.wr_redNext (f : Fld) (d : Nat) (ix : List Nat) (v : Nat) : (s.wr f d ix v).redNext = s.redNext := rfl
@[simp] theorem State.wr_slots (f : Fld) (d : Nat) (ix : List Nat) (v : Nat) : (s.wr f d ix v).slots = s.slots := rfl
@[simp] theorem State.wr_closes (f : Fld) (d : Nat) (ix : List Nat) (v : Nat) : (s.wr f d ix v).closes = s.closes := rfl
@[simp] theorem State.wr_streamLate (f : Fld) (d : Nat) (ix : List Nat) (v : Nat) : (s.wr f d ix v).streamLate = s.streamLate := rfl
@[simp] theorem State.wr_knlEpochs (f : Fld) (d : Nat) (ix : List Nat) (v : Nat) : (s.wr f d ix v).knlEpochs = s.knlEpochs := rfl
@[simp] theorem State.wr_knlDue (f : Fld) (d : Nat) (ix : List Nat) (v : Nat) : (s.wr f d ix v).knlDue = s.knlDue := rfl
@[simp] theorem State.wr_knlTick (f : Fld) (d : Nat) (ix : List Nat) (v : Nat) : (s.wr f d ix v).knlTick = s.knlTick := rfl
@[simp] theorem State.wr_knlLog (f : Fld) (d : Nat) (ix : List Nat) (v : Nat) : (s.wr f d ix v).knlLog = s.knlLog := rfl
@[simp] theorem State.wr_sideOut (f : Fld) (d : Nat) (ix : List Nat) (v : Nat) : (s.wr f d ix v).sideOut = s.sideOut := rfl
@[simp] theorem State.wr_sideSeq (f : Fld) (d : Nat) (ix : List Nat) (v : Nat) : (s.wr f d ix v).sideSeq = s.sideSeq := rfl
@[simp] theorem State.wr_released (f : Fld) (d : Nat) (ix : List Nat) (v : Nat) : (s.wr f d ix v).released = s.released := rfl
@[simp] theorem State.wr_ctxs (f : Fld) (d : Nat) (ix : List Nat) (v : Nat) : (s.wr f d ix v).ctxs = s.ctxs := rfl
@[simp] theorem State.wr_nextKey (f : Fld) (d : Nat) (ix : List Nat) (v : Nat) : (s.wr f d ix v).nextKey = s.nextKey := rfl
@[simp] theorem State.wr_knlDirty (f : Fld) (d : Nat) (ix : List Nat) (v : Nat) : (s.wr f d ix v).knlDirty = s.knlDirty := rfl
@[simp] theorem State.wr_knlCkpt (f : Fld) (d : Nat) (ix : List Nat) (v : Nat) : (s.wr f d ix v).knlCkpt = s.knlCkpt := rfl
@[simp] theorem State.wr_knlFrozen (f : Fld) (d : Nat) (ix : List Nat) (v : Nat) : (s.wr f d ix v).knlFrozen = s.knlFrozen := rfl
@[simp] theorem State.wr_knlStage (f : Fld) (d : Nat) (ix : List Nat) (v : Nat) : (s.wr f d ix v).knlStage = s.knlStage := rfl
@[simp] theorem State.wr_tlbs (f : Fld) (d : Nat) (ix : List Nat) (v : Nat) : (s.wr f d ix v).tlbs = s.tlbs := rfl
@[simp] theorem State.wr_walks (f : Fld) (d : Nat) (ix : List Nat) (v : Nat) : (s.wr f d ix v).walks = s.walks := rfl
@[simp] theorem State.wr_misses (f : Fld) (d : Nat) (ix : List Nat) (v : Nat) : (s.wr f d ix v).misses = s.misses := rfl
@[simp] theorem State.wr_ask (f : Fld) (d : Nat) (ix : List Nat) (v : Nat) : (s.wr f d ix v).ask = s.ask := rfl
@[simp] theorem State.wr_walkTurn (f : Fld) (d : Nat) (ix : List Nat) (v : Nat) : (s.wr f d ix v).walkTurn = s.walkTurn := rfl
@[simp] theorem State.wr_invals (f : Fld) (d : Nat) (ix : List Nat) (v : Nat) : (s.wr f d ix v).invals = s.invals := rfl
@[simp] theorem State.wr_leash (f : Fld) (d : Nat) (ix : List Nat) (v : Nat) : (s.wr f d ix v).leash = s.leash := rfl
@[simp] theorem State.wr_effUse (f : Fld) (d : Nat) (ix : List Nat) (v : Nat) : (s.wr f d ix v).effUse = s.effUse := rfl
@[simp] theorem State.wr_effDue (f : Fld) (d : Nat) (ix : List Nat) (v : Nat) : (s.wr f d ix v).effDue = s.effDue := rfl
@[simp] theorem State.wr_served (f : Fld) (d : Nat) (ix : List Nat) (v : Nat) : (s.wr f d ix v).served = s.served := rfl
@[simp] theorem State.wr_frameAt (f : Fld) (d : Nat) (ix : List Nat) (v : Nat) : (s.wr f d ix v).frameAt = s.frameAt := rfl
@[simp] theorem State.wr_slotUse (f : Fld) (d : Nat) (ix : List Nat) (v : Nat) : (s.wr f d ix v).slotUse = s.slotUse := rfl
@[simp] theorem State.wr_linkUse (f : Fld) (d : Nat) (ix : List Nat) (v : Nat) : (s.wr f d ix v).linkUse = s.linkUse := rfl
@[simp] theorem State.wr_deficits (f : Fld) (d : Nat) (ix : List Nat) (v : Nat) : (s.wr f d ix v).deficits = s.deficits := rfl
@[simp] theorem State.wr_drrAt (f : Fld) (d : Nat) (ix : List Nat) (v : Nat) : (s.wr f d ix v).drrAt = s.drrAt := rfl
@[simp] theorem State.wr_loopbacks (f : Fld) (d : Nat) (ix : List Nat) (v : Nat) : (s.wr f d ix v).loopbacks = s.loopbacks := rfl
@[simp] theorem State.wr_deadChans (f : Fld) (d : Nat) (ix : List Nat) (v : Nat) : (s.wr f d ix v).deadChans = s.deadChans := rfl
@[simp] theorem State.wr_errs (f : Fld) (d : Nat) (ix : List Nat) (v : Nat) : (s.wr f d ix v).errs = s.errs := rfl
@[simp] theorem State.wr_fatal (f : Fld) (d : Nat) (ix : List Nat) (v : Nat) : (s.wr f d ix v).fatal = s.fatal := rfl
@[simp] theorem State.wr_vfEnable (f : Fld) (d : Nat) (ix : List Nat) (v : Nat) : (s.wr f d ix v).vfEnable = s.vfEnable := rfl
@[simp] theorem State.wr_numVfs (f : Fld) (d : Nat) (ix : List Nat) (v : Nat) : (s.wr f d ix v).numVfs = s.numVfs := rfl
@[simp] theorem State.wr_config (f : Fld) (d : Nat) (ix : List Nat) (v : Nat) : (s.wr f d ix v).config = s.config := rfl
@[simp] theorem State.wr_heldWrites (f : Fld) (d : Nat) (ix : List Nat) (v : Nat) : (s.wr f d ix v).heldWrites = s.heldWrites := rfl
@[simp] theorem State.wr_heldMsix (f : Fld) (d : Nat) (ix : List Nat) (v : Nat) : (s.wr f d ix v).heldMsix = s.heldMsix := rfl
@[simp] theorem State.wr_host (f : Fld) (d : Nat) (ix : List Nat) (v : Nat) : (s.wr f d ix v).host = s.host := rfl
@[simp] theorem State.wr_tck (f : Fld) (d : Nat) (ix : List Nat) (v : Nat) : (s.wr f d ix v).tck = s.tck := rfl
@[simp] theorem State.wr_sec (f : Fld) (d : Nat) (ix : List Nat) (v : Nat) : (s.wr f d ix v).sec = s.sec := rfl
@[simp] theorem State.wr_boot (f : Fld) (d : Nat) (ix : List Nat) (v : Nat) : (s.wr f d ix v).boot = s.boot := rfl
@[simp] theorem State.wr_heat (f : Fld) (d : Nat) (ix : List Nat) (v : Nat) : (s.wr f d ix v).heat = s.heat := rfl
@[simp] theorem State.wr_out (f : Fld) (d : Nat) (ix : List Nat) (v : Nat) : (s.wr f d ix v).out = s.out := rfl
@[simp] theorem State.wr_pending (f : Fld) (d : Nat) (ix : List Nat) (v : Nat) : (s.wr f d ix v).pending = s.pending := rfl

/-! ### `wrShadow` -/

@[simp] theorem State.wrShadow_regs (f : Fld) (d : Nat) (ix : List Nat) (v : Nat) : (s.wrShadow f d ix v).regs = s.regs := rfl
@[simp] theorem State.wrShadow_latch (f : Fld) (d : Nat) (ix : List Nat) (v : Nat) : (s.wrShadow f d ix v).latch = s.latch := rfl
@[simp] theorem State.wrShadow_wroteRegion (f : Fld) (d : Nat) (ix : List Nat) (v : Nat) : (s.wrShadow f d ix v).wroteRegion = s.wroteRegion := rfl
@[simp] theorem State.wrShadow_wroteLeash (f : Fld) (d : Nat) (ix : List Nat) (v : Nat) : (s.wrShadow f d ix v).wroteLeash = s.wroteLeash := rfl
@[simp] theorem State.wrShadow_wroteSlots (f : Fld) (d : Nat) (ix : List Nat) (v : Nat) : (s.wrShadow f d ix v).wroteSlots = s.wroteSlots := rfl
@[simp] theorem State.wrShadow_wrotePar (f : Fld) (d : Nat) (ix : List Nat) (v : Nat) : (s.wrShadow f d ix v).wrotePar = s.wrotePar := rfl
@[simp] theorem State.wrShadow_now (f : Fld) (d : Nat) (ix : List Nat) (v : Nat) : (s.wrShadow f d ix v).now = s.now := rfl
@[simp] theorem State.wrShadow_free (f : Fld) (d : Nat) (ix : List Nat) (v : Nat) : (s.wrShadow f d ix v).free = s.free := rfl
@[simp] theorem State.wrShadow_dies (f : Fld) (d : Nat) (ix : List Nat) (v : Nat) : (s.wrShadow f d ix v).dies = s.dies := rfl
@[simp] theorem State.wrShadow_dram (f : Fld) (d : Nat) (ix : List Nat) (v : Nat) : (s.wrShadow f d ix v).dram = s.dram := rfl
@[simp] theorem State.wrShadow_stcLines (f : Fld) (d : Nat) (ix : List Nat) (v : Nat) : (s.wrShadow f d ix v).stcLines = s.stcLines := rfl
@[simp] theorem State.wrShadow_ue (f : Fld) (d : Nat) (ix : List Nat) (v : Nat) : (s.wrShadow f d ix v).ue = s.ue := rfl
@[simp] theorem State.wrShadow_rowCe (f : Fld) (d : Nat) (ix : List Nat) (v : Nat) : (s.wrShadow f d ix v).rowCe = s.rowCe := rfl
@[simp] theorem State.wrShadow_dirs (f : Fld) (d : Nat) (ix : List Nat) (v : Nat) : (s.wrShadow f d ix v).dirs = s.dirs := rfl
@[simp] theorem State.wrShadow_dirOrder (f : Fld) (d : Nat) (ix : List Nat) (v : Nat) : (s.wrShadow f d ix v).dirOrder = s.dirOrder := rfl
@[simp] theorem State.wrShadow_tiles (f : Fld) (d : Nat) (ix : List Nat) (v : Nat) : (s.wrShadow f d ix v).tiles = s.tiles := rfl
@[simp] theorem State.wrShadow_clusters (f : Fld) (d : Nat) (ix : List Nat) (v : Nat) : (s.wrShadow f d ix v).clusters = s.clusters := rfl
@[simp] theorem State.wrShadow_sigs (f : Fld) (d : Nat) (ix : List Nat) (v : Nat) : (s.wrShadow f d ix v).sigs = s.sigs := rfl
@[simp] theorem State.wrShadow_slotFlits (f : Fld) (d : Nat) (ix : List Nat) (v : Nat) : (s.wrShadow f d ix v).slotFlits = s.slotFlits := rfl
@[simp] theorem State.wrShadow_creditFlits (f : Fld) (d : Nat) (ix : List Nat) (v : Nat) : (s.wrShadow f d ix v).creditFlits = s.creditFlits := rfl
@[simp] theorem State.wrShadow_units (f : Fld) (d : Nat) (ix : List Nat) (v : Nat) : (s.wrShadow f d ix v).units = s.units := rfl
@[simp] theorem State.wrShadow_descs (f : Fld) (d : Nat) (ix : List Nat) (v : Nat) : (s.wrShadow f d ix v).descs = s.descs := rfl
@[simp] theorem State.wrShadow_images (f : Fld) (d : Nat) (ix : List Nat) (v : Nat) : (s.wrShadow f d ix v).images = s.images := rfl
@[simp] theorem State.wrShadow_nextUid (f : Fld) (d : Nat) (ix : List Nat) (v : Nat) : (s.wrShadow f d ix v).nextUid = s.nextUid := rfl
@[simp] theorem State.wrShadow_mgmtHead (f : Fld) (d : Nat) (ix : List Nat) (v : Nat) : (s.wrShadow f d ix v).mgmtHead = s.mgmtHead := rfl
@[simp] theorem State.wrShadow_mgmtDone (f : Fld) (d : Nat) (ix : List Nat) (v : Nat) : (s.wrShadow f d ix v).mgmtDone = s.mgmtDone := rfl
@[simp] theorem State.wrShadow_lead (f : Fld) (d : Nat) (ix : List Nat) (v : Nat) : (s.wrShadow f d ix v).lead = s.lead := rfl
@[simp] theorem State.wrShadow_dbFails (f : Fld) (d : Nat) (ix : List Nat) (v : Nat) : (s.wrShadow f d ix v).dbFails = s.dbFails := rfl
@[simp] theorem State.wrShadow_indebted (f : Fld) (d : Nat) (ix : List Nat) (v : Nat) : (s.wrShadow f d ix v).indebted = s.indebted := rfl
@[simp] theorem State.wrShadow_early (f : Fld) (d : Nat) (ix : List Nat) (v : Nat) : (s.wrShadow f d ix v).early = s.early := rfl
@[simp] theorem State.wrShadow_windows (f : Fld) (d : Nat) (ix : List Nat) (v : Nat) : (s.wrShadow f d ix v).windows = s.windows := rfl
@[simp] theorem State.wrShadow_stopped (f : Fld) (d : Nat) (ix : List Nat) (v : Nat) : (s.wrShadow f d ix v).stopped = s.stopped := rfl
@[simp] theorem State.wrShadow_freed (f : Fld) (d : Nat) (ix : List Nat) (v : Nat) : (s.wrShadow f d ix v).freed = s.freed := rfl
@[simp] theorem State.wrShadow_doorbells (f : Fld) (d : Nat) (ix : List Nat) (v : Nat) : (s.wrShadow f d ix v).doorbells = s.doorbells := rfl
@[simp] theorem State.wrShadow_irqs (f : Fld) (d : Nat) (ix : List Nat) (v : Nat) : (s.wrShadow f d ix v).irqs = s.irqs := rfl
@[simp] theorem State.wrShadow_eventsDue (f : Fld) (d : Nat) (ix : List Nat) (v : Nat) : (s.wrShadow f d ix v).eventsDue = s.eventsDue := rfl
@[simp] theorem State.wrShadow_mgmts (f : Fld) (d : Nat) (ix : List Nat) (v : Nat) : (s.wrShadow f d ix v).mgmts = s.mgmts := rfl
@[simp] theorem State.wrShadow_mgmtBad (f : Fld) (d : Nat) (ix : List Nat) (v : Nat) : (s.wrShadow f d ix v).mgmtBad = s.mgmtBad := rfl
@[simp] theorem State.wrShadow_parked (f : Fld) (d : Nat) (ix : List Nat) (v : Nat) : (s.wrShadow f d ix v).parked = s.parked := rfl
@[simp] theorem State.wrShadow_disclosed (f : Fld) (d : Nat) (ix : List Nat) (v : Nat) : (s.wrShadow f d ix v).disclosed = s.disclosed := rfl
@[simp] theorem State.wrShadow_xfers (f : Fld) (d : Nat) (ix : List Nat) (v : Nat) : (s.wrShadow f d ix v).xfers = s.xfers := rfl
@[simp] theorem State.wrShadow_reqs (f : Fld) (d : Nat) (ix : List Nat) (v : Nat) : (s.wrShadow f d ix v).reqs = s.reqs := rfl
@[simp] theorem State.wrShadow_nextId (f : Fld) (d : Nat) (ix : List Nat) (v : Nat) : (s.wrShadow f d ix v).nextId = s.nextId := rfl
@[simp] theorem State.wrShadow_hreads (f : Fld) (d : Nat) (ix : List Nat) (v : Nat) : (s.wrShadow f d ix v).hreads = s.hreads := rfl
@[simp] theorem State.wrShadow_snoops (f : Fld) (d : Nat) (ix : List Nat) (v : Nat) : (s.wrShadow f d ix v).snoops = s.snoops := rfl
@[simp] theorem State.wrShadow_downs (f : Fld) (d : Nat) (ix : List Nat) (v : Nat) : (s.wrShadow f d ix v).downs = s.downs := rfl
@[simp] theorem State.wrShadow_cfgs (f : Fld) (d : Nat) (ix : List Nat) (v : Nat) : (s.wrShadow f d ix v).cfgs = s.cfgs := rfl
@[simp] theorem State.wrShadow_bays (f : Fld) (d : Nat) (ix : List Nat) (v : Nat) : (s.wrShadow f d ix v).bays = s.bays := rfl
@[simp] theorem State.wrShadow_population (f : Fld) (d : Nat) (ix : List Nat) (v : Nat) : (s.wrShadow f d ix v).population = s.population := rfl
@[simp] theorem State.wrShadow_revFloor (f : Fld) (d : Nat) (ix : List Nat) (v : Nat) : (s.wrShadow f d ix v).revFloor = s.revFloor := rfl
@[simp] theorem State.wrShadow_ringMods (f : Fld) (d : Nat) (ix : List Nat) (v : Nat) : (s.wrShadow f d ix v).ringMods = s.ringMods := rfl
@[simp] theorem State.wrShadow_torPorts (f : Fld) (d : Nat) (ix : List Nat) (v : Nat) : (s.wrShadow f d ix v).torPorts = s.torPorts := rfl
@[simp] theorem State.wrShadow_torRx (f : Fld) (d : Nat) (ix : List Nat) (v : Nat) : (s.wrShadow f d ix v).torRx = s.torRx := rfl
@[simp] theorem State.wrShadow_torCmds (f : Fld) (d : Nat) (ix : List Nat) (v : Nat) : (s.wrShadow f d ix v).torCmds = s.torCmds := rfl
@[simp] theorem State.wrShadow_torHead (f : Fld) (d : Nat) (ix : List Nat) (v : Nat) : (s.wrShadow f d ix v).torHead = s.torHead := rfl
@[simp] theorem State.wrShadow_torPuts (f : Fld) (d : Nat) (ix : List Nat) (v : Nat) : (s.wrShadow f d ix v).torPuts = s.torPuts := rfl
@[simp] theorem State.wrShadow_redChunks (f : Fld) (d : Nat) (ix : List Nat) (v : Nat) : (s.wrShadow f d ix v).redChunks = s.redChunks := rfl
@[simp] theorem State.wrShadow_redNext (f : Fld) (d : Nat) (ix : List Nat) (v : Nat) : (s.wrShadow f d ix v).redNext = s.redNext := rfl
@[simp] theorem State.wrShadow_slots (f : Fld) (d : Nat) (ix : List Nat) (v : Nat) : (s.wrShadow f d ix v).slots = s.slots := rfl
@[simp] theorem State.wrShadow_closes (f : Fld) (d : Nat) (ix : List Nat) (v : Nat) : (s.wrShadow f d ix v).closes = s.closes := rfl
@[simp] theorem State.wrShadow_streamLate (f : Fld) (d : Nat) (ix : List Nat) (v : Nat) : (s.wrShadow f d ix v).streamLate = s.streamLate := rfl
@[simp] theorem State.wrShadow_knlEpochs (f : Fld) (d : Nat) (ix : List Nat) (v : Nat) : (s.wrShadow f d ix v).knlEpochs = s.knlEpochs := rfl
@[simp] theorem State.wrShadow_knlDue (f : Fld) (d : Nat) (ix : List Nat) (v : Nat) : (s.wrShadow f d ix v).knlDue = s.knlDue := rfl
@[simp] theorem State.wrShadow_knlTick (f : Fld) (d : Nat) (ix : List Nat) (v : Nat) : (s.wrShadow f d ix v).knlTick = s.knlTick := rfl
@[simp] theorem State.wrShadow_knlLog (f : Fld) (d : Nat) (ix : List Nat) (v : Nat) : (s.wrShadow f d ix v).knlLog = s.knlLog := rfl
@[simp] theorem State.wrShadow_sideOut (f : Fld) (d : Nat) (ix : List Nat) (v : Nat) : (s.wrShadow f d ix v).sideOut = s.sideOut := rfl
@[simp] theorem State.wrShadow_sideSeq (f : Fld) (d : Nat) (ix : List Nat) (v : Nat) : (s.wrShadow f d ix v).sideSeq = s.sideSeq := rfl
@[simp] theorem State.wrShadow_released (f : Fld) (d : Nat) (ix : List Nat) (v : Nat) : (s.wrShadow f d ix v).released = s.released := rfl
@[simp] theorem State.wrShadow_ctxs (f : Fld) (d : Nat) (ix : List Nat) (v : Nat) : (s.wrShadow f d ix v).ctxs = s.ctxs := rfl
@[simp] theorem State.wrShadow_nextKey (f : Fld) (d : Nat) (ix : List Nat) (v : Nat) : (s.wrShadow f d ix v).nextKey = s.nextKey := rfl
@[simp] theorem State.wrShadow_knlDirty (f : Fld) (d : Nat) (ix : List Nat) (v : Nat) : (s.wrShadow f d ix v).knlDirty = s.knlDirty := rfl
@[simp] theorem State.wrShadow_knlCkpt (f : Fld) (d : Nat) (ix : List Nat) (v : Nat) : (s.wrShadow f d ix v).knlCkpt = s.knlCkpt := rfl
@[simp] theorem State.wrShadow_knlFrozen (f : Fld) (d : Nat) (ix : List Nat) (v : Nat) : (s.wrShadow f d ix v).knlFrozen = s.knlFrozen := rfl
@[simp] theorem State.wrShadow_knlStage (f : Fld) (d : Nat) (ix : List Nat) (v : Nat) : (s.wrShadow f d ix v).knlStage = s.knlStage := rfl
@[simp] theorem State.wrShadow_tlbs (f : Fld) (d : Nat) (ix : List Nat) (v : Nat) : (s.wrShadow f d ix v).tlbs = s.tlbs := rfl
@[simp] theorem State.wrShadow_walks (f : Fld) (d : Nat) (ix : List Nat) (v : Nat) : (s.wrShadow f d ix v).walks = s.walks := rfl
@[simp] theorem State.wrShadow_misses (f : Fld) (d : Nat) (ix : List Nat) (v : Nat) : (s.wrShadow f d ix v).misses = s.misses := rfl
@[simp] theorem State.wrShadow_ask (f : Fld) (d : Nat) (ix : List Nat) (v : Nat) : (s.wrShadow f d ix v).ask = s.ask := rfl
@[simp] theorem State.wrShadow_walkTurn (f : Fld) (d : Nat) (ix : List Nat) (v : Nat) : (s.wrShadow f d ix v).walkTurn = s.walkTurn := rfl
@[simp] theorem State.wrShadow_invals (f : Fld) (d : Nat) (ix : List Nat) (v : Nat) : (s.wrShadow f d ix v).invals = s.invals := rfl
@[simp] theorem State.wrShadow_leash (f : Fld) (d : Nat) (ix : List Nat) (v : Nat) : (s.wrShadow f d ix v).leash = s.leash := rfl
@[simp] theorem State.wrShadow_effUse (f : Fld) (d : Nat) (ix : List Nat) (v : Nat) : (s.wrShadow f d ix v).effUse = s.effUse := rfl
@[simp] theorem State.wrShadow_effDue (f : Fld) (d : Nat) (ix : List Nat) (v : Nat) : (s.wrShadow f d ix v).effDue = s.effDue := rfl
@[simp] theorem State.wrShadow_served (f : Fld) (d : Nat) (ix : List Nat) (v : Nat) : (s.wrShadow f d ix v).served = s.served := rfl
@[simp] theorem State.wrShadow_frameAt (f : Fld) (d : Nat) (ix : List Nat) (v : Nat) : (s.wrShadow f d ix v).frameAt = s.frameAt := rfl
@[simp] theorem State.wrShadow_slotUse (f : Fld) (d : Nat) (ix : List Nat) (v : Nat) : (s.wrShadow f d ix v).slotUse = s.slotUse := rfl
@[simp] theorem State.wrShadow_linkUse (f : Fld) (d : Nat) (ix : List Nat) (v : Nat) : (s.wrShadow f d ix v).linkUse = s.linkUse := rfl
@[simp] theorem State.wrShadow_deficits (f : Fld) (d : Nat) (ix : List Nat) (v : Nat) : (s.wrShadow f d ix v).deficits = s.deficits := rfl
@[simp] theorem State.wrShadow_drrAt (f : Fld) (d : Nat) (ix : List Nat) (v : Nat) : (s.wrShadow f d ix v).drrAt = s.drrAt := rfl
@[simp] theorem State.wrShadow_loopbacks (f : Fld) (d : Nat) (ix : List Nat) (v : Nat) : (s.wrShadow f d ix v).loopbacks = s.loopbacks := rfl
@[simp] theorem State.wrShadow_deadChans (f : Fld) (d : Nat) (ix : List Nat) (v : Nat) : (s.wrShadow f d ix v).deadChans = s.deadChans := rfl
@[simp] theorem State.wrShadow_errs (f : Fld) (d : Nat) (ix : List Nat) (v : Nat) : (s.wrShadow f d ix v).errs = s.errs := rfl
@[simp] theorem State.wrShadow_fatal (f : Fld) (d : Nat) (ix : List Nat) (v : Nat) : (s.wrShadow f d ix v).fatal = s.fatal := rfl
@[simp] theorem State.wrShadow_vfEnable (f : Fld) (d : Nat) (ix : List Nat) (v : Nat) : (s.wrShadow f d ix v).vfEnable = s.vfEnable := rfl
@[simp] theorem State.wrShadow_numVfs (f : Fld) (d : Nat) (ix : List Nat) (v : Nat) : (s.wrShadow f d ix v).numVfs = s.numVfs := rfl
@[simp] theorem State.wrShadow_config (f : Fld) (d : Nat) (ix : List Nat) (v : Nat) : (s.wrShadow f d ix v).config = s.config := rfl
@[simp] theorem State.wrShadow_heldWrites (f : Fld) (d : Nat) (ix : List Nat) (v : Nat) : (s.wrShadow f d ix v).heldWrites = s.heldWrites := rfl
@[simp] theorem State.wrShadow_heldMsix (f : Fld) (d : Nat) (ix : List Nat) (v : Nat) : (s.wrShadow f d ix v).heldMsix = s.heldMsix := rfl
@[simp] theorem State.wrShadow_host (f : Fld) (d : Nat) (ix : List Nat) (v : Nat) : (s.wrShadow f d ix v).host = s.host := rfl
@[simp] theorem State.wrShadow_tck (f : Fld) (d : Nat) (ix : List Nat) (v : Nat) : (s.wrShadow f d ix v).tck = s.tck := rfl
@[simp] theorem State.wrShadow_sec (f : Fld) (d : Nat) (ix : List Nat) (v : Nat) : (s.wrShadow f d ix v).sec = s.sec := rfl
@[simp] theorem State.wrShadow_boot (f : Fld) (d : Nat) (ix : List Nat) (v : Nat) : (s.wrShadow f d ix v).boot = s.boot := rfl
@[simp] theorem State.wrShadow_heat (f : Fld) (d : Nat) (ix : List Nat) (v : Nat) : (s.wrShadow f d ix v).heat = s.heat := rfl
@[simp] theorem State.wrShadow_out (f : Fld) (d : Nat) (ix : List Nat) (v : Nat) : (s.wrShadow f d ix v).out = s.out := rfl
@[simp] theorem State.wrShadow_pending (f : Fld) (d : Nat) (ix : List Nat) (v : Nat) : (s.wrShadow f d ix v).pending = s.pending := rfl

/-! ### `setTile` -/

@[simp] theorem State.setTile_regs (t : Nat) (x : Tile) : (s.setTile t x).regs = s.regs := rfl
@[simp] theorem State.setTile_shadow (t : Nat) (x : Tile) : (s.setTile t x).shadow = s.shadow := rfl
@[simp] theorem State.setTile_latch (t : Nat) (x : Tile) : (s.setTile t x).latch = s.latch := rfl
@[simp] theorem State.setTile_wroteRegion (t : Nat) (x : Tile) : (s.setTile t x).wroteRegion = s.wroteRegion := rfl
@[simp] theorem State.setTile_wroteLeash (t : Nat) (x : Tile) : (s.setTile t x).wroteLeash = s.wroteLeash := rfl
@[simp] theorem State.setTile_wroteSlots (t : Nat) (x : Tile) : (s.setTile t x).wroteSlots = s.wroteSlots := rfl
@[simp] theorem State.setTile_wrotePar (t : Nat) (x : Tile) : (s.setTile t x).wrotePar = s.wrotePar := rfl
@[simp] theorem State.setTile_now (t : Nat) (x : Tile) : (s.setTile t x).now = s.now := rfl
@[simp] theorem State.setTile_free (t : Nat) (x : Tile) : (s.setTile t x).free = s.free := rfl
@[simp] theorem State.setTile_dies (t : Nat) (x : Tile) : (s.setTile t x).dies = s.dies := rfl
@[simp] theorem State.setTile_dram (t : Nat) (x : Tile) : (s.setTile t x).dram = s.dram := rfl
@[simp] theorem State.setTile_stcLines (t : Nat) (x : Tile) : (s.setTile t x).stcLines = s.stcLines := rfl
@[simp] theorem State.setTile_ue (t : Nat) (x : Tile) : (s.setTile t x).ue = s.ue := rfl
@[simp] theorem State.setTile_rowCe (t : Nat) (x : Tile) : (s.setTile t x).rowCe = s.rowCe := rfl
@[simp] theorem State.setTile_dirs (t : Nat) (x : Tile) : (s.setTile t x).dirs = s.dirs := rfl
@[simp] theorem State.setTile_dirOrder (t : Nat) (x : Tile) : (s.setTile t x).dirOrder = s.dirOrder := rfl
@[simp] theorem State.setTile_clusters (t : Nat) (x : Tile) : (s.setTile t x).clusters = s.clusters := rfl
@[simp] theorem State.setTile_sigs (t : Nat) (x : Tile) : (s.setTile t x).sigs = s.sigs := rfl
@[simp] theorem State.setTile_slotFlits (t : Nat) (x : Tile) : (s.setTile t x).slotFlits = s.slotFlits := rfl
@[simp] theorem State.setTile_creditFlits (t : Nat) (x : Tile) : (s.setTile t x).creditFlits = s.creditFlits := rfl
@[simp] theorem State.setTile_units (t : Nat) (x : Tile) : (s.setTile t x).units = s.units := rfl
@[simp] theorem State.setTile_descs (t : Nat) (x : Tile) : (s.setTile t x).descs = s.descs := rfl
@[simp] theorem State.setTile_images (t : Nat) (x : Tile) : (s.setTile t x).images = s.images := rfl
@[simp] theorem State.setTile_nextUid (t : Nat) (x : Tile) : (s.setTile t x).nextUid = s.nextUid := rfl
@[simp] theorem State.setTile_mgmtHead (t : Nat) (x : Tile) : (s.setTile t x).mgmtHead = s.mgmtHead := rfl
@[simp] theorem State.setTile_mgmtDone (t : Nat) (x : Tile) : (s.setTile t x).mgmtDone = s.mgmtDone := rfl
@[simp] theorem State.setTile_lead (t : Nat) (x : Tile) : (s.setTile t x).lead = s.lead := rfl
@[simp] theorem State.setTile_dbFails (t : Nat) (x : Tile) : (s.setTile t x).dbFails = s.dbFails := rfl
@[simp] theorem State.setTile_indebted (t : Nat) (x : Tile) : (s.setTile t x).indebted = s.indebted := rfl
@[simp] theorem State.setTile_early (t : Nat) (x : Tile) : (s.setTile t x).early = s.early := rfl
@[simp] theorem State.setTile_windows (t : Nat) (x : Tile) : (s.setTile t x).windows = s.windows := rfl
@[simp] theorem State.setTile_stopped (t : Nat) (x : Tile) : (s.setTile t x).stopped = s.stopped := rfl
@[simp] theorem State.setTile_freed (t : Nat) (x : Tile) : (s.setTile t x).freed = s.freed := rfl
@[simp] theorem State.setTile_doorbells (t : Nat) (x : Tile) : (s.setTile t x).doorbells = s.doorbells := rfl
@[simp] theorem State.setTile_irqs (t : Nat) (x : Tile) : (s.setTile t x).irqs = s.irqs := rfl
@[simp] theorem State.setTile_eventsDue (t : Nat) (x : Tile) : (s.setTile t x).eventsDue = s.eventsDue := rfl
@[simp] theorem State.setTile_mgmts (t : Nat) (x : Tile) : (s.setTile t x).mgmts = s.mgmts := rfl
@[simp] theorem State.setTile_mgmtBad (t : Nat) (x : Tile) : (s.setTile t x).mgmtBad = s.mgmtBad := rfl
@[simp] theorem State.setTile_parked (t : Nat) (x : Tile) : (s.setTile t x).parked = s.parked := rfl
@[simp] theorem State.setTile_disclosed (t : Nat) (x : Tile) : (s.setTile t x).disclosed = s.disclosed := rfl
@[simp] theorem State.setTile_xfers (t : Nat) (x : Tile) : (s.setTile t x).xfers = s.xfers := rfl
@[simp] theorem State.setTile_reqs (t : Nat) (x : Tile) : (s.setTile t x).reqs = s.reqs := rfl
@[simp] theorem State.setTile_nextId (t : Nat) (x : Tile) : (s.setTile t x).nextId = s.nextId := rfl
@[simp] theorem State.setTile_hreads (t : Nat) (x : Tile) : (s.setTile t x).hreads = s.hreads := rfl
@[simp] theorem State.setTile_snoops (t : Nat) (x : Tile) : (s.setTile t x).snoops = s.snoops := rfl
@[simp] theorem State.setTile_downs (t : Nat) (x : Tile) : (s.setTile t x).downs = s.downs := rfl
@[simp] theorem State.setTile_cfgs (t : Nat) (x : Tile) : (s.setTile t x).cfgs = s.cfgs := rfl
@[simp] theorem State.setTile_bays (t : Nat) (x : Tile) : (s.setTile t x).bays = s.bays := rfl
@[simp] theorem State.setTile_population (t : Nat) (x : Tile) : (s.setTile t x).population = s.population := rfl
@[simp] theorem State.setTile_revFloor (t : Nat) (x : Tile) : (s.setTile t x).revFloor = s.revFloor := rfl
@[simp] theorem State.setTile_ringMods (t : Nat) (x : Tile) : (s.setTile t x).ringMods = s.ringMods := rfl
@[simp] theorem State.setTile_torPorts (t : Nat) (x : Tile) : (s.setTile t x).torPorts = s.torPorts := rfl
@[simp] theorem State.setTile_torRx (t : Nat) (x : Tile) : (s.setTile t x).torRx = s.torRx := rfl
@[simp] theorem State.setTile_torCmds (t : Nat) (x : Tile) : (s.setTile t x).torCmds = s.torCmds := rfl
@[simp] theorem State.setTile_torHead (t : Nat) (x : Tile) : (s.setTile t x).torHead = s.torHead := rfl
@[simp] theorem State.setTile_torPuts (t : Nat) (x : Tile) : (s.setTile t x).torPuts = s.torPuts := rfl
@[simp] theorem State.setTile_redChunks (t : Nat) (x : Tile) : (s.setTile t x).redChunks = s.redChunks := rfl
@[simp] theorem State.setTile_redNext (t : Nat) (x : Tile) : (s.setTile t x).redNext = s.redNext := rfl
@[simp] theorem State.setTile_slots (t : Nat) (x : Tile) : (s.setTile t x).slots = s.slots := rfl
@[simp] theorem State.setTile_closes (t : Nat) (x : Tile) : (s.setTile t x).closes = s.closes := rfl
@[simp] theorem State.setTile_streamLate (t : Nat) (x : Tile) : (s.setTile t x).streamLate = s.streamLate := rfl
@[simp] theorem State.setTile_knlEpochs (t : Nat) (x : Tile) : (s.setTile t x).knlEpochs = s.knlEpochs := rfl
@[simp] theorem State.setTile_knlDue (t : Nat) (x : Tile) : (s.setTile t x).knlDue = s.knlDue := rfl
@[simp] theorem State.setTile_knlTick (t : Nat) (x : Tile) : (s.setTile t x).knlTick = s.knlTick := rfl
@[simp] theorem State.setTile_knlLog (t : Nat) (x : Tile) : (s.setTile t x).knlLog = s.knlLog := rfl
@[simp] theorem State.setTile_sideOut (t : Nat) (x : Tile) : (s.setTile t x).sideOut = s.sideOut := rfl
@[simp] theorem State.setTile_sideSeq (t : Nat) (x : Tile) : (s.setTile t x).sideSeq = s.sideSeq := rfl
@[simp] theorem State.setTile_released (t : Nat) (x : Tile) : (s.setTile t x).released = s.released := rfl
@[simp] theorem State.setTile_ctxs (t : Nat) (x : Tile) : (s.setTile t x).ctxs = s.ctxs := rfl
@[simp] theorem State.setTile_nextKey (t : Nat) (x : Tile) : (s.setTile t x).nextKey = s.nextKey := rfl
@[simp] theorem State.setTile_knlDirty (t : Nat) (x : Tile) : (s.setTile t x).knlDirty = s.knlDirty := rfl
@[simp] theorem State.setTile_knlCkpt (t : Nat) (x : Tile) : (s.setTile t x).knlCkpt = s.knlCkpt := rfl
@[simp] theorem State.setTile_knlFrozen (t : Nat) (x : Tile) : (s.setTile t x).knlFrozen = s.knlFrozen := rfl
@[simp] theorem State.setTile_knlStage (t : Nat) (x : Tile) : (s.setTile t x).knlStage = s.knlStage := rfl
@[simp] theorem State.setTile_tlbs (t : Nat) (x : Tile) : (s.setTile t x).tlbs = s.tlbs := rfl
@[simp] theorem State.setTile_walks (t : Nat) (x : Tile) : (s.setTile t x).walks = s.walks := rfl
@[simp] theorem State.setTile_misses (t : Nat) (x : Tile) : (s.setTile t x).misses = s.misses := rfl
@[simp] theorem State.setTile_ask (t : Nat) (x : Tile) : (s.setTile t x).ask = s.ask := rfl
@[simp] theorem State.setTile_walkTurn (t : Nat) (x : Tile) : (s.setTile t x).walkTurn = s.walkTurn := rfl
@[simp] theorem State.setTile_invals (t : Nat) (x : Tile) : (s.setTile t x).invals = s.invals := rfl
@[simp] theorem State.setTile_leash (t : Nat) (x : Tile) : (s.setTile t x).leash = s.leash := rfl
@[simp] theorem State.setTile_effUse (t : Nat) (x : Tile) : (s.setTile t x).effUse = s.effUse := rfl
@[simp] theorem State.setTile_effDue (t : Nat) (x : Tile) : (s.setTile t x).effDue = s.effDue := rfl
@[simp] theorem State.setTile_served (t : Nat) (x : Tile) : (s.setTile t x).served = s.served := rfl
@[simp] theorem State.setTile_frameAt (t : Nat) (x : Tile) : (s.setTile t x).frameAt = s.frameAt := rfl
@[simp] theorem State.setTile_slotUse (t : Nat) (x : Tile) : (s.setTile t x).slotUse = s.slotUse := rfl
@[simp] theorem State.setTile_linkUse (t : Nat) (x : Tile) : (s.setTile t x).linkUse = s.linkUse := rfl
@[simp] theorem State.setTile_deficits (t : Nat) (x : Tile) : (s.setTile t x).deficits = s.deficits := rfl
@[simp] theorem State.setTile_drrAt (t : Nat) (x : Tile) : (s.setTile t x).drrAt = s.drrAt := rfl
@[simp] theorem State.setTile_loopbacks (t : Nat) (x : Tile) : (s.setTile t x).loopbacks = s.loopbacks := rfl
@[simp] theorem State.setTile_deadChans (t : Nat) (x : Tile) : (s.setTile t x).deadChans = s.deadChans := rfl
@[simp] theorem State.setTile_errs (t : Nat) (x : Tile) : (s.setTile t x).errs = s.errs := rfl
@[simp] theorem State.setTile_fatal (t : Nat) (x : Tile) : (s.setTile t x).fatal = s.fatal := rfl
@[simp] theorem State.setTile_vfEnable (t : Nat) (x : Tile) : (s.setTile t x).vfEnable = s.vfEnable := rfl
@[simp] theorem State.setTile_numVfs (t : Nat) (x : Tile) : (s.setTile t x).numVfs = s.numVfs := rfl
@[simp] theorem State.setTile_config (t : Nat) (x : Tile) : (s.setTile t x).config = s.config := rfl
@[simp] theorem State.setTile_heldWrites (t : Nat) (x : Tile) : (s.setTile t x).heldWrites = s.heldWrites := rfl
@[simp] theorem State.setTile_heldMsix (t : Nat) (x : Tile) : (s.setTile t x).heldMsix = s.heldMsix := rfl
@[simp] theorem State.setTile_host (t : Nat) (x : Tile) : (s.setTile t x).host = s.host := rfl
@[simp] theorem State.setTile_tck (t : Nat) (x : Tile) : (s.setTile t x).tck = s.tck := rfl
@[simp] theorem State.setTile_sec (t : Nat) (x : Tile) : (s.setTile t x).sec = s.sec := rfl
@[simp] theorem State.setTile_boot (t : Nat) (x : Tile) : (s.setTile t x).boot = s.boot := rfl
@[simp] theorem State.setTile_heat (t : Nat) (x : Tile) : (s.setTile t x).heat = s.heat := rfl
@[simp] theorem State.setTile_out (t : Nat) (x : Tile) : (s.setTile t x).out = s.out := rfl
@[simp] theorem State.setTile_pending (t : Nat) (x : Tile) : (s.setTile t x).pending = s.pending := rfl

/-! ### `setClu` -/

@[simp] theorem State.setClu_regs (c : Nat) (x : Cluster) : (s.setClu c x).regs = s.regs := rfl
@[simp] theorem State.setClu_shadow (c : Nat) (x : Cluster) : (s.setClu c x).shadow = s.shadow := rfl
@[simp] theorem State.setClu_latch (c : Nat) (x : Cluster) : (s.setClu c x).latch = s.latch := rfl
@[simp] theorem State.setClu_wroteRegion (c : Nat) (x : Cluster) : (s.setClu c x).wroteRegion = s.wroteRegion := rfl
@[simp] theorem State.setClu_wroteLeash (c : Nat) (x : Cluster) : (s.setClu c x).wroteLeash = s.wroteLeash := rfl
@[simp] theorem State.setClu_wroteSlots (c : Nat) (x : Cluster) : (s.setClu c x).wroteSlots = s.wroteSlots := rfl
@[simp] theorem State.setClu_wrotePar (c : Nat) (x : Cluster) : (s.setClu c x).wrotePar = s.wrotePar := rfl
@[simp] theorem State.setClu_now (c : Nat) (x : Cluster) : (s.setClu c x).now = s.now := rfl
@[simp] theorem State.setClu_free (c : Nat) (x : Cluster) : (s.setClu c x).free = s.free := rfl
@[simp] theorem State.setClu_dies (c : Nat) (x : Cluster) : (s.setClu c x).dies = s.dies := rfl
@[simp] theorem State.setClu_dram (c : Nat) (x : Cluster) : (s.setClu c x).dram = s.dram := rfl
@[simp] theorem State.setClu_stcLines (c : Nat) (x : Cluster) : (s.setClu c x).stcLines = s.stcLines := rfl
@[simp] theorem State.setClu_ue (c : Nat) (x : Cluster) : (s.setClu c x).ue = s.ue := rfl
@[simp] theorem State.setClu_rowCe (c : Nat) (x : Cluster) : (s.setClu c x).rowCe = s.rowCe := rfl
@[simp] theorem State.setClu_dirs (c : Nat) (x : Cluster) : (s.setClu c x).dirs = s.dirs := rfl
@[simp] theorem State.setClu_dirOrder (c : Nat) (x : Cluster) : (s.setClu c x).dirOrder = s.dirOrder := rfl
@[simp] theorem State.setClu_tiles (c : Nat) (x : Cluster) : (s.setClu c x).tiles = s.tiles := rfl
@[simp] theorem State.setClu_sigs (c : Nat) (x : Cluster) : (s.setClu c x).sigs = s.sigs := rfl
@[simp] theorem State.setClu_slotFlits (c : Nat) (x : Cluster) : (s.setClu c x).slotFlits = s.slotFlits := rfl
@[simp] theorem State.setClu_creditFlits (c : Nat) (x : Cluster) : (s.setClu c x).creditFlits = s.creditFlits := rfl
@[simp] theorem State.setClu_units (c : Nat) (x : Cluster) : (s.setClu c x).units = s.units := rfl
@[simp] theorem State.setClu_descs (c : Nat) (x : Cluster) : (s.setClu c x).descs = s.descs := rfl
@[simp] theorem State.setClu_images (c : Nat) (x : Cluster) : (s.setClu c x).images = s.images := rfl
@[simp] theorem State.setClu_nextUid (c : Nat) (x : Cluster) : (s.setClu c x).nextUid = s.nextUid := rfl
@[simp] theorem State.setClu_mgmtHead (c : Nat) (x : Cluster) : (s.setClu c x).mgmtHead = s.mgmtHead := rfl
@[simp] theorem State.setClu_mgmtDone (c : Nat) (x : Cluster) : (s.setClu c x).mgmtDone = s.mgmtDone := rfl
@[simp] theorem State.setClu_lead (c : Nat) (x : Cluster) : (s.setClu c x).lead = s.lead := rfl
@[simp] theorem State.setClu_dbFails (c : Nat) (x : Cluster) : (s.setClu c x).dbFails = s.dbFails := rfl
@[simp] theorem State.setClu_indebted (c : Nat) (x : Cluster) : (s.setClu c x).indebted = s.indebted := rfl
@[simp] theorem State.setClu_early (c : Nat) (x : Cluster) : (s.setClu c x).early = s.early := rfl
@[simp] theorem State.setClu_windows (c : Nat) (x : Cluster) : (s.setClu c x).windows = s.windows := rfl
@[simp] theorem State.setClu_stopped (c : Nat) (x : Cluster) : (s.setClu c x).stopped = s.stopped := rfl
@[simp] theorem State.setClu_freed (c : Nat) (x : Cluster) : (s.setClu c x).freed = s.freed := rfl
@[simp] theorem State.setClu_doorbells (c : Nat) (x : Cluster) : (s.setClu c x).doorbells = s.doorbells := rfl
@[simp] theorem State.setClu_irqs (c : Nat) (x : Cluster) : (s.setClu c x).irqs = s.irqs := rfl
@[simp] theorem State.setClu_eventsDue (c : Nat) (x : Cluster) : (s.setClu c x).eventsDue = s.eventsDue := rfl
@[simp] theorem State.setClu_mgmts (c : Nat) (x : Cluster) : (s.setClu c x).mgmts = s.mgmts := rfl
@[simp] theorem State.setClu_mgmtBad (c : Nat) (x : Cluster) : (s.setClu c x).mgmtBad = s.mgmtBad := rfl
@[simp] theorem State.setClu_parked (c : Nat) (x : Cluster) : (s.setClu c x).parked = s.parked := rfl
@[simp] theorem State.setClu_disclosed (c : Nat) (x : Cluster) : (s.setClu c x).disclosed = s.disclosed := rfl
@[simp] theorem State.setClu_xfers (c : Nat) (x : Cluster) : (s.setClu c x).xfers = s.xfers := rfl
@[simp] theorem State.setClu_reqs (c : Nat) (x : Cluster) : (s.setClu c x).reqs = s.reqs := rfl
@[simp] theorem State.setClu_nextId (c : Nat) (x : Cluster) : (s.setClu c x).nextId = s.nextId := rfl
@[simp] theorem State.setClu_hreads (c : Nat) (x : Cluster) : (s.setClu c x).hreads = s.hreads := rfl
@[simp] theorem State.setClu_snoops (c : Nat) (x : Cluster) : (s.setClu c x).snoops = s.snoops := rfl
@[simp] theorem State.setClu_downs (c : Nat) (x : Cluster) : (s.setClu c x).downs = s.downs := rfl
@[simp] theorem State.setClu_cfgs (c : Nat) (x : Cluster) : (s.setClu c x).cfgs = s.cfgs := rfl
@[simp] theorem State.setClu_bays (c : Nat) (x : Cluster) : (s.setClu c x).bays = s.bays := rfl
@[simp] theorem State.setClu_population (c : Nat) (x : Cluster) : (s.setClu c x).population = s.population := rfl
@[simp] theorem State.setClu_revFloor (c : Nat) (x : Cluster) : (s.setClu c x).revFloor = s.revFloor := rfl
@[simp] theorem State.setClu_ringMods (c : Nat) (x : Cluster) : (s.setClu c x).ringMods = s.ringMods := rfl
@[simp] theorem State.setClu_torPorts (c : Nat) (x : Cluster) : (s.setClu c x).torPorts = s.torPorts := rfl
@[simp] theorem State.setClu_torRx (c : Nat) (x : Cluster) : (s.setClu c x).torRx = s.torRx := rfl
@[simp] theorem State.setClu_torCmds (c : Nat) (x : Cluster) : (s.setClu c x).torCmds = s.torCmds := rfl
@[simp] theorem State.setClu_torHead (c : Nat) (x : Cluster) : (s.setClu c x).torHead = s.torHead := rfl
@[simp] theorem State.setClu_torPuts (c : Nat) (x : Cluster) : (s.setClu c x).torPuts = s.torPuts := rfl
@[simp] theorem State.setClu_redChunks (c : Nat) (x : Cluster) : (s.setClu c x).redChunks = s.redChunks := rfl
@[simp] theorem State.setClu_redNext (c : Nat) (x : Cluster) : (s.setClu c x).redNext = s.redNext := rfl
@[simp] theorem State.setClu_slots (c : Nat) (x : Cluster) : (s.setClu c x).slots = s.slots := rfl
@[simp] theorem State.setClu_closes (c : Nat) (x : Cluster) : (s.setClu c x).closes = s.closes := rfl
@[simp] theorem State.setClu_streamLate (c : Nat) (x : Cluster) : (s.setClu c x).streamLate = s.streamLate := rfl
@[simp] theorem State.setClu_knlEpochs (c : Nat) (x : Cluster) : (s.setClu c x).knlEpochs = s.knlEpochs := rfl
@[simp] theorem State.setClu_knlDue (c : Nat) (x : Cluster) : (s.setClu c x).knlDue = s.knlDue := rfl
@[simp] theorem State.setClu_knlTick (c : Nat) (x : Cluster) : (s.setClu c x).knlTick = s.knlTick := rfl
@[simp] theorem State.setClu_knlLog (c : Nat) (x : Cluster) : (s.setClu c x).knlLog = s.knlLog := rfl
@[simp] theorem State.setClu_sideOut (c : Nat) (x : Cluster) : (s.setClu c x).sideOut = s.sideOut := rfl
@[simp] theorem State.setClu_sideSeq (c : Nat) (x : Cluster) : (s.setClu c x).sideSeq = s.sideSeq := rfl
@[simp] theorem State.setClu_released (c : Nat) (x : Cluster) : (s.setClu c x).released = s.released := rfl
@[simp] theorem State.setClu_ctxs (c : Nat) (x : Cluster) : (s.setClu c x).ctxs = s.ctxs := rfl
@[simp] theorem State.setClu_nextKey (c : Nat) (x : Cluster) : (s.setClu c x).nextKey = s.nextKey := rfl
@[simp] theorem State.setClu_knlDirty (c : Nat) (x : Cluster) : (s.setClu c x).knlDirty = s.knlDirty := rfl
@[simp] theorem State.setClu_knlCkpt (c : Nat) (x : Cluster) : (s.setClu c x).knlCkpt = s.knlCkpt := rfl
@[simp] theorem State.setClu_knlFrozen (c : Nat) (x : Cluster) : (s.setClu c x).knlFrozen = s.knlFrozen := rfl
@[simp] theorem State.setClu_knlStage (c : Nat) (x : Cluster) : (s.setClu c x).knlStage = s.knlStage := rfl
@[simp] theorem State.setClu_tlbs (c : Nat) (x : Cluster) : (s.setClu c x).tlbs = s.tlbs := rfl
@[simp] theorem State.setClu_walks (c : Nat) (x : Cluster) : (s.setClu c x).walks = s.walks := rfl
@[simp] theorem State.setClu_misses (c : Nat) (x : Cluster) : (s.setClu c x).misses = s.misses := rfl
@[simp] theorem State.setClu_ask (c : Nat) (x : Cluster) : (s.setClu c x).ask = s.ask := rfl
@[simp] theorem State.setClu_walkTurn (c : Nat) (x : Cluster) : (s.setClu c x).walkTurn = s.walkTurn := rfl
@[simp] theorem State.setClu_invals (c : Nat) (x : Cluster) : (s.setClu c x).invals = s.invals := rfl
@[simp] theorem State.setClu_leash (c : Nat) (x : Cluster) : (s.setClu c x).leash = s.leash := rfl
@[simp] theorem State.setClu_effUse (c : Nat) (x : Cluster) : (s.setClu c x).effUse = s.effUse := rfl
@[simp] theorem State.setClu_effDue (c : Nat) (x : Cluster) : (s.setClu c x).effDue = s.effDue := rfl
@[simp] theorem State.setClu_served (c : Nat) (x : Cluster) : (s.setClu c x).served = s.served := rfl
@[simp] theorem State.setClu_frameAt (c : Nat) (x : Cluster) : (s.setClu c x).frameAt = s.frameAt := rfl
@[simp] theorem State.setClu_slotUse (c : Nat) (x : Cluster) : (s.setClu c x).slotUse = s.slotUse := rfl
@[simp] theorem State.setClu_linkUse (c : Nat) (x : Cluster) : (s.setClu c x).linkUse = s.linkUse := rfl
@[simp] theorem State.setClu_deficits (c : Nat) (x : Cluster) : (s.setClu c x).deficits = s.deficits := rfl
@[simp] theorem State.setClu_drrAt (c : Nat) (x : Cluster) : (s.setClu c x).drrAt = s.drrAt := rfl
@[simp] theorem State.setClu_loopbacks (c : Nat) (x : Cluster) : (s.setClu c x).loopbacks = s.loopbacks := rfl
@[simp] theorem State.setClu_deadChans (c : Nat) (x : Cluster) : (s.setClu c x).deadChans = s.deadChans := rfl
@[simp] theorem State.setClu_errs (c : Nat) (x : Cluster) : (s.setClu c x).errs = s.errs := rfl
@[simp] theorem State.setClu_fatal (c : Nat) (x : Cluster) : (s.setClu c x).fatal = s.fatal := rfl
@[simp] theorem State.setClu_vfEnable (c : Nat) (x : Cluster) : (s.setClu c x).vfEnable = s.vfEnable := rfl
@[simp] theorem State.setClu_numVfs (c : Nat) (x : Cluster) : (s.setClu c x).numVfs = s.numVfs := rfl
@[simp] theorem State.setClu_config (c : Nat) (x : Cluster) : (s.setClu c x).config = s.config := rfl
@[simp] theorem State.setClu_heldWrites (c : Nat) (x : Cluster) : (s.setClu c x).heldWrites = s.heldWrites := rfl
@[simp] theorem State.setClu_heldMsix (c : Nat) (x : Cluster) : (s.setClu c x).heldMsix = s.heldMsix := rfl
@[simp] theorem State.setClu_host (c : Nat) (x : Cluster) : (s.setClu c x).host = s.host := rfl
@[simp] theorem State.setClu_tck (c : Nat) (x : Cluster) : (s.setClu c x).tck = s.tck := rfl
@[simp] theorem State.setClu_sec (c : Nat) (x : Cluster) : (s.setClu c x).sec = s.sec := rfl
@[simp] theorem State.setClu_boot (c : Nat) (x : Cluster) : (s.setClu c x).boot = s.boot := rfl
@[simp] theorem State.setClu_heat (c : Nat) (x : Cluster) : (s.setClu c x).heat = s.heat := rfl
@[simp] theorem State.setClu_out (c : Nat) (x : Cluster) : (s.setClu c x).out = s.out := rfl
@[simp] theorem State.setClu_pending (c : Nat) (x : Cluster) : (s.setClu c x).pending = s.pending := rfl

/-! ### `send` -/

@[simp] theorem State.send_regs (o : Out) : (s.send o).regs = s.regs := rfl
@[simp] theorem State.send_shadow (o : Out) : (s.send o).shadow = s.shadow := rfl
@[simp] theorem State.send_latch (o : Out) : (s.send o).latch = s.latch := rfl
@[simp] theorem State.send_wroteRegion (o : Out) : (s.send o).wroteRegion = s.wroteRegion := rfl
@[simp] theorem State.send_wroteLeash (o : Out) : (s.send o).wroteLeash = s.wroteLeash := rfl
@[simp] theorem State.send_wroteSlots (o : Out) : (s.send o).wroteSlots = s.wroteSlots := rfl
@[simp] theorem State.send_wrotePar (o : Out) : (s.send o).wrotePar = s.wrotePar := rfl
@[simp] theorem State.send_now (o : Out) : (s.send o).now = s.now := rfl
@[simp] theorem State.send_free (o : Out) : (s.send o).free = s.free := rfl
@[simp] theorem State.send_dies (o : Out) : (s.send o).dies = s.dies := rfl
@[simp] theorem State.send_dram (o : Out) : (s.send o).dram = s.dram := rfl
@[simp] theorem State.send_stcLines (o : Out) : (s.send o).stcLines = s.stcLines := rfl
@[simp] theorem State.send_ue (o : Out) : (s.send o).ue = s.ue := rfl
@[simp] theorem State.send_rowCe (o : Out) : (s.send o).rowCe = s.rowCe := rfl
@[simp] theorem State.send_dirs (o : Out) : (s.send o).dirs = s.dirs := rfl
@[simp] theorem State.send_dirOrder (o : Out) : (s.send o).dirOrder = s.dirOrder := rfl
@[simp] theorem State.send_tiles (o : Out) : (s.send o).tiles = s.tiles := rfl
@[simp] theorem State.send_clusters (o : Out) : (s.send o).clusters = s.clusters := rfl
@[simp] theorem State.send_sigs (o : Out) : (s.send o).sigs = s.sigs := rfl
@[simp] theorem State.send_slotFlits (o : Out) : (s.send o).slotFlits = s.slotFlits := rfl
@[simp] theorem State.send_creditFlits (o : Out) : (s.send o).creditFlits = s.creditFlits := rfl
@[simp] theorem State.send_units (o : Out) : (s.send o).units = s.units := rfl
@[simp] theorem State.send_descs (o : Out) : (s.send o).descs = s.descs := rfl
@[simp] theorem State.send_images (o : Out) : (s.send o).images = s.images := rfl
@[simp] theorem State.send_nextUid (o : Out) : (s.send o).nextUid = s.nextUid := rfl
@[simp] theorem State.send_mgmtHead (o : Out) : (s.send o).mgmtHead = s.mgmtHead := rfl
@[simp] theorem State.send_mgmtDone (o : Out) : (s.send o).mgmtDone = s.mgmtDone := rfl
@[simp] theorem State.send_lead (o : Out) : (s.send o).lead = s.lead := rfl
@[simp] theorem State.send_dbFails (o : Out) : (s.send o).dbFails = s.dbFails := rfl
@[simp] theorem State.send_indebted (o : Out) : (s.send o).indebted = s.indebted := rfl
@[simp] theorem State.send_early (o : Out) : (s.send o).early = s.early := rfl
@[simp] theorem State.send_windows (o : Out) : (s.send o).windows = s.windows := rfl
@[simp] theorem State.send_stopped (o : Out) : (s.send o).stopped = s.stopped := rfl
@[simp] theorem State.send_freed (o : Out) : (s.send o).freed = s.freed := rfl
@[simp] theorem State.send_doorbells (o : Out) : (s.send o).doorbells = s.doorbells := rfl
@[simp] theorem State.send_irqs (o : Out) : (s.send o).irqs = s.irqs := rfl
@[simp] theorem State.send_eventsDue (o : Out) : (s.send o).eventsDue = s.eventsDue := rfl
@[simp] theorem State.send_mgmts (o : Out) : (s.send o).mgmts = s.mgmts := rfl
@[simp] theorem State.send_mgmtBad (o : Out) : (s.send o).mgmtBad = s.mgmtBad := rfl
@[simp] theorem State.send_parked (o : Out) : (s.send o).parked = s.parked := rfl
@[simp] theorem State.send_disclosed (o : Out) : (s.send o).disclosed = s.disclosed := rfl
@[simp] theorem State.send_xfers (o : Out) : (s.send o).xfers = s.xfers := rfl
@[simp] theorem State.send_reqs (o : Out) : (s.send o).reqs = s.reqs := rfl
@[simp] theorem State.send_nextId (o : Out) : (s.send o).nextId = s.nextId := rfl
@[simp] theorem State.send_hreads (o : Out) : (s.send o).hreads = s.hreads := rfl
@[simp] theorem State.send_snoops (o : Out) : (s.send o).snoops = s.snoops := rfl
@[simp] theorem State.send_downs (o : Out) : (s.send o).downs = s.downs := rfl
@[simp] theorem State.send_cfgs (o : Out) : (s.send o).cfgs = s.cfgs := rfl
@[simp] theorem State.send_bays (o : Out) : (s.send o).bays = s.bays := rfl
@[simp] theorem State.send_population (o : Out) : (s.send o).population = s.population := rfl
@[simp] theorem State.send_revFloor (o : Out) : (s.send o).revFloor = s.revFloor := rfl
@[simp] theorem State.send_ringMods (o : Out) : (s.send o).ringMods = s.ringMods := rfl
@[simp] theorem State.send_torPorts (o : Out) : (s.send o).torPorts = s.torPorts := rfl
@[simp] theorem State.send_torRx (o : Out) : (s.send o).torRx = s.torRx := rfl
@[simp] theorem State.send_torCmds (o : Out) : (s.send o).torCmds = s.torCmds := rfl
@[simp] theorem State.send_torHead (o : Out) : (s.send o).torHead = s.torHead := rfl
@[simp] theorem State.send_torPuts (o : Out) : (s.send o).torPuts = s.torPuts := rfl
@[simp] theorem State.send_redChunks (o : Out) : (s.send o).redChunks = s.redChunks := rfl
@[simp] theorem State.send_redNext (o : Out) : (s.send o).redNext = s.redNext := rfl
@[simp] theorem State.send_slots (o : Out) : (s.send o).slots = s.slots := rfl
@[simp] theorem State.send_closes (o : Out) : (s.send o).closes = s.closes := rfl
@[simp] theorem State.send_streamLate (o : Out) : (s.send o).streamLate = s.streamLate := rfl
@[simp] theorem State.send_knlEpochs (o : Out) : (s.send o).knlEpochs = s.knlEpochs := rfl
@[simp] theorem State.send_knlDue (o : Out) : (s.send o).knlDue = s.knlDue := rfl
@[simp] theorem State.send_knlTick (o : Out) : (s.send o).knlTick = s.knlTick := rfl
@[simp] theorem State.send_knlLog (o : Out) : (s.send o).knlLog = s.knlLog := rfl
@[simp] theorem State.send_sideOut (o : Out) : (s.send o).sideOut = s.sideOut := rfl
@[simp] theorem State.send_sideSeq (o : Out) : (s.send o).sideSeq = s.sideSeq := rfl
@[simp] theorem State.send_released (o : Out) : (s.send o).released = s.released := rfl
@[simp] theorem State.send_ctxs (o : Out) : (s.send o).ctxs = s.ctxs := rfl
@[simp] theorem State.send_nextKey (o : Out) : (s.send o).nextKey = s.nextKey := rfl
@[simp] theorem State.send_knlDirty (o : Out) : (s.send o).knlDirty = s.knlDirty := rfl
@[simp] theorem State.send_knlCkpt (o : Out) : (s.send o).knlCkpt = s.knlCkpt := rfl
@[simp] theorem State.send_knlFrozen (o : Out) : (s.send o).knlFrozen = s.knlFrozen := rfl
@[simp] theorem State.send_knlStage (o : Out) : (s.send o).knlStage = s.knlStage := rfl
@[simp] theorem State.send_tlbs (o : Out) : (s.send o).tlbs = s.tlbs := rfl
@[simp] theorem State.send_walks (o : Out) : (s.send o).walks = s.walks := rfl
@[simp] theorem State.send_misses (o : Out) : (s.send o).misses = s.misses := rfl
@[simp] theorem State.send_ask (o : Out) : (s.send o).ask = s.ask := rfl
@[simp] theorem State.send_walkTurn (o : Out) : (s.send o).walkTurn = s.walkTurn := rfl
@[simp] theorem State.send_invals (o : Out) : (s.send o).invals = s.invals := rfl
@[simp] theorem State.send_leash (o : Out) : (s.send o).leash = s.leash := rfl
@[simp] theorem State.send_effUse (o : Out) : (s.send o).effUse = s.effUse := rfl
@[simp] theorem State.send_effDue (o : Out) : (s.send o).effDue = s.effDue := rfl
@[simp] theorem State.send_served (o : Out) : (s.send o).served = s.served := rfl
@[simp] theorem State.send_frameAt (o : Out) : (s.send o).frameAt = s.frameAt := rfl
@[simp] theorem State.send_slotUse (o : Out) : (s.send o).slotUse = s.slotUse := rfl
@[simp] theorem State.send_linkUse (o : Out) : (s.send o).linkUse = s.linkUse := rfl
@[simp] theorem State.send_deficits (o : Out) : (s.send o).deficits = s.deficits := rfl
@[simp] theorem State.send_drrAt (o : Out) : (s.send o).drrAt = s.drrAt := rfl
@[simp] theorem State.send_loopbacks (o : Out) : (s.send o).loopbacks = s.loopbacks := rfl
@[simp] theorem State.send_deadChans (o : Out) : (s.send o).deadChans = s.deadChans := rfl
@[simp] theorem State.send_errs (o : Out) : (s.send o).errs = s.errs := rfl
@[simp] theorem State.send_fatal (o : Out) : (s.send o).fatal = s.fatal := rfl
@[simp] theorem State.send_vfEnable (o : Out) : (s.send o).vfEnable = s.vfEnable := rfl
@[simp] theorem State.send_numVfs (o : Out) : (s.send o).numVfs = s.numVfs := rfl
@[simp] theorem State.send_config (o : Out) : (s.send o).config = s.config := rfl
@[simp] theorem State.send_heldWrites (o : Out) : (s.send o).heldWrites = s.heldWrites := rfl
@[simp] theorem State.send_heldMsix (o : Out) : (s.send o).heldMsix = s.heldMsix := rfl
@[simp] theorem State.send_host (o : Out) : (s.send o).host = s.host := rfl
@[simp] theorem State.send_tck (o : Out) : (s.send o).tck = s.tck := rfl
@[simp] theorem State.send_sec (o : Out) : (s.send o).sec = s.sec := rfl
@[simp] theorem State.send_boot (o : Out) : (s.send o).boot = s.boot := rfl
@[simp] theorem State.send_heat (o : Out) : (s.send o).heat = s.heat := rfl
@[simp] theorem State.send_pending (o : Out) : (s.send o).pending = s.pending := rfl

/-! ### `useFree` -/

@[simp] theorem State.useFree_regs (n : Nat) : (s.useFree n).regs = s.regs := rfl
@[simp] theorem State.useFree_shadow (n : Nat) : (s.useFree n).shadow = s.shadow := rfl
@[simp] theorem State.useFree_latch (n : Nat) : (s.useFree n).latch = s.latch := rfl
@[simp] theorem State.useFree_wroteRegion (n : Nat) : (s.useFree n).wroteRegion = s.wroteRegion := rfl
@[simp] theorem State.useFree_wroteLeash (n : Nat) : (s.useFree n).wroteLeash = s.wroteLeash := rfl
@[simp] theorem State.useFree_wroteSlots (n : Nat) : (s.useFree n).wroteSlots = s.wroteSlots := rfl
@[simp] theorem State.useFree_wrotePar (n : Nat) : (s.useFree n).wrotePar = s.wrotePar := rfl
@[simp] theorem State.useFree_now (n : Nat) : (s.useFree n).now = s.now := rfl
@[simp] theorem State.useFree_dies (n : Nat) : (s.useFree n).dies = s.dies := rfl
@[simp] theorem State.useFree_dram (n : Nat) : (s.useFree n).dram = s.dram := rfl
@[simp] theorem State.useFree_stcLines (n : Nat) : (s.useFree n).stcLines = s.stcLines := rfl
@[simp] theorem State.useFree_ue (n : Nat) : (s.useFree n).ue = s.ue := rfl
@[simp] theorem State.useFree_rowCe (n : Nat) : (s.useFree n).rowCe = s.rowCe := rfl
@[simp] theorem State.useFree_dirs (n : Nat) : (s.useFree n).dirs = s.dirs := rfl
@[simp] theorem State.useFree_dirOrder (n : Nat) : (s.useFree n).dirOrder = s.dirOrder := rfl
@[simp] theorem State.useFree_tiles (n : Nat) : (s.useFree n).tiles = s.tiles := rfl
@[simp] theorem State.useFree_clusters (n : Nat) : (s.useFree n).clusters = s.clusters := rfl
@[simp] theorem State.useFree_sigs (n : Nat) : (s.useFree n).sigs = s.sigs := rfl
@[simp] theorem State.useFree_slotFlits (n : Nat) : (s.useFree n).slotFlits = s.slotFlits := rfl
@[simp] theorem State.useFree_creditFlits (n : Nat) : (s.useFree n).creditFlits = s.creditFlits := rfl
@[simp] theorem State.useFree_units (n : Nat) : (s.useFree n).units = s.units := rfl
@[simp] theorem State.useFree_descs (n : Nat) : (s.useFree n).descs = s.descs := rfl
@[simp] theorem State.useFree_images (n : Nat) : (s.useFree n).images = s.images := rfl
@[simp] theorem State.useFree_nextUid (n : Nat) : (s.useFree n).nextUid = s.nextUid := rfl
@[simp] theorem State.useFree_mgmtHead (n : Nat) : (s.useFree n).mgmtHead = s.mgmtHead := rfl
@[simp] theorem State.useFree_mgmtDone (n : Nat) : (s.useFree n).mgmtDone = s.mgmtDone := rfl
@[simp] theorem State.useFree_lead (n : Nat) : (s.useFree n).lead = s.lead := rfl
@[simp] theorem State.useFree_dbFails (n : Nat) : (s.useFree n).dbFails = s.dbFails := rfl
@[simp] theorem State.useFree_indebted (n : Nat) : (s.useFree n).indebted = s.indebted := rfl
@[simp] theorem State.useFree_early (n : Nat) : (s.useFree n).early = s.early := rfl
@[simp] theorem State.useFree_windows (n : Nat) : (s.useFree n).windows = s.windows := rfl
@[simp] theorem State.useFree_stopped (n : Nat) : (s.useFree n).stopped = s.stopped := rfl
@[simp] theorem State.useFree_freed (n : Nat) : (s.useFree n).freed = s.freed := rfl
@[simp] theorem State.useFree_doorbells (n : Nat) : (s.useFree n).doorbells = s.doorbells := rfl
@[simp] theorem State.useFree_irqs (n : Nat) : (s.useFree n).irqs = s.irqs := rfl
@[simp] theorem State.useFree_eventsDue (n : Nat) : (s.useFree n).eventsDue = s.eventsDue := rfl
@[simp] theorem State.useFree_mgmts (n : Nat) : (s.useFree n).mgmts = s.mgmts := rfl
@[simp] theorem State.useFree_mgmtBad (n : Nat) : (s.useFree n).mgmtBad = s.mgmtBad := rfl
@[simp] theorem State.useFree_parked (n : Nat) : (s.useFree n).parked = s.parked := rfl
@[simp] theorem State.useFree_disclosed (n : Nat) : (s.useFree n).disclosed = s.disclosed := rfl
@[simp] theorem State.useFree_xfers (n : Nat) : (s.useFree n).xfers = s.xfers := rfl
@[simp] theorem State.useFree_reqs (n : Nat) : (s.useFree n).reqs = s.reqs := rfl
@[simp] theorem State.useFree_nextId (n : Nat) : (s.useFree n).nextId = s.nextId := rfl
@[simp] theorem State.useFree_hreads (n : Nat) : (s.useFree n).hreads = s.hreads := rfl
@[simp] theorem State.useFree_snoops (n : Nat) : (s.useFree n).snoops = s.snoops := rfl
@[simp] theorem State.useFree_downs (n : Nat) : (s.useFree n).downs = s.downs := rfl
@[simp] theorem State.useFree_cfgs (n : Nat) : (s.useFree n).cfgs = s.cfgs := rfl
@[simp] theorem State.useFree_bays (n : Nat) : (s.useFree n).bays = s.bays := rfl
@[simp] theorem State.useFree_population (n : Nat) : (s.useFree n).population = s.population := rfl
@[simp] theorem State.useFree_revFloor (n : Nat) : (s.useFree n).revFloor = s.revFloor := rfl
@[simp] theorem State.useFree_ringMods (n : Nat) : (s.useFree n).ringMods = s.ringMods := rfl
@[simp] theorem State.useFree_torPorts (n : Nat) : (s.useFree n).torPorts = s.torPorts := rfl
@[simp] theorem State.useFree_torRx (n : Nat) : (s.useFree n).torRx = s.torRx := rfl
@[simp] theorem State.useFree_torCmds (n : Nat) : (s.useFree n).torCmds = s.torCmds := rfl
@[simp] theorem State.useFree_torHead (n : Nat) : (s.useFree n).torHead = s.torHead := rfl
@[simp] theorem State.useFree_torPuts (n : Nat) : (s.useFree n).torPuts = s.torPuts := rfl
@[simp] theorem State.useFree_redChunks (n : Nat) : (s.useFree n).redChunks = s.redChunks := rfl
@[simp] theorem State.useFree_redNext (n : Nat) : (s.useFree n).redNext = s.redNext := rfl
@[simp] theorem State.useFree_slots (n : Nat) : (s.useFree n).slots = s.slots := rfl
@[simp] theorem State.useFree_closes (n : Nat) : (s.useFree n).closes = s.closes := rfl
@[simp] theorem State.useFree_streamLate (n : Nat) : (s.useFree n).streamLate = s.streamLate := rfl
@[simp] theorem State.useFree_knlEpochs (n : Nat) : (s.useFree n).knlEpochs = s.knlEpochs := rfl
@[simp] theorem State.useFree_knlDue (n : Nat) : (s.useFree n).knlDue = s.knlDue := rfl
@[simp] theorem State.useFree_knlTick (n : Nat) : (s.useFree n).knlTick = s.knlTick := rfl
@[simp] theorem State.useFree_knlLog (n : Nat) : (s.useFree n).knlLog = s.knlLog := rfl
@[simp] theorem State.useFree_sideOut (n : Nat) : (s.useFree n).sideOut = s.sideOut := rfl
@[simp] theorem State.useFree_sideSeq (n : Nat) : (s.useFree n).sideSeq = s.sideSeq := rfl
@[simp] theorem State.useFree_released (n : Nat) : (s.useFree n).released = s.released := rfl
@[simp] theorem State.useFree_ctxs (n : Nat) : (s.useFree n).ctxs = s.ctxs := rfl
@[simp] theorem State.useFree_nextKey (n : Nat) : (s.useFree n).nextKey = s.nextKey := rfl
@[simp] theorem State.useFree_knlDirty (n : Nat) : (s.useFree n).knlDirty = s.knlDirty := rfl
@[simp] theorem State.useFree_knlCkpt (n : Nat) : (s.useFree n).knlCkpt = s.knlCkpt := rfl
@[simp] theorem State.useFree_knlFrozen (n : Nat) : (s.useFree n).knlFrozen = s.knlFrozen := rfl
@[simp] theorem State.useFree_knlStage (n : Nat) : (s.useFree n).knlStage = s.knlStage := rfl
@[simp] theorem State.useFree_tlbs (n : Nat) : (s.useFree n).tlbs = s.tlbs := rfl
@[simp] theorem State.useFree_walks (n : Nat) : (s.useFree n).walks = s.walks := rfl
@[simp] theorem State.useFree_misses (n : Nat) : (s.useFree n).misses = s.misses := rfl
@[simp] theorem State.useFree_ask (n : Nat) : (s.useFree n).ask = s.ask := rfl
@[simp] theorem State.useFree_walkTurn (n : Nat) : (s.useFree n).walkTurn = s.walkTurn := rfl
@[simp] theorem State.useFree_invals (n : Nat) : (s.useFree n).invals = s.invals := rfl
@[simp] theorem State.useFree_leash (n : Nat) : (s.useFree n).leash = s.leash := rfl
@[simp] theorem State.useFree_effUse (n : Nat) : (s.useFree n).effUse = s.effUse := rfl
@[simp] theorem State.useFree_effDue (n : Nat) : (s.useFree n).effDue = s.effDue := rfl
@[simp] theorem State.useFree_served (n : Nat) : (s.useFree n).served = s.served := rfl
@[simp] theorem State.useFree_frameAt (n : Nat) : (s.useFree n).frameAt = s.frameAt := rfl
@[simp] theorem State.useFree_slotUse (n : Nat) : (s.useFree n).slotUse = s.slotUse := rfl
@[simp] theorem State.useFree_linkUse (n : Nat) : (s.useFree n).linkUse = s.linkUse := rfl
@[simp] theorem State.useFree_deficits (n : Nat) : (s.useFree n).deficits = s.deficits := rfl
@[simp] theorem State.useFree_drrAt (n : Nat) : (s.useFree n).drrAt = s.drrAt := rfl
@[simp] theorem State.useFree_loopbacks (n : Nat) : (s.useFree n).loopbacks = s.loopbacks := rfl
@[simp] theorem State.useFree_deadChans (n : Nat) : (s.useFree n).deadChans = s.deadChans := rfl
@[simp] theorem State.useFree_errs (n : Nat) : (s.useFree n).errs = s.errs := rfl
@[simp] theorem State.useFree_fatal (n : Nat) : (s.useFree n).fatal = s.fatal := rfl
@[simp] theorem State.useFree_vfEnable (n : Nat) : (s.useFree n).vfEnable = s.vfEnable := rfl
@[simp] theorem State.useFree_numVfs (n : Nat) : (s.useFree n).numVfs = s.numVfs := rfl
@[simp] theorem State.useFree_config (n : Nat) : (s.useFree n).config = s.config := rfl
@[simp] theorem State.useFree_heldWrites (n : Nat) : (s.useFree n).heldWrites = s.heldWrites := rfl
@[simp] theorem State.useFree_heldMsix (n : Nat) : (s.useFree n).heldMsix = s.heldMsix := rfl
@[simp] theorem State.useFree_host (n : Nat) : (s.useFree n).host = s.host := rfl
@[simp] theorem State.useFree_tck (n : Nat) : (s.useFree n).tck = s.tck := rfl
@[simp] theorem State.useFree_sec (n : Nat) : (s.useFree n).sec = s.sec := rfl
@[simp] theorem State.useFree_boot (n : Nat) : (s.useFree n).boot = s.boot := rfl
@[simp] theorem State.useFree_heat (n : Nat) : (s.useFree n).heat = s.heat := rfl
@[simp] theorem State.useFree_out (n : Nat) : (s.useFree n).out = s.out := rfl
@[simp] theorem State.useFree_pending (n : Nat) : (s.useFree n).pending = s.pending := rfl

/-! ### `withQueue` -/

@[simp] theorem State.withQueue_regs (q : List Instr) : (s.withQueue q).regs = s.regs := rfl
@[simp] theorem State.withQueue_shadow (q : List Instr) : (s.withQueue q).shadow = s.shadow := rfl
@[simp] theorem State.withQueue_latch (q : List Instr) : (s.withQueue q).latch = s.latch := rfl
@[simp] theorem State.withQueue_wroteRegion (q : List Instr) : (s.withQueue q).wroteRegion = s.wroteRegion := rfl
@[simp] theorem State.withQueue_wroteLeash (q : List Instr) : (s.withQueue q).wroteLeash = s.wroteLeash := rfl
@[simp] theorem State.withQueue_wroteSlots (q : List Instr) : (s.withQueue q).wroteSlots = s.wroteSlots := rfl
@[simp] theorem State.withQueue_wrotePar (q : List Instr) : (s.withQueue q).wrotePar = s.wrotePar := rfl
@[simp] theorem State.withQueue_now (q : List Instr) : (s.withQueue q).now = s.now := rfl
@[simp] theorem State.withQueue_free (q : List Instr) : (s.withQueue q).free = s.free := rfl
@[simp] theorem State.withQueue_dies (q : List Instr) : (s.withQueue q).dies = s.dies := rfl
@[simp] theorem State.withQueue_dram (q : List Instr) : (s.withQueue q).dram = s.dram := rfl
@[simp] theorem State.withQueue_stcLines (q : List Instr) : (s.withQueue q).stcLines = s.stcLines := rfl
@[simp] theorem State.withQueue_ue (q : List Instr) : (s.withQueue q).ue = s.ue := rfl
@[simp] theorem State.withQueue_rowCe (q : List Instr) : (s.withQueue q).rowCe = s.rowCe := rfl
@[simp] theorem State.withQueue_dirs (q : List Instr) : (s.withQueue q).dirs = s.dirs := rfl
@[simp] theorem State.withQueue_dirOrder (q : List Instr) : (s.withQueue q).dirOrder = s.dirOrder := rfl
@[simp] theorem State.withQueue_tiles (q : List Instr) : (s.withQueue q).tiles = s.tiles := rfl
@[simp] theorem State.withQueue_clusters (q : List Instr) : (s.withQueue q).clusters = s.clusters := rfl
@[simp] theorem State.withQueue_sigs (q : List Instr) : (s.withQueue q).sigs = s.sigs := rfl
@[simp] theorem State.withQueue_slotFlits (q : List Instr) : (s.withQueue q).slotFlits = s.slotFlits := rfl
@[simp] theorem State.withQueue_creditFlits (q : List Instr) : (s.withQueue q).creditFlits = s.creditFlits := rfl
@[simp] theorem State.withQueue_units (q : List Instr) : (s.withQueue q).units = s.units := rfl
@[simp] theorem State.withQueue_descs (q : List Instr) : (s.withQueue q).descs = s.descs := rfl
@[simp] theorem State.withQueue_images (q : List Instr) : (s.withQueue q).images = s.images := rfl
@[simp] theorem State.withQueue_nextUid (q : List Instr) : (s.withQueue q).nextUid = s.nextUid := rfl
@[simp] theorem State.withQueue_mgmtHead (q : List Instr) : (s.withQueue q).mgmtHead = s.mgmtHead := rfl
@[simp] theorem State.withQueue_mgmtDone (q : List Instr) : (s.withQueue q).mgmtDone = s.mgmtDone := rfl
@[simp] theorem State.withQueue_lead (q : List Instr) : (s.withQueue q).lead = s.lead := rfl
@[simp] theorem State.withQueue_dbFails (q : List Instr) : (s.withQueue q).dbFails = s.dbFails := rfl
@[simp] theorem State.withQueue_indebted (q : List Instr) : (s.withQueue q).indebted = s.indebted := rfl
@[simp] theorem State.withQueue_early (q : List Instr) : (s.withQueue q).early = s.early := rfl
@[simp] theorem State.withQueue_windows (q : List Instr) : (s.withQueue q).windows = s.windows := rfl
@[simp] theorem State.withQueue_stopped (q : List Instr) : (s.withQueue q).stopped = s.stopped := rfl
@[simp] theorem State.withQueue_freed (q : List Instr) : (s.withQueue q).freed = s.freed := rfl
@[simp] theorem State.withQueue_doorbells (q : List Instr) : (s.withQueue q).doorbells = s.doorbells := rfl
@[simp] theorem State.withQueue_irqs (q : List Instr) : (s.withQueue q).irqs = s.irqs := rfl
@[simp] theorem State.withQueue_eventsDue (q : List Instr) : (s.withQueue q).eventsDue = s.eventsDue := rfl
@[simp] theorem State.withQueue_mgmts (q : List Instr) : (s.withQueue q).mgmts = s.mgmts := rfl
@[simp] theorem State.withQueue_mgmtBad (q : List Instr) : (s.withQueue q).mgmtBad = s.mgmtBad := rfl
@[simp] theorem State.withQueue_parked (q : List Instr) : (s.withQueue q).parked = s.parked := rfl
@[simp] theorem State.withQueue_disclosed (q : List Instr) : (s.withQueue q).disclosed = s.disclosed := rfl
@[simp] theorem State.withQueue_xfers (q : List Instr) : (s.withQueue q).xfers = s.xfers := rfl
@[simp] theorem State.withQueue_reqs (q : List Instr) : (s.withQueue q).reqs = s.reqs := rfl
@[simp] theorem State.withQueue_nextId (q : List Instr) : (s.withQueue q).nextId = s.nextId := rfl
@[simp] theorem State.withQueue_hreads (q : List Instr) : (s.withQueue q).hreads = s.hreads := rfl
@[simp] theorem State.withQueue_snoops (q : List Instr) : (s.withQueue q).snoops = s.snoops := rfl
@[simp] theorem State.withQueue_downs (q : List Instr) : (s.withQueue q).downs = s.downs := rfl
@[simp] theorem State.withQueue_cfgs (q : List Instr) : (s.withQueue q).cfgs = s.cfgs := rfl
@[simp] theorem State.withQueue_bays (q : List Instr) : (s.withQueue q).bays = s.bays := rfl
@[simp] theorem State.withQueue_population (q : List Instr) : (s.withQueue q).population = s.population := rfl
@[simp] theorem State.withQueue_revFloor (q : List Instr) : (s.withQueue q).revFloor = s.revFloor := rfl
@[simp] theorem State.withQueue_ringMods (q : List Instr) : (s.withQueue q).ringMods = s.ringMods := rfl
@[simp] theorem State.withQueue_torPorts (q : List Instr) : (s.withQueue q).torPorts = s.torPorts := rfl
@[simp] theorem State.withQueue_torRx (q : List Instr) : (s.withQueue q).torRx = s.torRx := rfl
@[simp] theorem State.withQueue_torCmds (q : List Instr) : (s.withQueue q).torCmds = s.torCmds := rfl
@[simp] theorem State.withQueue_torHead (q : List Instr) : (s.withQueue q).torHead = s.torHead := rfl
@[simp] theorem State.withQueue_torPuts (q : List Instr) : (s.withQueue q).torPuts = s.torPuts := rfl
@[simp] theorem State.withQueue_redChunks (q : List Instr) : (s.withQueue q).redChunks = s.redChunks := rfl
@[simp] theorem State.withQueue_redNext (q : List Instr) : (s.withQueue q).redNext = s.redNext := rfl
@[simp] theorem State.withQueue_slots (q : List Instr) : (s.withQueue q).slots = s.slots := rfl
@[simp] theorem State.withQueue_closes (q : List Instr) : (s.withQueue q).closes = s.closes := rfl
@[simp] theorem State.withQueue_streamLate (q : List Instr) : (s.withQueue q).streamLate = s.streamLate := rfl
@[simp] theorem State.withQueue_knlEpochs (q : List Instr) : (s.withQueue q).knlEpochs = s.knlEpochs := rfl
@[simp] theorem State.withQueue_knlDue (q : List Instr) : (s.withQueue q).knlDue = s.knlDue := rfl
@[simp] theorem State.withQueue_knlTick (q : List Instr) : (s.withQueue q).knlTick = s.knlTick := rfl
@[simp] theorem State.withQueue_knlLog (q : List Instr) : (s.withQueue q).knlLog = s.knlLog := rfl
@[simp] theorem State.withQueue_sideOut (q : List Instr) : (s.withQueue q).sideOut = s.sideOut := rfl
@[simp] theorem State.withQueue_sideSeq (q : List Instr) : (s.withQueue q).sideSeq = s.sideSeq := rfl
@[simp] theorem State.withQueue_released (q : List Instr) : (s.withQueue q).released = s.released := rfl
@[simp] theorem State.withQueue_ctxs (q : List Instr) : (s.withQueue q).ctxs = s.ctxs := rfl
@[simp] theorem State.withQueue_nextKey (q : List Instr) : (s.withQueue q).nextKey = s.nextKey := rfl
@[simp] theorem State.withQueue_knlDirty (q : List Instr) : (s.withQueue q).knlDirty = s.knlDirty := rfl
@[simp] theorem State.withQueue_knlCkpt (q : List Instr) : (s.withQueue q).knlCkpt = s.knlCkpt := rfl
@[simp] theorem State.withQueue_knlFrozen (q : List Instr) : (s.withQueue q).knlFrozen = s.knlFrozen := rfl
@[simp] theorem State.withQueue_knlStage (q : List Instr) : (s.withQueue q).knlStage = s.knlStage := rfl
@[simp] theorem State.withQueue_tlbs (q : List Instr) : (s.withQueue q).tlbs = s.tlbs := rfl
@[simp] theorem State.withQueue_walks (q : List Instr) : (s.withQueue q).walks = s.walks := rfl
@[simp] theorem State.withQueue_misses (q : List Instr) : (s.withQueue q).misses = s.misses := rfl
@[simp] theorem State.withQueue_ask (q : List Instr) : (s.withQueue q).ask = s.ask := rfl
@[simp] theorem State.withQueue_walkTurn (q : List Instr) : (s.withQueue q).walkTurn = s.walkTurn := rfl
@[simp] theorem State.withQueue_invals (q : List Instr) : (s.withQueue q).invals = s.invals := rfl
@[simp] theorem State.withQueue_leash (q : List Instr) : (s.withQueue q).leash = s.leash := rfl
@[simp] theorem State.withQueue_effUse (q : List Instr) : (s.withQueue q).effUse = s.effUse := rfl
@[simp] theorem State.withQueue_effDue (q : List Instr) : (s.withQueue q).effDue = s.effDue := rfl
@[simp] theorem State.withQueue_served (q : List Instr) : (s.withQueue q).served = s.served := rfl
@[simp] theorem State.withQueue_frameAt (q : List Instr) : (s.withQueue q).frameAt = s.frameAt := rfl
@[simp] theorem State.withQueue_slotUse (q : List Instr) : (s.withQueue q).slotUse = s.slotUse := rfl
@[simp] theorem State.withQueue_linkUse (q : List Instr) : (s.withQueue q).linkUse = s.linkUse := rfl
@[simp] theorem State.withQueue_deficits (q : List Instr) : (s.withQueue q).deficits = s.deficits := rfl
@[simp] theorem State.withQueue_drrAt (q : List Instr) : (s.withQueue q).drrAt = s.drrAt := rfl
@[simp] theorem State.withQueue_loopbacks (q : List Instr) : (s.withQueue q).loopbacks = s.loopbacks := rfl
@[simp] theorem State.withQueue_deadChans (q : List Instr) : (s.withQueue q).deadChans = s.deadChans := rfl
@[simp] theorem State.withQueue_errs (q : List Instr) : (s.withQueue q).errs = s.errs := rfl
@[simp] theorem State.withQueue_fatal (q : List Instr) : (s.withQueue q).fatal = s.fatal := rfl
@[simp] theorem State.withQueue_vfEnable (q : List Instr) : (s.withQueue q).vfEnable = s.vfEnable := rfl
@[simp] theorem State.withQueue_numVfs (q : List Instr) : (s.withQueue q).numVfs = s.numVfs := rfl
@[simp] theorem State.withQueue_config (q : List Instr) : (s.withQueue q).config = s.config := rfl
@[simp] theorem State.withQueue_heldWrites (q : List Instr) : (s.withQueue q).heldWrites = s.heldWrites := rfl
@[simp] theorem State.withQueue_heldMsix (q : List Instr) : (s.withQueue q).heldMsix = s.heldMsix := rfl
@[simp] theorem State.withQueue_host (q : List Instr) : (s.withQueue q).host = s.host := rfl
@[simp] theorem State.withQueue_tck (q : List Instr) : (s.withQueue q).tck = s.tck := rfl
@[simp] theorem State.withQueue_sec (q : List Instr) : (s.withQueue q).sec = s.sec := rfl
@[simp] theorem State.withQueue_boot (q : List Instr) : (s.withQueue q).boot = s.boot := rfl
@[simp] theorem State.withQueue_heat (q : List Instr) : (s.withQueue q).heat = s.heat := rfl
@[simp] theorem State.withQueue_out (q : List Instr) : (s.withQueue q).out = s.out := rfl

/-! ### Registers, tiles and clusters after an update -/

/-- A field reads what was last written to it, cut to its width (R8). -/
@[simp] theorem State.rd_wr_same (f : Fld) (d : Nat) (ix : List Nat) (v : Nat) : (s.wr f d ix v).rd f d ix = v % 2 ^ f.width := by
  simp [State.rd, State.wr]

/-- A write leaves every field with another place alone. -/
theorem State.rd_wr_ne (f g : Fld) (d e : Nat) (ix jx : List Nat) (v : Nat) (h : g.key e jx ≠ f.key d ix) :
    (s.wr f d ix v).rd g e jx = s.rd g e jx := by
  simp only [State.rd, State.wr]
  exact SMap.get_ins_ne _ _ _ h

/-- A pending value is the one last written (R11). -/
@[simp] theorem State.rdShadow_wrShadow_same (f : Fld) (d : Nat) (ix : List Nat) (v : Nat) :
    (s.wrShadow f d ix v).rdShadow f d ix = v % 2 ^ f.width := by
  simp [State.rdShadow, State.wrShadow]

/-- A write to the shadow leaves the value in effect alone (R10, R12). -/
@[simp] theorem State.rd_wrShadow (f g : Fld) (d e : Nat) (ix jx : List Nat) (v : Nat) : (s.wrShadow f d ix v).rd g e jx = s.rd g e jx := rfl

@[simp] theorem State.rd_setTile (f : Fld) (d : Nat) (ix : List Nat) (t : Nat) (x : Tile) : (s.setTile t x).rd f d ix = s.rd f d ix := rfl
@[simp] theorem State.rd_setClu (f : Fld) (d : Nat) (ix : List Nat) (c : Nat) (x : Cluster) : (s.setClu c x).rd f d ix = s.rd f d ix := rfl
@[simp] theorem State.rd_send (f : Fld) (d : Nat) (ix : List Nat) (x : Out) : (s.send x).rd f d ix = s.rd f d ix := rfl
@[simp] theorem State.rd_useFree (f : Fld) (d : Nat) (ix : List Nat) (n : Nat) : (s.useFree n).rd f d ix = s.rd f d ix := rfl

@[simp] theorem State.tile_setTile_same (t : Nat) (x : Tile) : (s.setTile t x).tile t = x := by
  simp [State.tile, State.setTile]
theorem State.tile_setTile_ne (t u : Nat) (x : Tile) (h : u ≠ t) : (s.setTile t x).tile u = s.tile u := by
  simp only [State.tile, State.setTile]
  exact SMap.get_put_ne _ _ _ h
@[simp] theorem State.tile_wr (f : Fld) (d : Nat) (ix : List Nat) (v t : Nat) : (s.wr f d ix v).tile t = s.tile t := rfl
@[simp] theorem State.tile_setClu (c : Nat) (x : Cluster) (t : Nat) : (s.setClu c x).tile t = s.tile t := rfl

@[simp] theorem State.clu_setClu_same (c : Nat) (x : Cluster) : (s.setClu c x).clu c = x := by
  simp [State.clu, State.setClu]
theorem State.clu_setClu_ne (c e : Nat) (x : Cluster) (h : e ≠ c) : (s.setClu c x).clu e = s.clu e := by
  simp only [State.clu, State.setClu]
  exact SMap.get_put_ne _ _ _ h
@[simp] theorem State.clu_wr (f : Fld) (d : Nat) (ix : List Nat) (v c : Nat) : (s.wr f d ix v).clu c = s.clu c := rfl
@[simp] theorem State.clu_setTile (t : Nat) (x : Tile) (c : Nat) : (s.setTile t x).clu c = s.clu c := rfl

/-- A counter that stops at its largest value (R91). -/
theorem State.rd_bump_same (f : Fld) (d : Nat) (ix : List Nat) (n : Nat) :
    (s.bump f d ix n).rd f d ix = min (2 ^ f.width - 1) (s.rd f d ix + n) := by
  have h : 0 < 2 ^ f.width := Nat.two_pow_pos _
  simp only [State.bump, State.rd_wr_same]
  exact Nat.mod_eq_of_lt (by omega)

/-- A field whose place no counter or write takes keeps its value. -/
theorem State.rd_bump_ne (f g : Fld) (d e : Nat) (ix jx : List Nat) (n : Nat) (h : g.key e jx ≠ f.key d ix) :
    (s.bump f d ix n).rd g e jx = s.rd g e jx := s.rd_wr_ne f g d e ix jx _ h

/-! ### The guard of every meaning -/

/-- A command of the package answers its effect, and the queue stands. -/
theorem within_next (t : State) (ok : Bool) (h : ok = true) : within s ok t = .next (t.withQueue s.pending) := by
  simp [within, h]

/-- A state keeps its own queue. -/
@[simp] theorem State.withQueue_self : s.withQueue s.pending = s := rfl
@[simp] theorem State.withQueue_pending (q : List Instr) : (s.withQueue q).pending = q := rfl
@[simp] theorem State.rd_withQueue (f : Fld) (d : Nat) (ix : List Nat) (q : List Instr) : (s.withQueue q).rd f d ix = s.rd f d ix := rfl
@[simp] theorem State.tile_withQueue (q : List Instr) (t : Nat) : (s.withQueue q).tile t = s.tile t := rfl
@[simp] theorem State.clu_withQueue (q : List Instr) (c : Nat) : (s.withQueue q).clu c = s.clu c := rfl

/-- What a command answers, if it answers a next state. -/
theorem within_cases (t u : State) (ok : Bool) (h : within s ok t = .next u) : ok = true ∧ u = t.withQueue s.pending := by
  unfold within at h
  split at h
  · rename_i hok
    exact ⟨hok, by injection h with h; exact h.symm⟩
  · cases h

/-- A property of a state that one step of a list keeps holds after the list. -/
theorem State.each_keeps {α : Type} (P : State → Prop) (f : State → α → State) (hf : ∀ s a, P s → P (f s a)) :
    ∀ (l : List α) (s : State), P s → P (s.each l f)
  | [], _, h => h
  | a :: l, s, h => State.each_keeps P f hf l (f s a) (hf s a h)

end Sys2Proof.Machine
end

