-- ==== Sys2Proof/Laws/Ops.lean ====
section
/-! SUPPORT. What the operations that meanings share can do. Each is said once: the guard on a command's instance, an agent's command that
may wait, and one access of an agent to memory. -/

namespace Sys2Proof.Machine

variable (s : State)

/-- A meaning keeps the queue of the state it began with, and completes exactly on the instances the package has. -/
theorem within_next_iff (ok : Bool) (t u : State) : within s ok t = .next u ↔ ok = true ∧ u = t.withQueue s.pending := by
  cases ok <;> simp [within, eq_comm]

/-- It stops in no other way than on an instance the package has not. -/
theorem within_fault_iff (ok : Bool) (t : State) (r : Fault) : within s ok t = .fault r ↔ ok = false ∧ r = .noSuchInstance := by
  cases ok <;> simp [within, eq_comm]

/-- It refuses nothing. -/
theorem within_not_refused (ok : Bool) (t : State) (r : Refusal) : within s ok t ≠ .refused r := by
  cases ok <;> simp [within]

/-- A command that asks for nothing takes its effect (log entry 119). -/
theorem State.orWait_here (f : State → State) (h : (f s).ask = []) : s.orWait f = f s := by
  simp [State.orWait, h]

/-- A command that must ask sends what it asks for and has no other effect. -/
theorem State.orWait_asks (f : State → State) (h : (f s).ask ≠ []) : s.orWait f = s.sendFor f := by
  simp [State.orWait, State.sendFor, h]

/-- An answer that has come is used once, and nothing else changes. -/
theorem State.askMem_answered {r x : Req} (h : s.answer? r = some x) :
    s.askMem r = (x.res, { s with reqs := s.reqs.filter (fun (y : Req) => y.rid != x.rid) }) := by
  simp [State.askMem, h]

/-- With no answer yet the request is only asked for. -/
theorem State.askMem_unanswered {r : Req} (h : s.answer? r = none) : s.askMem r = (.down, { s with ask := s.ask ++ [.mem r] }) := by
  simp [State.askMem, h]

/-- Asking for memory changes nothing but the requests and what is asked. -/
theorem State.askMem_frame (r : Req) : ∃ q a, (s.askMem r).2 = { s with reqs := q, ask := a } := by
  unfold State.askMem
  split
  · exact ⟨_, s.ask, rfl⟩
  · exact ⟨s.reqs, _, rfl⟩

/-- A command that must wait already changes nothing by a further write or atomic. -/
theorem State.writePiece_waiting (a : Agent) (dpa : Nat) (bs : List Byte) (h : s.ask ≠ []) : s.writePiece a dpa bs = (.down, s) := by
  simp [State.writePiece, h]

theorem State.physAtomic_waiting (a : Agent) (dpa size op opnd cmp : Nat) (h : s.ask ≠ []) :
    s.physAtomic a dpa size op opnd cmp = (.down, s) := by
  simp [State.physAtomic, h]

/-- One piece of a write does one of these: it waits behind what the command asks for, its address decodes to nothing, it takes effect at once, or it
is answered by or sent to its home. -/
theorem State.writePiece_cases (a : Agent) (dpa : Nat) (bs : List Byte) :
    (s.ask ≠ [] ∧ s.writePiece a dpa bs = (.down, s)) ∨
    (s.ask = [] ∧ (s.decode dpa).isNone ∧ s.writePiece a dpa bs = (.decode, s)) ∨
    (s.ask = [] ∧ (s.decode dpa).isSome ∧ s.answer? (s.agentReq a .wrInv dpa bs.length bs .agent) = none ∧
      ∃ t, s.quickWrite a dpa bs = some t ∧ s.writePiece a dpa bs = (.ok [], t)) ∨
    (s.ask = [] ∧ (s.decode dpa).isSome ∧
      s.writePiece a dpa bs = s.askMem (s.agentReq a .wrInv dpa bs.length bs .agent)) := by
  by_cases h : s.ask = []
  · cases hd : s.decode dpa with
    | none => exact .inr (.inl ⟨h, rfl, by simp [State.writePiece, h, hd]⟩)
    | some p =>
      cases ha : s.answer? (s.agentReq a .wrInv dpa bs.length bs .agent) with
      | some x => exact .inr (.inr (.inr ⟨h, rfl, by simp [State.writePiece, h, hd, ha]⟩))
      | none =>
        cases hq : s.quickWrite a dpa bs with
        | some t => exact .inr (.inr (.inl ⟨h, rfl, rfl, t, rfl, by simp [State.writePiece, h, hd, ha, hq]⟩))
        | none => exact .inr (.inr (.inr ⟨h, rfl, by simp [State.writePiece, h, hd, ha, hq]⟩))
  · exact .inl ⟨h, s.writePiece_waiting a dpa bs h⟩

/-- The same of an atomic, whose answer is the old value. -/
theorem State.physAtomic_cases (a : Agent) (dpa size op opnd cmp : Nat) :
    (s.ask ≠ [] ∧ s.physAtomic a dpa size op opnd cmp = (.down, s)) ∨
    (s.ask = [] ∧ (s.decode dpa).isNone ∧ s.physAtomic a dpa size op opnd cmp = (.decode, s)) ∨
    (s.ask = [] ∧ (s.decode dpa).isSome ∧ ∃ old t, s.quickAtomic a dpa size op opnd cmp = some (old, t) ∧
      s.physAtomic a dpa size op opnd cmp = (.ok old, t)) ∨
    (s.ask = [] ∧ (s.decode dpa).isSome ∧ s.physAtomic a dpa size op opnd cmp =
      s.askMem (s.agentReq a .atomic dpa size (atomicFlit op size opnd cmp (dpa % 256)) .agent)) := by
  by_cases h : s.ask = []
  · cases hd : s.decode dpa with
    | none => exact .inr (.inl ⟨h, rfl, by simp [State.physAtomic, h, hd]⟩)
    | some p =>
      cases ha : s.answer? (s.agentReq a .atomic dpa size (atomicFlit op size opnd cmp (dpa % 256)) .agent) with
      | some x => exact .inr (.inr (.inr ⟨h, rfl, by simp [State.physAtomic, h, hd, ha]⟩))
      | none =>
        cases hq : s.quickAtomic a dpa size op opnd cmp with
        | some p => exact .inr (.inr (.inl ⟨h, rfl, p.1, p.2, rfl, by simp [State.physAtomic, h, hd, ha, hq]⟩))
        | none => exact .inr (.inr (.inr ⟨h, rfl, by simp [State.physAtomic, h, hd, ha, hq]⟩))
  · exact .inl ⟨h, s.physAtomic_waiting a dpa size op opnd cmp h⟩

end Sys2Proof.Machine
end

