-- ==== Sys2Proof/Tests/Slice0.lean ====
section
/-! SUPPORT. Tests: what WellFormed refuses, worked values of the spec, and for every statement concrete values that meet its hypotheses,
clause by clause. -/

set_option maxRecDepth 100000
set_option Elab.async false
set_option linter.unusedVariables false

namespace Sys2Proof.Tests
open Sys2Proof.Machine

/-! ### An ill-formed command for each check -/

theorem test_wf_refuses_die_0 : ([.regWrite 4 0 0 0 0, .counterLowRead 4 0, .standinBlock 4, .dieResetRelease 4 0, .cfgRd 4 0 0, .cfgWr false 4 0 0 0 0, .stcFlush 4, .stcFlushDone 4, .stcDisable 4, .stcClearStats 4, .memClearStats 4, .lshClearStats 4, .xltClearStats 4, .flitParityError 4 [], .cohClearStats 4, .fllClearStats 4, .ringBeat 4 0 0 [] [] 0, .ringModuleRetrain 4 0 0 [], .ringRestripe 4 0 [], .ringLinkLost false 4 0, .ringLinkTrain 4 0 0 0 0, .ddlClearStats 4 0, .jtagInstruction 4 0 0, .startStep 4 0 false false [] [] [] [] [] [] [] [] [], .startStepTimeout 4, .powerWave 4 0, .bistNominate 4 0, .bistSliceDone 4 false 0, .bistNominationWithdraw 4, .bstClearFails 4, .bstClearStats 4, .heldRecordRetry 4] : List Instr).all (fun c => !c.wf) = true := by decide +kernel
theorem test_wf_refuses_die_1 : ([.errQAck 4 0 0, .errClearStats 4, .dieReset 4, .clockLoss 4, .deputySilent 4, .thermalSample 4 0, .tclkAdjust false 4 0, .thermalTrip 4, .packWdtExpire 4 0, .packRestartDone 4, .telSnapshot 4, .ageDailyFit 4 [] [] [] [] [] 0 0 0 0 0, .flialUndefinedOpcode 4 0 0, .ringModuleClockLoss 4 0 [], .dieManagementFrame 4 0 0 0 0 []] : List Instr).all (fun c => !c.wf) = true := by decide +kernel
theorem test_wf_refuses_off : ([.regWrite 0 (2 ^ 26) 0 0 0, .counterLowRead 0 (2 ^ 26), .cfgRd 0 (2 ^ 26) 0, .cfgWr false 0 (2 ^ 26) 0 0 0] : List Instr).all (fun c => !c.wf) = true := by decide +kernel
theorem test_wf_refuses_u64 : ([.regWrite 0 0 0 (2 ^ 64) 0, .syncFrame false 0 0 (2 ^ 64) 0 0 0 0 0 0 0, .syncFrame false 0 0 0 (2 ^ 64) 0 0 0 0 0 0, .syncFrame false 0 0 0 0 (2 ^ 64) 0 0 0 0 0, .syncFrame false 0 0 0 0 0 0 (2 ^ 64) 0 0 0, .cfgWr false 0 0 0 (2 ^ 64) 0, .bar0Access 0 0 0 false (2 ^ 64) 0] : List Instr).all (fun c => !c.wf) = true := by decide +kernel
theorem test_wf_refuses_cluster : ([.cluDbgDataRead 512 false, .clusterUnitEnd 512, .dispatchLoad 512 [], .cluRelease 512, .cluPerfClear 512, .sramError 512 false, .clusterWithdraw 512, .clusterScrubDone 512] : List Instr).all (fun c => !c.wf) = true := by decide +kernel
theorem test_wf_refuses_u32 : ([.hubIslandWrite (2 ^ 32), .ringEnable 0 0 (2 ^ 32), .mgmtQueueEnable 0 (2 ^ 32), .tckNextAtArm (2 ^ 32), .loopbackStart 0 (2 ^ 32), .bayQEnable 0 0 (2 ^ 32), .configRequest 0 0 false (2 ^ 32), .ctxEnable 0 0 (2 ^ 32), .ctxDisable 0 0 (2 ^ 32), .lcsArm (2 ^ 32) 0, .errQAck 0 0 (2 ^ 32), .dieResetWrite (2 ^ 32)] : List Instr).all (fun c => !c.wf) = true := by decide +kernel
theorem test_wf_refuses_pos : ([.dieResetRelease 0 4, .powerStateChange 0 4] : List Instr).all (fun c => !c.wf) = true := by decide +kernel
theorem test_wf_refuses_tile_0 : ([.nop 8192, .token 8192, .tileEnd 8192, .loop 8192, .move 8192, .setbase 8192, .ldbase 8192, .setshape 8192, .fill 8192, .gather 8192, .scatter 8192, .send 8192, .recv 8192, .cube 8192, .accz 8192, .accld 8192, .accst 8192, .dial 8192, .planes 8192, .vadd 8192, .vsub 8192, .vmul 8192, .vfma 8192, .vmin 8192, .vmax 8192, .vceq 8192, .vcne 8192, .vclt 8192, .vcle 8192, .vand 8192, .vor 8192, .vxor 8192] : List Instr).all (fun c => !c.wf) = true := by decide +kernel
theorem test_wf_refuses_tile_1 : ([.vsel 8192, .vabs 8192, .vneg 8192, .vmov 8192, .vrsum 8192, .vrmax 8192, .vexp 8192, .vexp2 8192, .vlog 8192, .vlog2 8192, .vrcp 8192, .vsqrt 8192, .vrsqrt 8192, .vsin 8192, .vcos 8192, .vtanh 8192, .vsigm 8192, .verf 8192, .vrcmb 8192, .cvt 8192, .cvtmx 8192, .cvtxm 8192, .slice 8192, .commandStart 8192 0, .commandComplete 8192 0, .tokenSignalArrive 8192 0, .channelSlotArrive 8192 0, .creditReturn 8192 0, .ringRefill 8192, .credit 8192 0, .illegalOpcode 8192] : List Instr).all (fun c => !c.wf) = true := by decide +kernel
theorem test_wf_refuses_unit : ([.commandStart 0 5] : List Instr).all (fun c => !c.wf) = true := by decide +kernel
theorem test_wf_refuses_ch : ([.channelSlotArrive 0 8, .creditReturn 0 8, .credit 0 8] : List Instr).all (fun c => !c.wf) = true := by decide +kernel
theorem test_wf_refuses_part_0 : ([.doorbellReadReturn 64 0 false [], .fetchDeadline 64 0, .descriptorReadReturn 64 0 false [], .kernel 64 0 0, .marker 64 0 0, .copy 64 0 0 [], .migrate 64 0 0 [], .warm 64 0 0, .stcFill 64 0 0 [], .stcClean 64 0 0, .ringEnable 64 0 0, .ringStop 64 0, .ringReset 64 0, .mgmtQueueEnable 64 0, .registerImage 64 [], .unregisterImage 64, .stopContext 64, .resumeContext 64, .invalidate 64, .mgmtBusyTimeout 64, .bwXlate 0 0 64 0 0 false 0, .bwInvalDone 0 64 0 0 0, .bayQStop 64 0, .bayQReset 64 0, .bayQEnable 64 0 0, .torusQueuePoll 64 0, .tqPut 64 0 [], .tqGet 64 0, .tqAtomic 64 0, .tqReduce 64 0 [], .torusCmdTimeout 64 0 0, .parReset 64] : List Instr).all (fun c => !c.wf) = true := by decide +kernel
theorem test_wf_refuses_part_1 : ([.resetBusyClear 64, .parZero 64, .parZeroDone 64, .ctxEnable 64 0 0, .ctxDisable 64 0 0, .attest 64, .loadKey 64 [], .decryptWeights 64 [], .getIdentity 64, .ekGenerated 64 0, .undefinedMgmtCommand 64, .rtrBadOp 64 0 0] : List Instr).all (fun c => !c.wf) = true := by decide +kernel
theorem test_wf_refuses_queue : ([.doorbellReadReturn 0 17 false [], .fetchDeadline 0 17] : List Instr).all (fun c => !c.wf) = true := by decide +kernel
theorem test_wf_refuses_ring81 : ([.descriptorReadReturn 0 81 false []] : List Instr).all (fun c => !c.wf) = true := by decide +kernel
theorem test_wf_refuses_ring80 : ([.kernel 0 80 0, .marker 0 80 0] : List Instr).all (fun c => !c.wf) = true := by decide +kernel
theorem test_wf_refuses_ring : ([.copy 0 64 0 [], .migrate 0 64 0 [], .warm 0 64 0, .stcFill 0 64 0 [], .stcClean 0 64 0, .ringEnable 0 64 0, .ringStop 0 64, .ringReset 0 64, .rtrBadOp 0 64 0] : List Instr).all (fun c => !c.wf) = true := by decide +kernel
theorem test_wf_refuses_b256 : ([.syncFrame false 256 0 0 0 0 0 0 0 0 0, .syncFrame false 0 0 0 0 0 256 0 0 0 0, .mgmtFrame false 256 0 0 [] false false false 0, .mgmtFrame false 0 256 0 [] false false false 0, .attestFrame false 256 0 0 [], .attestFrame false 0 256 0 [], .mgmtAck false 256 0 0, .mgmtAck false 0 256 0] : List Instr).all (fun c => !c.wf) = true := by decide +kernel
theorem test_wf_refuses_q : ([.dramCommandIssue 1024 0 [] []] : List Instr).all (fun c => !c.wf) = true := by decide +kernel
theorem test_wf_refuses_special_forms : ([.patrolScrub 1024 0 0 [], .patrolScrub 0 (768 * 2 ^ 15) 0 [], .expansionRomRead (2 ^ 20 - 1) 2, .flr 0, .flr 65, .pcieLinkTrain 0 1 false, .pcieLinkTrain 7 1 false, .pcieLinkTrain 1 0 false, .pcieLinkTrain 1 17 false, .l0pRequest 9, .msixUnmask 65 0, .msixUnmask 1 31, .msixUnmask 0 65] : List Instr).all (fun c => !c.wf) = true := by decide +kernel
theorem test_wf_refuses_stack : ([.stackTempRead 16 0] : List Instr).all (fun c => !c.wf) = true := by decide +kernel
theorem test_wf_refuses_chan : ([.channelRecal 512 0 false false] : List Instr).all (fun c => !c.wf) = true := by decide +kernel
theorem test_wf_refuses_port128 : ([.loopbackStart 128 0, .loopbackDone 128 0] : List Instr).all (fun c => !c.wf) = true := by decide +kernel
theorem test_wf_refuses_fn : ([.atsInvalidateRequest 65 0 0 0 0, .bar0Access 65 0 0 false 0 0, .bar2Read 65 0 0, .bar2Write 65 0 [], .configRequest 65 0 false 0, .unsupportedRequest 65, .poisonedWrite 65, .bmeClear 65, .flrDone 65, .vfDisable false 65, .powerStateChange 65 0] : List Instr).all (fun c => !c.wf) = true := by decide +kernel
theorem test_wf_refuses_island : ([.islandDownNotice 4, .cohForceDown 4, .cohReinit 4, .islandReinitDone 4 [] [] [] [] [] []] : List Instr).all (fun c => !c.wf) = true := by decide +kernel
theorem test_wf_refuses_bay : ([.bayAdmission 8 false [] [] [] [] [] [] [] [], .bayParityPoll 8 false 0 0 false, .bayLinkLost 8, .bwEnd 8 0 0 0 0 0 0, .bwXlate 8 0 0 0 0 false 0, .bwInvalDone 8 0 0 0 0, .bayPowerPoll 8 0 0 0, .bayEvacDone 8, .bayEvacTimeout 8, .bayForceHeel 8, .bayReadmit 8, .bayClearStats 8, .railFault 0 8] : List Instr).all (fun c => !c.wf) = true := by decide +kernel
theorem test_wf_refuses_nat : ([.bayParityPoll 0 false 128 0 false] : List Instr).all (fun c => !c.wf) = true := by decide +kernel
theorem test_wf_refuses_status : ([.bwEnd 0 0 0 256 0 0 0] : List Instr).all (fun c => !c.wf) = true := by decide +kernel
theorem test_wf_refuses_wq : ([.bwXlate 0 64 0 0 0 false 0] : List Instr).all (fun c => !c.wf) = true := by decide +kernel
theorem test_wf_refuses_ctx : ([.bwXlate 0 0 0 16 0 false 0, .bwInvalDone 0 0 16 0 0, .ctxEnable 0 16 0, .ctxDisable 0 16 0, .ekGenerated 0 16] : List Instr).all (fun c => !c.wf) = true := by decide +kernel
theorem test_wf_refuses_bq : ([.bayQStop 0 16, .bayQReset 0 16, .bayQEnable 0 16 0] : List Instr).all (fun c => !c.wf) = true := by decide +kernel
theorem test_wf_refuses_dir : ([.ringBeat 0 2 0 [] [] 0, .ringModuleRetrain 0 2 0 [], .ringRestripe 0 2 [], .ringLinkLost false 0 2, .ringLinkTrain 0 2 0 0 0, .ddlClearStats 0 2, .wakeEvent 2 0, .ringModuleClockLoss 0 2 [], .dieManagementFrame 0 2 0 0 0 []] : List Instr).all (fun c => !c.wf) = true := by decide +kernel
theorem test_wf_refuses_mod16 : ([.ringBeat 0 0 16 [] [] 0, .ringModuleRetrain 0 0 16 []] : List Instr).all (fun c => !c.wf) = true := by decide +kernel
theorem test_wf_refuses_tport : ([.torusPortTrain 8 false false false false 0, .torusCodeword 8 false false 0 false [], .torusRetrain 8, .packetForward 8 0, .wakeEvent 0 8] : List Instr).all (fun c => !c.wf) = true := by decide +kernel
theorem test_wf_refuses_tport9 : ([.put 9 0 false, .get 9 0, .getData 9 0, .torusAtomic 9 0, .torusAtomicData 9 0, .putAck 9 0, .reduce 9 0, .reduceResult 9 0, .stream 9 0] : List Instr).all (fun c => !c.wf) = true := by decide +kernel
theorem test_wf_refuses_vc : ([.put 0 8 false, .get 0 8, .getData 0 8, .torusAtomic 0 8, .torusAtomicData 0 8, .putAck 0 8, .reduce 0 8, .reduceResult 0 8, .stream 0 8, .packetForward 0 8] : List Instr).all (fun c => !c.wf) = true := by decide +kernel
theorem test_wf_refuses_tq : ([.torusQueuePoll 0 8, .tqPut 0 8 [], .tqGet 0 8, .tqAtomic 0 8, .tqReduce 0 8 [], .torusCmdTimeout 0 8 0] : List Instr).all (fun c => !c.wf) = true := by decide +kernel
theorem test_wf_refuses_sch : ([.streamChunkClose 64] : List Instr).all (fun c => !c.wf) = true := by decide +kernel
theorem test_wf_refuses_k4096 : ([.configRequest 0 4096 false 0] : List Instr).all (fun c => !c.wf) = true := by decide +kernel
theorem test_wf_refuses_b32 : ([.hostLinkError 32] : List Instr).all (fun c => !c.wf) = true := by decide +kernel
theorem test_wf_refuses_three : ([.jtagInstruction 0 3 0, .jtagInstruction 0 0 3] : List Instr).all (fun c => !c.wf) = true := by decide +kernel
theorem test_wf_refuses_eleven : ([.errQAck 0 11 0] : List Instr).all (fun c => !c.wf) = true := by decide +kernel
theorem test_wf_refuses_six : ([.railFault 6 0] : List Instr).all (fun c => !c.wf) = true := by decide +kernel

/-! ### States and values the tests use -/

/-- Registers of the reset state set to given values: field, die, indices, value. -/
def put (s : State) (l : List (Fld × Nat × List Nat × Nat)) : State := l.foldl (fun (s : State) x => s.wr x.1 x.2.1 x.2.2.1 x.2.2.2) s
def s0 : State := State.reset
def zTCmd : TCmd := ⟨0, 0, 0, 0, 0, 0, [], [], false, false, [], []⟩
def zSig : Sig := ⟨0, 0, 0, none⟩
def zSlotFlit : SlotFlit := ⟨0, 0, 0, 0, 0, 0, 0, 0, [], []⟩
def zCreditFlit : CreditFlit := ⟨0, 0, 0, 0, 0, 0, 0, []⟩
def zWUnit : WUnit := ⟨0, .kernel, 0, 0, 0, 0, 0, false, 0, 0, 0, 0, [], 0, 0, 0, 0, false, false, false, false, false, none, 0, 0, 0, []⟩
def zDesc : Desc := ⟨0, 0, 0, none, false⟩
def zImage : Image := ⟨0, 0, 0, 0, [], [], false⟩
def zXfer : Xfer := ⟨0, 0, 0, false, false, .tm, [], 0, false⟩
def zReq : Req := ⟨0, 0, 0, 0, false, .rdCur, 0, 0, .agent, 0, 0, 0, false, 0, 0, false, false, false, false, 0, 0, 0, 0, 0, [], none, 0, 0, .sent, 0, 0, [], [], 0, 0, []⟩
def zSnoop : Snoop := ⟨0, 0, .cur, 0, 0, 0, [], none⟩
def zStcLine : StcLine := ⟨0, 0, 0, 0, 0, 0, 0⟩
def zTlbEntry : TlbEntry := ⟨0, 0, 0, 0, 0, 0, false, false, 0⟩
def zWalkEntry : WalkEntry := ⟨0, 0, 0, 0, 0, 0, 0⟩
def zMiss : Miss := ⟨0, 0, 0, 0, 0, 0, 0, 0, 0, false, 0, .device, 0, false⟩
def zInval : Inval := ⟨0, 0, 0, 0, 0, 0, .reset, 0, [], false, false⟩
def zRingMod : RingMod := ⟨[], 0, false, 0, false, [], [], 0, [], 0, false, false, [], false, [], 0, [], [], []⟩
def zTorCmd : TorCmd := ⟨0, 0, 0, 0, [], false, 0, 0, 0, 0⟩
def zMgmt : Mgmt := ⟨0, 0, [], false, 0, 0, [], none⟩
def zParked : Parked := ⟨0, 0, 0, 0, [], .none_⟩
def zCfgAns : CfgAns := ⟨0, false, 0, 0, 0, 0⟩
def zPkt : Pkt := ⟨0, 0, 0, 0, 0, 0, 0, 0, 0, 0, 0, []⟩
def zReqFlit : ReqFlit := ⟨0, 0, 0, 0, 0, 0, 0, 0, 0, 0, 0, 0, false, false, false, 0, none, false, false, false⟩
def zVirt : Virt := ⟨0, 0, 0, 0, false, 0, 0⟩
/-- Tile 0 runs in a unit of its own, with two words at the head of its program. -/
def onTile (x : Tile) (w0 w1 : Nat) : State :=
  let s := { s0 with tiles := [(0, { x with prefetch := [(0, w0), (1, w1)] })], clusters := [(0, { Cluster.idle with unit := some 1, ringRegion := 64 })] }
  ((s.wrClu R.CLU_STATUS_STATE 0 2).wrClu R.CLU_STATUS_TILE_MASK 0 0xFFFF).wrTil R.TIL_STATUS_STATE 0 1
def sync0 : Nat := 2 ^ 57 + 2 ^ 35 + 1 * 2 ^ 31 + 3 * 2 ^ 26 + 5 * 2 ^ 18
def oneCmd (op w0 : Nat) (started : Bool) : TCmd := { zTCmd with op := op, w0 := w0, unit := unitOf op, mul := [0, 0, 0], off := [0, 0, 0], started := started }
def tx (f : Tile → Tile) : Tile := f Tile.idle

/-- A unit of partition 0, context 0, ring 0 on clusters. -/
def aUnit : WUnit := { zWUnit with id := 1, tag := 7, image := 5, clusters := [0, 511], budgetEnd := 1000, boundaries := 4 }
def zeros (n : Nat) : List Byte := List.replicate n 0
/-- An image of one cluster with one tile (R182, R183): cluster table at 0x100, program headers at 0x140. -/
def imageBytes : List Byte := zeros 12 ++ leBytes 4 1 ++ leBytes 4 0x100 ++ leBytes 4 0x140 ++ zeros 232 ++ leBytes 2 2 ++ leBytes 2 0xFF ++ zeros 60 ++
  leBytes 4 0 ++ leBytes 4 9 ++ leBytes 1 7 ++ zeros 119
def anImage : Image := { zImage with handle := 5, store := 2 ^ 16, digest := zeros 64, live := true, data := imageBytes }
/-- A ring whose window is open, with one descriptor that has returned. -/
def ringOf (r : Nat) (bs : List Byte) : State :=
  { put (s0.setRing 0 r 1 1) [(R.PAR_CTX_CFG_STATE, 0, [0, 0], 1), (R.PAR_CTX_SCHED, 0, [0, 0], 0xFFFF), (R.PAR_CLU_OWNER, 0, [511], 0)] with
    windows := [(winKey 0 (queueOf r), 2)], images := [anImage], descs := [{ zDesc with ring := r, data := some (some (bs ++ zeros (128 - bs.length))) }] }
def descOf (r : Nat) (bs : List Byte) : Desc := { zDesc with ring := r, data := some (some (bs ++ zeros (128 - bs.length))) }
def kernelBytes : List Byte := [1] ++ zeros 15 ++ [5]

/-- Memory is in SERVICE on every die. -/
def up : State := put s0 ((List.range 4).map (fun d => (R.MEM_STATUS_STATE, d, [], 2)))
/-- A cluster assigned to a unit, its context's image in memory. -/
def loading : State := { up.wrClu R.CLU_STATUS_STATE 0 1 with
  units := [aUnit], images := [{ anImage with data := zeros 64 }], clusters := [(0, { Cluster.idle with unit := some 1, lastCtx := some 0 })] }
/-- A management command of partition 0 and context 1, at its turn. -/
def mgmtOf (code : Nat) (l : List Byte) : Mgmt := { zMgmt with entry := 9, cmd := leBytes 1 code ++ [1] ++ l ++ zeros (126 - l.length), read := true }
def mgmtOn (m : Mgmt) (st : Nat) : State := { up.wr R.PAR_CTX_CFG_STATE 0 [0, 1] st with mgmts := [m] }
theorem snd_eq {α β : Type} {x : α × β} {b : β} (h : x.2 = b) : x = (x.1, b) := by cases x; cases h; rfl
theorem fst_eq {α β : Type} {x : α × β} {a : α} (h : x.1 = a) : x = (a, x.2) := by cases x; cases h; rfl

def warmBytes (die : Byte) : List Byte := [2, 0, 0, 0] ++ zeros 12 ++ [3, 0, die, 0] ++ zeros 28 ++ [64]

/-- A request of a tile on die 0 to pseudo-channel 0. -/
def aReq : Req := { zReq with rid := 1, uid := 1, owner := .xfer 2, cls := 1, len := 64, mask := 2 ^ 64 - 1 }
def withReq (s : State) (r : Req) : State := { s with reqs := [r] }
def anXfer : Xfer := { zXfer with id := 2, pieces := [⟨0, 64, 0, 0⟩, ⟨64, 64, 64, 64⟩] }
def aSnoop : Snoop := { zSnoop with tag := 3, rid := 1, bay := 7, line := 16 }
def bayRun (b : Nat) : State := (s0.bayWr R.BAY_STATUS_STATE b 2).bayWr R.BAY_STATUS_PROTO b 2
/-- A transfer of a unit in context 0 whose device half is on. -/
def xferOn (s : State) : State := { s.wr R.XLT_CTX_CFG_ENABLE 0 [0, 0] 1 with
  units := [aUnit], clusters := [(0, { Cluster.idle with unit := some 1 })], xfers := [anXfer] }
def aMiss : Miss := { zMiss with id := 4, xfer := 2 }
def anInval : Inval := { zInval with id := 5, size := 4096, epoch := 1, started := true, boundary := true }
def aTlb : TlbEntry := { zTlbEntry with size := 4096, w := true, d := true }
/-- A last-level table at DPA 0 whose first entry maps its page, known to the walk cache. -/
def tableOn : State := { put up [(R.PAR_CFG_ENABLE, 0, [0], 1), (R.PAR_CFG_IMG_STORE, 0, [0], 1), (R.PAR_QUOTA_VALID, 0, [0, 0], 1), (R.PAR_QUOTA_SIZE, 0, [0, 0], 2)] with
  walks := [(0, { zWalkEntry with size := 2 ^ 21 })], dram := memPut [] (qAddr (up.decode 0).get!.1 (up.decode 0).get!.2) (leBytes 8 31), misses := [aMiss] }

def aLine : StcLine := { zStcLine with q := 1023, gran := 7, valid := 255, dirty := 1, rrpv := 2 }

def aBay : Nat → WUnit := fun r => { aUnit with kind := .bay, ring := r, clusters := [] }
/-- A chiplet's record that meets R365: class 1 at 700 mV, both protocols, one queue. -/
def aRecord : List Byte := leBytes 4 0x41444D31 ++ leBytes 4 1 ++ zeros 16 ++ leBytes 2 1 ++ leBytes 2 700 ++ leBytes 4 3 ++ leBytes 1 16 ++ leBytes 1 1 ++ zeros 222
def ringLink (d k : Nat) : State := put s0 [(R.DDL_STATUS_STATE, d, [k], 2), (R.DDL_STATUS_STATE, (linkPeer d k).1, [(linkPeer d k).2], 2),
  (R.DDL_RX_MODS, d, [k], 0xAAAAAAAA), (R.DDL_TX_MODS, d, [k], 0xAAAAAAAA)]

def torUpOn (k : Nat) : State := s0.torWr R.TOR_PORT_STATUS_STATE k 2
def pktOf (type len aux : Nat) : Pkt := ⟨type, 0, 0, 0, 0, 0, len, 9, 0, 0, aux, zeros 16⟩
/-- A packet has arrived at port 7 on virtual channel 5, for a context whose page the TLB of die 3 holds. -/
def torIn (p : Pkt) : State := { put up [(R.TOR_P_ACCEPT_CTX_MASK, 0, [0], 1), (R.XLT_CTX_CFG_ENABLE, 0, [0, 0], 1)] with torRx := [⟨7, 5, p.bytes⟩], tlbs := [(3, aTlb)] }
def taken (s : State) (k vc : Nat) : State := match s.torTake k vc with | some x => x.2 | none => s
def torCmdOf (op : Nat) (started : Bool) : TorCmd := { zTorCmd with id := 2, bytes := leBytes 1 op ++ zeros 7 ++ leBytes 4 256 ++ zeros 52, started := started, tag := 9 }

/-- SR-IOV with all 64 functions. -/
def vfs : State := { s0 with vfEnable := true, numVfs := 64 }

/-- The package is up: its start is over. -/
def on : State := { s0 with boot := { s0.boot with starting := false } }
def report (fatal : Bool) : StepReport := ⟨3, 1, false, fatal, [], [], [], [], [], [], [], [], []⟩

def aRec : ErrRec := { die := 3, src := 10, code := 1, sev := 0, scope := 36867, n := 0, seq := 7, island := 0, part := 255, ctx := 255, tick := 0, time := 0, addr := 0, d0 := 0, d1 := 0, escalated := false, held := false, count := 0, folded := false, lastTick := 0, wait := false }

/-- A host page and a device page of context 1 that the TLB of HD0 holds, both halves on. -/
def pages (s : State) : State := { put s [(R.PCI_FN_STATE_BME, 0, [0], 1), (R.XLT_CTX_CFG_HOST, 0, [0, 1], 1), (R.XLT_CTX_CFG_ENABLE, 0, [0, 1], 1), (R.PAR_CTX_CFG_CONFIDENTIAL, 0, [0, 1], 1)] with
  tlbs := [(0, { aTlb with ctx := 1, va := 2 ^ 47 }), (0, { aTlb with ctx := 1 })] }

/-- A package in TEST whose blob is one byte of memory. -/
def tokened : State := { put up [(R.LCS_STATE_STATE, 0, [], 1), (R.LCS_BLOB_LEN_LEN, 0, [], 1), (R.LCS_STATE_ID_READY, 0, [], 1)] with
  sec := { s0.sec with lcsArmed := some (3, 0), cert := .factory }, dram := memPut [] (qAddr (up.decode 0).get!.1 (up.decode 0).get!.2) [7] }

def nextOf : Result → State | .next s => s | _ => State.reset
theorem nextOf_eq {r : Result} (h : (match r with | .next _ => true | _ => false) = true) : r = .next (nextOf r) := by
  cases r <;> first | rfl | cases h

/-- The answers of memory that an agent waits for to read `bs` at `dpa` have come. -/
def heres (s : State) (a : Agent) (dpa : Nat) (bs : List Byte) : State :=
  { s with reqs := s.reqs ++ (pieces dpa bs.length).map (fun p =>
      { s.agentReq a .rdCur p.1 p.2 [] .agent with rid := p.1 + 100, stage := .here, answer := (bs.drop (p.1 - dpa)).take p.2 }) }
/-- A tile whose prefetch buffer holds only the head of its program. -/
def onTile1 (w0 : Nat) : State :=
  let s := onTile Tile.idle w0 0
  s.setTile 0 { s.tile 0 with prefetch := [(0, w0)], written := 1 }
def sprf0 : Nat := 3 * 2 ^ 57 + 2 ^ 22
def okStart (r : StartRes) : State := match r with | .ok s => s | _ => State.reset
theorem okStart_eq {r : StartRes} (h : (match r with | .ok _ => true | _ => false) = true) : r = .ok (okStart r) := by
  cases r <;> first | rfl | cases h
/-- The doorbell block of partition 63 is to come; its ring 0 is ACTIVE. -/
def dbs : State := { put s0 [(R.PCI_FN_STATE_BME, 0, [0], 1), (R.WRK_RING_STATE_STATE, 0, [63, 0], 1)] with windows := [(winKey 63 0, 1)] }
/-- A bay's read of granule 0 at memory port 0 of die 3. -/
def rdFlit : ReqFlit := { zReqFlit with dest := 0xD00, src := 0xC81, tag := 4, smask := 1, nopart := true }
theorem some_eq {α β : Type} {x : Option (α × β)} (h : x.isSome = true) : x = some ((x.get h).1, (x.get h).2) := (Option.some_get h).symm
theorem get_eq {α : Type} {x : Option α} (h : x.isSome = true) : x = some (x.get h) := (Option.some_get h).symm
/-- The ring link of die 3 with what its module 15 keeps at its own end and at the other. -/
def ringWith (a b : RingMod) : State := ((ringLink 3 1).setRingMod 3 1 15 a).setRingMod (linkPeer 3 1).1 (linkPeer 3 1).2 15 b
/-- The answer of a write or an atomic that an agent waits for has come. -/
def hereW (s : State) (a : Agent) (op : ReqOp) (dpa : Nat) (bs ans : List Byte) (n : Nat) : State :=
  { s with reqs := s.reqs ++ [{ s.agentReq a op dpa n bs .agent with rid := 90, stage := .here, answer := ans }] }
/-- An agent of the torus reads the page of the context that the packet names. -/
def torGet (s : State) : State := heres s { s.torAgent 7 0 with ctx := 0 } 0 (zeros 16)
def tqs : State := { put up [(R.TOR_Q_CFG_ENABLE, 0, [0, 0], 1), (R.XLT_CTX_CFG_ENABLE, 0, [0, 0], 1)] with tlbs := [(0, aTlb)] }
/-- Memory with no region: a write of Kennel's goes nowhere. -/
def bare : State := { put s0 ((List.range 64).map (fun e => (R.MEM_REGION_VALID, 0, [e], 0))) with knlDue := some (5, false) }
def bareRun : State := ({ bare with knlDue := none, knlTick := 5 } : State).wr R.KNL_STATUS_STATE 0 [] 2
theorem bare_write (a : Agent) (d : Nat) (bs : List Byte) : (bareRun.physWrite a d bs).2 = bareRun := by
  have h : ∀ (l : List (Nat × Nat)) (x : MemRes × State), x.2 = bareRun →
      (l.foldl (fun acc p => match acc with
        | (.ok _, s) => s.writePiece a p.1 ((bs.drop (p.1 - d)).take p.2)
        | r => r) x).2 = bareRun := by
    intro l
    induction l with
    | nil => exact fun x h => h
    | cons p l ih =>
      rintro ⟨r, s⟩ rfl
      refine ih _ ?_
      cases r <;> rfl
  exact h _ _ rfl
theorem bare_writes (l : List (Nat × Nat × List Byte)) : (bareRun.knlWrites l).2 = bareRun := by
  have h : ∀ (l : List (Nat × Nat × List Byte)) (x : Bool × State), x.2 = bareRun →
      (l.foldl (fun acc x => match acc with
        | (true, s) => let (r, s) := s.physWrite (knlEngine x.1) x.2.1 x.2.2; (r.good, s)
        | r => r) x).2 = bareRun := by
    intro l
    induction l with
    | nil => exact fun x h => h
    | cons p l ih =>
      rintro ⟨r, s⟩ rfl
      refine ih _ ?_
      cases r
      · rfl
      · exact bare_write _ _ _
  exact h _ _ rfl
theorem bare_end : ∀ ok : Bool, (if ok && (bareRun.torUp 0 || bareRun.torUp 4) then bareRun else bareRun.knlAbandon).ask = [] := by decide +kernel
theorem bare_eq : ({ bare with knlDue := none, knlTick := 5 } : State).wr R.KNL_STATUS_STATE 0 [] 2 = bareRun := rfl
/-- Signed answers can be made: an identity, a token and a translated buffer. -/
def atS (m : Mgmt) : State := let s := put (pages (mgmtOn m 1)) [(R.LCS_STATE_ID_READY, 0, [], 1), (R.LCS_STATE_STATE, 0, [], 2), (R.SEC_ATT_RATE_BURST, 0, [], 4)]
  { s with sec := { s.sec with signNext := some 0, tokens := 1, cert := .installed [1] } }
/-- A DECRYPT of 64 bytes at address 0 for context 1. -/
def decM (tag : List Byte) : Mgmt := { mgmtOf 0x42 (zeros 14 ++ leBytes 4 64 ++ zeros 20 ++ tag) with stage := 3 }
def decS (m : Mgmt) (st : Nat) : State := { pages (mgmtOn m st) with ctxs := [(1, ⟨0, some 3, [(0, zeros 32)], []⟩)] }
def goodTag : List Byte := gcmTag (zeros 32) (zeros 12) (zeros 8) (zeros 64)
/-- Its read of zeros, and its writes of the plain text and of zeros, have been answered. -/
def decGo (m : Mgmt) : State :=
  let s := hereW (heres (decS m 1) (Virt.dog 0 0 1).agent 0 (zeros 64)) (Virt.dog 0 0 1).agent .wrInv 0 (gcmPlain (zeros 32) (zeros 12) (zeros 64)) [] 64
  { s with reqs := s.reqs ++ [{ s.agentReq (Virt.dog 0 0 1).agent .wrInv 0 64 (zeros 64) .agent with rid := 91, stage := .here }] }
def imgHead : List Byte := leBytes 4 0x4B5A4D42 ++ leBytes 2 1 ++ zeros 2 ++ leBytes 4 512 ++ leBytes 2 1 ++ zeros 2 ++ leBytes 4 0x100 ++ leBytes 4 0x140 ++
  leBytes 4 0x100 ++ zeros 4 ++ leBytes 4 512 ++ zeros 28
def imgTail : List Byte := zeros 128 ++ leBytes 2 1 ++ leBytes 2 0xFF ++ zeros 60 ++ leBytes 4 0x1C0 ++ leBytes 4 1 ++ leBytes 1 6 ++ zeros 183
/-- An image of one tile that meets R187, with its digest. -/
def goodImage : List Byte := imgHead ++ shake256 64 (imgHead ++ zeros 64 ++ imgTail) ++ imgTail
def regCmd : Mgmt := mgmtOf 1 (zeros 6 ++ leBytes 8 (2 ^ 47) ++ leBytes 4 512)
def regOn : State := put (pages (mgmtOn regCmd 1)) [(R.PAR_CFG_IMG_STORE, 0, [0], 1), (R.PAR_QUOTA_SIZE, 0, [0, 0], 2)]
/-- What a read of the host page finds, whatever the host holds there. -/
theorem host_read (s : State) (a : Virt) (va n : Nat) (h : List Byte) (e : TlbEntry) (hp : pagesOf va n = [(va, n)]) (hI : isHost va = true)
    (hx : (s.xlate a va false).1 = .hit e) (hh : (s.xlate a va false).2.heel = false)
    (hb : (s.xlate a va false).2.bme ((s.xlate a va false).2.fnOf a.part) = true) :
    s.virtReadH a va n h = (.ok (padTo n h), (s.xlate a va false).2) := by
  have hv : s.virtPart a va n none (h.drop (va - va)) = (.ok (padTo n h), (s.xlate a va false).2) := by
    unfold State.virtPart
    rw [Option.isSome_none, fst_eq hx]
    simp [hI, hh, hb]
  unfold State.virtReadH
  rw [hp, List.foldl_cons, List.foldl_nil]
  show (match s.virtPart a va n none (h.drop (va - va)) with
    | (VRes.ok cs, s) => (VRes.ok ([] ++ cs), s)
    | r => r) = _
  rw [hv]
  rfl
theorem beBytes_length : ∀ n x, (beBytes n x).length = n := by
  intro n x
  simp [beBytes]
theorem gcmTag_length (k iv aad ct : List Byte) : (gcmTag k iv aad ct).length = 16 := by simp only [gcmTag, List.length_map, beBytes_length]
def aKek : List Byte := shake256 32 (Config.mlkemDecap 3 (zeros 1568) ++ leBytes 8 (s0.rd R.LCS_SERIAL 0) ++ leBytes 8 0 ++ leBytes 8 1 ++ leBytes 8 0 ++ kekLabel)
/-- A blob whose tag holds for key pair 3 of context 1. -/
def aBlob : List Byte := zeros 0x64C ++ gcmTag aKek (zeros 12) (leBytes 8 (s0.rd R.LCS_SERIAL 0) ++ leBytes 8 0) (zeros 32)
def keyCmd : Mgmt := mgmtOf 0x41 (zeros 6 ++ leBytes 8 (2 ^ 47) ++ leBytes 4 1628)
def keyOn : State := { pages (mgmtOn keyCmd 1) with ctxs := [(1, ⟨0, some 3, [], []⟩)] }
def keyOn1 : State := (keyOn.xlate (keyOn.packVirt 0 1) (2 ^ 47) false).2
theorem aBlob_pad : padTo 1628 aBlob = aBlob := by
  have h : aBlob.length = 1628 := by
    simp only [aBlob, List.length_append, gcmTag_length]; decide +kernel
  unfold padTo; rw [h, List.take_of_length_le (by rw [h])]; simp
theorem aBlob_unwrap : keyOn1.unwrap 0 1 3 0 aBlob = some (gcmPlain aKek (zeros 12) (zeros 32)) := by
  have h1 : aBlob.take 1568 = zeros 1568 := by unfold aBlob; rw [List.take_append_of_le_length (by decide +kernel)]; decide +kernel
  have h2 : (aBlob.drop 0x620).take 12 = zeros 12 := by
    unfold aBlob; rw [List.drop_append_of_le_length (by decide +kernel), List.take_append_of_le_length (by decide +kernel)]; decide +kernel
  have h3 : (aBlob.drop 0x62C).take 32 = zeros 32 := by
    unfold aBlob; rw [List.drop_append_of_le_length (by decide +kernel), List.take_append_of_le_length (by decide +kernel)]; decide +kernel
  have h4 : (aBlob.drop 0x64C).take 16 = gcmTag aKek (zeros 12) (leBytes 8 (s0.rd R.LCS_SERIAL 0) ++ leBytes 8 0) (zeros 32) := by
    unfold aBlob
    rw [List.drop_left' (by decide +kernel), List.take_of_length_le (by rw [gcmTag_length])]
  have h5 : keyOn1.rd R.LCS_SERIAL 0 = s0.rd R.LCS_SERIAL 0 := by decide +kernel
  unfold State.unwrap
  simp only [h1, h2, h3, h4, h5]
  exact if_pos (beq_self_eq_true _)
theorem key_read : keyOn.virtReadH (keyOn.packVirt 0 keyCmd.ctx) keyCmd.addr 1628 aBlob = (.ok aBlob, keyOn1) := by
  rw [show keyCmd.addr = 2 ^ 47 from by decide +kernel, show keyCmd.ctx = 1 from by decide +kernel,
    host_read keyOn (keyOn.packVirt 0 1) (2 ^ 47) 1628 aBlob { aTlb with ctx := 1, va := 2 ^ 47 } (by decide +kernel) (by decide +kernel) (by decide +kernel)
      (by decide +kernel) (by decide +kernel), aBlob_pad, keyOn1]

/-! ### Worked values of the spec -/

/-- The decode example of the memory chapter: DPA 0x12_3456_7A40 lies on pseudo-channel 588 at local offset 0x48D_1540, behind memory port 73, and the next
granule on 589. -/
theorem test_decode_example : s0.decode 0x1234567A40 = some (588, 0x48D1540) ∧ (s0.decode 0x1234567B00).map (·.1) = some 589 ∧
    qDie 588 = 2 ∧ qStack 588 = 9 ∧ qPort 588 = 73 := by decide +kernel
/-- The stochastic rounding example of R119: 1 + 2^-9 + 2^-11 to BF16 with lane values 13,107 and 40,000, and to nearest. -/
theorem test_sr_example : bf16.convert (.sr 13107) false (fp32.decode 0x3F805000) = 0x3F81 ∧ bf16.convert (.sr 40000) false (fp32.decode 0x3F805000) = 0x3F80 ∧
    bf16.convert .rne false (fp32.decode 0x3F805000) = 0x3F80 := by decide +kernel
/-- TIL_STATUS of tile 3 in cluster 5, and the Leash minimum of cluster 5 for LCR (R90, R285). -/
theorem test_register_addresses : R.TIL_STATUS_STATE.offset [5, 3] = 0x1051300 ∧ R.LSH_M_MIN_MIN.offset [5, 0] = 0x3C1288 := by decide +kernel
/-- The route example of R411: from (3, 14, 0, 0) to (12, 2, 31, 1) X goes down through port 5, Y up through port 2, Z down through port 7 and its dateline,
then W. -/
theorem test_torus_route_example : hop (3 * 1024 + 14 * 64) (12 * 1024 + 2 * 64 + 31 * 2 + 1) = some (0, 5, false) ∧
    hop (0 * 1024 + 14 * 64) (12 * 1024 + 2 * 64 + 31 * 2 + 1) = some (0, 5, true) ∧ hop (12 * 1024 + 15 * 64) (12 * 1024 + 2 * 64 + 31 * 2 + 1) = some (1, 2, true) ∧
    hop (12 * 1024 + 2 * 64) (12 * 1024 + 2 * 64 + 31 * 2 + 1) = some (2, 7, true) ∧
    hop (12 * 1024 + 2 * 64 + 31 * 2) (12 * 1024 + 2 * 64 + 31 * 2 + 1) = some (3, 0, false) := by decide +kernel
/-- The example of R399: key 0x02_590A hashes to 81. -/
theorem test_ring_hash_example : ringHash 0x02590A = 81 := by decide +kernel
/-- The error example: memory port 73 has SCOPE 0x1049. -/
theorem test_scope_example : scopeOf 1 73 = 0x1049 := by decide +kernel
/-- The island example of R32: 0x50 splits an idle package into two islands. -/
theorem test_island_example : (nextOf (exec (.hubIslandWrite 0x50) s0)).rd R.HUB_ISLAND_HD3_ISL 0 = 1 ∧ (nextOf (exec (.hubIslandWrite 0x50) s0)).rd R.HUB_ISLAND_HD2_ISL 0 = 1 ∧
    (nextOf (exec (.hubIslandWrite 0x50) s0)).rd R.HUB_ISLAND_HD1_ISL 0 = 0 ∧ (nextOf (exec (.hubIslandWrite 0x50) s0)).rd R.HUB_ISLAND_HD0_ISL 0 = 0 := by decide +kernel
/-- A tick boundary raises the tick number by one (R240). -/
theorem test_tick_number : (nextOf (exec .tickBoundary s0)).rd R.TCK_NUMBER 0 = 1 := by decide +kernel
/-- The table gives no bits, so no word spells a command and the queue stays as it is. -/
theorem test_no_word : decodeTableWord 32 0 = none ∧ (s0.withFetchWord 32 0).pending = [] := by decide +kernel
/-- With nothing waiting the block idles; a command that names no tile of the package stops. -/
theorem test_step : step s0 = .next s0 ∧ (step { s0 with pending := [.nop 8192] } = .fault .noSuchInstance) := by
  constructor <;> rfl
/-- SHAKE256 of the empty string, as FIPS 202's own example files give it. -/
theorem test_shake256 : shake256 8 [] = [0x46, 0xb9, 0xdd, 0x2b, 0x0b, 0xa8, 0x8d, 0x13] := by decide +kernel
/-- AES-256-GCM with a key, a nonce and a block of zeros: the ciphertext and the tag that GCM's published test case 14 gives. -/
theorem test_gcm : gcmPlain (zeros 32) (zeros 12) (zeros 16) = [0xce, 0xa7, 0x40, 0x3d, 0x4d, 0x60, 0x6b, 0x6e, 0x07, 0x4e, 0xc5, 0xd3, 0xba, 0xf3, 0x9d, 0x18] ∧
    gcmTag (zeros 32) (zeros 12) [] [0xce, 0xa7, 0x40, 0x3d, 0x4d, 0x60, 0x6b, 0x6e, 0x07, 0x4e, 0xc5, 0xd3, 0xba, 0xf3, 0x9d, 0x18] =
      [0xd0, 0xd1, 0xc8, 0xa7, 0x99, 0x99, 0x6b, 0xf0, 0x26, 0x5b, 0x98, 0xb5, 0xd4, 0x8a, 0xb9, 0x19] := by decide +kernel

/-! ### The hypotheses of every statement are met -/

theorem test_hyps_StepRunsFrontCommand : (∃ (s : State), s.pending = []) :=
  ⟨s0, by decide +kernel⟩

theorem test_hyps_WaitingCommandsComplete :
    (∃ (c : Instr) (s : State), c.wf = true) ∧
    (∃ (c : Instr) (s : State), c.wf = false) ∧
    (∃ (s : State), QueueWf s) :=
  ⟨⟨(.nop 8191), s0, by decide +kernel⟩,
   ⟨(.nop 8192), s0, by decide +kernel⟩,
   ⟨({ s0 with pending := [.nop 8191, .tickBoundary] }), by unfold QueueWf; decide +kernel⟩⟩

theorem test_hyps_ResetIsAsStated : (∃ (f : Fld) (d : Nat) (ix : List Nat), f ∈ R.table ∧ f.kind = .const) :=
  ⟨R.LCS_SERIAL, 0, [], by decide +kernel⟩

theorem test_hyps_MemoryReadsWhatWasWritten :
    (∃ (m : SMap Byte) (a : Nat) (b : Nat) (bs : List Byte), (b < a ∨ a + bs.length ≤ b)) ∧
    (∃ (m : SMap Byte) (n : SMap Byte), Memory.wf m = true ∧ Memory.wf n = true ∧ (∀ a, memRead m a = memRead n a)) ∧
    (∃ (m : SMap Byte) (a : Nat) (n : Nat) (v : Nat), v < 2 ^ (8 * n)) :=
  ⟨⟨[], 0, 0, [], by decide +kernel⟩,
   ⟨([(3, 7)]), ([(3, 7)]), ⟨by decide +kernel, by decide +kernel, fun _ => rfl⟩⟩,
   ⟨[], 0, 0, 0, by decide +kernel⟩⟩

theorem test_hyps_CalmCommandsFrame :
    (∃ (c : Instr) (s : State) (u : State) (a : Nat), calmRow c = true ∧ exec c s = .next u) ∧
    (∃ (c : Nat) (s : State) (u : State) (a : Nat), exec (.cluPerfClear c) s = .next u) ∧
    (∃ (v : Nat) (s : State) (u : State) (a : Nat), (∀ i, s.islDown i = false) ∧ exec (.hubIslandWrite v) s = .next u) :=
  ⟨⟨(.signTokenRefill 0), s0, (nextOf (exec (.signTokenRefill 0) s0)), 0, ⟨by decide +kernel, nextOf_eq (by decide +kernel)⟩⟩,
   ⟨511, s0, (nextOf (exec (.cluPerfClear 511) s0)), 0, nextOf_eq (by decide +kernel)⟩,
   ⟨0, s0, (nextOf (exec (.hubIslandWrite 0) s0)), 0, ⟨fun _ => rfl, nextOf_eq (by decide +kernel)⟩⟩⟩

theorem test_hyps_PhaseAlternatesByPass :
    (∃ (c : Cpl) (size : Nat) (n : Nat), 0 < size) ∧
    (∃ (c : Cpl) (size : Nat) (n : Nat), n < size) ∧
    (∃ (c : Cpl) (size : Nat) (n : Nat), size ≤ n ∧ n < 2 * size) ∧
    (∃ (m : SMap Byte) (a : Nat) (c : Cpl) (size : Nat) (n : Nat), memBytes m a 32 = List.replicate 32 0 ∧ n < size) :=
  ⟨⟨(⟨0, 0, false, false, 0, 0, 0, 0, 0, 0, 0, 0⟩), 64, 63, by decide +kernel⟩,
   ⟨(⟨0, 0, false, false, 0, 0, 0, 0, 0, 0, 0, 0⟩), 64, 0, by decide +kernel⟩,
   ⟨(⟨0, 0, false, false, 0, 0, 0, 0, 0, 0, 0, 0⟩), 64, 127, by decide +kernel⟩,
   ⟨[], 0, (⟨0, 0, false, false, 0, 0, 0, 0, 0, 0, 0, 0⟩), 64, 63, by decide +kernel⟩⟩

theorem test_hyps_TorusRolesByPosition :
    (∃ (d : Nat) (e : Nat) (i : Nat) (j : Nat), d < 4 ∧ e < 4 ∧ i < 2 ∧ j < 2 ∧ ((if i = 0 then State.reset.rd R.HUB_TORUS_ROLE_T0_ROLE d else State.reset.rd R.HUB_TORUS_ROLE_T1_ROLE d) / 2 = 3) ∧ ((if i = 0 then State.reset.rd R.HUB_TORUS_ROLE_T0_ROLE d else State.reset.rd R.HUB_TORUS_ROLE_T1_ROLE d) ≠ (if j = 0 then State.reset.rd R.HUB_TORUS_ROLE_T0_ROLE e else State.reset.rd R.HUB_TORUS_ROLE_T1_ROLE e)) ∧ ((if j = 0 then State.reset.rd R.HUB_TORUS_ROLE_T0_ROLE e else State.reset.rd R.HUB_TORUS_ROLE_T1_ROLE e) / 2 = 3)) ∧
    (∃ (k : Nat), k < 8) :=
  ⟨⟨0, 2, 0, 0, by decide +kernel⟩,
   ⟨0, by decide +kernel⟩⟩

theorem test_hyps_ReadsReturnTheValueInEffect : (∃ (f : Fld) (d : Nat) (ix : List Nat) (s : State), f ∈ R.table ∧ f.cls = .T ∧ f.acc = .RW) :=
  ⟨R.LSH_M_MIN_MIN, 0, [], s0, by decide +kernel⟩

theorem test_hyps_IntegerStepsAreExact :
    (∃ (p : Pair) (rd : Nat → Byte) (aBase : Nat) (bBase : Nat) (sa : Nat) (sb : Nat) (r : Nat) (c : Nat) (acc : Nat), p.acc = .int32) ∧
    (∃ (p : Pair) (rd : Nat → Byte) (aBase : Nat) (bBase : Nat) (sa : Nat) (sb : Nat) (r : Nat) (c : Nat) (acc : Nat), p.acc = .int48) ∧
    (∃ (x : Int × Int), -128 ≤ x.1 ∧ x.1 ≤ 127 ∧ -128 ≤ x.2 ∧ x.2 ≤ 127) ∧
    (∃ (l : List (Int × Int)), l.length ≤ 131071 ∧ (∀ x ∈ l, -128 ≤ x.1 ∧ x.1 ≤ 127 ∧ -128 ≤ x.2 ∧ x.2 ≤ 127)) :=
  ⟨⟨(⟨16, .int8, .int8, false, .int32⟩), (fun _ => 0), 0, 0, 0, 0, 0, 0, 0, by decide +kernel⟩,
   ⟨(⟨16, .slice, .slice, false, .int48⟩), (fun _ => 0), 0, 0, 0, 0, 0, 0, 0, by decide +kernel⟩,
   ⟨((-128, 127)), by decide +kernel⟩,
   ⟨([(-128, 127), (127, -128)]), by decide +kernel⟩⟩

theorem test_hyps_RequestsAreChargedByTheUnit :
    (∃ (r : Req), r.op ≠ .upgrade ∧ r.op ≠ .evictClean) ∧
    (∃ (r : Req), (r.op = .upgrade ∨ r.op = .evictClean)) ∧
    (∃ (r : Req) (s : State), r.die < 4 ∧ r.mport < 137 ∧ r.cls < 4) :=
  ⟨⟨zReq, by decide +kernel⟩,
   ⟨({ zReq with op := .upgrade }), by decide +kernel⟩,
   ⟨zReq, s0, by decide +kernel⟩⟩

theorem test_hyps_TileControlCommandsComplete :
    (∃ (p : (Nat → Instr) × Nat) (t : Nat) (w0 : Nat) (w1 : Nat) (s : State), (p ∈ ([(Instr.nop, 0x00), (Instr.token, 0x01), (Instr.tileEnd, 0x02), (Instr.loop, 0x03)] : List ((Nat → Instr) × Nat))) ∧ HeadReady s t p.2 w0 w1 ∧ SignalsFit s t (signalsOf (syncWord p.2 w0 w1))) ∧
    (∃ (t : Nat) (w0 : Nat) (w1 : Nat) (s : State), HeadReady s t 0x02 w0 w1 ∧ SignalsFit s t (signalsOf (syncWord 0x02 w0 w1))) ∧
    (∃ (t : Nat) (w0 : Nat) (w1 : Nat) (s : State), HeadReady s t 0x03 w0 w1 ∧ SignalsFit s t (signalsOf (syncWord 0x03 w0 w1))) :=
  ⟨⟨((Instr.token, 1)), 0, sync0, 0, (onTile Tile.idle sync0 0), ⟨by simp, (by dsimp only; unfold HeadReady; and_intros <;> decide +kernel), by rw [show signalsOf (syncWord (Instr.token, 1).2 sync0 0) = [(1, 3, 5)] from by decide +kernel]; unfold SignalsFit; decide +kernel⟩⟩,
   ⟨0, ((2 * 2 ^ 57)), 0, (onTile Tile.idle (2 * 2 ^ 57) 0), ⟨(by unfold HeadReady; and_intros <;> decide +kernel), by rw [show signalsOf (syncWord 2 (2 * 2 ^ 57) 0) = [] from by decide +kernel]; unfold SignalsFit; trivial⟩⟩,
   ⟨0, sprf0, ((2 ^ 24)), (onTile { Tile.idle with code := zeros 32, codeLen := 4, ringSize := 128 } sprf0 (2 ^ 24)), ⟨(by unfold HeadReady; and_intros <;> decide +kernel), by rw [show signalsOf (syncWord 3 sprf0 (2 ^ 24)) = [] from by decide +kernel]; unfold SignalsFit; trivial⟩⟩⟩

theorem test_hyps_TileStoreCommandsComplete :
    (∃ (p : (Nat → Instr) × Nat) (t : Nat) (w0 : Nat) (w1 : Nat) (s : State) (y : Tile), (p ∈ ([(Instr.setbase, 0x11), (Instr.ldbase, 0x12), (Instr.setshape, 0x13), (Instr.fill, 0x14), (Instr.cube, 0x30), (Instr.accz, 0x31), (Instr.accld, 0x32), (Instr.accst, 0x33), (Instr.dial, 0x34), (Instr.planes, 0x35), (Instr.vadd, 0x40), (Instr.vsub, 0x41), (Instr.vmul, 0x42), (Instr.vfma, 0x43), (Instr.vmin, 0x44), (Instr.vmax, 0x45), (Instr.vceq, 0x46), (Instr.vcne, 0x47), (Instr.vclt, 0x48), (Instr.vcle, 0x49), (Instr.vand, 0x4A), (Instr.vor, 0x4B), (Instr.vxor, 0x4C), (Instr.vsel, 0x4D), (Instr.vabs, 0x4E), (Instr.vneg, 0x4F), (Instr.vmov, 0x50), (Instr.vrsum, 0x51), (Instr.vrmax, 0x52), (Instr.vexp, 0x53), (Instr.vexp2, 0x54), (Instr.vlog, 0x55), (Instr.vlog2, 0x56), (Instr.vrcp, 0x57), (Instr.vsqrt, 0x58), (Instr.vrsqrt, 0x59), (Instr.vsin, 0x5A), (Instr.vcos, 0x5B), (Instr.vtanh, 0x5C), (Instr.vsigm, 0x5D), (Instr.verf, 0x5E), (Instr.vrcmb, 0x5F), (Instr.cvt, 0x60), (Instr.cvtmx, 0x61), (Instr.cvtxm, 0x62), (Instr.slice, 0x63)] : List ((Nat → Instr) × Nat))) ∧ HeadReady s t p.2 w0 w1 ∧ ClusterQuiet s t ∧ tileEffect (startCmd s t p.2 w0 w1) (s.clu (t / 16)) (startTile s t p.2 w0 w1) = .ok y) ∧
    (∃ (c : Instr) (t : Nat) (op : Nat) (w0 : Nat) (w1 : Nat) (s : State), tileRow c = some (t, op) ∧ unitOf op ≠ 0 ∧ HeadReady s t op w0 w1 ∧ State.canStart (s.setTile t { (s.tile t).afterIssue op w0 w1 with cmds := (s.tile t).cmds ++ [(s.tile t).command op w0 w1] }) t ((s.tile t).command op w0 w1) = false) :=
  ⟨⟨((Instr.setbase, 0x11)), 0, ((0x11 * 2 ^ 57)), 0, (onTile Tile.idle (0x11 * 2 ^ 57) 0), (startTile (onTile Tile.idle (0x11 * 2 ^ 57) 0) 0 0x11 (0x11 * 2 ^ 57) 0), ⟨by simp, (by dsimp only; unfold HeadReady; and_intros <;> decide +kernel), by unfold ClusterQuiet; decide +kernel, by decide +kernel⟩⟩,
   ⟨(.move 0), 0, 0x10, ((0x10 * 2 ^ 57)), 0, (onTile { Tile.idle with cmds := [oneCmd 0x10 (0x10 * 2 ^ 57) false], nextSeq := 1 } (0x10 * 2 ^ 57) 0), ⟨by decide +kernel, by decide +kernel, by unfold HeadReady; and_intros <;> decide +kernel, by decide +kernel⟩⟩⟩

theorem test_hyps_TileTransferCommandsComplete :
    (∃ (t : Nat) (w0 : Nat) (w1 : Nat) (s : State), HeadReady s t 0x20 w0 w1 ∧ ClusterQuiet s t ∧ gatherAlignBad (startCmd s t 0x20 w0 w1) ((s.tile t).abrOf (bits w0 47 3)) = false) ∧
    (∃ (t : Nat) (w0 : Nat) (w1 : Nat) (s : State), HeadReady s t 0x21 w0 w1 ∧ ClusterQuiet s t ∧ gatherAlignBad (startCmd s t 0x21 w0 w1) ((s.tile t).abrOf (bits w0 47 3)) = false) ∧
    (∃ (t : Nat) (w0 : Nat) (w1 : Nat) (s : State), HeadReady s t 0x10 w0 w1 ∧ ClusterQuiet s t ∧ (moveExtents (startCmd s t 0x10 w0 w1) ((s.tile t).shapeOf (bits w0 45 2))).find? (outside (s.clu (t / 16)).ringRegion) = none ∧ moveAlignBad (startCmd s t 0x10 w0 w1) ((s.tile t).abrOf (bits w0 42 3)) ((s.tile t).shapeOf (bits w0 45 2)) = false) ∧
    (∃ (t : Nat) (w0 : Nat) (w1 : Nat) (dt : Nat) (j : Nat) (uid : Nat) (s : State), HeadReady s t 0x28 w0 w1 ∧ ClusterQuiet s t ∧ ((s.tile t).outCh (bits w0 47 3)).bound = some (dt, j) ∧ s.unitOfTile t = some uid) ∧
    (∃ (t : Nat) (w0 : Nat) (w1 : Nat) (s : State), HeadReady s t 0x29 w0 w1 ∧ ClusterQuiet s t) :=
  ⟨⟨0, ((0x20 * 2 ^ 57)), 0, (onTile Tile.idle (0x20 * 2 ^ 57) 0), by unfold HeadReady ClusterQuiet; and_intros <;> decide +kernel⟩,
   ⟨0, ((0x21 * 2 ^ 57)), 0, (onTile Tile.idle (0x21 * 2 ^ 57) 0), by unfold HeadReady ClusterQuiet; and_intros <;> decide +kernel⟩,
   ⟨0, ((0x10 * 2 ^ 57 + 6 * 2 ^ 47)), 0, (onTile Tile.idle (0x10 * 2 ^ 57 + 6 * 2 ^ 47) 0), by unfold HeadReady ClusterQuiet; and_intros <;> decide +kernel⟩,
   ⟨0, ((0x28 * 2 ^ 57 + 3 * 2 ^ 47 + 2 * 2 ^ 29)), 0, 17, 7, 1, (onTile (Tile.idle.setOut 3 ⟨some (17, 7), 2, 2⟩) (0x28 * 2 ^ 57 + 3 * 2 ^ 47 + 2 * 2 ^ 29) 0), by unfold HeadReady ClusterQuiet; and_intros <;> decide +kernel⟩,
   ⟨0, ((0x29 * 2 ^ 57 + 7 * 2 ^ 47 + 2 * 2 ^ 29)), 0, (onTile (Tile.idle.setIn 7 ⟨0, 4, 2, 0, 3, 1, none⟩) (0x29 * 2 ^ 57 + 7 * 2 ^ 47 + 2 * 2 ^ 29) 0), by unfold HeadReady ClusterQuiet; and_intros <;> decide +kernel⟩⟩

theorem test_hyps_TileIssueFaults :
    (∃ (c : Instr) (t : Nat) (op : Nat) (w0 : Nat) (w1 : Nat) (code : Nat) (info : Nat) (s : State), tileRow c = some (t, op) ∧ t < 8192 ∧ s.issues t = true ∧ SMap.look (s.tile t).prefetch (s.tile t).head = some w0 ∧ opcodeOf w0 = op ∧ (if entriesOf w0 = 2 then SMap.look (s.tile t).prefetch ((s.tile t).head + 1) = some w1 else w1 = 0) ∧ issueFault (s.rdClu R.CLU_STATUS_TILE_MASK (t / 16)) (s.clu (t / 16)).ringRegion (s.tile t) op w0 w1 ((List.range 3).map (fun k => (s.tile t).loopIdx.off (idxOf w0 k))) = some (code, info)) ∧
    (∃ (c : Instr) (t : Nat) (op : Nat) (w0 : Nat) (code : Nat) (info : Nat) (s : State), tileRow c = some (t, op) ∧ t < 8192 ∧ s.issues t = true ∧ SMap.look (s.tile t).prefetch (s.tile t).head = some w0 ∧ opcodeOf w0 = op ∧ entriesOf w0 = 2 ∧ SMap.look (s.tile t).prefetch ((s.tile t).head + 1) = none ∧ (s.tile t).written ≤ (s.tile t).head + 1 ∧ issueFault (s.rdClu R.CLU_STATUS_TILE_MASK (t / 16)) (s.clu (t / 16)).ringRegion (s.tile t) op w0 (plainWord op) ((List.range 3).map (fun k => (s.tile t).loopIdx.off (idxOf w0 k))) = some (code, info)) ∧
    (∃ (c : Instr) (t : Nat) (op : Nat) (w0 : Nat) (w1 : Nat) (st : Nat) (s : State), tileRow c = some (t, op) ∧ t < 8192 ∧ s.issues t = true ∧ SMap.look (s.tile t).prefetch (s.tile t).head = some w0 ∧ opcodeOf w0 = op ∧ (if entriesOf w0 = 2 then SMap.look (s.tile t).prefetch ((s.tile t).head + 1) = some w1 else w1 = 0) ∧ issueFault (s.rdClu R.CLU_STATUS_TILE_MASK (t / 16)) (s.clu (t / 16)).ringRegion (s.tile t) op w0 w1 ((List.range 3).map (fun k => (s.tile t).loopIdx.off (idxOf w0 k))) = none ∧ waitState (s.tile t) op w0 (waitsOf (syncWord op w0 w1)) = some st) ∧
    (∃ (t : Nat) (w0 : Nat) (s : State), t < 8192 ∧ s.issues t = true ∧ SMap.look (s.tile t).prefetch (s.tile t).head = some w0 ∧ knownOp (opcodeOf w0) = false) :=
  ⟨⟨(.nop 0), 0, 0, 1, 0, 2, 0, (onTile Tile.idle 1 0), by decide +kernel⟩,
   ⟨(.setshape 0), 0, 0x13, ((0x13 * 2 ^ 57 + 1)), 2, 0, (onTile1 (0x13 * 2 ^ 57 + 1)), by decide +kernel⟩,
   ⟨(.move 0), 0, 0x10, ((0x10 * 2 ^ 57)), 0, 6, (onTile { Tile.idle with cmds := [0, 1, 2, 3].map (fun i => { oneCmd 0x10 (0x10 * 2 ^ 57) false with seq := i }) } (0x10 * 2 ^ 57) 0), by decide +kernel⟩,
   ⟨0, ((0x7F * 2 ^ 57)), (onTile Tile.idle (0x7F * 2 ^ 57) 0), by decide +kernel⟩⟩

theorem test_hyps_TileEventsComplete :
    (∃ (t : Nat) (unit : Nat) (c : TCmd) (s : State) (y : Tile), t < 8192 ∧ unit < 5 ∧ (s.tile t).cmds.find? (fun d => d.unit == unit && !d.started) = some c ∧ s.canStart t c = true ∧ (∀ i < 16, ∀ d ∈ (s.tile (t / 16 * 16 + i)).cmds, d.started = false) ∧ c.op ≠ 0x10 ∧ c.op ≠ 0x20 ∧ c.op ≠ 0x21 ∧ c.op ≠ 0x28 ∧ c.op ≠ 0x29 ∧ tileEffect (c.begin (s.tile t)) (s.clu (t / 16)) { s.tile t with cmds := (s.tile t).cmds.map (fun e => if e.seq == c.seq then c.begin (s.tile t) else e) } = .ok y) ∧
    (∃ (t : Nat) (unit : Nat) (c : TCmd) (s : State) (v : State), t < 8192 ∧ unit < 5 ∧ (s.tile t).cmds.find? (fun d => d.unit == unit && !d.started) = some c ∧ s.canStart t c = true ∧ ((s.setTile t { s.tile t with cmds := (s.tile t).cmds.map (fun e => if e.seq == c.seq then c.begin (s.tile t) else e) }).hazards t (c.begin (s.tile t))).startEffect t (c.begin (s.tile t)) = .ok v) ∧
    (∃ (t : Nat) (seq : Nat) (c : TCmd) (s : State), t < 8192 ∧ (s.tile t).cmds.find? (fun d => d.seq == seq && d.started) = some c ∧ (∀ f ∈ s.xfers, ¬(f.tile = t ∧ f.seq = seq)) ∧ SignalsFit s t (signalsOf (syncWord c.op c.w0 c.w1))) ∧
    (∃ (t : Nat) (k : Nat) (g : Sig) (s : State), t < 8192 ∧ (s.sigs.filter (fun g => g.tile == t))[k]? = some g) ∧
    (∃ (t : Nat) (ch : Nat) (f : SlotFlit) (s : State), t < 8192 ∧ ch < 8 ∧ s.slotFlits.find? (fun f => f.dst == t && f.ch == ch) = some f ∧ s.flitHeld f = false ∧ s.staleFlit f.src t f.part f.gen = false ∧ s.live t f.uid = true ∧ ((s.tile t).inCh ch).slots ≠ 0 ∧ (∀ i < 16, (s.tile (t / 16 * 16 + i)).cmds = [])) ∧
    (∃ (t : Nat) (ch : Nat) (f : CreditFlit) (s : State), t < 8192 ∧ ch < 8 ∧ s.creditFlits.find? (fun f => f.tile == t && f.ch == ch) = some f ∧ s.staleFlit f.src t f.part f.gen = false ∧ s.live t f.uid = true ∧ ((s.tile t).outCh ch).credits + f.n ≤ ((s.tile t).outCh ch).start) ∧
    (∃ (t : Nat) (ch : Nat) (f : SlotFlit) (s : State), t < 8192 ∧ ch < 8 ∧ s.slotFlits.find? (fun f => f.dst == t && f.ch == ch) = some f ∧ s.flitHeld f = false ∧ s.staleFlit f.src t f.part f.gen = false ∧ s.live t f.uid = false) :=
  ⟨⟨0, 4, (oneCmd 0x11 (0x11 * 2 ^ 57) false), (onTile { Tile.idle with cmds := [oneCmd 0x11 (0x11 * 2 ^ 57) false] } 0 0), ({ Tile.idle with prefetch := [(0, 0), (1, 0)], cmds := [oneCmd 0x11 (0x11 * 2 ^ 57) true] }), by decide +kernel⟩,
   ⟨0, 4, (oneCmd 0x11 (0x11 * 2 ^ 57) false), (onTile { Tile.idle with cmds := [oneCmd 0x11 (0x11 * 2 ^ 57) false] } 0 0), (okStart ((((onTile { Tile.idle with cmds := [oneCmd 0x11 (0x11 * 2 ^ 57) false] } 0 0).setTile 0 { Tile.idle with prefetch := [(0, 0), (1, 0)], cmds := [(oneCmd 0x11 (0x11 * 2 ^ 57) false).begin ((onTile { Tile.idle with cmds := [oneCmd 0x11 (0x11 * 2 ^ 57) false] } 0 0).tile 0)] }).hazards 0 ((oneCmd 0x11 (0x11 * 2 ^ 57) false).begin ((onTile { Tile.idle with cmds := [oneCmd 0x11 (0x11 * 2 ^ 57) false] } 0 0).tile 0))).startEffect 0 ((oneCmd 0x11 (0x11 * 2 ^ 57) false).begin ((onTile { Tile.idle with cmds := [oneCmd 0x11 (0x11 * 2 ^ 57) false] } 0 0).tile 0)))), ⟨by decide +kernel, by decide +kernel, by decide +kernel, by decide +kernel, okStart_eq (by decide +kernel)⟩⟩,
   ⟨0, 0, (oneCmd 0x63 (0x63 * 2 ^ 57 + 2 ^ 45) true), (onTile { Tile.idle with cmds := [oneCmd 0x63 (0x63 * 2 ^ 57 + 2 ^ 45) true] } 0 0), ⟨by decide +kernel, by decide +kernel, by decide +kernel, by rw [show signalsOf (syncWord (oneCmd 0x63 (0x63 * 2 ^ 57 + 2 ^ 45) true).op (oneCmd 0x63 (0x63 * 2 ^ 57 + 2 ^ 45) true).w0 (oneCmd 0x63 (0x63 * 2 ^ 57 + 2 ^ 45) true).w1) = [] from by decide +kernel]; exact True.intro⟩⟩,
   ⟨8191, 1, ({ zSig with tile := 8191, tok := 31, inc := 9 }), ({ s0 with sigs := [{ zSig with tile := 8191, inc := 1 }, { zSig with inc := 1 }, { zSig with tile := 8191, tok := 31, inc := 9 }] }), by decide +kernel⟩,
   ⟨0, 7, ({ zSlotFlit with ch := 7, uid := 1, data := [1, 2] }), ({ onTile (Tile.idle.setIn 7 ⟨8, 4, 1, 0, 0, 3, none⟩) 0 0 with slotFlits := [{ zSlotFlit with ch := 6, uid := 1 }, { zSlotFlit with ch := 7, uid := 1, data := [1, 2] }] }), by decide +kernel⟩,
   ⟨0, 7, ({ zCreditFlit with ch := 7, n := 3, uid := 1 }), ({ onTile (Tile.idle.setOut 7 ⟨some (9, 1), 1, 4⟩) 0 0 with creditFlits := [{ zCreditFlit with ch := 7, n := 3, uid := 1 }] }), by decide +kernel⟩,
   ⟨0, 7, ({ zSlotFlit with ch := 7, uid := 2 }), ({ onTile (Tile.idle.setIn 7 ⟨8, 4, 1, 0, 0, 3, none⟩) 0 0 with slotFlits := [{ zSlotFlit with ch := 6, uid := 1 }, { zSlotFlit with ch := 7, uid := 2 }] }), by decide +kernel⟩⟩

theorem test_hyps_TileCommandsFrame :
    (∃ (c : Instr) (t : Nat) (op : Nat) (s : State) (u : State) (v : _), tileRow c = some (t, op) ∧ exec c s = .next u ∧ v / 16 ≠ t / 16) ∧
    (∃ (c : Instr) (t : Nat) (op : Nat) (s : State) (u : State) (k : _), tileRow c = some (t, op) ∧ exec c s = .next u ∧ k ≠ t / 16) ∧
    (∃ (c : Instr) (t : Nat) (op : Nat) (s : State) (u : State) (k : _), tileRow c = some (t, op) ∧ exec c s = .next u ∧ (k < 8 * (t / 2048 * 2 ^ 26 + 2 ^ 24 + t / 16 % 128 * 2 ^ 16) ∨ 8 * (t / 2048 * 2 ^ 26 + 2 ^ 24 + t / 16 % 128 * 2 ^ 16 + 2 ^ 16) ≤ k)) :=
  ⟨⟨(.nop 0), 0, 0, (onTile Tile.idle 0 0), ((onTile Tile.idle 0 0).issue 0 (· == 0x00)), 16, ⟨by decide +kernel, rfl, by decide +kernel⟩⟩,
   ⟨(.nop 0), 0, 0, (onTile Tile.idle 0 0), ((onTile Tile.idle 0 0).issue 0 (· == 0x00)), 1, ⟨by decide +kernel, rfl, by decide +kernel⟩⟩,
   ⟨(.nop 0), 0, 0, (onTile Tile.idle 0 0), ((onTile Tile.idle 0 0).issue 0 (· == 0x00)), 0, ⟨by decide +kernel, rfl, by decide +kernel⟩⟩⟩

theorem test_hyps_DispatcherCommandsComplete :
    (∃ (c : Nat) (host : List Byte) (s : State) (s1 : State) (uid : Nat) (w : WUnit) (img : Image) (d : List Byte), c < 512 ∧ (s.clu c).unit = some uid ∧ s.unit? uid = some w ∧ s.rdClu R.CLU_STATUS_STATE c = 1 ∧ (s.clu c).loaded = false ∧ w.stopped = false ∧ s.images.find? (fun (i : Image) => i.part == w.part && i.ctx == w.ctx && i.handle == w.image) = some img ∧ (s.clu c).lastCtx = some (16 * w.part + w.ctx) ∧ s.physRead (Agent.loader w c) img.store img.data.length = (.ok d, s1) ∧ imgNat d 0x24 4 = 0) ∧
    (∃ (uid : Nat) (dt : Nat) (s : State) (w : WUnit), s.unit? uid = some w ∧ w.kind = .kernel ∧ w.released = false ∧ w.ending = none ∧ (∀ c ∈ w.clusters, (s.clu c).loaded = true)) ∧
    (∃ (t : Nat) (s : State), t < 8192 ∧ s.rdClu R.CLU_STATUS_STATE (t / 16) = 2 ∧ (s.tile t).written < min (s.tile t).codeLen ((s.tile t).oldest + (s.tile t).ringSize)) ∧
    (∃ (c : Nat) (uid : Nat) (s : State), c < 512 ∧ (s.clu c).unit = some uid ∧ s.rdClu R.CLU_STATUS_STATE c = 2 ∧ (∀ t ∈ maskTiles (s.rdClu R.CLU_STATUS_TILE_MASK c), s.rdTil R.TIL_STATUS_STATE (16 * c + t) = 8)) ∧
    (∃ (uid : Nat) (s : State) (w : WUnit) (e : Ending), s.unit? uid = some w ∧ w.ending = some e ∧ w.stopped = false ∧ w.done = false ∧ w.kind = .kernel) :=
  ⟨⟨0, [], ((heres loading (Agent.loader aUnit 0) (2 ^ 16) (zeros 64))), (((heres loading (Agent.loader aUnit 0) (2 ^ 16) (zeros 64)).physRead (Agent.loader aUnit 0) (2 ^ 16) 64).2), 1, aUnit, ({ anImage with data := zeros 64 }), (zeros 64), by decide +kernel⟩,
   ⟨1, 0, ({ s0 with units := [aUnit], clusters := [(0, { Cluster.idle with loaded := true }), (511, { Cluster.idle with loaded := true })] }), aUnit, by decide +kernel⟩,
   ⟨8191, ({ s0.wrClu R.CLU_STATUS_STATE 511 2 with tiles := [(8191, { Tile.idle with codeLen := 9, ringSize := 64, written := 8 })] }), by decide +kernel⟩,
   ⟨511, 1, ({ ((s0.wrClu R.CLU_STATUS_STATE 511 2).wrClu R.CLU_STATUS_TILE_MASK 511 0x8000).wrTil R.TIL_STATUS_STATE 8191 8 with clusters := [(511, { Cluster.idle with unit := some 1 })] }), by decide +kernel⟩,
   ⟨1, ({ s0 with units := [{ aUnit with ending := some ⟨3, 0, 0⟩ }] }), ({ aUnit with ending := some ⟨3, 0, 0⟩ }), (⟨3, 0, 0⟩), by decide +kernel⟩⟩

theorem test_hyps_ClusterControlCompletes_1 :
    (∃ (c : Nat) (s : State), c < 512 ∧ s.rdClu R.CLU_STATUS_STATE c = 4) ∧
    (∃ (c : Nat) (s : State), c < 512 ∧ s.rdClu R.CLU_STATUS_STATE c = 5 ∧ s.rdB R.PAR_CTX_CFG_CONFIDENTIAL 0 [s.rdClu R.CLU_STATUS_PARTITION c, s.rdClu R.CLU_STATUS_CONTEXT c] = false ∧ s.rdClu R.CLU_DBG_ADDR_SPACE c = 0 ∧ s.rdClu R.CLU_DBG_ADDR_OFFSET c ≤ 0x1FFF8 ∧ s.rdClu R.CLU_DBG_ADDR_OFFSET c % 8 = 0) ∧
    (∃ (c : Nat) (s : State), c < 512 ∧ s.rdClu R.CLU_STATUS_STATE c ≠ 5) ∧
    (∃ (c : Nat) (p : Nat) (k : Nat) (s : State), c < 512 ∧ s.rdClu R.CLU_STATUS_PARTITION c = p ∧ s.rdClu R.CLU_STATUS_CONTEXT c = k ∧ (s.rdClu R.CLU_STATUS_STATE c ≠ 5 ∨ s.rdB R.PAR_CTX_CFG_CONFIDENTIAL 0 [p, k] = false ∨ s.rdB R.PAR_CTX_CFG_ENABLE 0 [p, k] = false ∨ 16 * p + k ∈ s.disclosed)) ∧
    (∃ (c : Nat) (s : State), s.rdClu R.CLU_STATUS_STATE c = 5 ∧ s.rdClu R.CLU_DBG_ADDR_OFFSET c % 8 = 0 ∧ s.rdClu R.CLU_DBG_ADDR_SPACE c = 1 ∧ s.rdClu R.CLU_DBG_ADDR_OFFSET c ≤ 0x1F8 ∧ ((s.tile (16 * c + s.rdClu R.CLU_DBG_ADDR_TILE c)).bank (s.rdClu R.CLU_DBG_ADDR_OFFSET c / 128)).type = some .int48) ∧
    (∃ (c : Nat) (s : State), s.rdClu R.CLU_STATUS_STATE c = 5 ∧ s.rdClu R.CLU_DBG_ADDR_OFFSET c % 8 = 0 ∧ s.rdClu R.CLU_DBG_ADDR_SPACE c = 2 ∧ s.rdClu R.CLU_DBG_ADDR_OFFSET c ≤ 0xFFFF8) ∧
    (∃ (c : Nat) (s : State), s.rdClu R.CLU_STATUS_STATE c = 5 ∧ s.rdClu R.CLU_DBG_ADDR_OFFSET c % 8 = 0 ∧ s.rdClu R.CLU_DBG_ADDR_SPACE c = 0 ∧ 0x1FFF8 < s.rdClu R.CLU_DBG_ADDR_OFFSET c) ∧
    (∃ (c : Nat) (s : State), s.rdClu R.CLU_STATUS_STATE c = 5 ∧ s.rdClu R.CLU_DBG_ADDR_OFFSET c % 8 = 0 ∧ 2 < s.rdClu R.CLU_DBG_ADDR_SPACE c) :=
  ⟨⟨511, (s0.wrClu R.CLU_STATUS_STATE 511 4), by decide +kernel⟩,
   ⟨511, (s0.wrClu R.CLU_STATUS_STATE 511 5), by decide +kernel⟩,
   ⟨511, s0, by decide +kernel⟩,
   ⟨0, 0, 0, s0, by decide +kernel⟩,
   ⟨511, ({ put (s0.wrClu R.CLU_STATUS_STATE 511 5) [(R.CLU_DBG_ADDR_SPACE, 3, [127], 1), (R.CLU_DBG_ADDR_TILE, 3, [127], 15), (R.CLU_DBG_ADDR_OFFSET, 3, [127], 0x1F8)] with tiles := [(8191, { Tile.idle with banks := [(3, ⟨some .int48, []⟩)] })] }), by decide +kernel⟩,
   ⟨511, (put (s0.wrClu R.CLU_STATUS_STATE 511 5) [(R.CLU_DBG_ADDR_SPACE, 3, [127], 2), (R.CLU_DBG_ADDR_OFFSET, 3, [127], 0xFFFF8)]), by decide +kernel⟩,
   ⟨511, (put (s0.wrClu R.CLU_STATUS_STATE 511 5) [(R.CLU_DBG_ADDR_SPACE, 3, [127], 0), (R.CLU_DBG_ADDR_OFFSET, 3, [127], 0x20000)]), by decide +kernel⟩,
   ⟨511, (put (s0.wrClu R.CLU_STATUS_STATE 511 5) [(R.CLU_DBG_ADDR_SPACE, 3, [127], 3)]), by decide +kernel⟩⟩

theorem test_hyps_ClusterControlCompletes_2 : (∃ (c : Nat) (p : Nat) (k : Nat) (h : Bool) (s : State), c < 512 ∧ s.rdClu R.CLU_STATUS_STATE c = 5 ∧ s.rdClu R.CLU_STATUS_PARTITION c = p ∧ s.rdClu R.CLU_STATUS_CONTEXT c = k ∧ p < 64 ∧ k < 16 ∧ s.rdB R.PAR_CTX_CFG_CONFIDENTIAL 0 [p, k] = true ∧ s.rdB R.PAR_CTX_CFG_ENABLE 0 [p, k] = true ∧ 16 * p + k ∉ s.disclosed) :=
  ⟨511, 63, 15, false, (put (s0.wrClu R.CLU_STATUS_STATE 511 5) [(R.CLU_STATUS_PARTITION, 3, [127], 63), (R.CLU_STATUS_CONTEXT, 3, [127], 15), (R.PAR_CTX_CFG_CONFIDENTIAL, 0, [63, 15], 1), (R.PAR_CTX_CFG_ENABLE, 0, [63, 15], 1)]), by decide +kernel⟩

theorem test_hyps_AdmissionCompletes :
    (∃ (p : Nat) (r : Nat) (dt : Nat) (s : State) (d : Desc) (i : Image) (cs : List Nat) (c : _), p < 64 ∧ r < 64 ∧ s.headDesc p r = some d ∧ s.turn p r = true ∧ d.kind = 1 ∧ d.failed = false ∧ (s.at_ dt).badReason d = none ∧ (s.at_ dt).image? p ((s.at_ dt).rCtx p r) (d.nat 0x10 2) = some i ∧ (s.at_ dt).place p i.data = some cs ∧ c ∈ cs) ∧
    (∃ (p : Nat) (r : Nat) (dt : Nat) (s : State) (d : Desc), p < 64 ∧ r < 80 ∧ s.headDesc p r = some d ∧ s.turn p r = true ∧ d.kind = 3 ∧ d.failed = false ∧ (s.at_ dt).badReason d = none) ∧
    (∃ (p : Nat) (r : Nat) (dt : Nat) (reason : Nat) (s : State) (d : Desc), p < 64 ∧ r < 80 ∧ s.headDesc p r = some d ∧ s.turn p r = true ∧ d.kind = 1 ∧ d.failed = false ∧ (s.at_ dt).badReason d = some reason) ∧
    (∃ (p : Nat) (r : Nat) (dt : Nat) (s : State) (d : Desc) (i : Image), p < 64 ∧ r < 64 ∧ s.headDesc p r = some d ∧ s.turn p r = true ∧ d.kind = 1 ∧ d.failed = false ∧ (s.at_ dt).badReason d = none ∧ (s.at_ dt).image? p ((s.at_ dt).rCtx p r) (d.nat 0x10 2) = some i ∧ (s.at_ dt).place p i.data = none) ∧
    (∃ (p : Nat) (r : Nat) (dt : Nat) (s : State) (d : Desc), p < 64 ∧ 64 ≤ r ∧ r < 80 ∧ s.headDesc p r = some d ∧ s.turn p r = true ∧ d.kind = 1 ∧ d.failed = false ∧ (s.at_ dt).badReason d = none) :=
  ⟨⟨0, 0, 0, (ringOf 0 kernelBytes), (descOf 0 kernelBytes), anImage, [511], 511, by decide +kernel⟩,
   ⟨0, 63, 0, (ringOf 63 [3]), (descOf 63 [3]), by decide +kernel⟩,
   ⟨0, 63, 0, 2, (ringOf 63 [1, 0, 0, 0, 0, 0, 0, 0, 0, 0, 0, 0, 1]), (descOf 63 [1, 0, 0, 0, 0, 0, 0, 0, 0, 0, 0, 0, 1]), by decide +kernel⟩,
   ⟨0, 0, 0, ((ringOf 0 kernelBytes).wr R.PAR_CLU_OWNER 0 [511] 1), (descOf 0 kernelBytes), anImage, by decide +kernel⟩,
   ⟨0, 79, 0, (put (ringOf 79 kernelBytes) [(R.BAY_STATUS_STATE, 0, [0], 2), (R.BAY_Q_LIMIT_FETCH_MAX, 0, [0, 15], 1)]), (descOf 79 kernelBytes), by decide +kernel⟩⟩

theorem test_hyps_FetchCommandsComplete_1 :
    (∃ (p : Nat) (data : List Byte) (s : State), p < 64 ∧ s.window p 0 = 1 ∧ s.rdB R.WRK_DB_LO_LOC 0 [p] = false ∧ (s.dbFail p 0).ask = []) ∧
    (∃ (p : Nat) (top : Nat) (first : Nat) (data : List Byte) (s : State) (t : State), p < 64 ∧ s.window p 0 = 1 ∧ s.rdB R.WRK_DB_LO_LOC 0 [p] = false ∧ s.heel = false ∧ s.bme (s.fnOf p) = true ∧ (s.dbPlace p 0).2.2 = 0x40 + 16 * top ∧ 0x40 + 16 * top ≤ data.length ∧ (let n (o : Nat) : Nat := leNat (((data.take (0x40 + 16 * top)).drop o).take 4); let v := (({ s with dbFails := SMap.del s.dbFails p }).sampleMgmt p (n 0) (n 4)).each (List.range top) (fun v r => v.sampleRing p r (n (0x40 + 16 * r)) (n (0x44 + 16 * r))); (((List.range 64).map (fun k => (SMap.get 0 v.lead p + k) % 64)).find? (fun r => v.rState p r == 1)) = some first ∧ t = (({ v with lead := SMap.put 0 v.lead p (first + 1) }).setWindow p 0 2).advance p 0) ∧ t.ask = []) ∧
    (∃ (p : Nat) (data : List Byte) (s : State), p < 64 ∧ s.window p 0 = 1 ∧ s.rdB R.WRK_DB_LO_LOC 0 [p] = false ∧ s.heel = false ∧ s.bme (s.fnOf p) = true ∧ (∀ r < 64, s.rState p r = 0) ∧ s.rdB R.WRK_MGMT_CFG_ENABLE 0 [p] = false ∧ data.length = 0x40 ∧ (((({ s with dbFails := SMap.del s.dbFails p, lead := SMap.put 0 s.lead p (SMap.get 0 s.lead p) }).setWindow p 0 2).closeWindow p 0).ask = [])) ∧
    (∃ (p : Nat) (q : Nat) (s : State), p < 64 ∧ q < 17 ∧ s.window p q = 1) ∧
    (∃ (p : Nat) (q : Nat) (s : State), p < 64 ∧ q < 17 ∧ s.window p q = 2) ∧
    (∃ (p : Nat) (r : Nat) (d : Desc) (data : List Byte) (s : State), p < 64 ∧ r < 64 ∧ s.rLoc p r = false ∧ s.heel = false ∧ s.bme (s.fnOf p) = true ∧ s.ask = [] ∧ s.descs.filter (fun e => e.part == p && e.ring == r && !e.read?) = [d] ∧ data.length = 128) ∧
    (∃ (p : Nat) (r : Nat) (tail : Nat) (cplHead : Nat) (s : State), p < 64 ∧ r < 64 ∧ s.rState p r = 1 ∧ s.rSize p r < sub32 tail (s.rHead p r)) ∧
    (∃ (p : Nat) (r : Nat) (tail : Nat) (cplHead : Nat) (s : State), p < 64 ∧ r < 64 ∧ s.rState p r = 1 ∧ sub32 tail (s.rHead p r) ≤ s.rSize p r ∧ s.rSize p r < sub32 (s.rDone p r) cplHead) :=
  ⟨⟨63, (zeros 64), ({ s0.wr R.PCI_FN_STATE_BME 0 [0] 1 with windows := [(winKey 63 0, 1)] }), by decide +kernel⟩,
   ⟨63, 1, 0, (zeros 80), dbs, _, ⟨by decide +kernel ,by decide +kernel ,by decide +kernel ,by decide +kernel ,by decide +kernel ,by decide +kernel ,by decide +kernel, ⟨by decide +kernel, rfl⟩, by decide +kernel⟩⟩,
   ⟨63, (zeros 64), ({ s0.wr R.PCI_FN_STATE_BME 0 [0] 1 with windows := [(winKey 63 0, 1)] }), by decide +kernel⟩,
   ⟨63, 16, ({ s0 with windows := [(winKey 63 16, 1)] }), by decide +kernel⟩,
   ⟨63, 16, ({ s0 with windows := [(winKey 63 16, 2)] }), by decide +kernel⟩,
   ⟨63, 63, ({ zDesc with part := 63, ring := 63, count := 2 }), (zeros 128), ({ s0.wr R.PCI_FN_STATE_BME 0 [0] 1 with descs := [{ zDesc with part := 63, ring := 63, count := 2 }, { zDesc with part := 63, ring := 62, count := 2 }] }), by decide +kernel⟩,
   ⟨63, 63, 66, 0, (put (s0.setRing 63 63 1 1) [(R.WRK_RING_CFG_SIZE_LOG2, 0, [63, 63], 6), (R.WRK_RING_LIMIT_FETCH_MAX, 0, [63, 63], 64)]), by decide +kernel⟩,
   ⟨63, 63, 64, 65536, (put (s0.setRing 63 63 1 1) [(R.WRK_RING_CFG_SIZE_LOG2, 0, [63, 63], 6), (R.WRK_RING_LIMIT_FETCH_MAX, 0, [63, 63], 64)]), by decide +kernel⟩⟩

theorem test_hyps_FetchCommandsComplete_2 : (∃ (p : Nat) (r : Nat) (tail : Nat) (cplHead : Nat) (s : State), p < 64 ∧ r < 64 ∧ s.rState p r = 1 ∧ sub32 tail (s.rHead p r) ≤ s.rSize p r ∧ sub32 (s.rDone p r) cplHead ≤ s.rSize p r ∧ s.rFlight p r ≤ 64 ∧ s.rd R.WRK_RING_LIMIT_FETCH_MAX 0 [p, r] ≤ 64) :=
  ⟨63, 63, 64, 0, (put (s0.setRing 63 63 1 1) [(R.WRK_RING_CFG_SIZE_LOG2, 0, [63, 63], 6), (R.WRK_RING_LIMIT_FETCH_MAX, 0, [63, 63], 64)]), by decide +kernel⟩

theorem test_hyps_UnitEndsComplete :
    (∃ (uid : Nat) (dt : Nat) (s : State) (w : WUnit), s.unit? uid = some w ∧ w.done = true ∧ w.atLimit = false ∧ s.writesOut uid = false) ∧
    (∃ (p : Nat) (r : Nat) (c : Cpl) (s : State), p < 64 ∧ r < 64 ∧ s.rLoc p r = false ∧ c.irq = false ∧ s.rd R.WRK_RING_CFG_IRQ_ALL 0 [p, r] ≠ 1 ∧ s.rState p r = 1) ∧
    (∃ (uid : Nat) (s : State) (w : WUnit), s.unit? uid = some w ∧ w.hard = false ∧ 4 ≤ w.boundaries ∧ w.ending = none) :=
  ⟨⟨1, 0, ({ s0 with units := [{ aUnit with done := true, boundaries := 1 }] }), ({ aUnit with done := true, boundaries := 1 }), by decide +kernel⟩,
   ⟨63, 63, (⟨0, 0, false, false, 0, 0, 0, 0, 0, 0, 0, 0⟩), (s0.setRing 63 63 1 1), by decide +kernel⟩,
   ⟨1, ({ s0 with units := [aUnit] }), aUnit, by decide +kernel⟩⟩

theorem test_hyps_RingControlsComplete :
    (∃ (p : Nat) (r : Nat) (v : Nat) (s : State), p < 64 ∧ r < 64 ∧ v < 2 ^ 32 ∧ bit v 31 = true ∧ s.rState p r = 0 ∧ s.rd R.PAR_CTX_CFG_STATE 0 [p, bits v 24 4] = 1 ∧ 6 ≤ bits v 16 5 ∧ bits v 16 5 ≤ 16) ∧
    (∃ (p : Nat) (r : Nat) (v : Nat) (s : State), p < 64 ∧ r < 64 ∧ v < 2 ^ 32 ∧ bit v 31 = true ∧ s.rState p r = 0 ∧ (s.rd R.PAR_CTX_CFG_STATE 0 [p, bits v 24 4] = 0 ∨ s.rd R.PAR_CTX_CFG_STATE 0 [p, bits v 24 4] = 3)) ∧
    (∃ (p : Nat) (r : Nat) (s : State), p < 64 ∧ r < 64 ∧ s.rState p r = 1 ∧ (∀ d ∈ s.descs, ¬(d.part = p ∧ d.ring = r)) ∧ s.rFlight p r = 0) ∧
    (∃ (p : Nat) (r : Nat) (s : State), p < 64 ∧ r < 64 ∧ s.rState p r = 1 ∧ (∀ d ∈ s.descs, ¬(d.part = p ∧ d.ring = r)) ∧ s.rFlight p r ≠ 0) ∧
    (∃ (p : Nat) (r : Nat) (s : State), p < 64 ∧ r < 64 ∧ (s.rState p r = 3 ∨ s.rState p r = 4) ∧ s.rFlight p r = 0) ∧
    (∃ (p : Nat) (v : Nat) (s : State), p < 64 ∧ v < 2 ^ 32 ∧ bit v 31 = true ∧ s.rdB R.WRK_MGMT_CFG_ENABLE 0 [p] = false ∧ 6 ≤ bits v 16 5 ∧ bits v 16 5 ≤ 12) :=
  ⟨⟨63, 63, 0x8F100000, (s0.wr R.PAR_CTX_CFG_STATE 0 [63, 15] 1), by decide +kernel⟩,
   ⟨63, 63, 0x8F100000, s0, by decide +kernel⟩,
   ⟨63, 63, (s0.setRing 63 63 1 1), by decide +kernel⟩,
   ⟨63, 63, ((s0.setRing 63 63 1 1).addFlight 63 63 1), by decide +kernel⟩,
   ⟨63, 63, (s0.setRing 63 63 4 7), by decide +kernel⟩,
   ⟨63, 0x800C0000, s0, by decide +kernel⟩⟩

theorem test_hyps_ManagementCommandsComplete_1 :
    (∃ (p : Nat) (at_ : Nat) (host : List Byte) (h : List Byte) (d : List Byte) (r : MemRes) (m : Mgmt) (s : State) (s1 : State) (s2 : State) (s3 : State), MgmtReady s p 1 m (m.unusedSet false true true 0 0x14) ∧ 256 ≤ m.len ∧ m.len ≤ 2 ^ 28 ∧ s.virtReadH (s.packVirt p m.ctx) m.addr 256 host = (.ok h, s1) ∧ imgNat h 8 4 = m.len ∧ s1.virtReadH (s.packVirt p m.ctx) m.addr m.len host = (.ok d, s2) ∧ (∀ k, 1 ≤ k → k ≤ 8 → imgReason d m.len k = false) ∧ s2.storeRoom p m.len = some at_ ∧ (s2.images.filter (fun i => i.part == p && i.live)).length < 1024 ∧ m.part = p ∧ s2.physWrite (Agent.mgmt p (s.packVirt p m.ctx).die) at_ d = (r, s3) ∧ r.good = true ∧ (let t := ({ s3.useFree 1 with images := s3.images ++ [(⟨p, m.ctx, s3.newHandle p, at_, d, (d.drop 0x40).take 64, true⟩ : Image)] } : State).mgmtAnswer m 0 (s3.newHandle p) 0; t.ask = [])) ∧
    (∃ (p : Nat) (m : Mgmt) (i : Image) (s : State), MgmtReady s p 2 m (m.unusedSet true false false 16 0x14) ∧ s.image? p m.ctx (m.nat 2 2) = some i ∧ ((({ s with images := s.images.map (fun (x : Image) => if x == i then { x with live := false } else x) }.dropImages).mgmtAnswer m 0 0 0).ask = [])) ∧
    (∃ (p : Nat) (m : Mgmt) (s : State), MgmtReady s p 3 m (m.unusedSet false false false 0 0x14) ∧ s.rd R.PAR_CTX_CFG_STATE 0 [p, m.ctx] = 1 ∧ s.ask = []) ∧
    (∃ (p : Nat) (m : Mgmt) (s : State), MgmtReady s p 4 m (m.unusedSet false false false 0 0x14) ∧ s.rd R.PAR_CTX_CFG_STATE 0 [p, m.ctx] = 2 ∧ s.ask = []) ∧
    (∃ (p : Nat) (m : Mgmt) (s : State), MgmtReady s p 0x20 m (m.unusedSet false true true 0 0x14) ∧ m.addr % 4096 = 0 ∧ (((s.mgmtStage m 1).invalidate p m.ctx (if m.len = 0 then 0 else m.addr) (if m.len = 0 then wholeSpace else m.len * 4096) (.mgmt p m.entry 0)).ask = [])) ∧
    (∃ (p : Nat) (m : Mgmt) (s : State), p < 64 ∧ s.mgmtHead? p = some m ∧ s.packFor p = 0 ∧ m.age < 64 ∧ mgmtKnown m.code = false ∧ (s.mgmtAnswer m 9 0 1).ask = []) ∧
    (∃ (p : Nat) (m : Mgmt) (s : State), p < 64 ∧ s.mgmts.find? (fun m => m.part == p && m.stage == 0 && m.answer.isNone) = some m ∧ s.pack ≠ 1 ∧ 64 ≤ m.age) ∧
    (∃ (p : Nat) (m : Mgmt) (s : State), p < 64 ∧ s.mgmtHead? p = some m ∧ s.packFor p = 0 ∧ m.age < 64 ∧ m.code = 3 ∧ m.unusedSet false false false 0 0x14 = true) :=
  ⟨⟨0, ((2 ^ 26)), goodImage, (goodImage.take 256), goodImage, (.ok []), regCmd, regOn, _, _, _, ⟨by unfold MgmtReady; decide +kernel, by decide +kernel, by decide +kernel, fst_eq (by decide +kernel), by decide +kernel, fst_eq (by decide +kernel), fun k h1 h2 => (show ∀ k < 9, 1 ≤ k → imgReason goodImage 512 k = false from by decide +kernel) k (by omega) h1, by decide +kernel, by decide +kernel, by decide +kernel, fst_eq (by decide +kernel), by decide +kernel, by decide +kernel⟩⟩,
   ⟨0, (mgmtOf 2 [5]), ({ anImage with ctx := 1 }), ({ mgmtOn (mgmtOf 2 [5]) 1 with images := [{ anImage with ctx := 1 }] }), by unfold MgmtReady; and_intros <;> decide +kernel⟩,
   ⟨0, (mgmtOf 3 []), (mgmtOn (mgmtOf 3 []) 1), by unfold MgmtReady; and_intros <;> decide +kernel⟩,
   ⟨0, (mgmtOf 4 []), (mgmtOn (mgmtOf 4 []) 2), by unfold MgmtReady; and_intros <;> decide +kernel⟩,
   ⟨0, (mgmtOf 0x20 []), (mgmtOn (mgmtOf 0x20 []) 2), by unfold MgmtReady; and_intros <;> decide +kernel⟩,
   ⟨0, (mgmtOf 0xFF []), (mgmtOn (mgmtOf 0xFF []) 2), by decide +kernel⟩,
   ⟨0, ({ mgmtOf 1 [] with age := 64 }), (mgmtOn { mgmtOf 1 [] with age := 64 } 1), by decide +kernel⟩,
   ⟨0, (mgmtOf 3 [1]), (mgmtOn (mgmtOf 3 [1]) 1), by decide +kernel⟩⟩

theorem test_hyps_ManagementCommandsComplete_2 :
    (∃ (p : Nat) (m : Mgmt) (s : State), p < 64 ∧ s.mgmtHead? p = some m ∧ s.packFor p = 0 ∧ m.age < 64 ∧ m.code = 4 ∧ m.unusedSet false false false 0 0x14 = false ∧ s.ctxLive p m.ctx = false) ∧
    (∃ (p : Nat) (m : Mgmt) (s : State), p < 64 ∧ s.mgmtHead? p = some m ∧ s.packFor p = 2) ∧
    (∃ (p : Nat) (m : Mgmt) (s : State) (host : List Byte), p < 64 ∧ s.mgmtHead? p = some m ∧ s.packFor p = 0 ∧ 64 ≤ m.age ∧ m.code = 1) ∧
    (∃ (p : Nat) (m : Mgmt) (s : State) (y : Mgmt) (st : Nat) (d0 : Nat) (d1 : Nat), s.mgmts.find? (fun (x : Mgmt) => x.part == p) = some m ∧ m.part = p ∧ m.answer = none ∧ y.part = p ∧ y.entry ≠ m.entry) :=
  ⟨⟨0, (mgmtOf 4 []), (mgmtOn (mgmtOf 4 []) 3), by decide +kernel⟩,
   ⟨0, (mgmtOf 0x20 []), ((mgmtOn (mgmtOf 0x20 []) 1).wr R.ERR_WDT_PACK_STATE 0 [] 2), by decide +kernel⟩,
   ⟨0, ({ mgmtOf 1 [] with age := 64 }), (mgmtOn { mgmtOf 1 [] with age := 64 } 1), [], by decide +kernel⟩,
   ⟨0, (mgmtOf 1 []), ((mgmtOn (mgmtOf 1 []) 1).wr R.TCK_NUMBER 0 [] 64), zMgmt, 0, 0, 0, by decide +kernel⟩⟩

theorem test_hyps_RetrieverCommandsComplete :
    (∃ (p : Nat) (r : Nat) (dt : Nat) (host : List Byte) (d : Desc) (s : State), p < 64 ∧ r < 64 ∧ HeadTurn s p r 2 d ∧ d.opOk = true ∧ (s.at_ dt).badReason d = none) ∧
    (∃ (uid : Nat) (u : WUnit) (f : RtrOp) (s : State) (t : State) (e : Option Ending) (w : Bool) (die : Nat) (s1 : State), s.unit? uid = some u ∧ s.rtrDie u.descr uid = (die, s1) ∧ f u.descr s1 uid ⟨die, u.part, u.ctx, 9728 + die, bit (u.descr.nat 0x11 1) 0, uid, 0⟩ = (t, e, w) ∧ t.ask = []) ∧
    (∃ (p : Nat) (r : Nat) (dt : Nat) (host : List Byte) (u : WUnit) (s : State), p < 64 ∧ r < 64 ∧ s.headDesc p r = none ∧ s.rtrWaiting p r 1 = some u) ∧
    (∃ (p : Nat) (r : Nat) (dt : Nat) (d : Desc) (s : State), p < 64 ∧ r < 64 ∧ HeadTurn s p r 2 d ∧ d.opOk = false ∧ (s.at_ dt).badReason d = none) ∧
    (∃ (s : State) (s1 : State) (e : Option Ending) (a : Virt) (src : Nat) (dst : Nat) (n : Nat) (host : List Byte), (dst ≤ src ∨ src + 64 * (n + 1) ≤ dst) ∧ s.copyStep a src dst host 0 false = (s1, e) ∧ e.isSome = true) ∧
    (∃ (s : State) (s1 : State) (e : Option Ending) (a : Virt) (src : Nat) (dst : Nat) (n : Nat) (host : List Byte), src < dst ∧ dst < src + 64 * (n + 1) ∧ s.copyStep a src dst host n true = (s1, e) ∧ e.isSome = true) :=
  ⟨⟨0, 63, 0, [], (descOf 63 (warmBytes 15)), (ringOf 63 (warmBytes 15)), by unfold HeadTurn; and_intros <;> decide +kernel⟩,
   ⟨1, aUnit, ((fun _ s _ _ => (s, none, false))), ({ s0 with units := [aUnit] }), _, _, _, _, _, ⟨by decide +kernel, rfl, rfl, by decide +kernel⟩⟩,
   ⟨0, 63, 0, [], (({ aUnit with kind := .retriever, ring := 63, desc := [2, 0, 0, 0] ++ zeros 12 ++ [1] ++ zeros 111 })), ({ s0 with units := [({ aUnit with kind := .retriever, ring := 63, desc := [2, 0, 0, 0] ++ zeros 12 ++ [1] ++ zeros 111 })] }), by decide +kernel⟩,
   ⟨0, 63, 0, (descOf 63 (warmBytes 16)), (ringOf 63 (warmBytes 16)), by unfold HeadTurn; and_intros <;> decide +kernel⟩,
   ⟨s0, ((State.copyStep s0 { zVirt with sid := 9728 } 64 64 [] 0 false).1), ((State.copyStep s0 { zVirt with sid := 9728 } 64 64 [] 0 false).2), ({ zVirt with sid := 9728 }), 64, 64, 2, [], ⟨by decide +kernel, rfl, by decide +kernel⟩⟩,
   ⟨s0, ((State.copyStep s0 { zVirt with sid := 9728 } 64 128 [] 2 true).1), ((State.copyStep s0 { zVirt with sid := 9728 } 64 128 [] 2 true).2), ({ zVirt with sid := 9728 }), 64, 128, 2, [], ⟨by decide +kernel, by decide +kernel, rfl, by decide +kernel⟩⟩⟩

theorem test_hyps_TickBoundaryCompletes :
    (∃ (t : Nat) (s : State), s.boot.mainOff = false ∧ s.nextBoundary = some t) ∧
    (∃ (t : Nat) (s : State), s.tck.masterNumber = none ∧ s.rdB R.TCK_NEXT_PENDING 0 = false) ∧
    (∃ (s : State), s.source ≠ 3 ∧ s.tck.edgeAt = none) ∧
    (∃ (s : State), s.source = 3 ∧ s.tckState ≠ 4) :=
  ⟨⟨s0.expected, s0, by decide +kernel⟩,
   ⟨0, s0, by decide +kernel⟩,
   ⟨s0, by decide +kernel⟩,
   ⟨(s0.wr R.TCK_CTRL_SOURCE 0 [] 3), by decide +kernel⟩⟩

theorem test_hyps_TickSourcesComplete_1 :
    (∃ (dt : Nat) (s : State), s.source = 3 ∧ s.tck.edgeAt = none ∧ s.tckState ≠ 4 ∧ s.expected ≤ s.rd R.TCK_TOD 0 + dt + 1000 ∧ s.rd R.TCK_TOD 0 + dt ≤ s.expected + 1000) ∧
    (∃ (s : State), s.source = 3 ∧ s.tck.edgeAt = none ∧ s.tckState ≠ 4 ∧ s.tck.edgeMiss < 7) ∧
    (∃ (s : State), 2 ≤ s.source ∧ s.sbrUp = true) ∧
    (∃ (src : Nat) (seq : Nat) (tickNo : Nat) (tod : Nat) (correction : Nat) (period : Nat) (nextAt : Nat) (residence : Nat) (k : Nat) (ps : Nat) (s : State), src < 256 ∧ tickNo < 2 ^ 64 ∧ tod < 2 ^ 64 ∧ correction < 2 ^ 64 ∧ period < 256 ∧ nextAt < 2 ^ 64 ∧ s.sbrUp = true ∧ src ≠ s.sbrPos ∧ s.source = 1 ∧ s.tckState = 1 ∧ s.rd R.TCK_HOP_DELAY 0 = 0) ∧
    (∃ (m : SyncMsg) (ps : Nat) (s : State), s.tckState ≠ 2 ∧ m.offset.natAbs ≤ 20000 ∧ s.tck.masterPos = some m.src ∧ m.period = 0 ∧ s.rdB R.TCK_NEXT_PENDING 0 = false ∧ s.tck.syncGood < 15) ∧
    (∃ (m : SyncMsg) (ps : Nat) (s : State), s.tckState ≠ 2 ∧ m.offset.natAbs ≤ 20000 ∧ s.tck.masterPos = some m.src ∧ m.period = 0 ∧ s.rdB R.TCK_NEXT_PENDING 0 = false ∧ 15 ≤ s.tck.syncGood) ∧
    (∃ (m : SyncMsg) (ps : Nat) (s : State), m.period = 0 ∧ s.rdB R.TCK_NEXT_PENDING 0 = false ∧ (s.tckState = 2 ∨ m.offset.natAbs ≤ 1000000)) ∧
    (∃ (m : SyncMsg) (ps : Nat) (s : State), m.period = 0 ∧ s.rdB R.TCK_NEXT_PENDING 0 = false ∧ s.tckState ≠ 2 ∧ 1000000 < m.offset.natAbs) :=
  ⟨⟨(s0.period + 1000), (s0.wr R.TCK_CTRL_SOURCE 0 [] 3), by decide +kernel⟩,
   ⟨(s0.wr R.TCK_CTRL_SOURCE 0 [] 3), by decide +kernel⟩,
   ⟨(put s0 [(R.TCK_CTRL_SOURCE, 0, [], 2), (R.SBR_STATUS_STATE, 0, [], 2)]), by decide +kernel⟩,
   ⟨255, 0, 0, 0, 0, 0, 0, 0, 0, 0, (put s0 [(R.TCK_CTRL_SOURCE, 0, [], 1), (R.SBR_STATUS_STATE, 0, [], 2), (R.TCK_STATUS_STATE, 0, [], 1)]), by decide +kernel⟩,
   ⟨(⟨7, 1, 0, 0, 0, 20000⟩), 0, ({ s0 with tck := { s0.tck with masterPos := some 7, syncGood := 14 } }), by decide +kernel⟩,
   ⟨(⟨7, 1, 0, 0, 0, 20000⟩), 0, ({ s0 with tck := { s0.tck with masterPos := some 7, syncGood := 15 } }), by decide +kernel⟩,
   ⟨(⟨7, 1, 0, 0, 0, -1000000⟩), 0, ({ s0 with tck := { s0.tck with masterPos := some 7, syncGood := 14 } }), by decide +kernel⟩,
   ⟨(⟨7, 1, 0, 0, 0, -1000001⟩), 0, ({ s0 with tck := { s0.tck with masterPos := some 7, syncGood := 14 } }), by decide +kernel⟩⟩

theorem test_hyps_TickSourcesComplete_2 :
    (∃ (dt : Nat) (s : State), s.source = 1 ∧ s.tckState = 2 ∧ s.tck.syncAt + max 1000000 (2 * s.period) ≤ (s.at_ dt).now) ∧
    (∃ (s : State), s.source = 1 ∧ s.tckState = 3 ∧ 64 ≤ s.tck.holdTicks) ∧
    (∃ (low : Nat) (s : State), low < 2 ^ 32 ∧ s.source ≠ 1 ∧ s.rdB R.TCK_NEXT_PENDING 0 = false ∧ s.rd R.TCK_NEXT_NEXT_PERIOD 0 ≠ 0 ∧ s.tick + 64 ≤ s.rd R.TCK_NEXT_AT 0 / 2 ^ 32 * 2 ^ 32 + low ∧ s.rd R.TCK_NEXT_AT 0 < 2 ^ 64) ∧
    (∃ (low : Nat) (s : State), low < 2 ^ 32 ∧ s.rd R.TCK_NEXT_AT 0 / 2 ^ 32 * 2 ^ 32 + low < s.tick + 64 ∧ s.rdB R.TCK_CFG_ERR_CFG_ERR 0 = false) ∧
    (∃ (s : State), s.source ≠ 1) :=
  ⟨⟨(2 * s0.period + 1000000), (put s0 [(R.TCK_CTRL_SOURCE, 0, [], 1), (R.TCK_STATUS_STATE, 0, [], 2)]), by decide +kernel⟩,
   ⟨({ put s0 [(R.TCK_CTRL_SOURCE, 0, [], 1), (R.TCK_STATUS_STATE, 0, [], 3)] with tck := { s0.tck with holdTicks := 64 } }), by decide +kernel⟩,
   ⟨64, (s0.wr R.TCK_NEXT_NEXT_PERIOD 0 [] 20), by decide +kernel⟩,
   ⟨63, s0, by decide +kernel⟩,
   ⟨s0, by decide +kernel⟩⟩

theorem test_hyps_ClearStatsClearsCounters :
    (∃ (c : Instr) (d : Nat) (k : Option Nat) (l : List Fld) (s : State), clearRow c = some (d, k, l) ∧ c.wf = true) ∧
    (∃ (d : _) (x : Instr × Nat × List Fld) (s : State), d < 4 ∧ x ∈ ([ (.shdClearStats, 0, [R.SHD_ADMITTED, R.SHD_DB_LATE, R.SHD_DESC_LATE, R.SHD_WINDOW_WINDOW_MAX]), (.tckClearStats, 0, [R.TCK_MISSED]), (.stcClearStats d, d, [R.STC_HITS, R.STC_MISSES, R.STC_WRITEBACKS, R.STC_BYPASS, R.STC_SECTOR_ERR]), (.memClearStats d, d, [R.MEM_STACK_REPAIRS, R.MEM_PORT_CE, R.MEM_PORT_UE, R.MEM_PORT_SECTORS]), (.lshClearStats d, d, [R.LSH_M_GUAR, R.LSH_M_BE, R.LSH_PORT_UNITS, R.LSH_PORT_LATE]), (.xltClearStats d, d, [R.XLT_DTLB_HITS, R.XLT_DTLB_MISSES, R.XLT_WALK_READS, R.XLT_INVALS, R.XLT_CUT]), (.xltClearStats 0, 0, [R.XLT_ATS_REQS, R.XLT_PRI_REQS, R.XLT_PRI_LATE, R.XLT_ATS_INV]), (.fllClearStats d, d, [R.FLL_DISCARDS, R.FLL_CW_FLITS, R.FLL_CW_SLOTTED, R.FLL_CCW_FLITS, R.FLL_CCW_SLOTTED, R.FLL_M_SLOTTED, R.FLL_M_STALL]), (.cohClearStats d, d, [R.COH_DIR_EVICTS, R.COH_SNOOPS, R.COH_PUSH_ACK, R.COH_PUSH_DROP, R.COH_NOT_ISLAND, R.COH_LOST_OWNED]), (.knlClearStats, 0, [R.KNL_SENT, R.KNL_HELD]), (.sbrClearStats, 0, [R.SBR_FRAMES, R.SBR_CRC_ERR]), (.pciClearStats, 0, [R.PCI_LATE, R.PCI_DISCARDS, R.PCI_UNEXPECTED, R.PCI_BAR_ERR, R.PCI_RD_BYTES, R.PCI_WR_BYTES, R.PCI_VF_APT_FAULTS]), (.secClearStats, 0, [R.SEC_ATT_COUNT, R.SEC_ATT_BUSY, R.SEC_DEBUG_TICKS, R.SEC_PACK_DENIED]), (.bstClearStats d, d, [R.BST_SLICES, R.BST_SLICE_FAILS]), (.errClearStats d, d, [R.ERR_Q_STATUS_LOST, R.ERR_WDT_RESETS])] : List (Instr × Nat × List Fld))) ∧
    (∃ (b : Nat) (s : State), b < 8) ∧
    (∃ (d : Nat) (k : Nat) (s : State), d < 4 ∧ k < 2) :=
  ⟨⟨(.ddlClearStats 3 1), 3, (some 1), ([R.DDL_REPLAYS, R.DDL_CRC_ERR, R.DDL_REPAIRS]), s0, by decide +kernel⟩,
   ⟨3, ((.tckClearStats, 0, [R.TCK_MISSED])), s0, ⟨by decide, by simp⟩⟩,
   ⟨0, s0, by decide +kernel⟩,
   ⟨0, 0, s0, by decide +kernel⟩⟩

theorem test_hyps_RequestCommandsComplete :
    (∃ (x : (Arrival → Nat → List Ecc → Instr) × ReqOp) (rid : Nat) (dt : Nat) (ecc : List Ecc) (r : Req) (s : State), (x ∈ ([(Instr.rdCur, ReqOp.rdCur), (Instr.rdShared, ReqOp.rdShared), (Instr.rdOwn, ReqOp.rdOwn), (Instr.upgrade, ReqOp.upgrade), (Instr.wbDirty, ReqOp.wbDirty), (Instr.evictClean, ReqOp.evictClean), (Instr.wrInv, ReqOp.wrInv), (Instr.wrPlace, ReqOp.wrPlace), (Instr.atomic, ReqOp.atomic)] : List ((Arrival → Nat → List Ecc → Instr) × ReqOp))) ∧ s.req? rid = some r ∧ r.stage = .sent ∧ r.op = x.2 ∧ s.overtakes r = false) ∧
    (∃ (x : (Arrival → Nat → List Ecc → Instr) × ReqOp) (b : Nat) (k : Nat) (word : Nat) (dt : Nat) (stream : List Nat) (items : List (Nat × Nat)) (ecc : List Ecc) (s : State), (x ∈ ([(Instr.rdCur, ReqOp.rdCur), (Instr.rdShared, ReqOp.rdShared), (Instr.rdOwn, ReqOp.rdOwn), (Instr.upgrade, ReqOp.upgrade), (Instr.wbDirty, ReqOp.wbDirty), (Instr.evictClean, ReqOp.evictClean), (Instr.wrInv, ReqOp.wrInv), (Instr.wrPlace, ReqOp.wrPlace), (Instr.atomic, ReqOp.atomic)] : List ((Arrival → Nat → List Ecc → Instr) × ReqOp))) ∧ b < 8 ∧ s.bayLive b = true ∧ bayItems stream.length stream = some items ∧ items.find? (fun y => y.1 == 0xA0) = some (k, word) ∧ (reqFlit word).opcode = x.2.code ∧ nodeOf (reqFlit word).dest ≠ .reserved ∧ nodeOf (reqFlit word).src ≠ .reserved ∧ (¬(s.bayRd R.BAY_STATUS_PROTO b = 1 ∧ (x.2 = .wrPlace ∨ x.2 = .atomic)))) ∧
    (∃ (x : (Arrival → Nat → List Ecc → Instr) × ReqOp) (b : Nat) (k : Nat) (word : Nat) (dt : Nat) (stream : List Nat) (items : List (Nat × Nat)) (ecc : List Ecc) (s : State), (x ∈ ([(Instr.rdCur, ReqOp.rdCur), (Instr.rdShared, ReqOp.rdShared), (Instr.rdOwn, ReqOp.rdOwn), (Instr.upgrade, ReqOp.upgrade), (Instr.wbDirty, ReqOp.wbDirty), (Instr.evictClean, ReqOp.evictClean), (Instr.wrInv, ReqOp.wrInv), (Instr.wrPlace, ReqOp.wrPlace), (Instr.atomic, ReqOp.atomic)] : List ((Arrival → Nat → List Ecc → Instr) × ReqOp))) ∧ b < 8 ∧ s.bayLive b = true ∧ bayItems stream.length stream = some items ∧ items.find? (fun y => y.1 == 0xA0) = some (k, word) ∧ (nodeOf (reqFlit word).dest = .reserved ∨ nodeOf (reqFlit word).src = .reserved ∨ opcodeDefined (reqFlit word).opcode = false ∨ (s.bayRd R.BAY_STATUS_PROTO b = 1 ∧ ((reqFlit word).opcode = ReqOp.code .wrPlace ∨ (reqFlit word).opcode = ReqOp.code .atomic)))) ∧
    (∃ (x : (Arrival → Nat → List Ecc → Instr) × ReqOp) (b : Nat) (dt : Nat) (stream : List Nat) (ecc : List Ecc) (s : State), (x ∈ ([(Instr.rdCur, ReqOp.rdCur), (Instr.rdShared, ReqOp.rdShared), (Instr.rdOwn, ReqOp.rdOwn), (Instr.upgrade, ReqOp.upgrade), (Instr.wbDirty, ReqOp.wbDirty), (Instr.evictClean, ReqOp.evictClean), (Instr.wrInv, ReqOp.wrInv), (Instr.wrPlace, ReqOp.wrPlace), (Instr.atomic, ReqOp.atomic)] : List ((Arrival → Nat → List Ecc → Instr) × ReqOp))) ∧ s.bayLive b = false) :=
  ⟨⟨((Instr.rdCur, ReqOp.rdCur)), 1, 0, [], aReq, (withReq s0 aReq), ⟨by simp, by decide +kernel⟩⟩,
   ⟨((Instr.rdShared, ReqOp.rdShared)), 7, 0xA0, (({ rdFlit with opcode := 1 } : ReqFlit).word), 0, (0xA0 :: (leBytes 20 ({ rdFlit with opcode := 1 } : ReqFlit).word).map BitVec.toNat), ([(0xA0, ({ rdFlit with opcode := 1 } : ReqFlit).word)]), [], (bayRun 7), ⟨by simp, by decide +kernel⟩⟩,
   ⟨((Instr.rdShared, ReqOp.rdShared)), 7, 0xA0, (({ rdFlit with dest := 0x3FF } : ReqFlit).word), 0, (0xA0 :: (leBytes 20 ({ rdFlit with dest := 0x3FF } : ReqFlit).word).map BitVec.toNat), ([(0xA0, ({ rdFlit with dest := 0x3FF } : ReqFlit).word)]), [], (bayRun 7), ⟨by simp, by decide +kernel⟩⟩,
   ⟨((Instr.rdShared, ReqOp.rdShared)), 7, 0, [], [], s0, ⟨by simp, by decide +kernel⟩⟩⟩

theorem test_hyps_HomeTakesUp :
    (∃ (rid : Nat) (ecc : List Ecc) (r : Req) (s : State), s.req? rid = some r ∧ s.homeUp r.q = false ∧ r.op.writes = false) ∧
    (∃ (rid : Nat) (ecc : List Ecc) (r : Req) (s : State), s.req? rid = some r ∧ s.homeUp r.q = true ∧ r.roams = false ∧ s.island r.die ≠ s.island (qDie r.q)) ∧
    (∃ (rid : Nat) (ecc : List Ecc) (r : Req) (s : State), s.req? rid = some r ∧ s.homeUp r.q = true ∧ (r.roams = true ∨ s.island r.die = s.island (qDie r.q)) ∧ s.snoops = [] ∧ s.lineBusy r = true) ∧
    (∃ (rid : Nat) (ecc : List Ecc) (r : Req) (s : State), s.req? rid = some r ∧ s.homeUp r.q = true ∧ (r.roams = true ∨ s.island r.die = s.island (qDie r.q)) ∧ s.snoops = [] ∧ s.lineBusy r = false ∧ r.op = .rdCur) :=
  ⟨⟨1, [], aReq, (withReq s0 aReq), by decide +kernel⟩,
   ⟨1, [], ({ aReq with die := 3 }), (withReq (put up [(R.HUB_ISLAND_HD3_ISL, 0, [], 3), (R.HUB_ISLAND_HD0_ISL, 0, [], 0)]) { aReq with die := 3 }), by decide +kernel⟩,
   ⟨1, [], aReq, ({ up with reqs := [aReq, { aReq with rid := 9, stage := .port }] }), by decide +kernel⟩,
   ⟨1, [], aReq, (withReq up aReq), by decide +kernel⟩⟩

theorem test_hyps_DirectoryFollowsRequests :
    (∃ (r : Req) (s : State), (r.op = .rdOwn ∨ r.op = .upgrade)) ∧
    (∃ (r : Req) (s : State), r.op = .rdShared ∧ SMap.look s.dirs (r.dpa / 64) = none ∧ r.rsps = []) ∧
    (∃ (r : Req) (s : State) (e : DirEntry), r.op = .rdShared ∧ SMap.look s.dirs (r.dpa / 64) = some e ∧ e.owned = false) ∧
    (∃ (r : Req) (s : State) (l : _) (e : DirEntry), (∀ l e, SMap.look s.dirs l = some e → e.owned = true → e.bays.length = 1) ∧ SMap.look (s.dirAfter r).dirs l = some e ∧ e.owned = true) :=
  ⟨⟨({ aReq with op := .upgrade, owner := .bay 7 0 }), s0, by decide +kernel⟩,
   ⟨({ aReq with op := .rdShared, owner := .bay 7 0 }), s0, by decide +kernel⟩,
   ⟨({ aReq with op := .rdShared, owner := .bay 7 0 }), ({ s0 with dirs := [(0, ⟨false, [6], 0⟩)] }), (⟨false, [6], 0⟩), by decide +kernel⟩,
   ⟨({ aReq with op := .rdOwn, owner := .bay 7 0 }), s0, 0, (⟨true, [7], 0⟩), ⟨by intro l e h; exact absurd h (by simp [s0, State.reset, SMap.look]), by decide +kernel, by decide +kernel⟩⟩⟩

theorem test_hyps_SnoopAndAnswerCommandsComplete_1 :
    (∃ (tag : Nat) (holds : Nat) (accept : Bool) (data : List Byte) (n : Snoop) (s : State), s.snoops.find? (fun (n : Snoop) => n.tag == tag && n.answer.isNone) = some n ∧ (s.snoops.filter (fun (x : Snoop) => x.tag == tag) = [n]) ∧ s.bayLive n.bay = true ∧ n.bgen = s.bayRd R.BAY_STATUS_BGEN n.bay) ∧
    (∃ (x : (Nat → Nat → Instr) × Nat) (tag : Nat) (dt : Nat) (n : Snoop) (s : State), (x ∈ ([(Instr.rspI, 0), (Instr.rspS, 1), (Instr.rspData, 2)] : List ((Nat → Nat → Instr) × Nat))) ∧ s.snoops.find? (fun (n : Snoop) => n.tag == tag && n.answer == some x.2) = some n ∧ n.bgen = s.bayRd R.BAY_STATUS_BGEN n.bay) ∧
    (∃ (x : (Nat → Nat → Instr) × Nat) (tag : Nat) (dt : Nat) (n : Snoop) (s : State), (x ∈ ([(Instr.rspI, 0), (Instr.rspS, 1), (Instr.rspData, 2)] : List ((Nat → Nat → Instr) × Nat))) ∧ s.snoops.find? (fun (n : Snoop) => n.tag == tag && n.answer == some x.2) = some n ∧ n.bgen ≠ s.bayRd R.BAY_STATUS_BGEN n.bay) ∧
    (∃ (tag : Nat) (dt : Nat) (n : Snoop) (s : State) (q : Nat) (loc : Nat), s.snoops.find? (fun (n : Snoop) => n.tag == tag && n.answer == some 3) = some n ∧ n.bgen = s.bayRd R.BAY_STATUS_BGEN n.bay ∧ s.decode (n.line * 64) = some (q, loc)) ∧
    (∃ (tag : Nat) (dt : Nat) (n : Snoop) (s : State) (q : Nat) (loc : Nat), s.snoops.find? (fun (n : Snoop) => n.tag == tag && n.answer == some 4) = some n ∧ n.bgen = s.bayRd R.BAY_STATUS_BGEN n.bay ∧ s.decode (n.line * 64) = some (q, loc)) ∧
    (∃ (x : (Nat → Instr) × Nat) (rid : Nat) (r : Req) (s : State) (xid : Nat), (x ∈ ([(Instr.rdData, 0), (Instr.wrAck, 1), (Instr.grantE, 2), (Instr.grantS, 3), (Instr.grantUpg, 4), (Instr.wbAck, 5), (Instr.atomicData, 6)] : List ((Nat → Instr) × Nat))) ∧ s.reqs.find? (fun (r : Req) => r.rid == rid && r.stage == .answered && r.ans == x.2) = some r ∧ s.answeredBefore r = false ∧ r.gen = s.ownerGen r ∧ r.owner = .xfer xid) ∧
    (∃ (x : (Nat → Instr) × Nat) (rid : Nat) (r : Req) (s : State) (b : Nat) (tag : Nat), (x ∈ ([(Instr.rdData, 0), (Instr.wrAck, 1), (Instr.grantE, 2), (Instr.grantS, 3), (Instr.grantUpg, 4), (Instr.wbAck, 5), (Instr.atomicData, 6)] : List ((Nat → Instr) × Nat))) ∧ s.reqs.find? (fun (r : Req) => r.rid == rid && r.stage == .answered && r.ans == x.2) = some r ∧ s.answeredBefore r = false ∧ r.gen = s.ownerGen r ∧ r.owner = .bay b tag ∧ s.bayLive b = true) ∧
    (∃ (x : (Nat → Instr) × Nat) (rid : Nat) (r : Req) (s : State), (x ∈ ([(Instr.rdData, 0), (Instr.wrAck, 1), (Instr.grantE, 2), (Instr.grantS, 3), (Instr.grantUpg, 4), (Instr.wbAck, 5), (Instr.atomicData, 6)] : List ((Nat → Instr) × Nat))) ∧ s.reqs.find? (fun (r : Req) => r.rid == rid && r.stage == .answered && r.ans == x.2) = some r ∧ s.answeredBefore r = false ∧ r.gen = s.ownerGen r ∧ r.owner = .agent ∧ s.parked = []) :=
  ⟨⟨3, 0, false, [], ({ aSnoop with op := .inv }), ({ bayRun 7 with snoops := [{ aSnoop with op := .inv }] }), by decide +kernel⟩,
   ⟨((Instr.rspData, 2)), 3, 0, ({ aSnoop with answer := some 2 }), ({ bayRun 7 with snoops := [{ aSnoop with answer := some 2 }] }), ⟨by simp, by decide +kernel⟩⟩,
   ⟨((Instr.rspData, 2)), 3, 0, ({ aSnoop with answer := some 2, bgen := 9 }), ({ bayRun 7 with snoops := [{ aSnoop with answer := some 2, bgen := 9 }] }), ⟨by simp, by decide +kernel⟩⟩,
   ⟨3, 0, ({ aSnoop with op := .push, answer := some 3 }), ({ s0 with snoops := [{ aSnoop with op := .push, answer := some 3 }] }), ((s0.decode 1024).get!.1), ((s0.decode 1024).get!.2), by decide +kernel⟩,
   ⟨3, 0, ({ aSnoop with op := .push, answer := some 4 }), ({ s0 with snoops := [{ aSnoop with op := .push, answer := some 4 }] }), ((s0.decode 1024).get!.1), ((s0.decode 1024).get!.2), by decide +kernel⟩,
   ⟨((Instr.rdData, 0)), 1, ({ aReq with stage := .answered }), (withReq (s0) { aReq with stage := .answered }), 2, ⟨by simp, by decide +kernel⟩⟩,
   ⟨((Instr.grantE, 2)), 1, ({ aReq with stage := .answered, ans := 2, owner := .bay 7 4 }), (withReq (bayRun 7) { aReq with stage := .answered, ans := 2, owner := .bay 7 4 }), 7, 4, ⟨by simp, by decide +kernel⟩⟩,
   ⟨((Instr.wrAck, 1)), 1, ({ aReq with stage := .answered, ans := 1, owner := .agent }), (withReq (s0) { aReq with stage := .answered, ans := 1, owner := .agent }), ⟨by simp, by decide +kernel⟩⟩⟩

theorem test_hyps_SnoopAndAnswerCommandsComplete_2 :
    (∃ (x : (Nat → Instr) × Nat) (rid : Nat) (r : Req) (s : State) (b : PostBy), (x ∈ ([(Instr.rdData, 0), (Instr.wrAck, 1), (Instr.grantE, 2), (Instr.grantS, 3), (Instr.grantUpg, 4), (Instr.wbAck, 5), (Instr.atomicData, 6)] : List ((Nat → Instr) × Nat))) ∧ s.reqs.find? (fun (r : Req) => r.rid == rid && r.stage == .answered && r.ans == x.2) = some r ∧ s.answeredBefore r = false ∧ r.gen = s.ownerGen r ∧ r.owner = .post b ∧ r.status = 0) ∧
    (∃ (x : (Nat → Instr) × Nat) (rid : Nat) (r : Req) (s : State) (b : PostBy), (x ∈ ([(Instr.rdData, 0), (Instr.wrAck, 1), (Instr.grantE, 2), (Instr.grantS, 3), (Instr.grantUpg, 4), (Instr.wbAck, 5), (Instr.atomicData, 6)] : List ((Nat → Instr) × Nat))) ∧ s.reqs.find? (fun (r : Req) => r.rid == rid && r.stage == .answered && r.ans == x.2) = some r ∧ s.answeredBefore r = false ∧ r.gen = s.ownerGen r ∧ r.owner = .post b ∧ r.status ≠ 0) ∧
    (∃ (x : (Nat → Instr) × Nat) (rid : Nat) (r : Req) (s : State), (x ∈ ([(Instr.rdData, 0), (Instr.wrAck, 1), (Instr.grantE, 2), (Instr.grantS, 3), (Instr.grantUpg, 4), (Instr.wbAck, 5), (Instr.atomicData, 6)] : List ((Nat → Instr) × Nat))) ∧ s.reqs.find? (fun (r : Req) => r.rid == rid && r.stage == .answered && r.ans == x.2) = some r ∧ s.answeredBefore r = false ∧ r.gen ≠ s.ownerGen r ∧ r.die < 4 ∧ (∀ p, r.owner = .post (.zero p) → p < 64)) ∧
    (∃ (r : Req) (xid : Nat) (x : Xfer) (s : State), s.xfers.find? (fun (x : Xfer) => x.id == xid) = some x ∧ s.unitOfTile x.tile = some r.uid ∧ x.faulted = false ∧ r.status = 0 ∧ x.write = false ∧ x.space = .tm ∧ (∀ c ∈ (s.tile x.tile).cmds, ¬(c.seq = x.seq ∧ c.spoiled = true))) :=
  ⟨⟨((Instr.wrAck, 1)), 1, ({ aReq with stage := .answered, ans := 1, owner := .post (.zero 63) }), (withReq (s0) { aReq with stage := .answered, ans := 1, owner := .post (.zero 63) }), (.zero 63), ⟨by simp, by decide +kernel⟩⟩,
   ⟨((Instr.wrAck, 1)), 1, ({ aReq with stage := .answered, ans := 1, status := 1, owner := .post (.zero 63) }), (withReq (s0) { aReq with stage := .answered, ans := 1, status := 1, owner := .post (.zero 63) }), (.zero 63), ⟨by simp, by decide +kernel⟩⟩,
   ⟨((Instr.rdData, 0)), 1, ({ aReq with stage := .answered, gen := 9 }), (withReq (s0) { aReq with stage := .answered, gen := 9 }), ⟨by simp, by decide +kernel, by decide +kernel, by decide +kernel, by decide +kernel, by intro p h; cases h⟩⟩,
   ⟨aReq, 2, anXfer, (xferOn s0), by decide +kernel⟩⟩

theorem test_hyps_DramServesByKey :
    (∃ (q : Nat) (dt : Nat) (openIds : List Nat) (ecc : List Ecc) (r : Req) (s : State), q < 1024 ∧ (s.at_ dt).dramChoice q openIds = some r ∧ s.rd R.MEM_STACK_TEMP_BAND (qStack q / 4) [qStack q % 4] ≠ 4 ∧ s.homeUp q = true) ∧
    (∃ (q : Nat) (openIds : List Nat) (r : Req) (s : State) (x : Req), s.dramChoice q openIds = some r ∧ x ∈ s.dramWaiting q) ∧
    (∃ (q : Nat) (openIds : List Nat) (s : State), s.dramWaiting q ≠ []) :=
  ⟨⟨0, 0, [], [], ({ aReq with stage := .port }), (withReq up { aReq with stage := .port }), by decide +kernel⟩,
   ⟨0, [], ({ aReq with stage := .port }), (withReq up { aReq with stage := .port }), ({ aReq with stage := .port }), by decide +kernel⟩,
   ⟨0, [], (withReq up { aReq with stage := .port }), by decide +kernel⟩⟩

theorem test_hyps_StackCacheControlsComplete :
    (∃ (d : Nat) (s : State) (l : StcLine), d < 4 ∧ l ∈ (s.flushStc d).stcLines ∧ qDie l.q = d) ∧
    (∃ (d : Nat) (s : State) (l : StcLine), d < 4 ∧ l ∈ s.stcLines) ∧
    (∃ (d : Nat) (s : State), d < 4 ∧ s.rdB R.STC_CTRL_ENABLE d = true ∧ s.rd R.MEM_STATUS_STATE d ≠ 2) :=
  ⟨⟨3, ({ s0 with stcLines := [aLine] }), ({ aLine with dirty := 0 }), by decide +kernel⟩,
   ⟨3, ({ s0 with stcLines := [aLine] }), aLine, by decide +kernel⟩,
   ⟨3, (s0.wr R.STC_CTRL_ENABLE 3 [] 1), by decide +kernel⟩⟩

theorem test_hyps_ErrorCorrectionCompletes :
    (∃ (q : Nat) (loc : Nat) (e : Ecc) (s : State), eccResult e = .uncorrectable) ∧
    (∃ (q : Nat) (loc : Nat) (e : Ecc) (s : State), eccResult e = .clean) ∧
    (∃ (q : Nat) (sector : Nat) (dt : Nat) (e : Ecc) (s : State), q < 1024 ∧ sector < 768 * 2 ^ 15 ∧ s.dieRuns (qDie q) = true ∧ s.rd R.MEM_STATUS_STATE (qDie q) = 2 ∧ s.rd R.MEM_CTRL_SCRUB_HOURS (qDie q) ≠ 0 ∧ s.retired q = false ∧ s.rd R.MEM_STACK_TEMP_BAND (qDie q) [qStack q % 4] ≠ 4 ∧ (∀ r ∈ s.reqs, ¬(r.q = q ∧ r.stage = .port)) ∧ eccResult e = .clean ∧ SMap.get 0 s.ue (qAddr q (32 * sector) / 32) ≠ 1) ∧
    (∃ (q : Nat) (sector : Nat) (dt : Nat) (e : Ecc) (s : State), q < 1024 ∧ sector < 768 * 2 ^ 15 ∧ s.dieRuns (qDie q) = true ∧ s.rd R.MEM_STATUS_STATE (qDie q) = 2 ∧ s.rd R.MEM_CTRL_SCRUB_HOURS (qDie q) ≠ 0 ∧ s.retired q = false ∧ s.rd R.MEM_STACK_TEMP_BAND (qDie q) [qStack q % 4] ≠ 4 ∧ (∀ r ∈ s.reqs, ¬(r.q = q ∧ r.stage = .port)) ∧ eccResult e = .corrected ∧ SMap.get 0 s.ue (qAddr q (32 * sector) / 32) ≠ 1) ∧
    (∃ (q : Nat) (sector : Nat) (dt : Nat) (e : Ecc) (s : State) (dpa : _), q < 1024 ∧ sector < 768 * 2 ^ 15 ∧ s.dieRuns (qDie q) = true ∧ s.rd R.MEM_STATUS_STATE (qDie q) = 2 ∧ s.rd R.MEM_CTRL_SCRUB_HOURS (qDie q) ≠ 0 ∧ s.retired q = false ∧ s.rd R.MEM_STACK_TEMP_BAND (qDie q) [qStack q % 4] ≠ 4 ∧ (∀ r ∈ s.reqs, ¬(r.q = q ∧ r.stage = .port)) ∧ eccResult e = .uncorrectable ∧ s.encode q (32 * sector) = some dpa) :=
  ⟨⟨0, 0, (⟨0, 2, false⟩), s0, by decide +kernel⟩,
   ⟨0, 0, (⟨1, 0, false⟩), s0, by decide +kernel⟩,
   ⟨1023, (768 * 2 ^ 15 - 1), 0, (⟨0, 0, false⟩), (put up [(R.MEM_CTRL_SCRUB_HOURS, 3, [], 24)]), by decide +kernel⟩,
   ⟨0, 0, 0, (⟨0, 1, false⟩), (put up [(R.MEM_CTRL_SCRUB_HOURS, 0, [], 24)]), by decide +kernel⟩,
   ⟨0, 0, 0, (⟨0, 2, false⟩), (put up [(R.MEM_CTRL_SCRUB_HOURS, 0, [], 24)]), 0, by decide +kernel⟩⟩

theorem test_hyps_StackHealthCommandsComplete :
    (∃ (t : Nat) (old : Nat), old ≤ 4 ∧ nextBand t old < old) ∧
    (∃ (t : Nat) (old : Nat), old ≤ 4 ∧ bandEdge (old) < t + 2) ∧
    (∃ (st : Nat) (temp : Nat) (s : State), st < 16 ∧ temp < 256 ∧ s.dieRuns (st / 4) = true ∧ s.rd R.MEM_STATUS_STATE (st / 4) ≠ 0 ∧ s.rd R.MEM_STACK_TEMP_BAND (st / 4) [st % 4] ≤ 4 ∧ nextBand temp (s.rd R.MEM_STACK_TEMP_BAND (st / 4) [st % 4]) = s.rd R.MEM_STACK_TEMP_BAND (st / 4) [st % 4]) ∧
    (∃ (st : Nat) (temp : Nat) (s : State), st < 16 ∧ temp < 256 ∧ s.dieRuns (st / 4) = true ∧ s.rd R.MEM_STATUS_STATE (st / 4) ≠ 0 ∧ s.rd R.MEM_STACK_TEMP_BAND (st / 4) [st % 4] ≤ 4 ∧ nextBand temp (s.rd R.MEM_STACK_TEMP_BAND (st / 4) [st % 4]) ≠ s.rd R.MEM_STACK_TEMP_BAND (st / 4) [st % 4]) ∧
    (∃ (ch : Nat) (lanes : Nat) (half : Bool) (s : State), ch < 512 ∧ s.dieRuns (ch / 128) = true ∧ s.rd R.MEM_STATUS_STATE (ch / 128) = 2 ∧ bit (s.rd R.MEM_PORT_STATUS_UP (ch / 128) [ch / 4 % 32]) (ch % 4) = true ∧ bit (s.rd R.MEM_PORT_STATUS_HALF (ch / 128) [ch / 4 % 32]) (ch % 4) = false ∧ 0 < lanes ∧ lanes ≤ s.rd R.MEM_STACK_SPARES_LANES (ch / 128) [ch / 32 % 4]) ∧
    (∃ (ch : Nat) (lanes : Nat) (s : State), ch < 512 ∧ s.dieRuns (ch / 128) = true ∧ s.rd R.MEM_STATUS_STATE (ch / 128) = 2 ∧ bit (s.rd R.MEM_PORT_STATUS_UP (ch / 128) [ch / 4 % 32]) (ch % 4) = true ∧ bit (s.rd R.MEM_PORT_STATUS_HALF (ch / 128) [ch / 4 % 32]) (ch % 4) = true) ∧
    (∃ (p : Nat) (v : Nat) (s : State), p < 128 ∧ s.rd R.MEM_STATUS_STATE (p / 32) = 4 ∧ v < 2 ^ 32 ∧ bit v 31 = true ∧ p ∉ s.loopbacks) ∧
    (∃ (p : Nat) (n : Nat) (s : State), p < 128 ∧ p ∈ s.loopbacks) :=
  ⟨⟨83, 1, by decide +kernel⟩,
   ⟨84, 1, by decide +kernel⟩,
   ⟨15, 84, (put up [(R.MEM_STACK_TEMP_BAND, 3, [3], 1)]), by decide +kernel⟩,
   ⟨15, 96, (put up [(R.MEM_STACK_TEMP_BAND, 3, [3], 3)]), by decide +kernel⟩,
   ⟨511, 2, false, (put up [(R.MEM_PORT_STATUS_UP, 3, [31], 15), (R.MEM_STACK_SPARES_LANES, 3, [3], 2)]), by decide +kernel⟩,
   ⟨511, 0, (put up [(R.MEM_PORT_STATUS_UP, 3, [31], 15), (R.MEM_PORT_STATUS_HALF, 3, [31], 8)]), by decide +kernel⟩,
   ⟨127, 0x80000000, (put s0 [(R.MEM_STATUS_STATE, 3, [], 4)]), by decide +kernel⟩,
   ⟨127, 0, ({ s0 with loopbacks := [127] }), by decide +kernel⟩⟩

theorem test_hyps_LeashCommandsComplete_1 :
    (∃ (s : State) (d : Nat) (m : Nat) (c : Nat), d < 4 ∧ m < 137 ∧ c < 4) ∧
    (∃ (s : State), s.effDue = []) ∧
    (∃ (s : State) (t : Nat) (e : SMap Nat), s.effDue = [(t, e)] ∧ t + 1000 ≤ s.now) ∧
    (∃ (s : State) (t : Nat) (e : SMap Nat), s.effDue = [(t, e)] ∧ s.now < t + 1000) ∧
    (∃ (s : State) (r : Req), s.invals = [] ∧ s.heldAt r.die r.mport (r.dpa / 256) = true) ∧
    (∃ (s : State) (r : Req), s.invals = [] ∧ s.heldAt r.die r.mport (r.dpa / 256) = false ∧ s.fabricOk r.die r.mport (s.reqLinks r) r.flits = true ∧ s.covers r.die r.mport r.cls r.q r.units = true) ∧
    (∃ (s : State) (r : Req), s.invals = [] ∧ s.heldAt r.die r.mport (r.dpa / 256) = false ∧ s.fabricOk r.die r.mport (s.reqLinks r) r.flits = true ∧ s.covers r.die r.mport r.cls r.q r.units = false ∧ (s.strictPort r.die r.mport = true ∨ s.beOpen (qPort r.q) = false)) ∧
    (∃ (s : State) (r : Req), s.invals = [] ∧ s.heldAt r.die r.mport (r.dpa / 256) = false ∧ s.fabricOk r.die r.mport (s.reqLinks r) r.flits = true ∧ s.covers r.die r.mport r.cls r.q r.units = false ∧ s.strictPort r.die r.mport = false ∧ s.beOpen (qPort r.q) = true) :=
  ⟨⟨s0, 3, 136, 3, by decide +kernel⟩,
   ⟨s0, by decide +kernel⟩,
   ⟨({ s0 with effDue := [(5, [(1, 2)])], now := 1005 }), 5, ([(1, 2)]), by decide +kernel⟩,
   ⟨({ s0 with effDue := [(5, [(1, 2)])], now := 1004 }), 5, ([(1, 2)]), by decide +kernel⟩,
   ⟨(withReq s0 { aReq with stage := .held }), aReq, by decide +kernel⟩,
   ⟨s0, zReq, by decide +kernel⟩,
   ⟨({ s0 with reqs := List.replicate 128 { aReq with stage := .port } }), aReq, by decide +kernel⟩,
   ⟨s0, aReq, by decide +kernel⟩⟩

theorem test_hyps_LeashCommandsComplete_2 : (∃ (s : State) (r : Req) (k : Nat), k ≠ leashKey r.die r.mport r.cls) :=
  ⟨s0, aReq, 5, by decide +kernel⟩

theorem test_hyps_TranslationCommandsComplete_1 :
    (∃ (xid : Nat) (k : Nat) (x : Xfer) (p : Piece) (w : WUnit) (e : TlbEntry) (e' : TlbEntry) (dt : Nat) (s : State) (s1 : State) (s2 : State), s.xfers.find? (fun (x : Xfer) => x.id == xid) = some x ∧ x.pieces[k]? = some p ∧ s.xferUnit x = some w ∧ x.faulted = false ∧ s.pieceTurn x k = true ∧ s.streamFull x.tile = false ∧ s.tileOut x < (if x.narrow then 512 else 256) ∧ s.halfOff w.part w.ctx p.va = none ∧ s.missOf x.tile p.va = none ∧ s.tileLook (x.tile / 16) w.part w.ctx p.va = some (e, s1) ∧ (k = 0 ∨ x.write = false ∨ e.w = true) ∧ s1.allow (cluDie (x.tile / 16)) e x.write w.id = (.hit e', s2) ∧ (s2.issuePiece x w k p e' dt).ask = []) ∧
    (∃ (xid : Nat) (dt : Nat) (x : Xfer) (p : Piece) (w : WUnit) (m : Miss) (r : XRes) (s : State), s.xfers.find? (fun (x : Xfer) => x.id == xid) = some x ∧ x.pieces[0]? = some p ∧ s.xferUnit x = some w ∧ x.faulted = false ∧ s.streamFull x.tile = false ∧ s.tileOut x < (if x.narrow then 512 else 256) ∧ s.halfOff w.part w.ctx p.va = none ∧ s.missOf x.tile p.va = some m ∧ m.res = some r ∧ (({ s with misses := s.misses.erase m }).xferEnd x p.va p.trOff (r.atVa m.va)).ask = []) ∧
    (∃ (die : Nat) (core : Nat) (dt : Nat) (s : State), die < 4 ∧ core < 2) ∧
    (∃ (xid : Nat) (k : Nat) (x : Xfer) (p : Piece) (w : WUnit) (s : State), s.xfers.find? (fun (x : Xfer) => x.id == xid) = some x ∧ x.pieces[k]? = some p ∧ s.xferUnit x = some w ∧ x.faulted = false ∧ s.pieceTurn x k = true ∧ s.halfOff w.part w.ctx p.va = none ∧ s.missOf x.tile p.va = none ∧ s.tileLook (x.tile / 16) w.part w.ctx p.va = none ∧ s.streamFull x.tile = false) ∧
    (∃ (id : Nat) (m : Miss) (s : State), s.misses.find? (fun (m : Miss) => m.id == id) = some m ∧ m.stage = .walking ∧ (s.walkMiss m).ask = [] ∧ (s.walkMiss m).parked.any (fun (w : Parked) => w.stream == m.stream) = false) ∧
    (∃ (id : Nat) (m : Miss) (s : State), s.misses.find? (fun (m : Miss) => m.id == id) = some m ∧ m.stage = .walking ∧ (s.walkMiss m).ask = [] ∧ (s.walkMiss m).parked.any (fun (w : Parked) => w.stream == m.stream) = true ∧ (s.walkMiss m).unpark.ask = []) ∧
    (∃ (id : Nat) (m : Miss) (s : State), s.misses.find? (fun (m : Miss) => m.id == id) = some m ∧ m.stage = .device ∧ s.mayWalk m.die m.stream = true ∧ s.walkNext m.die = m.stream) ∧
    (∃ (m : Miss) (e : TlbEntry) (s : State) (s1 : State), m.cluster < 512 ∧ s.walk m.die m.part m.ctx m.va m.uid m.id = (.hit e, s1)) :=
  ⟨⟨2, 0, anXfer, (⟨0, 64, 0, 0⟩), aUnit, aTlb, aTlb, 0, ({ xferOn s0 with tlbs := [(4, aTlb)] }), _, _, ⟨by decide +kernel, by decide +kernel, by decide +kernel, by decide +kernel, by decide +kernel, by decide +kernel, by decide +kernel, by decide +kernel, by decide +kernel, rfl, by decide +kernel, fst_eq (by decide +kernel), by decide +kernel⟩⟩,
   ⟨2, 0, anXfer, (⟨0, 64, 0, 0⟩), aUnit, ({ aMiss with stage := .failed 3 }), _, ({ xferOn s0 with misses := [{ aMiss with stage := .failed 3 }] }), ⟨by decide +kernel, by decide +kernel, by decide +kernel, by decide +kernel, by decide +kernel, by decide +kernel, by decide +kernel, by decide +kernel, rfl, by decide +kernel⟩⟩,
   ⟨0, 0, 0, s0, by decide +kernel⟩,
   ⟨2, 0, anXfer, (⟨0, 64, 0, 0⟩), aUnit, (xferOn s0), by decide +kernel⟩,
   ⟨4, ({ aMiss with stage := .walking }), ({ s0 with misses := [{ aMiss with stage := .walking }] }), ⟨by decide +kernel, by decide +kernel, by decide +kernel, by decide +kernel⟩⟩,
   ⟨4, ({ aMiss with stage := .walking }), ({ s0 with misses := [{ aMiss with stage := .walking }], parked := [zParked] }), ⟨by decide +kernel, by decide +kernel, by decide +kernel, by decide +kernel, by decide +kernel⟩⟩,
   ⟨4, aMiss, ({ s0 with misses := [aMiss] }), ⟨by decide +kernel, by decide +kernel, by decide +kernel, by decide +kernel⟩⟩,
   ⟨aMiss, aTlb, (heres tableOn (walkerFor 0 0 0 0 4) 0 (leBytes 8 31)), _, ⟨by decide +kernel, fst_eq (by decide +kernel)⟩⟩⟩

theorem test_hyps_TranslationCommandsComplete_2 : (∃ (m : Miss) (k : Nat) (s : State) (s1 : State), s.walk m.die m.part m.ctx m.va m.uid m.id = (.fault k, s1)) :=
  ⟨aMiss, 3, ({ s0 with misses := [aMiss] }), _, fst_eq (by decide +kernel)⟩

theorem test_hyps_AddressServiceCommandsComplete_1 :
    (∃ (id : Nat) (size : Nat) (pa : Nat) (w : Bool) (m : Miss) (s : State), s.misses.find? (fun (m : Miss) => m.id == id && (m.stage == .ats || m.stage == .again)) = some m ∧ s.atsCovers m size = false ∧ (w = true ∨ m.write = false)) ∧
    (∃ (id : Nat) (size : Nat) (pa : Nat) (w : Bool) (m : Miss) (s : State) (ok : Bool) (r : Bool), s.misses.find? (fun (m : Miss) => m.id == id && (m.stage == .ats || m.stage == .again)) = some m ∧ s.atsCovers m size = true ∧ m.orphan = false) ∧
    (∃ (id : Nat) (size : Nat) (pa : Nat) (w : Bool) (m : Miss) (s : State) (ok : _) (r : _), s.misses.find? (fun (m : Miss) => m.id == id && (m.stage == .ats || m.stage == .again)) = some m ∧ s.atsCovers m size = false ∧ m.orphan = false ∧ m.stage = .ats ∧ (ok = false ∨ r = false ∨ (w = false ∧ m.write = true))) ∧
    (∃ (id : Nat) (size : Nat) (pa : Nat) (w : Bool) (m : Miss) (s : State) (ok : Bool) (r : Bool), s.misses.find? (fun (m : Miss) => m.id == id && (m.stage == .ats || m.stage == .again)) = some m ∧ s.atsCovers m size = false ∧ m.stage = .again ∧ (ok = false ∨ r = false ∨ (w = false ∧ m.write = true))) ∧
    (∃ (id : Nat) (m : Miss) (s : State), s.misses.find? (fun (m : Miss) => m.id == id && m.stage == .prg) = some m ∧ m.orphan = false) ∧
    (∃ (id : Nat) (ok : Bool) (s : State), s.misses.find? (fun (m : Miss) => m.id == id && m.stage == .prg) = none) ∧
    (∃ (fn : Nat) (tag : Nat) (pasid : Nat) (va : Nat) (size : Nat) (s : State), fn < 65 ∧ (∀ p < 64, s.fnOf p = fn → ∀ c < 16, s.rd R.XLT_CTX_CFG_PASID 0 [p, c] ≠ pasid)) ∧
    (∃ (fn : Nat) (tag : Nat) (pasid : Nat) (va : Nat) (size : Nat) (p : Nat) (c : Nat) (s : State), fn < 65 ∧ p < 64 ∧ c < 16 ∧ (∀ q < 64, ∀ k < 16, (s.fnOf q = fn ∧ s.rd R.XLT_CTX_CFG_PASID 0 [q, k] = pasid) ↔ (q = p ∧ k = c))) :=
  ⟨⟨4, 0, 0, true, ({ aMiss with stage := .again, write := true, va := 2 ^ 47 }), ({ s0 with misses := [{ aMiss with stage := .again, write := true, va := 2 ^ 47 }] }), by decide +kernel⟩,
   ⟨4, 0, 0, true, ({ aMiss with stage := .again, va := 2 ^ 47 }), ({ s0 with misses := [{ aMiss with stage := .again, va := 2 ^ 47 }], invals := [{ zInval with by_ := .ats 1, va := 2 ^ 47, size := 4096 }] }), true, true, by decide +kernel⟩,
   ⟨4, 0, 0, false, ({ aMiss with stage := .ats, va := 2 ^ 47 }), ({ s0 with misses := [{ aMiss with stage := .ats, va := 2 ^ 47 }] }), 0, 0, by decide +kernel⟩,
   ⟨4, 0, 0, false, ({ aMiss with stage := .again, va := 2 ^ 47 }), ({ s0 with misses := [{ aMiss with stage := .again, va := 2 ^ 47 }] }), false, true, by decide +kernel⟩,
   ⟨4, ({ aMiss with stage := .prg }), ({ s0 with misses := [{ aMiss with stage := .prg }] }), by decide +kernel⟩,
   ⟨0, false, s0, by decide +kernel⟩,
   ⟨64, 0, 0, 0, 0, s0, by decide +kernel⟩,
   ⟨0, 0, 5, 0, 0, 63, 15, (s0.wr R.XLT_CTX_CFG_PASID 0 [63, 15] 5), by decide +kernel⟩⟩

theorem test_hyps_AddressServiceCommandsComplete_2 :
    (∃ (id : Nat) (v : Inval) (s : State), s.invals.find? (fun v => v.id == id) = some v ∧ s.invalDone v = true) ∧
    (∃ (id : Nat) (v : Inval) (s : State), s.invals.find? (fun v => v.id == id) = some v ∧ s.invalDone v = false) ∧
    (∃ (id : Nat) (v : Inval) (s : State), s.invals.find? (fun v => v.id == id) = some v ∧ v.started = true ∧ v.boundary = true) ∧
    (∃ (v : Inval) (s : State) (x : Nat × TlbEntry), v.part < 64 ∧ v.ctx < 16 ∧ s.rd R.XLT_CTX_EPOCH_DRAINS 0 [v.part, v.ctx] < 8 ∧ (∀ q ∈ s.reqs, q.part = v.part → q.ctx = v.ctx → q.stage = .held → q.die < 4 ∧ q.mport < 137 ∧ q.cls < 4) ∧ x ∈ (s.startInval v).tlbs) ∧
    (∃ (v : Inval) (s : State) (x : Nat × TlbEntry), v.part < 64 ∧ v.ctx < 16 ∧ s.rd R.XLT_CTX_EPOCH_DRAINS 0 [v.part, v.ctx] < 8 ∧ (∀ q ∈ s.reqs, q.part = v.part → q.ctx = v.ctx → q.stage = .held → q.die < 4 ∧ q.mport < 137 ∧ q.cls < 4) ∧ x ∈ s.tlbs ∧ ¬(x.2.part = v.part ∧ x.2.ctx = v.ctx ∧ overlaps x.2.va x.2.size v.va v.size = true)) :=
  ⟨⟨5, anInval, ({ s0 with invals := [anInval] }), by decide +kernel⟩,
   ⟨5, ({ anInval with bays := [7] }), ({ s0 with invals := [{ anInval with bays := [7] }] }), by decide +kernel⟩,
   ⟨5, anInval, ({ s0 with invals := [anInval] }), by decide +kernel⟩,
   ⟨({ anInval with started := false }), ({ s0 with tlbs := [(0, { aTlb with va := 4096 }), (0, aTlb)] }), ((0, { aTlb with va := 4096 })), by decide +kernel⟩,
   ⟨({ anInval with started := false }), ({ s0 with tlbs := [(0, { aTlb with va := 4096 }), (0, aTlb)] }), ((0, { aTlb with va := 4096 })), by decide +kernel⟩⟩

theorem test_hyps_IslandCommandsComplete :
    (∃ (tag : Nat) (q : Nat) (loc : Nat) (n : Snoop) (s : State), s.snoops.find? (fun (n : Snoop) => n.tag == tag) = some n ∧ s.decode (n.line * 64) = some (q, loc)) ∧
    (∃ (i : Nat) (s : State), i < 4 ∧ s.islDies i ≠ []) ∧
    (∃ (i : Nat) (x : Down) (s : State), i < 4 ∧ s.downs.find? (fun (x : Down) => x.island == i) = some x ∧ s.rd R.COH_ISL_STATE_STATE 0 [i] ≠ 1) ∧
    (∃ (i : Nat) (x : Down) (s : State), i < 4 ∧ s.downs.find? (fun (x : Down) => x.island == i) = some x ∧ s.rd R.COH_ISL_STATE_STATE 0 [i] = 1) ∧
    (∃ (i : Nat) (s : State), i < 4 ∧ s.rd R.COH_ISL_STATE_STATE 0 [i] = 1) ∧
    (∃ (i : Nat) (chans : List Nat) (clus : List Nat) (ports : List Nat) (mods : List Nat) (bays : List Nat) (engines : List Nat) (s : State), i < 4 ∧ s.rd R.COH_ISL_STATE_STATE 0 [i] = 2 ∧ (s.rd R.PCI_STATUS_DSTATE 0 = 0 → ∀ d < 4, s.island d = i → s.rd R.MEM_STATUS_STATE d = 1 → s.nextWave d = none) ∧ (∀ d < 4, s.island d = i → SMap.get 0 s.dies d = 0 ∧ s.bayRd R.BAY_STATUS_STATE (2 * d) ≠ 1 ∧ s.bayRd R.BAY_STATUS_STATE (2 * d + 1) ≠ 1) ∧ (∀ x ∈ s.downs, x.island ≠ i) ∧ (∀ p ∈ s.partsOf i, s.rdB R.PAR_STATUS_RESET_BUSY 0 [p] = false ∧ ∀ u ∈ s.units, u.part ≠ p)) ∧
    (∃ (t : Nat) (ch : Nat) (f : CreditFlit) (s : State), t < 8192 ∧ ch < 8 ∧ s.creditFlits.find? (fun f => f.tile == t && f.ch == ch) = some f ∧ s.staleFlit f.src t f.part f.gen = false ∧ s.live t f.uid = true ∧ ((s.tile t).outCh ch).credits + f.n ≤ ((s.tile t).outCh ch).start) ∧
    (∃ (d : Nat) (lost : List Nat) (s : State), d < 4) :=
  ⟨⟨3, ((s0.decode 1024).get!.1), ((s0.decode 1024).get!.2), aSnoop, ({ s0 with snoops := [aSnoop] }), by decide +kernel⟩,
   ⟨0, s0, by decide +kernel⟩,
   ⟨3, (⟨3, 1, 0, 0, 0⟩), ({ s0 with downs := [⟨3, 1, 0, 0, 0⟩] }), by decide +kernel⟩,
   ⟨3, (⟨3, 1, 0, 0, 0⟩), ({ s0.wr R.COH_ISL_STATE_STATE 0 [3] 1 with downs := [⟨3, 1, 0, 0, 0⟩] }), by decide +kernel⟩,
   ⟨3, (s0.wr R.COH_ISL_STATE_STATE 0 [3] 1), by decide +kernel⟩,
   ⟨0, [], [], [], [], [], [], (s0.wr R.COH_ISL_STATE_STATE 0 [0] 2), by decide +kernel⟩,
   ⟨0, 7, ({ zCreditFlit with ch := 7, n := 3, uid := 1 }), ({ onTile (Tile.idle.setOut 7 ⟨some (9, 1), 1, 4⟩) 0 0 with creditFlits := [{ zCreditFlit with ch := 7, n := 3, uid := 1 }] }), by decide +kernel⟩,
   ⟨3, [], s0, by decide +kernel⟩⟩

theorem test_hyps_BayCommandsComplete_1 :
    (∃ (b : Nat) (proto : Nat) (rate2 : Bool) (uncert : Bool) (mm : Bool) (answers : Bool) (record : List Byte) (cert : List Byte) (f4t : List Nat) (f4r : List Nat) (f2t : List Nat) (f2r : List Nat) (rt : List Nat) (rr : List Nat) (s : State), b < 8 ∧ s.bayRd R.BAY_STATUS_STATE b = 1 ∧ s.population.getD b 0xFF ≠ 0xFF ∧ s.islDown (s.island (b / 2)) = false ∧ s.admit368 b answers record cert f4t f4r f2t f2r = .ok proto rate2 uncert mm) ∧
    (∃ (b : Nat) (k : Nat) (answers : Bool) (record : List Byte) (cert : List Byte) (f4t : List Nat) (f4r : List Nat) (f2t : List Nat) (f2r : List Nat) (rt : List Nat) (rr : List Nat) (s : State), b < 8 ∧ s.bayRd R.BAY_STATUS_STATE b = 1 ∧ s.population.getD b 0xFF ≠ 0xFF ∧ s.islDown (s.island (b / 2)) = false ∧ s.admit368 b answers record cert f4t f4r f2t f2r = .refuse k ∧ s.bayQueues b = []) ∧
    (∃ (b : Nat) (answers : Bool) (record : List Byte) (cert : List Byte) (f4t : List Nat) (f4r : List Nat) (f2t : List Nat) (f2r : List Nat) (rt : List Nat) (rr : List Nat) (s : State), b < 8 ∧ s.islDown (s.island (b / 2)) = true) ∧
    (∃ (b : Nat) (g : Nat) (lanes : Nat) (s : State), b < 8 ∧ g < 128 ∧ s.bayRd R.BAY_STATUS_STATE b = 2 ∧ g ∉ (s.bayInfo b).deadTx ∧ 0 < lanes ∧ SMap.get 0 (s.bayInfo b).usedTx g + lanes ≤ 2) ∧
    (∃ (b : Nat) (g : Nat) (s : State), b < 8 ∧ g < 128 ∧ s.bayRd R.BAY_STATUS_STATE b = 2 ∧ g ∉ (s.bayInfo b).deadRx) ∧
    (∃ (b : Nat) (s : State), b < 8 ∧ s.bayLive b = true) ∧
    (∃ (b : Nat) (temp : Nat) (rail : Nat) (rail10 : Nat) (s : State), b < 8 ∧ s.bayRd R.BAY_STATUS_STATE b = 2 ∧ temp < 95 ∧ rail < 2 ^ 16 ∧ (s.bayInfo b).cool = false ∧ rail10 ≤ min (classLimit (s.bayInfo b).cls) (s.bayRd R.BAY_PLIMIT b)) ∧
    (∃ (b : Nat) (s : State), b < 8 ∧ s.bayRd R.BAY_STATUS_STATE b = 3 ∧ (∀ e ∈ s.dirs, b ∉ e.2.bays)) :=
  ⟨⟨7, 2, false, true, false, true, aRecord, [], [], [], [], [], [], [], ({ (s0.bayWr R.BAY_STATUS_STATE 7 1).wr R.LCS_STATE_STATE 0 [] 1 with population := [0, 0, 0, 0, 0, 0, 0, 0], revFloor := 1 }), ⟨by decide +kernel, by decide +kernel, by decide +kernel, by decide +kernel, rfl⟩⟩,
   ⟨7, 1, false, [], [], [], [], [], [], [], [], ({ s0.bayWr R.BAY_STATUS_STATE 7 1 with population := [0, 0, 0, 0, 0, 0, 0, 0] }), ⟨by decide +kernel, by decide +kernel, by decide +kernel, by decide +kernel, rfl, by decide +kernel⟩⟩,
   ⟨7, false, [], [], [], [], [], [], [], [], (s0.wr R.COH_ISL_STATE_STATE 0 [0] 1), ⟨by decide +kernel, by decide +kernel⟩⟩,
   ⟨7, 127, 2, (bayRun 7), by decide +kernel⟩,
   ⟨7, 127, (bayRun 7), by decide +kernel⟩,
   ⟨7, (bayRun 7), by decide +kernel⟩,
   ⟨7, 94, 40, 40, ((bayRun 7).bayWr R.BAY_PLIMIT 7 40 |>.setBay 7 { BayInfo.idle with cls := 1 }), by decide +kernel⟩,
   ⟨7, ({ s0.bayWr R.BAY_STATUS_STATE 7 3 with dirs := [(0, ⟨true, [6], 0⟩)] }), by decide +kernel⟩⟩

theorem test_hyps_BayCommandsComplete_2 :
    (∃ (b : Nat) (s : State), b < 8 ∧ s.bayRd R.BAY_STATUS_STATE b = 4 ∧ s.bayRd R.BAY_STATUS_HEEL_CAUSE b ≠ 8 ∧ s.islDown (s.island (b / 2)) = false) ∧
    (∃ (b : Nat) (s : State), b < 8 ∧ s.bayRd R.BAY_STATUS_STATE b = 4 ∧ (s.bayRd R.BAY_STATUS_HEEL_CAUSE b = 8 ∨ s.islDown (s.island (b / 2)) = true)) :=
  ⟨⟨7, (s0.bayWr R.BAY_STATUS_STATE 7 4), by decide +kernel⟩,
   ⟨7, ((s0.bayWr R.BAY_STATUS_STATE 7 4).bayWr R.BAY_STATUS_HEEL_CAUSE 7 8), by decide +kernel⟩⟩

theorem test_hyps_WorkPortCommandsComplete_1 :
    (∃ (b : Nat) (uid : Nat) (gen : Nat) (st : Nat) (d0 : Nat) (d1 : Nat) (dt : Nat) (w : WUnit) (s : State), b < 8 ∧ (st = 0 ∨ st = 2 ∨ st = 4) ∧ s.unit? uid = some w ∧ w.kind = .bay ∧ s.rd R.BAY_Q_BIND_BAY 0 [w.part, w.ring - 64] = b ∧ w.done = false ∧ s.bayLive b = true ∧ s.stale w.part gen = false) ∧
    (∃ (b : Nat) (wq : Nat) (p : Nat) (c : Nat) (va : Nat) (gen : Nat) (write : Bool) (e : TlbEntry) (s : State) (s1 : State), b < 8 ∧ wq < 64 ∧ p < 64 ∧ c < 16 ∧ va < 2 ^ 48 ∧ va % 4096 = 0 ∧ s.bayLive b = true ∧ s.bayRd R.BAY_STATUS_PROTO b = 2 ∧ (s.bayQueues b).any (fun x => x.1 == p && s.rCtx x.1 x.2 == c) = true ∧ s.stale p gen = false ∧ s.xlate ⟨b / 2, p, c, 8704 + 64 * b + wq, false, 0, 0⟩ va write = (.hit e, s1) ∧ s1.ask = []) ∧
    (∃ (b : Nat) (wq : Nat) (p : Nat) (c : Nat) (va : Nat) (gen : Nat) (write : Bool) (e : TlbEntry) (s : State) (s1 : State), b < 8 ∧ wq < 64 ∧ p < 64 ∧ c < 16 ∧ va < 2 ^ 48 ∧ va % 4096 = 0 ∧ s.bayLive b = true ∧ s.bayRd R.BAY_STATUS_PROTO b = 1 ∧ (s.bayQueues b).any (fun x => x.1 == p && s.rCtx x.1 x.2 == c) = true ∧ s.xlate ⟨b / 2, p, c, 8704 + 64 * b + wq, false, 0, 0⟩ va write = (.hit e, s1) ∧ s1.ask = []) ∧
    (∃ (b : Nat) (p : Nat) (c : Nat) (e : Nat) (gen : Nat) (s : State), b < 8 ∧ p < 64 ∧ c < 16 ∧ s.bayLive b = true ∧ (s.bayRd R.BAY_STATUS_PROTO b = 1 ∨ s.stale p gen = false)) ∧
    (∃ (uid : Nat) (dt : Nat) (b : Nat) (w : WUnit) (e : Ending) (s : State), s.unit? uid = some w ∧ w.kind = .bay ∧ w.ending = some e ∧ w.stopped = true ∧ w.done = false ∧ s.rd R.BAY_Q_BIND_BAY 0 [w.part, w.ring - 64] = b) ∧
    (∃ (p : Nat) (k : Nat) (s : State), p < 64 ∧ k < 16 ∧ s.rState p (64 + k) = 1) ∧
    (∃ (p : Nat) (k : Nat) (s : State), p < 64 ∧ k < 16 ∧ (s.rState p (64 + k) = 3 ∨ s.rState p (64 + k) = 4 ∨ s.rState p (64 + k) = 5) ∧ s.rFlight p (64 + k) = 0) ∧
    (∃ (p : Nat) (k : Nat) (v : Nat) (s : State), p < 64 ∧ k < 16 ∧ v < 2 ^ 32 ∧ bit v 31 = true ∧ s.rState p (64 + k) = 0 ∧ s.rd R.PAR_CTX_CFG_STATE 0 [p, bits v 24 4] = 1 ∧ s.rd R.BAY_WQ_OWNER (s.rd R.BAY_Q_BIND_BAY 0 [p, k] / 2) [s.rd R.BAY_Q_BIND_BAY 0 [p, k] % 2, s.rd R.BAY_Q_BIND_WQ 0 [p, k]] = p ∧ s.rd R.BAY_Q_LIMIT_FETCH_MAX 0 [p, k] ≤ (s.bayInfo (s.rd R.BAY_Q_BIND_BAY 0 [p, k])).depth) :=
  ⟨⟨7, 1, 0, 4, 0, 0, 0, (aBay 79), ({ (bayRun 7).wr R.BAY_Q_BIND_BAY 0 [0, 15] 7 with units := [aBay 79] }), by decide +kernel⟩,
   ⟨0, 0, 0, 0, 0, 0, false, aTlb, (({ put (bayRun 0) [(R.BAY_Q_BIND_BAY, 0, [0, 0], 0), (R.BAY_Q_STATE_STATE, 0, [0, 0], 1), (R.XLT_CTX_CFG_ENABLE, 0, [0, 0], 1)] with tlbs := [(0, aTlb)] } : State)), _, ⟨by decide +kernel, by decide +kernel, by decide +kernel, by decide +kernel, by decide +kernel, by decide +kernel, by decide +kernel, by decide +kernel, by decide +kernel, by decide +kernel, fst_eq (by decide +kernel), by decide +kernel⟩⟩,
   ⟨0, 0, 0, 0, 0, 0, false, aTlb, (({ put ((bayRun 0).bayWr R.BAY_STATUS_PROTO 0 1) [(R.BAY_Q_BIND_BAY, 0, [0, 0], 0), (R.BAY_Q_STATE_STATE, 0, [0, 0], 1), (R.XLT_CTX_CFG_ENABLE, 0, [0, 0], 1)] with tlbs := [(0, aTlb)] } : State)), _, ⟨by decide +kernel, by decide +kernel, by decide +kernel, by decide +kernel, by decide +kernel, by decide +kernel, by decide +kernel, by decide +kernel, by decide +kernel, fst_eq (by decide +kernel), by decide +kernel⟩⟩,
   ⟨7, 63, 15, 0, 0, (bayRun 7), by decide +kernel⟩,
   ⟨1, 0, 0, ({ aBay 79 with ending := some ⟨3, 0, 0⟩, stopped := true }), (⟨3, 0, 0⟩), ({ s0 with units := [{ aBay 79 with ending := some ⟨3, 0, 0⟩, stopped := true }] }), by decide +kernel⟩,
   ⟨63, 15, (s0.setRing 63 79 1 1), by decide +kernel⟩,
   ⟨63, 15, (s0.setRing 63 79 5 1), by decide +kernel⟩,
   ⟨63, 15, 0x8F000000, ((put s0 [(R.PAR_CTX_CFG_STATE, 0, [63, 15], 1), (R.BAY_Q_BIND_BAY, 0, [63, 15], 7), (R.BAY_Q_BIND_WQ, 0, [63, 15], 5), (R.BAY_WQ_OWNER, 3, [1, 5], 63), (R.BAY_Q_LIMIT_FETCH_MAX, 0, [63, 15], 8)]).setBay 7 { BayInfo.idle with depth := 8 }), by decide +kernel⟩⟩

theorem test_hyps_WorkPortCommandsComplete_2 :
    (∃ (id : Nat) (x : CfgAns) (s : State), s.cfgs.find? (fun (x : CfgAns) => x.id == id && x.ack == false) = some x ∧ x.bay = 8) ∧
    (∃ (id : Nat) (x : CfgAns) (s : State), s.cfgs.find? (fun (x : CfgAns) => x.id == id && x.ack == true) = some x ∧ s.bayLive x.bay = true ∧ x.bay ≠ 8) :=
  ⟨⟨5, ({ zCfgAns with id := 5, value := 77, bay := 8 }), ({ s0 with cfgs := [{ zCfgAns with id := 5, value := 77, bay := 8 }] }), by decide +kernel⟩,
   ⟨5, ({ zCfgAns with id := 5, ack := true, bay := 7 }), ({ bayRun 7 with cfgs := [{ zCfgAns with id := 5, ack := true, bay := 7 }] }), by decide +kernel⟩⟩

theorem test_hyps_RingLinkCommandsComplete_1 :
    (∃ (d : Nat) (k : Nat) (m : Nat) (dt : Nat) (payload : List Byte) (noise : List Byte) (wire : List Byte) (s : State) (s1 : State), d < 4 ∧ k < 2 ∧ m < 16 ∧ s.linkUp d k = true ∧ s.rxMod d k m ≠ 0 ∧ (s.at_ dt).ringSend (linkPeer d k).1 (linkPeer d k).2 m payload = some (s1, wire) ∧ beatCrc (withNoise wire noise) ≠ leNat ((withNoise wire noise).take 4) % 2 ^ 16) ∧
    (∃ (d : Nat) (k : Nat) (m : Nat) (dt : Nat) (payload : List Byte) (noise : List Byte) (wire : List Byte) (s : State) (s1 : State) (items : List (List Byte)) (rest : List Byte), d < 4 ∧ k < 2 ∧ m < 16 ∧ s.linkUp d k = true ∧ s.rxMod d k m ≠ 0 ∧ (s.at_ dt).ringSend (linkPeer d k).1 (linkPeer d k).2 m payload = some (s1, wire) ∧ beatCrc (withNoise wire noise) = leNat ((withNoise wire noise).take 4) % 2 ^ 16 ∧ ringItems 300 ((s1.ringMod d k m).part ++ (withNoise wire noise).drop 4) = some (items, rest) ∧ (s1.ringMod d k m).skip = true ∧ bit (leNat ((withNoise wire noise).take 4)) 30 = false) ∧
    (∃ (d : Nat) (k : Nat) (m : Nat) (dt : Nat) (payload : List Byte) (noise : List Byte) (wire : List Byte) (s : State) (s1 : State) (items : List (List Byte)) (rest : List Byte), d < 4 ∧ k < 2 ∧ m < 16 ∧ s.linkUp d k = true ∧ s.rxMod d k m ≠ 0 ∧ (s.at_ dt).ringSend (linkPeer d k).1 (linkPeer d k).2 m payload = some (s1, wire) ∧ beatCrc (withNoise wire noise) = leNat ((withNoise wire noise).take 4) % 2 ^ 16 ∧ ringItems 300 ((s1.ringMod d k m).part ++ (withNoise wire noise).drop 4) = some (items, rest) ∧ (s1.ringMod d k m).skip = false ∧ (s1.ringMod d k m).marked = false ∧ bit (leNat ((withNoise wire noise).take 4)) 29 = false) ∧
    (∃ (d : Nat) (k : Nat) (m : Nat) (dt : Nat) (payload : List Byte) (noise : List Byte) (s : State), d < 4 ∧ k < 2 ∧ m < 16 ∧ (s.at_ dt).ringSend (linkPeer d k).1 (linkPeer d k).2 m payload = none) ∧
    (∃ (d : Nat) (k : Nat) (m : Nat) (payload : List Byte) (s : State), 0 < (s.ringMod d k m).resend) ∧
    (∃ (d : Nat) (k : Nat) (m : Nat) (payload : List Byte) (s : State), (s.ringMod d k m).resend = 0 ∧ 256 ≤ (s.ringMod d k m).unacked.length) ∧
    (∃ (x : RingMod) (ack : Nat), 0 < (ack + 4096 - x.acked) % 4096 ∧ (ack + 4096 - x.acked) % 4096 ≤ x.unacked.length ∧ (ack + 4096 - x.acked) % 4096 < x.unacked.length) ∧
    (∃ (d : Nat) (k : Nat) (m : Nat) (failing : List Nat) (s : State) (s1 : State) (s2 : State), d < 4 ∧ k < 2 ∧ m < 16 ∧ s.linkUp d k = true ∧ s.txMod d k m ≠ 0 ∧ s.mustRetrain d k m = true ∧ s1 = s.setRingMod (linkPeer d k).1 (linkPeer d k).2 m { s.ringMod (linkPeer d k).1 (linkPeer d k).2 m with crcAt := [] } ∧ s2 = s1.setRingMod d k m { s1.ringMod d k m with replayed := 0 } ∧ (failing.filter (· < 64)).dedup = []) :=
  ⟨⟨3, 1, 15, 0, (zeros 124), [1], _, (ringLink 3 1), _, ⟨by decide +kernel, by decide +kernel, by decide +kernel, by decide +kernel, by decide +kernel, some_eq (by decide +kernel), by decide +kernel⟩⟩,
   ⟨3, 1, 15, 0, (zeros 124), [], _, (ringWith { zRingMod with skip := true } zRingMod), _, _, _, ⟨by decide +kernel, by decide +kernel, by decide +kernel, by decide +kernel, by decide +kernel, some_eq (by decide +kernel), by decide +kernel, some_eq (by decide +kernel), by decide +kernel, by decide +kernel⟩⟩,
   ⟨3, 1, 15, 0, (zeros 124), [], _, (ringLink 3 1), _, _, _, ⟨by decide +kernel, by decide +kernel, by decide +kernel, by decide +kernel, by decide +kernel, some_eq (by decide +kernel), by decide +kernel, some_eq (by decide +kernel), by decide +kernel, by decide +kernel, by decide +kernel⟩⟩,
   ⟨3, 1, 15, 0, (zeros 124), [], (ringWith zRingMod { zRingMod with unacked := List.replicate 256 (0, []) }), by decide +kernel⟩,
   ⟨3, 1, 15, (zeros 124), (ringWith { zRingMod with resend := 1 } zRingMod), by decide +kernel⟩,
   ⟨3, 1, 15, (zeros 124), (ringWith { zRingMod with unacked := List.replicate 256 (0, []) } zRingMod), by decide +kernel⟩,
   ⟨({ zRingMod with unacked := List.replicate 3 (0, []) }), 1, by decide +kernel⟩,
   ⟨3, 1, 15, [], (ringWith { zRingMod with replayed := 16 } zRingMod), _, _, ⟨by decide +kernel, by decide +kernel, by decide +kernel, by decide +kernel, by decide +kernel, by decide +kernel, rfl, rfl, by decide +kernel⟩⟩⟩

theorem test_hyps_RingLinkCommandsComplete_2 :
    (∃ (d : Nat) (k : Nat) (m : Nat) (failing : List Nat) (s : State) (s1 : State) (s2 : State), d < 4 ∧ k < 2 ∧ m < 16 ∧ s.linkUp d k = true ∧ s.txMod d k m ≠ 0 ∧ s.mustRetrain d k m = true ∧ s1 = s.setRingMod (linkPeer d k).1 (linkPeer d k).2 m { s.ringMod (linkPeer d k).1 (linkPeer d k).2 m with crcAt := [] } ∧ s2 = s1.setRingMod d k m { s1.ringMod d k m with replayed := 0 } ∧ (failing.filter (· < 64)).dedup ≠ [] ∧ (s.ringMod d k m).repaired + ((failing.filter (· < 64)).dedup).length ≤ 4) ∧
    (∃ (d : Nat) (k : Nat) (m : Nat) (failing : List Nat) (s : State) (s1 : State) (s2 : State), d < 4 ∧ k < 2 ∧ m < 16 ∧ s.linkUp d k = true ∧ s.txMod d k m ≠ 0 ∧ s.mustRetrain d k m = true ∧ s1 = s.setRingMod (linkPeer d k).1 (linkPeer d k).2 m { s.ringMod (linkPeer d k).1 (linkPeer d k).2 m with crcAt := [] } ∧ s2 = s1.setRingMod d k m { s1.ringMod d k m with replayed := 0 } ∧ 4 < (s.ringMod d k m).repaired + ((failing.filter (· < 64)).dedup).length ∧ (failing.filter (· < 64)).dedup ≠ []) ∧
    (∃ (d : Nat) (k : Nat) (srcs : List Nat) (s : State), d < 4 ∧ k < 2 ∧ s.linkUp d k = true ∧ s.linkC d k ≠ s.rd R.DDL_CAP_C_TX d [k] ∧ (∀ m < 16, s.txMod d k m ≠ 0 → (s.ringMod d k m).markDue = false)) ∧
    (∃ (goodbye : Bool) (d : Nat) (k : Nat) (s : State) (u : State), d < 4 ∧ k < 2 ∧ s.linkOn d k = true ∧ u = s.edgeHeel d k ∧ SMap.get 0 u.dies (linkPeer d k).1 ≠ 1) ∧
    (∃ (d : Nat) (k : Nat) (tx : Nat) (rx : Nat) (lat : Nat) (s : State), d < 4 ∧ k < 2 ∧ SMap.get 0 s.dies d ≠ 1 ∧ SMap.get 0 s.dies (linkPeer d k).1 ≠ 1 ∧ s.rd R.DDL_STATUS_STATE d [k] = 0 ∧ s.rd R.DDL_STATUS_STATE (linkPeer d k).1 [(linkPeer d k).2] = 0 ∧ (∃ m < 16, bits tx (2 * m) 2 ≠ 0) ∧ (∃ m < 16, bits rx (2 * m) 2 ≠ 0)) ∧
    (∃ (d : Nat) (k : Nat) (ms : List Nat) (s : State), d < 4 ∧ k < 2 ∧ s.linkUp d k = true ∧ (∃ m < 16, m ∈ ms ∧ s.rxMod d k m ≠ 0) ∧ (∃ m < 16, m ∉ ms ∧ s.rxMod d k m ≠ 0)) ∧
    (∃ (d : Nat) (k : Nat) (gen : Nat) (src : Nat) (data : List Nat) (s : State), d < 4 ∧ k < 2 ∧ SMap.get 0 s.dies d ≠ 1 ∧ gen < 256 ∧ s.rd R.DDL_STATUS_LINK_GEN d [k] = gen) ∧
    (∃ (k : Nat) (gen : Nat) (src : Nat) (data : List Nat) (s : State), k < 2 ∧ src < 4 ∧ SMap.get 0 s.dies 0 ≠ 1 ∧ gen < 256 ∧ s.rd R.DDL_STATUS_LINK_GEN 0 [k] = gen) :=
  ⟨⟨3, 1, 15, [5], (ringWith { zRingMod with replayed := 16 } zRingMod), _, _, ⟨by decide +kernel, by decide +kernel, by decide +kernel, by decide +kernel, by decide +kernel, by decide +kernel, rfl, rfl, by decide +kernel, by decide +kernel⟩⟩,
   ⟨3, 1, 15, ([0, 1, 2, 3, 63]), (ringWith { zRingMod with replayed := 16 } zRingMod), _, _, ⟨by decide +kernel, by decide +kernel, by decide +kernel, by decide +kernel, by decide +kernel, by decide +kernel, rfl, rfl, by decide +kernel, by decide +kernel⟩⟩,
   ⟨3, 1, [], ((ringLink 3 1).wr R.DDL_CAP_C_TX 3 [1] 5), by decide +kernel⟩,
   ⟨false, 3, 1, (ringLink 3 1), _, ⟨by decide +kernel, by decide +kernel, by decide +kernel, rfl, by decide +kernel⟩⟩,
   ⟨3, 1, 2, 2, 0, s0, by decide +kernel⟩,
   ⟨3, 1, [0], (ringLink 3 1), by decide +kernel⟩,
   ⟨3, 1, 0, 0, [], s0, by decide +kernel⟩,
   ⟨1, 0, 0, [], s0, by decide +kernel⟩⟩

theorem test_hyps_RingLinkCommandsComplete_3 :
    (∃ (k : Nat) (gen : Nat) (src : Nat) (data : List Nat) (s : State), k < 2 ∧ SMap.get 0 s.dies 0 ≠ 1 ∧ gen < 256 ∧ s.rd R.DDL_STATUS_LINK_GEN 0 [k] = gen) ∧
    (∃ (d : Nat) (k : Nat) (gen : Nat) (kind : Nat) (src : Nat) (data : List Nat) (s : State), d < 4 ∧ k < 2 ∧ SMap.get 0 s.dies d ≠ 1 ∧ gen < 256 ∧ s.rd R.DDL_STATUS_LINK_GEN d [k] = (gen + 1) % 256) :=
  ⟨⟨1, 0, 0, [], s0, by decide +kernel⟩,
   ⟨3, 1, 255, 0, 0, [], s0, by decide +kernel⟩⟩

theorem test_hyps_TorusPortCommandsComplete :
    (∃ (k : Nat) (room : Nat) (lo : Bool) (hi : Bool) (s : State), k < 8 ∧ s.torRd R.TOR_PORT_CFG_ENABLE k ≠ 0 ∧ s.torRd R.TOR_PORT_STATUS_STATE k ≠ 2 ∧ s.dieRuns (k / 2) = true) ∧
    (∃ (k : Nat) (seq : Nat) (replay : Bool) (block : List Byte) (s : State), k < 8 ∧ s.torUp k = true ∧ seq < 4096 ∧ (s.torPort k).rxSeq = seq ∧ ((s.torPort k).skip = false ∨ replay = true)) ∧
    (∃ (k : Nat) (seq : Nat) (block : List Byte) (s : State), k < 8 ∧ s.torUp k = true ∧ (s.torPort k).skip = true) ∧
    (∃ (k : Nat) (s : State), k < 8 ∧ s.torUp k = true ∧ (s.torPort k).replayed < 8) ∧
    (∃ (k : Nat) (s : State), k < 8 ∧ s.torUp k = true ∧ 8 ≤ (s.torPort k).replayed) ∧
    (∃ (k : Nat) (vc : Nat) (x : TorPacket) (s : State) (t : State), k < 8 ∧ vc < 8 ∧ s.torTake k vc = some (x, t) ∧ (Pkt.of x.bytes).dest ≠ s.coord) :=
  ⟨⟨7, 0, false, false, (s0.torWr R.TOR_PORT_CFG_ENABLE 7 1), by decide +kernel⟩,
   ⟨7, 0, false, [], (torUpOn 7), by decide +kernel⟩,
   ⟨7, 0, [], ((torUpOn 7).setTorPort 7 { (torUpOn 7).torPort 7 with skip := true }), by decide +kernel⟩,
   ⟨7, ((torUpOn 7).setTorPort 7 { (torUpOn 7).torPort 7 with skip := true }), by decide +kernel⟩,
   ⟨7, ((torUpOn 7).setTorPort 7 { (torUpOn 7).torPort 7 with replayed := 8 }), by decide +kernel⟩,
   ⟨7, 5, (⟨7, 5, ({ pktOf 1 0 0 with dest := 2 } : Pkt).bytes⟩), (({ s0 with torRx := [⟨7, 5, ({ pktOf 1 0 0 with dest := 2 } : Pkt).bytes⟩] } : State)), (taken ({ s0 with torRx := [⟨7, 5, ({ pktOf 1 0 0 with dest := 2 } : Pkt).bytes⟩] } : State) 7 5), by decide +kernel⟩⟩

theorem test_hyps_RoutingMakesProgress : (∃ (c : Nat) (d : Nat) (i : Nat) (k : Nat) (date : Bool), c < 2 ^ 14 ∧ d < 2 ^ 14 ∧ hop c d = some (i, k, date)) :=
  ⟨(2 ^ 14 - 1), 0, 0, 1, true, by decide +kernel⟩

theorem test_hyps_TorusPacketsComplete_1 :
    (∃ (k : Nat) (vc : Nat) (a : Nat) (b : Nat) (last : Bool) (h : Pkt) (bs : List Byte) (s : State) (t : State) (t1 : State), PacketHere s k vc 1 h t ∧ t.torAccepts h = true ∧ t.torAccess k h.part h.ctx h.addr (min h.len 256) (some (padTo (min h.len 256) h.body)) = ((0, a, b, bs), t1) ∧ t1.ask = [] ∧ (last = true ∨ SMap.get 0 t1.torPuts (h.src * 2 ^ 16 + h.tag) = 15)) ∧
    (∃ (k : Nat) (vc : Nat) (a : Nat) (b : Nat) (last : Bool) (h : Pkt) (bs : List Byte) (s : State) (t : State) (t1 : State), PacketHere s k vc 1 h t ∧ t.torAccepts h = true ∧ t.torAccess k h.part h.ctx h.addr (min h.len 256) (some (padTo (min h.len 256) h.body)) = ((0, a, b, bs), t1) ∧ t1.ask = [] ∧ last = false ∧ SMap.get 0 t1.torPuts (h.src * 2 ^ 16 + h.tag) ≠ 15) ∧
    (∃ (k : Nat) (vc : Nat) (a : Nat) (b : Nat) (h : Pkt) (bs : List Byte) (s : State) (t : State) (t1 : State), PacketHere s k vc 2 h t ∧ t.torAccepts h = true ∧ t.torAccess k h.part h.ctx h.addr (min h.len 256) none = ((0, a, b, bs), t1) ∧ t1.ask = []) ∧
    (∃ (k : Nat) (vc : Nat) (st : Nat) (kind : Nat) (a : Nat) (h : Pkt) (bs : List Byte) (s : State) (t : State) (t1 : State), PacketHere s k vc 2 h t ∧ t.torAccepts h = true ∧ st ≠ 0 ∧ t.torAccess k h.part h.ctx h.addr (min h.len 256) none = ((st, kind, a, bs), t1) ∧ t1.ask = []) ∧
    (∃ (k : Nat) (vc : Nat) (size : Nat) (a : Nat) (b : Nat) (h : Pkt) (old : List Byte) (s : State) (t : State) (t1 : State), PacketHere s k vc 4 h t ∧ t.torAccepts h = true ∧ size = (if bit h.aux 8 then 8 else 4) ∧ t.torAtomic k h.part h.ctx (h.addr % 2 ^ 48 / size * size) size (h.aux % 256) (leNat (h.body.take 8)) (leNat ((h.body.drop 8).take 8)) = ((0, a, b, old), t1) ∧ t1.ask = []) ∧
    (∃ (k : Nat) (vc : Nat) (h : Pkt) (s : State) (t : State), PacketHere s k vc 2 h t ∧ t.torAccepts h = false ∧ s.ask = []) ∧
    (∃ (k : Nat) (vc : Nat) (h : Pkt) (c : TorCmd) (s : State) (t : State), PacketHere s k vc 6 h t ∧ t.torOf h 1 = some c ∧ h.aux % 256 = 0) ∧
    (∃ (k : Nat) (vc : Nat) (h : Pkt) (c : TorCmd) (s : State) (t : State), PacketHere s k vc 3 h t ∧ t.torOf h 2 = some c ∧ (t.torData h (h.addr - c.nat 0x18 8 % 2 ^ 48) (min h.len 256) c.len c).ask = []) :=
  ⟨⟨7, 5, 0, 0, true, ((Pkt.of (pktOf 1 256 0).bytes)), [], ((torIn (pktOf 1 256 0))), (taken ((torIn (pktOf 1 256 0))) 7 5), _, ⟨⟨by decide +kernel, by decide +kernel, ⟨7, 5, (pktOf 1 256 0).bytes⟩, by decide +kernel, by decide +kernel, rfl, by decide +kernel⟩, by decide +kernel, fst_eq (by decide +kernel), by decide +kernel, by decide +kernel⟩⟩,
   ⟨7, 5, 0, 0, false, ((Pkt.of (pktOf 1 256 0).bytes)), [], ((torIn (pktOf 1 256 0))), (taken ((torIn (pktOf 1 256 0))) 7 5), _, ⟨⟨by decide +kernel, by decide +kernel, ⟨7, 5, (pktOf 1 256 0).bytes⟩, by decide +kernel, by decide +kernel, rfl, by decide +kernel⟩, by decide +kernel, fst_eq (by decide +kernel), by decide +kernel, by decide +kernel, by decide +kernel⟩⟩,
   ⟨7, 5, 0, 0, ((Pkt.of (pktOf 2 16 0).bytes)), (zeros 16), ((torGet (torIn (pktOf 2 16 0)))), (taken ((torGet (torIn (pktOf 2 16 0)))) 7 5), _, ⟨⟨by decide +kernel, by decide +kernel, ⟨7, 5, (pktOf 2 16 0).bytes⟩, by decide +kernel, by decide +kernel, rfl, by decide +kernel⟩, by decide +kernel, fst_eq (by decide +kernel), by decide +kernel⟩⟩,
   ⟨7, 5, 2, 1, 0, ((Pkt.of (pktOf 2 16 0).bytes)), [], ((torIn (pktOf 2 16 0)).wr R.XLT_CTX_CFG_ENABLE 0 [0, 0] 0), (taken ((torIn (pktOf 2 16 0)).wr R.XLT_CTX_CFG_ENABLE 0 [0, 0] 0) 7 5), _, ⟨⟨by decide +kernel, by decide +kernel, ⟨7, 5, (pktOf 2 16 0).bytes⟩, by decide +kernel, by decide +kernel, rfl, by decide +kernel⟩, by decide +kernel, by decide +kernel, fst_eq (by decide +kernel), by decide +kernel⟩⟩,
   ⟨7, 5, 8, 0, 0, ((Pkt.of (pktOf 4 16 256).bytes)), (zeros 8), ((hereW (torIn (pktOf 4 16 256)) { (torIn (pktOf 4 16 256)).torAgent 7 0 with ctx := 0 } .atomic 0 (atomicFlit 0 8 0 0 0) (zeros 8) 8)), (taken ((hereW (torIn (pktOf 4 16 256)) { (torIn (pktOf 4 16 256)).torAgent 7 0 with ctx := 0 } .atomic 0 (atomicFlit 0 8 0 0 0) (zeros 8) 8)) 7 5), _, ⟨⟨by decide +kernel, by decide +kernel, ⟨7, 5, (pktOf 4 16 256).bytes⟩, by decide +kernel, by decide +kernel, rfl, by decide +kernel⟩, by decide +kernel, by decide +kernel, fst_eq (by decide +kernel), by decide +kernel⟩⟩,
   ⟨7, 5, ((Pkt.of (pktOf 2 16 0).bytes)), (((fun p => (torIn p).wr R.TOR_P_ACCEPT_CTX_MASK 0 [0] 0) (pktOf 2 16 0))), (taken ((fun p => (torIn p).wr R.TOR_P_ACCEPT_CTX_MASK 0 [0] 0) (pktOf 2 16 0)) 7 5), ⟨⟨by decide +kernel, by decide +kernel, ⟨7, 5, (pktOf 2 16 0).bytes⟩, by decide +kernel, by decide +kernel, rfl, by decide +kernel⟩, by decide +kernel⟩⟩,
   ⟨7, 5, ((Pkt.of (pktOf 6 0 0).bytes)), (torCmdOf 1 true), (((fun p => { torIn p with torCmds := [torCmdOf 1 true] }) (pktOf 6 0 0))), (taken ((fun p => { torIn p with torCmds := [torCmdOf 1 true] }) (pktOf 6 0 0)) 7 5), ⟨⟨by decide +kernel, by decide +kernel, ⟨7, 5, (pktOf 6 0 0).bytes⟩, by decide +kernel, by decide +kernel, rfl, by decide +kernel⟩, by decide +kernel, by decide +kernel⟩⟩,
   ⟨7, 5, ((Pkt.of (pktOf 3 0 0).bytes)), (torCmdOf 2 true), ({ torIn (pktOf 3 0 0) with torCmds := [torCmdOf 2 true] }), (taken ({ torIn (pktOf 3 0 0) with torCmds := [torCmdOf 2 true] }) 7 5), ⟨⟨by decide +kernel, by decide +kernel, ⟨7, 5, (pktOf 3 0 0).bytes⟩, by decide +kernel, by decide +kernel, rfl, by decide +kernel⟩, by decide +kernel, by decide +kernel⟩⟩⟩

theorem test_hyps_TorusPacketsComplete_2 :
    (∃ (k : Nat) (vc : Nat) (n : Nat) (h : Pkt) (c : TorCmd) (s : State) (t : State), PacketHere s k vc 5 h t ∧ t.torOf h 3 = some c ∧ n = (if bit (c.nat 6 1) 4 then 8 else 4) ∧ (t.torData h 0 n n c).ask = []) ∧
    (∃ (h : Pkt) (off : Nat) (n : Nat) (total : Nat) (c : TorCmd) (bs : List Byte) (s : State) (t : State), h.aux % 256 = 0 ∧ s.virtWriteV (s.tqVirt c.part c.queue c.id) ((c.nat 0x10 8 + off) % 2 ^ 48) (padTo n h.body) = (.ok bs, t)) ∧
    (∃ (k : Nat) (vc : Nat) (h : Pkt) (s : State) (t : State), PacketHere s k vc 8 h t ∧ h.part < 64 ∧ t.redRd R.TOR_RED_VALID h.part = 1 ∧ k ∈ t.redChildren h.part ∧ (t.redInput h.part h.addr k h.gen (padTo 256 h.body)).ask = []) ∧
    (∃ (k : Nat) (vc : Nat) (h : Pkt) (s : State) (t : State), PacketHere s k vc 8 h t ∧ k ∉ t.redChildren h.part ∧ s.ask = []) ∧
    (∃ (k : Nat) (vc : Nat) (h : Pkt) (s : State) (t : State), PacketHere s k vc 9 h t ∧ h.part < 64 ∧ t.gen (t.redRd R.TOR_RED_PARTITION h.part) = h.gen ∧ (t.redResult h.part h.addr (h.aux % 256) h.body).ask = []) ∧
    (∃ (k : Nat) (vc : Nat) (h : Pkt) (s : State) (t : State), PacketHere s k vc 10 h t ∧ (t.streamIn k h).ask = []) ∧
    (∃ (k : Nat) (h : Pkt) (s : State), h.part < 64 ∧ s.chRd R.TOR_S_CFG_ENABLE h.part = 1 ∧ s.chRd R.TOR_S_CFG_SOURCE h.part = h.src ∧ h.addr + s.chRd R.TOR_S_CFG_DEADLINE h.part ≤ s.tick) ∧
    (∃ (ch : Nat) (tk : Nat) (r : TorRes) (s : State) (t : State), ch < 64 ∧ s.closes.find? (fun x => x.1 == ch) = some (ch, tk) ∧ s.slots = [] ∧ s.streamLate = [] ∧ ({ s with closes := s.closes.erase (ch, tk) } : State).torAccess 8 (s.chRd R.TOR_S_OWNER ch) (s.chRd R.TOR_S_CFG_CONTEXT ch) (s.chRd R.TOR_S_STATUS_RING ch + 16 * (tk % s.chSlots ch)) 16 (some (leBytes 8 tk ++ leBytes 4 0 ++ leBytes 4 0)) = (r, t) ∧ t.ask = []) :=
  ⟨⟨7, 5, 4, ((Pkt.of (pktOf 5 0 0).bytes)), (torCmdOf 3 true), ((hereW ({ torIn (pktOf 5 0 0) with torCmds := [torCmdOf 3 true], tlbs := [(0, aTlb)] }) (({ torIn (pktOf 5 0 0) with torCmds := [torCmdOf 3 true], tlbs := [(0, aTlb)] } : State).tqVirt 0 0 2).agent .wrInv 0 (zeros 4) [] 4)), (taken ((hereW ({ torIn (pktOf 5 0 0) with torCmds := [torCmdOf 3 true], tlbs := [(0, aTlb)] }) (({ torIn (pktOf 5 0 0) with torCmds := [torCmdOf 3 true], tlbs := [(0, aTlb)] } : State).tqVirt 0 0 2).agent .wrInv 0 (zeros 4) [] 4)) 7 5), ⟨⟨by decide +kernel, by decide +kernel, ⟨7, 5, (pktOf 5 0 0).bytes⟩, by decide +kernel, by decide +kernel, rfl, by decide +kernel⟩, by decide +kernel, by decide +kernel, by decide +kernel⟩⟩,
   ⟨zPkt, 0, 0, 0, zTorCmd, [], s0, s0, by decide +kernel⟩,
   ⟨7, 5, ((Pkt.of (pktOf 8 256 0).bytes)), (((fun p => put (torIn p) [(R.TOR_RED_VALID, 0, [0], 1), (R.TOR_RED_CHILDREN, 0, [0], 128)]) (pktOf 8 256 0))), (taken ((fun p => put (torIn p) [(R.TOR_RED_VALID, 0, [0], 1), (R.TOR_RED_CHILDREN, 0, [0], 128)]) (pktOf 8 256 0)) 7 5), ⟨⟨by decide +kernel, by decide +kernel, ⟨7, 5, (pktOf 8 256 0).bytes⟩, by decide +kernel, by decide +kernel, rfl, by decide +kernel⟩, by decide +kernel, by decide +kernel, by decide +kernel⟩⟩,
   ⟨7, 5, ((Pkt.of (pktOf 8 0 0).bytes)), ((torIn (pktOf 8 0 0))), (taken ((torIn (pktOf 8 0 0))) 7 5), ⟨⟨by decide +kernel, by decide +kernel, ⟨7, 5, (pktOf 8 0 0).bytes⟩, by decide +kernel, by decide +kernel, rfl, by decide +kernel⟩, by decide +kernel, by decide +kernel⟩⟩,
   ⟨7, 5, ((Pkt.of (pktOf 9 256 0).bytes)), ((torIn (pktOf 9 256 0))), (taken (torIn (pktOf 9 256 0)) 7 5), ⟨⟨by decide +kernel, by decide +kernel, ⟨7, 5, (pktOf 9 256 0).bytes⟩, by decide +kernel, by decide +kernel, rfl, by decide +kernel⟩, by decide +kernel, by decide +kernel⟩⟩,
   ⟨7, 5, ((Pkt.of (pktOf 10 0 0).bytes)), ((torIn (pktOf 10 0 0))), (taken ((torIn (pktOf 10 0 0))) 7 5), ⟨⟨by decide +kernel, by decide +kernel, ⟨7, 5, (pktOf 10 0 0).bytes⟩, by decide +kernel, by decide +kernel, rfl, by decide +kernel⟩, by decide +kernel⟩⟩,
   ⟨0, ({ pktOf 10 0 0 with part := 63 }), (put s0 [(R.TOR_S_CFG_ENABLE, 0, [63], 1), (R.TCK_NUMBER, 0, [], 1)]), by decide +kernel⟩,
   ⟨63, 5, _, (hereW ({ ((put up [(R.TOR_S_OWNER, 0, [63], 0), (R.XLT_CTX_CFG_ENABLE, 0, [0, 0], 1)]) : State) with closes := [(63, 5)], tlbs := [(0, aTlb)] }) { ({ ((put up [(R.TOR_S_OWNER, 0, [63], 0), (R.XLT_CTX_CFG_ENABLE, 0, [0, 0], 1)]) : State) with closes := [(63, 5)], tlbs := [(0, aTlb)] } : State).torAgent 8 0 with ctx := 0 } .wrInv 16 ([5] ++ zeros 15) [] 16), _, ⟨by decide +kernel, by decide +kernel, by decide +kernel, by decide +kernel, rfl, by decide +kernel⟩⟩⟩

theorem test_hyps_TorusQueueCommandsComplete :
    (∃ (p : Nat) (q : Nat) (s : State), p < 64 ∧ q < 8 ∧ s.tq R.TOR_Q_CFG_ENABLE p q ≠ 0 ∧ (s.torPoll p q).ask = []) ∧
    (∃ (p : Nat) (q : Nat) (s : State) (t : State) (tail : Nat), s.tq R.TOR_Q_CFG_ENABLE p q ≠ 0 ∧ s.tqTail p q = (some tail, t) ∧ tail = SMap.get 0 t.torHead (8 * p + q) ∧ tail < 2 ^ 32) ∧
    (∃ (p : Nat) (q : Nat) (host : List Byte) (bs : List Byte) (c : TorCmd) (s : State) (t : State), p < 64 ∧ q < 8 ∧ s.torNext p q 1 = some c ∧ lenOk c = true ∧ s.virtReadH (s.tqVirt p q c.id) (c.nat 0x10 8 % 2 ^ 48) c.len host = (.ok bs, t) ∧ t.ask = []) ∧
    (∃ (p : Nat) (q : Nat) (c : TorCmd) (s : State), p < 64 ∧ q < 8 ∧ s.torNext p q 2 = some c ∧ lenOk c = true) ∧
    (∃ (p : Nat) (q : Nat) (c : TorCmd) (s : State), p < 64 ∧ q < 8 ∧ s.torNext p q 3 = some c) ∧
    (∃ (p : Nat) (q : Nat) (host : List Byte) (bs : List Byte) (c : TorCmd) (s : State) (t : State) (v : State), p < 64 ∧ q < 8 ∧ s.torNext p q 4 = some c ∧ c.nat 4 1 < 64 ∧ s.redRd R.TOR_RED_VALID (c.nat 4 1) = 1 ∧ s.redRd R.TOR_RED_PARTITION (c.nat 4 1) = p ∧ lenOk c = true ∧ c.len % 256 = 0 ∧ c.started = true ∧ (s.redChunks.filter (fun (x : RedChunk) => x.group == c.nat 4 1)).length < 64 ∧ s.virtReadH (s.tqVirt p q c.id) ((c.nat 0x10 8 + 256 * c.sent) % 2 ^ 48) 256 host = (.ok bs, t) ∧ v = t.updTor c.id (fun (x : TorCmd) => { x with started := true, sent := x.sent + 1, base := c.base }) ∧ (v.redInput (c.nat 4 1) (c.base + c.sent) 8 (v.gen p) bs).ask = []) ∧
    (∃ (p : Nat) (q : Nat) (id : Nat) (c : TorCmd) (s : State), p < 64 ∧ q < 8 ∧ s.torCmds.find? (fun (c : TorCmd) => c.id == id && c.part == p && c.queue == q && c.started) = some c) ∧
    (∃ (len : _) (x : Nat × Nat), x ∈ packets len) :=
  ⟨⟨63, 7, (s0.wr R.TOR_Q_CFG_ENABLE 0 [63, 7] 1), by decide +kernel⟩,
   ⟨0, 0, (heres tqs (tqs.tqVirt 0 0).agent 0 (zeros 4)), _, 0, ⟨by decide +kernel, fst_eq (by decide +kernel), by decide +kernel, by decide +kernel⟩⟩,
   ⟨0, 0, [], (zeros 256), (torCmdOf 1 false), (heres ({ tqs with torCmds := [torCmdOf 1 false] }) (tqs.tqVirt 0 0 2).agent 0 (zeros 256)), _, ⟨by decide +kernel, by decide +kernel, by decide +kernel, by decide +kernel, fst_eq (by decide +kernel), by decide +kernel⟩⟩,
   ⟨0, 0, (torCmdOf 2 false), (({ ({ put up [(R.TOR_Q_CFG_ENABLE, 0, [0, 0], 1), (R.XLT_CTX_CFG_ENABLE, 0, [0, 0], 1)] with tlbs := [(0, aTlb)] } : State) with torCmds := [torCmdOf 2 false] } : State)), by decide +kernel⟩,
   ⟨0, 0, (torCmdOf 3 false), (({ ({ put up [(R.TOR_Q_CFG_ENABLE, 0, [0, 0], 1), (R.XLT_CTX_CFG_ENABLE, 0, [0, 0], 1)] with tlbs := [(0, aTlb)] } : State) with torCmds := [torCmdOf 3 false] } : State)), by decide +kernel⟩,
   ⟨0, 0, [], (zeros 256), (torCmdOf 4 true), (heres ({ tqs.wr R.TOR_RED_VALID 0 [0] 1 with torCmds := [torCmdOf 4 true] }) (tqs.tqVirt 0 0 2).agent 0 (zeros 256)), _, _, ⟨by decide +kernel, by decide +kernel, by decide +kernel, by decide +kernel, by decide +kernel, by decide +kernel, by decide +kernel, by decide +kernel, by decide +kernel, by decide +kernel, fst_eq (by decide +kernel), rfl, by decide +kernel⟩⟩,
   ⟨0, 0, 2, (torCmdOf 1 true), (({ ({ put up [(R.TOR_Q_CFG_ENABLE, 0, [0, 0], 1), (R.XLT_CTX_CFG_ENABLE, 0, [0, 0], 1)] with tlbs := [(0, aTlb)] } : State) with torCmds := [torCmdOf 1 true] } : State)), by decide +kernel⟩,
   ⟨257, ((256, 1)), by decide +kernel⟩⟩

theorem test_hyps_KennelCommandsComplete_1 :
    (∃ (t : Nat) (s : State), s.knlDue = some (t, true) ∧ s.ask = []) ∧
    (∃ (t : Nat) (ok : Bool) (s : State) (v : State) (u : State), s.knlDue = some (t, false) ∧ s.knlCkpt.length ≤ s.rd R.KNL_LOG_SIZE 0 ∧ (({ s with knlDue := none, knlTick := t } : State).wr R.KNL_STATUS_STATE 0 [] 2).knlWrites ((List.range 4).map (fun d => (0, s.knlStageBase + d * 768 * 1024, s.knlBitmap d))) = (ok, v) ∧ u = (if ok && (v.torUp 0 || v.torUp 4) then v else v.knlAbandon) ∧ u.ask = []) ∧
    (∃ (t : Nat) (m : SMap Nat) (s : State) (u : State), s.knlDue = some (t, false) ∧ s.rd R.KNL_LOG_SIZE 0 < s.knlCkpt.length ∧ m = s.knlCkpt.foldl (fun (m : SMap Nat) (e : Nat × Nat) => SMap.put 0 m e.1 (SMap.get 0 m e.1 ||| e.2)) s.knlDirty ∧ u = ((({ s with knlDue := none, knlDirty := m, knlCkpt := [], knlFrozen := [], knlStage := [] } : State).wr R.KNL_EVENT_OVERFLOW 0 [] 1).knlErr).pumpHome ∧ u.ask = []) ∧
    (∃ (g : Nat) (bs : List Byte) (s : State) (s1 : State) (s2 : State) (u : State), g ∈ s.knlFrozen ∧ s.knlStage.length < s.rd R.KNL_STAGE_SIZE 0 - 48 ∧ s.knlRead g = (some bs, s1) ∧ s1.knlWrites [(g, s1.knlStageBase + (48 + s.knlStage.length) * 2 ^ 16, bs)] = (true, s2) ∧ u = ({ s2 with knlStage := s2.knlStage ++ [(g, bs)], knlFrozen := s2.knlFrozen.filter (· != g) } : State).pumpHome ∧ u.ask = []) ∧
    (∃ (l : List (Nat × List Byte)) (s : State) (s1 : State), s.knlState = 2 ∧ s.torUp 0 = true ∧ s.knlLogOf (s.knlCkpt.map (·.1)) = (some l, s1)) ∧
    (∃ (tick : Nat) (count : Nat) (digest : List Byte) (data : List Byte) (gs : List Nat) (s : State), (gs.length ≠ count ∨ data.length ≠ count * 2 ^ 16 ∨ shake256 64 data ≠ digest) ∧ s.ask = []) ∧
    (∃ (tick : Nat) (gs : List Nat) (data : List Byte) (ok : Bool) (s : State) (v : State), data.length = gs.length * 2 ^ 16 ∧ gs.length ≤ s.rd R.KNL_LOG_SIZE 0 ∧ 2 * s.rd R.KNL_LOG_SIZE 0 ≤ s.rd R.KNL_STORE_SIZE 0 ∧ (∀ g ∈ gs, g + 2 * s.rd R.KNL_LOG_SIZE 0 < s.rd R.KNL_STORE_SIZE 0) ∧ s.knlWrites ((gs.zip (List.range gs.length)).map (fun x => (x.1, s.knlStoreBase + (s.rd R.KNL_STORE_SIZE 0 - 2 * s.rd R.KNL_LOG_SIZE 0 + s.knlLog * s.rd R.KNL_LOG_SIZE 0 + x.2) * 2 ^ 16, (data.drop (x.2 * 2 ^ 16)).take (2 ^ 16))) ++ (gs.zip (List.range gs.length)).map (fun x => (x.1, s.knlStoreBase + x.1 * 2 ^ 16, (data.drop (x.2 * 2 ^ 16)).take (2 ^ 16)))) = (ok, v) ∧ v.ask = []) ∧
    (∃ (g : Nat) (s : State), s.torUp 0 = true ∧ s.knlState ≠ 3 ∧ s.ask = []) :=
  ⟨⟨9, ({ s0 with knlDue := some (9, true) }), by decide +kernel⟩,
   ⟨5, _, bare, bareRun, _, ⟨by decide +kernel, by decide +kernel, by rw [bare_eq]; exact snd_eq (bare_writes _), rfl, bare_end _⟩⟩,
   ⟨5, _, ({ s0 with knlDue := some (5, false), knlCkpt := [(0, 1), (3, 7)] }), _, ⟨by decide +kernel, by decide +kernel, rfl, rfl, by decide +kernel⟩⟩,
   ⟨7, [], ({ s0.wr R.KNL_STAGE_SIZE 0 [] 49 with knlFrozen := [7] }), _, _, _, ⟨by decide +kernel, by decide +kernel, fst_eq (by decide +kernel), fst_eq (by decide +kernel), rfl, by decide +kernel⟩⟩,
   ⟨[], ((torUpOn 0).wr R.KNL_STATUS_STATE 0 [] 2), _, ⟨by decide +kernel, by decide +kernel, fst_eq (by decide +kernel)⟩⟩,
   ⟨0, 0, [], [], [1], s0, ⟨Or.inl (by decide +kernel), by decide +kernel⟩⟩,
   ⟨0, [], [], true, s0, _, ⟨by decide +kernel, by decide +kernel, by decide +kernel, by decide +kernel, fst_eq (by decide +kernel), by decide +kernel⟩⟩,
   ⟨0, (torUpOn 0), by decide +kernel⟩⟩

theorem test_hyps_KennelCommandsComplete_2 :
    (∃ (g : Nat) (s : State), s.ask = []) ∧
    (∃ (tick : Nat) (image : List Byte) (ok : Bool) (s : State) (v : State), s.knlState = 3 ∧ s.knlWrites ((List.range (s.knlRegions.foldl (fun k r => k + r.2) 0)).filterMap (fun g => (knlPlace s.knlRegions g).map (fun a => (g, a, padTo (2 ^ 16) (image.drop (g * 2 ^ 16)))))) = (ok, v) ∧ v.ask = []) ∧
    (∃ (tick : Nat) (image : List Byte) (s : State), s.knlState = 3 ∧ s.ask = [] ∧ s.rd R.KNL_CTRL_ENABLE 0 < 2) :=
  ⟨⟨0, ({ s0 with knlDue := some (9, true) }), by decide +kernel⟩,
   ⟨0, [], true, (s0.wr R.KNL_STATUS_STATE 0 [] 3), _, ⟨by decide +kernel, fst_eq (by decide +kernel), by decide +kernel⟩⟩,
   ⟨0, [], (s0.wr R.KNL_STATUS_STATE 0 [] 3), by decide +kernel⟩⟩

theorem test_hyps_SidebandCommandsComplete :
    (∃ (src : Nat) (seq : Nat) (g : Nat) (payload : List Byte) (same : Bool) (s : State), src < 256 ∧ seq < 2 ^ 16 ∧ s.sbrUp = true ∧ s.sbrPos < 255 ∧ s.rd R.LCS_STATE_STATE 0 ≠ 3 ∧ s.ask = []) ∧
    (∃ (dest : Nat) (src : Nat) (seq : Nat) (g : Nat) (payload : List Byte) (query : Bool) (restore : Bool) (same : Bool) (s : State), dest < 255 ∧ src < 256 ∧ s.sbrUp = true ∧ dest ≠ s.sbrPos ∧ s.ask = []) ∧
    (∃ (src : Nat) (seq : Nat) (s : State), src < 256 ∧ s.sbrUp = true ∧ s.sbrPos < 256) ∧
    (∃ (seq : Nat) (x : SideFrame) (s : State), s.sideOut.find? (fun (x : SideFrame) => x.seq == seq) = some x ∧ x.tries < 3) ∧
    (∃ (seq : Nat) (x : SideFrame) (s : State), s.sideOut.find? (fun (x : SideFrame) => x.seq == seq) = some x ∧ 3 ≤ x.tries) ∧
    (∃ (value : Nat) (hop : Nat) (s : State), value < 2 ^ R.SBR_STATUS_POSITION.width ∧ s.sbrUp = true ∧ (s.rd R.TCK_CTRL_SOURCE 0 < 2 ∨ value = 0)) ∧
    (∃ (value : Nat) (hop : Nat) (ok : Bool) (s : State), s.sbrUp = true ∧ 2 ≤ s.rd R.TCK_CTRL_SOURCE 0 ∧ value ≠ 0) ∧
    (∃ (hop : Nat) (s : State), s.sbrUp = false) :=
  ⟨⟨255, 65535, 0, [], false, (put s0 [(R.SBR_STATUS_STATE, 0, [], 2), (R.SBR_STATUS_POSITION, 0, [], 254)]), by decide +kernel⟩,
   ⟨254, 255, 0, 0, [], false, false, false, (put s0 [(R.SBR_STATUS_STATE, 0, [], 2)]), by decide +kernel⟩,
   ⟨0, 0, (put s0 [(R.SBR_STATUS_STATE, 0, [], 2)]), by decide +kernel⟩,
   ⟨4, (⟨2, 9, 4, [], 2⟩), ({ s0 with sideOut := [⟨2, 9, 4, [], 2⟩] }), by decide +kernel⟩,
   ⟨4, (⟨2, 9, 4, [], 3⟩), ({ s0 with sideOut := [⟨2, 9, 4, [], 3⟩] }), by decide +kernel⟩,
   ⟨254, 0, (put s0 [(R.SBR_STATUS_STATE, 0, [], 2)]), by decide +kernel⟩,
   ⟨77, 0, false, (put s0 [(R.SBR_STATUS_STATE, 0, [], 2), (R.SBR_STATUS_POSITION, 0, [], 254), (R.TCK_CTRL_SOURCE, 0, [], 2)]), by decide +kernel⟩,
   ⟨0, s0, by decide +kernel⟩⟩

theorem test_hyps_HostHeelCommandsComplete :
    (∃ (b : Nat) (s : State), b < 32) ∧
    (∃ (k : Nat) (second : Bool) (s : State), k < 5 ∧ s.heel = false) ∧
    (∃ (k : Nat) (s : State), k < 5 ∧ s.heel = true) ∧
    (∃ (s : State), s.heel = true ∧ (s.rd R.HEL_HOST_STATUS_CAUSE 0 ≠ 0 ∨ s.rd R.PCI_STATUS_SPEED 0 = 0 ∨ ∃ fn < 65, ∃ b < 32, bit (s.cfgGet fn 4) b = true ∧ bit (s.cfgGet fn 5) b = false)) ∧
    (∃ (s : State), s.heel = true ∧ s.rd R.HEL_HOST_STATUS_CAUSE 0 = 0 ∧ s.rd R.PCI_STATUS_SPEED 0 ≠ 0 ∧ (∀ fn < 65, ∀ b < 32, bit (s.cfgGet fn 4) b = true → bit (s.cfgGet fn 5) b = true)) ∧
    (∃ (s : State), s.heel = false) :=
  ⟨⟨31, s0, by decide +kernel⟩,
   ⟨4, false, s0, by decide +kernel⟩,
   ⟨4, (s0.wr R.HEL_HOST_STATUS_ACTIVE 0 [] 1), by decide +kernel⟩,
   ⟨(s0.wr R.HEL_HOST_STATUS_ACTIVE 0 [] 1), by decide +kernel⟩,
   ⟨(put s0 [(R.HEL_HOST_STATUS_ACTIVE, 0, [], 1), (R.PCI_STATUS_SPEED, 0, [], 6)]), by decide +kernel⟩,
   ⟨s0, by decide +kernel⟩⟩

theorem test_hyps_HostCompletionCommandsComplete_1 :
    (∃ (tag : Nat) (data : List Byte) (h : HostRead) (s : State), s.hreads.find? (fun (h : HostRead) => h.tag == tag) = some h ∧ h.state = 0 ∧ s.heel = false ∧ h.fgen = s.rd R.PCI_FN_STATE_FGEN 0 [h.fn] ∧ h.got.length + data.length = h.len) ∧
    (∃ (tag : Nat) (data : List Byte) (h : HostRead) (s : State), s.hreads.find? (fun (h : HostRead) => h.tag == tag) = some h ∧ h.state = 0 ∧ s.heel = false ∧ h.fgen = s.rd R.PCI_FN_STATE_FGEN 0 [h.fn] ∧ h.got.length + data.length < h.len) ∧
    (∃ (tag : Nat) (st : Nat) (ep : Bool) (data : List Byte) (s : State), (∀ h ∈ s.hreads, h.tag ≠ tag) ∧ s.heel = false) ∧
    (∃ (tag : Nat) (st : Nat) (ep : Bool) (data : List Byte) (h : HostRead) (s : State), s.hreads.find? (fun (h : HostRead) => h.tag == tag) = some h ∧ h.state ≠ 1 ∧ h.state ≠ 3 ∧ s.heel = false ∧ h.fgen ≠ s.rd R.PCI_FN_STATE_FGEN 0 [h.fn]) ∧
    (∃ (tag : Nat) (st : Nat) (ep : Bool) (data : List Byte) (h : HostRead) (s : State), s.hreads.find? (fun (h : HostRead) => h.tag == tag) = some h ∧ (h.state = 1 ∨ (h.state = 3 ∧ s.heel = false))) ∧
    (∃ (tag : Nat) (st : Nat) (data : List Byte) (h : HostRead) (s : State), s.hreads.find? (fun (h : HostRead) => h.tag == tag) = some h ∧ h.state = 0 ∧ s.heel = false ∧ h.fgen = s.rd R.PCI_FN_STATE_FGEN 0 [h.fn] ∧ st ≠ 0) ∧
    (∃ (tag : Nat) (dt : Nat) (h : HostRead) (s : State), s.hreads.find? (fun (h : HostRead) => h.tag == tag && h.state == 0) = some h ∧ s.waitedFor h (s.cplTimeout h.fn) dt = true ∧ h.fgen = s.rd R.PCI_FN_STATE_FGEN 0 [h.fn]) ∧
    (∃ (tag : Nat) (dt : Nat) (h : HostRead) (s : State), s.hreads.find? (fun (h : HostRead) => h.tag == tag && h.state == 0) = some h ∧ (s.waitedFor h (s.cplTimeout h.fn) dt = false ∨ h.fgen ≠ s.rd R.PCI_FN_STATE_FGEN 0 [h.fn])) :=
  ⟨⟨5, (zeros 4), (⟨5, 64, 0, 1, 8, zeros 4, 0, 0⟩), ({ s0 with hreads := [⟨5, 64, 0, 1, 8, zeros 4, 0, 0⟩] }), by decide +kernel⟩,
   ⟨5, (zeros 3), (⟨5, 64, 0, 1, 8, zeros 4, 0, 0⟩), ({ s0 with hreads := [⟨5, 64, 0, 1, 8, zeros 4, 0, 0⟩] }), by decide +kernel⟩,
   ⟨6, 0, false, [], ({ s0 with hreads := [⟨5, 64, 0, 1, 8, [], 0, 0⟩] }), by decide +kernel⟩,
   ⟨5, 0, false, [], (⟨5, 64, 1, 1, 8, [], 0, 0⟩), ({ s0 with hreads := [⟨5, 64, 1, 1, 8, [], 0, 0⟩] }), by decide +kernel⟩,
   ⟨5, 0, false, [], (⟨5, 64, 0, 1, 8, [], 1, 0⟩), ({ s0 with hreads := [⟨5, 64, 0, 1, 8, [], 1, 0⟩] }), by decide +kernel⟩,
   ⟨5, 4, [], (⟨5, 64, 0, 1, 8, [], 0, 0⟩), ({ s0 with hreads := [⟨5, 64, 0, 1, 8, [], 0, 0⟩] }), by decide +kernel⟩,
   ⟨5, 100000000000, (⟨5, 64, 0, 1, 8, [], 0, 0⟩), ({ s0 with hreads := [⟨5, 64, 0, 1, 8, [], 0, 0⟩] }), by decide +kernel⟩,
   ⟨5, 0, (⟨5, 64, 1, 1, 8, [], 0, 0⟩), ({ s0 with hreads := [⟨5, 64, 1, 1, 8, [], 0, 0⟩] }), by decide +kernel⟩⟩

theorem test_hyps_HostCompletionCommandsComplete_2 : (∃ (fn : Nat) (s : State), fn < 65) :=
  ⟨64, s0, by decide +kernel⟩

theorem test_hyps_FunctionCommandsComplete_1 :
    (∃ (fn : Nat) (s : State), fn < 65 ∧ s.rdB R.PCI_FN_STATE_BME 0 [fn] = true) ∧
    (∃ (fn : Nat) (s : State), fn < 65 ∧ s.rdB R.PCI_FN_STATE_BME 0 [fn] = false) ∧
    (∃ (fn : Nat) (s : State), 1 ≤ fn ∧ fn < 65 ∧ s.fnExists fn = false) ∧
    (∃ (on : Bool) (n : Nat) (s : State), n < 65 ∧ s.vfEnable = true ∧ (on = false ∨ n ≤ s.numVfs)) ∧
    (∃ (st : Nat) (s : State), st < 4) ∧
    (∃ (fn : Nat) (s : State), 1 ≤ fn ∧ fn < 65 ∧ s.fnExists fn = true ∧ s.cfgGet fn 9 % 4 ≠ 3) ∧
    (∃ (fn : Nat) (v : Nat) (s : State), fn < 65 ∧ v < (if fn = 0 then 64 else 31)) ∧
    (∃ (v : Nat) (s : State), v < 64 ∧ s.fnMask 0 = false ∧ s.heel = false ∧ s.bme 0 = true ∧ bit (s.rd R.PCI_MSIX_PBA 0) v = true) :=
  ⟨⟨64, (s0.wr R.PCI_FN_STATE_BME 0 [64] 1), by decide +kernel⟩,
   ⟨64, s0, by decide +kernel⟩,
   ⟨64, s0, by decide +kernel⟩,
   ⟨true, 64, vfs, by decide +kernel⟩,
   ⟨3, s0, by decide +kernel⟩,
   ⟨64, vfs, by decide +kernel⟩,
   ⟨64, 30, s0, by decide +kernel⟩,
   ⟨63, (put s0 [(R.PCI_FN_STATE_BME, 0, [0], 1), (R.PCI_MSIX_PBA, 0, [], 2 ^ 63)]), by decide +kernel⟩⟩

theorem test_hyps_FunctionCommandsComplete_2 :
    (∃ (fn : Nat) (key : Nat) (value : Nat) (write : Bool) (s : State), fn < 65 ∧ key < 4096 ∧ value < 2 ^ 32 ∧ s.crs fn = true) ∧
    (∃ (fn : Nat) (key : Nat) (value : Nat) (write : Bool) (s : State), fn < 65 ∧ key < 4096 ∧ value < 2 ^ 32 ∧ s.crs fn = false ∧ s.fnExists fn = false) ∧
    (∃ (fn : Nat) (key : Nat) (value : Nat) (write : Bool) (s : State), fn < 65 ∧ key < 4096 ∧ value < 2 ^ 32 ∧ s.crs fn = false ∧ s.fnExists fn = true ∧ write = true) ∧
    (∃ (fn : Nat) (key : Nat) (value : Nat) (write : Bool) (s : State), fn < 65 ∧ key < 4096 ∧ value < 2 ^ 32 ∧ s.crs fn = false ∧ s.fnExists fn = true ∧ write = false) ∧
    (∃ (v : Nat) (s : State), v < 2 ^ 32 ∧ bit v 15 = true) :=
  ⟨⟨64, 0, 0, false, (vfs.wr R.PCI_FN_STATE_FLR_BUSY 0 [64] 1), by decide +kernel⟩,
   ⟨64, 4095, (2 ^ 32 - 1), false, (s0.wr R.PCI_STATUS_READY 0 [] 1), by decide +kernel⟩,
   ⟨64, 4095, (2 ^ 32 - 1), true, (vfs.wr R.PCI_STATUS_READY 0 [] 1), by decide +kernel⟩,
   ⟨64, 4095, (2 ^ 32 - 1), false, (vfs.wr R.PCI_STATUS_READY 0 [] 1), by decide +kernel⟩,
   ⟨(2 ^ 15), s0, by decide +kernel⟩⟩

theorem test_hyps_HostWindowCommandsComplete_1 :
    (∃ (off : Nat) (len : Nat) (value : Nat) (dt : Nat) (s : State), value < 2 ^ 64 ∧ off + len ≤ 2 ^ 28 ∧ regSize off len = true ∧ s.barPosted 0 = false) ∧
    (∃ (fn : Nat) (off : Nat) (len : Nat) (value : Nat) (dt : Nat) (o : Nat) (s : State), 1 ≤ fn ∧ fn < 65 ∧ value < 2 ^ 64 ∧ off + len ≤ 2 ^ 19 ∧ regSize off len = true ∧ s.fnExists fn = true ∧ s.heel = false ∧ bar0Place fn off = some (0, o)) ∧
    (∃ (fn : Nat) (off : Nat) (len : Nat) (value : Nat) (dt : Nat) (o : Nat) (v : Nat) (s : State) (t : State), 1 ≤ fn ∧ fn < 65 ∧ value < 2 ^ 64 ∧ off + len ≤ 2 ^ 19 ∧ regSize off len = true ∧ s.fnExists fn = true ∧ s.heel = false ∧ s.barPosted fn = false ∧ bar0Place fn off = some (0, o) ∧ s.busRead 0 o len = (v, t)) ∧
    (∃ (fn : Nat) (off : Nat), 1 ≤ fn ∧ fn < 65 ∧ off < 2 ^ 19) ∧
    (∃ (fn : Nat) (off : Nat) (len : Nat) (value : Nat) (dt : Nat) (s : State), fn < 65 ∧ value < 2 ^ 64 ∧ s.fnExists fn = true ∧ off + len ≤ bar0Size fn ∧ regSize off len = false) ∧
    (∃ (fn : Nat) (off : Nat) (len : Nat) (s : State), fn < 65 ∧ s.inBar2 fn off len = true ∧ s.barPosted fn = true) ∧
    (∃ (fn : Nat) (off : Nat) (len : Nat) (bs : List Byte) (s : State) (t : State), fn < 65 ∧ s.inBar2 fn off len = true ∧ s.barPosted fn = false ∧ s.bar2Get fn off len = (some bs, t) ∧ t.ask = []) ∧
    (∃ (fn : Nat) (off : Nat) (len : Nat) (s : State) (t : State), fn < 65 ∧ s.inBar2 fn off len = true ∧ s.barPosted fn = false ∧ s.bar2Get fn off len = (none, t) ∧ t.ask = []) :=
  ⟨⟨(2 ^ 28 - 8), 8, 0, 0, s0, by decide +kernel⟩,
   ⟨64, 0x5FFFC, 4, 0, 0, (0x3000000 + 63 * 0x10000 + 0xFFFC), vfs, by decide +kernel⟩,
   ⟨64, 0x5FFFC, 4, 0, 0, (0x3000000 + 63 * 0x10000 + 0xFFFC), 0, vfs, _, ⟨by decide +kernel, by decide +kernel, by decide +kernel, by decide +kernel, by decide +kernel, by decide +kernel, by decide +kernel, by decide +kernel, by decide +kernel, fst_eq (by decide +kernel)⟩⟩,
   ⟨64, (2 ^ 19 - 1), by decide +kernel⟩,
   ⟨64, (2 ^ 19 - 2), 2, 0, 0, vfs, by decide +kernel⟩,
   ⟨0, 0, 1024, (withReq s0 { aReq with owner := .post (.bar 0 1) }), ⟨by decide +kernel, by decide +kernel, by decide +kernel⟩⟩,
   ⟨0, 0, 1024, (zeros 1024), (heres up .pcie 0 (zeros 1024)), _, ⟨by decide +kernel, by decide +kernel, by decide +kernel, fst_eq (by decide +kernel), by decide +kernel⟩⟩,
   ⟨0, 0, 1024, ((s0.wr R.HEL_HOST_STATUS_ACTIVE 0 [] 1)), _, ⟨by decide +kernel, by decide +kernel, by decide +kernel, fst_eq (by decide +kernel), by decide +kernel⟩⟩⟩

theorem test_hyps_HostWindowCommandsComplete_2 :
    (∃ (fn : Nat) (off : Nat) (len : Nat) (s : State), fn < 65 ∧ s.inBar2 fn off len = false) ∧
    (∃ (fn : Nat) (off : Nat) (data : List Byte) (s : State), fn < 65 ∧ s.inBar2 fn off data.length = true) ∧
    (∃ (fn : Nat) (off : Nat) (data : List Byte) (s : State), s.bar2Off fn off data.length = true) ∧
    (∃ (off : Nat) (data : List Byte) (s : State) (t : State), s.bar2Off 0 off data.length = false ∧ ((({ s with nextId := s.nextId + 1 } : State).bar2Touch (s.bar2Dpa off) data.length).post .pcie (.bar 0 (s.nextId + 1)) (s.bar2Dpa off) data) = some t) ∧
    (∃ (fn : Nat) (off : Nat) (len : Nat) (s : State), s.barShut = true) ∧
    (∃ (off : Nat) (len : Nat) (s : State), off + len ≤ 2 ^ 20) ∧
    (∃ (s : State), s.host.dirGen % 2 = 0) ∧
    (∃ (s : State), s.host.dirGen % 2 = 1) :=
  ⟨⟨64, 0, 1024, ((s0.wr R.HEL_HOST_STATUS_ACTIVE 0 [] 1)), ⟨by decide +kernel, by decide +kernel⟩⟩,
   ⟨0, 0, [7], up, ⟨by decide +kernel, by decide +kernel⟩⟩,
   ⟨0, 0, [], (s0.wr R.HEL_HOST_STATUS_ACTIVE 0 [] 1), by decide +kernel⟩,
   ⟨0, [7], up, _, ⟨by decide +kernel, get_eq (by decide +kernel)⟩⟩,
   ⟨0, 0, 0, (s0.wr R.HEL_HOST_STATUS_ACTIVE 0 [] 1), by decide +kernel⟩,
   ⟨0x80000, 64, s0, by decide +kernel⟩,
   ⟨s0, by decide +kernel⟩,
   ⟨({ s0 with host := { s0.host with dirGen := 1 } }), by decide +kernel⟩⟩

theorem test_hyps_HostWindowCommandsComplete_3 :
    (∃ (speed : Nat) (width : Nat) (flit : Bool) (s : State), 1 ≤ speed ∧ speed < 7 ∧ 1 ≤ width ∧ width < 17 ∧ s.rd R.LCS_STATE_STATE 0 ≠ 3) ∧
    (∃ (speed : Nat) (width : Nat) (flit : Bool) (s : State), 1 ≤ speed ∧ speed < 7 ∧ 1 ≤ width ∧ width < 17 ∧ s.rd R.LCS_STATE_STATE 0 = 3) ∧
    (∃ (port : Nat) (s : State), port < 8 ∧ s.boot.mainOff = false ∧ s.rd R.PCI_STATUS_DSTATE 0 = 3 ∧ bit (s.cfgGet 0 9) 8 = true ∧ s.rdB R.PCI_CTRL_WAKE_SBR 0 = true) ∧
    (∃ (port : Nat) (sbr : Bool) (ports : List Nat) (s : State), port < 8 ∧ s.boot.mainOff = true ∧ s.host.wake = some (sbr, true, ports) ∧ port ∈ ports) ∧
    (∃ (w : Nat) (s : State), (w = 8 ∨ w = 16) ∧ s.rdB R.PCI_CTRL_L0P_AUTO 0 = true ∧ s.rd R.PCI_STATUS_SPEED 0 ≠ 0 ∧ s.rd R.PCI_STATUS_LPOWER 0 ≠ 2) ∧
    (∃ (restore : Bool) (same : Bool) (g : Nat) (s : State), s.ask = []) ∧
    (∃ (restore : Bool) (same : Bool) (g : Nat) (s : State), s.lcs = 3 ∧ s.ask = []) ∧
    (∃ (same : Bool) (g : Nat) (s : State), s.lcs ≠ 3 ∧ s.ask = []) :=
  ⟨⟨6, 16, false, s0, by decide +kernel⟩,
   ⟨6, 16, false, (s0.wr R.LCS_STATE_STATE 0 [] 3), by decide +kernel⟩,
   ⟨7, ({ put s0 [(R.PCI_STATUS_DSTATE, 0, [], 3), (R.PCI_CTRL_WAKE_SBR, 0, [], 1)] with config := [(9, 256)] }), by decide +kernel⟩,
   ⟨7, false, [7], ({ s0 with boot := { s0.boot with mainOff := true }, host := { s0.host with wake := some (false, true, [7]) } }), by decide +kernel⟩,
   ⟨8, (put s0 [(R.PCI_CTRL_L0P_AUTO, 0, [], 1), (R.PCI_STATUS_SPEED, 0, [], 6)]), by decide +kernel⟩,
   ⟨false, false, 0, (s0.wr R.LCS_STATE_STATE 0 [] 3), by decide +kernel⟩,
   ⟨false, false, 0, (s0.wr R.LCS_STATE_STATE 0 [] 3), by decide +kernel⟩,
   ⟨false, 0, s0, by decide +kernel⟩⟩

theorem test_hyps_HostWindowCommandsComplete_4 : (∃ (same : Bool) (g : Nat) (s : State), s.lcs ≠ 3 ∧ (s.knlServe same g).ask = []) :=
  ⟨false, 0, s0, by decide +kernel⟩

theorem test_hyps_PartitionCommandsComplete_1 :
    (∃ (p : Nat) (s : State), s.rdB R.PAR_STATUS_RESET_BUSY 0 [p] = true) ∧
    (∃ (p : Nat) (s : State), p < 64 ∧ s.rdB R.PAR_STATUS_RESET_BUSY 0 [p] = true ∧ s.oldGen p = []) ∧
    (∃ (p : Nat) (s : State), p < 64 ∧ s.rdB R.PAR_STATUS_RESET_BUSY 0 [p] = true ∧ s.oldGen p ≠ []) ∧
    (∃ (p : Nat) (s : State), p < 64 ∧ s.rdB R.PAR_STATUS_ZERO_BUSY 0 [p] = false ∧ (∀ c < 16, s.rd R.PAR_CTX_CFG_STATE 0 [p, c] = 0) ∧ s.islUp (s.partIsland p) = true) ∧
    (∃ (p : Nat) (c : Nat) (s : State), p < 64 ∧ c < 16 ∧ s.rd R.PAR_CTX_CFG_STATE 0 [p, c] ≠ 0) ∧
    (∃ (p : Nat) (s : State), p < 64 ∧ s.rdB R.PAR_STATUS_ZERO_BUSY 0 [p] = true ∧ (∃ r ∈ s.reqs, r.owner = .post (.zero p))) ∧
    (∃ (p : Nat) (s : State), p < 64 ∧ (∀ r ∈ s.reqs, r.owner ≠ .post (.zero p))) ∧
    (∃ (p : Nat) (c : Nat) (v : Nat) (s : State), p < 64 ∧ c < 16 ∧ v < 2 ^ 32 ∧ bit v 31 = true ∧ s.rd R.PAR_CTX_CFG_STATE 0 [p, c] = 0) :=
  ⟨⟨63, (s0.wr R.PAR_STATUS_RESET_BUSY 0 [63] 1), by decide +kernel⟩,
   ⟨63, (s0.wr R.PAR_STATUS_RESET_BUSY 0 [63] 1), by decide +kernel⟩,
   ⟨63, (withReq (s0.wr R.PAR_STATUS_RESET_BUSY 0 [63] 1) { aReq with part := 63, gen := 9 }), by decide +kernel⟩,
   ⟨63, s0, by decide +kernel⟩,
   ⟨63, 15, (s0.wr R.PAR_CTX_CFG_STATE 0 [63, 15] 3), by decide +kernel⟩,
   ⟨63, (withReq (s0.wr R.PAR_STATUS_ZERO_BUSY 0 [63] 1) { aReq with owner := .post (.zero 63) }), by decide +kernel⟩,
   ⟨63, (s0.wr R.PAR_CTX_CFG_STATE 0 [63, 15] 3), by decide +kernel⟩,
   ⟨63, 15, 0xC0000000, s0, by decide +kernel⟩⟩

theorem test_hyps_PartitionCommandsComplete_2 :
    (∃ (p : Nat) (c : Nat) (v : Nat) (s : State), p < 64 ∧ c < 16 ∧ v < 2 ^ 32 ∧ bit v 31 = true ∧ s.rd R.PAR_CTX_CFG_STATE 0 [p, c] = 3) ∧
    (∃ (p : Nat) (c : Nat) (v : Nat) (s : State), p < 64 ∧ c < 16 ∧ v < 2 ^ 32 ∧ bit v 31 = false ∧ s.ctxLive p c = true ∧ bits v 30 1 = s.rd R.PAR_CTX_CFG_CONFIDENTIAL 0 [p, c] ∧ s.ctxBusy p c = false) ∧
    (∃ (p : Nat) (c : Nat) (v : Nat) (s : State), p < 64 ∧ c < 16 ∧ v < 2 ^ 32 ∧ bit v 31 = false ∧ s.ctxLive p c = true ∧ bits v 30 1 = s.rd R.PAR_CTX_CFG_CONFIDENTIAL 0 [p, c] ∧ s.ctxBusy p c = true) ∧
    (∃ (v : Nat) (s : State), v < 2 ^ 32 ∧ s.units = [] ∧ s.dirs = [] ∧ (∀ i < 4, s.rd R.COH_ISL_STATE_STATE 0 [i] ≠ 2) ∧ (∀ p < 64, s.rdB R.PAR_CFG_ENABLE 0 [p] = false) ∧ shapeOk (fun d => bits v (2 * d) 2) = true) ∧
    (∃ (v : Nat) (s : State), v < 2 ^ 32 ∧ (∃ d < 4, s.island d ≠ bits v (2 * d) 2) ∧ (s.units ≠ [] ∨ s.dirs ≠ [] ∨ shapeOk (fun d => bits v (2 * d) 2) = false)) :=
  ⟨⟨63, 15, 0x80000000, (s0.wr R.PAR_CTX_CFG_STATE 0 [63, 15] 3), by decide +kernel⟩,
   ⟨63, 15, 0, (s0.wr R.PAR_CTX_CFG_STATE 0 [63, 15] 2), by decide +kernel⟩,
   ⟨63, 15, 0, ({ s0.wr R.PAR_CTX_CFG_STATE 0 [63, 15] 2 with invals := [{ anInval with part := 63, ctx := 15 }] }), by decide +kernel⟩,
   ⟨0x50, s0, by decide +kernel⟩,
   ⟨0x44, s0, by decide +kernel⟩⟩

theorem test_hyps_AttestationCommandsComplete_1 :
    (∃ (p : Nat) (m : Mgmt) (s : State), MgmtReady s p 0x40 m (m.unusedSet false true true 0 0x34) ∧ (s.attest m).ask = []) ∧
    (∃ (p : Nat) (m : Mgmt) (s : State), MgmtReady s p 0x43 m (m.unusedSet false true true 0 0x14) ∧ (s.getIdentity m).ask = []) ∧
    (∃ (m : Mgmt) (len : Nat) (f : State → Nat → Nat → List Byte) (s : State), m.out = [] ∧ m.len < len) ∧
    (∃ (m : Mgmt) (len : Nat) (f : State → Nat → Nat → List Byte) (s : State), m.out = [] ∧ len ≤ m.len ∧ s.signSpent = true) ∧
    (∃ (m : Mgmt) (len : Nat) (f : State → Nat → Nat → List Byte) (s : State), m.out = [] ∧ len ≤ m.len ∧ s.signSpent = false ∧ s.signer = none) ∧
    (∃ (m : Mgmt) (len : Nat) (f : State → Nat → Nat → List Byte) (s : State) (k : _), m.out = [] ∧ len ≤ m.len ∧ s.signSpent = false ∧ s.signer = some k ∧ s.sec.cert ≠ .none ∧ s.rdB R.SEC_STATUS_ACTIVATING 0 = false ∧ s.tokens = 0) ∧
    (∃ (m : Mgmt) (len : Nat) (f : State → Nat → Nat → List Byte) (s : State) (k : _) (r : _) (t : _), m.out = [] ∧ len ≤ m.len ∧ s.signSpent = false ∧ s.signer = some k ∧ s.sec.cert ≠ .none ∧ s.rdB R.SEC_STATUS_ACTIVATING 0 = false ∧ s.tokens ≠ 0 ∧ s.probe (s.packVirt m.part m.ctx) m.addr len = (.ok r, t)) ∧
    (∃ (m : Mgmt) (bs : List Byte) (r : List Byte) (s : State) (t : State), s.virtWriteV (s.packVirt m.part m.ctx) m.addr bs = (.ok r, t) ∧ (t.mgmtAnswer m 0 bs.length 0).ask = []) :=
  ⟨⟨0, (mgmtOf 0x40 []), (mgmtOn (mgmtOf 0x40 []) 1), by unfold MgmtReady; and_intros <;> decide +kernel⟩,
   ⟨0, (mgmtOf 0x43 []), ({ mgmtOn (mgmtOf 0x43 []) 1 with sec := { s0.sec with cert := .none } }), by unfold MgmtReady; and_intros <;> decide +kernel⟩,
   ⟨(mgmtOf 0x40 (zeros 14 ++ leBytes 4 64)), 65, (fun _ _ _ => []), s0, by decide +kernel⟩,
   ⟨(mgmtOf 0x40 (zeros 14 ++ leBytes 4 64)), 64, (fun _ _ _ => []), s0, by decide +kernel⟩,
   ⟨(mgmtOf 0x40 (zeros 14 ++ leBytes 4 64)), 64, (fun _ _ _ => []), ({ s0.wr R.LCS_STATE_ID_READY 0 [] 0 with sec := { s0.sec with signNext := some 0 } }), by decide +kernel⟩,
   ⟨(mgmtOf 0x40 (zeros 14 ++ leBytes 4 64)), 64, (fun _ _ _ => []), ({ put s0 [(R.LCS_STATE_ID_READY, 0, [], 1)] with sec := { s0.sec with signNext := some 0, tokens := 0 } }), 1, by decide +kernel⟩,
   ⟨((mgmtOf 0x40 (zeros 14 ++ leBytes 4 64))), 64, (fun _ _ _ => []), (atS (mgmtOf 0x40 (zeros 14 ++ leBytes 4 64))), _, _, _, ⟨by decide +kernel, by decide +kernel, by decide +kernel, get_eq (by decide +kernel), by decide +kernel, by decide +kernel, by decide +kernel, rfl⟩⟩,
   ⟨zMgmt, [], [], s0, s0, by decide +kernel⟩⟩

theorem test_hyps_AttestationCommandsComplete_2 :
    (∃ (s : State), s.sec.signNext.getD 0 ≠ s.blocksUsed * 2 ^ 16 ∧ s.signSpent = false) ∧
    (∃ (dt : Nat) (s : State), s.nextToken ≤ (s.at_ dt).now) ∧
    (∃ (dt : Nat) (s : State), (s.at_ dt).now < s.nextToken) ∧
    (∃ (p : Nat) (c : Nat) (i : CtxInfo) (s : State), p < 64 ∧ c < 16 ∧ SMap.look s.ctxs (16 * p + c) = some i ∧ s.confidential p c = true ∧ i.key = none) ∧
    (∃ (p : Nat) (k : Nat) (host : List Byte) (blob : List Byte) (key : List Byte) (m : Mgmt) (s : State) (t : State) (u : State), MgmtReady s p 0x41 m (m.unusedSet true true true 3 0x14) ∧ m.part = p ∧ s.confidential p m.ctx = true ∧ (s.ctxInfo p m.ctx).key = some k ∧ m.len = 1628 ∧ s.virtReadH (s.packVirt p m.ctx) m.addr 1628 host = (.ok blob, t) ∧ t.unwrap p m.ctx k (s.ctxInfo p m.ctx).inst blob = some key ∧ u = (t.setInfo p m.ctx { s.ctxInfo p m.ctx with slots := SMap.ins (s.ctxInfo p m.ctx).slots (m.nat 2 2 % 8) key }).mgmtAnswer m 0 0 0 ∧ u.ask = []) ∧
    (∃ (p : Nat) (host : List Byte) (m : Mgmt) (s : State), MgmtReady s p 0x41 m (m.unusedSet true true true 3 0x14) ∧ m.part = p ∧ s.confidential p m.ctx = false ∧ (s.mgmtAnswer m 9 0 0x11).ask = []) ∧
    (∃ (p : Nat) (host : List Byte) (key : List Byte) (m : Mgmt) (s : State), MgmtReady s p 0x42 m (m.unusedSet true true true 3 0x40 || m.len == 0 || m.len % 64 != 0 || m.nat 0x14 8 % 64 != 0 || decide (2 ^ 47 ≤ m.nat 0x14 8)) ∧ s.decryptJob p = none ∧ m.part = p ∧ s.confidential p m.ctx = true ∧ (s.ctxInfo p m.ctx).weights.length < 1024 ∧ SMap.look (s.ctxInfo p m.ctx).slots (m.nat 2 2 % 8) = some key ∧ s.ask = []) ∧
    (∃ (p : Nat) (n : Nat) (die : Nat) (host : List Byte) (key : List Byte) (ct : List Byte) (r : List Byte) (r' : List Byte) (m : Mgmt) (s : State) (s0 : State) (t : State) (v : State) (u : State) (w : State), p < 64 ∧ s.decryptJob p = some m ∧ s.rd R.PAR_CTX_CFG_STATE 0 [p, m.ctx] = 1 ∧ SMap.look (s.ctxInfo p m.ctx).slots (m.nat 2 2 % 8) = some key ∧ s.engineDie p m.ctx (m.nat 0x14 8) = (die, s0) ∧ s0.readSome (.dog die p m.ctx) m.addr m.len host = (ct, .ok r, t) ∧ t.writeSome (.dog die p m.ctx) (m.nat 0x14 8) (gcmPlain key ((m.cmd.drop 0x1C).take 12) ct) = (n, .ok r', v) ∧ u = (v.setInfo p m.ctx { s.ctxInfo p m.ctx with weights := (s.ctxInfo p m.ctx).weights ++ [(shake256 32 (gcmPlain key ((m.cmd.drop 0x1C).take 12) ct), m.len, m.nat 0x38 8)] }).mgmtAnswer m 0 (leNat ((shake256 32 (gcmPlain key ((m.cmd.drop 0x1C).take 12) ct)).take 8)) (s.ctxInfo p m.ctx).weights.length ∧ w = (((v.writeSome (.dog die p m.ctx) (m.nat 0x14 8) (List.replicate m.len 0)).2.2).secEvent R.SEC_EVENT_AUTH_FAIL).mgmtAnswer m 9 0 0x15 ∧ gcmTag key ((m.cmd.drop 0x1C).take 12) ((m.cmd.drop 0x38).take 8) ct = (m.cmd.drop 0x28).take 16 ∧ u.ask = []) :=
  ⟨⟨({ s0 with sec := { s0.sec with signNext := some 65535 } }), by decide +kernel⟩,
   ⟨10000000000000, s0, by decide +kernel⟩,
   ⟨0, s0, by decide +kernel⟩,
   ⟨63, 15, (⟨0, none, [], []⟩), ({ s0.wr R.PAR_CTX_CFG_CONFIDENTIAL 0 [63, 15] 1 with ctxs := [(1023, ⟨0, none, [], []⟩)] }), by decide +kernel⟩,
   ⟨0, 3, aBlob, aBlob, (gcmPlain aKek (zeros 12) (zeros 32)), keyCmd, keyOn, keyOn1, _, ⟨by unfold MgmtReady; decide +kernel, by decide +kernel, by decide +kernel, by decide +kernel, by decide +kernel, key_read, aBlob_unwrap, rfl, by decide +kernel⟩⟩,
   ⟨0, [], (mgmtOf 0x41 []), (mgmtOn (mgmtOf 0x41 []) 1), by unfold MgmtReady; and_intros <;> decide +kernel⟩,
   ⟨0, [], (zeros 32), ((mgmtOf 0x42 (zeros 14 ++ leBytes 4 64))), (decS (mgmtOf 0x42 (zeros 14 ++ leBytes 4 64)) 1), by unfold MgmtReady; and_intros <;> decide +kernel⟩,
   ⟨0, _, _, [], (zeros 32), (zeros 64), _, _, ((decM goodTag)), (decGo (decM goodTag)), _, _, _, _, _, ⟨by decide +kernel, by decide +kernel, by decide +kernel, by decide +kernel, rfl, rfl, rfl, rfl, rfl, by decide +kernel, by decide +kernel⟩⟩⟩

theorem test_hyps_AttestationCommandsComplete_3 :
    (∃ (p : Nat) (n : Nat) (die : Nat) (host : List Byte) (key : List Byte) (ct : List Byte) (r : List Byte) (r' : List Byte) (m : Mgmt) (s : State) (s0 : State) (t : State) (v : State) (u : State) (w : State), p < 64 ∧ s.decryptJob p = some m ∧ s.rd R.PAR_CTX_CFG_STATE 0 [p, m.ctx] = 1 ∧ SMap.look (s.ctxInfo p m.ctx).slots (m.nat 2 2 % 8) = some key ∧ s.engineDie p m.ctx (m.nat 0x14 8) = (die, s0) ∧ s0.readSome (.dog die p m.ctx) m.addr m.len host = (ct, .ok r, t) ∧ t.writeSome (.dog die p m.ctx) (m.nat 0x14 8) (gcmPlain key ((m.cmd.drop 0x1C).take 12) ct) = (n, .ok r', v) ∧ u = (v.setInfo p m.ctx { s.ctxInfo p m.ctx with weights := (s.ctxInfo p m.ctx).weights ++ [(shake256 32 (gcmPlain key ((m.cmd.drop 0x1C).take 12) ct), m.len, m.nat 0x38 8)] }).mgmtAnswer m 0 (leNat ((shake256 32 (gcmPlain key ((m.cmd.drop 0x1C).take 12) ct)).take 8)) (s.ctxInfo p m.ctx).weights.length ∧ w = (((v.writeSome (.dog die p m.ctx) (m.nat 0x14 8) (List.replicate m.len 0)).2.2).secEvent R.SEC_EVENT_AUTH_FAIL).mgmtAnswer m 9 0 0x15 ∧ gcmTag key ((m.cmd.drop 0x1C).take 12) ((m.cmd.drop 0x38).take 8) ct ≠ (m.cmd.drop 0x28).take 16 ∧ w.ask = []) ∧
    (∃ (p : Nat) (host : List Byte) (m : Mgmt) (s : State), p < 64 ∧ s.decryptJob p = some m ∧ s.rd R.PAR_CTX_CFG_STATE 0 [p, m.ctx] ≠ 1 ∧ (s.rd R.PAR_CTX_CFG_STATE 0 [p, m.ctx] ≠ 2 ∨ m.stage ≠ 4) ∧ (s.mgmtAnswer m 5 0 3).ask = []) ∧
    (∃ (d : Nat) (g : Nat) (place : Nat) (s : State), d < 4 ∧ g < 3 ∧ s.jtagReach d g = true ∧ place = (if g = 0 then d else 3 + 2 * d + g) ∧ s.lcs ≠ 3) ∧
    (∃ (d : Nat) (g : Nat) (place : Nat) (s : State), d < 4 ∧ g < 3 ∧ s.jtagReach d g = true ∧ place = (if g = 0 then d else 3 + 2 * d + g) ∧ s.lcs = 3) ∧
    (∃ (d : Nat) (g : Nat) (k : Nat) (s : State), d < 4 ∧ g < 3 ∧ k < 3 ∧ s.jtagReach d g = false) :=
  ⟨⟨0, _, _, [], (zeros 32), (zeros 64), _, _, ((decM (zeros 16))), (decGo (decM (zeros 16))), _, _, _, _, _, ⟨by decide +kernel, by decide +kernel, by decide +kernel, by decide +kernel, rfl, rfl, rfl, rfl, rfl, by decide +kernel, by decide +kernel⟩⟩,
   ⟨0, [], ((decM [])), (decS (decM []) 0), by decide +kernel⟩,
   ⟨0, 0, 0, s0, by decide +kernel⟩,
   ⟨3, 0, 3, (put s0 [(R.PWR_STATUS_IO_GOOD, 0, [], 1), (R.LCS_STATE_STATE, 0, [], 3)]), by decide +kernel⟩,
   ⟨3, 1, 0, (put s0 [(R.PWR_STATUS_IO_GOOD, 0, [], 1), (R.LCS_STATE_STATE, 0, [], 3)]), by decide +kernel⟩⟩

theorem test_hyps_LifeCycleCommandsComplete_1 :
    (∃ (s : State), s.staging = false ∧ s.activating = false) ∧
    (∃ (s : State), (s.staging = true ∨ s.activating = true)) ∧
    (∃ (a : Nat) (n : Nat) (k : Nat) (o : Option Firmware) (s : State) (t : State), s.sec.staging = some (a, n) ∧ s.stageOutcome a n = (t, k, o) ∧ t.ask = []) ∧
    (∃ (a : Nat) (n : Nat) (s : State), (n = 0 ∨ 2 ^ 23 < n)) ∧
    (∃ (a : Nat) (n : Nat) (s : State), 0 < n ∧ n ≤ 2 ^ 23 ∧ a % 64 ≠ 0) ∧
    (∃ (s : State), s.sec.staged = true ∧ s.activating = false) ∧
    (∃ (s : State), s.sec.staged = false) ∧
    (∃ (s : State), s.rdB R.SEC_STATUS_ACTIVATING 0 = true) :=
  ⟨⟨({ s0 with sec := { s0.sec with staged := true } }), by decide +kernel⟩,
   ⟨(s0.wr R.SEC_STATUS_STAGING 0 [] 1), by decide +kernel⟩,
   ⟨4, 0, 4, none, ({ s0 with sec := { s0.sec with staging := some (4, 0) } }), _, ⟨by decide +kernel, rfl, by decide +kernel⟩⟩,
   ⟨0, 0, s0, by decide +kernel⟩,
   ⟨1, 1, s0, by decide +kernel⟩,
   ⟨({ s0 with sec := { s0.sec with staged := true } }), by decide +kernel⟩,
   ⟨s0, by decide +kernel⟩,
   ⟨(s0.wr R.SEC_STATUS_ACTIVATING 0 [] 1), by decide +kernel⟩⟩

theorem test_hyps_LifeCycleCommandsComplete_2 :
    (∃ (f : Firmware) (s : State), s.slotPack s.sec.packSlot = some f) ∧
    (∃ (v : Nat) (dt : Nat) (s : State), v < 2 ^ 32) ∧
    (∃ (c : Instr) (dt : Nat) (k : Nat) (s : State), ((c = .genIdentity dt ∧ k = 1) ∨ (c = .installCert dt ∧ k = 2) ∨ (c = .toProduction dt ∧ k = 3) ∨ (c = .toEndOfLife dt ∧ k = 4)) ∧ (∀ a t, s.sec.lcsArmed = some (a, t) → a ≠ k ∨ t + 10 ^ 9 < (s.at_ dt).now)) ∧
    (∃ (dt : Nat) (t : Nat) (s : State), s.sec.lcsArmed = some (1, t) ∧ (s.at_ dt).now ≤ t + 10 ^ 9 ∧ s.lcsBusy = false ∧ s.lcs = 1 ∧ s.sec.banks.contains 2 = false ∧ s.sec.banks.contains 0 = true) ∧
    (∃ (dt : Nat) (t : Nat) (s : State), s.sec.lcsArmed = some (2, t) ∧ (s.at_ dt).now ≤ t + 10 ^ 9 ∧ s.lcsBusy = false ∧ s.lcs = 1 ∧ s.rdB R.LCS_STATE_ID_READY 0 = true) ∧
    (∃ (dt : Nat) (t : Nat) (s : State), s.sec.lcsArmed = some (3, t) ∧ (s.at_ dt).now ≤ t + 10 ^ 9 ∧ s.lcsBusy = false ∧ s.lcs = 1 ∧ (∀ p < 64, s.rdB R.PAR_CFG_ENABLE 0 [p] = false) ∧ s.rdB R.LCS_STATE_ID_READY 0 = true ∧ s.sec.cert ≠ .none) ∧
    (∃ (dt : Nat) (t : Nat) (s : State), s.sec.lcsArmed = some (4, t) ∧ (s.at_ dt).now ≤ t + 10 ^ 9 ∧ s.lcsBusy = false ∧ s.lcs ≠ 3) ∧
    (∃ (b : Nat) (s : State), s.sec.lcsRun = some 1 ∧ s.ask = [] ∧ (List.range 2).find? (fun b => s.sec.banks.getD b 0 == 1) = some b) :=
  ⟨⟨.factory, s0, by decide +kernel⟩,
   ⟨0x4C435301, 0, s0, by decide +kernel⟩,
   ⟨(.toEndOfLife 0), 0, 4, ({ s0 with sec := { s0.sec with lcsArmed := some (3, 0) } }), ⟨by decide +kernel, by intro a t h; left; injection h with h; injection h with h; omega⟩⟩,
   ⟨(10 ^ 9), 0, ({ put s0 [(R.LCS_STATE_STATE, 0, [], 1), (R.LCS_STATE_ID_READY, 0, [], 1)] with sec := { s0.sec with lcsArmed := some (1, 0), banks := [3, 0] } }), by decide +kernel⟩,
   ⟨(10 ^ 9), 0, ({ put s0 [(R.LCS_STATE_STATE, 0, [], 1), (R.LCS_STATE_ID_READY, 0, [], 1)] with sec := { s0.sec with lcsArmed := some (2, 0) } }), by decide +kernel⟩,
   ⟨0, 0, tokened, ⟨by decide +kernel, by decide +kernel, by decide +kernel, by decide +kernel, by decide +kernel, by decide +kernel, by decide +kernel⟩⟩,
   ⟨(10 ^ 9), 0, ({ s0 with sec := { s0.sec with lcsArmed := some (4, 0) } }), by decide +kernel⟩,
   ⟨1, ({ s0 with sec := { s0.sec with lcsRun := some 1, banks := [3, 1] } }), by decide +kernel⟩⟩

theorem test_hyps_LifeCycleCommandsComplete_3 :
    (∃ (b : List Byte) (s : State) (t : State), s.sec.lcsRun = some 2 ∧ ({ s with sec := { s.sec with lcsRun := none } } : State).lcsBlob = (t, some b) ∧ t.ask = []) ∧
    (∃ (b : List Byte) (s : State) (t : State), s.sec.lcsRun = some 3 ∧ s.boot.starting = false ∧ s.rd R.LCS_STATE_TARGET 0 = 15 ∧ s.lcsBlob = (t, some b) ∧ t.ask = []) ∧
    (∃ (s : State), s.sec.lcsRun = some 3 ∧ s.ask = [] ∧ s.boot.starting = false ∧ s.rd R.LCS_STATE_TARGET 0 ≠ 15 ∧ s.rd R.LCS_STATE_LAST_MARK 0 = 1) ∧
    (∃ (s : State), s.sec.lcsRun = some 4 ∧ s.scrapStep.ask = []) ∧
    (∃ (s : State), s.sec.lcsRun = none ∧ s.ask = []) :=
  ⟨⟨[7], (heres { tokened with sec := { tokened.sec with lcsRun := some 2 } } (.collar 0) 0 [7]), _, ⟨by decide +kernel, snd_eq (by decide +kernel), by decide +kernel⟩⟩,
   ⟨[7], (heres { tokened.wr R.LCS_STATE_TARGET 0 [] 15 with sec := { tokened.sec with lcsRun := some 3 }, boot := { s0.boot with starting := false } } (.collar 0) 0 [7]), _, ⟨by decide +kernel, by decide +kernel, by decide +kernel, snd_eq (by decide +kernel), by decide +kernel⟩⟩,
   ⟨({ put s0 [(R.LCS_STATE_LAST_MARK, 0, [], 1), (R.LCS_STATE_TARGET, 0, [], 3)] with sec := { s0.sec with lcsRun := some 3 }, boot := { s0.boot with starting := false } }), by decide +kernel⟩,
   ⟨({ s0 with sec := { s0.sec with lcsRun := some 4 } }), by decide +kernel⟩,
   ⟨s0, by decide +kernel⟩⟩

theorem test_hyps_StartCommandsComplete_1 :
    (∃ (inTime : Bool) (s : State), s.boot.mainOff = false) ∧
    (∃ (inTime : Bool) (s : State), s.boot.mainOff = true) ∧
    (∃ (s : State), s.boot.starting = true ∧ s.rd R.BST_START_STEP 0 = 1 ∧ s.rdB R.BST_START_FAILED 0 = false) ∧
    (∃ (s : State), s.boot.starting = false) ∧
    (∃ (die : Nat) (ms : Nat) (fallback : Bool) (fatal : Bool) (mis : List Nat) (vids : List Nat) (chans : List Nat) (clus : List Nat) (ports : List Nat) (mods : List Nat) (bays : List Nat) (engines : List Nat) (repairs : List Nat) (s : State), die < 4) ∧
    (∃ (r : StepReport) (s : State), s.boot.starting = true ∧ s.boot.mainOff = false ∧ s.rdB R.BST_START_FAILED 0 = false ∧ s.rd R.BST_START_STEP 0 = 5 ∧ r.fatal = false ∧ r.ms ≤ 50) ∧
    (∃ (r : StepReport) (s : State), s.boot.starting = true ∧ s.boot.mainOff = false ∧ s.rdB R.BST_START_FAILED 0 = false ∧ s.rd R.BST_START_STEP 0 ≤ 11 ∧ (r.fatal = true ∨ ∃ l, s.stepLimit (s.rd R.BST_START_STEP 0) r.fallback = some l ∧ l < r.ms)) ∧
    (∃ (d : Nat) (s : State), d < 4 ∧ s.boot.starting = true ∧ s.boot.mainOff = false ∧ s.rdB R.BST_START_FAILED 0 = false ∧ s.rd R.BST_START_STEP 0 < 12) :=
  ⟨⟨false, s0, by decide +kernel⟩,
   ⟨false, ({ s0 with boot := { s0.boot with mainOff := true } }), by decide +kernel⟩,
   ⟨s0, by decide +kernel⟩,
   ⟨on, by decide +kernel⟩,
   ⟨3, 0, false, false, [], [], [], [], [], [], [], [], [], s0, by decide +kernel⟩,
   ⟨(report false), (s0.wr R.BST_START_STEP 0 [] 5), by decide +kernel⟩,
   ⟨(report true), (s0.wr R.BST_START_STEP 0 [] 11), by decide +kernel⟩,
   ⟨3, (s0.wr R.BST_START_STEP 0 [] 11), by decide +kernel⟩⟩

theorem test_hyps_StartCommandsComplete_2 :
    (∃ (d : Nat) (s : State), d < 4 ∧ s.boot.starting = false) ∧
    (∃ (d : Nat) (w : Nat) (dt : Nat) (s : State), d < 4 ∧ (if s.boot.starting then s.rd R.BST_START_STEP 0 = 8 else s.rd R.PCI_STATUS_DSTATE 0 = 0) ∧ s.dieRuns d = true ∧ s.rdB R.PWR_STATUS_CORE_GOOD d = true ∧ s.nextWave d = some w ∧ (w = 0 ∨ SMap.get 0 s.boot.wavedAt d + s.rd R.PWR_WAVE_WAVE_US d * 1000 ≤ (s.at_ dt).now)) ∧
    (∃ (d : Nat) (w : Nat) (dt : Nat) (s : State), d < 4 ∧ s.nextWave d = some w ∧ w ≠ 0 ∧ (s.at_ dt).now < SMap.get 0 s.boot.wavedAt d + s.rd R.PWR_WAVE_WAVE_US d * 1000) ∧
    (∃ (d : Nat) (s : State) (r : State) (v : State) (w : State), d < 4 ∧ SMap.get 0 s.dies d = 1 ∧ d ∉ s.heat.tripped ∧ s.rd R.COH_ISL_STATE_STATE 0 [s.island d] = 2 ∧ r = s.roll R.SEC_DIE_STATE_DIE_GEN 0 [d] 1 ∧ v = ({ r with dies := SMap.put 0 s.dies d 0 } : State).wr R.HUB_POS_STRAP_POS d [] d ∧ w = ((v.measureCollar d).measurePack d).railsUp (([0, 1, 2, 3] : List Nat).map (fun e => v.rd R.PWR_CORE_VID_MV e))) ∧
    (∃ (d : Nat) (pos : Nat) (s : State), d < 4 ∧ pos < 4 ∧ pos ≠ d ∧ SMap.get 0 s.dies d = 1 ∧ d ∉ s.heat.tripped ∧ s.rd R.COH_ISL_STATE_STATE 0 [s.island d] = 2) ∧
    (∃ (d : Nat) (pos : Nat) (s : State), d < 4 ∧ pos < 4 ∧ d ∈ s.heat.tripped) :=
  ⟨⟨3, on, by decide +kernel⟩,
   ⟨3, 0, 0, (on.wr R.PWR_STATUS_CORE_GOOD 3 [] 1), by decide +kernel⟩,
   ⟨3, 2, 0, (put s0 ((List.range 5).map (fun i => (R.PWR_CLU_ON, 3, [i], 0x00030003)))), by decide +kernel⟩,
   ⟨3, ({ put s0 ((List.range 4).map (fun i => (R.COH_ISL_STATE_STATE, 0, [i], 2))) with dies := [(3, 1)] }), _, _, _, ⟨by decide +kernel, by decide +kernel, by decide +kernel, by decide +kernel, rfl, rfl, rfl⟩⟩,
   ⟨3, 2, ({ put s0 [(R.COH_ISL_STATE_STATE, 0, [s0.island 3], 2)] with dies := [(3, 1)] }), by decide +kernel⟩,
   ⟨3, 0, ({ s0 with heat := { s0.heat with tripped := [3] } }), by decide +kernel⟩⟩

theorem test_hyps_RotatingBistCommandsComplete_1 :
    (∃ (d : Nat) (dt : Nat) (s : State), d < 4 ∧ (s.bist d).since + s.rd R.BST_ROT_CFG_INTERVAL_MS d * 10 ^ 6 ≤ (s.at_ dt).now) ∧
    (∃ (d : Nat) (dt : Nat) (s : State), d < 4 ∧ (s.at_ dt).now < (s.bist d).since + s.rd R.BST_ROT_CFG_INTERVAL_MS d * 10 ^ 6) ∧
    (∃ (d : Nat) (t : Nat) (s : State), d < 4 ∧ s.rdB R.PCI_STATUS_READY 0 = true ∧ s.dieRuns d = true ∧ s.rotReason d = 0 ∧ (s.bist d).target = none ∧ (s.bist d).testing = none ∧ t < 128 ∧ t ∈ (s.bist d).numbers ∧ (s.bist d).next ≤ t ∧ (∀ i ∈ (s.bist d).numbers, (s.bist d).next ≤ i → t ≤ i)) ∧
    (∃ (d : Nat) (t : Nat) (s : State), d < 4 ∧ (s.bist d).target = some t ∧ 16 ≤ (s.bist d).tries) ∧
    (∃ (c : Nat) (b : Bool) (s : State), c < 512 ∧ (s.rdClu R.CLU_STATUS_STATE c = 0 ∨ s.rdClu R.CLU_STATUS_STATE c = 6)) ∧
    (∃ (c : Nat) (b : Bool) (s : State), c < 512 ∧ s.rdClu R.CLU_STATUS_STATE c ≠ 0 ∧ s.rdClu R.CLU_STATUS_STATE c ≠ 6) ∧
    (∃ (d : Nat) (s : State), d < 4 ∧ (s.bist d).tries < 16) ∧
    (∃ (d : Nat) (t : Nat) (s : State), d < 4 ∧ (s.bist d).target = some t ∧ 64 ≤ (s.bist d).tries ∧ s.rdClu R.CLU_STATUS_STATE (128 * d + t) = 5) :=
  ⟨⟨3, 100000000000, (on.setBist 3 { BistDie.start with target := some 127, tries := 16 }), by decide +kernel⟩,
   ⟨3, 0, ((on.wrClu R.CLU_STATUS_STATE 511 5).setBist 3 { BistDie.start with target := some 127, tries := 64 }), by decide +kernel⟩,
   ⟨3, 0, (put on [(R.PCI_STATUS_READY, 0, [], 1), (R.BST_CTRL_ROT_ENABLE, 3, [], 1), (R.HUB_CLUSTERS_SPARE, 3, [], 2), (R.MEM_STATUS_STATE, 3, [], 2)]), by decide +kernel⟩,
   ⟨3, 127, (on.setBist 3 { BistDie.start with target := some 127, tries := 16 }), by decide +kernel⟩,
   ⟨0, false, ((on.wrClu R.CLU_STATUS_STATE 511 5).setBist 3 { BistDie.start with target := some 127, tries := 64 }), by decide +kernel⟩,
   ⟨511, false, (s0.wrClu R.CLU_STATUS_STATE 511 2), by decide +kernel⟩,
   ⟨3, (on.setBist 3 { BistDie.start with target := some 127, tries := 15 }), by decide +kernel⟩,
   ⟨3, 127, ((on.wrClu R.CLU_STATUS_STATE 511 5).setBist 3 { BistDie.start with target := some 127, tries := 64 }), by decide +kernel⟩⟩

theorem test_hyps_RotatingBistCommandsComplete_2 :
    (∃ (d : Nat) (t : Nat) (s : State), d < 4 ∧ (s.bist d).target = some t ∧ ((s.bist d).tries < 64 ∨ s.rdClu R.CLU_STATUS_STATE (128 * d + t) ≠ 5)) ∧
    (∃ (d : Nat) (i : Nat) (t : Nat) (dt : Nat) (s : State), d < 4 ∧ i < 144 ∧ (s.bist d).testing = some (i, t)) ∧
    (∃ (d : Nat) (dt : Nat) (pass : Bool) (s : State), d < 4 ∧ (s.bist d).testing = none) :=
  ⟨⟨3, 127, (on.setBist 3 { BistDie.start with target := some 127, tries := 63 }), by decide +kernel⟩,
   ⟨3, 143, 127, 0, (on.setBist 3 { BistDie.start with testing := some (143, 127) }), by decide +kernel⟩,
   ⟨3, 0, false, s0, by decide +kernel⟩⟩

theorem test_hyps_ErrorCommandsComplete_1 :
    (∃ (d : Nat) (e : Err) (s : State), d < 4 ∧ e.src < 11 ∧ e.sev < 3 ∧ SMap.get 0 s.dies d ≠ 1 ∧ (∀ r ∈ s.errs, ¬(r.die = d ∧ r.src = e.src ∧ r.code = e.code ∧ r.scope = e.scope ∧ r.sev = e.sev)) ∧ s.unhandled d e.src + (s.waiting d e.src).length < (if e.sev = 0 then 12 else 16)) ∧
    (∃ (r : ErrRec) (s : State) (v : State), r.die < 4 ∧ r.src < 11 ∧ s.waiting r.die r.src = [] ∧ s.writeErr r = some v) ∧
    (∃ (r : ErrRec) (s : State), r.die < 4 ∧ s.writeErr r = none) ∧
    (∃ (d : Nat) (e : Err) (s : State), d < 4 ∧ e.src < 11 ∧ e.sev < 3 ∧ SMap.get 0 s.dies d = 1) ∧
    (∃ (d : Nat) (src : Nat) (v : Nat) (s : State), d < 4 ∧ src < 11 ∧ v < 2 ^ 32 ∧ s.dieRuns d = true ∧ (v + 2 ^ 32 - s.rd R.ERR_Q_ACK d [src]) % 2 ^ 32 ≤ s.unhandled d src) ∧
    (∃ (d : Nat) (src : Nat) (v : Nat) (s : State), d < 4 ∧ src < 11 ∧ v < 2 ^ 32 ∧ s.dieRuns d = true ∧ s.unhandled d src < (v + 2 ^ 32 - s.rd R.ERR_Q_ACK d [src]) % 2 ^ 32) ∧
    (∃ (d : Nat) (cause : Nat) (s : State), d < 4 ∧ d ≠ 0 ∧ SMap.get 0 s.dies d ≠ 1 ∧ (∀ x ∈ s.heat.resets, x.1 ≠ d)) ∧
    (∃ (d : Nat) (s : State), d < 4 ∧ d ≠ 0 ∧ s.dieRuns d = true) :=
  ⟨⟨3, (⟨10, 1, 2, 0, 0, 0, 0, 0, 0, false⟩), s0, by decide +kernel⟩,
   ⟨aRec, up, ((up.writeErr aRec).get (by decide +kernel)), ⟨by decide +kernel, by decide +kernel, by decide +kernel, (Option.some_get _).symm⟩⟩,
   ⟨aRec, (s0.wr R.ERR_QUEUE_BASE_BASE 3 [] (2 ^ 30 - 1)), by decide +kernel⟩,
   ⟨3, (⟨10, 1, 2, 0, 0, 0, 0, 0, 0, false⟩), ({ s0 with dies := [(3, 1)] }), by decide +kernel⟩,
   ⟨3, 10, 5, (s0.wr R.ERR_Q_HEAD 3 [10] 5), by decide +kernel⟩,
   ⟨3, 10, 6, (s0.wr R.ERR_Q_HEAD 3 [10] 5), by decide +kernel⟩,
   ⟨3, 0, s0, by decide +kernel⟩,
   ⟨3, s0, by decide +kernel⟩⟩

theorem test_hyps_ErrorCommandsComplete_2 :
    (∃ (d : Nat) (s : State), d < 4 ∧ (d = 0 ∨ s.dieRuns d = false)) ∧
    (∃ (v : Nat) (s : State), v < 2 ^ 32) ∧
    (∃ (d : Nat) (x : Nat × Nat) (s : State), d < 4 ∧ s.heat.resets.find? (fun x => x.1 == d) = some x) ∧
    (∃ (d : Nat) (s : State), d < 4 ∧ (∀ x ∈ s.heat.resets, x.1 ≠ d)) ∧
    (∃ (rail : Nat) (n : Nat) (s : State), (rail = 2 ∨ rail = 3) ∧ n < 8 ∧ s.boot.mainOff = false ∧ s.boot.starting = false) ∧
    (∃ (rail : Nat) (n : Nat) (s : State) (v : State), rail < 2 ∧ n < 4 ∧ s.boot.mainOff = false ∧ s.boot.starting = false ∧ s.dieRuns n = true ∧ v = (s.wr (if rail = 0 then R.PWR_STATUS_CORE_GOOD else R.PWR_STATUS_HBM_GOOD) n [] 0).railRecord n 0 (scopeOf 9 n)) ∧
    (∃ (b : Nat) (s : State) (v : State), b < 8 ∧ s.boot.mainOff = false ∧ s.boot.starting = false ∧ s.dieRuns (b / 2) = true ∧ v = (s.wr (if b % 2 = 0 then R.PWR_STATUS_BAY_A_GOOD else R.PWR_STATUS_BAY_B_GOOD) (b / 2) [] 0).railRecord (b / 2) (b / 2) (scopeOf 2 b) ∧ v.bayRd R.BAY_STATUS_STATE b ≠ 4) ∧
    (∃ (n : Nat) (s : State), n < 8 ∧ s.boot.mainOff = false) :=
  ⟨⟨0, s0, by decide +kernel⟩,
   ⟨0, s0, by decide +kernel⟩,
   ⟨3, ((3, 1)), ({ s0 with heat := { s0.heat with resets := [(3, 1)] } }), by decide +kernel⟩,
   ⟨3, s0, by decide +kernel⟩,
   ⟨3, 7, on, by decide +kernel⟩,
   ⟨0, 3, on, _, ⟨by decide +kernel, by decide +kernel, by decide +kernel, by decide +kernel, by decide +kernel, rfl⟩⟩,
   ⟨7, on, _, ⟨by decide +kernel, by decide +kernel, by decide +kernel, by decide +kernel, rfl, by decide +kernel⟩⟩,
   ⟨7, s0, by decide +kernel⟩⟩

theorem test_hyps_ErrorCommandsComplete_3 :
    (∃ (c : Nat) (s : State) (t : State), c < 512 ∧ s.dieRuns (c / 128) = true ∧ s.cluExists c = true ∧ t = (match (s.clu c).unit.bind s.unit? with | some u => (s.err (c / 128) (s.cluErr c 2 1)).endUnit u.id ⟨4, 0x00000FFFFFFFFFFF, 0⟩ | none => s.err (c / 128) (s.cluErr c 2 1))) ∧
    (∃ (c : Nat) (s : State), c < 512 ∧ c ∈ s.boot.failed ∧ (s.clu c).unit = none ∧ (s.rdClu R.CLU_STATUS_STATE c = 0 ∨ s.rdClu R.CLU_STATUS_STATE c = 6)) ∧
    (∃ (c : Nat) (s : State), c < 512 ∧ c ∉ s.boot.failed) ∧
    (∃ (d : Nat) (dt : Nat) (s : State), d < 4 ∧ s.rd R.ERR_WDT_PACK_STATE d = 0 ∧ s.dieRuns d = true ∧ (∀ x ∈ s.heat.wdtTimes, x.1 ≠ d)) ∧
    (∃ (d : Nat) (dt : Nat) (s : State), d < 4 ∧ s.rd R.ERR_WDT_PACK_STATE d = 0 ∧ s.dieRuns d = true ∧ 2 ≤ (s.heat.wdtTimes.filter (fun x => x.1 == d && decide ((s.at_ dt).now ≤ x.2 + 600 * 10 ^ 9))).length) ∧
    (∃ (d : Nat) (s : State), d < 4 ∧ s.rd R.ERR_WDT_PACK_STATE d = 1) ∧
    (∃ (d : Nat) (s : State), d < 4 ∧ s.rd R.ERR_WDT_PACK_STATE d ≠ 1) :=
  ⟨⟨511, s0, _, ⟨by decide +kernel, by decide +kernel, by decide +kernel, rfl⟩⟩,
   ⟨511, ({ s0.wrClu R.CLU_STATUS_STATE 511 6 with boot := { s0.boot with failed := [511] } }), by decide +kernel⟩,
   ⟨511, s0, by decide +kernel⟩,
   ⟨3, 0, s0, by decide +kernel⟩,
   ⟨3, 0, ({ s0 with heat := { s0.heat with wdtTimes := [(3, 0), (3, 1)] } }), by decide +kernel⟩,
   ⟨3, (s0.wr R.ERR_WDT_PACK_STATE 3 [] 1), by decide +kernel⟩,
   ⟨3, (s0.wr R.ERR_WDT_PACK_STATE 3 [] 2), by decide +kernel⟩⟩

theorem test_hyps_HeatCommandsComplete_1 :
    (∃ (old : Nat) (t : Nat) (throttle : Nat), throttle ≤ 100 ∧ old ≤ 2 ∧ 100 ≤ t) ∧
    (∃ (old : Nat) (t : Nat) (throttle : Nat), throttle ≤ 100 ∧ old ≤ 2 ∧ t < 100 ∧ throttle ≤ t ∧ old < 2) ∧
    (∃ (old : Nat) (t : Nat) (throttle : Nat), throttle ≤ 100 ∧ old ≤ 2 ∧ t + 3 < throttle) ∧
    (∃ (old : Nat) (t : Nat) (throttle : Nat), throttle ≤ 100 ∧ old ≤ 2 ∧ old = 2 ∧ 97 ≤ t) ∧
    (∃ (old : Nat) (t : Nat) (throttle : Nat), throttle ≤ 100 ∧ old ≤ 2 ∧ old = 1 ∧ t < 100 ∧ throttle ≤ t + 3) ∧
    (∃ (old : Nat) (t : Nat) (throttle : Nat), throttle ≤ 100 ∧ old ≤ 2 ∧ old = 0 ∧ t < throttle ∧ t < 100) ∧
    (∃ (d : Nat) (t : Nat) (s : State), d < 4 ∧ SMap.get 0 s.dies d ≠ 1 ∧ s.rd R.ERR_THERMAL_LEVEL d ≤ 2 ∧ nextLevel (s.rd R.ERR_THERMAL_LEVEL d) t (s.rd R.ERR_THERMAL_THROTTLE_C d) ≤ s.rd R.ERR_THERMAL_LEVEL d) ∧
    (∃ (d : Nat) (t : Nat) (s : State), d < 4 ∧ SMap.get 0 s.dies d ≠ 1 ∧ s.rd R.ERR_THERMAL_LEVEL d = 0 ∧ t < 100 ∧ s.rd R.ERR_THERMAL_THROTTLE_C d ≤ t) :=
  ⟨⟨0, 100, 95, by decide +kernel⟩,
   ⟨1, 99, 95, by decide +kernel⟩,
   ⟨2, 91, 95, by decide +kernel⟩,
   ⟨2, 97, 95, by decide +kernel⟩,
   ⟨1, 92, 95, by decide +kernel⟩,
   ⟨0, 94, 95, by decide +kernel⟩,
   ⟨3, 20, (s0.wr R.ERR_THERMAL_THROTTLE_C 3 [] 95), by decide +kernel⟩,
   ⟨3, 99, (s0.wr R.ERR_THERMAL_THROTTLE_C 3 [] 95), by decide +kernel⟩⟩

theorem test_hyps_HeatCommandsComplete_2 :
    (∃ (d : Nat) (t : Nat) (s : State), d < 4 ∧ SMap.get 0 s.dies d ≠ 1 ∧ s.rd R.ERR_THERMAL_LEVEL d < 2 ∧ 100 ≤ t) ∧
    (∃ (d : Nat) (s : State), d < 4 ∧ min (s.tclkDie d) s.heat.tclkCap ≤ 16) ∧
    (∃ (d : Nat) (t : Nat) (s : State), d < 4 ∧ SMap.get 0 s.dies d = 1 ∧ t < 90) ∧
    (∃ (d : Nat) (t : Nat) (s : State), d < 4 ∧ SMap.get 0 s.dies d = 1 ∧ 90 ≤ t) ∧
    (∃ (d : Nat) (dt : Nat) (s : State), d < 4 ∧ s.dieRuns d = true ∧ (∀ l, SMap.look s.heat.tclkAt d = some l → l + (if 1 ≤ s.rd R.ERR_THERMAL_LEVEL d then 10 ^ 5 else 10 ^ 6) ≤ (s.at_ dt).now)) ∧
    (∃ (d : Nat) (dt : Nat) (l : Nat) (s : State), d < 4 ∧ SMap.look s.heat.tclkAt d = some l ∧ (s.at_ dt).now < l + (if 1 ≤ s.rd R.ERR_THERMAL_LEVEL d then 10 ^ 5 else 10 ^ 6)) ∧
    (∃ (d : Nat) (dt : Nat) (s : State), d < 4 ∧ s.heat.prochot = false ∧ (∀ l, SMap.look s.heat.tclkAt 4 = some l → l + (if s.heat.capOn then 10 ^ 6 else 10 ^ 7) ≤ (s.at_ dt).now)) ∧
    (∃ (d : Nat) (dt : Nat) (s : State), d < 4 ∧ s.heat.prochot = true) :=
  ⟨⟨3, 100, (s0.wr R.ERR_THERMAL_THROTTLE_C 3 [] 95), by decide +kernel⟩,
   ⟨3, s0, by decide +kernel⟩,
   ⟨3, 89, ({ s0 with dies := [(3, 1)] }), by decide +kernel⟩,
   ⟨3, 90, ({ s0 with dies := [(3, 1)] }), by decide +kernel⟩,
   ⟨3, 0, (put s0 [(R.ERR_TEL_CFG_TEL_EVERY, 3, [], 4), (R.TCK_NUMBER, 0, [], 8)]), by decide +kernel⟩,
   ⟨3, 0, 5, ({ s0 with heat := { s0.heat with tclkAt := [(3, 5)] } }), by decide +kernel⟩,
   ⟨0, 0, s0, by decide +kernel⟩,
   ⟨3, 0, ({ s0 with heat := { s0.heat with prochot := true } }), by decide +kernel⟩⟩

theorem test_hyps_HeatCommandsComplete_3 :
    (∃ (d : Nat) (s : State), 1 ≤ d ∧ d < 4 ∧ 10 ≤ SMap.get 0 s.heat.hotReads d ∧ s.dieRuns d = true ∧ (∀ x ∈ s.heat.resets, x.1 ≠ d)) ∧
    (∃ (s : State), 10 ≤ SMap.get 0 s.heat.hotReads 0 ∧ s.dieRuns 0 = true) ∧
    (∃ (d : Nat) (s : State), d < 4 ∧ SMap.get 0 s.heat.hotReads d < 10) ∧
    (∃ (p : Nat) (s : State), s.heat.capOn = false ∧ s.rd R.ERR_PKG_POWER_LIMIT_W 0 < p ∧ s.heat.overMs < 9) ∧
    (∃ (p : Nat) (s : State), s.heat.capOn = false ∧ s.rd R.ERR_PKG_POWER_LIMIT_W 0 < p ∧ 9 ≤ s.heat.overMs) ∧
    (∃ (p : Nat) (s : State), p < s.rd R.ERR_PKG_POWER_LIMIT_W 0) ∧
    (∃ (s : State), s.heat.prochot = false) ∧
    (∃ (d : Nat) (s : State), d < 4 ∧ s.rd R.ERR_TEL_CFG_TEL_EVERY d ≠ 0 ∧ s.tick % s.rd R.ERR_TEL_CFG_TEL_EVERY d = 0 ∧ s.dieRuns d = true) :=
  ⟨⟨3, ({ s0 with heat := { s0.heat with hotReads := [(3, 10)] } }), by decide +kernel⟩,
   ⟨({ s0 with heat := { s0.heat with hotReads := [(0, 10)] } }), by decide +kernel⟩,
   ⟨3, ({ s0 with dies := [(3, 1)] }), by decide +kernel⟩,
   ⟨(s0.rd R.ERR_PKG_POWER_LIMIT_W 0 + 1), ({ s0 with heat := { s0.heat with overMs := 8 } }), by decide +kernel⟩,
   ⟨(s0.rd R.ERR_PKG_POWER_LIMIT_W 0 + 1), ({ s0 with heat := { s0.heat with overMs := 9 } }), by decide +kernel⟩,
   ⟨0, s0, by decide +kernel⟩,
   ⟨s0, by decide +kernel⟩,
   ⟨3, (put s0 [(R.ERR_TEL_CFG_TEL_EVERY, 3, [], 4), (R.TCK_NUMBER, 0, [], 8)]), by decide +kernel⟩⟩

theorem test_hyps_HeatCommandsComplete_4 :
    (∃ (d : Nat) (s : State), (s.rd R.ERR_TEL_CFG_TEL_EVERY d = 0 ∨ s.tick % s.rd R.ERR_TEL_CFG_TEL_EVERY d ≠ 0)) ∧
    (∃ (d : Nat) (x : Nat × List Byte) (s : State) (v : State), d < 4 ∧ s.heat.telDue.find? (fun x => x.1 == d) = some x ∧ v = { s with heat := { s.heat with telDue := s.heat.telDue.erase x, telSlots := SMap.ins s.heat.telSlots d (SMap.get 0 s.heat.telSlots d + 1) } }) ∧
    (∃ (d : Nat) (s : State), d < 4 ∧ (∀ x ∈ s.heat.telDue, x.1 ≠ d)) ∧
    (∃ (d : Nat) (mins : List Nat) (h85 : List Nat) (h90 : List Nat) (ret : List Nat) (lanes : List Nat) (eol : Nat) (low : Nat) (high : Nat) (kind : Nat) (index : Nat) (s : State) (w : State), d < 4 ∧ s.dieRuns d = true ∧ w = (s.ageDay d mins h85 h90 ret lanes).ageMargins d) ∧
    (∃ (d : Nat) (mins : List Nat) (h85 : List Nat) (h90 : List Nat) (ret : List Nat) (lanes : List Nat) (s : State) (k : _), d < 4 ∧ k < 64) :=
  ⟨⟨3, (put s0 [(R.ERR_TEL_CFG_TEL_EVERY, 3, [], 4), (R.TCK_NUMBER, 0, [], 7)]), by decide +kernel⟩,
   ⟨3, ((3, [7])), ({ s0 with heat := { s0.heat with telDue := [(3, [7])] } }), _, ⟨by decide +kernel, by decide +kernel, rfl⟩⟩,
   ⟨3, ({ s0 with heat := { s0.heat with prochot := true } }), by decide +kernel⟩,
   ⟨3, [], [], [], [], [], 0, 0, 0, 0, 0, s0, ((s0.ageDay 3 [] [] [] [] []).ageMargins 3), ⟨by decide +kernel, by decide +kernel, rfl⟩⟩,
   ⟨3, [], [], [], [], [], s0, 63, by decide +kernel⟩⟩

theorem test_hyps_RegisterAccessesComplete_1 :
    (∃ (d : Nat) (off : Nat) (len : Nat) (v : Nat) (dt : Nat) (s : State), d < 4 ∧ off < 2 ^ 26 ∧ v < 2 ^ 64 ∧ regSize off len = false) ∧
    (∃ (v : Nat) (dt : Nat) (s : State), 1 ≤ v ∧ v ≤ 3584 ∧ s.dieRuns 0 = true) ∧
    (∃ (v : Nat) (dt : Nat) (s : State), 3584 < v ∧ v < 2 ^ 13 ∧ s.dieRuns 0 = true ∧ s.rd R.PCI_TAG_LIMIT_VF_TAGS 0 ≤ 3584) ∧
    (∃ (v : Nat) (dt : Nat) (s : State), 1 ≤ v ∧ v < 2 ^ 16 ∧ s.dieRuns 0 = true) ∧
    (∃ (v : Nat) (dt : Nat) (s : State), v < 2 ^ 32 ∧ s.dieRuns 0 = true ∧ s.cluExists 0 = true ∧ (s.clu 0).unit = none ∧ s.rd R.CLU_STATUS_STATE 0 [0] ≠ 4) ∧
    (∃ (v : Nat) (dt : Nat) (uid : Nat) (s : State), v < 2 ^ 32 ∧ s.dieRuns 0 = true ∧ s.cluExists 0 = true ∧ (s.clu 0).unit = some uid ∧ s.rdTil R.TIL_SEED_LO 0 ≠ v) ∧
    (∃ (d : Nat) (off : Nat) (v : Nat) (s : State) (t : State), d < 4 ∧ off < 2 ^ 26 ∧ off % 4 = 0 ∧ s.busRead d off 4 = (v, t)) ∧
    (∃ (d : Nat) (off : Nat) (s : State), d < 4 ∧ off < 2 ^ 26 ∧ off % 4 ≠ 0) :=
  ⟨⟨3, (2 ^ 26 - 1), 4, 0, 0, s0, by decide +kernel⟩,
   ⟨3584, 0, s0, by decide +kernel⟩,
   ⟨3585, 0, s0, by decide +kernel⟩,
   ⟨1, 0, s0, by decide +kernel⟩,
   ⟨0, 0, s0, by decide +kernel⟩,
   ⟨7, 0, 1, ({ s0 with clusters := [(0, { Cluster.idle with unit := some 1 })] }), by decide +kernel⟩,
   ⟨3, 0, _, ({ s0 with dies := [(3, 2)] }), _, ⟨by decide +kernel, by decide +kernel, by decide +kernel, rfl⟩⟩,
   ⟨3, 1, ({ s0 with dies := [(3, 2)] }), by decide +kernel⟩⟩

theorem test_hyps_RegisterAccessesComplete_2 :
    (∃ (h : Nat) (s : State), s.dieRuns 0 = true ∧ h < 2 ^ 32 ∧ SMap.look s.latch 0x200010 = some h) ∧
    (∃ (d : Nat) (off : Nat) (len : Nat) (v : Nat) (dt : Nat) (s : State), d < 4 ∧ off < 2 ^ 26 ∧ v < 2 ^ 64 ∧ regSize off len = true ∧ s.dieRuns d = true) ∧
    (∃ (pack : Bool) (d : Nat) (off : Nat) (len : Nat) (v : Nat) (dt : Nat) (s : State), d < 4 ∧ off < 2 ^ 26 ∧ v < 2 ^ 64 ∧ s.dieRuns d = false) :=
  ⟨⟨9, ({ s0 with latch := [(0x200010, 9)] }), by decide +kernel⟩,
   ⟨3, (2 ^ 26 - 8), 8, 0, 0, s0, by decide +kernel⟩,
   ⟨false, 3, 0, 0, 0, 0, ({ s0 with dies := [(3, 2)] }), by decide +kernel⟩⟩

end Sys2Proof.Tests
end

section
/-! SUPPORT. The canonical form of a sparse map makes equal readings equal maps; bytes and little-endian fields read back as written. -/

namespace Sys2Proof.Machine

@[simp] theorem SMap.get_cons_same {α : Type} (d : α) (j : Nat) (v : α) (m : SMap α) : SMap.get d ((j, v) :: m) j = v := by
  simp [SMap.get, SMap.look]

theorem SMap.get_cons_ne {α : Type} (d : α) {j k : Nat} (v : α) (m : SMap α) (h : j ≠ k) :
    SMap.get d ((j, v) :: m) k = SMap.get d m k := by
  simp [SMap.get, SMap.look, h]

/-- In the canonical form every number below the first listed one reads as the default. -/
theorem SMap.get_below_head {α : Type} [DecidableEq α] (d : α) (m : SMap α) (k : Nat) (h : SMap.wf d m = true)
    (hk : ∀ e ∈ m.head?, k < e.1) : SMap.get d m k = d := by
  induction m with
  | nil => rfl
  | cons e m ih =>
    obtain ⟨j, v⟩ := e
    obtain ⟨-, hhead, hm⟩ := (SMap.wf_cons d j v m).1 h
    have hkj : k < j := hk (j, v) (by simp)
    rw [SMap.get_cons_ne d v m (by omega)]
    exact ih hm (fun e he => Nat.lt_trans hkj (hhead e he))

/-- The first entry of a canonical map is seen by every map that reads the same: it cannot list only greater numbers. -/
theorem SMap.not_all_above {α : Type} [DecidableEq α] (d : α) (j : Nat) (v : α) (m n : SMap α) (hv : v ≠ d) (hn : SMap.wf d n = true)
    (h : SMap.get d ((j, v) :: m) j = SMap.get d n j) : ¬ ∀ e ∈ n.head?, j < e.1 := by
  intro hlt
  rw [SMap.get_cons_same, SMap.get_below_head d n j hn hlt] at h
  exact hv h

/-- Canonical maps that read the same at every number are the same list. -/
theorem SMap.eq_of_get_eq {α : Type} [DecidableEq α] (d : α) (m n : SMap α) (hm : SMap.wf d m = true) (hn : SMap.wf d n = true)
    (h : ∀ k, SMap.get d m k = SMap.get d n k) : m = n := by
  induction m generalizing n with
  | nil =>
    cases n with
    | nil => rfl
    | cons e n =>
      obtain ⟨k, w⟩ := e
      obtain ⟨hw, -, -⟩ := (SMap.wf_cons d k w n).1 hn
      exact absurd (by simp) (SMap.not_all_above d k w n [] hw hm (h k).symm)
  | cons e m ih =>
    obtain ⟨j, v⟩ := e
    obtain ⟨hv, hmhead, hm'⟩ := (SMap.wf_cons d j v m).1 hm
    cases n with
    | nil => exact absurd (by simp) (SMap.not_all_above d j v m [] hv hn (h j))
    | cons e n =>
      obtain ⟨k, w⟩ := e
      obtain ⟨hw, hnhead, hn'⟩ := (SMap.wf_cons d k w n).1 hn
      have hkj : ¬ j < k := by simpa using SMap.not_all_above d j v m ((k, w) :: n) hv hn (h j)
      have hjk : ¬ k < j := by simpa using SMap.not_all_above d k w n ((j, v) :: m) hw hm (h k).symm
      obtain rfl : j = k := by omega
      obtain rfl : v = w := by simpa using h j
      have htail : ∀ i, SMap.get d m i = SMap.get d n i := by
        intro i
        by_cases hi : j = i
        · subst hi
          rw [SMap.get_below_head d m j hm' hmhead, SMap.get_below_head d n j hn' hnhead]
        · simpa only [SMap.get_cons_ne d v _ hi] using h i
      rw [ih n hm' hn' htail]

/-- A list of bytes reads back as it was written. -/
theorem memBytes_memPut (m : SMap Byte) (a : Nat) (bs : List Byte) : memBytes (memPut m a bs) a bs.length = bs := by
  induction bs generalizing m a with
  | nil => rfl
  | cons b bs ih =>
    have hhead : memRead (memPut (memWrite m a b) (a + 1) bs) a = b := by
      rw [memRead_memPut_out _ _ _ _ (by omega), memRead_memWrite, if_pos rfl]
    simp only [memPut, List.length_cons, memBytes, hhead, ih]

@[simp] theorem length_leBytes (n v : Nat) : (leBytes n v).length = n := by
  induction n generalizing v with
  | zero => rfl
  | succ n ih => simp [leBytes, ih]

/-- Little-endian bytes spell the number they were made of, cut to their length (R6). -/
theorem leNat_leBytes (n v : Nat) : leNat (leBytes n v) = v % 2 ^ (8 * n) := by
  induction n generalizing v with
  | zero => simp [leBytes, leNat, Nat.mod_one]
  | succ n ih =>
    rw [leBytes, leNat, ih, BitVec.toNat_ofNat, show 2 ^ (8 * (n + 1)) = 2 ^ 8 * 2 ^ (8 * n) by ring, Nat.mod_mul]
    rfl

/-- A little-endian field reads back as it was written, cut to its length (R6). -/
theorem memNat_memPutNat (m : SMap Byte) (a n v : Nat) : memNat (memPutNat m a n v) a n = v % 2 ^ (8 * n) := by
  have h := memBytes_memPut m a (leBytes n v)
  rw [length_leBytes] at h
  rw [memNat, memPutNat, h, leNat_leBytes]

/-- Settles O4: the byte laws of a memory, and canonical maps are equal when they read the same. -/
theorem memoryReadsWhatWasWritten : Obligations.MemoryReadsWhatWasWritten := by
  unfold Obligations.MemoryReadsWhatWasWritten
  refine ⟨memPut_wf, memBytes_memPut, memRead_memPut_out, fun m n hm hn h => SMap.eq_of_get_eq 0 m n hm hn h, ?_⟩
  intro m a n v hv
  rw [memNat_memPutNat, Nat.mod_eq_of_lt hv]

end Sys2Proof.Machine
end

section
/-! SUPPORT. What a read of a field finds (R8, R12), and the state right after reset. -/

namespace Sys2Proof.Machine

/-- The fields that show what the machine holds elsewhere. -/
def shownFlds : List Fld :=
  [R.HUB_RING_CW_UP, R.HUB_RING_CCW_UP, R.HUB_RING_CW_DEGRADED, R.HUB_RING_CCW_DEGRADED, R.TIL_STATUS_UNIT_BUSY, R.TIL_STATUS_HEAD, R.TIL_TOKEN,
   R.TIL_TOKEN_HI, R.TIL_CREDIT, R.TIL_FILL, R.SHD_EVENT_PART, R.XLT_ATS_STATUS_ATS_OUT, R.XLT_ATS_STATUS_PRG_OUT, R.COH_STATUS_ISLAND,
   R.COH_STATUS_STATE, R.COH_DIR_USED, R.COH_ISL_STATE_DIES, R.COH_ISL_STATE_RESET_DIES, R.PCI_TAGS_OUT, R.HEL_SUMMARY_HOST, R.HEL_SUMMARY_EDGE,
   R.HEL_SUMMARY_BAY, R.HEL_SUMMARY_ISLAND, R.PAR_P_STATUS_STRICT, R.PAR_P_STATUS_ISLAND, R.PAR_P_STATUS_CLUSTERS, R.PAR_P_STATUS_GEN, R.PAR_P_QUOTA,
   R.SEC_DIE_STATE_STATE]

/-- Every other field shows its own value. -/
theorem State.shown_of_not_mem (s : State) (f : Fld) (d : Nat) (ix : List Nat) (h : f ∉ shownFlds) : s.shown f d ix = none := by
  simp only [shownFlds, List.mem_cons, List.not_mem_nil, or_false, not_or] at h
  simp only [State.shown, beq_iff_eq, h, if_false]

/-- What the machine holds elsewhere can only be read (R8). -/
theorem acc_of_mem_shownFlds : ∀ f ∈ shownFlds, f.acc = .RO := by decide

/-- A field that can be written reads as the value in effect, cut to its width (R8, R12). -/
theorem State.fieldVal_RW (s : State) (f : Fld) (d : Nat) (ix : List Nat) (h : f.acc = .RW) :
    s.fieldVal f d ix = (s.rd f d ix % 2 ^ f.width, s) := by
  have hf : f ∉ shownFlds := fun hmem => by simp [acc_of_mem_shownFlds f hmem] at h
  simp [State.fieldVal, h, s.shown_of_not_mem f d ix hf]

/-- What the machine shows of itself is no pending value (R12). -/
theorem State.shown_wrShadow (s : State) (f g : Fld) (d e v : Nat) (ix jx : List Nat) :
    (s.wrShadow f d ix v).shown g e jx = s.shown g e jx := rfl

theorem State.fieldVal_wrShadow (s : State) (f g : Fld) (d e v : Nat) (ix jx : List Nat) :
    ((s.wrShadow f d ix v).fieldVal g e jx).1 = (s.fieldVal g e jx).1 := by
  unfold State.fieldVal
  rw [State.shown_wrShadow, State.rd_wrShadow]
  split <;> rfl

/-- Settles O8: a read takes what the field shows or holds in effect, and neither is in the shadow. -/
theorem readsReturnTheValueInEffect : Obligations.ReadsReturnTheValueInEffect := by
  unfold Obligations.ReadsReturnTheValueInEffect
  refine ⟨fun f g d e v ix jx s => s.fieldVal_wrShadow f g d e v ix jx, fun f _ _ hacc d ix s => ?_,
    fun f d v ix s => s.rd_wrShadow f f d d ix ix v⟩
  rw [s.fieldVal_RW f d ix hacc]

/-- After reset every field holds its table's reset value (R9). -/
@[simp] theorem State.rd_reset (f : Fld) (d : Nat) (ix : List Nat) : State.reset.rd f d ix = f.resetAt d ix := rfl

theorem Fld.resetAt_const (f : Fld) (d : Nat) (ix : List Nat) (h : f.kind = .const) : f.resetAt d ix = f.rst := by
  simp [Fld.resetAt, h]

/-- Settles O3: the reset state lists no register, so each reads as its table's reset column says. -/
theorem resetIsAsStated : Obligations.ResetIsAsStated := by
  unfold Obligations.ResetIsAsStated
  have hqueue : QueueWf State.reset := fun c hc => absurd hc List.not_mem_nil
  refine ⟨hqueue, rfl, rfl, fun _ => rfl, State.rd_reset, fun f _ hf d ix => ?_, rfl, rfl, rfl, rfl, rfl, rfl, ?_, ?_, ?_⟩
  · rw [State.rd_reset, f.resetAt_const d ix hf]
  all_goals decide

end Sys2Proof.Machine
end

section
/-! SUPPORT. Commands that leave memory, tiles, units, directories, translations, requests and error records alone: the part of the state they keep,
and what each update they are made of does to it. -/

namespace Sys2Proof.Machine

/-- What a calm command leaves alone: memory and the cache over it, the tiles and clusters, the work, the directories, translations, requests, transfers,
error records, and the waiting commands. -/
structure World where
  dram : SMap Byte
  stcLines : List StcLine
  ue : SMap Nat
  tiles : SMap Tile
  clusters : SMap Cluster
  units : List WUnit
  descs : List Desc
  images : List Image
  dirs : SMap DirEntry
  tlbs : List (Nat × TlbEntry)
  reqs : List Req
  xfers : List Xfer
  errs : List ErrRec
  pending : List Instr

/-- That part of a state. -/
def State.world (s : State) : World :=
  ⟨s.dram, s.stcLines, s.ue, s.tiles, s.clusters, s.units, s.descs, s.images, s.dirs, s.tlbs, s.reqs, s.xfers, s.errs, s.pending⟩

theorem State.world_eq_iff (s u : State) : u.world = s.world ↔
    u.dram = s.dram ∧ u.stcLines = s.stcLines ∧ u.ue = s.ue ∧ u.tiles = s.tiles ∧ u.clusters = s.clusters ∧ u.units = s.units ∧ u.descs = s.descs ∧
    u.images = s.images ∧ u.dirs = s.dirs ∧ u.tlbs = s.tlbs ∧ u.reqs = s.reqs ∧ u.xfers = s.xfers ∧ u.errs = s.errs ∧ u.pending = s.pending := by
  simp only [State.world, World.mk.injEq]

/-! ### The updates calm commands are made of -/

section Updates
variable (s : State)

@[simp] theorem State.world_wr (f : Fld) (d : Nat) (ix : List Nat) (v : Nat) : (s.wr f d ix v).world = s.world := rfl
@[simp] theorem State.world_wrShadow (f : Fld) (d : Nat) (ix : List Nat) (v : Nat) : (s.wrShadow f d ix v).world = s.world := rfl
@[simp] theorem State.world_send (o : Out) : (s.send o).world = s.world := rfl
@[simp] theorem State.world_setBist (d : Nat) (b : BistDie) : (s.setBist d b).world = s.world := rfl
@[simp] theorem State.world_setInfo (p c : Nat) (i : CtxInfo) : (s.setInfo p c i).world = s.world := rfl
@[simp] theorem State.world_setOn (d i v : Nat) : (s.setOn d i v).world = s.world := rfl

@[simp] theorem State.each_nil {α : Type} (f : State → α → State) : s.each [] f = s := rfl

/-- A list of updates keeps it when each one does. -/
theorem State.world_each {α : Type} (l : List α) (f : State → α → State) (hf : ∀ s a, (f s a).world = s.world) : (s.each l f).world = s.world :=
  State.each_keeps (fun t => t.world = s.world) f (fun t a ht => (hf t a).trans ht) l s rfl

@[simp] theorem State.world_wrs (d : Nat) (ix : List Nat) (l : List (Fld × Nat)) : (s.wrs d ix l).world = s.world :=
  s.world_each l (fun s p => s.wr p.1 d ix p.2) (fun _ _ => rfl)

@[simp] theorem State.world_clear (d : Nat) (l : List Fld) : (s.clear d l).world = s.world :=
  s.world_each l _ (fun _ _ => rfl)

@[simp] theorem State.world_clearAll (d : Nat) (l : List Fld) : (s.clearAll d l).world = s.world :=
  s.world_each l _ (fun s f => s.world_each f.indices _ (fun _ _ => rfl))

@[simp] theorem State.world_cfgErr (b : Blk) (d : Nat) (ix : List Nat) (off : Nat) : (s.cfgErr b d ix off).world = s.world := by
  unfold State.cfgErr
  dsimp only
  split <;> rfl

@[simp] theorem State.world_regWrite (b : Blk) (d : Nat) (ix : List Nat) (v : Nat) (blocked : Fld → Bool) (fs : List Fld) :
    (s.regWrite b d ix v blocked fs).world = s.world := by
  have hput : ∀ (t : State) (p : Fld × Put), (match p.2 with
      | .put v => if p.1.cls == Cls.T then t.wrShadow p.1 d ix v else t.wr p.1 d ix v
      | _ => t).world = t.world := by
    intro t p
    split
    · split <;> rfl
    · rfl
  unfold State.regWrite
  dsimp only
  split
  · rw [State.world_cfgErr]
    exact State.world_each _ _ _ hput
  · exact State.world_each _ _ _ hput

@[simp] theorem State.world_ringWr (w b : Fld) (p r v : Nat) : (s.ringWr w b p r v).world = s.world := by
  unfold State.ringWr
  split <;> rfl

@[simp] theorem State.world_setRing (p r st reason : Nat) : (s.setRing p r st reason).world = s.world := by
  simp [State.setRing]

@[simp] theorem State.world_rotShow (d : Nat) : (s.rotShow d).world = s.world := by
  unfold State.rotShow
  split
  · rfl
  · extract_lets b k st
    split
    · rfl
    · exact s.world_wrs d [] _

@[simp] theorem State.world_nominate (d : Nat) : (s.nominate d).world = s.world := by
  unfold State.nominate
  dsimp only
  split
  · exact s.world_rotShow d
  · split
    · rfl
    · simp

theorem State.world_withQueue (q : List Instr) : (s.withQueue q).world = { s.world with pending := q } := rfl

/-- A meaning whose effect keeps the world keeps it, the queue among it. -/
theorem State.world_of_within {ok : Bool} {s t u : State} (h : within s ok t = .next u) (ht : t.world = s.world) : u.world = s.world := by
  obtain ⟨-, rfl⟩ := within_cases s t u ok h
  rw [State.world_withQueue, ht]
  rfl

end Updates

/-! ### The calm commands -/

/-- A meaning that keeps the world wherever it completes. -/
def Calm (f : State → Result) : Prop := ∀ s u, f s = .next u → u.world = s.world

theorem calm_tckNextAtArm (low : Nat) : Calm (execTckNextAtArm low) := fun s _ h => State.world_of_within h (by
  dsimp only
  split
  · exact s.world_cfgErr _ _ _ _
  · exact s.world_wrs _ _ _)

theorem calm_tckPeriodCancel : Calm execTckPeriodCancel := fun s _ h => State.world_of_within h (by
  split
  · exact s.world_cfgErr _ _ _ _
  · exact s.world_wrs _ _ _)

theorem calm_loopbackDone (port errors : Nat) : Calm (execLoopbackDone port errors) := fun s _ h => State.world_of_within h (by
  split
  · rfl
  · exact State.world_wrs _ _ _ _)

theorem calm_lshReadmit : Calm execLshReadmit := fun _ _ h => State.world_of_within h rfl

theorem calm_prochotRelease : Calm execProchotRelease := fun _ _ h => State.world_of_within h rfl

theorem calm_tagReuse (tag dt : Nat) : Calm (execTagReuse tag dt) := fun _ _ h => State.world_of_within h rfl

theorem calm_parZeroDone (part : Nat) : Calm (execParZeroDone part) := fun s _ h => State.world_of_within h (by split <;> rfl)

theorem calm_resetBusyClear (part : Nat) : Calm (execResetBusyClear part) := fun s _ h => State.world_of_within h (by split <;> rfl)

theorem calm_signTokenRefill (dt : Nat) : Calm (execSignTokenRefill dt) := fun s _ h => State.world_of_within h (by
  dsimp only
  split <;> rfl)

theorem calm_packActivate : Calm execPackActivate := fun s _ h => State.world_of_within h (by
  split
  · rfl
  · exact s.world_cfgErr _ _ _ _)

theorem calm_commitSvn : Calm execCommitSvn := fun s _ h => State.world_of_within h (by split <;> rfl)

theorem calm_bstClearFails (die : Nat) : Calm (execBstClearFails die) := fun s _ h => State.world_of_within h (by split <;> rfl)

theorem calm_packRestartDone (die : Nat) : Calm (execPackRestartDone die) := fun s _ h => State.world_of_within h (by split <;> rfl)

theorem calm_l0pRequest (width : Nat) : Calm (execL0pRequest width) := fun s _ h => State.world_of_within h (by
  split
  · rfl
  · rw [State.world_send, State.world_wrs])

theorem calm_pcieLinkTrain (speed width : Nat) (flit : Bool) : Calm (execPcieLinkTrain speed width flit) :=
  fun s _ h => State.world_of_within h (by
    split
    · rfl
    · exact State.world_wrs _ _ _ _)

theorem calm_wakeEvent (kind port : Nat) : Calm (execWakeEvent kind port) := fun s _ h => State.world_of_within h (by
  split
  · split
    · split <;> rfl
    · rfl
  · split <;> rfl)

theorem calm_resourceDirectoryRewrite (finish : Bool) : Calm (execResourceDirectoryRewrite finish) :=
  fun s _ h => State.world_of_within h (by
    split
    · rfl
    · dsimp only
      split <;> rfl)

theorem calm_powerWave (die dt : Nat) : Calm (execPowerWave die dt) := fun s _ h => State.world_of_within h (by
  dsimp only
  generalize (if s.boot.starting then s.rd R.BST_START_STEP 0 == 8 else s.rd R.PCI_STATUS_DSTATE 0 == 0) = due
  split
  · rfl
  · split
    · rfl
    · split
      · rfl
      · exact State.world_each _ _ _ (fun t i => t.world_setOn die i 1))

theorem calm_ringEnable (part ring value : Nat) : Calm (execRingEnable part ring value) := fun s _ h => State.world_of_within h (by
  dsimp only
  split
  · rfl
  · split
    · exact State.world_regWrite _ _ _ _ _ _ _
    · split
      · exact State.world_cfgErr _ _ _ _ _
      · split <;> rw [State.world_setRing, State.world_regWrite])

theorem calm_ekGenerated (part ctx : Nat) : Calm (execEkGenerated part ctx) := fun s _ h => State.world_of_within h (by
  split
  · rfl
  · split <;> rfl)

theorem calm_bistNominate (die dt : Nat) : Calm (execBistNominate die dt) := fun s _ h => State.world_of_within h (by
  split
  · rfl
  · exact State.world_nominate _ _)

theorem calm_xltClearStats (die : Nat) : Calm (execXltClearStats die) := fun s _ h => State.world_of_within h (by
  dsimp only
  split
  · rw [State.world_clear, State.world_clear]
  · rw [State.world_clear])

theorem calm_bayClearStats (bay : Nat) : Calm (execBayClearStats bay) :=
  fun s _ h => State.world_of_within h (s.world_each _ _ (fun _ _ => rfl))

theorem calm_errClearStats (die : Nat) : Calm (execErrClearStats die) :=
  fun s _ h => State.world_of_within h (by rw [State.world_wr, State.world_clearAll])

theorem calm_shdClearStats : Calm execShdClearStats := fun s _ h => State.world_of_within h (s.world_clear _ _)

theorem calm_tckClearStats : Calm execTckClearStats := fun s _ h => State.world_of_within h (s.world_wr _ _ _ _)

theorem calm_knlClearStats : Calm execKnlClearStats := fun s _ h => State.world_of_within h (s.world_wrs _ _ _)

theorem calm_sbrClearStats : Calm execSbrClearStats := fun s _ h => State.world_of_within h (s.world_wrs _ _ _)

theorem calm_pciClearStats : Calm execPciClearStats := fun s _ h => State.world_of_within h (s.world_clearAll _ _)

theorem calm_secClearStats : Calm execSecClearStats := fun s _ h => State.world_of_within h (s.world_clear _ _)

/-- Every CLEAR_STATS row is calm. -/
theorem calm_of_clearRow (c : Instr) (hc : (clearRow c).isSome = true) : Calm (exec c) := by
  unfold clearRow at hc
  split at hc
  case h_1 => exact calm_shdClearStats
  case h_2 => exact calm_tckClearStats
  case h_3 d => exact fun s _ h => State.world_of_within h (s.world_clear _ _)
  case h_4 d => exact fun s _ h => State.world_of_within h (s.world_clearAll _ _)
  case h_5 d => exact fun s _ h => State.world_of_within h (s.world_clearAll _ _)
  case h_6 d => exact calm_xltClearStats d
  case h_7 d => exact fun s _ h => State.world_of_within h (s.world_clearAll _ _)
  case h_8 d => exact fun s _ h => State.world_of_within h (s.world_clear _ _)
  case h_9 b => exact calm_bayClearStats b
  case h_10 d k => exact fun s _ h => State.world_of_within h (s.world_wrs _ _ _)
  case h_11 => exact calm_knlClearStats
  case h_12 => exact calm_sbrClearStats
  case h_13 => exact calm_pciClearStats
  case h_14 => exact calm_secClearStats
  case h_15 d => exact fun s _ h => State.world_of_within h (s.world_clear _ _)
  case h_16 d => exact calm_errClearStats d
  case h_17 => exact absurd hc (by simp)

/-- Every calm row is calm; where no lemma above is cited, its effect is one update. -/
theorem calm_of_calmRow (c : Instr) (hc : calmRow c = true) : Calm (exec c) := by
  unfold calmRow at hc
  split at hc
  case h_1 low => exact calm_tckNextAtArm low
  case h_2 => exact calm_tckPeriodCancel
  case h_3 die => exact fun s _ h => State.world_of_within h (s.world_wr _ _ _ _)
  case h_4 port errors => exact calm_loopbackDone port errors
  case h_5 => exact calm_lshReadmit
  case h_6 part => exact calm_parZeroDone part
  case h_7 part => exact calm_resetBusyClear part
  case h_8 dt => exact calm_signTokenRefill dt
  case h_9 value dt => exact fun s _ h => State.world_of_within h rfl
  case h_10 => exact calm_packActivate
  case h_11 => exact calm_commitSvn
  case h_12 die => exact calm_bstClearFails die
  case h_13 => exact calm_prochotRelease
  case h_14 die => exact calm_packRestartDone die
  case h_15 width => exact calm_l0pRequest width
  case h_16 speed width flit => exact calm_pcieLinkTrain speed width flit
  case h_17 kind port => exact calm_wakeEvent kind port
  case h_18 fn => exact fun s _ h => State.world_of_within h (s.world_send _)
  case h_19 off len => exact fun s _ h => State.world_of_within h (s.world_send _)
  case h_20 fn => exact fun s _ h => State.world_of_within h (s.world_wr _ _ _ _)
  case h_21 finish => exact calm_resourceDirectoryRewrite finish
  case h_22 die dt => exact calm_powerWave die dt
  case h_23 tag dt => exact calm_tagReuse tag dt
  case h_24 part ring value => exact calm_ringEnable part ring value
  case h_25 part ctx => exact calm_ekGenerated part ctx
  case h_26 die dt => exact calm_bistNominate die dt
  case h_27 => exact calm_of_clearRow c hc

/-! ### PERF_CLEAR -/

/-- Marking a cluster as metered or not leaves every cluster as it was but for that mark. -/
theorem State.clu_setClu_metered (s : State) (c k : Nat) (b : Bool) :
    { (s.setClu c { s.clu c with metered := b }).clu k with metered := (s.clu k).metered } = s.clu k := by
  by_cases h : k = c
  · subst h
    rw [State.clu_setClu_same]
  · rw [State.clu_setClu_ne s c k _ h]

/-- PERF_CLEAR marks its cluster as metered or not, and beside that writes registers alone (R91). -/
theorem State.world_perfClear (s : State) (c : Nat) :
    (s.perfClear c).world = (s.setClu c { s.clu c with metered := s.meters c }).world := by
  unfold State.perfClear
  refine (State.world_each _ _ _ (fun t k => ?_)).trans (State.world_each _ _ _ (fun t f => ?_))
  · rfl
  · rfl

/-- So it keeps the world but for that mark. -/
theorem cluPerfClear_world (c : Nat) (s u : State) (h : execCluPerfClear c s = .next u) :
    u.world = { s.world with clusters := u.clusters } ∧ ∀ k, { u.clu k with metered := (s.clu k).metered } = s.clu k := by
  have hw : u.world = { (s.setClu c { s.clu c with metered := s.meters c }).world with pending := s.pending } := by
    obtain ⟨-, rfl⟩ := within_cases s _ u _ h
    rw [State.world_withQueue, s.world_perfClear c]
  have hclu : u.clusters = (s.setClu c { s.clu c with metered := s.meters c }).clusters := congrArg World.clusters hw
  refine ⟨?_, fun k => ?_⟩
  · rw [hw, hclu]
    rfl
  · rw [show u.clu k = _ from congrArg (SMap.get Cluster.idle · k) hclu]
    exact s.clu_setClu_metered c k _

/-! ### A write of HUB_ISLAND while no island is down -/

/-- No island is down (R350). -/
def NoneDown (s : State) : Prop := ∀ i, s.islDown i = false

/-- A write of a field other than an island's state takes no island down. -/
theorem NoneDown.wr {s : State} (h : NoneDown s) (f : Fld) (d : Nat) (ix : List Nat) (v : Nat)
    (hne : ∀ i, R.COH_ISL_STATE_STATE.key 0 [i] ≠ f.key d ix) : NoneDown (s.wr f d ix v) := by
  intro i
  rw [State.islDown, s.rd_wr_ne _ _ _ _ _ _ _ (hne i)]
  exact h i

/-- Nor does setting an island's state to UP. -/
theorem NoneDown.wr_up {s : State} (h : NoneDown s) (j : Nat) : NoneDown (s.wr R.COH_ISL_STATE_STATE 0 [j] 0) := by
  intro i
  by_cases hk : R.COH_ISL_STATE_STATE.key 0 [i] = R.COH_ISL_STATE_STATE.key 0 [j]
  · have hij : i = j := by
      simp only [Fld.key, Fld.offset, R.COH_ISL_STATE_STATE, strideSum] at hk
      omega
    subst hij
    simp [State.islDown]
  · rw [State.islDown, s.rd_wr_ne _ _ _ _ _ _ _ hk]
    exact h i

/-- An island that was not down begins UP with no cause. -/
theorem NoneDown.island_up {s : State} (h : NoneDown s) (j : Nat) :
    NoneDown (s.wrs 0 [j] [(R.COH_ISL_STATE_STATE, 0), (R.COH_ISL_STATE_CAUSE, 0)]) := by
  refine (h.wr_up j).wr R.COH_ISL_STATE_CAUSE 0 [j] 0 (fun i hi => ?_)
  simp only [Fld.key, Fld.offset, R.COH_ISL_STATE_STATE, R.COH_ISL_STATE_CAUSE, strideSum] at hi
  omega

/-- The islands the dies belong to are held apart from the islands' states (R43, R356). -/
theorem NoneDown.wr_islands {s : State} (h : NoneDown s) (a b c d : Nat) :
    NoneDown (s.wrs 0 [] [(R.HUB_ISLAND_HD0_ISL, a), (R.HUB_ISLAND_HD1_ISL, b), (R.HUB_ISLAND_HD2_ISL, c), (R.HUB_ISLAND_HD3_ISL, d)]) := by
  have hne : ∀ f ∈ [R.HUB_ISLAND_HD0_ISL, R.HUB_ISLAND_HD1_ISL, R.HUB_ISLAND_HD2_ISL, R.HUB_ISLAND_HD3_ISL], ∀ i,
      R.COH_ISL_STATE_STATE.key 0 [i] ≠ f.key 0 [] := by
    intro f hf i
    have hlow : f.key 0 [] < R.COH_ISL_STATE_STATE.key 0 [0] := by
      revert f
      decide
    have hbase : R.COH_ISL_STATE_STATE.key 0 [0] ≤ R.COH_ISL_STATE_STATE.key 0 [i] := by
      simp only [Fld.key, Fld.offset, R.COH_ISL_STATE_STATE, strideSum]
      omega
    omega
  exact (((h.wr _ _ _ _ (hne _ (by simp))).wr _ _ _ _ (hne _ (by simp))).wr _ _ _ _ (hne _ (by simp))).wr _ _ _ _ (hne _ (by simp))

/-- With no island down, no bay goes to Heel with one (R385). -/
theorem NoneDown.no_bay {s : State} (h : NoneDown s) (l : List Nat) (isl : Nat → Nat) (p : Nat → Bool) :
    l.filter (fun b => s.islDown (isl b) && p b) = [] := by
  simp [h _]

/-- With no island down, a new island inherits no cause (R31). -/
theorem NoneDown.no_cause {s : State} (h : NoneDown s) (isl old : Nat → Nat) (cause : Nat → Nat) (i : Nat) :
    ((List.range 4).map (fun i => ((List.range 4).find? (fun d => isl d == i && s.rd R.COH_ISL_STATE_STATE 0 [old d] == 1)).map cause)).getD i none =
      none := by
  have hnone : ∀ j, ((List.range 4).find? (fun d => isl d == j && s.rd R.COH_ISL_STATE_STATE 0 [old d] == 1)) = none := by
    intro j
    refine List.find?_eq_none.2 (fun d _ => ?_)
    have hd : (s.rd R.COH_ISL_STATE_STATE 0 [old d] == 1) = false := h (old d)
    simp [hd]
  rw [List.getD_eq_getElem?_getD, List.getElem?_map]
  cases (List.range 4)[i]? <;> simp [hnone]

/-- While no island is down, a write of HUB_ISLAND changes registers alone. -/
theorem hubIslandWrite_world (v : Nat) (s u : State) (hs : NoneDown s) (h : execHubIslandWrite v s = .next u) : u.world = s.world := by
  refine State.world_of_within h ?_
  dsimp only
  split
  · rfl
  · split
    · exact State.world_cfgErr _ _ _ _ _
    · simp only [hs.no_cause]
      have hup := State.each_keeps NoneDown _ (fun t i ht => ht.island_up i) (List.range 4) _
        (hs.wr_islands (bits v (2 * 0) 2) (bits v (2 * 1) 2) (bits v (2 * 2) 2) (bits v (2 * 3) 2))
      rw [hup.no_bay, State.each_nil, State.world_each _ _ _ (fun t i => t.world_wrs 0 [i] _), State.world_wrs]

/-- Settles O5: calm rows keep the world, PERF_CLEAR all of it but the marks of its cluster, and a write of HUB_ISLAND sends no bay to Heel. -/
theorem calmCommandsFrame : Obligations.CalmCommandsFrame := by
  unfold Obligations.CalmCommandsFrame
  refine ⟨fun c s u hc h => ?_, fun c s u h => ?_, fun v s u hs h => ?_⟩
  · obtain ⟨hdram, hrest⟩ := (State.world_eq_iff s u).1 (calm_of_calmRow c hc s u h)
    exact ⟨fun a => by rw [hdram], hrest⟩
  · obtain ⟨hw, hmark⟩ := cluPerfClear_world c s u h
    simp only [State.world, World.mk.injEq, true_and] at hw
    obtain ⟨hdram, hstc, hue, htiles, hrest⟩ := hw
    exact ⟨fun a => by rw [hdram], hstc, hue, htiles, hmark, hrest⟩
  · obtain ⟨hdram, hrest⟩ := (State.world_eq_iff s u).1 (hubIslandWrite_world v s u hs h)
    exact ⟨fun a => by rw [hdram], hrest⟩

end Sys2Proof.Machine
end

section
/-! SUPPORT. A register that holds more than its field's bits: a write keeps the bits above the field, and its range check then drops it. -/

namespace Sys2Proof.Machine

/-- The reset state with PCI_TAG_LIMIT listed at 2^13, one past the 13 bits of VF_TAGS. The model's own writes cut to the width (`State.rd_wr_same`) and
list no such value, but a `State` can hold it. -/
def tagLimitTooWide : State := { State.reset with regs := [(R.PCI_TAG_LIMIT_VF_TAGS.key 0 [], 2 ^ 13)] }

/-- A write of 1 is merged with the bit above the field, to 2^13 + 1; that is above the field's largest value, 3584, so the write is dropped and the field
keeps what it held. -/
theorem rd_regWrite_tagLimitTooWide :
    (Result.after (exec (.regWrite 0 0x640010 4 1 0) tagLimitTooWide) tagLimitTooWide).rd R.PCI_TAG_LIMIT_VF_TAGS 0 = 2 ^ 13 := by
  decide +kernel

/-- Refutes O60: its second clause has a write of 1 to PCI_TAG_LIMIT read back as 1 in every state in which die 0 runs, also in one whose listed value is
wider than the field, where the write is dropped. Nothing in the clause bounds what the field holds by its width. -/
theorem not_registerAccessesComplete : ¬ Obligations.RegisterAccessesComplete := by
  unfold Obligations.RegisterAccessesComplete
  rintro ⟨-, htag, -⟩
  obtain ⟨u, hu, hread, -⟩ := htag 1 0 tagLimitTooWide (by decide) (by decide) (by decide)
  have hkept := rd_regWrite_tagLimitTooWide
  rw [hu, Result.after, hread] at hkept
  exact absurd hkept (by decide)

end Sys2Proof.Machine
end

section
/-! SUPPORT. The guard every meaning begins with is what well-formedness says, so no command of the package stops the block. -/

namespace Sys2Proof.Machine

/-- Every meaning is guarded by what the package has, and that guard is well-formedness (R23, R38, R199). -/
theorem exec_guarded_by_wf (c : Instr) (s : State) : ∃ t, exec c s = within s c.wf t := by
  cases c <;> exact ⟨_, rfl⟩

/-- A well-formed command answers a next state, with the queue as it was. -/
theorem exec_next_of_wf (c : Instr) (s : State) (h : c.wf = true) : ∃ t, exec c s = .next t ∧ t.pending = s.pending := by
  obtain ⟨t, ht⟩ := exec_guarded_by_wf c s
  exact ⟨t.withQueue s.pending, by rw [ht, within_next s t c.wf h], rfl⟩

/-- A command that names nothing the package has is a fault. -/
theorem exec_fault_of_not_wf (c : Instr) (s : State) (h : c.wf = false) : exec c s = .fault .noSuchInstance := by
  obtain ⟨t, ht⟩ := exec_guarded_by_wf c s
  rw [ht]
  exact (within_fault_iff s c.wf t _).2 ⟨h, rfl⟩

/-- A queue of well-formed commands stays one when its oldest leaves. -/
theorem queueWf_of_tail {s t : State} (h : QueueWf s) (ht : t.pending = s.pending.tail) : QueueWf t :=
  fun c hc => h c (List.mem_of_mem_tail (ht ▸ hc))

/-- From a queue of well-formed commands a step goes on, and takes the oldest command off the queue. -/
theorem step_next_of_queueWf (s : State) (h : QueueWf s) : ∃ t, step s = .next t ∧ t.pending = s.pending.tail := by
  unfold step
  split
  next hq => exact ⟨s, rfl, by simp [hq]⟩
  next c cs hq =>
    obtain ⟨t, ht, hpending⟩ := exec_next_of_wf c { s with pending := cs } (h c (by simp [hq]))
    exact ⟨t, ht, by simp [hpending, hq]⟩

/-- Settles O2: the guard of every meaning is well-formedness, and it leaves the queue to `step`. -/
theorem waitingCommandsComplete : Obligations.WaitingCommandsComplete := by
  unfold Obligations.WaitingCommandsComplete
  refine ⟨exec_next_of_wf, exec_fault_of_not_wf, fun s h => ?_⟩
  obtain ⟨t, ht, hpending⟩ := step_next_of_queueWf s h
  exact ⟨t, ht, queueWf_of_tail h hpending, hpending⟩

end Sys2Proof.Machine
end

section
/-! SUPPORT. The roles of the torus ports on each die (R24). -/

namespace Sys2Proof.Machine

/-- The role of port `i` of die `d` after reset, as HUB_TORUS_ROLE gives it (R43). -/
def torusRole (d i : Nat) : Nat :=
  if i = 0 then State.reset.rd R.HUB_TORUS_ROLE_T0_ROLE d else State.reset.rd R.HUB_TORUS_ROLE_T1_ROLE d

/-- The two ports of a dimension stand on different dies, those of W on dies of one column (R24). -/
theorem torusRole_opposite : ∀ (d e : Fin 4) (i j : Fin 2), torusRole d i / 2 = torusRole e j / 2 → torusRole d i ≠ torusRole e j →
    d.val ≠ e.val ∧ (torusRole d i / 2 = 3 → d.val % 2 = e.val % 2) := by
  decide

/-- The dimension of a port number is that of its role. -/
theorem portDim_eq_role : ∀ k < 8, portDim k = torusRole (k / 2) (k % 2) / 2 := by
  decide

/-- Settles O7: the role fields reset to R24's table, which says the rest of the finitely many ports. -/
theorem torusRolesByPosition : Obligations.TorusRolesByPosition := by
  unfold Obligations.TorusRolesByPosition
  exact ⟨fun d _ => ⟨rfl, rfl⟩, fun d e i j hd he hi hj => torusRole_opposite ⟨d, hd⟩ ⟨e, he⟩ ⟨i, hi⟩ ⟨j, hj⟩, fun k hk => portDim_eq_role k hk⟩

end Sys2Proof.Machine
end

section
/-! SUPPORT. What a home does with a request it takes up (R342 to R352), by the conditions it meets in their order. -/

namespace Sys2Proof.Machine

/-- A write is discarded and counted at an island that is down; nothing else is (R352). -/
theorem State.refused_of_read (s : State) (q : Nat) : s.refused q false = s := by
  simp [State.refused]

/-- A home that does not serve answers a read with status 2 (R351, R352). -/
theorem State.homeTry_down (s : State) (rid : Nat) (ecc : List Ecc) (r : Req) (hr : s.req? rid = some r) (hup : s.homeUp r.q = false)
    (hread : r.op.writes = false) : s.homeTry rid ecc = s.answer rid r.op.ans 2 [] := by
  simp [State.homeTry, hr, hup, hread, s.refused_of_read]

/-- A home of another island counts the request and answers status 3 (R29, R348). -/
theorem State.homeTry_notIsland (s : State) (rid : Nat) (ecc : List Ecc) (r : Req) (hr : s.req? rid = some r) (hup : s.homeUp r.q = true)
    (hroams : r.roams = false) (hisl : s.island r.die ≠ s.island (qDie r.q)) :
    s.homeTry rid ecc = (s.bump R.COH_NOT_ISLAND (qDie r.q) [] 1).answer rid r.op.ans 3 [] := by
  simp [State.homeTry, hr, hup, hroams, hisl]

/-- The two ways a request reaches a home by its island (R29, R348), as `homeTry` tests them. -/
theorem State.reaches_home (s : State) (r : Req) (h : r.roams = true ∨ s.island r.die = s.island (qDie r.q)) :
    (!r.roams && s.island r.die != s.island (qDie r.q)) = false := by
  rcases h with h | h <;> simp [h]

/-- A request for a busy line waits (R342). -/
theorem State.homeTry_busy (s : State) (rid : Nat) (ecc : List Ecc) (r : Req) (hr : s.req? rid = some r) (hup : s.homeUp r.q = true)
    (hreach : r.roams = true ∨ s.island r.die = s.island (qDie r.q)) (hsnoops : s.snoops = []) (hbusy : s.lineBusy r = true) :
    s.homeTry rid ecc = s.updReq rid (fun x => { x with stage := .waiting }) := by
  simp [State.homeTry, hr, hup, s.reaches_home r hreach, hsnoops, hbusy]

/-- An RD_CUR of a line that is not busy sends the snoops the directory asks for, or goes to memory at once (R343). -/
theorem State.homeTry_rdCur (s : State) (rid : Nat) (ecc : List Ecc) (r : Req) (hr : s.req? rid = some r) (hup : s.homeUp r.q = true)
    (hreach : r.roams = true ∨ s.island r.die = s.island (qDie r.q)) (hsnoops : s.snoops = []) (hfree : s.lineBusy r = false) (hop : r.op = .rdCur) :
    s.homeTry rid ecc = (let v := (s.sliceEcc r.q (r.loc / 256) r.mask ecc r.dpa r.waysOf r.ctx).updReq rid (fun x => { x with ans := 0, stage := .snoop })
      if s.needs r = [] then v.homeMem rid else v.each (s.needs r) (fun v n => v.snoop n.1 rid n.2.1 n.2.2 (qDie r.q) [])) := by
  simp [State.homeTry, hr, hup, s.reaches_home r hreach, hsnoops, hfree, hop, ReqOp.writes, ReqOp.caches, ReqOp.ans]

/-- Settles O29, case by case as the home tests them. -/
theorem homeTakesUp : Obligations.HomeTakesUp := by
  unfold Obligations.HomeTakesUp
  intro rid ecc r s hr
  exact ⟨s.homeTry_down rid ecc r hr, s.homeTry_notIsland rid ecc r hr, s.homeTry_busy rid ecc r hr, s.homeTry_rdCur rid ecc r hr⟩

end Sys2Proof.Machine
end

section
/-! SUPPORT. The windows of the host: BAR0, BAR2 and the expansion ROM (R36, R434 to R445). -/

namespace Sys2Proof.Machine

/-! ### BAR0 -/

theorem State.fnExists_zero (s : State) : s.fnExists 0 = true := rfl

theorem bar0Place_zero (off : Nat) : bar0Place 0 off = some (off / 2 ^ 26, off % 2 ^ 26) := rfl

/-- A write within BAR0 to a place of a die's registers is that register write (R36, R437, R438). -/
theorem exec_bar0Access_write (fn off len value dt d o : Nat) (s : State) (hfn : fn < 65) (hv : value < 2 ^ 64) (hex : s.fnExists fn = true)
    (hlen : off + len ≤ bar0Size fn) (hsize : regSize off len = true) (hheel : fn = 0 ∨ s.heel = false) (hplace : bar0Place fn off = some (d, o)) :
    exec (.bar0Access fn off len true value dt) s = .next ((s.busWrite d o len value dt).withQueue s.pending) := by
  have hopen : (fn != 0 && s.heel) = false := by rcases hheel with h | h <;> simp [h]
  refine (within_next s _ _ (by simpa [hfn] using hv)).trans ?_
  simp [hex, Nat.not_lt.2 hlen, hsize, hopen, hplace]

/-- A read waits for the function's writes through BAR2 (R442), then answers what the register read gives (R36, R437, R438, R510). -/
theorem exec_bar0Access_read (fn off len value dt d o v : Nat) (s t : State) (hfn : fn < 65) (hv : value < 2 ^ 64) (hex : s.fnExists fn = true)
    (hlen : off + len ≤ bar0Size fn) (hsize : regSize off len = true) (hheel : fn = 0 ∨ s.heel = false) (hposted : s.barPosted fn = false)
    (hplace : bar0Place fn off = some (d, o)) (hread : (if fn = 0 then s.regTouch d o len else s).busRead d o len = (v, t)) :
    exec (.bar0Access fn off len false value dt) s = .next ((t.send (.hostCpl fn 0 (leBytes len v))).withQueue s.pending) := by
  have hopen : (fn != 0 && s.heel) = false := by rcases hheel with h | h <;> simp [h]
  refine (within_next s _ _ (by simpa [hfn] using hv)).trans ?_
  simp [hex, Nat.not_lt.2 hlen, hsize, hopen, hposted, hplace, hread]

/-- The slots of a function's BAR0 that lead nowhere (R438). -/
theorem bar0Place_eq_none_iff (fn off : Nat) (h1 : 1 ≤ fn) (hoff : off < 2 ^ 19) : bar0Place fn off = none ↔ 6 * 0x10000 ≤ off := by
  have hfn : fn ≠ 0 := by omega
  simp only [bar0Place, hfn, if_false]
  split
  case h_7 h0 h1 h2 h3 h4 h5 =>
    simp only [imp_false] at h0 h1 h2 h3 h4 h5
    simp only [true_iff]
    omega
  all_goals
    simp only [reduceCtorEq, false_iff]
    omega

/-- A read of a size BAR0 does not take is counted and aborted (R437, R441). -/
theorem exec_bar0Access_badSize (fn off len value dt : Nat) (s : State) (hfn : fn < 65) (hv : value < 2 ^ 64) (hex : s.fnExists fn = true)
    (hlen : off + len ≤ bar0Size fn) (hsize : regSize off len = false) :
    exec (.bar0Access fn off len false value dt) s = .next (((s.bump R.PCI_BAR_ERR 0 [] 1).send (.hostCpl fn 4 [])).withQueue s.pending) := by
  refine (within_next s _ _ (by simpa [hfn] using hv)).trans ?_
  simp [hex, Nat.not_lt.2 hlen, hsize]

/-! ### BAR2 -/

@[simp] theorem State.bar2Fail_ask (s : State) (fn : Nat) : (s.bar2Fail fn).ask = s.ask := by
  unfold State.bar2Fail
  split <;> rfl

/-- An access that hits no BAR2 answers Unsupported Request (R441). -/
theorem exec_bar2Read_outside (fn off len : Nat) (s : State) (hfn : fn < 65) (hin : s.inBar2 fn off len = false) :
    exec (.bar2Read fn off len) s = .next (s.send (.hostCpl fn 1 [])) := by
  refine (within_next s _ _ (by simp [hfn])).trans ?_
  simp only [hin, Bool.not_false, if_true]
  rfl

/-- A read waits for the function's posted writes (R442). -/
theorem exec_bar2Read_posted (fn off len : Nat) (s : State) (hfn : fn < 65) (hin : s.inBar2 fn off len = true) (hposted : s.barPosted fn = true) :
    exec (.bar2Read fn off len) s = .next s := by
  refine (within_next s _ _ (by simp [hfn])).trans ?_
  simp [hin, hposted]

/-- What BAR2 answers of a read that has or has not got its bytes. -/
def State.bar2Answer (fn : Nat) : Option (List Byte) × State → State
  | (some bs, t) => t.send (.hostCpl fn 0 bs)
  | (none, t) => (t.bar2Fail fn).send (.hostCpl fn 4 [])

/-- With nothing posted the read is answered once its memory is at hand (R439, R440, R442). -/
theorem exec_bar2Read_answers (fn off len : Nat) (s : State) (hfn : fn < 65) (hin : s.inBar2 fn off len = true) (hposted : s.barPosted fn = false)
    (hask : (s.bar2Get fn off len).2.ask = []) :
    exec (.bar2Read fn off len) s = .next ((State.bar2Answer fn (s.bar2Get fn off len)).withQueue s.pending) := by
  refine (within_next s _ _ (by simp [hfn])).trans ?_
  simp only [hin, hposted, Bool.not_true, if_false, Bool.false_eq_true]
  rw [State.orWait_here]
  · rfl
  · split <;> simp_all

/-- A write that hits BAR2 is posted (R442). -/
theorem exec_bar2Write_inside (fn off : Nat) (data : List Byte) (s : State) (hfn : fn < 65) (hin : s.inBar2 fn off data.length = true) :
    exec (.bar2Write fn off data) s = .next ((s.bar2Put fn off data).withQueue s.pending) := by
  refine (within_next s _ _ (by simp [hfn])).trans ?_
  simp [hin]

/-- A write known to go nowhere is discarded and counted (R441, R455). -/
theorem State.bar2Put_off (s : State) (fn off : Nat) (data : List Byte) (h : s.bar2Off fn off data.length = true) :
    s.bar2Put fn off data = s.bar2Fail fn := by
  simp [State.bar2Put, h]

/-- A write of PF0 is sent to memory where it decodes to homes that serve (R439, R442). -/
theorem State.bar2Put_posted (s t : State) (off : Nat) (data : List Byte) (hon : s.bar2Off 0 off data.length = false)
    (hpost : ((({ s with nextId := s.nextId + 1 } : State).bar2Touch (s.bar2Dpa off) data.length).post .pcie (.bar 0 (s.nextId + 1)) (s.bar2Dpa off) data) =
      some t) : s.bar2Put 0 off data = t := by
  simp only [State.bar2Put, hon, Bool.false_eq_true, if_false, if_true]
  exact congrArg (Option.getD · _) hpost

/-- A shut window answers nothing (R455, R459). -/
theorem State.bar2_shut (s : State) (fn off len : Nat) (h : s.barShut = true) : s.bar2Off fn off len = true ∧ s.bar2Get fn off len = (none, s) := by
  have hoff : s.bar2Off fn off len = true := by simp [State.bar2Off, h]
  exact ⟨hoff, by simp [State.bar2Get, hoff]⟩

/-! ### Expansion ROM and resource directory -/

/-- The image's pointer to its PCI Data Structure is 16 bits wide, so the directory half of the window is the directory alone (R443). -/
theorem State.romByte_directory (s : State) (a : Nat) (ha : 0x80000 ≤ a) : s.romByte a = s.host.directory.getD (a - 0x80000) 0 := by
  have hlo := (Config.uefiByte 0x18).isLt
  have hhi := (Config.uefiByte 0x19).isLt
  simp only [State.romByte]
  rw [if_neg (by omega), if_neg (by omega), if_neg (by omega), if_neg (by omega), if_neg (by omega)]

/-- The bytes of the window that a read returns. -/
def State.romBytes (s : State) (off len : Nat) : List Byte := (List.range len).map (fun i => s.romByte (off + i))

@[simp] theorem State.length_romBytes (s : State) (off len : Nat) : (s.romBytes off len).length = len := by
  simp [State.romBytes]

theorem State.getD_romBytes (s : State) (off len i : Nat) (hi : i < len) : (s.romBytes off len).getD i 0 = s.romByte (off + i) := by
  simp [State.romBytes, hi]

theorem exec_expansionRomRead (off len : Nat) (s : State) (h : off + len ≤ 2 ^ 20) :
    exec (.expansionRomRead off len) s = .next ((s.send (.hostCpl 0 0 (s.romBytes off len))).withQueue s.pending) :=
  within_next s _ _ (by simpa using h)

/-- Collar raises GENERATION as it starts a rewrite (R444, R445). -/
theorem exec_directoryRewrite_start (s : State) (h : s.host.dirGen % 2 = 0) :
    ∃ u, exec (.resourceDirectoryRewrite false) s = .next u ∧ u.host.dirGen = (s.host.dirGen + 1) % 2 ^ 32 ∧
      u.host.directory = s.host.directory.take 12 ++ leBytes 4 u.host.dirGen ++ s.host.directory.drop 16 := by
  refine ⟨_, within_next s _ _ rfl, ?_⟩
  simp [h]

/-- It raises GENERATION again as it finishes, with the entries of the package as they then are (R444, R445). -/
theorem exec_directoryRewrite_finish (s : State) (h : s.host.dirGen % 2 = 1) :
    ∃ u, exec (.resourceDirectoryRewrite true) s = .next u ∧ u.host.dirGen = (s.host.dirGen + 1) % 2 ^ 32 ∧
      u.host.directory = u.dirHeader u.dirEntries.length (64 + u.dirEntries.flatten.length) ++ u.dirEntries.flatten := by
  refine ⟨_, within_next s _ _ rfl, ?_⟩
  simp only [h, bne_self_eq_false, beq_self_eq_true, if_true, Bool.false_eq_true, if_false]
  exact ⟨rfl, rfl⟩

end Sys2Proof.Machine
end

section
/-! SUPPORT. The host link, wakes, L0p and I3C (R434, R460 to R462). -/

namespace Sys2Proof.Machine

/-! ### Several fields of one register -/

@[simp] theorem State.wrs_nil (s : State) (d : Nat) (ix : List Nat) : s.wrs d ix [] = s := rfl
@[simp] theorem State.wrs_cons (s : State) (d : Nat) (ix : List Nat) (p : Fld × Nat) (l : List (Fld × Nat)) :
    s.wrs d ix (p :: l) = (s.wr p.1 d ix p.2).wrs d ix l := rfl

/-- A field reads as written when the value fits its width. -/
theorem State.rd_wr_fits (s : State) (f : Fld) (d : Nat) (ix : List Nat) (v : Nat) (h : v < 2 ^ f.width) : (s.wr f d ix v).rd f d ix = v := by
  rw [State.rd_wr_same, Nat.mod_eq_of_lt h]

/-! ### The link -/

/-- The link trains to the speed, width and flit mode it came up with, and WAKE# is released (R434, R460, R462). -/
theorem exec_pcieLinkTrain_trains (speed width : Nat) (flit : Bool) (s : State) (hs : 1 ≤ speed) (hs' : speed < 7) (hw : 1 ≤ width) (hw' : width < 17)
    (hlcs : s.rd R.LCS_STATE_STATE 0 ≠ 3) :
    ∃ u, exec (.pcieLinkTrain speed width flit) s = .next u ∧ u.rd R.PCI_STATUS_SPEED 0 = speed ∧ u.rd R.PCI_STATUS_WIDTH 0 = width ∧
      u.rd R.PCI_STATUS_FLIT 0 = (if flit || speed == 6 then 1 else 0) ∧ u.host.wakeLow = false := by
  refine ⟨_, within_next s _ _ (by simp [hs, hs', hw, hw']), ?_⟩
  rw [if_neg hlcs]
  have hspeed : speed < 2 ^ R.PCI_STATUS_SPEED.width := hs'.trans (by decide)
  have hwidth : width < 2 ^ R.PCI_STATUS_WIDTH.width := hw'.trans (by decide)
  have hflit : (if flit || speed == 6 then 1 else 0) < 2 ^ R.PCI_STATUS_FLIT.width := by split <;> decide
  simp (disch := decide) only [State.wrs_cons, State.wrs_nil, State.rd_withQueue, State.rd_wr_ne]
  exact ⟨State.rd_wr_fits _ _ _ _ _ hspeed, State.rd_wr_fits _ _ _ _ _ hwidth, State.rd_wr_fits _ _ _ _ _ hflit, rfl⟩

/-- In END_OF_LIFE PCIe stays in reset (R517). -/
theorem exec_pcieLinkTrain_endOfLife (speed width : Nat) (flit : Bool) (s : State) (hs : 1 ≤ speed) (hs' : speed < 7) (hw : 1 ≤ width) (hw' : width < 17)
    (hlcs : s.rd R.LCS_STATE_STATE 0 = 3) : exec (.pcieLinkTrain speed width flit) s = .next s := by
  refine (within_next s _ _ (by simp [hs, hs', hw, hw'])).trans ?_
  rw [if_pos hlcs, State.withQueue_self]

/-! ### Wakes and L0p -/

/-- Setting a bit adds it where it was clear. -/
theorem setBits_one (v i : Nat) : setBits v i 1 1 = if v.testBit i then v else 2 ^ i + v := by
  have hle : v / 2 ^ i % 2 = 1 → 2 ^ i ≤ v := fun h => by
    by_contra hlt
    simp [Nat.div_eq_of_lt (Nat.not_le.1 hlt)] at h
  simp only [setBits, bits, Nat.shiftLeft_eq, Nat.shiftRight_eq_div_pow, pow_one, Nat.testBit_eq_decide_div_mod_eq, decide_eq_true_eq]
  rcases Nat.mod_two_eq_zero_or_one (v / 2 ^ i) with h | h
  · simp [h, Nat.add_comm]
  · simp [h, Nat.sub_add_cancel (hle h)]

/-- Adding a clear bit leaves the higher ones. -/
theorem testBit_two_pow_add_lt {i j : Nat} (hij : i < j) (v : Nat) (h : v.testBit i = false) : (2 ^ i + v).testBit j = v.testBit j := by
  obtain ⟨k, rfl⟩ := Nat.exists_eq_add_of_lt hij
  have heven : v / 2 ^ i % 2 = 0 := by simpa [Nat.testBit_eq_decide_div_mod_eq] using h
  have hdiv : (2 ^ i + v) / 2 ^ (i + 1) = v / 2 ^ (i + 1) := by
    rw [pow_succ, ← Nat.div_div_eq_div_mul, ← Nat.div_div_eq_div_mul, Nat.add_div_left v (Nat.two_pow_pos i)]
    omega
  rw [show i + k + 1 = k + (i + 1) by omega, Nat.testBit_add, Nat.testBit_add, hdiv]

/-- A set bit reads as set, and every other as before. -/
theorem bit_setBits (v i j : Nat) : bit (setBits v i 1 1) j = (decide (j = i) || bit v j) := by
  simp only [bit, setBits_one]
  cases hset : v.testBit i with
  | true => by_cases h : j = i <;> simp [h, hset]
  | false =>
    rcases Nat.lt_trichotomy j i with h | rfl | h
    · simp [Nat.testBit_two_pow_add_gt h, Nat.ne_of_lt h]
    · simp [Nat.testBit_two_pow_add_eq, hset]
    · simp [testBit_two_pow_add_lt h v hset, Nat.ne_of_gt h]

@[simp] theorem State.cfgGet_cfgSet_same (s : State) (fn k v : Nat) : (s.cfgSet fn k v).cfgGet fn k = v := by
  simp [State.cfgGet, State.cfgSet]

theorem exec_wakeEvent_d3hot (port : Nat) (s : State) (hport : port < 8) (hmain : s.boot.mainOff = false) (hd3 : s.rd R.PCI_STATUS_DSTATE 0 = 3)
    (hpme : bit (s.cfgGet 0 9) 8 = true) (hsbr : s.rdB R.PCI_CTRL_WAKE_SBR 0 = true) :
    ∃ u, exec (.wakeEvent 0 port) s = .next u ∧ bit (u.cfgGet 0 9) 15 = true ∧ u.out = s.out ++ [.hostMsg 6 0 0] := by
  refine ⟨_, within_next s _ _ (by simp [hport]), ?_⟩
  simp only [hmain, hd3, hpme, hsbr, Bool.false_eq_true, if_false, true_and, true_or, if_true]
  exact ⟨(congrArg (bit · 15) (State.cfgGet_cfgSet_same s 0 9 _)).trans (by simp [bit_setBits]), rfl⟩

theorem exec_wakeEvent_d3cold (port : Nat) (sbr : Bool) (ports : List Nat) (s : State) (hport : port < 8) (hmain : s.boot.mainOff = true)
    (harmed : s.host.wake = some (sbr, true, ports)) (hmem : port ∈ ports) :
    ∃ u, exec (.wakeEvent 1 port) s = .next u ∧ u.host.wakeLow = true ∧ u.out = s.out ++ [.hostMsg 7 0 0] := by
  refine ⟨_, within_next s _ _ (by simp [hport]), ?_⟩
  simp [hmain, harmed, hmem, State.send]

theorem exec_l0pRequest_changes (w : Nat) (s : State) (hw : w = 8 ∨ w = 16) (hauto : s.rdB R.PCI_CTRL_L0P_AUTO 0 = true)
    (hspeed : s.rd R.PCI_STATUS_SPEED 0 ≠ 0) (hpower : s.rd R.PCI_STATUS_LPOWER 0 ≠ 2) :
    ∃ u, exec (.l0pRequest w) s = .next u ∧ u.rd R.PCI_STATUS_WIDTH 0 = w ∧ u.rd R.PCI_STATUS_LPOWER 0 = (if w = 8 then 1 else 0) := by
  refine ⟨_, within_next s _ _ (by simpa using hw), ?_⟩
  have hwidth : w < 2 ^ R.PCI_STATUS_WIDTH.width := by rcases hw with rfl | rfl <;> decide
  have hlow : (if w = 8 then 1 else 0) < 2 ^ R.PCI_STATUS_LPOWER.width := by split <;> decide
  simp (disch := decide) only [hauto, beq_iff_eq, hspeed, hpower, Bool.not_true, Bool.false_eq_true, or_self, if_false, State.wrs_cons, State.wrs_nil,
    State.rd_withQueue, State.rd_send, State.rd_wr_ne, Bool.or_eq_true]
  exact ⟨State.rd_wr_fits _ _ _ _ _ hwidth, State.rd_wr_fits _ _ _ _ _ hlow⟩

/-! ### I3C -/

/-- An identity query is answered with the serial number and the life-cycle state (R517). -/
theorem exec_i3cMctp_query (restore same : Bool) (g : Nat) (s : State) (hask : s.ask = []) :
    ∃ u, exec (.i3cMctp true restore same g) s = .next u ∧ u.out = s.out ++ [.i3c (leBytes 8 (s.rd R.LCS_SERIAL 0) ++ leBytes 1 s.lcs)] := by
  refine ⟨_, within_next s _ _ rfl, ?_⟩
  rw [State.orWait_here _ _ (by simpa using hask)]
  rfl

/-- In END_OF_LIFE nothing else is answered (R517). -/
theorem exec_i3cMctp_endOfLife (restore same : Bool) (g : Nat) (s : State) (hlcs : s.lcs = 3) (hask : s.ask = []) :
    exec (.i3cMctp false restore same g) s = .next s := by
  refine (within_next s _ _ rfl).trans ?_
  rw [State.orWait_here _ _ (by simpa [hlcs] using hask)]
  simp [hlcs]

theorem exec_i3cMctp_manage (same : Bool) (g : Nat) (s : State) (hlcs : s.lcs ≠ 3) (hask : s.ask = []) :
    exec (.i3cMctp false false same g) s = .next (s.send (.mgmt 0 3 0 0)) := by
  refine (within_next s _ _ rfl).trans ?_
  rw [State.orWait_here _ _ (by simpa [hlcs] using hask)]
  simp only [hlcs, Bool.false_eq_true, if_false]
  rfl

theorem exec_i3cMctp_restore (same : Bool) (g : Nat) (s : State) (hlcs : s.lcs ≠ 3) (hask : (s.knlServe same g).ask = []) :
    exec (.i3cMctp false true same g) s = .next ((s.knlServe same g).withQueue s.pending) := by
  refine (within_next s _ _ rfl).trans ?_
  rw [State.orWait_here _ _ (by simpa [hlcs] using hask)]
  simp [hlcs]

/-- Settles O52, window by window. -/
theorem hostWindowCommandsComplete : Obligations.HostWindowCommandsComplete := by
  unfold Obligations.HostWindowCommandsComplete
  refine ⟨fun off len value dt s hv hlen hsize => ⟨?_, fun hposted => ⟨_, _, rfl, ?_⟩⟩, ?_, ?_, fun fn off h1 _ hoff => bar0Place_eq_none_iff fn off h1 hoff, ?_,
    exec_bar2Read_posted, ?_, ?_, exec_bar2Read_outside, exec_bar2Write_inside, fun fn off data s => s.bar2Put_off fn off data,
    fun off data s t => s.bar2Put_posted t off data, fun fn off len s => s.bar2_shut fn off len, ?_, exec_directoryRewrite_start, exec_directoryRewrite_finish,
    exec_pcieLinkTrain_trains, exec_pcieLinkTrain_endOfLife, exec_wakeEvent_d3hot, exec_wakeEvent_d3cold, exec_l0pRequest_changes,
    exec_i3cMctp_query, fun restore same g s => exec_i3cMctp_endOfLife restore same g s,
    fun same g s hlcs => ⟨exec_i3cMctp_manage same g s hlcs, exec_i3cMctp_restore same g s hlcs⟩⟩
  case refine_1 =>
    exact exec_bar0Access_write 0 off len value dt _ _ s (by decide) hv s.fnExists_zero hlen hsize (.inl rfl) (bar0Place_zero off)
  case refine_2 =>
    exact exec_bar0Access_read 0 off len value dt _ _ _ s _ (by decide) hv s.fnExists_zero hlen hsize (.inl rfl) hposted (bar0Place_zero off) rfl
  case refine_3 =>
    intro fn off len value dt o s h1 hfn hv hlen hsize hex hheel hplace
    exact exec_bar0Access_write fn off len value dt 0 o s hfn hv hex (by rwa [bar0Size, if_neg (by omega)]) hsize (.inr hheel) hplace
  case refine_4 =>
    intro fn off len value dt o v s t h1 hfn hv hlen hsize hex hheel hposted hplace hread
    exact exec_bar0Access_read fn off len value dt 0 o v s t hfn hv hex (by rwa [bar0Size, if_neg (by omega)]) hsize (.inr hheel) hposted hplace
      (by rwa [if_neg (by omega)])
  case refine_5 =>
    intro fn off len value dt s hfn hv hex hlen hsize
    exact ⟨_, exec_bar0Access_badSize fn off len value dt s hfn hv hex hlen hsize, rfl, s.rd_bump_same R.PCI_BAR_ERR 0 [] 1⟩
  case refine_6 =>
    intro fn off len bs s t hfn hin hposted hget hask
    rw [exec_bar2Read_answers fn off len s hfn hin hposted (by rw [hget]; exact hask), hget]
    rfl
  case refine_7 =>
    intro fn off len s t hfn hin hposted hget hask
    rw [exec_bar2Read_answers fn off len s hfn hin hposted (by rw [hget]; exact hask), hget]
    rfl
  case refine_8 =>
    intro off len s hlen
    refine ⟨_, exec_expansionRomRead off len s hlen, s.romBytes off len, rfl, s.length_romBytes off len, fun i hi h0 => ?_, fun i hi h1 => ?_, fun i hi hdir => ?_⟩
    · rw [s.getD_romBytes off len i hi, h0]
      rfl
    · rw [s.getD_romBytes off len i hi, h1]
      rfl
    · rw [s.getD_romBytes off len i hi, s.romByte_directory _ hdir]

end Sys2Proof.Machine
end

section
/-! SUPPORT. Registers that the memory system and the error engine leave alone: where the islands stand (R43, R356) and where a package start stands
(R538). A request may carry any master port and class, so each write is held apart from these places by its key. -/

namespace Sys2Proof.Machine

/-- What the register map lists at a key. -/
abbrev State.held (s : State) (k : Nat) : Option Nat := SMap.look s.regs k

theorem State.rd_of_held {s t : State} {f : Fld} {d : Nat} {ix : List Nat} (h : t.held (f.key d ix) = s.held (f.key d ix)) : t.rd f d ix = s.rd f d ix := by
  simp only [State.held] at h
  simp only [State.rd, SMap.get, h]

/-! ### Keys -/

/-- The islands of the dies and the states of the islands. -/
def islandKeys : List Nat :=
  [R.HUB_ISLAND_HD0_ISL, R.HUB_ISLAND_HD1_ISL, R.HUB_ISLAND_HD2_ISL, R.HUB_ISLAND_HD3_ISL].map (·.key 0 []) ++
    (List.range 4).map (fun i => R.COH_ISL_STATE_STATE.key 0 [i])

/-- The step and the die of BST_START, and the duration of step 5. -/
def startKeys : List Nat := [R.BST_START_STEP.key 0 [], R.BST_START_DIE.key 0 [], R.BST_STEP_MS_ODD.key 0 [2]]

theorem mem_islandKeys_iff (k : Nat) : k ∈ islandKeys ↔
    k = 256 ∨ k = 258 ∨ k = 260 ∨ k = 262 ∨ k = 40894620 ∨ k = 40894748 ∨ k = 40894876 ∨ k = 40895004 := by
  rw [show islandKeys = [256, 258, 260, 262, 40894620, 40894748, 40894876, 40895004] from rfl]
  simp

theorem mem_startKeys_iff (k : Nat) : k ∈ startKeys ↔ k = 63963164 ∨ k = 63963162 ∨ k = 63963328 := by
  rw [show startKeys = [63963164, 63963162, 63963328] from rfl]
  simp

/-- A key that nothing a request of class `c` counts is kept at. -/
def Guarded (c k : Nat) : Prop := k ∈ islandKeys ∨ (k ∈ startKeys ∧ c < 4)

def guardedKeys : List Nat := islandKeys ++ startKeys

theorem Guarded.mem {c k : Nat} (h : Guarded c k) : k ∈ guardedKeys := by
  rcases h with h | h
  · exact List.mem_append_left _ h
  · exact List.mem_append_right _ h.1

theorem guarded_of_island (c : Nat) {k : Nat} (h : k ∈ islandKeys) : Guarded c k := .inl h

/-- A field none of whose places is among some keys: it stands above them all, or has one place on each die and stands elsewhere. -/
def Fld.off (ks : List Nat) (f : Fld) : Bool :=
  ks.all (fun k => decide (k < 8 * f.base)) || (f.dims.isEmpty && ks.all (fun k => decide (k < 2 ^ 29) && k != f.key 0 []))

theorem Fld.key_ne_of_off {ks : List Nat} {k : Nat} (hk : k ∈ ks) {f : Fld} (hf : f.off ks = true) (d : Nat) (ix : List Nat) : k ≠ f.key d ix := by
  simp only [Fld.off, Bool.or_eq_true, Bool.and_eq_true, List.all_eq_true, decide_eq_true_eq, bne_iff_ne] at hf
  rcases hf with habove | ⟨hdims, hapart⟩
  · have hlt := habove k hk
    simp only [Fld.key, Fld.offset]
    omega
  · obtain ⟨hsmall, hne⟩ := hapart k hk
    have hsum : ∀ jx, strideSum f.dims jx = 0 := fun jx => by
      rw [List.isEmpty_iff.1 hdims]
      rfl
    simp only [Fld.key, Fld.offset, hsum] at hne ⊢
    intro heq
    obtain rfl | hd := Nat.eq_zero_or_pos d
    · exact hne heq
    · have hdie : 2 ^ 26 ≤ d * 2 ^ 26 := Nat.le_mul_of_pos_left _ hd
      omega

/-! ### One write -/

section
variable {k : Nat} (s : State)

theorem State.held_wr_ne (f : Fld) (d : Nat) (ix : List Nat) (v : Nat) (h : k ≠ f.key d ix) : (s.wr f d ix v).held k = s.held k :=
  SMap.look_ins_ne _ _ h

theorem State.held_wr_off {ks : List Nat} (hk : k ∈ ks) (f : Fld) (d : Nat) (ix : List Nat) (v : Nat) (hf : f.off ks = true) :
    (s.wr f d ix v).held k = s.held k :=
  s.held_wr_ne f d ix v (Fld.key_ne_of_off hk hf d ix)

theorem State.held_bump_off {ks : List Nat} (hk : k ∈ ks) (f : Fld) (d : Nat) (ix : List Nat) (n : Nat) (hf : f.off ks = true) :
    (s.bump f d ix n).held k = s.held k :=
  s.held_wr_off hk f d ix _ hf

theorem State.held_roll_off {ks : List Nat} (hk : k ∈ ks) (f : Fld) (d : Nat) (ix : List Nat) (n : Nat) (hf : f.off ks = true) :
    (s.roll f d ix n).held k = s.held k :=
  s.held_wr_off hk f d ix _ hf

/-- A list of updates keeps a place that each of them keeps. -/
theorem State.held_each_mem {α : Type} (f : State → α → State) : ∀ (l : List α) (s : State), (∀ t, ∀ a ∈ l, (f t a).held k = t.held k) →
    (s.each l f).held k = s.held k
  | [], _, _ => rfl
  | a :: l, s, hf =>
    (State.held_each_mem f l (f s a) (fun t b hb => hf t b (List.mem_cons_of_mem a hb))).trans (hf s a List.mem_cons_self)

theorem State.held_each {α : Type} (l : List α) (f : State → α → State) (hf : ∀ t a, (f t a).held k = t.held k) : (s.each l f).held k = s.held k :=
  State.held_each_mem f l s (fun t a _ => hf t a)

/-! ### Counters of a memory port and of the Leash -/

variable {c : Nat}

theorem State.held_wr_memPort (hk : k ∈ guardedKeys) (f : Fld) (hf : f ∈ [R.MEM_PORT_UE, R.MEM_PORT_SECTORS, R.MEM_PORT_LAST_UE]) (d q v : Nat) :
    (s.wr f d (portIx q) v).held k = s.held k := by
  refine s.held_wr_ne f d _ v ?_
  have hport : q / 8 % 32 < 32 := Nat.mod_lt _ (by decide)
  simp only [guardedKeys, List.mem_append, mem_islandKeys_iff, mem_startKeys_iff] at hk
  simp only [List.mem_cons, List.not_mem_nil, or_false] at hf
  rcases hf with rfl | rfl | rfl <;>
    simp only [Fld.key, Fld.offset, portIx, strideSum, R.MEM_PORT_UE, R.MEM_PORT_SECTORS, R.MEM_PORT_LAST_UE] <;> omega

theorem State.held_wr_lshClass (hk : Guarded c k) (f : Fld) (hf : f ∈ [R.LSH_M_GUAR, R.LSH_M_BE]) (d m v : Nat) :
    (s.wr f d [m, c] v).held k = s.held k := by
  refine s.held_wr_ne f d _ v ?_
  simp only [Guarded, mem_islandKeys_iff, mem_startKeys_iff] at hk
  simp only [List.mem_cons, List.not_mem_nil, or_false] at hf
  rcases hf with rfl | rfl <;>
    simp only [Fld.key, Fld.offset, strideSum, R.LSH_M_GUAR, R.LSH_M_BE] <;> omega

theorem State.held_wr_lshPort (hk : Guarded c k) (f : Fld) (hf : f ∈ [R.LSH_PORT_UNITS, R.LSH_PORT_LATE]) (d q v : Nat) :
    (s.wr f d (portIx q ++ [c]) v).held k = s.held k := by
  refine s.held_wr_ne f d _ v ?_
  have hport : q / 8 % 32 < 32 := Nat.mod_lt _ (by decide)
  simp only [Guarded, mem_islandKeys_iff, mem_startKeys_iff] at hk
  simp only [List.mem_cons, List.not_mem_nil, or_false] at hf
  rcases hf with rfl | rfl <;>
    simp only [Fld.key, Fld.offset, portIx, List.cons_append, List.nil_append, strideSum, R.LSH_PORT_UNITS, R.LSH_PORT_LATE] <;> omega

theorem State.held_wr_slotted (hk : k ∈ guardedKeys) (d m v : Nat) : (s.wr R.FLL_M_SLOTTED d [m] v).held k = s.held k := by
  refine s.held_wr_ne _ d _ v ?_
  simp only [guardedKeys, List.mem_append, mem_islandKeys_iff, mem_startKeys_iff] at hk
  simp only [Fld.key, Fld.offset, strideSum, R.FLL_M_SLOTTED]
  omega


/-! ### The stack cache and memory -/

theorem State.held_writeBack (hk : k ∈ guardedKeys) (l : StcLine) : (s.writeBack l).held k = s.held k := by
  have heach : (s.each (maskList l.dirty) (fun s i => { s with ue := SMap.del s.ue ((qAddr l.q (l.gran * 256 + 32 * i)) / 32) })).held k = s.held k :=
    s.held_each _ _ (fun _ _ => rfl)
  simp only [State.writeBack]
  split
  · exact (State.held_wr_memPort _ hk _ (by decide) _ _ _).trans heach
  · exact (State.held_wr_off _ hk _ _ _ _ (by decide)).trans heach

theorem State.held_stcFill (hk : k ∈ guardedKeys) (q gran mask valid dirty rrpv : Nat) : (s.stcFill q gran mask valid dirty rrpv).held k = s.held k := by
  simp only [State.stcFill]
  split
  · rfl
  · split
    · rfl
    · exact s.held_writeBack hk _

theorem State.held_stcAccess (hk : k ∈ guardedKeys) (q gran mask dpa part : Nat) (hint write : Bool) :
    (s.stcAccess q gran mask dpa part hint write).held k = s.held k := by
  have hbump : ∀ (t : State) (f : Fld) (d : Nat), f ∈ [R.STC_BYPASS, R.STC_HITS, R.STC_MISSES] → (t.bump f d [] 1).held k = t.held k := by
    intro t f d hf
    exact t.held_bump_off hk f d [] 1 (by revert f; decide)
  have hbypass : ∀ (t : State) (b : Bool) (d : Nat), (if b then t.bump R.STC_BYPASS d [] 1 else t).held k = t.held k := by
    intro t b d
    split
    · exact hbump t _ d (by decide)
    · rfl
  unfold State.stcAccess
  extract_lets d st m dm s1 s2 here
  have hs2 : s2.held k = s.held k := by
    refine Eq.trans ?_ (hbypass s st d)
    show (if _ then _ else _ : State).held k = _
    split
    · split
      · split
        · exact hbump _ _ d (by decide)
        · rfl
      · exact hbump _ _ d (by decide)
    · exact hbump _ _ d (by decide)
  split
  · rfl
  · split
    · split <;> split <;> exact (State.held_stcFill _ hk _ _ _ _ _ _).trans hs2
    · split
      · split <;> exact hs2
      · exact (State.held_stcFill _ hk _ _ _ _ _ _).trans hs2

theorem State.held_qPut (hk : k ∈ guardedKeys) (q loc : Nat) (bs : List Byte) : (s.qPut q loc bs).held k = s.held k := by
  simp only [State.qPut]
  split
  · exact s.held_wr_memPort hk _ (by decide) _ _ _
  · rfl

theorem State.held_knlMark (dpa q : Nat) : (s.knlMark dpa q).held k = s.held k := by
  simp only [State.knlMark]
  split <;> rfl

theorem State.held_atomicAt (hk : k ∈ guardedKeys) (q loc size op opnd cmp : Nat) : (s.atomicAt q loc size op opnd cmp).2.held k = s.held k := by
  simp only [State.atomicAt]
  split
  · exact s.held_qPut hk _ _ _
  · exact State.held_qPut _ hk _ _ _

/-! ### Requests at the Leash and at a memory port -/

theorem State.held_fabricTake (hk : k ∈ guardedKeys) (d m : Nat) (links : List Nat) (n : Nat) (own : Bool) :
    (s.fabricTake d m links n own).held k = s.held k := by
  simp only [State.fabricTake]
  split
  · split
    · exact State.held_wr_slotted _ hk d m _
    · rfl
  · split
    · rfl
    · exact s.held_each _ _ (fun _ _ => rfl)

theorem State.held_goes (r : Req) (hk : Guarded r.cls k) (g : Bool) : (s.goes r g).held k = s.held k := by
  have hsend : (if g then s.sendGuar r.die r.mport r.cls r.units else s.sendBe r.die r.mport r.cls r.units).held k = s.held k := by
    split
    · exact State.held_wr_lshClass _ hk _ (by decide) _ _ _
    · exact State.held_wr_lshClass _ hk _ (by decide) _ _ _
  exact (State.held_fabricTake _ hk.mem _ _ _ _ _).trans hsend

theorem State.held_leash1 (r : Req) (hk : Guarded r.cls k) : (s.leash1 r).held k = s.held k := by
  unfold State.leash1
  extract_lets u joined old drained r1 links ok r2
  have hcls : r2.cls = r.cls := by
    show (if drained then { r with drain := true, guar := true } else r : Req).cls = r.cls
    split <;> rfl
  have hgoes : ∀ g, (s.goes r2 g).held k = s.held k := fun g => s.held_goes r2 (hcls ▸ hk) g
  split
  · exact hgoes true
  · split
    · rfl
    · exact hgoes false

theorem State.held_portServe (hk : Guarded c k) (d m q units age : Nat) : (s.portServe d m q c units age).held k = s.held k := by
  have hlate : ∀ t : State, (t.bump R.LSH_PORT_LATE (qDie q) (portIx q ++ [c]) 1).held k = t.held k := fun t =>
    t.held_wr_lshPort hk _ (by decide) _ q _
  have hunits : (s.bump R.LSH_PORT_UNITS (qDie q) (portIx q ++ [c]) units).held k = s.held k := s.held_wr_lshPort hk _ (by decide) _ q _
  unfold State.portServe
  extract_lets s1 s2
  have h2 : s2.held k = s.held k := by
    show (if _ then _ else _ : State).held k = _
    split
    · exact (hlate _).trans hunits
    · exact hunits
  split
  · exact h2
  · exact h2

theorem State.held_quickPass (r : Req) (hk : Guarded r.cls k) : (s.quickPass r).held k = s.held k := by
  have hserve : ((s.goes r (s.covers r.die r.mport r.cls r.q r.units)).portServe r.die r.mport r.q r.cls r.units 0).held k = s.held k :=
    (State.held_portServe _ hk _ _ _ _ _).trans (s.held_goes r hk _)
  simp only [State.quickPass]
  split
  · exact (State.held_wr_memPort _ hk.mem _ (by decide) _ _ _).trans hserve
  · exact hserve

theorem State.held_quickWrite (a : Agent) (hk : Guarded a.wcls k) (dpa : Nat) (bs : List Byte) (t : State) (h : s.quickWrite a dpa bs = some t) :
    t.held k = s.held k := by
  unfold State.quickWrite at h
  split at h
  · cases h
  · next q loc _ =>
    dsimp only at h
    split at h
    · obtain rfl := Option.some.inj h
      exact (State.held_qPut _ hk.mem _ _ _).trans ((State.held_knlMark _ _ _).trans ((State.held_stcAccess _ hk.mem _ _ _ _ _ _ _).trans
        (s.held_quickPass _ hk)))
    · cases h

theorem State.held_post (a : Agent) (hk : Guarded a.wcls k) (b : PostBy) (dpa : Nat) (bs : List Byte) (t : State) (h : s.post a b dpa bs = some t) :
    t.held k = s.held k := by
  unfold State.post at h
  dsimp only at h
  split at h
  · obtain rfl := Option.some.inj h
    refine s.held_each _ _ (fun u p => ?_)
    cases hq : u.quickWrite a p.1 ((bs.drop (p.1 - dpa)).take p.2) with
    | some v => exact u.held_quickWrite a hk _ _ v hq
    | none => exact u.held_leash1 _ hk
  · cases h

/-! ### The error engine -/

theorem State.held_hostWrite (hk : k ∈ guardedKeys) (fn addr : Nat) (bs : List Byte) (ro : Bool) : (s.hostWrite fn addr bs ro).held k = s.held k := by
  unfold State.hostWrite
  split
  · rfl
  · split
    · exact State.held_wr_off _ hk _ _ _ _ (by decide)
    · exact (State.held_bump_off _ hk _ _ _ _ (by decide)).trans (s.held_each _ _ (fun _ _ => rfl))

theorem State.held_msix (hk : k ∈ guardedKeys) (fn v : Nat) : (s.msix fn v).held k = s.held k := by
  unfold State.msix
  split
  · simp only [State.setPending]
    split
    · exact s.held_wr_off hk _ _ _ _ (by decide)
    · exact s.held_wr_off hk _ _ _ _ (by decide)
  · split
    · split <;> rfl
    · split <;> rfl

theorem State.held_irq (fn v : Nat) : (s.irq fn v).held k = s.held k := by
  unfold State.irq
  split <;> rfl

theorem State.held_mirror (hk : k ∈ guardedKeys) (r : ErrRec) : (s.mirror r).held k = s.held k := by
  unfold State.mirror
  split
  · split
    · exact s.held_wr_off hk _ _ _ _ (by decide)
    · exact s.held_hostWrite hk _ _ _ _
  · rfl

theorem State.held_errMsg (hk : k ∈ guardedKeys) (src code sev : Nat) : (s.errMsg src code sev).held k = s.held k := by
  simp only [State.errMsg]
  split
  · exact s.held_irq _ _
  · exact s.held_msix hk _ _

/-- The error engine writes as a Collar core, in the class of its writes (R277). -/
theorem guarded_collar (hk : k ∈ guardedKeys) (d : Nat) : Guarded (Agent.collar d).wcls k := by
  rcases List.mem_append.1 hk with h | h
  · exact .inl h
  · exact .inr ⟨h, show 2 < 4 by decide⟩

theorem State.held_writeErr (hk : k ∈ guardedKeys) (r : ErrRec) (t : State) (h : s.writeErr r = some t) : t.held k = s.held k := by
  unfold State.writeErr at h
  dsimp only at h
  obtain ⟨u, hu, rfl⟩ := Option.map_eq_some_iff.1 h
  have hpost : u.held k = s.held k := by
    split at hu
    · cases hu
    · exact s.held_post _ (guarded_collar hk _) _ _ _ u hu
  refine (State.held_errMsg _ hk _ _ _).trans ((State.held_mirror _ hk _).trans ?_)
  exact (State.held_wr_off _ hk _ _ _ _ (by decide)).trans ((State.held_roll_off _ hk _ _ _ _ (by decide)).trans hpost)

theorem State.held_putErr (hk : k ∈ guardedKeys) (r : ErrRec) : (s.putErr r).held k = s.held k := by
  unfold State.putErr
  split
  · next t ht =>
    split at ht
    · exact s.held_writeErr hk r t ht
    · cases ht
  · exact State.held_wr_off _ hk _ _ _ _ (by decide)

/-- The error engine writes its own registers and what a write to memory or to the host counts (R541 to R548). -/
theorem State.held_err (hk : k ∈ guardedKeys) (d : Nat) (e : Err) : (s.err d e).held k = s.held k := by
  unfold State.err
  extract_lets s0 r s1 s2
  have h0 : s0.held k = s.held k := by
    show (if _ then _ else _ : State).held k = _
    split <;> rfl
  split
  · exact h0
  · split
    · next old _ =>
      extract_lets r'
      split
      · exact h0
      · split
        · next t ht => exact (State.held_mirror _ hk _).trans ((s0.held_post _ (guarded_collar hk d) _ _ _ t ht).trans h0)
        · exact h0
    · have h1 : s1.held k = s.held k := (State.held_putErr _ hk r).trans ((s0.held_roll_off hk _ _ _ _ (by decide)).trans h0)
      have h2 : s2.held k = s.held k := (State.held_wr_off _ hk _ _ _ _ (by decide)).trans ((s0.held_bump_off hk _ _ _ _ (by decide)).trans h0)
      have hwritten : (if e.sev = 3 then s1.sideSend 2 0xFF (leBytes 1 e.src ++ leBytes 1 e.code) else s1).held k = s.held k := by
        split <;> exact h1
      have hlost : (s2.wr R.ERR_Q_STATUS_LOST_SEV d [e.src] (max (s2.rd R.ERR_Q_STATUS_LOST_SEV d [e.src]) e.sev)).held k = s.held k :=
        (s2.held_wr_off hk _ _ _ _ (by decide)).trans h2
      by_cases hroom : s0.unhandled d e.src + (s0.waiting d e.src).length < (if e.sev = 0 then 12 else 16)
      · rw [if_pos hroom]
        exact hwritten
      · rw [if_neg hroom]
        exact hlost

theorem State.held_logUe (hk : k ∈ guardedKeys) (q dpa : Nat) (scrub : Bool) (part ctx uid : Nat) : (s.logUe q dpa scrub part ctx uid).held k = s.held k := by
  simp only [State.logUe]
  refine (State.held_err _ hk _ _).trans ((State.held_wr_off _ hk _ _ _ _ (by decide)).trans ?_)
  exact (State.held_wr_memPort _ hk _ (by decide) _ _ _).trans (s.held_wr_memPort hk _ (by decide) _ _ _)

end

end Sys2Proof.Machine
end

section
/-! SUPPORT. Package starts (R520 to R532): power, the decision between cold and warm, the waves of clusters. -/

namespace Sys2Proof.Machine

/-! ### Waves of clusters (R530) -/

/-- A cluster powered is on, and every other as before (R530). -/
theorem State.cluOn_setOn (s : State) (d i j : Nat) :
    (s.setOn d i 1).cluOn d j = (decide (j = i) || s.cluOn d j) := by
  have hword : ∀ x, bit (x % 2 ^ R.PWR_CLU_ON.width) (j % 32) = bit x (j % 32) := fun x => by
    have : j % 32 < 32 := Nat.mod_lt _ (by decide)
    exact (Nat.testBit_mod_two_pow x 32 (j % 32)).trans (by rw [decide_eq_true this, Bool.true_and]; rfl)
  simp only [State.cluOn, State.setOn]
  by_cases h : j / 32 = i / 32
  · have hsame : j % 32 = i % 32 ↔ j = i := by omega
    rw [h, State.rd_wr_same, hword, bit_setBits]
    simp [hsame]
  · have hne : j ≠ i := fun e => h (e ▸ rfl)
    rw [State.rd_wr_ne _ _ _ _ _ _ _ _ (by simp only [Fld.key, Fld.offset, strideSum, R.PWR_CLU_ON]; omega)]
    simp [hne]

/-- A wave of clusters powered is on, and every other as before. -/
theorem State.cluOn_each_setOn (d j : Nat) : ∀ (l : List Nat) (s : State),
    (s.each l (fun s i => s.setOn d i 1)).cluOn d j = (decide (j ∈ l) || s.cluOn d j)
  | [], s => by simp
  | i :: l, s => by
    refine (State.cluOn_each_setOn d j l (s.setOn d i 1)).trans ?_
    rw [s.cluOn_setOn d i j]
    by_cases hmem : j ∈ l <;> simp [hmem]

theorem State.mod_of_mem_waveOf (s : State) (d w i : Nat) (h : i ∈ s.waveOf d w) : i % 16 = w := by
  simp only [State.waveOf, List.mem_filter, List.mem_range, Bool.and_eq_true, beq_iff_eq] at h
  exact h.2.1.1

theorem exec_powerWave_starts (d w dt : Nat) (s : State) (hd : d < 4)
    (hdue : if s.boot.starting then s.rd R.BST_START_STEP 0 = 8 else s.rd R.PCI_STATUS_DSTATE 0 = 0) (hruns : s.dieRuns d = true)
    (hgood : s.rdB R.PWR_STATUS_CORE_GOOD d = true) (hw : s.nextWave d = some w)
    (ht : w = 0 ∨ SMap.get 0 s.boot.wavedAt d + s.rd R.PWR_WAVE_WAVE_US d * 1000 ≤ (s.at_ dt).now) :
    ∃ u, exec (.powerWave d dt) s = .next u ∧ u.now = (s.at_ dt).now ∧ (∀ i ∈ s.waveOf d w, u.cluOn d i = true) ∧
      (∀ i < 144, i % 16 ≠ w → u.cluOn d i = s.cluOn d i) := by
  refine ⟨_, within_next s _ _ (by simpa using hd), ?_⟩
  have hdue' : (if s.boot.starting then s.rd R.BST_START_STEP 0 == 8 else s.rd R.PCI_STATUS_DSTATE 0 == 0) = true := by
    split <;> simp_all
  have hnow : ¬(w ≠ 0 ∧ (s.at_ dt).now < SMap.get 0 s.boot.wavedAt d + s.rd R.PWR_WAVE_WAVE_US d * 1000) := by
    rintro ⟨h0, hlt⟩
    exact ht.elim h0 (Nat.not_le.2 hlt)
  simp only [hdue', hruns, hgood, hw, Bool.not_true, Bool.or_false, Bool.false_eq_true, if_false, if_neg hnow]
  refine ⟨?_, fun i hi => ?_, fun i _ hne => ?_⟩
  · exact State.each_keeps (fun t => t.now = (s.at_ dt).now) (fun t i => t.setOn d i 1) (fun t a h => h) _ _ rfl
  · exact (State.cluOn_each_setOn d i _ _).trans (by simp [hi])
  · refine (State.cluOn_each_setOn d i _ _).trans ?_
    rw [decide_eq_false (fun h => hne (s.mod_of_mem_waveOf d w i h)), Bool.false_or]
    rfl

theorem exec_powerWave_waits (d w dt : Nat) (s : State) (hd : d < 4) (hw : s.nextWave d = some w) (h0 : w ≠ 0)
    (ht : (s.at_ dt).now < SMap.get 0 s.boot.wavedAt d + s.rd R.PWR_WAVE_WAVE_US d * 1000) : exec (.powerWave d dt) s = .next s := by
  refine (within_next s _ _ (by simpa using hd)).trans ?_
  simp only [hw, if_pos (And.intro h0 ht), ite_self]
  rfl

/-! ### Power (R423, R520, R571) -/

theorem exec_vauxPowerOn (s : State) : ∃ u, exec .vauxPowerOn s = .next u ∧ u.dram = [] ∧ u.boot.vauxLost = true ∧ u.boot.storeGood = false ∧
    u.boot.mainOff = true ∧ u.rd R.SBR_STATUS_STATE 0 = 1 ∧ u.pending = s.pending := by
  refine ⟨s.vauxOn.withQueue s.pending, within_next s s.vauxOn true rfl, rfl, rfl, rfl, rfl, ?_, State.withQueue_pending _ _⟩
  simp (disch := decide) only [State.vauxOn, State.rd_withQueue, State.rd_wr_ne, State.rd_wr_same]
  decide

/-- What is kept of a map has no entry at a number that is not. -/
theorem SMap.look_keep_not {α : Type} (p : Nat → Bool) (k : Nat) (h : p k = false) : ∀ m : SMap α, SMap.look (SMap.keep p m) k = none
  | [] => rfl
  | (j, v) :: m => by
    have ih := SMap.look_keep_not p k h m
    by_cases hj : p j = true
    · have hjk : j ≠ k := by
        rintro rfl
        simp [h] at hj
      rw [SMap.keep, List.filter_cons_of_pos (by exact hj), SMap.look, if_neg hjk]
      exact ih
    · rw [SMap.keep, List.filter_cons_of_neg (by exact hj)]
      exact ih

/-- A field that a package reset does not keep reads its reset value after it (R37). -/
theorem State.rd_packageReset (s : State) (f : Fld) (d : Nat) (ix : List Nat) (h : inFlds keptFlds (f.key d ix) = false) :
    s.packageReset.rd f d ix = f.resetAt d ix := by
  have hgone := SMap.look_keep_not (inFlds keptFlds) (f.key d ix) h (s.each (List.range 4) State.stcLost).regs
  simp only [State.rd, SMap.get, State.packageReset, hgone, Option.getD_none]

theorem exec_powerDown_falls (inTime : Bool) (s : State) (hmain : s.boot.mainOff = false) :
    ∃ u, exec (.powerDown inTime) s = .next u ∧ u.dram = [] ∧ u.boot.mainOff = true ∧ u.boot.starting = true ∧
      (inTime = false → u.boot.storeGood = false) ∧ u.units = [] ∧ u.rdB R.PCI_STATUS_READY 0 = false := by
  refine ⟨_, within_next s _ _ rfl, ?_⟩
  simp only [hmain, Bool.false_eq_true, if_false]
  refine ⟨rfl, rfl, rfl, fun h => ?_, rfl, ?_⟩
  · subst h
    exact Bool.and_false _
  · have hready : s.packageReset.rd R.PCI_STATUS_READY 0 = 0 := s.rd_packageReset _ 0 [] (by decide)
    show (s.packageReset.rd R.PCI_STATUS_READY 0 != 0) = false
    rw [hready]
    rfl

theorem exec_powerDown_off (inTime : Bool) (s : State) (hmain : s.boot.mainOff = true) : exec (.powerDown inTime) s = .next s := by
  refine (within_next s _ _ rfl).trans ?_
  simp only [hmain, if_true]
  rfl

/-! ### The decision between cold and warm (R520, R521) -/

/-- DIE_GEN of every die rises by one (R498). -/
theorem State.rd_each_roll_dieGen (s : State) (d : Nat) (hd : d < 4) :
    (s.each (List.range 4) (fun s d => s.roll R.SEC_DIE_STATE_DIE_GEN 0 [d] 1)).rd R.SEC_DIE_STATE_DIE_GEN 0 [d] =
      (s.rd R.SEC_DIE_STATE_DIE_GEN 0 [d] + 1) % 2 ^ R.SEC_DIE_STATE_DIE_GEN.width := by
  rw [show List.range 4 = [0, 1, 2, 3] from rfl]
  simp only [State.each, List.foldl, State.roll]
  interval_cases d <;> simp (disch := decide) only [State.rd_wr_same, State.rd_wr_ne]

/-- The fail map of a die and its count of failed clusters are cleared (R532). -/
def State.clearFailMap (s : State) (d : Nat) : State :=
  (s.each (List.range 5) (fun s i => s.wr R.BST_FAIL_MAP d [i] 0)).wr R.BST_STATUS_FAILED d [] 0

/-- Clearing them leaves what stands below them, and below them or apart from them on HD0. -/
theorem State.held_clearFailMap (s : State) (k d : Nat) (hk : k < 8 * R.BST_STATUS_FAILED.base ∨ k = R.BST_START_COLD.key 0 []) :
    (s.clearFailMap d).held k = s.held k := by
  have hmap : ∀ i < 5, k ≠ R.BST_FAIL_MAP.key d [i] := fun i hi => by
    simp only [Fld.key, Fld.offset, strideSum, R.BST_FAIL_MAP, R.BST_STATUS_FAILED, R.BST_START_COLD] at hk ⊢
    omega
  have hcount : k ≠ R.BST_STATUS_FAILED.key d [] := by
    simp only [Fld.key, Fld.offset, strideSum, R.BST_STATUS_FAILED, R.BST_START_COLD] at hk ⊢
    omega
  refine (State.held_wr_ne _ _ d [] 0 hcount).trans ?_
  exact State.held_each_mem _ _ s (fun t i hi => t.held_wr_ne _ d [i] 0 (hmap i (List.mem_range.1 hi)))

theorem State.held_each_clearFailMap (s : State) (l : List Nat) (k : Nat) (hk : k < 8 * R.BST_STATUS_FAILED.base ∨ k = R.BST_START_COLD.key 0 []) :
    (s.each l State.clearFailMap).held k = s.held k :=
  s.held_each l _ (fun t d => t.held_clearFailMap k d hk)

theorem State.boot_each_clearFailMap (s : State) (l : List Nat) : (s.each l State.clearFailMap).boot = s.boot :=
  State.each_keeps (fun t => t.boot = s.boot) State.clearFailMap (fun _ _ h => h) l s rfl

/-- What a start decides (R520): the signing record is lost unless the store held it, COLD is kept, and every DIE_GEN rises. -/
def State.startDecided (s : State) (cold : Bool) : State :=
  let s := if s.boot.storeGood && !s.boot.vauxLost then s else { s with sec := { s.sec with signNext := none } }
  let s := { s with boot := { s.boot with vauxLost := false, reached := false, mainOff := false } }
  (s.wr R.BST_START_COLD 0 [] (if cold then 1 else 0)).each (List.range 4) (fun s d => s.roll R.SEC_DIE_STATE_DIE_GEN 0 [d] 1)

theorem State.startDecided_boot (s : State) (cold : Bool) :
    (s.startDecided cold).boot = { s.boot with vauxLost := false, reached := false, mainOff := false } := by
  show ({ (if _ then _ else _ : State).boot with vauxLost := false, reached := false, mainOff := false } : BootPart) = _
  split <;> rfl

theorem State.startDecided_cold (s : State) (cold : Bool) : (s.startDecided cold).rdB R.BST_START_COLD 0 = cold := by
  simp only [State.rdB, State.startDecided]
  rw [show List.range 4 = [0, 1, 2, 3] from rfl]
  simp (disch := decide) only [State.each, List.foldl, State.roll, State.rd_wr_ne, State.rd_wr_same]
  cases cold <;> rfl

theorem State.startDecided_dieGen (s : State) (cold : Bool) (d : Nat) (hd : d < 4) : (s.startDecided cold).rd R.SEC_DIE_STATE_DIE_GEN 0 [d] =
    (s.rd R.SEC_DIE_STATE_DIE_GEN 0 [d] + 1) % 2 ^ R.SEC_DIE_STATE_DIE_GEN.width := by
  refine (State.rd_each_roll_dieGen _ d hd).trans ?_
  rw [State.rd_wr_ne _ _ _ _ _ _ _ _ (by simp only [Fld.key, Fld.offset, strideSum, R.BST_START_COLD, R.SEC_DIE_STATE_DIE_GEN]; omega)]
  congr 2
  show (if _ then _ else _ : State).rd _ _ _ = _
  split <;> rfl

/-- The fail maps that host software has asked to clear are cleared (R532). -/
def State.failMapsCleared (s : State) : State :=
  let s := s.each s.boot.clearFails State.clearFailMap
  { s with boot := { s.boot with clearFails := [] } }

theorem State.rd_failMapsCleared (s : State) (f : Fld) (ix : List Nat)
    (h : f.key 0 ix < 8 * R.BST_STATUS_FAILED.base ∨ f.key 0 ix = R.BST_START_COLD.key 0 []) : s.failMapsCleared.rd f 0 ix = s.rd f 0 ix :=
  State.rd_of_held (State.held_each_clearFailMap s _ _ h)

/-- Whether a start is cold (R520). -/
def State.startCold (s : State) : Bool := s.boot.vauxLost || !s.boot.storeGood || !s.boot.reached || s.rdB R.BST_NEXT_NEXT_COLD 0

/-- A start decides between cold and warm; a cold one clears the fail maps that are to be cleared (R520, R532). -/
theorem exec_packageStart (s : State) (hstart : s.boot.starting = true) (hstep : s.rd R.BST_START_STEP 0 = 1) (hfailed : s.rdB R.BST_START_FAILED 0 = false) :
    exec .packageStart s = .next ((if !s.startCold then s.startDecided s.startCold else (s.startDecided s.startCold).failMapsCleared).withQueue s.pending) := by
  refine (within_next s _ _ rfl).trans ?_
  simp only [hstart, hstep, hfailed, beq_self_eq_true, Bool.not_false, Bool.and_self, Bool.not_true, Bool.false_eq_true, if_false]
  rfl

theorem exec_packageStart_decides (s : State) (hstart : s.boot.starting = true) (hstep : s.rd R.BST_START_STEP 0 = 1)
    (hfailed : s.rdB R.BST_START_FAILED 0 = false) :
    ∃ u, exec .packageStart s = .next u ∧ u.boot.mainOff = false ∧ u.boot.vauxLost = false ∧ u.boot.reached = false ∧
      u.rdB R.BST_START_COLD 0 = s.startCold ∧
      (∀ d < 4, u.rd R.SEC_DIE_STATE_DIE_GEN 0 [d] = (s.rd R.SEC_DIE_STATE_DIE_GEN 0 [d] + 1) % 2 ^ R.SEC_DIE_STATE_DIE_GEN.width) ∧
      (s.startCold = true → u.boot.clearFails = []) := by
  refine ⟨_, exec_packageStart s hstart hstep hfailed, ?_⟩
  generalize s.startCold = cold
  have hboot := s.startDecided_boot cold
  cases cold with
  | false =>
    exact ⟨congrArg BootPart.mainOff hboot, congrArg BootPart.vauxLost hboot, congrArg BootPart.reached hboot, s.startDecided_cold false,
      s.startDecided_dieGen false, nofun⟩
  | true =>
    have hboot' := (State.boot_each_clearFailMap (s.startDecided true) (s.startDecided true).boot.clearFails).trans hboot
    refine ⟨congrArg BootPart.mainOff hboot', congrArg BootPart.vauxLost hboot', congrArg BootPart.reached hboot', ?_, fun d hd => ?_, fun _ => rfl⟩
    · exact (congrArg (· != 0) (State.rd_failMapsCleared (s.startDecided true) R.BST_START_COLD [] (.inr rfl))).trans (s.startDecided_cold true)
    · refine (State.rd_failMapsCleared _ _ _ (.inl ?_)).trans (s.startDecided_dieGen true d hd)
      simp only [Fld.key, Fld.offset, strideSum, R.BST_STATUS_FAILED, R.SEC_DIE_STATE_DIE_GEN]
      omega

theorem exec_packageStart_started (s : State) (h : s.boot.starting = false) : exec .packageStart s = .next s := by
  refine (within_next s _ _ rfl).trans ?_
  simp only [h, Bool.false_and, Bool.not_false, if_true]
  rfl

end Sys2Proof.Machine
end

section
/-! SUPPORT. The steps of a package start and their ends (R521 to R525). -/

namespace Sys2Proof.Machine

/-! ### Failures -/

/-- A failed start names its die and keeps its step (R525). -/
theorem State.startFail_spec (d scope : Nat) (s : State) : ∃ v : State, s.startFail d scope = v.err 0 (.plain 10 5 3 scope v.startReg) ∧
    v.rdB R.BST_START_FAILED 0 = true ∧ v.rd R.BST_START_DIE 0 = d % 4 ∧ v.rd R.BST_START_STEP 0 = s.rd R.BST_START_STEP 0 := by
  refine ⟨_, rfl, ?_⟩
  simp (disch := decide) only [State.rdB, State.wrs_cons, State.wrs_nil, State.rd_wr_ne, State.rd_wr_same]
  exact ⟨rfl, rfl, trivial⟩

theorem exec_startStepTimeout_fails (d : Nat) (s : State) (hd : d < 4) (hstart : s.boot.starting = true) (hmain : s.boot.mainOff = false)
    (hfailed : s.rdB R.BST_START_FAILED 0 = false) (hstep : s.rd R.BST_START_STEP 0 < 12) :
    exec (.startStepTimeout d) s = .next ((s.startFail d (scopeOf 7 0)).withQueue s.pending) := by
  refine (within_next s _ _ (by simpa using hd)).trans ?_
  simp [hstart, hmain, hfailed, hstep]

theorem exec_startStepTimeout_started (d : Nat) (s : State) (hd : d < 4) (hstart : s.boot.starting = false) : exec (.startStepTimeout d) s = .next s := by
  refine (within_next s _ _ (by simpa using hd)).trans ?_
  simp [hstart]

/-! ### Limits (R521, R522) -/

theorem State.stepLimit_values (fallback : Bool) (s : State) :
    s.stepLimit 1 fallback = some 50 ∧ s.stepLimit 2 fallback = some 800 ∧ s.stepLimit 4 fallback = some 300 ∧
    s.stepLimit 9 fallback = some 26000 ∧ s.stepLimit 10 fallback = some 500 ∧ s.stepLimit 11 fallback = some 1000 ∧
    s.stepLimit 6 fallback = some (if s.rd R.BST_START_COLD 0 = 0 ∧ fallback = false then 300 else 6000) ∧
    s.stepLimit 3 fallback = (if s.rd R.LCS_STATE_TARGET 0 = 15 then some 20 else none) := by
  refine ⟨rfl, rfl, rfl, rfl, rfl, rfl, ?_, ?_⟩
  · by_cases h : s.rd R.BST_START_COLD 0 = 0 ∧ fallback = false <;> simp [State.stepLimit, h]
  · by_cases h : s.rd R.LCS_STATE_TARGET 0 = 15 <;> simp [State.stepLimit, h]

/-- The limit depends on LCS_STATE and on COLD alone. -/
theorem State.stepLimit_congr {s t : State} (n : Nat) (fallback : Bool) (hlcs : t.rd R.LCS_STATE_TARGET 0 = s.rd R.LCS_STATE_TARGET 0)
    (hcold : t.rd R.BST_START_COLD 0 = s.rd R.BST_START_COLD 0) : t.stepLimit n fallback = s.stepLimit n fallback := by
  simp only [State.stepLimit, hlcs, hcold]

/-! ### The end of a step -/

/-- What a die's report leaves in the registers of the start before the step is judged (R521, R538). -/
def State.stepReported (s : State) (n : Nat) (r : StepReport) : State :=
  let s := s.wr (if n % 2 = 0 then R.BST_STEP_MS_EVEN else R.BST_STEP_MS_ODD) 0 [(n - 1) / 2] (min 65535 r.ms)
  s.wrs 0 [] [(R.BST_START_DIE, r.die), (R.BST_START_ELAPSED_MS, min (2 ^ 23 - 1) (s.rd R.BST_START_ELAPSED_MS 0 + r.ms))]

/-- A report changes nothing of a step up to 11 but the durations and the die. -/
theorem State.rd_stepReported (s : State) (n : Nat) (r : StepReport) (f : Fld)
    (hf : f ∈ [R.BST_START_STEP, R.BST_START_FAILED, R.BST_START_COLD, R.LCS_STATE_TARGET]) : (s.stepReported n r).rd f 0 = s.rd f 0 := by
  have hdie : f.key 0 [] ≠ R.BST_START_DIE.key 0 [] := by revert f; decide
  have helapsed : f.key 0 [] ≠ R.BST_START_ELAPSED_MS.key 0 [] := by clear hdie; revert f; decide
  have hms : ∀ g, g = R.BST_STEP_MS_EVEN ∨ g = R.BST_STEP_MS_ODD → f.key 0 [] ≠ g.key 0 [(n - 1) / 2] := by
    intro g hg
    simp only [List.mem_cons, List.not_mem_nil, or_false] at hf
    rcases hg with rfl | rfl <;> rcases hf with rfl | rfl | rfl | rfl <;>
      simp only [Fld.key, Fld.offset, strideSum, R.BST_STEP_MS_EVEN, R.BST_STEP_MS_ODD, R.BST_START_STEP, R.BST_START_FAILED, R.BST_START_COLD,
        R.LCS_STATE_TARGET] <;> omega
  simp only [State.stepReported, State.wrs_cons, State.wrs_nil]
  rw [State.rd_wr_ne _ _ _ _ _ _ _ _ helapsed, State.rd_wr_ne _ _ _ _ _ _ _ _ hdie, State.rd_wr_ne _ _ _ _ _ _ _ _ (hms _ ?_)]
  split <;> simp

/-- What follows a report: a failure, the wait for the end of the step, or the next step (R521, R525). -/
def State.stepJudged (s : State) (n : Nat) (r : StepReport) : State :=
  if r.fatal || (match s.stepLimit n r.fallback with | some l => decide (l < r.ms) | none => false) then s.startFail r.die (scopeOf 7 0)
  else
    match s.endStep n r with
    | none => s
    | some s =>
      if s.rdB R.BST_START_FAILED 0 then s
      else
        let next := if n = 8 ∧ s.rd R.BST_START_COLD 0 = 0 then 10 else n + 1
        let s := (s.wr R.BST_START_STEP 0 [] next).beginStep next
        if next = 12 then s.ready else s

/-- While a start goes on, a report is kept and then judged. -/
theorem State.startStep_eq (s : State) (r : StepReport) (hstart : s.boot.starting = true) (hmain : s.boot.mainOff = false)
    (hfailed : s.rdB R.BST_START_FAILED 0 = false) (hstep : s.rd R.BST_START_STEP 0 ≤ 11) :
    s.startStep r = (s.stepReported (s.rd R.BST_START_STEP 0) r).stepJudged (s.rd R.BST_START_STEP 0) r := by
  unfold State.startStep
  exact if_neg (by simp [hstart, hmain, hfailed, hstep])

theorem State.startStep_fails (r : StepReport) (s : State) (hstart : s.boot.starting = true) (hmain : s.boot.mainOff = false)
    (hfailed : s.rdB R.BST_START_FAILED 0 = false) (hstep : s.rd R.BST_START_STEP 0 ≤ 11)
    (hbad : r.fatal = true ∨ ∃ l, s.stepLimit (s.rd R.BST_START_STEP 0) r.fallback = some l ∧ l < r.ms) :
    ∃ v : State, s.startStep r = v.startFail r.die (scopeOf 7 0) ∧ v.rd R.BST_START_STEP 0 = s.rd R.BST_START_STEP 0 := by
  refine ⟨s.stepReported (s.rd R.BST_START_STEP 0) r, ?_, s.rd_stepReported _ r _ (by decide)⟩
  have hlimit : (s.stepReported (s.rd R.BST_START_STEP 0) r).stepLimit (s.rd R.BST_START_STEP 0) r.fallback =
      s.stepLimit (s.rd R.BST_START_STEP 0) r.fallback :=
    State.stepLimit_congr _ _ (s.rd_stepReported _ r _ (by decide)) (s.rd_stepReported _ r _ (by decide))
  rw [s.startStep_eq r hstart hmain hfailed hstep, State.stepJudged, hlimit, if_pos]
  rcases hbad with hfatal | ⟨l, hl, hlt⟩
  · simp [hfatal]
  · simp [hl, hlt]

/-! ### The registers of a start while memory trains (R271, R521) -/

section
variable {k : Nat} (s : State)

theorem leashIx_bounds {x : Nat × Nat × Nat} (hx : x ∈ leashIx) : x.2.1 < 137 ∧ x.2.2 < 4 := by
  simp only [leashIx, List.mem_flatMap, List.mem_map, List.mem_range] at hx
  obtain ⟨d, -, m, hm, c, hc, rfl⟩ := hx
  exact ⟨hm, hc⟩

theorem State.held_rescale (hk : k ∈ startKeys) : s.rescale.held k = s.held k := by
  refine State.held_each_mem _ _ s (fun t x hx => ?_)
  obtain ⟨hm, hc⟩ := leashIx_bounds hx
  dsimp only
  split
  · rfl
  · refine t.held_wr_ne _ _ _ _ ?_
    rw [mem_startKeys_iff] at hk
    simp only [Fld.key, Fld.offset, strideSum, R.LSH_M_EFF_EFF]
    omega

theorem guarded_of_start (hk : k ∈ startKeys) : k ∈ guardedKeys := List.mem_append_right _ hk

/-- What a changed capacity does once every EFF is set: the change is dated, and an admitted load is recorded as scaled (R292, R293). -/
def State.capChanged (s : State) (st old new : Nat) : State :=
  let s := { s with effDue := s.effDue ++ [(s.now, s.effMap)] }
  if s.rd R.LSH_STACK_LOAD 0 [st] = 0 then s
  else (s.wr R.LSH_EVENT_SCALED 0 [] 1).err 0 (.plain 5 1 0 (scopeOf 1 (8 * st)) (old * 2 ^ 16 + new))

theorem State.recap_eq (st : Nat) : s.recap st =
    if s.capOf st = s.rd R.LSH_STACK_CAP_CAP_NOW 0 [st] then s
    else (s.wr R.LSH_STACK_CAP_CAP_NOW 0 [st] (s.capOf st)).rescale.capChanged st (s.rd R.LSH_STACK_CAP_CAP_NOW 0 [st]) (s.capOf st) := rfl

theorem State.held_capChanged (hk : k ∈ startKeys) (st old new : Nat) : (s.capChanged st old new).held k = s.held k := by
  unfold State.capChanged
  extract_lets s1
  split
  · rfl
  · exact (State.held_err _ (guarded_of_start hk) _ _).trans (s1.held_wr_off hk _ _ _ _ (by decide))

theorem State.held_recap (hk : k ∈ startKeys) (st : Nat) : (s.recap st).held k = s.held k := by
  rw [State.recap_eq]
  split
  · rfl
  · refine (State.held_capChanged _ hk _ _ _).trans ((State.held_rescale _ hk).trans (s.held_wr_ne _ _ _ _ ?_))
    rw [mem_startKeys_iff] at hk
    simp only [Fld.key, Fld.offset, strideSum, R.LSH_STACK_CAP_CAP_NOW]
    omega

theorem State.held_memState (hk : k ∈ startKeys) (d v : Nat) : (s.memState d v).held k = s.held k :=
  ((s.wr R.MEM_STATUS_STATE d [] v).held_each _ _ (fun t i => t.held_recap hk _)).trans (s.held_wr_off hk _ _ _ _ (by decide))

/-- Step 6 begins with training, which leaves the registers of the start alone (R271, R273). -/
theorem State.held_beginStep_six (hk : k ∈ startKeys) : (s.beginStep 6).held k = s.held k := by
  have hmem : (s.each s.upDies (fun s d => s.memState d 1)).held k = s.held k := s.held_each _ _ (fun t d => t.held_memState hk d 1)
  refine Eq.trans ?_ hmem
  refine State.held_each _ _ _ (fun t d => State.held_each_mem _ _ t (fun u dir hdir => u.held_wr_ne _ _ _ _ ?_))
  have hdir : dir < 2 := List.mem_range.1 (List.mem_filter.1 hdir).1
  rw [mem_startKeys_iff] at hk
  simp only [Fld.key, Fld.offset, strideSum, R.DDL_STATUS_STATE]
  omega

end

theorem State.stepJudged_five (s : State) (r : StepReport) (hfatal : r.fatal = false) (hms : r.ms ≤ 50) (hfailed : s.rdB R.BST_START_FAILED 0 = false) :
    s.stepJudged 5 r = (s.wr R.BST_START_STEP 0 [] 6).beginStep 6 := by
  have hlimit : s.stepLimit 5 r.fallback = some 50 := rfl
  have hend : s.endStep 5 r = some s := rfl
  simp [State.stepJudged, hlimit, hend, hfatal, hfailed, Nat.not_lt.2 hms]

/-- Step 5 ends within its limit: step 6 begins, and the report stands in the registers of the start (R521, R538). -/
theorem State.startStep_five (r : StepReport) (s : State) (hstart : s.boot.starting = true) (hmain : s.boot.mainOff = false)
    (hfailed : s.rdB R.BST_START_FAILED 0 = false) (hstep : s.rd R.BST_START_STEP 0 = 5) (hfatal : r.fatal = false) (hms : r.ms ≤ 50) :
    (s.startStep r).rd R.BST_START_STEP 0 = 6 ∧ (s.startStep r).rd R.BST_STEP_MS_ODD 0 [2] = min 65535 r.ms ∧
      (s.startStep r).rd R.BST_START_DIE 0 = r.die % 4 := by
  have hkept : (s.stepReported 5 r).rdB R.BST_START_FAILED 0 = false := (congrArg (· != 0) (s.rd_stepReported 5 r _ (by decide))).trans hfailed
  rw [s.startStep_eq r hstart hmain hfailed (by omega), hstep, State.stepJudged_five _ r hfatal hms hkept]
  refine ⟨(State.rd_of_held (State.held_beginStep_six _ (by decide))).trans ?_, (State.rd_of_held (State.held_beginStep_six _ (by decide))).trans ?_,
    (State.rd_of_held (State.held_beginStep_six _ (by decide))).trans ?_⟩
  · exact State.rd_wr_same _ _ _ _ _
  · have hfit : min 65535 r.ms < 2 ^ R.BST_STEP_MS_ODD.width := Nat.lt_of_le_of_lt (Nat.min_le_left _ _) (by decide)
    simp (disch := decide) only [State.stepReported, State.wrs_cons, State.wrs_nil, State.rd_wr_ne]
    exact State.rd_wr_fits _ _ _ _ _ hfit
  · simp (disch := decide) only [State.stepReported, State.wrs_cons, State.wrs_nil, State.rd_wr_ne, State.rd_wr_same]
    rfl

/-! ### A die leaves reset (R20, R22, R353, R498, R551) -/

theorem exec_dieResetRelease_tripped (d pos : Nat) (s : State) (hd : d < 4) (hpos : pos < 4) (htrip : d ∈ s.heat.tripped) :
    exec (.dieResetRelease d pos) s = .next s := by
  refine (within_next s _ _ (by simp [hd, hpos])).trans ?_
  simp [htrip]

/-- A die in reset whose island re-initialises, cool enough, is released (R353, R551): it samples the position that is given. -/
theorem exec_dieResetRelease (d pos : Nat) (s : State) (hd : d < 4) (hpos : pos < 4) (hreset : SMap.get 0 s.dies d = 1) (hcool : d ∉ s.heat.tripped)
    (hisl : s.rd R.COH_ISL_STATE_STATE 0 [s.island d] = 2) :
    exec (.dieResetRelease d pos) s = .next ((let s := s.roll R.SEC_DIE_STATE_DIE_GEN 0 [d] 1
      if pos ≠ d then s.mismatch d pos
      else
        let s := ({ s with dies := SMap.put 0 s.dies d 0 }).wr R.HUB_POS_STRAP_POS d [] pos
        let s := ((s.measureCollar d).measurePack d).railsUp (([0, 1, 2, 3] : List Nat).map (fun d => s.rd R.PWR_CORE_VID_MV d))
        ((s.numberDie d).admitAgain d).memState d 1).withQueue s.pending) := by
  refine (within_next s _ _ (by simp [hd, hpos])).trans ?_
  rw [if_neg (by simp [hreset, hcool, hisl])]

theorem exec_dieResetRelease_own (d : Nat) (s r v w : State) (hd : d < 4) (hreset : SMap.get 0 s.dies d = 1) (hcool : d ∉ s.heat.tripped)
    (hisl : s.rd R.COH_ISL_STATE_STATE 0 [s.island d] = 2) (hr : r = s.roll R.SEC_DIE_STATE_DIE_GEN 0 [d] 1)
    (hv : v = ({ r with dies := SMap.put 0 s.dies d 0 } : State).wr R.HUB_POS_STRAP_POS d [] d)
    (hw : w = ((v.measureCollar d).measurePack d).railsUp (([0, 1, 2, 3] : List Nat).map (fun e => v.rd R.PWR_CORE_VID_MV e))) :
    exec (.dieResetRelease d d) s = .next ((((w.numberDie d).admitAgain d).memState d 1).withQueue s.pending) ∧ v.rd R.HUB_POS_STRAP_POS d = d ∧
      v.dieRuns d = true ∧ v.rd R.SEC_DIE_STATE_DIE_GEN 0 [d] = (s.rd R.SEC_DIE_STATE_DIE_GEN 0 [d] + 1) % 2 ^ R.SEC_DIE_STATE_DIE_GEN.width := by
  refine ⟨?_, ?_, ?_, ?_⟩
  · rw [exec_dieResetRelease d d s hd hd hreset hcool hisl, hw, hv, hr]
    simp only [ne_eq, not_true_eq_false, if_false]
    rfl
  · rw [hv]
    exact State.rd_wr_fits _ _ _ _ _ hd
  · rw [hv]
    exact beq_iff_eq.2 (SMap.get_put_same 0 s.dies d 0)
  · rw [hv, hr, State.rd_wr_ne _ _ _ _ _ _ _ _ (by simp only [Fld.key, Fld.offset, strideSum, R.HUB_POS_STRAP_POS, R.SEC_DIE_STATE_DIE_GEN]; omega)]
    exact State.rd_wr_same _ _ _ _ _

theorem exec_dieResetRelease_other (d pos : Nat) (s : State) (hd : d < 4) (hpos : pos < 4) (hne : pos ≠ d) (hreset : SMap.get 0 s.dies d = 1)
    (hcool : d ∉ s.heat.tripped) (hisl : s.rd R.COH_ISL_STATE_STATE 0 [s.island d] = 2) :
    exec (.dieResetRelease d pos) s = .next (((s.roll R.SEC_DIE_STATE_DIE_GEN 0 [d] 1).mismatch d pos).withQueue s.pending) := by
  rw [exec_dieResetRelease d pos s hd hpos hreset hcool hisl]
  simp only [ne_eq, hne, not_false_eq_true, if_true]

/-- The words of a measurement leave the fields of HUB_POS alone (R498). -/
theorem State.held_putWords_pos (s : State) (f : Fld) (hf : f ∈ [R.SEC_COLLAR_MEAS, R.SEC_PACK_MEAS]) (d : Nat) (bs : List Byte) (g : Fld)
    (hg : g ∈ [R.HUB_POS_STRAP_POS, R.HUB_POS_MISMATCH]) : (s.putWords f d bs).held (g.key d []) = s.held (g.key d []) := by
  refine State.held_each_mem _ _ s (fun t i hi => t.held_wr_ne _ _ _ _ ?_)
  have hword : i < 16 := List.mem_range.1 hi
  simp only [List.mem_cons, List.not_mem_nil, or_false] at hf hg
  rcases hf with rfl | rfl <;> rcases hg with rfl | rfl <;>
    simp only [Fld.key, Fld.offset, strideSum, R.SEC_COLLAR_MEAS, R.SEC_PACK_MEAS, R.HUB_POS_STRAP_POS, R.HUB_POS_MISMATCH] <;> omega

theorem State.held_unmeasure_pos (s : State) (d : Nat) (g : Fld) (hg : g ∈ [R.HUB_POS_STRAP_POS, R.HUB_POS_MISMATCH]) :
    (s.unmeasure d).held (g.key d []) = s.held (g.key d []) := by
  have hsvn : ∀ f ∈ [R.SEC_DIE_SVN_COLLAR, R.SEC_DIE_SVN_PACK], g.key d [] ≠ f.key 0 [d] := by
    intro f hf
    simp only [List.mem_cons, List.not_mem_nil, or_false] at hf hg
    rcases hf with rfl | rfl <;> rcases hg with rfl | rfl <;>
      simp only [Fld.key, Fld.offset, strideSum, R.SEC_DIE_SVN_COLLAR, R.SEC_DIE_SVN_PACK, R.HUB_POS_STRAP_POS, R.HUB_POS_MISMATCH] <;> omega
  refine (State.held_wr_ne _ _ _ _ _ (hsvn _ (by decide))).trans ((State.held_wr_ne _ _ _ _ _ (hsvn _ (by decide))).trans ?_)
  exact (State.held_putWords_pos _ _ (by decide) d _ g hg).trans (s.held_putWords_pos _ (by decide) d _ g hg)

/-- Taking a measurement away changes no die's condition. -/
theorem State.dies_unmeasure (s : State) (d : Nat) : (s.unmeasure d).dies = s.dies := by
  have hwords : ∀ (t : State) (f : Fld), (t.putWords f d []).dies = t.dies := fun t f => by
    unfold State.putWords
    refine State.each_keeps (fun u => u.dies = t.dies) _ (fun u i h => ?_) _ t rfl
    exact (u.wr_dies f 0 [d, i] _).trans h
  rw [State.unmeasure, State.wrs_cons, State.wrs_cons, State.wrs_nil, State.wr_dies, State.wr_dies, hwords, hwords]

/-- A die as it has sampled its position and found another than its own (R20, R22). -/
def State.misplaced (s : State) (d pos : Nat) : State :=
  ({ s with dies := SMap.put 0 s.dies d 2 }).wrs d [] [(R.HUB_POS_STRAP_POS, pos), (R.HUB_POS_MISMATCH, 1)]

theorem State.misplaced_strapPos (s : State) (d pos : Nat) (hpos : pos < 4) : (s.misplaced d pos).rd R.HUB_POS_STRAP_POS d = pos := by
  have hflag : R.HUB_POS_STRAP_POS.key d [] ≠ R.HUB_POS_MISMATCH.key d [] := by
    simp only [Fld.key, R.HUB_POS_STRAP_POS, R.HUB_POS_MISMATCH, Fld.offset]
    omega
  rw [State.misplaced, State.wrs_cons, State.wrs_cons, State.wrs_nil, State.rd_wr_ne _ _ _ _ _ _ _ _ hflag]
  exact State.rd_wr_fits _ _ _ _ _ hpos

theorem State.misplaced_mismatch (s : State) (d pos : Nat) : (s.misplaced d pos).rd R.HUB_POS_MISMATCH d = 1 := by
  rw [State.misplaced, State.wrs_cons, State.wrs_cons, State.wrs_nil]
  exact State.rd_wr_same _ _ _ _ _

theorem State.dies_misplaced (s : State) (d pos : Nat) : SMap.get 0 (s.misplaced d pos).dies d = 2 :=
  SMap.get_put_same 0 s.dies d 2

/-- A die that sampled another position keeps it and holds itself in the reduced state; the start fails (R20, R22). -/
theorem State.mismatch_spec (d pos : Nat) (s : State) (hpos : pos < 4) : ∃ v : State, s.mismatch d pos = v.startFail d (scopeOf 9 d) ∧
    v.rd R.HUB_POS_STRAP_POS d = pos ∧ v.rdB R.HUB_POS_MISMATCH d = true ∧ v.dieRuns d = false := by
  have hkept : ∀ g ∈ [R.HUB_POS_STRAP_POS, R.HUB_POS_MISMATCH], ((s.misplaced d pos).unmeasure d).rd g d = (s.misplaced d pos).rd g d :=
    fun g hg => State.rd_of_held (State.held_unmeasure_pos _ d g hg)
  refine ⟨(s.misplaced d pos).unmeasure d, rfl, ?_, ?_, ?_⟩
  · rw [hkept _ (by decide), s.misplaced_strapPos d pos hpos]
  · rw [State.rdB, hkept _ (by decide), s.misplaced_mismatch d pos]
    rfl
  · rw [State.dieRuns, State.dies_unmeasure, s.dies_misplaced]
    rfl

theorem exec_startStep (die ms : Nat) (fallback fatal : Bool) (mis vids chans clus ports mods bays engines repairs : List Nat) (s : State) (hd : die < 4) :
    exec (.startStep die ms fallback fatal mis vids chans clus ports mods bays engines repairs) s =
      .next ((s.startStep ⟨die, ms, fallback, fatal, mis, vids, chans, clus, ports, mods, bays, engines, repairs⟩).withQueue s.pending) :=
  within_next s _ _ (by simpa using hd)

/-- Settles O56, from the power that comes to the dies that leave reset. -/
theorem startCommandsComplete : Obligations.StartCommandsComplete := by
  unfold Obligations.StartCommandsComplete
  exact ⟨exec_vauxPowerOn, exec_powerDown_falls, exec_powerDown_off, exec_packageStart_decides, exec_packageStart_started, exec_startStep,
    State.startStep_five, State.startStep_fails, State.stepLimit_values, State.startFail_spec, exec_startStepTimeout_fails,
    exec_startStepTimeout_started, exec_powerWave_starts, exec_powerWave_waits, exec_dieResetRelease_own, exec_dieResetRelease_other,
    fun d pos s _ hpos => s.mismatch_spec d pos hpos, exec_dieResetRelease_tripped⟩

end Sys2Proof.Machine
end

section
/-! SUPPORT. Where the islands stand is kept by what a home does for a request and by a bay that goes to Heel (R43, R342 to R347, R356, R389). -/

namespace Sys2Proof.Machine

section
variable {k : Nat} (s : State)

theorem guarded_island (hk : k ∈ islandKeys) : k ∈ guardedKeys := List.mem_append_left _ hk

/-! ### Snoops and the directory -/

theorem State.held_updReq (rid : Nat) (f : Req → Req) : (s.updReq rid f).held k = s.held k := rfl
theorem State.held_answer (rid ans status : Nat) (data : List Byte) : (s.answer rid ans status data).held k = s.held k := rfl

theorem State.held_snoop (hk : k ∈ islandKeys) (op : SnpOp) (rid bay line die : Nat) (data : List Byte) :
    (s.snoop op rid bay line die data).held k = s.held k :=
  s.held_bump_off hk R.COH_SNOOPS die [] 1 (by decide)

theorem State.held_setDir (l : Nat) (owned : Bool) (bays : List Nat) : (s.setDir l owned bays).held k = s.held k := by
  unfold State.setDir
  split
  · rfl
  · split <;> rfl

theorem State.held_dirDrop (l b : Nat) : (s.dirDrop l b).held k = s.held k := by
  unfold State.dirDrop
  split
  · exact s.held_setDir _ _ _
  · rfl

theorem State.held_putLine (hk : k ∈ islandKeys) (at_ : Option (Nat × Nat)) (l part : Nat) (bs : List Byte) :
    (s.putLine at_ l part bs).held k = s.held k := by
  unfold State.putLine
  split
  · exact (State.held_qPut _ (guarded_island hk) _ _ _).trans ((State.held_knlMark _ _ _).trans (s.held_stcAccess (guarded_island hk) _ _ _ _ _ _ _))
  · rfl

/-! ### The end of a transaction -/

theorem State.held_place347 (hk : k ∈ islandKeys) (r : Req) : (s.place347 r).held k = s.held k := by
  have hdrop : ∀ d, (s.bump R.COH_PUSH_DROP d [] 1).held k = s.held k := fun d => s.held_bump_off hk _ _ _ _ (by decide)
  unfold State.place347
  extract_lets d l
  split
  · exact hdrop d
  · split
    · exact s.held_snoop hk _ _ _ _ _ _
    · exact hdrop d

theorem State.held_dirAfter (r : Req) : (s.dirAfter r).held k = s.held k := by
  unfold State.dirAfter
  extract_lets l b
  split
  · exact s.held_setDir _ _ _
  · split
    · rfl
    · exact s.held_setDir _ _ _
  · exact s.held_setDir _ _ _
  · exact s.held_setDir _ _ _
  · exact s.held_dirDrop _ _
  · rfl

theorem State.held_homeDone (hk : k ∈ islandKeys) (rid : Nat) : (s.homeDone rid).held k = s.held k := by
  have hg := guarded_island hk
  unfold State.homeDone
  split
  · rfl
  · next r _ =>
    extract_lets part gran bad n cached written answered
    have hbad : ∀ t i, (bad t i).held k = t.held k := fun t i =>
      (State.held_answer (t.logUe r.q (r.dpa / 256 * 256 + 32 * i) false r.waysOf r.ctx r.uid) _ _ _ _).trans (t.held_logUe hg _ _ _ _ _ _)
    have hcache : ∀ b, ((s.stcAccess r.q gran r.mask r.dpa part r.stream b).knlMark r.dpa r.q).held k = s.held k := fun b =>
      (State.held_knlMark _ _ _).trans (s.held_stcAccess hg _ _ _ _ _ _ _)
    split
    · exact s.held_dirAfter r
    · split
      · split
        · exact hbad s _
        · split
          next old t heq =>
            have hsnd : (cached.atomicAt _ _ _ _ _ _).2 = t := congrArg Prod.snd heq
            refine (congrArg (State.held · k) hsnd.symm).trans ?_
            exact (State.held_atomicAt _ hg _ _ _ _ _ _).trans (hcache true)
      · split
        · split
          · exact hbad s _
          · have h2 : answered.held k = s.held k := (State.held_dirAfter _ r).trans ((State.held_qPut _ hg _ _ _).trans (hcache true))
            split
            · exact (answered.held_place347 hk r).trans h2
            · exact h2
        · split
          · exact s.held_dirAfter r
          · split
            · exact hbad s _
            · exact (State.held_dirAfter _ r).trans (s.held_stcAccess hg _ _ _ _ _ _ _)

/-! ### The entries of a memory port -/

theorem State.held_drr (port : Nat) (ks : List Nat) (charge : Nat → Nat) : ∀ (n j : Nat) (s : State), (s.drr port ks charge n j).2.held k = s.held k
  | 0, _, _ => rfl
  | n + 1, j, s => by
    unfold State.drr
    split
    · rfl
    · exact State.held_drr port ks charge n _ _

theorem State.held_portAdmit1 (port : Nat) (t : State) (h : s.portAdmit1 port = some t) : t.held k = s.held k := by
  unfold State.portAdmit1 at h
  extract_lets ws key units enter heavy ks head x i src at h
  have henter : ∀ (u : State) r, (enter u r).held k = u.held k := fun u r => u.held_updReq _ _
  split at h
  · split at h
    · obtain rfl := Option.some.inj h
      exact henter s _
    · cases h
  · split at h
    · cases h
    · split at h
      · obtain ⟨r, -, rfl⟩ := Option.map_eq_some_iff.1 h
        exact henter s r
      · split at h
        · cases h
        · obtain rfl := Option.some.inj h
          exact (henter _ _).trans (State.held_drr port ks _ _ _ s)

theorem State.held_portAdmit (port : Nat) : ∀ (n : Nat) (s : State), (s.portAdmit port n).held k = s.held k
  | 0, _ => rfl
  | n + 1, s => by
    unfold State.portAdmit
    split
    next t ht => exact (State.held_portAdmit port n t).trans (s.held_portAdmit1 port t ht)
    next => rfl

theorem State.held_admitEntries : s.admitEntries.held k = s.held k :=
  s.held_each _ _ (fun t p => State.held_portAdmit p _ t)

theorem State.held_portDone (hk : k ∈ islandKeys) (r : Req) : (s.portDone r).held k = s.held k :=
  (State.held_homeDone _ hk _).trans (s.held_portServe (guarded_of_island _ hk) _ _ _ _ _)

theorem State.held_homeMem (hk : k ∈ islandKeys) (rid : Nat) : (s.homeMem rid).held k = s.held k := by
  unfold State.homeMem
  split
  · rfl
  · split
    · exact s.held_homeDone hk rid
    · extract_lets s1 fetch
      have h1 : s1.held k = s.held k := by
        show (if _ then _ else _ : State).held k = _
        split
        · exact s.held_wr_memPort (guarded_island hk) _ (by decide) _ _ _
        · rfl
      split
      · exact (s1.held_portDone hk _).trans h1
      · exact (State.held_admitEntries _).trans h1

/-! ### A home takes a request up -/

theorem State.held_sliceEcc (hk : k ∈ islandKeys) (q gran mask : Nat) (ecc : List Ecc) (dpa part ctx : Nat) :
    (s.sliceEcc q gran mask ecc dpa part ctx).held k = s.held k := by
  unfold State.sliceEcc
  split
  · rfl
  · extract_lets hit d lose
    have hlose : ∀ (u : State) i, (lose u i).held k = u.held k := fun u i => by
      simp only [lose, State.held]
      split <;> rfl
    refine State.held_each _ _ _ (fun t x => ?_)
    extract_lets e corrected u
    have hcorrected : (corrected t).held k = t.held k :=
      (State.held_err _ (guarded_island hk) _ _).trans (t.held_bump_off hk _ _ _ _ (by decide))
    split
    · split
      · exact hcorrected
      · exact t.held_each _ lose hlose
    · split
      · exact hlose t _
      · split
        · exact hcorrected
        · rfl

theorem State.held_refused (hk : k ∈ islandKeys) (q : Nat) (write : Bool) : (s.refused q write).held k = s.held k := by
  unfold State.refused
  split
  · exact s.held_bump_off hk _ _ _ _ (by decide)
  · rfl

theorem State.held_homeTry (hk : k ∈ islandKeys) (rid : Nat) (ecc : List Ecc) : (s.homeTry rid ecc).held k = s.held k := by
  have hbump : ∀ (f : Fld) (d : Nat), f ∈ [R.COH_NOT_ISLAND, R.KNL_HELD, R.COH_DIR_EVICTS] → (s.bump f d [] 1).held k = s.held k := by
    intro f d hf
    exact s.held_bump_off hk f d [] 1 (by clear hk; revert f; decide)
  unfold State.homeTry
  split
  · rfl
  next r _ =>
    extract_lets d b l put waiting upg ns checked snooping
    have hsnooping : snooping.held k = s.held k := s.held_sliceEcc hk _ _ _ _ _ _ _
    split
    · exact s.held_refused hk _ _
    split
    · exact hbump _ _ (by decide)
    split
    · split
      · exact (State.held_dirDrop _ _ _).trans (s.held_putLine hk _ _ _ _)
      · split
        · exact s.held_dirDrop _ _
        · rfl
    split
    · rfl
    split
    · refine (State.held_updReq _ _ _).trans ?_
      split
      · rfl
      · exact hbump _ _ (by decide)
    split
    · exact s.held_dirDrop _ _
    · split
      · split
        · exact s.held_homeDone hk rid
        · rfl
      · rfl
    · split
      · split
        · rfl
        · split
          · rfl
          · exact (State.held_each _ _ _ (fun t c => t.held_snoop hk _ _ _ _ _ _)).trans (waiting.held_bump_off hk _ _ _ _ (by decide))
      · split
        · exact (snooping.held_homeMem hk rid).trans hsnooping
        · exact (snooping.held_each _ _ (fun t n => t.held_snoop hk _ _ _ _ _ _)).trans hsnooping

theorem State.held_pumpHome (hk : k ∈ islandKeys) : s.pumpHome.held k = s.held k :=
  (State.held_admitEntries _).trans (s.held_each _ _ (fun t _ => t.held_homeTry hk _ _))

theorem State.held_snoopOver (hk : k ∈ islandKeys) (n : Snoop) (ans : Nat) : (s.snoopOver n ans).held k = s.held k := by
  unfold State.snoopOver
  extract_lets s1 part at_ s2 s3 s4 s5
  have h2 : s2.held k = s.held k := by
    show (if _ then _ else _ : State).held k = _
    split
    · exact s1.held_putLine hk _ _ _ _
    · rfl
  have h3 : s3.held k = s2.held k := by
    simp only [s3]
    split
    · exact s2.held_dirDrop _ _
    · split
      · exact s2.held_dirDrop _ _
      · split
        · exact s2.held_setDir _ _ _
        · rfl
    · rfl
  have h5 : s5.held k = s4.held k := by
    simp only [s5]
    split
    · split
      · exact s4.held_homeMem hk _
      · rfl
    · rfl
  exact (s5.held_pumpHome hk).trans (h5.trans (h3.trans h2))

/-! ### A bay goes to Heel -/

theorem State.held_ringWr (hk : k ∈ islandKeys) (w b : Fld) (hw : w.off islandKeys = true) (hb : b.off islandKeys = true) (p r v : Nat) :
    (s.ringWr w b p r v).held k = s.held k := by
  unfold State.ringWr
  split
  · exact s.held_wr_off hk _ _ _ _ hw
  · exact s.held_wr_off hk _ _ _ _ hb

theorem State.held_setRing (hk : k ∈ islandKeys) (p r st reason : Nat) : (s.setRing p r st reason).held k = s.held k :=
  (State.held_ringWr _ hk _ _ (by decide) (by decide) _ _ _).trans (s.held_ringWr hk _ _ (by decide) (by decide) _ _ _)

/-- A bay that goes to Heel, for whatever cause, leaves where the islands stand as it was (R389). -/
theorem State.held_heelBay (hk : k ∈ islandKeys) (b cause : Nat) (off : Bool) : (s.heelBay b cause off).held k = s.held k := by
  have hbay : ∀ (t : State) (f : Fld) (v : Nat), f.off islandKeys = true → (t.bayWr f b v).held k = t.held k := fun t f v hf => t.held_wr_off hk f _ _ v hf
  unfold State.heelBay
  extract_lets owned s1 s2 s3 s4 x s5 s6 s7 s8
  have h3 : s3.held k = s.held k := (State.held_err _ (guarded_island hk) _ _).trans ((hbay _ _ _ (by decide)).trans ((hbay _ _ _ (by decide)).trans
    (hbay _ _ _ (by decide))))
  have h4 : s4.held k = s3.held k := by
    show (if _ then _ else _ : State).held k = _
    split <;> rfl
  have h6 : s6.held k = s5.held k := by
    show (if _ then _ else _ : State).held k = _
    split
    · exact s5.held_wr_off hk _ _ _ _ (by split <;> decide)
    · rfl
  have h7 : s7.held k = s6.held k := s6.held_each _ _ (fun t e => t.held_dirDrop _ _)
  have h8 : s8.held k = s7.held k := s7.held_each _ _ (fun t x => by
    split
    · exact t.held_setRing hk _ _ _ _
    · rfl)
  refine (s8.held_each _ _ (fun t n => ?_)).trans (h8.trans (h7.trans (h6.trans (h4.trans h3))))
  split
  · exact t.held_snoopOver hk _ _
  · rfl

end

end Sys2Proof.Machine
end

section
/-! SUPPORT. Partitions and contexts, and the reshape of the islands (R31, R32, R477 to R485). -/

namespace Sys2Proof.Machine

/-! ### RESET and ZERO (R483 to R485) -/

theorem State.partReset_busy (p : Nat) (s : State) (h : s.rdB R.PAR_STATUS_RESET_BUSY 0 [p] = true) : s.partReset p = s := if_pos h

theorem exec_resetBusyClear_over (p : Nat) (s : State) (hp : p < 64) (hbusy : s.rdB R.PAR_STATUS_RESET_BUSY 0 [p] = true) (hold : s.oldGen p = []) :
    ∃ u, exec (.resetBusyClear p) s = .next u ∧ u.rdB R.PAR_STATUS_RESET_BUSY 0 [p] = false ∧ u.reqs = s.reqs := by
  refine ⟨_, within_next s _ _ (by simpa using hp), ?_⟩
  simp only [hbusy, hold, List.isEmpty_nil, Bool.and_self, if_true]
  exact ⟨congrArg (· != 0) (s.rd_wr_same R.PAR_STATUS_RESET_BUSY 0 [p] 0), rfl⟩

theorem exec_resetBusyClear_waits (p : Nat) (s : State) (hp : p < 64) (hold : s.oldGen p ≠ []) : exec (.resetBusyClear p) s = .next s := by
  refine (within_next s _ _ (by simpa using hp)).trans ?_
  simp [hold]

/-- ZERO leaves the islands and the partition's island as they are (R484). -/
theorem State.islUp_zeroStarted (s : State) (p : Nat) (h : s.islUp (s.partIsland p) = true) :
    ((s.wr R.PAR_STATUS_ZERO_BUSY 0 [p] 1).wr R.PAR_STATUS_ZERO_FAIL 0 [p] 0).islUp
      (((s.wr R.PAR_STATUS_ZERO_BUSY 0 [p] 1).wr R.PAR_STATUS_ZERO_FAIL 0 [p] 0).partIsland p) = true := by
  have hkept : ∀ (f : Fld) (ix : List Nat), f.key 0 ix ≠ R.PAR_STATUS_ZERO_BUSY.key 0 [p] → f.key 0 ix ≠ R.PAR_STATUS_ZERO_FAIL.key 0 [p] →
      ((s.wr R.PAR_STATUS_ZERO_BUSY 0 [p] 1).wr R.PAR_STATUS_ZERO_FAIL 0 [p] 0).rd f 0 ix = s.rd f 0 ix := fun f ix hbusy hfail =>
    (State.rd_wr_ne _ _ _ _ _ _ _ _ hfail).trans (s.rd_wr_ne _ _ _ _ _ _ _ hbusy)
  simp only [State.islUp, State.partIsland] at h ⊢
  rw [hkept R.PAR_CFG_ISLAND [p], hkept R.COH_ISL_STATE_STATE, h]
  all_goals
    simp only [Fld.key, Fld.offset, strideSum, R.PAR_STATUS_ZERO_BUSY, R.PAR_STATUS_ZERO_FAIL, R.PAR_CFG_ISLAND, R.COH_ISL_STATE_STATE]
    omega

theorem exec_parZero_starts (p : Nat) (s : State) (hp : p < 64) (hbusy : s.rdB R.PAR_STATUS_ZERO_BUSY 0 [p] = false)
    (hfree : ∀ c < 16, s.rd R.PAR_CTX_CFG_STATE 0 [p, c] = 0) (hup : s.islUp (s.partIsland p) = true) :
    ∃ v : State, exec (.parZero p) s = .next ((v.each (v.zeroRanges p) (fun v r => v.zeroRange p r)).withQueue s.pending) ∧
      v.rdB R.PAR_STATUS_ZERO_BUSY 0 [p] = true ∧ v.rdB R.PAR_STATUS_ZERO_FAIL 0 [p] = false ∧ v.dram = s.dram := by
  have hnone : (List.range 16).any (fun c => s.rd R.PAR_CTX_CFG_STATE 0 [p, c] != 0) = false := by
    simpa using hfree
  refine ⟨(s.wr R.PAR_STATUS_ZERO_BUSY 0 [p] 1).wr R.PAR_STATUS_ZERO_FAIL 0 [p] 0, ?_, ?_, ?_, rfl⟩
  · refine (within_next s _ _ (by simpa using hp)).trans ?_
    simp only [hbusy, hnone, Bool.or_self, Bool.false_eq_true, if_false, s.islUp_zeroStarted p hup, if_true]
  · have hne : R.PAR_STATUS_ZERO_BUSY.key 0 [p] ≠ R.PAR_STATUS_ZERO_FAIL.key 0 [p] := by
      simp only [Fld.key, R.PAR_STATUS_ZERO_BUSY, R.PAR_STATUS_ZERO_FAIL, Fld.offset]
      omega
    rw [State.rdB, State.rd_wr_ne _ _ _ _ _ _ _ _ hne, State.rd_wr_same]
    rfl
  · exact congrArg (· != 0) (State.rd_wr_same _ R.PAR_STATUS_ZERO_FAIL 0 [p] 0)

theorem exec_parZero_inUse (p c : Nat) (s : State) (hp : p < 64) (hc : c < 16) (huse : s.rd R.PAR_CTX_CFG_STATE 0 [p, c] ≠ 0) :
    exec (.parZero p) s = .next s := by
  have hany : (List.range 16).any (fun c => s.rd R.PAR_CTX_CFG_STATE 0 [p, c] != 0) = true :=
    List.any_eq_true.2 ⟨c, List.mem_range.2 hc, bne_iff_ne.2 huse⟩
  refine (within_next s _ _ (by simpa using hp)).trans ?_
  simp only [hany, Bool.or_true, if_true]
  rfl

theorem exec_parZeroDone_waits (p : Nat) (s : State) (hp : p < 64) (hwrites : ∃ r ∈ s.reqs, r.owner = .post (.zero p)) :
    exec (.parZeroDone p) s = .next s := by
  obtain ⟨r, hr, howner⟩ := hwrites
  have hall : s.reqs.all (fun (r : Req) => r.owner != .post (.zero p)) = false :=
    List.all_eq_false.2 ⟨r, hr, by simp [howner]⟩
  refine (within_next s _ _ (by simpa using hp)).trans ?_
  simp only [hall, Bool.and_false, Bool.false_eq_true, if_false]
  rfl

theorem exec_parZeroDone_over (p : Nat) (s : State) (hp : p < 64) (hwrites : ∀ r ∈ s.reqs, r.owner ≠ .post (.zero p)) :
    ∃ u, exec (.parZeroDone p) s = .next u ∧ u.rdB R.PAR_STATUS_ZERO_BUSY 0 [p] = false := by
  have hall : s.reqs.all (fun (r : Req) => r.owner != .post (.zero p)) = true := List.all_eq_true.2 (fun r hr => bne_iff_ne.2 (hwrites r hr))
  refine ⟨_, within_next s _ _ (by simpa using hp), ?_⟩
  simp only [hall, Bool.and_true]
  split
  · exact congrArg (· != 0) (s.rd_wr_same R.PAR_STATUS_ZERO_BUSY 0 [p] 0)
  next hbusy => exact Bool.eq_false_iff.2 hbusy

/-! ### Contexts (R477 to R480) -/

/-- What enabling writes into a context's configuration (R478). -/
def State.ctxConfigured (s : State) (p c v : Nat) : State :=
  s.wrs 0 [p, c] [(R.PAR_CTX_CFG_ENABLE, 1), (R.PAR_CTX_CFG_CONFIDENTIAL, bits v 30 1), (R.PAR_CTX_CFG_STATE, 1)]

theorem State.ctxConfigured_fields (s : State) (p c v : Nat) : (s.ctxConfigured p c v).rd R.PAR_CTX_CFG_STATE 0 [p, c] = 1 ∧
    (s.ctxConfigured p c v).rd R.PAR_CTX_CFG_ENABLE 0 [p, c] = 1 ∧ (s.ctxConfigured p c v).rd R.PAR_CTX_CFG_CONFIDENTIAL 0 [p, c] = bits v 30 1 := by
  have hconf : bits v 30 1 < 2 ^ R.PAR_CTX_CFG_CONFIDENTIAL.width := Nat.mod_lt _ (by decide)
  have hne : ∀ f ∈ [R.PAR_CTX_CFG_ENABLE, R.PAR_CTX_CFG_CONFIDENTIAL], f.key 0 [p, c] ≠ R.PAR_CTX_CFG_STATE.key 0 [p, c] := by
    intro f hf
    simp only [List.mem_cons, List.not_mem_nil, or_false] at hf
    rcases hf with rfl | rfl <;>
      simp only [Fld.key, Fld.offset, R.PAR_CTX_CFG_ENABLE, R.PAR_CTX_CFG_CONFIDENTIAL, R.PAR_CTX_CFG_STATE] <;> omega
  have hne' : R.PAR_CTX_CFG_ENABLE.key 0 [p, c] ≠ R.PAR_CTX_CFG_CONFIDENTIAL.key 0 [p, c] := by
    simp only [Fld.key, Fld.offset, R.PAR_CTX_CFG_ENABLE, R.PAR_CTX_CFG_CONFIDENTIAL]
    omega
  simp only [State.ctxConfigured, State.wrs_cons, State.wrs_nil]
  refine ⟨State.rd_wr_same _ _ _ _ _, ?_, ?_⟩
  · rw [State.rd_wr_ne _ _ _ _ _ _ _ _ (hne _ (by decide)), State.rd_wr_ne _ _ _ _ _ _ _ _ hne', State.rd_wr_same]
    rfl
  · rw [State.rd_wr_ne _ _ _ _ _ _ _ _ (hne _ (by decide)), State.rd_wr_fits _ _ _ _ _ hconf]

/-- A context's configuration does not move the tick. -/
theorem State.tick_ctxConfigured (s : State) (p c v : Nat) : (s.ctxConfigured p c v).tick = s.tick := by
  have hne : ∀ f ∈ [R.PAR_CTX_CFG_ENABLE, R.PAR_CTX_CFG_CONFIDENTIAL, R.PAR_CTX_CFG_STATE], R.TCK_NUMBER.key 0 [] ≠ f.key 0 [p, c] := by
    intro f hf
    simp only [List.mem_cons, List.not_mem_nil, or_false] at hf
    rcases hf with rfl | rfl | rfl <;>
      simp only [Fld.key, Fld.offset, strideSum, R.TCK_NUMBER, R.PAR_CTX_CFG_ENABLE, R.PAR_CTX_CFG_CONFIDENTIAL, R.PAR_CTX_CFG_STATE] <;> omega
  simp only [State.ctxConfigured, State.wrs_cons, State.wrs_nil, State.tick]
  rw [State.rd_wr_ne _ _ _ _ _ _ _ _ (hne _ (by decide)), State.rd_wr_ne _ _ _ _ _ _ _ _ (hne _ (by decide)),
    State.rd_wr_ne _ _ _ _ _ _ _ _ (hne _ (by decide))]

/-- A FREE context is enabled: the tick marks its life, and nothing is disclosed of it nor owed by it (R478, R505). -/
theorem State.ctxEnable_free (s : State) (p c v : Nat) (hfree : s.rd R.PAR_CTX_CFG_STATE 0 [p, c] = 0) :
    s.ctxEnable p c v = (({ s.ctxConfigured p c v with
      ctxs := SMap.ins (s.ctxConfigured p c v).ctxs (16 * p + c) { inst := (s.ctxConfigured p c v).tick, key := none, slots := [], weights := [] } }).wr
      R.SEC_DISCLOSE 0 [16 * p + c] 0).wr R.TCK_DEBT 0 [16 * p + c] 0 := if_pos hfree

theorem exec_ctxEnable_free (p c v : Nat) (s : State) (hp : p < 64) (hc : c < 16) (hv : v < 2 ^ 32) (hen : bit v 31 = true)
    (hfree : s.rd R.PAR_CTX_CFG_STATE 0 [p, c] = 0) :
    ∃ u, exec (.ctxEnable p c v) s = .next u ∧ u.rd R.PAR_CTX_CFG_STATE 0 [p, c] = 1 ∧ u.rdB R.PAR_CTX_CFG_ENABLE 0 [p, c] = true ∧
      u.rd R.PAR_CTX_CFG_CONFIDENTIAL 0 [p, c] = bits v 30 1 ∧ u.rd R.SEC_DISCLOSE 0 [16 * p + c] = 0 ∧
      SMap.look u.ctxs (16 * p + c) = some { inst := s.tick, key := none, slots := [], weights := [] } := by
  have hkept : ∀ (t : State) (f : Fld), f ∈ [R.PAR_CTX_CFG_STATE, R.PAR_CTX_CFG_ENABLE, R.PAR_CTX_CFG_CONFIDENTIAL] →
      ((t.wr R.SEC_DISCLOSE 0 [16 * p + c] 0).wr R.TCK_DEBT 0 [16 * p + c] 0).rd f 0 [p, c] = t.rd f 0 [p, c] := by
    intro t f hf
    have hne : ∀ g ∈ [R.SEC_DISCLOSE, R.TCK_DEBT], f.key 0 [p, c] ≠ g.key 0 [16 * p + c] := by
      intro g hg
      simp only [List.mem_cons, List.not_mem_nil, or_false] at hf hg
      rcases hg with rfl | rfl <;> rcases hf with rfl | rfl | rfl <;>
        simp only [Fld.key, Fld.offset, strideSum, R.SEC_DISCLOSE, R.TCK_DEBT, R.PAR_CTX_CFG_ENABLE, R.PAR_CTX_CFG_CONFIDENTIAL, R.PAR_CTX_CFG_STATE] <;>
        omega
    exact (State.rd_wr_ne _ _ _ _ _ _ _ _ (hne _ (by decide))).trans (t.rd_wr_ne _ _ _ _ _ _ _ (hne _ (by decide)))
  have hdebt : R.SEC_DISCLOSE.key 0 [16 * p + c] ≠ R.TCK_DEBT.key 0 [16 * p + c] := by
    simp only [Fld.key, Fld.offset, strideSum, R.SEC_DISCLOSE, R.TCK_DEBT]
    omega
  obtain ⟨hstate, henable, hconf⟩ := s.ctxConfigured_fields p c v
  refine ⟨(s.ctxEnable p c v).withQueue s.pending, (within_next s _ _ (by simpa [hp, hc] using hv)).trans (by rw [if_pos hen]), ?_⟩
  rw [s.ctxEnable_free p c v hfree]
  refine ⟨(hkept _ _ (by decide)).trans hstate, (congrArg (· != 0) (hkept _ _ (by decide))).trans (congrArg (· != 0) henable),
    (hkept _ _ (by decide)).trans hconf, ?_, ?_⟩
  · exact (State.rd_wr_ne _ _ _ _ _ _ _ _ hdebt).trans (State.rd_wr_same _ _ _ _ _)
  · rw [← s.tick_ctxConfigured p c v]
    exact SMap.look_ins_same _ _ _

theorem exec_ctxEnable_ending (p c v : Nat) (s : State) (hp : p < 64) (hc : c < 16) (hv : v < 2 ^ 32) (hen : bit v 31 = true)
    (hend : s.rd R.PAR_CTX_CFG_STATE 0 [p, c] = 3) :
    exec (.ctxEnable p c v) s = .next ((s.cfgErr .PAR_P 0 [p, c] (R.PAR_CTX_CFG_ENABLE.offset [p, c])).withQueue s.pending) := by
  refine (within_next s _ _ (by simpa [hp, hc] using hv)).trans ?_
  simp [hen, State.ctxEnable, hend]

theorem exec_ctxDisable (p c v : Nat) (s : State) (hp : p < 64) (hc : c < 16) (hv : v < 2 ^ 32) (hen : bit v 31 = false) (hlive : s.ctxLive p c = true)
    (hconf : bits v 30 1 = s.rd R.PAR_CTX_CFG_CONFIDENTIAL 0 [p, c]) :
    (s.ctxBusy p c = false → exec (.ctxDisable p c v) s = .next ((s.ctxEnd p c).withQueue s.pending)) ∧
    (s.ctxBusy p c = true → exec (.ctxDisable p c v) s = .next ((s.cfgErr .PAR_P 0 [p, c] (R.PAR_CTX_CFG_ENABLE.offset [p, c])).withQueue s.pending)) := by
  have hwf : (decide (p < 64) && decide (c < 16) && decide (v < 2 ^ 32)) = true := by simpa [hp, hc] using hv
  constructor
  · intro hidle
    refine (within_next s _ _ hwf).trans ?_
    simp [hen, State.ctxDisable, hlive, hidle, hconf]
  · intro hbusy
    refine (within_next s _ _ hwf).trans ?_
    simp [hen, State.ctxDisable, hlive, hbusy]

/-! ### The reshape of the islands (R31, R32) -/

/-- Each die in its island of the new shape. -/
def State.islandsWritten (s : State) (isl : Nat → Nat) : State :=
  s.wrs 0 [] [(R.HUB_ISLAND_HD0_ISL, isl 0), (R.HUB_ISLAND_HD1_ISL, isl 1), (R.HUB_ISLAND_HD2_ISL, isl 2), (R.HUB_ISLAND_HD3_ISL, isl 3)]

/-- An island of the new shape: DOWN with a cause it takes over, or up. -/
def State.islandReshaped (s : State) (cause : Option Nat) (i : Nat) : State :=
  match cause with
  | some c => s.wrs 0 [i] [(R.COH_ISL_STATE_STATE, 1), (R.COH_ISL_STATE_CAUSE, c)]
  | none => s.wrs 0 [i] [(R.COH_ISL_STATE_STATE, 0), (R.COH_ISL_STATE_CAUSE, 0)]

/-- The cause an island of the new shape takes over: that of its first die on a DOWN island. -/
def State.causeTaken (s : State) (isl : Nat → Nat) (i : Nat) : Option Nat :=
  ((List.range 4).find? (fun d => isl d == i && s.rd R.COH_ISL_STATE_STATE 0 [s.island d] == 1)).map (fun d => s.rd R.COH_ISL_STATE_CAUSE 0 [s.island d])

/-- The islands of the new shape, before the bays on the DOWN ones go to Heel. -/
def State.reshaped (s : State) (isl : Nat → Nat) : State :=
  (s.islandsWritten isl).each (List.range 4) (fun t i => t.islandReshaped (((List.range 4).map (s.causeTaken isl)).getD i none) i)

/-- The bays on islands that are DOWN go to Heel (R389). -/
def State.baysHeeled (s : State) : State :=
  s.each ((List.range 8).filter (fun b => s.islDown (s.island (b / 2)) && ([1, 2, 3] : List Nat).contains (s.bayRd R.BAY_STATUS_STATE b)))
    (fun s b => s.heelBay b 8 false)

theorem State.held_baysHeeled (s : State) {k : Nat} (hk : k ∈ islandKeys) : s.baysHeeled.held k = s.held k :=
  s.held_each _ _ (fun t _ => t.held_heelBay hk _ _ _)

theorem State.island_baysHeeled (s : State) (d : Nat) : s.baysHeeled.island d = s.island d := by
  unfold State.island
  rw [State.rd_of_held (s.held_baysHeeled (k := R.HUB_ISLAND_HD0_ISL.key 0 []) (by decide)),
    State.rd_of_held (s.held_baysHeeled (k := R.HUB_ISLAND_HD1_ISL.key 0 []) (by decide)),
    State.rd_of_held (s.held_baysHeeled (k := R.HUB_ISLAND_HD2_ISL.key 0 []) (by decide)),
    State.rd_of_held (s.held_baysHeeled (k := R.HUB_ISLAND_HD3_ISL.key 0 []) (by decide))]

theorem State.islState_baysHeeled (s : State) (i : Nat) (hi : i < 4) :
    s.baysHeeled.rd R.COH_ISL_STATE_STATE 0 [i] = s.rd R.COH_ISL_STATE_STATE 0 [i] :=
  State.rd_of_held (s.held_baysHeeled (List.mem_append_right _ (List.mem_map.2 ⟨i, List.mem_range.2 hi, rfl⟩)))

theorem State.held_islandReshaped (s : State) (cause : Option Nat) (i k : Nat) (hstate : k ≠ R.COH_ISL_STATE_STATE.key 0 [i])
    (hcause : k ≠ R.COH_ISL_STATE_CAUSE.key 0 [i]) : (s.islandReshaped cause i).held k = s.held k := by
  unfold State.islandReshaped
  split <;> exact (State.held_wr_ne _ _ _ _ _ hcause).trans (s.held_wr_ne _ _ _ _ hstate)

theorem State.islState_islandReshaped (s : State) (cause : Option Nat) (i : Nat) :
    (s.islandReshaped cause i).rd R.COH_ISL_STATE_STATE 0 [i] = if cause.isSome then 1 else 0 := by
  have hne : R.COH_ISL_STATE_STATE.key 0 [i] ≠ R.COH_ISL_STATE_CAUSE.key 0 [i] := by
    simp only [Fld.key, Fld.offset, R.COH_ISL_STATE_STATE, R.COH_ISL_STATE_CAUSE]
    omega
  unfold State.islandReshaped
  split <;> exact (State.rd_wr_ne _ _ _ _ _ _ _ _ hne).trans (State.rd_wr_same _ _ _ _ _)

theorem State.island_islandsWritten (s : State) (isl : Nat → Nat) (h : ∀ d, isl d < 4) (d : Nat) (hd : d < 4) : (s.islandsWritten isl).island d = isl d := by
  have hfit : ∀ d, isl d % 4 = isl d := fun d => Nat.mod_eq_of_lt (h d)
  simp only [State.islandsWritten, State.wrs_cons, State.wrs_nil, State.island]
  interval_cases d <;>
    simp (disch := decide) only [if_true, if_false, OfNat.ofNat_ne_zero, Nat.reduceEqDiff, one_ne_zero, State.rd_wr_ne, State.rd_wr_same] <;>
    exact hfit _

theorem State.island_reshaped (s : State) (isl : Nat → Nat) (h : ∀ d, isl d < 4) (d : Nat) (hd : d < 4) : (s.reshaped isl).island d = isl d := by
  have hkept : ∀ f ∈ [R.HUB_ISLAND_HD0_ISL, R.HUB_ISLAND_HD1_ISL, R.HUB_ISLAND_HD2_ISL, R.HUB_ISLAND_HD3_ISL],
      (s.reshaped isl).rd f 0 = (s.islandsWritten isl).rd f 0 := by
    intro f hf
    refine State.rd_of_held (State.held_each _ _ _ (fun t i => t.held_islandReshaped _ i _ ?_ ?_)) <;>
    · simp only [List.mem_cons, List.not_mem_nil, or_false] at hf
      rcases hf with rfl | rfl | rfl | rfl <;>
        simp only [Fld.key, Fld.offset, strideSum, R.HUB_ISLAND_HD0_ISL, R.HUB_ISLAND_HD1_ISL, R.HUB_ISLAND_HD2_ISL, R.HUB_ISLAND_HD3_ISL,
          R.COH_ISL_STATE_STATE, R.COH_ISL_STATE_CAUSE] <;> omega
  rw [← s.island_islandsWritten isl h d hd]
  simp only [State.island]
  rw [hkept _ (by decide), hkept _ (by decide), hkept _ (by decide), hkept _ (by decide)]

theorem State.islState_reshaped (s : State) (isl : Nat → Nat) (i : Nat) (hi : i < 4) :
    (s.reshaped isl).rd R.COH_ISL_STATE_STATE 0 [i] = if (s.causeTaken isl i).isSome then 1 else 0 := by
  have hother : ∀ (t : State) (c : Option Nat) (j : Nat), i ≠ j →
      (t.islandReshaped c j).rd R.COH_ISL_STATE_STATE 0 [i] = t.rd R.COH_ISL_STATE_STATE 0 [i] := by
    intro t c j hij
    refine State.rd_of_held (t.held_islandReshaped c j _ ?_ ?_) <;>
    · simp only [Fld.key, Fld.offset, strideSum, R.COH_ISL_STATE_STATE, R.COH_ISL_STATE_CAUSE]
      omega
  rw [State.reshaped, show List.range 4 = [0, 1, 2, 3] from rfl]
  simp only [State.each, List.foldl, List.map]
  interval_cases i <;> simp (disch := decide) only [hother, State.islState_islandReshaped] <;> rfl

theorem State.causeTaken_isSome_iff (s : State) (isl : Nat → Nat) (i : Nat) :
    (s.causeTaken isl i).isSome = true ↔ ∃ d < 4, isl d = i ∧ s.rd R.COH_ISL_STATE_STATE 0 [s.island d] = 1 := by
  simp [State.causeTaken, List.find?_isSome]

/-- The shape there is changes nothing. -/
theorem exec_hubIslandWrite_same (v : Nat) (s : State) (hv : v < 2 ^ 32) (hsame : ∀ d < 4, s.island d = bits v (2 * d) 2) :
    exec (.hubIslandWrite v) s = .next s := by
  have hall : (List.range 4).all (fun d => bits v (2 * d) 2 == s.island d) = true :=
    List.all_eq_true.2 (fun d hd => beq_iff_eq.2 (hsame d (List.mem_range.1 hd)).symm)
  refine (within_next s _ _ (by simpa using hv)).trans ?_
  rw [if_pos hall]
  rfl

/-- A shape that differs for a die is not the one there is. -/
theorem State.shape_differs (v : Nat) (s : State) (hnew : ∃ d < 4, s.island d ≠ bits v (2 * d) 2) :
    ¬(List.range 4).all (fun d => bits v (2 * d) 2 == s.island d) = true := by
  obtain ⟨d, hd, hne⟩ := hnew
  exact fun hall => hne (beq_iff_eq.1 (List.all_eq_true.1 hall d (List.mem_range.2 hd))).symm

/-- A new shape is written while nothing runs, nothing is held, no island re-initialises, no partition is enabled and every island stays contiguous. -/
theorem exec_hubIslandWrite_reshapes (v : Nat) (s : State) (hv : v < 2 ^ 32) (hunits : s.units = []) (hdirs : s.dirs = [])
    (hreinit : ∀ i < 4, s.rd R.COH_ISL_STATE_STATE 0 [i] ≠ 2) (hoff : ∀ p < 64, s.rdB R.PAR_CFG_ENABLE 0 [p] = false)
    (hshape : shapeOk (fun d => bits v (2 * d) 2) = true) (hnew : ∃ d < 4, s.island d ≠ bits v (2 * d) 2) :
    exec (.hubIslandWrite v) s = .next ((s.reshaped (fun d => bits v (2 * d) 2)).baysHeeled.withQueue s.pending) := by
  have hisl : (List.range 4).any (fun i => s.rd R.COH_ISL_STATE_STATE 0 [i] == 2) = false :=
    List.any_eq_false.2 (fun i hi => by simpa using hreinit i (List.mem_range.1 hi))
  have hparts : ∀ parted : Nat → Bool, (List.range 64).any (fun p => s.rdB R.PAR_CFG_ENABLE 0 [p] && parted p) = false := fun parted =>
    List.any_eq_false.2 (fun p hp => by simp [hoff p (List.mem_range.1 hp)])
  refine (within_next s _ _ (by simpa using hv)).trans ?_
  rw [if_neg (s.shape_differs v hnew), if_neg (by
    rw [hparts, hunits, hdirs, hisl, hshape]
    simp)]
  extract_lets down causes written states
  have hstates : states = s.reshaped (fun d => bits v (2 * d) 2) := by
    refine congrArg (written.each (List.range 4)) (funext fun t => funext fun i => ?_)
    show _ = t.islandReshaped (causes.getD i none) i
    cases causes.getD i none <;> rfl
  exact congrArg (fun t : State => Host.Outcome.next (t.baysHeeled.withQueue s.pending)) hstates

theorem exec_hubIslandWrite_refused (v : Nat) (s : State) (hv : v < 2 ^ 32) (hnew : ∃ d < 4, s.island d ≠ bits v (2 * d) 2)
    (hbad : s.units ≠ [] ∨ s.dirs ≠ [] ∨ shapeOk (fun d => bits v (2 * d) 2) = false) :
    exec (.hubIslandWrite v) s = .next ((s.cfgErr .HUB 0 [] (R.HUB_ISLAND_HD0_ISL.offset [])).withQueue s.pending) := by
  refine (within_next s _ _ (by simpa using hv)).trans ?_
  rw [if_neg (s.shape_differs v hnew), if_pos (by rcases hbad with h | h | h <;> simp [h])]

/-- After a write of HUB_ISLAND that takes place each die stands in its new island, and an island is DOWN that holds a die of a DOWN one (R31, R32). -/
theorem exec_hubIslandWrite_takes (v : Nat) (s : State) (hv : v < 2 ^ 32) (hunits : s.units = []) (hdirs : s.dirs = [])
    (hreinit : ∀ i < 4, s.rd R.COH_ISL_STATE_STATE 0 [i] ≠ 2) (hoff : ∀ p < 64, s.rdB R.PAR_CFG_ENABLE 0 [p] = false)
    (hshape : shapeOk (fun d => bits v (2 * d) 2) = true) :
    ∃ u, exec (.hubIslandWrite v) s = .next u ∧ (∀ d < 4, u.island d = bits v (2 * d) 2) ∧
      ((∃ d < 4, s.island d ≠ bits v (2 * d) 2) → ∀ i < 4, (u.rd R.COH_ISL_STATE_STATE 0 [i] = 1 ↔
        ∃ d < 4, bits v (2 * d) 2 = i ∧ s.rd R.COH_ISL_STATE_STATE 0 [s.island d] = 1)) := by
  by_cases hnew : ∃ d < 4, s.island d ≠ bits v (2 * d) 2
  · refine ⟨_, exec_hubIslandWrite_reshapes v s hv hunits hdirs hreinit hoff hshape hnew, fun d hd => ?_, fun _ i hi => ?_⟩
    · exact (State.island_baysHeeled _ d).trans (s.island_reshaped _ (fun e => Nat.mod_lt _ (by decide)) d hd)
    · rw [← s.causeTaken_isSome_iff (fun d => bits v (2 * d) 2) i, State.rd_withQueue, State.islState_baysHeeled _ i hi, s.islState_reshaped _ i hi]
      cases (s.causeTaken (fun d => bits v (2 * d) 2) i).isSome <;> simp
  · have hsame : ∀ d < 4, s.island d = bits v (2 * d) 2 := fun d hd => by
      by_contra hne
      exact hnew ⟨d, hd, hne⟩
    exact ⟨s, exec_hubIslandWrite_same v s hv hsame, hsame, fun h => absurd h hnew⟩

/-- Settles O53, from the resets of partitions to the islands. -/
theorem partitionCommandsComplete : Obligations.PartitionCommandsComplete := by
  unfold Obligations.PartitionCommandsComplete
  exact ⟨fun p s hp => within_next s _ _ (by simpa using hp), State.partReset_busy,
    fun p s hp hbusy => ⟨exec_resetBusyClear_over p s hp hbusy, exec_resetBusyClear_waits p s hp⟩, exec_parZero_starts, exec_parZero_inUse,
    fun p s hp _ => exec_parZeroDone_waits p s hp, exec_parZeroDone_over, exec_ctxEnable_free, exec_ctxEnable_ending, exec_ctxDisable,
    exec_hubIslandWrite_takes, exec_hubIslandWrite_refused⟩

end Sys2Proof.Machine
end

section
/-! SUPPORT. The registers of clusters and tiles (R23, R90, R91, R94): which of them a write leaves alone. -/

namespace Sys2Proof.Machine

/-- Fields of TIL_STATUS, TIL_FAULT and the counters of a tile (R94). -/
def tilFlds : List Fld :=
  [R.TIL_STATUS_STATE, R.TIL_FAULT_CODE, R.TIL_FAULT_OPCODE, R.TIL_FAULT_INDEX, R.TIL_FAULT_INFO, R.TIL_PERF_CUBE, R.TIL_PERF_VEC]

/-- Fields of a cluster's own registers (R91 to R93). -/
def cluFlds : List Fld :=
  [R.CLU_STATUS_STATE, R.CLU_STATUS_PARTITION, R.CLU_STATUS_CONTEXT, R.CLU_STATUS_TILE_MASK, R.CLU_UNIT_RING, R.CLU_UNIT_INDEX, R.CLU_CTRL_PERF_ENABLE,
   R.CLU_FAULT_VALID, R.CLU_FAULT_TILE, R.CLU_FAULT_CODE, R.CLU_FAULT_INDEX, R.CLU_PERF_CUBE, R.CLU_PERF_TOKEN, R.CLU_PERF_CREDIT, R.CLU_PERF_FETCH,
   R.CLU_PERF_UNITS, R.CLU_DBG_ADDR_SPACE, R.CLU_DBG_ADDR_TILE, R.CLU_DBG_ADDR_OFFSET]

/-- The place of a field within its tile's or cluster's registers, in bits. -/
def Fld.inTile (f : Fld) : Nat := (8 * f.base + f.lo) % 2 ^ 11
def Fld.inCluster (f : Fld) : Nat := (8 * f.base + f.lo) % 2 ^ 19

theorem key_of_mem_tilFlds {f : Fld} (hf : f ∈ tilFlds) (t : Nat) :
    f.key (tilDie t) (tilIx t) = t / 2048 * 2 ^ 29 + (2 ^ 27 + 2 ^ 15) + t / 16 % 128 * 2 ^ 19 + t % 16 * 2 ^ 11 + f.inTile := by
  simp only [tilFlds, List.mem_cons, List.not_mem_nil, or_false] at hf
  rcases hf with rfl | rfl | rfl | rfl | rfl | rfl | rfl <;>
    simp only [Fld.key, Fld.offset, tilDie, tilIx, strideSum, Fld.inTile, R.TIL_STATUS_STATE, R.TIL_FAULT_CODE, R.TIL_FAULT_OPCODE, R.TIL_FAULT_INDEX,
      R.TIL_FAULT_INFO, R.TIL_PERF_CUBE, R.TIL_PERF_VEC] <;> omega

theorem key_of_mem_cluFlds {f : Fld} (hf : f ∈ cluFlds) (c : Nat) :
    f.key (cluDie c) (cluIx c) = c / 128 * 2 ^ 29 + 2 ^ 27 + c % 128 * 2 ^ 19 + f.inCluster := by
  have hplace : ∀ f ∈ cluFlds, f.dims = [(128, 0x10000)] ∧ 8 * f.base + f.lo = 2 ^ 27 + f.inCluster := by decide
  obtain ⟨hdims, hbase⟩ := hplace f hf
  simp only [Fld.key, Fld.offset, cluDie, cluIx, hdims, strideSum]
  omega

theorem inTile_lt (f : Fld) : f.inTile < 2 ^ 11 := Nat.mod_lt _ (by decide)

theorem inTile_inj : ∀ f ∈ tilFlds, ∀ g ∈ tilFlds, f.inTile = g.inTile → f = g := by decide

theorem inCluster_lt : ∀ f ∈ cluFlds, f.inCluster < 2 ^ 15 := by decide

theorem inCluster_inj : ∀ f ∈ cluFlds, ∀ g ∈ cluFlds, f.inCluster = g.inCluster → f = g := by decide

section
variable (s : State)

@[simp] theorem State.rdTil_wrTil_same (f : Fld) (t v : Nat) : (s.wrTil f t v).rdTil f t = v % 2 ^ f.width := s.rd_wr_same f _ _ v

@[simp] theorem State.rdClu_wrClu_same (f : Fld) (c v : Nat) : (s.wrClu f c v).rdClu f c = v % 2 ^ f.width := s.rd_wr_same f _ _ v

/-- A write of one field of a tile leaves every other field of every tile alone. -/
theorem State.rdTil_wrTil_ne {f g : Fld} (hf : f ∈ tilFlds) (hg : g ∈ tilFlds) (h : g ≠ f) (t u v : Nat) : (s.wrTil f t v).rdTil g u = s.rdTil g u := by
  refine s.rd_wr_ne f g _ _ _ _ v (fun heq => h (inTile_inj g hg f hf ?_))
  rw [key_of_mem_tilFlds hf, key_of_mem_tilFlds hg] at heq
  have := inTile_lt f
  have := inTile_lt g
  omega

/-- It leaves every other tile alone. -/
theorem State.rdTil_wrTil_other {f g : Fld} (hf : f ∈ tilFlds) (hg : g ∈ tilFlds) {t u : Nat} (h : u ≠ t) (v : Nat) :
    (s.wrTil f t v).rdTil g u = s.rdTil g u := by
  refine s.rd_wr_ne f g _ _ _ _ v (fun heq => h ?_)
  rw [key_of_mem_tilFlds hf, key_of_mem_tilFlds hg] at heq
  have := inTile_lt f
  have := inTile_lt g
  omega

theorem State.rdClu_wrClu_ne {f g : Fld} (hf : f ∈ cluFlds) (hg : g ∈ cluFlds) (h : g ≠ f) (c e v : Nat) : (s.wrClu f c v).rdClu g e = s.rdClu g e := by
  refine s.rd_wr_ne f g _ _ _ _ v (fun heq => h (inCluster_inj g hg f hf ?_))
  rw [key_of_mem_cluFlds hf, key_of_mem_cluFlds hg] at heq
  have := inCluster_lt f hf
  have := inCluster_lt g hg
  omega

theorem State.rdClu_wrClu_other {f g : Fld} (hf : f ∈ cluFlds) (hg : g ∈ cluFlds) {c e : Nat} (h : e ≠ c) (v : Nat) :
    (s.wrClu f c v).rdClu g e = s.rdClu g e := by
  refine s.rd_wr_ne f g _ _ _ _ v (fun heq => h ?_)
  rw [key_of_mem_cluFlds hf, key_of_mem_cluFlds hg] at heq
  have := inCluster_lt f hf
  have := inCluster_lt g hg
  omega

theorem key_clu_ne_til {f g : Fld} (hf : f ∈ cluFlds) (hg : g ∈ tilFlds) (c t : Nat) : f.key (cluDie c) (cluIx c) ≠ g.key (tilDie t) (tilIx t) := by
  rw [key_of_mem_cluFlds hf, key_of_mem_tilFlds hg]
  have := inCluster_lt f hf
  have := inTile_lt g
  omega

/-- Tiles' registers and their clusters' stand apart. -/
theorem State.rdTil_wrClu {f g : Fld} (hf : f ∈ cluFlds) (hg : g ∈ tilFlds) (c t v : Nat) : (s.wrClu f c v).rdTil g t = s.rdTil g t :=
  s.rd_wr_ne f g _ _ _ _ v (key_clu_ne_til hf hg c t).symm

theorem State.rdClu_wrTil {f g : Fld} (hf : f ∈ tilFlds) (hg : g ∈ cluFlds) (t c v : Nat) : (s.wrTil f t v).rdClu g c = s.rdClu g c :=
  s.rd_wr_ne f g _ _ _ _ v (key_clu_ne_til hg hf c t)

@[simp] theorem State.tile_wrTil (f : Fld) (t v u : Nat) : (s.wrTil f t v).tile u = s.tile u := rfl
@[simp] theorem State.clu_wrTil (f : Fld) (t v c : Nat) : (s.wrTil f t v).clu c = s.clu c := rfl
@[simp] theorem State.tile_wrClu (f : Fld) (c v t : Nat) : (s.wrClu f c v).tile t = s.tile t := rfl
@[simp] theorem State.clu_wrClu (f : Fld) (c v e : Nat) : (s.wrClu f c v).clu e = s.clu e := rfl
@[simp] theorem State.rdTil_setTile (f : Fld) (t u : Nat) (x : Tile) : (s.setTile u x).rdTil f t = s.rdTil f t := rfl
@[simp] theorem State.rdTil_setClu (f : Fld) (t c : Nat) (x : Cluster) : (s.setClu c x).rdTil f t = s.rdTil f t := rfl
@[simp] theorem State.rdClu_setTile (f : Fld) (c u : Nat) (x : Tile) : (s.setTile u x).rdClu f c = s.rdClu f c := rfl
@[simp] theorem State.rdClu_setClu (f : Fld) (c e : Nat) (x : Cluster) : (s.setClu e x).rdClu f c = s.rdClu f c := rfl
@[simp] theorem State.rdTil_withQueue (f : Fld) (t : Nat) (q : List Instr) : (s.withQueue q).rdTil f t = s.rdTil f t := rfl
@[simp] theorem State.rdClu_withQueue (f : Fld) (c : Nat) (q : List Instr) : (s.withQueue q).rdClu f c = s.rdClu f c := rfl

end

end Sys2Proof.Machine
end

section
/-! SUPPORT. The control unit at the head of issue (R69, R137): when a tile's next command issues, waits or faults, and what issue consumes. -/

namespace Sys2Proof.Machine

/-! ### The rows of R144 -/

/-- The row of an opcode is the control unit looking at the head of issue for that opcode alone. -/
theorem exec_tileRow {c : Instr} {t op : Nat} (h : tileRow c = some (t, op)) (s : State) : exec c s = within s (tileOk t) (s.issue t (· == op)) := by
  unfold tileRow at h
  split at h
  case h_56 => cases h
  all_goals
    cases h
    rfl

theorem knownOp_of_tileRow {c : Instr} {t op : Nat} (h : tileRow c = some (t, op)) : knownOp op = true := by
  unfold tileRow at h
  split at h
  case h_56 => cases h
  all_goals
    cases h
    decide

theorem exec_tileRow_next {c : Instr} {t op : Nat} (h : tileRow c = some (t, op)) (s : State) (ht : t < 8192) :
    exec c s = .next ((s.issue t (· == op)).withQueue s.pending) := by
  rw [exec_tileRow h]
  exact within_next s _ _ (by simpa [tileOk] using ht)

/-! ### Fetch -/

theorem Tile.fetch_held (x : Tile) (b : Cluster) (k w : Nat) (h : SMap.look x.prefetch k = some w) : x.fetch b k = x := by simp [Tile.fetch, h]

theorem Tile.fetch_unwritten (x : Tile) (b : Cluster) (k : Nat) (h : x.written ≤ k) : x.fetch b k = x := by simp [Tile.fetch, h]

/-- A fetch changes the prefetch buffer alone. -/
theorem Tile.fetch_frame (x : Tile) (b : Cluster) (k : Nat) : ∃ p, x.fetch b k = { x with prefetch := p } := by
  unfold Tile.fetch
  split
  · exact ⟨x.prefetch, rfl⟩
  · exact ⟨_, rfl⟩

/-! ### The first failed check, or the first unmet condition -/

/-- What the control unit makes of a command whose entries it holds (`second`: the second word if it is there, 0 for a command of one entry). -/
def State.judge (s : State) (t op w0 : Nat) (second : Option Nat) : State :=
  let x := s.tile t
  match issueFault (s.rdClu R.CLU_STATUS_TILE_MASK (t / 16)) (s.clu (t / 16)).ringRegion x op w0 (second.getD (plainWord op))
      ((List.range 3).map (fun k => x.loopIdx.off (idxOf w0 k))) with
  | some (code, info) => (s.setTile t x).tileFault t code op (x.head % x.ringSize) info
  | none =>
    match second with
    | none => (s.setTile t x).wrTil R.TIL_STATUS_STATE t 5
    | some w1 =>
      match waitState x op w0 (waitsOf (syncWord op w0 w1)) with
      | some st => (s.setTile t x).wrTil R.TIL_STATUS_STATE t st
      | none => s.issueNow t op w0 w1 x

/-- The second word of a command: none while its entry is not in the prefetch buffer. -/
def secondWord (x : Tile) (w0 : Nat) : Option Nat := if entriesOf w0 = 2 then SMap.look x.prefetch (x.head + 1) else some 0

theorem State.issue_held (s : State) (t op w0 : Nat) (hi : s.issues t = true) (h0 : SMap.look (s.tile t).prefetch (s.tile t).head = some w0)
    (hop : opcodeOf w0 = op) (hk : knownOp op = true)
    (h1 : entriesOf w0 = 2 → (SMap.look (s.tile t).prefetch ((s.tile t).head + 1)).isSome ∨ (s.tile t).written ≤ (s.tile t).head + 1) :
    s.issue t (· == op) = s.judge t op w0 (secondWord (s.tile t) w0) := by
  have hfetch : (if entriesOf w0 = 2 then (s.tile t).fetch (s.clu (t / 16)) ((s.tile t).head + 1) else s.tile t) = s.tile t := by
    split
    · next h2 =>
      rcases h1 h2 with h | h
      · obtain ⟨w, hw⟩ := Option.isSome_iff_exists.1 h
        exact Tile.fetch_held _ _ _ w hw
      · exact Tile.fetch_unwritten _ _ _ h
    · rfl
  unfold State.issue State.judge secondWord
  simp only [hi, Tile.fetch_held _ _ _ w0 h0, h0, hop, hfetch, hk, Bool.not_true, Bool.false_eq_true, if_false, beq_self_eq_true, Bool.and_true,
    decide_eq_true_eq] <;>
  rfl

theorem State.issue_held_second (s : State) (t op w0 w1 : Nat) (hi : s.issues t = true) (h0 : SMap.look (s.tile t).prefetch (s.tile t).head = some w0)
    (hop : opcodeOf w0 = op) (hk : knownOp op = true)
    (h1 : if entriesOf w0 = 2 then SMap.look (s.tile t).prefetch ((s.tile t).head + 1) = some w1 else w1 = 0) :
    s.issue t (· == op) = s.judge t op w0 (some w1) := by
  have hsecond : secondWord (s.tile t) w0 = some w1 := by
    unfold secondWord
    split at h1 <;> simp_all
  rw [← hsecond]
  refine s.issue_held t op w0 hi h0 hop hk (fun h2 => .inl ?_)
  rw [if_pos h2] at h1
  simp [h1]

theorem State.judge_faults (s : State) (t op w0 code info : Nat) (second : Option Nat)
    (h : issueFault (s.rdClu R.CLU_STATUS_TILE_MASK (t / 16)) (s.clu (t / 16)).ringRegion (s.tile t) op w0 (second.getD (plainWord op))
      ((List.range 3).map (fun k => (s.tile t).loopIdx.off (idxOf w0 k))) = some (code, info)) :
    s.judge t op w0 second = (s.setTile t (s.tile t)).tileFault t code op ((s.tile t).head % (s.tile t).ringSize) info := by
  simp only [State.judge, h]

theorem State.judge_waits (s : State) (t op w0 w1 st : Nat)
    (h : issueFault (s.rdClu R.CLU_STATUS_TILE_MASK (t / 16)) (s.clu (t / 16)).ringRegion (s.tile t) op w0 w1
      ((List.range 3).map (fun k => (s.tile t).loopIdx.off (idxOf w0 k))) = none)
    (hw : waitState (s.tile t) op w0 (waitsOf (syncWord op w0 w1)) = some st) :
    s.judge t op w0 (some w1) = (s.setTile t (s.tile t)).wrTil R.TIL_STATUS_STATE t st := by
  simp only [State.judge, Option.getD_some, h, hw]

/-- A command outside R144 fails its first check. -/
theorem issueFault_unknown (mask region : Nat) (x : Tile) (op w0 w1 : Nat) (off : List Int) (h : knownOp op = false) :
    issueFault mask region x op w0 w1 off = some (1, 0) := by
  simp [issueFault, h]

theorem knownOp_of_issueFault_none {mask region : Nat} {x : Tile} {op w0 w1 : Nat} {off : List Int} (h : issueFault mask region x op w0 w1 off = none) :
    knownOp op = true := by
  cases hk : knownOp op with
  | true => rfl
  | false => simp [issueFault, hk] at h

/-- The next command issues where all its conditions hold. -/
theorem State.issue_ready {s : State} {t op w0 w1 : Nat} (h : HeadReady s t op w0 w1) : s.issue t (· == op) = s.issueNow t op w0 w1 (s.tile t) := by
  obtain ⟨-, hi, h0, hop, h1, hf, hw⟩ := h
  rw [s.issue_held_second t op w0 w1 hi h0 hop (knownOp_of_issueFault_none hf) h1]
  simp only [State.judge, Option.getD_some, hf, hw]

theorem tile_lt_of_headReady {s : State} {t op w0 w1 : Nat} (h : HeadReady s t op w0 w1) : t < 8192 := h.1

theorem opcode_of_headReady {s : State} {t op w0 w1 : Nat} (h : HeadReady s t op w0 w1) : opcodeOf w0 = op := by
  obtain ⟨-, -, -, hop, -⟩ := h
  exact hop

theorem exec_ready {c : Instr} {s : State} {t op w0 w1 : Nat} (hc : tileRow c = some (t, op)) (h : HeadReady s t op w0 w1) :
    exec c s = .next ((s.issueNow t op w0 w1 (s.tile t)).withQueue s.pending) := by
  rw [exec_tileRow_next hc s (tile_lt_of_headReady h), State.issue_ready h]

/-- The states in which a command waits for its conditions (R95). -/
theorem waitState_mem {x : Tile} {op w0 st : Nat} {ws : List (Nat × Nat)} (h : waitState x op w0 ws = some st) : st ∈ [2, 3, 4, 6] := by
  simp only [waitState] at h
  split at h
  · cases h; simp
  · split at h
    · cases h; simp
    · split at h
      · cases h; simp
      · split at h
        · cases h; simp
        · cases h

/-! ### What issue consumes (R137, R142) -/

/-- Taking a command's waits changes the tokens alone. -/
theorem Tile.setTokens_frame (ws : List (Nat × Nat)) (x : Tile) :
    ∃ k, ws.foldl (fun (x : Tile) w => x.setToken w.1 (x.token w.1 - w.2)) x = { x with tok := k } := by
  induction ws generalizing x with
  | nil => exact ⟨x.tok, rfl⟩
  | cons w ws ih =>
    obtain ⟨k, hk⟩ := ih (x.setToken w.1 (x.token w.1 - w.2))
    exact ⟨k, hk⟩

/-- No token rises. -/
theorem Tile.token_setTokens_le (ws : List (Nat × Nat)) (x : Tile) (k : Nat) :
    (ws.foldl (fun (x : Tile) w => x.setToken w.1 (x.token w.1 - w.2)) x).token k ≤ x.token k := by
  induction ws generalizing x with
  | nil => exact Nat.le_refl _
  | cons w ws ih =>
    refine (ih _).trans ?_
    by_cases h : k = w.1
    · subst h
      simp [Tile.token, Tile.setToken]
    · exact (SMap.get_put_ne 0 x.tok _ h).le

theorem consume_frame (x : Tile) (op w0 : Nat) (ws : List (Nat × Nat)) : ∃ k o i, consume x op w0 ws = { x with tok := k, outs := o, ins := i } := by
  obtain ⟨k, hk⟩ := Tile.setTokens_frame ws x
  unfold consume
  rw [hk]
  dsimp only
  split
  · exact ⟨k, _, x.ins, rfl⟩
  · split
    · exact ⟨k, x.outs, _, rfl⟩
    · exact ⟨k, x.outs, x.ins, rfl⟩

theorem token_consume_le (x : Tile) (op w0 k : Nat) (ws : List (Nat × Nat)) : (consume x op w0 ws).token k ≤ x.token k := by
  refine Nat.le_trans (Nat.le_of_eq ?_) (Tile.token_setTokens_le ws x k)
  unfold consume
  dsimp only
  split
  · rfl
  · split <;> rfl

/-- A SEND takes its credits. -/
theorem outCh_consume_send (x : Tile) (w0 : Nat) (ws : List (Nat × Nat)) : (consume x 0x28 w0 ws).outCh (bits w0 47 3) =
    { x.outCh (bits w0 47 3) with credits := (x.outCh (bits w0 47 3)).credits - bits w0 29 7 } := by
  obtain ⟨k, hk⟩ := Tile.setTokens_frame ws x
  simp only [consume, hk]
  exact SMap.get_put_same _ _ _ _

/-- A RECV reserves its slots. -/
theorem inCh_consume_recv (x : Tile) (w0 : Nat) (ws : List (Nat × Nat)) : (consume x 0x29 w0 ws).inCh (bits w0 47 3) =
    { x.inCh (bits w0 47 3) with reserved := (x.inCh (bits w0 47 3)).reserved + bits w0 29 7 } := by
  obtain ⟨k, hk⟩ := Tile.setTokens_frame ws x
  simp only [consume, hk]
  exact SMap.get_put_same _ _ _ _

/-- Issue changes what it consumes, the loop frames, the head and the number of the next command. -/
theorem Tile.afterIssue_frame (x : Tile) (op w0 w1 : Nat) : ∃ k o i h l,
    x.afterIssue op w0 w1 = { x with tok := k, outs := o, ins := i, head := h, loops := l, nextSeq := x.nextSeq + 1 } := by
  obtain ⟨k, o, i, hc⟩ := consume_frame x op w0 (waitsOf (syncWord op w0 w1))
  simp only [Tile.afterIssue, hc]
  exact ⟨k, o, i, _, _, rfl⟩

section
variable (x : Tile) (op w0 w1 : Nat)

@[simp] theorem Tile.afterIssue_mem : (x.afterIssue op w0 w1).mem = x.mem := by obtain ⟨k, o, i, h, l, he⟩ := x.afterIssue_frame op w0 w1; rw [he]
@[simp] theorem Tile.afterIssue_fill : (x.afterIssue op w0 w1).fill = x.fill := by obtain ⟨k, o, i, h, l, he⟩ := x.afterIssue_frame op w0 w1; rw [he]
@[simp] theorem Tile.afterIssue_cmds : (x.afterIssue op w0 w1).cmds = x.cmds := by obtain ⟨k, o, i, h, l, he⟩ := x.afterIssue_frame op w0 w1; rw [he]
@[simp] theorem Tile.afterIssue_abr : (x.afterIssue op w0 w1).abr = x.abr := by obtain ⟨k, o, i, h, l, he⟩ := x.afterIssue_frame op w0 w1; rw [he]
@[simp] theorem Tile.afterIssue_shapes : (x.afterIssue op w0 w1).shapes = x.shapes := by
  obtain ⟨k, o, i, h, l, he⟩ := x.afterIssue_frame op w0 w1
  rw [he]

end

theorem Tile.token_afterIssue_le (x : Tile) (op w0 w1 k : Nat) : (x.afterIssue op w0 w1).token k ≤ x.token k :=
  token_consume_le x op w0 k (waitsOf (syncWord op w0 w1))

/-- END closes every loop. -/
theorem Tile.loops_afterIssue_end (x : Tile) (w0 w1 : Nat) : (x.afterIssue 0x02 w0 w1).loops = [] := by
  simp [Tile.afterIssue, loopBack]

/-- LOOP opens a frame whose body follows its two entries (R141, R142). -/
theorem Tile.afterIssue_loop (x : Tile) (w0 w1 : Nat) (hop : opcodeOf w0 = 0x03) : (x.afterIssue 0x03 w0 w1).head = x.head + 2 ∧
    (x.afterIssue 0x03 w0 w1).loops = ⟨x.head + 2, x.head + 1 + bits w0 22 12, bits w0 34 16 + 1, signed 16 (bits w1 48 16), signed 16 (bits w1 32 16),
      bits w1 24 8, 0⟩ :: x.loops := by
  obtain ⟨k, o, i, hc⟩ := consume_frame x 0x03 w0 (waitsOf (syncWord 0x03 w0 w1))
  have hlong : entriesOf w0 = 2 := by simp [entriesOf, hop, fixedLong]
  simp [Tile.afterIssue, hc, hlong]

end Sys2Proof.Machine
end

section
/-! SUPPORT. Signals on their way (R57, R58, R136), and the control unit's own commands (R141, R142, R145, R146). -/

namespace Sys2Proof.Machine

/-- What signals bring a counter to. -/
def incs (l : List Sig) : Nat := (l.map (fun g => g.inc)).sum

theorem foldl_inc_eq (l : List Sig) (n : Nat) : l.foldl (fun n g => n + g.inc) n = n + incs l := by
  induction l generalizing n with
  | nil => rfl
  | cons g l ih =>
    simp only [List.foldl_cons, ih, incs, List.map_cons, List.sum_cons]
    omega

/-- The signals on their way to a counter of the tile's present unit. -/
def State.sigsTo (s : State) (t k : Nat) : List Sig := s.sigs.filter (fun g => g.tile == t && g.tok == k && g.uid == s.unitOfTile t)

theorem State.tokenDue_eq (s : State) (t k : Nat) : s.tokenDue t k = (s.tile t).token k + incs (s.sigsTo t k) := foldl_inc_eq _ _

/-- A counter comes to no more where no token has risen. -/
theorem State.tokenDue_le {s u : State} (hsigs : u.sigs = s.sigs) (hclu : u.clusters = s.clusters) {t k : Nat}
    (htok : (u.tile t).token k ≤ (s.tile t).token k) : u.tokenDue t k ≤ s.tokenDue t k := by
  have hto : u.sigsTo t k = s.sigsTo t k := by simp only [State.sigsTo, State.unitOfTile, State.clu, hsigs, hclu]
  rw [State.tokenDue_eq, State.tokenDue_eq, hto]
  exact Nat.add_le_add_right htok _

/-- Signals that fit still fit where no token has risen. -/
theorem SignalsFit_of_le {s u : State} (hsigs : u.sigs = s.sigs) (hclu : u.clusters = s.clusters)
    (htok : ∀ v k, (u.tile v).token k ≤ (s.tile v).token k) (t : Nat) (sg : List (Nat × Nat × Nat)) (h : SignalsFit s t sg) : SignalsFit u t sg := by
  have hdue : ∀ v k, u.tokenDue v k ≤ s.tokenDue v k := fun v k => State.tokenDue_le hsigs hclu (htok v k)
  match sg with
  | [] => trivial
  | [a] => exact (Nat.add_le_add_right (hdue _ _) _).trans h
  | a :: b :: _ =>
    refine ⟨(Nat.add_le_add_right (hdue _ _) _).trans h.1, le_trans ?_ h.2⟩
    exact Nat.add_le_add_right (Nat.add_le_add_right (hdue _ _) _) _

/-- One more signal on its way to a tile of the cluster counts at its own counter alone. -/
theorem State.tokenDue_sig (s : State) (t i k j inc l : Nat) (hj : j < 16) :
    ({ s with sigs := s.sigs ++ [⟨t / 16 * 16 + i, k, inc, s.unitOfTile t⟩] } : State).tokenDue (t / 16 * 16 + j) l =
      s.tokenDue (t / 16 * 16 + j) l + (if i = j ∧ k = l then inc else 0) := by
  have hunit : s.unitOfTile (t / 16 * 16 + j) = s.unitOfTile t := by
    unfold State.unitOfTile
    rw [show (t / 16 * 16 + j) / 16 = t / 16 by omega]
  rw [State.tokenDue_eq, State.tokenDue_eq, Nat.add_assoc]
  refine congrArg _ ?_
  show incs ((s.sigs ++ [_]).filter (fun g => g.tile == t / 16 * 16 + j && g.tok == l && g.uid == s.unitOfTile (t / 16 * 16 + j))) = _
  rw [List.filter_append, List.filter_singleton]
  by_cases heq : i = j ∧ k = l
  · obtain ⟨rfl, rfl⟩ := heq
    simp [incs, State.sigsTo, hunit]
  · have hoff : (t / 16 * 16 + i == t / 16 * 16 + j && k == l) = false := by
      rw [Bool.and_eq_false_iff, beq_eq_false_iff_ne, beq_eq_false_iff_ne]
      by_cases hij : i = j
      · exact .inr (fun hkl => heq ⟨hij, hkl⟩)
      · exact .inl (by omega)
    simp [incs, State.sigsTo, heq, hoff]

/-- Signals that fit all go on their way, and nothing else happens. -/
theorem State.signal_fits (s : State) (t op index : Nat) (sg : List (Nat × Nat × Nat)) (hlen : sg.length ≤ 2) (hsmall : ∀ g ∈ sg, g.1 < 16)
    (h : SignalsFit s t sg) : s.signal t op index sg =
      { s with sigs := s.sigs ++ sg.map (fun g => ⟨t / 16 * 16 + g.1, g.2.1, g.2.2, s.unitOfTile t⟩) } := by
  match sg with
  | [] => simp [State.signal]
  | [a] =>
    have ha : ¬255 < s.tokenDue (t / 16 * 16 + a.1) a.2.1 + a.2.2 := Nat.not_lt.2 h
    simp [State.signal, ha]
  | [a, b] =>
    have ha : ¬255 < s.tokenDue (t / 16 * 16 + a.1) a.2.1 + a.2.2 := Nat.not_lt.2 h.1
    have hb := s.tokenDue_sig t a.1 a.2.1 b.1 a.2.2 b.2.1 (hsmall b (by simp))
    have hb' : ¬255 < s.tokenDue (t / 16 * 16 + b.1) b.2.1 + (if a.1 = b.1 ∧ a.2.1 = b.2.1 then a.2.2 else 0) + b.2.2 := Nat.not_lt.2 h.2
    have hunit : ∀ l, ({ s with sigs := l } : State).unitOfTile t = s.unitOfTile t := fun _ => rfl
    simp [State.signal, ha, hb, hb', hunit]
  | _ :: _ :: _ :: _ => simp at hlen

theorem length_signalsOf_le (y : Nat) : (signalsOf y).length ≤ 2 := by
  unfold signalsOf
  split <;> split <;> simp

theorem bits_lt (v lo w : Nat) : bits v lo w < 2 ^ w := Nat.mod_lt _ (Nat.two_pow_pos w)

theorem signalsOf_small (y : Nat) : ∀ g ∈ signalsOf y, g.1 < 16 := by
  intro g hg
  unfold signalsOf at hg
  rcases List.mem_append.1 hg with h | h <;> split at h <;> simp at h <;> subst h <;> exact bits_lt _ _ 4

/-- The signals of a command's sync word. -/
theorem State.signalsOf_fits {s : State} {t y : Nat} (op index : Nat) (h : SignalsFit s t (signalsOf y)) : s.signal t op index (signalsOf y) =
    { s with sigs := s.sigs ++ (signalsOf y).map (fun g => ⟨t / 16 * 16 + g.1, g.2.1, g.2.2, s.unitOfTile t⟩) } :=
  s.signal_fits t op index _ (length_signalsOf_le y) (signalsOf_small y) h

/-! ### The end of a tile's part (R73, R95) -/

/-- Settling writes TIL_STATUS at most. -/
theorem State.settle_frame (s : State) (t : Nat) : ∃ r, s.settle t = { s with regs := r } := by
  unfold State.settle
  split
  · exact ⟨_, rfl⟩
  · exact ⟨s.regs, rfl⟩

theorem State.tile_settle (s : State) (t u : Nat) : (s.settle t).tile u = s.tile u := by
  obtain ⟨r, hr⟩ := s.settle_frame t
  rw [hr]
  rfl

theorem State.status_settle (s : State) (t : Nat) :
    (s.settle t).rdTil R.TIL_STATUS_STATE t = if s.rdTil R.TIL_STATUS_STATE t = 7 ∧ (s.tile t).cmds = [] then 8 else s.rdTil R.TIL_STATUS_STATE t := by
  unfold State.settle
  split
  · exact s.rdTil_wrTil_same _ _ _
  · rfl

/-! ### NOP, TOKEN, END and LOOP -/

/-- The tile is as issue leaves it, before the signals go. -/
def State.controlIssued (s : State) (t op w0 w1 : Nat) : State :=
  (s.wrTil R.TIL_STATUS_STATE t (if op = 0x02 then 7 else 1)).setTile t ((s.tile t).afterIssue op w0 w1)

theorem State.token_controlIssued_le (s : State) (t op w0 w1 v k : Nat) : ((s.controlIssued t op w0 w1).tile v).token k ≤ (s.tile v).token k := by
  unfold State.controlIssued
  by_cases h : v = t
  · subst h
    rw [State.tile_setTile_same]
    exact (s.tile v).token_afterIssue_le op w0 w1 k
  · rw [State.tile_setTile_ne _ _ _ _ h]
    exact Nat.le_refl _

/-- A command of the control unit is over with its issue: its signals go on their way. -/
theorem State.issueNow_control {s : State} {t op w0 w1 : Nat} (hop : unitOf op = 0) (hfit : SignalsFit s t (signalsOf (syncWord op w0 w1))) :
    s.issueNow t op w0 w1 (s.tile t) = ({ s.controlIssued t op w0 w1 with
      sigs := s.sigs ++ (signalsOf (syncWord op w0 w1)).map (fun g => ⟨t / 16 * 16 + g.1, g.2.1, g.2.2, s.unitOfTile t⟩) } : State).settle t := by
  have hfit' : SignalsFit (s.controlIssued t op w0 w1) t (signalsOf (syncWord op w0 w1)) :=
    SignalsFit_of_le (s := s) (u := s.controlIssued t op w0 w1) rfl rfl (s.token_controlIssued_le t op w0 w1) t _ hfit
  unfold State.issueNow
  rw [if_pos hop]
  exact congrArg (State.settle · t) (State.signalsOf_fits _ _ hfit')

theorem State.control_completes {s : State} {t op w0 w1 : Nat} (hop : unitOf op = 0) (hfit : SignalsFit s t (signalsOf (syncWord op w0 w1))) :
    (s.issueNow t op w0 w1 (s.tile t)).tile t = (s.tile t).afterIssue op w0 w1 ∧
    (s.issueNow t op w0 w1 (s.tile t)).sigs =
      s.sigs ++ (signalsOf (syncWord op w0 w1)).map (fun g => ⟨t / 16 * 16 + g.1, g.2.1, g.2.2, s.unitOfTile t⟩) ∧
    (s.issueNow t op w0 w1 (s.tile t)).rdTil R.TIL_STATUS_STATE t = (if op = 2 then (if (s.tile t).cmds = [] then 8 else 7) else 1) := by
  rw [State.issueNow_control hop hfit]
  have htile : ((s.controlIssued t op w0 w1).tile t) = (s.tile t).afterIssue op w0 w1 := State.tile_setTile_same _ _ _
  refine ⟨(State.tile_settle _ _ _).trans htile, ?_, ?_⟩
  · obtain ⟨r, hr⟩ := State.settle_frame _ t
    rw [hr]
  · have hstatus : (s.controlIssued t op w0 w1).rdTil R.TIL_STATUS_STATE t = if op = 2 then 7 else 1 := by
      refine (s.rdTil_wrTil_same _ _ _).trans ?_
      split <;> rfl
    rw [State.status_settle]
    show (if (s.controlIssued t op w0 w1).rdTil R.TIL_STATUS_STATE t = 7 ∧ ((s.controlIssued t op w0 w1).tile t).cmds = [] then 8
      else (s.controlIssued t op w0 w1).rdTil R.TIL_STATUS_STATE t) = _
    rw [hstatus, htile, Tile.afterIssue_cmds]
    by_cases h2 : op = 2 <;> simp [h2]

/-- Settles O11: the control unit's commands complete in their issue TCLK. -/
theorem tileControlCommandsComplete : Obligations.TileControlCommandsComplete := by
  unfold Obligations.TileControlCommandsComplete
  refine ⟨fun p hp t w0 w1 s hr hfit => ?_, fun t w0 w1 s hr hfit => ?_, fun t w0 w1 s hr hfit => ?_⟩
  · have hrow : tileRow (p.1 t) = some (t, p.2) ∧ unitOf p.2 = 0 := by
      simp only [List.mem_cons, List.not_mem_nil, or_false] at hp
      rcases hp with rfl | rfl | rfl | rfl <;> exact ⟨rfl, rfl⟩
    exact ⟨_, exec_ready hrow.1 hr, State.control_completes hrow.2 hfit⟩
  · obtain ⟨htile, -, -⟩ := State.control_completes rfl hfit
    refine ⟨_, exec_ready rfl hr, ?_⟩
    rw [State.tile_withQueue, htile]
    exact Tile.loops_afterIssue_end _ _ _
  · obtain ⟨htile, -, -⟩ := State.control_completes rfl hfit
    refine ⟨_, exec_ready rfl hr, ?_⟩
    rw [State.tile_withQueue, htile]
    exact Tile.afterIssue_loop _ _ _ (opcode_of_headReady hr)

end Sys2Proof.Machine
end

section
/-! SUPPORT. Faults of a tile (R74 to R76, R172): what is recorded and what the tile keeps. -/

namespace Sys2Proof.Machine

section
variable (s : State)

/-- A tile that stops loses its commands and its loop frames, its requests and its misses; TIL_STATUS shows its state. -/
theorem State.stopTile_frame (t st : Nat) : ∃ x m, s.stopTile t st =
    ({ s.setTile t { s.tile t with cmds := [], loops := [] } with xfers := x, misses := m } : State).wrTil R.TIL_STATUS_STATE t st :=
  ⟨_, _, rfl⟩

/-- The fault registers of a tile (R76). -/
def State.faultShown (t code op index info : Nat) : State :=
  (((s.wrTil R.TIL_FAULT_CODE t code).wrTil R.TIL_FAULT_OPCODE t op).wrTil R.TIL_FAULT_INDEX t index).wrTil R.TIL_FAULT_INFO t info

/-- The first fault of a cluster (R76). -/
def State.faultFirst (t code index : Nat) : State :=
  let c := t / 16
  if s.rdClu R.CLU_FAULT_VALID c = 1 then s
  else (((s.wrClu R.CLU_FAULT_VALID c 1).wrClu R.CLU_FAULT_TILE c (t % 16)).wrClu R.CLU_FAULT_CODE c code).wrClu R.CLU_FAULT_INDEX c index

def State.withUnits (us : List WUnit) : State := { s with units := us }

@[simp] theorem State.rdTil_withUnits (us : List WUnit) (f : Fld) (t : Nat) : (s.withUnits us).rdTil f t = s.rdTil f t := rfl

/-- A tile fault: the tile stops, its fault is shown, and its unit, if it has one, ends. -/
theorem State.tileFault_eq (t code op index info : Nat) : ∃ us, s.tileFault t code op index info =
    (((s.stopTile t 9).faultShown t code op index info).faultFirst t code index).withUnits us := by
  unfold State.tileFault
  extract_lets s1 s2 c s3
  have h3 : s3 = ((s.stopTile t 9).faultShown t code op index info).faultFirst t code index := rfl
  rw [← h3]
  clear h3
  clear_value s3
  split
  · exact ⟨_, rfl⟩
  · exact ⟨s3.units, rfl⟩

theorem State.faultFirst_frame (t code index : Nat) : ∃ r, s.faultFirst t code index = { s with regs := r } := by
  unfold State.faultFirst
  dsimp only
  split
  · exact ⟨s.regs, rfl⟩
  · exact ⟨_, rfl⟩

theorem State.rdTil_faultFirst {g : Fld} (hg : g ∈ tilFlds) (t code index u : Nat) : (s.faultFirst t code index).rdTil g u = s.rdTil g u := by
  unfold State.faultFirst
  dsimp only
  split
  · rfl
  · rw [State.rdTil_wrClu _ (by decide) hg, State.rdTil_wrClu _ (by decide) hg, State.rdTil_wrClu _ (by decide) hg, State.rdTil_wrClu _ (by decide) hg]

/-- What a faulted tile shows (R74, R76). -/
theorem State.rdTil_faultShown (t code op index info : Nat) :
    (s.faultShown t code op index info).rdTil R.TIL_STATUS_STATE t = s.rdTil R.TIL_STATUS_STATE t ∧
    (s.faultShown t code op index info).rdTil R.TIL_FAULT_CODE t = code % 256 ∧
    (s.faultShown t code op index info).rdTil R.TIL_FAULT_OPCODE t = op % 128 ∧
    (s.faultShown t code op index info).rdTil R.TIL_FAULT_INDEX t = index % 2 ^ R.TIL_FAULT_INDEX.width ∧
    (s.faultShown t code op index info).rdTil R.TIL_FAULT_INFO t = info % 2 ^ R.TIL_FAULT_INFO.width := by
  unfold State.faultShown
  simp (disch := decide) only [State.rdTil_wrTil_ne, State.rdTil_wrTil_same]
  exact ⟨trivial, rfl, rfl, trivial, trivial⟩

theorem State.status_stopTile (t st : Nat) : (s.stopTile t st).rdTil R.TIL_STATUS_STATE t = st % 16 := s.stopTile_frame t st |>.elim fun _ h =>
  h.elim fun _ h => h ▸ State.rdTil_wrTil_same _ _ _ _

/-- A faulted tile is FAULTED and shows the code, the opcode, the ring index and the detail. -/
theorem State.rdTil_tileFault (t code op index info : Nat) :
    (s.tileFault t code op index info).rdTil R.TIL_STATUS_STATE t = 9 ∧
    (s.tileFault t code op index info).rdTil R.TIL_FAULT_CODE t = code % 256 ∧
    (s.tileFault t code op index info).rdTil R.TIL_FAULT_OPCODE t = op % 128 ∧
    (s.tileFault t code op index info).rdTil R.TIL_FAULT_INDEX t = index % 2 ^ R.TIL_FAULT_INDEX.width ∧
    (s.tileFault t code op index info).rdTil R.TIL_FAULT_INFO t = info % 2 ^ R.TIL_FAULT_INFO.width := by
  obtain ⟨us, he⟩ := s.tileFault_eq t code op index info
  have hrd : ∀ g ∈ tilFlds, (s.tileFault t code op index info).rdTil g t = ((s.stopTile t 9).faultShown t code op index info).rdTil g t := by
    intro g hg
    rw [he, State.rdTil_withUnits, State.rdTil_faultFirst _ hg]
  rw [hrd _ (by decide), hrd _ (by decide), hrd _ (by decide), hrd _ (by decide), hrd _ (by decide)]
  obtain ⟨hstate, hshown⟩ := (s.stopTile t 9).rdTil_faultShown t code op index info
  exact ⟨hstate.trans (s.status_stopTile t 9), hshown⟩

/-- What it holds stays, but for its commands and loop frames. -/
theorem State.tile_tileFault (t code op index info : Nat) : (s.tileFault t code op index info).tile t = { s.tile t with cmds := [], loops := [] } := by
  obtain ⟨us, he⟩ := s.tileFault_eq t code op index info
  obtain ⟨r, hr⟩ := ((s.stopTile t 9).faultShown t code op index info).faultFirst_frame t code index
  rw [he, hr]
  exact State.tile_setTile_same _ _ _

theorem State.sigs_tileFault (t code op index info : Nat) : (s.tileFault t code op index info).sigs = s.sigs := by
  obtain ⟨us, he⟩ := s.tileFault_eq t code op index info
  obtain ⟨r, hr⟩ := ((s.stopTile t 9).faultShown t code op index info).faultFirst_frame t code index
  rw [he, hr]
  rfl

end

/-- An opcode outside R144 faults ILLEGAL_OPCODE, whatever follows it. -/
theorem State.issue_illegal {s : State} {t w0 : Nat} (hi : s.issues t = true) (h0 : SMap.look (s.tile t).prefetch (s.tile t).head = some w0)
    (hk : knownOp (opcodeOf w0) = false) : ∃ x : Tile, x.mem = (s.tile t).mem ∧
      s.issue t (fun op => !knownOp op) = (s.setTile t x).tileFault t 1 (opcodeOf w0) (x.head % x.ringSize) 0 := by
  refine ⟨if entriesOf w0 = 2 then (s.tile t).fetch (s.clu (t / 16)) ((s.tile t).head + 1) else s.tile t, ?_, ?_⟩
  · split
    · obtain ⟨p, hp⟩ := (s.tile t).fetch_frame (s.clu (t / 16)) ((s.tile t).head + 1)
      rw [hp]
    · rfl
  · unfold State.issue
    simp only [hi, Tile.fetch_held _ _ _ w0 h0, h0, hk, Bool.not_true, Bool.false_eq_true, if_false, Bool.not_false,
      issueFault_unknown _ _ _ _ _ _ _ hk]

/-- Settles O14: a failed check faults the tile, an unmet condition waits, and neither consumes anything. -/
theorem tileIssueFaults : Obligations.TileIssueFaults := by
  unfold Obligations.TileIssueFaults
  refine ⟨?_, ?_, ?_, ?_⟩
  · intro c t op w0 w1 code info s hc ht hi h0 hop h1 hf
    have hissue : s.issue t (· == op) = (s.setTile t (s.tile t)).tileFault t code op ((s.tile t).head % (s.tile t).ringSize) info := by
      rw [s.issue_held_second t op w0 w1 hi h0 hop (knownOp_of_tileRow hc) h1]
      exact s.judge_faults t op w0 code info (some w1) hf
    obtain ⟨hstate, hcode, hopcode, hindex, hinfo⟩ :=
      (s.setTile t (s.tile t)).rdTil_tileFault t code op ((s.tile t).head % (s.tile t).ringSize) info
    have htile := (s.setTile t (s.tile t)).tile_tileFault t code op ((s.tile t).head % (s.tile t).ringSize) info
    rw [State.tile_setTile_same] at htile
    refine ⟨_, exec_tileRow_next hc s ht, ?_⟩
    simp only [hissue, State.rdTil_withQueue, State.tile_withQueue, htile, State.withQueue_sigs, State.sigs_tileFault, hstate, hcode, hopcode, hindex,
      hinfo, true_and]
    rfl
  · intro c t op w0 code info s hc ht hi h0 hop h2 h1 hwritten hf
    have hissue : s.issue t (· == op) = (s.setTile t (s.tile t)).tileFault t code op ((s.tile t).head % (s.tile t).ringSize) info := by
      rw [s.issue_held t op w0 hi h0 hop (knownOp_of_tileRow hc) (fun _ => .inr hwritten)]
      refine s.judge_faults t op w0 code info _ ?_
      rw [secondWord, if_pos h2, h1]
      exact hf
    obtain ⟨hstate, hcode, -⟩ := (s.setTile t (s.tile t)).rdTil_tileFault t code op ((s.tile t).head % (s.tile t).ringSize) info
    refine ⟨_, exec_tileRow_next hc s ht, ?_⟩
    rw [hissue, State.rdTil_withQueue, State.rdTil_withQueue]
    exact ⟨hstate, hcode⟩
  · intro c t op w0 w1 st s hc ht hi h0 hop h1 hf hw
    refine ⟨_, exec_tileRow_next hc s ht, ?_⟩
    rw [s.issue_held_second t op w0 w1 hi h0 hop (knownOp_of_tileRow hc) h1, s.judge_waits t op w0 w1 st hf hw]
    have hfits : ∀ n ∈ [2, 3, 4, 6], n % 16 = n := by decide
    have hst : st % 16 = st := hfits st (waitState_mem hw)
    rw [State.rdTil_withQueue, State.rdTil_wrTil_same, State.tile_withQueue, State.tile_wrTil, State.tile_setTile_same]
    exact ⟨hst, rfl, rfl, rfl⟩
  · intro t w0 s ht hi h0 hk
    obtain ⟨x, hmem, hissue⟩ := State.issue_illegal hi h0 hk
    obtain ⟨hstate, hcode, hopcode, -⟩ := (s.setTile t x).rdTil_tileFault t 1 (opcodeOf w0) (x.head % x.ringSize) 0
    refine ⟨_, within_next s _ _ (by simpa [tileOk] using ht), ?_⟩
    rw [hissue, State.tile_withQueue, State.tile_tileFault, State.tile_setTile_same]
    simp only [State.rdTil_withQueue]
    exact ⟨hstate, hcode, hopcode, hmem⟩

end Sys2Proof.Machine
end

section
/-! SUPPORT. The start of a command on its unit (R55, R138 to R140): commands in flight it is not ordered against, and its start when there are none. -/

namespace Sys2Proof.Machine

/-! ### A tile written twice -/

theorem SMap.ins_ins {α : Type} (m : SMap α) (k : Nat) (v w : α) : SMap.ins (SMap.ins m k v) k w = SMap.ins m k w := by
  induction m with
  | nil => simp [SMap.ins]
  | cons e m ih =>
    obtain ⟨j, x⟩ := e
    by_cases hlt : k < j
    · simp [SMap.ins, hlt]
    · by_cases heq : j = k
      · simp [SMap.ins, heq]
      · simp [SMap.ins, hlt, heq, ih]

theorem State.setTile_setTile (s : State) (t : Nat) (x y : Tile) (hx : x ≠ Tile.idle) (hy : y ≠ Tile.idle) :
    (s.setTile t x).setTile t y = s.setTile t y := by
  simp only [State.setTile, SMap.put, if_neg hx, if_neg hy, SMap.ins_ins]

theorem ne_idle_of_cmds {x : Tile} (h : x.cmds ≠ []) : x ≠ Tile.idle := fun he => h (he ▸ rfl)

/-! ### Rivals (R55, R139) -/

/-- No command in flight stands beside one of `t`'s that starts: none is started but it. -/
def Unrivalled (s : State) (t : Nat) (c : TCmd) : Prop :=
  ∀ i < 16, ∀ d ∈ (s.tile (t / 16 * 16 + i)).cmds, d.started = true → t / 16 * 16 + i = t ∧ (d.unit = c.unit ∨ d.seq = c.seq)

theorem State.rivals_eq_nil {s : State} {t : Nat} {c : TCmd} (h : Unrivalled s t c) : s.rivals t c = [] := by
  simp only [State.rivals, List.flatMap_eq_nil_iff, List.mem_range, List.map_eq_nil_iff, List.filter_eq_nil_iff]
  intro i hi d hd
  cases hs : d.started with
  | false => simp
  | true =>
    obtain ⟨ht, h⟩ := h i hi d hd hs
    rcases h with h | h <;> simp [ht, h]

/-- Rivals depend on the commands of the cluster's tiles alone. -/
theorem Unrivalled.of_cmds {s u : State} {t : Nat} {c : TCmd} (h : Unrivalled s t c) (hcmds : ∀ v, (u.tile v).cmds = (s.tile v).cmds) : Unrivalled u t c := by
  intro i hi d hd
  rw [hcmds] at hd
  exact h i hi d hd

theorem State.hazards_unrivalled {s : State} {t : Nat} {c : TCmd} (h : Unrivalled s t c) : s.hazards t c = s := by
  unfold State.hazards
  rw [State.rivals_eq_nil h]
  rfl

/-! ### The counters of R94 -/

/-- What a start counts is a counter of its tile, and may use a free value. -/
theorem State.perf_cases (s : State) (t : Nat) (c : TCmd) (x : Tile) :
    s.perf t c x = s ∨ ∃ f ∈ [R.TIL_PERF_CUBE, R.TIL_PERF_VEC], ∃ v n, s.perf t c x = (s.wrTil f t v).useFree n := by
  have hadd : ∀ f ∈ [R.TIL_PERF_CUBE, R.TIL_PERF_VEC], ∀ n, ∃ g ∈ [R.TIL_PERF_CUBE, R.TIL_PERF_VEC], ∃ v m,
      s.roll f (tilDie t) (tilIx t) n = (s.wrTil g t v).useFree m := fun f hf n => ⟨f, hf, _, 0, rfl⟩
  have hcube : R.TIL_PERF_CUBE ∈ [R.TIL_PERF_CUBE, R.TIL_PERF_VEC] := by simp
  have hvec : R.TIL_PERF_VEC ∈ [R.TIL_PERF_CUBE, R.TIL_PERF_VEC] := by simp
  unfold State.perf
  extract_lets add
  split
  · exact .inl rfl
  · split
    · split
      · exact .inl rfl
      · exact .inr (hadd _ hcube _)
    · split
      · exact .inr (hadd _ hvec _)
      · split
        · exact .inr (hadd _ hvec _)
        · split
          · exact .inr (hadd _ hvec _)
          · split
            · exact .inr (hadd _ hvec _)
            · split
              · exact .inr (hadd _ hvec _)
              · split
                · exact .inr ⟨_, hvec, _, 1, rfl⟩
                · exact .inl rfl

theorem State.perf_frame (s : State) (t : Nat) (c : TCmd) (x : Tile) : ∃ r n, s.perf t c x = { s with regs := r, free := n } := by
  rcases s.perf_cases t c x with h | ⟨f, -, v, n, h⟩
  · exact ⟨s.regs, s.free, h⟩
  · exact ⟨_, _, h⟩

theorem State.status_perf (s : State) (t : Nat) (c : TCmd) (x : Tile) (u : Nat) :
    (s.perf t c x).rdTil R.TIL_STATUS_STATE u = s.rdTil R.TIL_STATUS_STATE u := by
  rcases s.perf_cases t c x with h | ⟨f, hf, v, n, h⟩
  · rw [h]
  · rw [h]
    have hmem : ∀ g ∈ [R.TIL_PERF_CUBE, R.TIL_PERF_VEC], g ∈ tilFlds ∧ R.TIL_STATUS_STATE ≠ g := by decide
    obtain ⟨hg, hne⟩ := hmem f hf
    exact s.rdTil_wrTil_ne hg (by decide) hne t u v

section
variable (s : State) (t : Nat) (c : TCmd) (x : Tile)

@[simp] theorem State.tiles_perf : (s.perf t c x).tiles = s.tiles := by obtain ⟨r, n, h⟩ := s.perf_frame t c x; rw [h]
@[simp] theorem State.clusters_perf : (s.perf t c x).clusters = s.clusters := by obtain ⟨r, n, h⟩ := s.perf_frame t c x; rw [h]
@[simp] theorem State.xfers_perf : (s.perf t c x).xfers = s.xfers := by obtain ⟨r, n, h⟩ := s.perf_frame t c x; rw [h]
@[simp] theorem State.slotFlits_perf : (s.perf t c x).slotFlits = s.slotFlits := by obtain ⟨r, n, h⟩ := s.perf_frame t c x; rw [h]
@[simp] theorem State.tile_perf (u : Nat) : (s.perf t c x).tile u = s.tile u := by simp only [State.tile, State.tiles_perf]

end

/-! ### Start -/

/-- The tile as a start marks its command. -/
def Tile.beginning (x : Tile) (c : TCmd) : Tile := { x with cmds := x.cmds.map (fun e => if e.seq == c.seq then c.begin x else e) }

/-- A command with no rivals before and after starts: its effect, and what it counts. -/
theorem State.start_unrivalled {s v : State} {t : Nat} {c : TCmd}
    (hbefore : Unrivalled (s.setTile t ((s.tile t).beginning c)) t (c.begin (s.tile t)))
    (hv : (s.setTile t ((s.tile t).beginning c)).startEffect t (c.begin (s.tile t)) = .ok v) (hafter : Unrivalled v t (c.begin (s.tile t))) :
    s.start t c = v.perf t (c.begin (s.tile t)) ((s.tile t).beginning c) := by
  have hrivals : (v.perf t (c.begin (s.tile t)) ((s.tile t).beginning c)).rivals t (c.begin (s.tile t)) = [] :=
    State.rivals_eq_nil (hafter.of_cmds (fun u => by rw [State.tile_perf]))
  unfold State.start
  extract_lets x d s1 s2
  have h2 : s2 = s.setTile t ((s.tile t).beginning c) := State.hazards_unrivalled hbefore
  have htile : s2.tile t = (s.tile t).beginning c := by
    rw [h2]
    exact State.tile_setTile_same _ _ _
  have hstart : s2.startEffect t d = .ok v := by
    rw [h2]
    exact hv
  split
  · next heq => cases hstart.symm.trans heq
  · next s3 heq =>
    cases hstart.symm.trans heq
    rw [htile]
    show (v.perf t (c.begin (s.tile t)) ((s.tile t).beginning c)).each _ _ = _
    rw [hrivals]
    rfl

end Sys2Proof.Machine
end

section
/-! SUPPORT. Commands on a tile's own stores (R69, R138, R154 to R170): they leave its other commands alone, and start at once in a quiet cluster. -/

namespace Sys2Proof.Machine

/-! ### Operations on the stores leave the commands alone -/

theorem Tile.cmds_foldl {α : Type} (f : Tile → α → Tile) (hf : ∀ x a, (f x a).cmds = x.cmds) : ∀ (l : List α) (x : Tile), (l.foldl f x).cmds = x.cmds
  | [], _ => rfl
  | a :: l, x => (Tile.cmds_foldl f hf l (f x a)).trans (hf x a)

section
variable (x : Tile) (c : TCmd)

@[simp] theorem Tile.cmds_putTm (a : Nat) (bs : List Byte) : (x.putTm a bs).cmds = x.cmds := rfl
@[simp] theorem Tile.cmds_setBank (b : Nat) (k : Bank) : (x.setBank b k).cmds = x.cmds := rfl

@[simp] theorem Tile.cmds_spin (sr : Bool) : (x.spin sr).cmds = x.cmds := by
  unfold Tile.spin
  split <;> rfl

@[simp] theorem Tile.cmds_putVec (k i : Nat) (bs : List Byte) : (x.putVec c k i bs).cmds = x.cmds := by
  unfold Tile.putVec
  split <;> rfl

theorem cmds_vecReduce (n : Nat) : (vecReduce c x n).cmds = x.cmds := Tile.cmds_putVec _ _ _ _ _

theorem cmds_vecPasses (b0 : List Byte) (l : List Nat) : (l.foldl (vecPass c b0) x).cmds = x.cmds :=
  Tile.cmds_foldl _ (fun y i => Tile.cmds_putVec y c 0 i _) l x

theorem cmds_cvtPass (i : Nat) : (cvtPass c x i).cmds = x.cmds := x.cmds_spin _

/-- The generator advances once a pass. -/
theorem cmds_spins (sr : Bool) (l : List Nat) (acc : List Tile × Tile) :
    (l.foldl (fun (acc : List Tile × Tile) _ => let y := acc.2.spin sr; (acc.1 ++ [y], y)) acc).2.cmds = acc.2.cmds := by
  induction l generalizing acc with
  | nil => rfl
  | cons i l ih => exact (ih _).trans (acc.2.cmds_spin sr)

theorem cmds_cvtmxBlock (b : Nat) : (cvtmxBlock c x b).cmds = x.cmds := cmds_spins _ _ ([], x)

theorem cmds_cvtxmBlock (b : Nat) : (cvtxmBlock c x b).cmds = x.cmds := rfl

end

section
variable {c : TCmd} {x y : Tile}

theorem cmds_startCube (h : startCube c x = .ok y) : y.cmds = x.cmds := by
  unfold startCube at h
  split at h
  · cases h
  · extract_lets bi b es at h
    split at h
    · cases h
    · split at h
      · cases h
      · split at h
        · obtain rfl := Except.ok.inj h
          rfl
        · obtain rfl := Except.ok.inj h
          rfl

theorem cmds_startAccst (h : startAccst c x = .ok y) : y.cmds = x.cmds := by
  unfold startAccst at h
  extract_lets b at h
  split at h
  · cases h
  · split at h
    · cases h
    · obtain rfl := Except.ok.inj h
      rfl

theorem cmds_startVrcmb (h : startVrcmb c x = .ok y) : y.cmds = x.cmds := by
  unfold startVrcmb at h
  extract_lets diag f s hs dst old at h
  split at h
  · cases h
  · split at h
    · cases h
    · obtain rfl := Except.ok.inj h
      exact x.cmds_putTm _ _

theorem cmds_startVector (h : startVector c x = .ok y) : y.cmds = x.cmds := by
  unfold startVector at h
  extract_lets bs n at h
  split at h
  · cases h
  · obtain rfl := Except.ok.inj h
    split
    · exact cmds_vecReduce x c _
    · exact cmds_vecPasses x c _ _

theorem cmds_startSlice (h : startSlice c x = .ok y) : y.cmds = x.cmds := by
  unfold startSlice at h
  extract_lets fp32src sf s ks k rows hs x1 at h
  obtain rfl := Except.ok.inj h
  refine (Tile.cmds_foldl _ (fun y i => ?_) _ x1).trans rfl
  exact Tile.cmds_foldl _ (fun z j => z.cmds_putTm _ _) _ y

/-- What a command does to its tile's stores leaves the tile's commands alone. -/
theorem cmds_tileEffect {k : Cluster} (h : tileEffect c k x = .ok y) : y.cmds = x.cmds := by
  unfold tileEffect at h
  split at h
  case h_5 => exact cmds_startCube h
  case h_8 => exact cmds_startAccst h
  case h_11 => exact cmds_startVrcmb h
  case h_12 =>
    obtain rfl := Except.ok.inj h
    exact Tile.cmds_foldl _ (fun y i => cmds_cvtPass y c i) _ x
  case h_13 =>
    obtain rfl := Except.ok.inj h
    exact Tile.cmds_foldl _ (fun y i => cmds_cvtmxBlock y c i) _ x
  case h_14 =>
    obtain rfl := Except.ok.inj h
    exact Tile.cmds_foldl _ (fun y i => cmds_cvtxmBlock y c i) _ x
  case h_15 => exact cmds_startSlice h
  case h_16 =>
    split at h
    · exact cmds_startVector h
    · obtain rfl := Except.ok.inj h
      rfl
  all_goals
    obtain rfl := Except.ok.inj h
    rfl

end

/-- Counting a capped DIAL changes its cluster's count alone (R129). -/
theorem State.tiles_countCapped (s : State) (t : Nat) (c : TCmd) : (s.countCapped t c).tiles = s.tiles := by
  unfold State.countCapped
  split <;> rfl

/-- Opcodes whose start reaches beyond the tile's own stores (R149 to R154). -/
def crossOps : List Nat := [0x10, 0x20, 0x21, 0x28, 0x29]

/-- Any other command changes its own tile as its operation gives it. -/
theorem State.startEffect_own {s : State} {t : Nat} {c : TCmd} {y : Tile} (hop : c.op ∉ crossOps) (hy : tileEffect c (s.clu (t / 16)) (s.tile t) = .ok y) :
    s.startEffect t c = .ok ((s.countCapped t c).setTile t y) := by
  have hown : s.startEffect t c = (s.countCapped t c).onTile t (tileEffect c (s.clu (t / 16)) (s.tile t)) := by
    unfold State.startEffect
    split
    case h_6 => rfl
    all_goals
      next heq =>
      rw [heq] at hop
      exact absurd (by decide) hop
  rw [hown, hy]
  rfl

/-! ### Issue to a unit -/

/-- The tile and its command as the unit finds them. -/
theorem startTile_eq (s : State) (t op w0 w1 : Nat) (h : (s.tile t).cmds = []) :
    ({ (s.tile t).afterIssue op w0 w1 with cmds := (s.tile t).cmds ++ [(s.tile t).command op w0 w1] } : Tile).beginning ((s.tile t).command op w0 w1) =
      startTile s t op w0 w1 := by
  simp [Tile.beginning, startTile, h]

/-- The state in which an issued command's operation takes effect. -/
def State.startState (s : State) (t op w0 w1 : Nat) : State := (s.wrTil R.TIL_STATUS_STATE t 1).setTile t (startTile s t op w0 w1)

section
variable {s : State} {t op w0 w1 : Nat}

@[simp] theorem State.tile_startState : (s.startState t op w0 w1).tile t = startTile s t op w0 w1 := State.tile_setTile_same _ _ _

theorem State.tile_startState_ne {u : Nat} (h : u ≠ t) : (s.startState t op w0 w1).tile u = s.tile u := State.tile_setTile_ne _ _ _ _ h

@[simp] theorem State.clu_startState (c : Nat) : (s.startState t op w0 w1).clu c = s.clu c := rfl

@[simp] theorem State.status_startState : (s.startState t op w0 w1).rdTil R.TIL_STATUS_STATE t = 1 := s.rdTil_wrTil_same R.TIL_STATUS_STATE t 1

@[simp] theorem startTile_cmds : (startTile s t op w0 w1).cmds = [startCmd s t op w0 w1] := rfl

/-- In a quiet cluster only the command that starts is in flight. -/
theorem unrivalled_of_quiet {u : State} (hq : ClusterQuiet s t) (hcmds : ∀ v, (u.tile v).cmds = ((s.startState t op w0 w1).tile v).cmds) :
    Unrivalled u t (startCmd s t op w0 w1) := by
  intro i hi d hd _
  rw [hcmds] at hd
  by_cases ht : t / 16 * 16 + i = t
  · rw [ht, State.tile_startState, startTile_cmds, List.mem_singleton] at hd
    exact ⟨ht, .inl (congrArg TCmd.unit hd)⟩
  · rw [State.tile_startState_ne ht, hq.1 i hi] at hd
    cases hd

theorem cmds_of_quiet (hq : ClusterQuiet s t) : (s.tile t).cmds = [] := by
  have h := hq.1 (t % 16) (Nat.mod_lt _ (by decide))
  rwa [Nat.div_add_mod'] at h

theorem State.canStart_quiet (hq : ClusterQuiet s t) :
    State.canStart ((s.wrTil R.TIL_STATUS_STATE t 1).setTile t
      { (s.tile t).afterIssue op w0 w1 with cmds := (s.tile t).cmds ++ [(s.tile t).command op w0 w1] }) t ((s.tile t).command op w0 w1) = true := by
  have hx : ∀ f ∈ s.xfers, (f.tile != t) = true := fun f hf => bne_iff_ne.2 (hq.2 f hf)
  unfold State.canStart
  simp only [State.tile_setTile_same, cmds_of_quiet hq, List.nil_append]
  simp only [List.filter_cons, List.filter_nil, lt_self_iff_false, decide_false, Bool.false_eq_true, if_false, List.all_nil, Bool.and_true]
  show (!false && (_ || s.xfers.all _)) = true
  rw [List.all_eq_true.2 (fun f hf => by rw [hx f hf, Bool.true_or])]
  simp

/-- A command that issues in a quiet cluster starts at once (R138). -/
theorem State.issueNow_starts {v : State} (hu : unitOf op ≠ 0) (hq : ClusterQuiet s t)
    (hv : (s.startState t op w0 w1).startEffect t (startCmd s t op w0 w1) = .ok v) (hcmds : ∀ u, (v.tile u).cmds = ((s.startState t op w0 w1).tile u).cmds) :
    s.issueNow t op w0 w1 (s.tile t) = v.perf t (startCmd s t op w0 w1) (startTile s t op w0 w1) := by
  have h2 : op ≠ 2 := fun h => hu (by rw [h]; rfl)
  have hidle : ∀ l, ({ (s.tile t).afterIssue op w0 w1 with cmds := l ++ [(s.tile t).command op w0 w1] } : Tile) ≠ Tile.idle := fun l =>
    ne_idle_of_cmds (by simp)
  have htwice := (s.wrTil R.TIL_STATUS_STATE t 1).setTile_setTile t _ _ (hidle (s.tile t).cmds)
    (ne_idle_of_cmds (x := startTile s t op w0 w1) (by simp))
  have hcmd : (startCmd s t op w0 w1) = ((s.tile t).command op w0 w1).begin
      { (s.tile t).afterIssue op w0 w1 with cmds := (s.tile t).cmds ++ [(s.tile t).command op w0 w1] } := by
    rw [cmds_of_quiet hq]
    rfl
  have hgo := State.start_unrivalled (s := (s.wrTil R.TIL_STATUS_STATE t 1).setTile t
    { (s.tile t).afterIssue op w0 w1 with cmds := (s.tile t).cmds ++ [(s.tile t).command op w0 w1] }) (v := v) (t := t) (c := (s.tile t).command op w0 w1)
  rw [State.tile_setTile_same, startTile_eq s t op w0 w1 (cmds_of_quiet hq), htwice, ← hcmd] at hgo
  unfold State.issueNow
  extract_lets c x3 s1 s2
  rw [if_neg hu]
  have hs2 : s2 = (s.wrTil R.TIL_STATUS_STATE t 1).setTile t
      { (s.tile t).afterIssue op w0 w1 with cmds := (s.tile t).cmds ++ [(s.tile t).command op w0 w1] } := by
    show ((s.wrTil R.TIL_STATUS_STATE t (if op = 2 then 7 else 1)).setTile t _) = _
    rw [if_neg h2, Tile.afterIssue_cmds]
  rw [hs2, if_pos (State.canStart_quiet hq)]
  exact hgo (unrivalled_of_quiet hq (fun u => rfl)) hv (unrivalled_of_quiet hq hcmds)

/-- A command whose unit cannot take it yet stands last in its tile's list. -/
theorem State.issueNow_queues (hu : unitOf op ≠ 0)
    (hno : State.canStart (s.setTile t { (s.tile t).afterIssue op w0 w1 with cmds := (s.tile t).cmds ++ [(s.tile t).command op w0 w1] }) t
      ((s.tile t).command op w0 w1) = false) :
    s.issueNow t op w0 w1 (s.tile t) = (s.wrTil R.TIL_STATUS_STATE t 1).setTile t
      { (s.tile t).afterIssue op w0 w1 with cmds := (s.tile t).cmds ++ [(s.tile t).command op w0 w1] } := by
  have h2 : op ≠ 2 := fun h => hu (by rw [h]; rfl)
  unfold State.issueNow
  extract_lets c x3 s1 s2
  rw [if_neg hu]
  have hs2 : s2 = (s.wrTil R.TIL_STATUS_STATE t 1).setTile t
      { (s.tile t).afterIssue op w0 w1 with cmds := (s.tile t).cmds ++ [(s.tile t).command op w0 w1] } := by
    show ((s.wrTil R.TIL_STATUS_STATE t (if op = 2 then 7 else 1)).setTile t _) = _
    rw [if_neg h2, Tile.afterIssue_cmds]
  have hcan : s2.canStart t c = false := by
    rw [hs2]
    exact hno
  rw [hcan, hs2]
  rfl

/-- A command on its tile's own stores leaves the tile as its operation gives it. -/
theorem State.issueNow_own {y : Tile} (hu : unitOf op ≠ 0) (hop : op ∉ crossOps) (hq : ClusterQuiet s t)
    (hy : tileEffect (startCmd s t op w0 w1) (s.clu (t / 16)) (startTile s t op w0 w1) = .ok y) :
    (s.issueNow t op w0 w1 (s.tile t)).tile t = y ∧ (s.issueNow t op w0 w1 (s.tile t)).rdTil R.TIL_STATUS_STATE t = 1 := by
  have hv : (s.startState t op w0 w1).startEffect t (startCmd s t op w0 w1) =
      .ok (((s.startState t op w0 w1).countCapped t (startCmd s t op w0 w1)).setTile t y) :=
    State.startEffect_own hop (by rw [State.tile_startState]; exact hy)
  have htiles : ∀ u, ((s.startState t op w0 w1).countCapped t (startCmd s t op w0 w1)).tile u = (s.startState t op w0 w1).tile u := fun u => by
    simp only [State.tile, State.tiles_countCapped]
  have hcmds : ∀ u, ((((s.startState t op w0 w1).countCapped t (startCmd s t op w0 w1)).setTile t y).tile u).cmds =
      ((s.startState t op w0 w1).tile u).cmds := by
    intro u
    by_cases h : u = t
    · subst h
      rw [State.tile_setTile_same, State.tile_startState, cmds_tileEffect hy]
    · rw [State.tile_setTile_ne _ _ _ _ h, htiles]
  rw [State.issueNow_starts hu hq hv hcmds, State.tile_perf, State.tile_setTile_same, State.status_perf, State.rdTil_setTile]
  refine ⟨rfl, ?_⟩
  unfold State.countCapped
  split
  · exact State.status_startState (op := op) (w0 := w0) (w1 := w1)
  · exact State.status_startState

end

/-- Settles O12: a command on its tile's own stores starts in its issue TCLK, or waits for its unit. -/
theorem tileStoreCommandsComplete : Obligations.TileStoreCommandsComplete := by
  unfold Obligations.TileStoreCommandsComplete
  refine ⟨fun p hp t w0 w1 s y hr hq hy => ?_, fun c t op w0 w1 s hc hu hr hno => ?_⟩
  · have hrow : tileRow (p.1 t) = some (t, p.2) ∧ unitOf p.2 ≠ 0 ∧ p.2 ∉ crossOps := by
      simp only [List.mem_cons, List.not_mem_nil, or_false] at hp
      rcases hp with rfl | rfl | rfl | rfl | rfl | rfl | rfl | rfl | rfl | rfl | rfl | rfl | rfl | rfl | rfl | rfl | rfl | rfl | rfl | rfl | rfl | rfl |
          rfl | rfl | rfl | rfl | rfl | rfl | rfl | rfl | rfl | rfl | rfl | rfl | rfl | rfl | rfl | rfl | rfl | rfl | rfl | rfl | rfl | rfl | rfl | rfl <;>
        exact ⟨rfl, by decide, by decide⟩
    obtain ⟨hrow, hu, hop⟩ := hrow
    exact ⟨_, exec_ready hrow hr, State.issueNow_own hu hop hq hy⟩
  · refine ⟨_, exec_ready hc hr, ?_⟩
    rw [State.issueNow_queues hu hno]
    exact ⟨State.tile_setTile_same _ _ _, rfl⟩

end Sys2Proof.Machine
end

section
/-! SUPPORT. Commands that reach beyond their tile's stores: MOVE, GATHER, SCATTER, SEND and RECV (R63, R64, R149 to R154). -/

namespace Sys2Proof.Machine

/-! ### Registers elsewhere -/

/-- A tile's registers stand within the 16 MiB of a die's clusters (R23). -/
theorem key_til_mod {f : Fld} (hf : f ∈ tilFlds) (t : Nat) : 2 ^ 27 ≤ f.key (tilDie t) (tilIx t) % 2 ^ 29 := by
  rw [key_of_mem_tilFlds hf]
  have hplace := inTile_lt f
  have hcluster : t / 16 % 128 < 128 := Nat.mod_lt _ (by decide)
  have htile : t % 16 < 16 := Nat.mod_lt _ (by decide)
  generalize t / 2048 = d, t / 16 % 128 = c, t % 16 = i, f.inTile = p at *
  omega

/-- A write of a tile's register leaves the registers below the clusters' alone. -/
theorem State.rd_wrTil_below (s : State) {f : Fld} (hf : f ∈ tilFlds) (t v : Nat) {g : Fld} {d : Nat} {ix : List Nat} (h : g.key d ix % 2 ^ 29 < 2 ^ 27) :
    (s.wrTil f t v).rd g d ix = s.rd g d ix :=
  s.rd_wr_ne f g _ _ _ _ v (fun heq => absurd (key_til_mod hf t) (by rw [← heq]; exact Nat.not_le.2 h))

/-- TIL_STATUS shares no place with a partition's generation, whatever the partition's number. -/
theorem State.gen_wr_status (s : State) (t v p : Nat) : (s.wrTil R.TIL_STATUS_STATE t v).rd R.PAR_STATUS_GEN 0 [p] = s.rd R.PAR_STATUS_GEN 0 [p] := by
  refine s.rd_wr_ne _ _ _ _ _ _ v ?_
  simp only [Fld.key, Fld.offset, strideSum, tilIx, R.PAR_STATUS_GEN, R.TIL_STATUS_STATE]
  omega

/-- Paths depend on where the islands stand and which edges are lost. -/
theorem State.path_congr {s u : State} (hisl : ∀ d, u.island d = s.island d) (hedge : ∀ n, u.edgeLost n = s.edgeLost n) (cw : Bool) (a b : Nat) :
    u.path cw a b = s.path cw a b := by
  simp only [State.path, hisl, hedge]

theorem State.tilePath_wr_status (s : State) (t v src dst : Nat) : (s.wrTil R.TIL_STATUS_STATE t v).tilePath src dst = s.tilePath src dst := by
  have hddl : ∀ n k, k < 2 → (s.wrTil R.TIL_STATUS_STATE t v).rd R.DDL_STATUS_STATE n [k] = s.rd R.DDL_STATUS_STATE n [k] := fun n k hk =>
    s.rd_wrTil_below (by decide) t v (by simp only [Fld.key, Fld.offset, strideSum, R.DDL_STATUS_STATE]; omega)
  refine State.path_congr (fun d => ?_) (fun n => ?_) _ _ _
  · simp only [State.island]
    rw [s.rd_wrTil_below (by decide) t v (by decide), s.rd_wrTil_below (by decide) t v (by decide), s.rd_wrTil_below (by decide) t v (by decide),
      s.rd_wrTil_below (by decide) t v (by decide)]
  · simp only [State.edgeLost, hddl _ 0 (by decide), hddl _ 1 (by decide)]
    rfl

/-! ### Transfers (R150 to R153) -/

theorem State.openXfer_frame (s : State) (t : Nat) (c : TCmd) (w n : Bool) (sp : Space) (ps : List Piece) :
    ∃ l k, s.openXfer t c w n sp ps = { s with xfers := l, nextId := k } := by
  unfold State.openXfer
  split
  · exact ⟨s.xfers, s.nextId, rfl⟩
  · exact ⟨_, _, rfl⟩

theorem State.tile_openXfer (s : State) (t : Nat) (c : TCmd) (w n : Bool) (sp : Space) (ps : List Piece) (u : Nat) :
    (s.openXfer t c w n sp ps).tile u = s.tile u := by
  obtain ⟨l, k, h⟩ := s.openXfer_frame t c w n sp ps
  rw [h]
  rfl

theorem State.xfers_openXfer_congr {s u : State} (hx : u.xfers = s.xfers) (hid : u.nextId = s.nextId) (t : Nat) (c : TCmd) (w n : Bool) (sp : Space)
    (ps : List Piece) : (u.openXfer t c w n sp ps).xfers = (s.openXfer t c w n sp ps).xfers := by
  unfold State.openXfer
  split
  · exact hx
  · rw [hx, hid]

section
variable {s : State} {t op w0 w1 : Nat}

/-- A command that starts with a transfer leaves the tile as its start marks it. -/
theorem State.issueNow_transfers {w n : Bool} {sp : Space} {ps : List Piece} (hu : unitOf op ≠ 0) (hq : ClusterQuiet s t)
    (hv : (s.startState t op w0 w1).startEffect t (startCmd s t op w0 w1) =
      .ok ((s.startState t op w0 w1).openXfer t (startCmd s t op w0 w1) w n sp ps)) :
    (s.issueNow t op w0 w1 (s.tile t)).xfers = (s.openXfer t (startCmd s t op w0 w1) w n sp ps).xfers ∧
    (s.issueNow t op w0 w1 (s.tile t)).tile t = startTile s t op w0 w1 := by
  rw [State.issueNow_starts hu hq hv (fun u => by rw [State.tile_openXfer]), State.xfers_perf, State.tile_perf, State.tile_openXfer,
    State.tile_startState]
  exact ⟨State.xfers_openXfer_congr (s := s) (u := s.startState t op w0 w1) rfl rfl _ _ _ _ _ _, rfl⟩

@[simp] theorem startTile_mem : (startTile s t op w0 w1).mem = (s.tile t).mem := Tile.afterIssue_mem _ _ _ _
@[simp] theorem startTile_fill : (startTile s t op w0 w1).fill = (s.tile t).fill := Tile.afterIssue_fill _ _ _ _
@[simp] theorem startTile_abrOf (i : Nat) : (startTile s t op w0 w1).abrOf i = (s.tile t).abrOf i := by
  unfold Tile.abrOf
  rw [show (startTile s t op w0 w1).abr = (s.tile t).abr from Tile.afterIssue_abr _ _ _ _]
@[simp] theorem startTile_shapeOf (i : Nat) : (startTile s t op w0 w1).shapeOf i = (s.tile t).shapeOf i := by
  unfold Tile.shapeOf
  rw [show (startTile s t op w0 w1).shapes = (s.tile t).shapes from Tile.afterIssue_shapes _ _ _ _]
@[simp] theorem startTile_tmBytes (a n : Nat) : (startTile s t op w0 w1).tmBytes a n = (s.tile t).tmBytes a n := by
  unfold Tile.tmBytes
  rw [startTile_mem, startTile_fill]

theorem State.startSectors_opens (write : Bool) (halign : gatherAlignBad (startCmd s t op w0 w1) ((s.tile t).abrOf (bits w0 47 3)) = false) :
    (s.startState t op w0 w1).startSectors t (startCmd s t op w0 w1) write = .ok ((s.startState t op w0 w1).openXfer t (startCmd s t op w0 w1) write true .tm
      (sectorPieces (startCmd s t op w0 w1) (startTile s t op w0 w1))) := by
  simp only [State.startSectors, State.tile_startState, startTile_abrOf, show (startCmd s t op w0 w1).w0 = w0 from rfl, halign, Bool.false_eq_true, if_false]

end

/-! ### A MOVE within the cluster (R149, R150) -/

/-- Two states whose tiles and clusters are the same. -/
def SameStores (s u : State) : Prop := u.tiles = s.tiles ∧ u.clusters = s.clusters

theorem SameStores.copyLine {s u : State} (h : SameStores s u) (t : Nat) (src dst : Space) (a b : Nat) :
    SameStores (s.copyLine t src dst a b) (u.copyLine t src dst a b) := by
  obtain ⟨ht, hc⟩ := h
  have htile : ∀ v, u.tile v = s.tile v := fun v => by simp only [State.tile, ht]
  have hclu : ∀ v, u.clu v = s.clu v := fun v => by simp only [State.clu, hc]
  cases dst <;> simp only [State.copyLine, SameStores, State.setTile, State.setClu, htile, hclu, ht, hc, and_self]

theorem SameStores.each {α : Type} (f : State → α → State) (hf : ∀ s u a, SameStores s u → SameStores (f s a) (f u a)) :
    ∀ (l : List α) (s u : State), SameStores s u → SameStores (s.each l f) (u.each l f)
  | [], _, _, h => h
  | a :: l, s, u, h => SameStores.each f hf l (f s a) (f u a) (hf s u a h)

/-- Copying a line leaves commands and transfers alone. -/
theorem State.copyLine_frame (s : State) (t : Nat) (src dst : Space) (a b : Nat) :
    (∀ u, ((s.copyLine t src dst a b).tile u).cmds = (s.tile u).cmds) ∧ (s.copyLine t src dst a b).xfers = s.xfers := by
  refine ⟨fun u => ?_, ?_⟩
  · cases dst with
    | tm =>
      by_cases h : u = t
      · subst h
        show ((State.setTile s u _).tile u).cmds = _
        rw [State.tile_setTile_same]
        rfl
      · exact congrArg Tile.cmds (State.tile_setTile_ne _ _ _ _ h)
    | cb => rfl
  · cases dst <;> rfl

section
variable {s : State} {t w0 w1 : Nat}

/-- A MOVE whose rows stay inside and whose registers are aligned does what its DIR names. -/
theorem State.startMove_eq (hin : (moveExtents (startCmd s t 0x10 w0 w1) ((s.tile t).shapeOf (bits w0 45 2))).find? (outside (s.clu (t / 16)).ringRegion) = none)
    (halign : moveAlignBad (startCmd s t 0x10 w0 w1) ((s.tile t).abrOf (bits w0 42 3)) ((s.tile t).shapeOf (bits w0 45 2)) = false) :
    (s.startState t 0x10 w0 w1).startMove t (startCmd s t 0x10 w0 w1) =
      match dirSrc (bits w0 47 3), dirDst (bits w0 47 3) with
      | some sp, some dp => .ok ((s.startState t 0x10 w0 w1).each ((s.tile t).shapeOf (bits w0 45 2)).lines (fun v l =>
          v.copyLine t sp dp ((startCmd s t 0x10 w0 w1).byteInt 0 + l.1).toNat ((startCmd s t 0x10 w0 w1).byteInt 1 + l.2.1).toNat))
      | none, some dp => .ok ((s.startState t 0x10 w0 w1).openXfer t (startCmd s t 0x10 w0 w1) false false dp
          (((s.tile t).shapeOf (bits w0 45 2)).lines.flatMap (fun l =>
            linePieces (fmAddr ((s.tile t).abrOf (bits w0 42 3)) (bits w0 20 22) ((startCmd s t 0x10 w0 w1).mul.getD 0 0) l.1)
              ((startCmd s t 0x10 w0 w1).byteInt 1 + l.2.1).toNat l.2.2)))
      | some sp, none => .ok ((s.startState t 0x10 w0 w1).openXfer t (startCmd s t 0x10 w0 w1) true false sp
          (((s.tile t).shapeOf (bits w0 45 2)).lines.flatMap (fun l =>
            linePieces (fmAddr ((s.tile t).abrOf (bits w0 42 3)) (bits w0 0 20) ((startCmd s t 0x10 w0 w1).mul.getD 1 0) l.2.1)
              ((startCmd s t 0x10 w0 w1).byteInt 0 + l.1).toNat l.2.2)))
      | none, none => .ok (s.startState t 0x10 w0 w1) := by
  have hbad : (moveExtents (startCmd s t 0x10 w0 w1) ((s.tile t).shapeOf (bits w0 45 2))).filter (outside (s.clu (t / 16)).ringRegion) = [] :=
    List.filter_eq_nil_iff.2 (fun e he => List.find?_eq_none.1 hin e he)
  unfold State.startMove
  simp only [State.tile_startState, startTile_abrOf, startTile_shapeOf, State.clu_startState, show (startCmd s t 0x10 w0 w1).w0 = w0 from rfl, hbad, halign,
    List.find?_nil, List.head?_nil, Option.orElse_none, Bool.false_eq_true, if_false] <;>
  rfl

/-- A MOVE inside the cluster copies line by line. -/
theorem State.issueNow_copies {sp dp : Space} (hq : ClusterQuiet s t) {l : List (Int × Int × Nat)} {a b : Int × Int × Nat → Nat}
    (hv : (s.startState t 0x10 w0 w1).startEffect t (startCmd s t 0x10 w0 w1) =
      .ok ((s.startState t 0x10 w0 w1).each l (fun v l => v.copyLine t sp dp (a l) (b l)))) :
    (s.issueNow t 0x10 w0 w1 (s.tile t)).xfers = s.xfers ∧
    SameStores ((s.setTile t (startTile s t 0x10 w0 w1)).each l (fun v l => v.copyLine t sp dp (a l) (b l))) (s.issueNow t 0x10 w0 w1 (s.tile t)) := by
  have hkept := State.each_keeps (fun v : State => (∀ u, (v.tile u).cmds = ((s.startState t 0x10 w0 w1).tile u).cmds) ∧ v.xfers = s.xfers)
    (fun v l => v.copyLine t sp dp (a l) (b l)) (fun v i hv => by
      obtain ⟨hc, hx⟩ := v.copyLine_frame t sp dp (a i) (b i)
      exact ⟨fun u => (hc u).trans (hv.1 u), hx.trans hv.2⟩) l (s.startState t 0x10 w0 w1) ⟨fun u => rfl, rfl⟩
  have hsame : SameStores ((s.setTile t (startTile s t 0x10 w0 w1)).each l (fun v l => v.copyLine t sp dp (a l) (b l)))
      ((s.startState t 0x10 w0 w1).each l (fun v l => v.copyLine t sp dp (a l) (b l))) :=
    SameStores.each (fun (v : State) l => v.copyLine t sp dp (a l) (b l)) (fun _ _ _ h => h.copyLine _ _ _ _ _) l (s.setTile t (startTile s t 0x10 w0 w1))
      (s.startState t 0x10 w0 w1) ⟨rfl, rfl⟩
  rw [State.issueNow_starts (by decide) hq hv hkept.1, State.xfers_perf]
  refine ⟨hkept.2, ?_⟩
  unfold SameStores
  rw [State.tiles_perf, State.clusters_perf]
  exact hsame

end

theorem exec_move_starts {s : State} {t w0 w1 : Nat} (hr : HeadReady s t 0x10 w0 w1) (hq : ClusterQuiet s t)
    (hin : (moveExtents (startCmd s t 0x10 w0 w1) ((s.tile t).shapeOf (bits w0 45 2))).find? (outside (s.clu (t / 16)).ringRegion) = none)
    (halign : moveAlignBad (startCmd s t 0x10 w0 w1) ((s.tile t).abrOf (bits w0 42 3)) ((s.tile t).shapeOf (bits w0 45 2)) = false) :
    ∃ u, exec (.move t) s = .next u ∧
      (∀ dp, dirSrc (bits w0 47 3) = none → dirDst (bits w0 47 3) = some dp →
        u.tile t = startTile s t 0x10 w0 w1 ∧
        u.xfers = (s.openXfer t (startCmd s t 0x10 w0 w1) false false dp (((s.tile t).shapeOf (bits w0 45 2)).lines.flatMap (fun l =>
          linePieces (fmAddr ((s.tile t).abrOf (bits w0 42 3)) (bits w0 20 22) ((startCmd s t 0x10 w0 w1).mul.getD 0 0) l.1)
            ((startCmd s t 0x10 w0 w1).byteInt 1 + l.2.1).toNat l.2.2))).xfers) ∧
      (∀ sp, dirSrc (bits w0 47 3) = some sp → dirDst (bits w0 47 3) = none →
        u.tile t = startTile s t 0x10 w0 w1 ∧
        u.xfers = (s.openXfer t (startCmd s t 0x10 w0 w1) true false sp (((s.tile t).shapeOf (bits w0 45 2)).lines.flatMap (fun l =>
          linePieces (fmAddr ((s.tile t).abrOf (bits w0 42 3)) (bits w0 0 20) ((startCmd s t 0x10 w0 w1).mul.getD 1 0) l.2.1)
            ((startCmd s t 0x10 w0 w1).byteInt 0 + l.1).toNat l.2.2))).xfers) ∧
      (∀ sp dp, dirSrc (bits w0 47 3) = some sp → dirDst (bits w0 47 3) = some dp → u.xfers = s.xfers ∧
        ∃ v : State, v = (s.setTile t (startTile s t 0x10 w0 w1)).each ((s.tile t).shapeOf (bits w0 45 2)).lines (fun v l =>
          v.copyLine t sp dp ((startCmd s t 0x10 w0 w1).byteInt 0 + l.1).toNat ((startCmd s t 0x10 w0 w1).byteInt 1 + l.2.1).toNat) ∧
          u.tiles = v.tiles ∧ u.clusters = v.clusters) := by
  have hv : (s.startState t 0x10 w0 w1).startEffect t (startCmd s t 0x10 w0 w1) = (s.startState t 0x10 w0 w1).startMove t (startCmd s t 0x10 w0 w1) := rfl
  rw [State.startMove_eq hin halign] at hv
  refine ⟨_, exec_ready rfl hr, ?_⟩
  simp only [State.tile_withQueue, State.withQueue_xfers, State.withQueue_tiles, State.withQueue_clusters]
  refine ⟨fun dp hsrc hdst => ?_, fun sp hsrc hdst => ?_, fun sp dp hsrc hdst => ?_⟩
  · rw [hsrc, hdst] at hv
    exact (State.issueNow_transfers (by decide) hq hv).symm
  · rw [hsrc, hdst] at hv
    exact (State.issueNow_transfers (by decide) hq hv).symm
  · rw [hsrc, hdst] at hv
    obtain ⟨hx, htiles, hclusters⟩ := State.issueNow_copies hq hv
    exact ⟨hx, _, rfl, htiles, hclusters⟩

/-! ### Channels (R63, R64) -/

section
variable {s : State} {t w0 w1 : Nat}

theorem exec_send_starts {dt j uid : Nat} (hr : HeadReady s t 0x28 w0 w1) (hq : ClusterQuiet s t)
    (hbound : ((s.tile t).outCh (bits w0 47 3)).bound = some (dt, j)) (hunit : s.unitOfTile t = some uid) :
    ∃ u, exec (.send t) s = .next u ∧
      ((u.tile t).outCh (bits w0 47 3)).credits = ((s.tile t).outCh (bits w0 47 3)).credits - bits w0 29 7 ∧
      u.slotFlits = s.slotFlits ++ (List.range (bits w0 29 7)).map (fun i =>
        ⟨dt, j, uid, t, bits w0 47 3, (s.tile t).nextSeq, s.partOfTile t, s.rd R.PAR_STATUS_GEN 0 [s.partOfTile t], s.tilePath t dt,
          (s.tile t).tmBytes ((startCmd s t 0x28 w0 w1).byteOf 0 + 128 * i) 128⟩) := by
  have hch : (startTile s t 0x28 w0 w1).outCh (bits w0 47 3) =
      { (s.tile t).outCh (bits w0 47 3) with credits := ((s.tile t).outCh (bits w0 47 3)).credits - bits w0 29 7 } := outCh_consume_send _ _ _
  have hv : (s.startState t 0x28 w0 w1).startEffect t (startCmd s t 0x28 w0 w1) =
      (s.startState t 0x28 w0 w1).startSend t (startCmd s t 0x28 w0 w1) := rfl
  have hgen : (s.startState t 0x28 w0 w1).rd R.PAR_STATUS_GEN 0 [s.partOfTile t] = s.rd R.PAR_STATUS_GEN 0 [s.partOfTile t] := s.gen_wr_status t 1 _
  have hpath : (s.startState t 0x28 w0 w1).tilePath t dt = s.tilePath t dt := s.tilePath_wr_status t 1 t dt
  have hpart : (s.startState t 0x28 w0 w1).partOfTile t = s.partOfTile t := rfl
  unfold State.startSend at hv
  simp only [State.tile_startState, show (startCmd s t 0x28 w0 w1).w0 = w0 from rfl, hch, hbound,
    show (s.startState t 0x28 w0 w1).unitOfTile t = some uid from hunit, hpart, hgen, hpath, startTile_tmBytes] at hv
  refine ⟨_, exec_ready rfl hr, ?_⟩
  rw [State.issueNow_starts (by decide) hq hv (fun u => rfl), State.tile_withQueue, State.tile_perf, State.withQueue_slotFlits, State.slotFlits_perf]
  refine ⟨?_, rfl⟩
  show (((s.startState t 0x28 w0 w1).tile t).outCh _).credits = _
  rw [State.tile_startState, hch]

/-- What writes to tile memory leave depends on the memory before them alone. -/
theorem Tile.mem_foldl_putTm (a : Nat → Nat) (b : Nat → List Byte) (l : List Nat) {x y : Tile} (h : y.mem = x.mem) :
    (l.foldl (fun (y : Tile) k => y.putTm (a k) (b k)) y).mem = (l.foldl (fun (y : Tile) k => y.putTm (a k) (b k)) x).mem := by
  induction l generalizing x y with
  | nil => exact h
  | cons k l ih => exact ih (by simp only [Tile.putTm, h])

theorem exec_recv_starts (hr : HeadReady s t 0x29 w0 w1) (hq : ClusterQuiet s t) :
    ∃ u, exec (.recv t) s = .next u ∧
      ((u.tile t).inCh (bits w0 47 3)).reserved = ((s.tile t).inCh (bits w0 47 3)).reserved + bits w0 29 7 ∧
      ((u.tile t).inCh (bits w0 47 3)).rd =
        (((s.tile t).inCh (bits w0 47 3)).rd + bits w0 29 7) % ((s.tile t).inCh (bits w0 47 3)).slots ∧
      (u.tile t).mem = ((List.range (bits w0 29 7)).foldl (fun (y : Tile) k =>
        y.putTm ((startCmd s t 0x29 w0 w1).byteOf 0 + 128 * k)
          ((s.tile t).tmBytes (128 * (((s.tile t).inCh (bits w0 47 3)).base +
            (((s.tile t).inCh (bits w0 47 3)).rd + k) % ((s.tile t).inCh (bits w0 47 3)).slots)) 128)) (s.tile t)).mem := by
  have hch : (startTile s t 0x29 w0 w1).inCh (bits w0 47 3) =
      { (s.tile t).inCh (bits w0 47 3) with reserved := ((s.tile t).inCh (bits w0 47 3)).reserved + bits w0 29 7 } := inCh_consume_recv _ _ _
  have hv : (s.startState t 0x29 w0 w1).startEffect t (startCmd s t 0x29 w0 w1) =
      (s.startState t 0x29 w0 w1).startRecv t (startCmd s t 0x29 w0 w1) := rfl
  unfold State.startRecv at hv
  simp only [State.tile_startState, show (startCmd s t 0x29 w0 w1).w0 = w0 from rfl, hch, startTile_tmBytes] at hv
  refine ⟨_, exec_ready rfl hr, ?_⟩
  rw [State.issueNow_starts (by decide) hq hv (fun u => ?_), State.tile_withQueue, State.tile_perf, State.tile_setTile_same]
  · have hin : ∀ (x : Tile) (i : ChanIn), (x.setIn (bits w0 47 3) i).inCh (bits w0 47 3) = i := fun x i => SMap.get_put_same _ _ _ _
    rw [hin]
    exact ⟨rfl, rfl, Tile.mem_foldl_putTm _ _ _ startTile_mem⟩
  · by_cases h : u = t
    · subst h
      rw [State.tile_setTile_same, State.tile_startState]
      exact Tile.cmds_foldl _ (fun y k => y.cmds_putTm _ _) _ _
    · rw [State.tile_setTile_ne _ _ _ _ h]

end

/-- Settles O13: transfers open, lines are copied, slots leave and are taken. -/
theorem tileTransferCommandsComplete : Obligations.TileTransferCommandsComplete := by
  unfold Obligations.TileTransferCommandsComplete
  refine ⟨⟨fun t w0 w1 s hr hq halign => ?_, fun t w0 w1 s hr hq halign => ?_, fun t w0 w1 s => exec_move_starts⟩,
    fun t w0 w1 dt j uid s => exec_send_starts, fun t w0 w1 s => exec_recv_starts⟩
  · refine ⟨_, exec_ready rfl hr, ?_⟩
    rw [State.withQueue_xfers, State.tile_withQueue]
    exact State.issueNow_transfers (by decide) hq (State.startSectors_opens false halign)
  · refine ⟨_, exec_ready rfl hr, ?_⟩
    rw [State.withQueue_xfers, State.tile_withQueue]
    exact State.issueNow_transfers (by decide) hq (State.startSectors_opens true halign)

end Sys2Proof.Machine
end

section
/-! SUPPORT. What happens to commands after issue: their starts and completions, and signals, slots and credits that arrive (R57 to R59, R64, R66, R71, R138). -/

namespace Sys2Proof.Machine

/-! ### Starts -/

/-- With nothing started in the cluster, a command that starts has no rivals. -/
theorem unrivalled_of_unstarted {s : State} {t : Nat} (c : TCmd) (h : ∀ i < 16, ∀ d ∈ (s.tile (t / 16 * 16 + i)).cmds, d.started = false) :
    Unrivalled (s.setTile t ((s.tile t).beginning c)) t (c.begin (s.tile t)) := by
  intro i hi d hd hs
  have hi' := h i hi
  by_cases ht : t / 16 * 16 + i = t
  · rw [ht] at hd hi'
    rw [State.tile_setTile_same] at hd
    obtain ⟨e, he, rfl⟩ := List.mem_map.1 hd
    refine ⟨ht, .inr ?_⟩
    split at hs
    · next heq => rw [if_pos heq]
    · rw [hi' e he] at hs
      cases hs
  · rw [State.tile_setTile_ne _ _ _ _ ht] at hd
    rw [hi' d hd] at hs
    cases hs

theorem exec_commandStart {t unit : Nat} {c : TCmd} {s : State} (ht : t < 8192) (hunit : unit < 5)
    (hc : (s.tile t).cmds.find? (fun d => d.unit == unit && !d.started) = some c) (hcan : s.canStart t c = true) :
    exec (.commandStart t unit) s = .next ((s.start t c).withQueue s.pending) := by
  refine (within_next s _ _ (by simp [tileOk, ht, hunit])).trans ?_
  rw [hc]
  dsimp only
  rw [if_pos hcan]

theorem exec_commandStart_own {t unit : Nat} {c : TCmd} {s : State} {y : Tile} (ht : t < 8192) (hunit : unit < 5)
    (hc : (s.tile t).cmds.find? (fun d => d.unit == unit && !d.started) = some c) (hcan : s.canStart t c = true)
    (hidle : ∀ i < 16, ∀ d ∈ (s.tile (t / 16 * 16 + i)).cmds, d.started = false) (hop : c.op ∉ crossOps)
    (hy : tileEffect (c.begin (s.tile t)) (s.clu (t / 16)) ((s.tile t).beginning c) = .ok y) :
    ∃ u, exec (.commandStart t unit) s = .next u ∧ u.tile t = y := by
  have hv : (s.setTile t ((s.tile t).beginning c)).startEffect t (c.begin (s.tile t)) =
      .ok (((s.setTile t ((s.tile t).beginning c)).countCapped t (c.begin (s.tile t))).setTile t y) :=
    State.startEffect_own hop (by rw [State.tile_setTile_same]; exact hy)
  have hbefore := unrivalled_of_unstarted c hidle
  have hcmds : ∀ u, ((((s.setTile t ((s.tile t).beginning c)).countCapped t (c.begin (s.tile t))).setTile t y).tile u).cmds =
      ((s.setTile t ((s.tile t).beginning c)).tile u).cmds := by
    intro u
    by_cases h : u = t
    · subst h
      rw [State.tile_setTile_same, State.tile_setTile_same, cmds_tileEffect hy]
    · rw [State.tile_setTile_ne _ _ _ _ h]
      simp only [State.tile, State.tiles_countCapped]
  refine ⟨_, exec_commandStart ht hunit hc hcan, ?_⟩
  rw [State.start_unrivalled hbefore hv (hbefore.of_cmds hcmds), State.tile_withQueue, State.tile_perf, State.tile_setTile_same]

/-- What a range made free leaves alone: transfers, slots on their way, and all of its tile but the memory. -/
def KeepsTile (t : Nat) (v u : State) : Prop := u.xfers = v.xfers ∧ u.slotFlits = v.slotFlits ∧ ∃ m, u.tile t = { v.tile t with mem := m }

theorem KeepsTile.freeRange {t : Nat} {v u : State} (h : KeepsTile t v u) (r : Range) : KeepsTile t v (u.freeRange t r) := by
  obtain ⟨hx, hf, m, hm⟩ := h
  unfold State.freeRange
  dsimp only
  split
  · refine ⟨hx, hf, ((u.tile t).putTm r.start (u.freeBytes r.len)).mem, ?_⟩
    rw [State.tile_setTile_same]
    have huse : (u.useFree r.len).tile t = u.tile t := rfl
    rw [huse, hm]
    rfl
  · exact ⟨hx, hf, m, hm⟩

/-- A start whose operation succeeds leaves what the operation leaves, but for bytes that rivals write too (R55). -/
theorem State.start_keeps {s v : State} {t : Nat} {c : TCmd}
    (hv : ((s.setTile t ((s.tile t).beginning c)).hazards t (c.begin (s.tile t))).startEffect t (c.begin (s.tile t)) = .ok v) :
    KeepsTile t v (s.start t c) := by
  unfold State.start
  extract_lets x d s1 s2
  split
  · next heq => cases hv.symm.trans heq
  · next s3 heq =>
    obtain rfl := Except.ok.inj (hv.symm.trans heq)
    have hperf : KeepsTile t v (v.perf t d (s2.tile t)) := ⟨State.xfers_perf _ _ _ _, State.slotFlits_perf _ _ _ _, (v.tile t).mem, State.tile_perf _ _ _ _ _⟩
    refine State.each_keeps (KeepsTile t v) _ (fun u p hu => ?_) _ _ hperf
    refine State.each_keeps (KeepsTile t v) _ (fun u r hu => ?_) _ _ hu
    exact State.each_keeps (KeepsTile t v) _ (fun u w hu => hu.freeRange _) _ _ hu

/-! ### Completion (R71) -/

/-- What a completion leaves alone: the signals, the clusters, the tokens and the commands. -/
theorem State.completeEffect_keeps (s : State) (t : Nat) (c : TCmd) : (s.completeEffect t c).sigs = s.sigs ∧ (s.completeEffect t c).clusters = s.clusters ∧
    ∀ v, ((s.completeEffect t c).tile v).tok = (s.tile v).tok ∧ ((s.completeEffect t c).tile v).cmds = (s.tile v).cmds := by
  have hset : ∀ x : Tile, x.tok = (s.tile t).tok → x.cmds = (s.tile t).cmds → ∀ v,
      ((s.setTile t x).tile v).tok = (s.tile v).tok ∧ ((s.setTile t x).tile v).cmds = (s.tile v).cmds := by
    intro x htok hcmds v
    by_cases h : v = t
    · subst h
      rw [State.tile_setTile_same]
      exact ⟨htok, hcmds⟩
    · rw [State.tile_setTile_ne _ _ _ _ h]
      exact ⟨rfl, rfl⟩
  unfold State.completeEffect
  extract_lets x j n i s1
  split
  · exact ⟨rfl, rfl, hset _ rfl rfl⟩
  · split
    · split
      · exact ⟨rfl, rfl, hset _ rfl rfl⟩
      · exact ⟨rfl, rfl, hset _ rfl rfl⟩
    · exact ⟨rfl, rfl, fun v => ⟨rfl, rfl⟩⟩

/-- SLICE sets PLANES (R170). -/
theorem State.planes_completeEffect (s : State) (t : Nat) (c : TCmd) (h : c.op = 0x63) :
    ((s.completeEffect t c).tile t).planes = bits c.w0 45 4 := by
  unfold State.completeEffect
  dsimp only
  rw [if_pos h, State.tile_setTile_same]

/-- RECV frees its slots and returns its credits (R64). -/
theorem State.completeEffect_recv (s : State) (t : Nat) (c : TCmd) (h : c.op = 0x29) :
    (((s.completeEffect t c).tile t).inCh (bits c.w0 47 3)).arrived = ((s.tile t).inCh (bits c.w0 47 3)).arrived - bits c.w0 29 7 ∧
    ∀ st k uid, ((s.tile t).inCh (bits c.w0 47 3)).src = some (st, k) → s.unitOfTile t = some uid →
      (s.completeEffect t c).creditFlits = s.creditFlits ++ [⟨st, k, bits c.w0 29 7, uid, t, s.partOfTile t, s.rd R.PAR_STATUS_GEN 0 [s.partOfTile t],
        backPath (s.tilePath st t)⟩] := by
  have hin : ∀ (x : Tile) (i : ChanIn), (x.setIn (bits c.w0 47 3) i).inCh (bits c.w0 47 3) = i := fun x i => SMap.get_put_same _ _ _ _
  unfold State.completeEffect
  extract_lets x j n i s1
  have htile : (s1.tile t).inCh j = { i with arrived := i.arrived - n, reserved := i.reserved - n } := by
    rw [State.tile_setTile_same]
    exact hin x _
  rw [if_neg (by rw [h]; decide), if_pos h]
  refine ⟨?_, fun st k uid hsrc hunit => ?_⟩
  · split
    · exact congrArg ChanIn.arrived htile
    · exact congrArg ChanIn.arrived htile
  · have hunit1 : s1.unitOfTile t = some uid := hunit
    rw [show i.src = some (st, k) from hsrc, hunit1]
    rfl

theorem State.complete_over {s : State} {t seq : Nat} {c : TCmd} (hc : (s.tile t).cmds.find? (fun d => d.seq == seq && d.started) = some c)
    (hx : ∀ f ∈ s.xfers, ¬(f.tile = t ∧ f.seq = seq)) (hfit : SignalsFit s t (signalsOf (syncWord c.op c.w0 c.w1))) :
    ∃ s2, s2 = (s.setTile t { s.tile t with cmds := (s.tile t).cmds.filter (fun d => d.seq != seq) }).completeEffect t c ∧
      s.complete t seq = ({ s2 with
        sigs := s.sigs ++ (signalsOf (syncWord c.op c.w0 c.w1)).map (fun g => ⟨t / 16 * 16 + g.1, g.2.1, g.2.2, s.unitOfTile t⟩) } : State).settle t := by
  refine ⟨_, rfl, ?_⟩
  have hany : s.xfers.any (fun f => f.tile == t && f.seq == seq) = false := List.any_eq_false.2 (fun f hf => by simpa using hx f hf)
  unfold State.complete
  dsimp only
  rw [hc]
  dsimp only
  rw [hany, if_neg (by decide)]
  generalize hs1 : s.setTile t { s.tile t with cmds := (s.tile t).cmds.filter (fun d => d.seq != seq) } = s1
  obtain ⟨hsigs, hclusters, htiles⟩ := s1.completeEffect_keeps t c
  have hsigs' : (s1.completeEffect t c).sigs = s.sigs := hsigs.trans (by rw [← hs1]; rfl)
  have hclusters' : (s1.completeEffect t c).clusters = s.clusters := hclusters.trans (by rw [← hs1]; rfl)
  have htok : ∀ v k, ((s1.completeEffect t c).tile v).token k ≤ (s.tile v).token k := by
    intro v k
    refine Nat.le_of_eq ?_
    rw [Tile.token, Tile.token, (htiles v).1, ← hs1]
    by_cases h : v = t
    · subst h
      rw [State.tile_setTile_same]
    · rw [State.tile_setTile_ne _ _ _ _ h]
  have hunit : (s1.completeEffect t c).unitOfTile t = s.unitOfTile t := by simp only [State.unitOfTile, State.clu, hclusters']
  rw [State.signalsOf_fits _ _ (SignalsFit_of_le hsigs' hclusters' htok t _ hfit), hsigs', hunit]

theorem exec_commandComplete {s : State} {t seq : Nat} {c : TCmd} (ht : t < 8192) (hc : (s.tile t).cmds.find? (fun d => d.seq == seq && d.started) = some c)
    (hx : ∀ f ∈ s.xfers, ¬(f.tile = t ∧ f.seq = seq)) (hfit : SignalsFit s t (signalsOf (syncWord c.op c.w0 c.w1))) :
    ∃ u, exec (.commandComplete t seq) s = .next u ∧ (u.tile t).cmds = (s.tile t).cmds.filter (fun d => d.seq != seq) ∧
      u.sigs = s.sigs ++ (signalsOf (syncWord c.op c.w0 c.w1)).map (fun g => ⟨t / 16 * 16 + g.1, g.2.1, g.2.2, s.unitOfTile t⟩) ∧
      (c.op = 0x63 → (u.tile t).planes = bits c.w0 45 4) ∧
      (c.op = 0x29 → ((u.tile t).inCh (bits c.w0 47 3)).arrived = ((s.tile t).inCh (bits c.w0 47 3)).arrived - bits c.w0 29 7 ∧
        ∀ st k uid, ((s.tile t).inCh (bits c.w0 47 3)).src = some (st, k) → s.unitOfTile t = some uid →
          u.creditFlits = s.creditFlits ++ [⟨st, k, bits c.w0 29 7, uid, t, s.partOfTile t, s.rd R.PAR_STATUS_GEN 0 [s.partOfTile t],
            backPath (s.tilePath st t)⟩]) := by
  obtain ⟨s2, hs2, hover⟩ := State.complete_over hc hx hfit
  refine ⟨_, within_next s _ _ (by simpa [tileOk] using ht), ?_⟩
  rw [hover]
  obtain ⟨r, hr⟩ := State.settle_frame ({ s2 with
    sigs := s.sigs ++ (signalsOf (syncWord c.op c.w0 c.w1)).map (fun g => ⟨t / 16 * 16 + g.1, g.2.1, g.2.2, s.unitOfTile t⟩) } : State) t
  rw [State.tile_withQueue, State.tile_settle, State.withQueue_sigs, State.withQueue_creditFlits, hr]
  show (s2.tile t).cmds = _ ∧ _ ∧ (_ → (s2.tile t).planes = _) ∧ (_ → ((s2.tile t).inCh _).arrived = _ ∧ ∀ st k uid, _ → _ → s2.creditFlits = _)
  have htile : (s.setTile t { s.tile t with cmds := (s.tile t).cmds.filter (fun d => d.seq != seq) }).tile t =
      { s.tile t with cmds := (s.tile t).cmds.filter (fun d => d.seq != seq) } := State.tile_setTile_same _ _ _
  subst hs2
  refine ⟨?_, rfl, State.planes_completeEffect _ t c, fun hop => ?_⟩
  · obtain ⟨-, -, hkept⟩ := State.completeEffect_keeps (s.setTile t { s.tile t with cmds := (s.tile t).cmds.filter (fun d => d.seq != seq) }) t c
    rw [(hkept t).2, htile]
  · have h := State.completeEffect_recv (s.setTile t { s.tile t with cmds := (s.tile t).cmds.filter (fun d => d.seq != seq) }) t c hop
    rw [htile] at h
    exact h

/-! ### Arrivals -/

theorem exec_tokenSignalArrive {t k : Nat} {g : Sig} {s : State} (ht : t < 8192) (hg : (s.sigs.filter (fun g => g.tile == t))[k]? = some g) :
    ∃ u, exec (.tokenSignalArrive t k) s = .next u ∧ u.sigs = s.sigs.erase g ∧
      (g.uid = s.unitOfTile t → (u.tile t).token g.tok = min 255 ((s.tile t).token g.tok + g.inc)) ∧
      (g.uid ≠ s.unitOfTile t → u.tile t = s.tile t) := by
  refine ⟨_, within_next s _ _ (by simpa [tileOk] using ht), ?_⟩
  rw [hg]
  dsimp only
  rw [show ({ s with sigs := s.sigs.erase g } : State).unitOfTile t = s.unitOfTile t from rfl,
    show ({ s with sigs := s.sigs.erase g } : State).tile t = s.tile t from rfl]
  by_cases h : g.uid = s.unitOfTile t
  · rw [if_neg (by simp [h])]
    refine ⟨rfl, fun _ => ?_, fun hne => absurd h hne⟩
    rw [State.tile_withQueue, State.tile_setTile_same]
    exact SMap.get_put_same _ _ _ _
  · rw [if_pos (by simp [h])]
    exact ⟨rfl, fun heq => absurd heq h, fun _ => rfl⟩

/-- Data flits that cross Flial count in the slot frame, and in their master port's slotted flits. -/
theorem State.fabricTake_cases (s : State) (d m : Nat) (links : List Nat) (n : Nat) (own : Bool) :
    ∃ a b, s.fabricTake d m links n own = { s with slotUse := a, linkUse := b } ∨
      ∃ v, s.fabricTake d m links n own = ({ s with slotUse := a, linkUse := b } : State).wr R.FLL_M_SLOTTED d [m] v := by
  unfold State.fabricTake
  extract_lets i k s1
  split
  · split
    · exact ⟨_, s.linkUse, .inr ⟨_, rfl⟩⟩
    · exact ⟨_, s.linkUse, .inl rfl⟩
  · split
    · exact ⟨s.slotUse, s.linkUse, .inl rfl⟩
    · have hlinks : ∃ b, s.each links (fun s l => { s with linkUse := SMap.put 0 s.linkUse (l * 64 + i) (SMap.get 0 s.linkUse (l * 64 + i) + n) }) =
          { s with linkUse := b } :=
        State.each_keeps (fun u => ∃ b, u = { s with linkUse := b }) _ (fun u l hu => by
          obtain ⟨b, rfl⟩ := hu
          exact ⟨_, rfl⟩) links s ⟨s.linkUse, rfl⟩
      obtain ⟨b, hb⟩ := hlinks
      exact ⟨s.slotUse, b, .inl hb⟩

theorem State.flitCross_frame (s : State) (f : SlotFlit) : ∃ r a b, s.flitCross f = { s with regs := r, slotUse := a, linkUse := b } := by
  unfold State.flitCross
  split
  · exact ⟨s.regs, s.slotUse, s.linkUse, rfl⟩
  · obtain ⟨a, b, h | ⟨v, h⟩⟩ := s.fabricTake_cases (tilDie f.src) (f.src / 16 % 128) f.links 1 true
    · exact ⟨s.regs, a, b, h⟩
    · exact ⟨_, a, b, h⟩

theorem State.rd_flitCross (s : State) (f : SlotFlit) {g : Fld} {e : Nat} {jx : List Nat} (hg : ∀ d m, g.key e jx ≠ R.FLL_M_SLOTTED.key d [m]) :
    (s.flitCross f).rd g e jx = s.rd g e jx := by
  unfold State.flitCross
  split
  · rfl
  · obtain ⟨a, b, h | ⟨v, h⟩⟩ := s.fabricTake_cases (tilDie f.src) (f.src / 16 % 128) f.links 1 true
    · rw [h]
      rfl
    · rw [h]
      exact State.rd_wr_ne _ _ _ _ _ _ _ _ (hg _ _)

/-- Crossing Flial changes neither the generation of a partition nor the state of a tile. -/
theorem State.staleFlit_flitCross (s : State) (f : SlotFlit) (src dst part gen : Nat) :
    (s.flitCross f).staleFlit src dst part gen = s.staleFlit src dst part gen := by
  unfold State.staleFlit
  rw [s.rd_flitCross f (fun d m => by simp only [Fld.key, Fld.offset, strideSum, R.PAR_STATUS_GEN, R.FLL_M_SLOTTED]; omega)]

theorem State.live_flitCross (s : State) (f : SlotFlit) (t uid : Nat) : (s.flitCross f).live t uid = s.live t uid := by
  have hstatus : (s.flitCross f).rdTil R.TIL_STATUS_STATE t = s.rdTil R.TIL_STATUS_STATE t := s.rd_flitCross f (fun d m => by
    simp only [Fld.key, Fld.offset, strideSum, tilIx, R.TIL_STATUS_STATE, R.FLL_M_SLOTTED]; omega)
  obtain ⟨r, a, b, hframe⟩ := s.flitCross_frame f
  have hunit : (s.flitCross f).unitOfTile t = s.unitOfTile t := by rw [hframe]; rfl
  unfold State.live
  rw [hstatus, hunit]

/-- A slot that reaches a ring in a cluster with nothing in flight is written, and nothing else is. -/
theorem State.slotWrite_quiet {s : State} {t ch : Nat} (data : List Byte) (hq : ∀ i < 16, (s.tile (t / 16 * 16 + i)).cmds = []) :
    s.slotWrite t ch data = s.setTile t (((s.tile t).putTm (128 * (((s.tile t).inCh ch).base + ((s.tile t).inCh ch).wr)) data).setIn ch
      { (s.tile t).inCh ch with wr := (((s.tile t).inCh ch).wr + 1) % ((s.tile t).inCh ch).slots, arrived := ((s.tile t).inCh ch).arrived + 1 }) := by
  unfold State.slotWrite
  extract_lets i at_ w s1 s2
  have hnone : Unrivalled s t w := fun i hi d hd => by
    rw [hq i hi] at hd
    cases hd
  have h1 : s1 = s := State.hazards_unrivalled hnone
  have h2 : s2 = s.setTile t (((s.tile t).putTm at_ data).setIn ch { i with wr := (i.wr + 1) % i.slots, arrived := i.arrived + 1 }) := by
    show s1.setTile t (((s1.tile t).putTm at_ data).setIn ch _) = _
    rw [h1]
  have hcmds : ∀ v, (s2.tile v).cmds = (s.tile v).cmds := by
    intro v
    rw [h2]
    by_cases h : v = t
    · subst h
      rw [State.tile_setTile_same]
      rfl
    · rw [State.tile_setTile_ne _ _ _ _ h]
  rw [State.rivals_eq_nil (hnone.of_cmds hcmds), h2]
  rfl

/-- A slot that is not stale goes on to its tile, where a unit that is over drops it. -/
theorem exec_channelSlotArrive {t ch : Nat} {f : SlotFlit} {s : State} (ht : t < 8192) (hch : ch < 8)
    (hf : s.slotFlits.find? (fun f => f.dst == t && f.ch == ch) = some f) (hheld : s.flitHeld f = false) (hstale : s.staleFlit f.src t f.part f.gen = false) :
    ∃ s1 : State, s1.slotFlits = s.slotFlits.erase f ∧ s1.tiles = s.tiles ∧
      exec (.channelSlotArrive t ch) s = .next ((if s.live t f.uid = false then s1 else if ((s.tile t).inCh ch).slots = 0 then s1
        else s1.slotWrite t ch f.data).withQueue s.pending) := by
  obtain ⟨r, a, b, hframe⟩ := State.flitCross_frame { s with slotFlits := s.slotFlits.erase f } f
  refine ⟨({ s with slotFlits := s.slotFlits.erase f } : State).flitCross f, by rw [hframe], by rw [hframe], ?_⟩
  have htile : (({ s with slotFlits := s.slotFlits.erase f } : State).flitCross f).tile t = s.tile t := by
    rw [hframe]
    rfl
  refine (within_next s _ _ (by simp [tileOk, ht, hch])).trans ?_
  rw [hf]
  dsimp only
  rw [hheld, State.staleFlit_flitCross, State.live_flitCross, htile,
    show ({ s with slotFlits := s.slotFlits.erase f } : State).staleFlit f.src t f.part f.gen = false from hstale,
    show ({ s with slotFlits := s.slotFlits.erase f } : State).live t f.uid = s.live t f.uid from rfl]
  simp only [Bool.false_eq_true, if_false, Bool.not_eq_true']

theorem exec_creditReturn {t ch : Nat} {f : CreditFlit} {s : State} (ht : t < 8192) (hch : ch < 8)
    (hf : s.creditFlits.find? (fun f => f.tile == t && f.ch == ch) = some f) (hstale : s.staleFlit f.src t f.part f.gen = false)
    (hlive : s.live t f.uid = true) (hroom : ((s.tile t).outCh ch).credits + f.n ≤ ((s.tile t).outCh ch).start) :
    ∃ u, exec (.creditReturn t ch) s = .next u ∧ u.creditFlits = s.creditFlits.erase f ∧
      ((u.tile t).outCh ch).credits = ((s.tile t).outCh ch).credits + f.n := by
  refine ⟨_, within_next s _ _ (by simp [tileOk, ht, hch]), ?_⟩
  unfold State.creditArrive
  rw [hf]
  dsimp only
  rw [show ({ s with creditFlits := s.creditFlits.erase f } : State).staleFlit f.src t f.part f.gen = false from hstale,
    show ({ s with creditFlits := s.creditFlits.erase f } : State).live t f.uid = true from hlive,
    show ({ s with creditFlits := s.creditFlits.erase f } : State).tile t = s.tile t from rfl, if_neg (by decide), if_neg (by decide),
    if_neg (Nat.not_lt.2 hroom)]
  refine ⟨rfl, ?_⟩
  have hset : ∀ (x : Tile) (o : ChanOut), (x.setOut ch o).outCh ch = o := fun x o => SMap.get_put_same _ _ _ _
  rw [State.tile_withQueue, State.tile_setTile_same, hset]

/-- Settles O15: commands start and complete, and what was sent arrives. -/
theorem tileEventsComplete : Obligations.TileEventsComplete := by
  unfold Obligations.TileEventsComplete
  refine ⟨?_, ?_, fun t seq c s => exec_commandComplete, fun t k g s => exec_tokenSignalArrive, ?_, fun t ch f s => exec_creditReturn, ?_⟩
  · intro t unit c s y ht hunit hc hcan hidle h1 h2 h3 h4 h5 hy
    exact exec_commandStart_own ht hunit hc hcan hidle (by simp [crossOps, h1, h2, h3, h4, h5]) hy
  · intro t unit c s v ht hunit hc hcan hv
    obtain ⟨hx, hf, m, hm⟩ := State.start_keeps hv
    refine ⟨_, exec_commandStart ht hunit hc hcan, ?_⟩
    rw [State.withQueue_xfers, State.withQueue_slotFlits, State.tile_withQueue, hx, hf, hm]
    exact ⟨rfl, rfl, rfl, rfl, rfl, rfl, rfl, rfl, rfl⟩
  · intro t ch f s ht hch hf hheld hstale hlive hslots hq
    obtain ⟨s1, hflits, htiles, hexec⟩ := exec_channelSlotArrive ht hch hf hheld hstale
    have htile : ∀ v, s1.tile v = s.tile v := fun v => by rw [State.tile, State.tile, htiles]
    have hin : ∀ (x : Tile) (i : ChanIn), (x.setIn ch i).inCh ch = i := fun x i => SMap.get_put_same _ _ _ _
    refine ⟨_, hexec, ?_⟩
    rw [if_neg (by simp [hlive]), if_neg hslots, State.slotWrite_quiet f.data (fun i hi => by rw [htile, hq i hi]), State.tile_withQueue,
      State.withQueue_slotFlits, State.tile_setTile_same, htile, hin]
    exact ⟨hflits, rfl, rfl⟩
  · intro t ch f s ht hch hf hheld hstale hlive
    obtain ⟨s1, hflits, htiles, hexec⟩ := exec_channelSlotArrive ht hch hf hheld hstale
    refine ⟨_, hexec, ?_⟩
    rw [if_pos hlive]
    exact ⟨hflits, htiles⟩

end Sys2Proof.Machine
end

section
/-! SUPPORT. What a tile command leaves alone (R44, R55, R69, R71, R90, R144): everything outside its own cluster. -/

namespace Sys2Proof.Machine

/-! ### Outside a tile's cluster -/

/-- A state without tiles, clusters, registers and requests, and without what tile commands send, begin and stop. -/
def State.bare (s : State) : State :=
  { s with tiles := [], clusters := [], regs := [], reqs := [], sigs := [], xfers := [], slotFlits := [], units := [], misses := [], nextId := 0, free := 0 }

/-- A request but for the data it carries. -/
def Req.bare (r : Req) : Req := { r with data := [] }

/-- A bit of the registers of a tile's cluster and its tiles (R90). -/
def InWindow (t k : Nat) : Prop :=
  8 * (t / 2048 * 2 ^ 26 + 2 ^ 24 + t / 16 % 128 * 2 ^ 16) ≤ k ∧ k < 8 * (t / 2048 * 2 ^ 26 + 2 ^ 24 + t / 16 % 128 * 2 ^ 16 + 2 ^ 16)

/-- What two states share where they differ in the cluster of a tile alone. -/
structure SameOutside (t : Nat) (s u : State) : Prop where
  bare : u.bare = s.bare
  reqs : u.reqs.map Req.bare = s.reqs.map Req.bare
  tile : ∀ v, v / 16 ≠ t / 16 → u.tile v = s.tile v
  clu : ∀ k, k ≠ t / 16 → u.clu k = s.clu k
  look : ∀ k, ¬InWindow t k → SMap.look u.regs k = SMap.look s.regs k

theorem SameOutside.refl (t : Nat) (s : State) : SameOutside t s s := ⟨rfl, rfl, fun _ _ => rfl, fun _ _ => rfl, fun _ _ => rfl⟩

theorem SameOutside.trans {t : Nat} {s u v : State} (h : SameOutside t s u) (g : SameOutside t u v) : SameOutside t s v :=
  ⟨g.bare.trans h.bare, g.reqs.trans h.reqs, fun k hk => (g.tile k hk).trans (h.tile k hk), fun k hk => (g.clu k hk).trans (h.clu k hk),
   fun k hk => (g.look k hk).trans (h.look k hk)⟩

theorem SameOutside.each {α : Type} {t : Nat} {s u : State} (h : SameOutside t s u) (f : State → α → State) (l : List α)
    (hf : ∀ v, ∀ a ∈ l, SameOutside t v (f v a)) : SameOutside t s (u.each l f) := by
  induction l generalizing u with
  | nil => exact h
  | cons a l ih => exact ih (h.trans (hf u a List.mem_cons_self)) (fun v b hb => hf v b (List.mem_cons_of_mem a hb))

section
variable (s : State) {t : Nat}

theorem State.setTile_outside {v : Nat} (hv : v / 16 = t / 16) (x : Tile) : SameOutside t s (s.setTile v x) :=
  ⟨rfl, rfl, fun _ hk => State.tile_setTile_ne _ _ _ _ (fun h => hk (h ▸ hv)), fun _ _ => rfl, fun _ _ => rfl⟩

theorem State.setTile_useFree_outside {v : Nat} (hv : v / 16 = t / 16) (x : Tile) (n : Nat) : SameOutside t s ((s.setTile v x).useFree n) := by
  obtain ⟨hbare, hreqs, htile, hclu, hlook⟩ := s.setTile_outside hv x
  exact ⟨hbare, hreqs, htile, hclu, hlook⟩

theorem State.setClu_outside (x : Cluster) : SameOutside t s (s.setClu (t / 16) x) :=
  ⟨rfl, rfl, fun _ _ => rfl, fun _ hk => State.clu_setClu_ne _ _ _ _ hk, fun _ _ => rfl⟩

theorem State.wr_outside {f : Fld} {d : Nat} {ix : List Nat} (h : InWindow t (f.key d ix)) (v : Nat) : SameOutside t s (s.wr f d ix v) :=
  ⟨rfl, rfl, fun _ _ => rfl, fun _ _ => rfl, fun _ hk => SMap.look_ins_ne _ _ (fun he => hk (he ▸ h))⟩

theorem State.wrTil_outside {f : Fld} (hf : f ∈ tilFlds) (v : Nat) : SameOutside t s (s.wrTil f t v) := by
  refine s.wr_outside ?_ v
  have := inTile_lt f
  rw [key_of_mem_tilFlds hf, InWindow]
  omega

theorem State.wrClu_outside {f : Fld} (hf : f ∈ cluFlds) (v : Nat) : SameOutside t s (s.wrClu f (t / 16) v) := by
  refine s.wr_outside ?_ v
  have := inCluster_lt f hf
  rw [key_of_mem_cluFlds hf, InWindow]
  omega

/-- Where only the things of `State.bare` that are no tile's or cluster's changed. -/
theorem SameOutside.of_bare {s u : State} (hbare : u.bare = s.bare) (hreqs : u.reqs = s.reqs) (htiles : u.tiles = s.tiles) (hclusters : u.clusters = s.clusters)
    (hregs : u.regs = s.regs) : SameOutside t s u :=
  ⟨hbare, by rw [hreqs], fun _ _ => by rw [State.tile, htiles, State.tile], fun _ _ => by rw [State.clu, hclusters, State.clu], fun _ _ => by rw [hregs]⟩

/-! ### Bytes made free, and what rivals leave free (R55) -/

theorem State.freeRange_outside {v : Nat} (hv : v / 16 = t / 16) (r : Range) : SameOutside t s (s.freeRange v r) := by
  have huse : SameOutside t s (s.useFree r.len) := .of_bare rfl rfl rfl rfl rfl
  unfold State.freeRange
  dsimp only
  split
  · exact huse.trans (State.setTile_outside _ hv _)
  · rw [hv]
    exact huse.trans (State.setClu_outside _ _)

/-- A change of what requests carry, by their places, leaves the rest of them. -/
theorem map_bare_zipIdx (f : Req × Nat → Req) (hf : ∀ p, (f p).bare = p.1.bare) (l : List Req) : (l.zipIdx.map f).map Req.bare = l.map Req.bare := by
  rw [List.map_map, show Req.bare ∘ f = Req.bare ∘ Prod.fst from funext hf, ← List.map_map, List.zipIdx_map_fst]

theorem State.spoilOut_outside (v : Nat) (d : TCmd) : SameOutside t s (s.spoilOut v d) := by
  refine ⟨rfl, map_bare_zipIdx _ (fun p => ?_) s.reqs, fun _ _ => rfl, fun _ _ => rfl, fun _ _ => rfl⟩
  split <;> rfl

/-- Rivals stand in the same cluster. -/
theorem State.cluster_of_rival {c : TCmd} {p : Nat × TCmd} (h : p ∈ s.rivals t c) : p.1 / 16 = t / 16 := by
  obtain ⟨i, hi, hp⟩ := List.mem_flatMap.1 h
  obtain ⟨d, -, hd⟩ := List.mem_map.1 hp
  have hi := List.mem_range.1 hi
  have hfst : p.1 = t / 16 * 16 + i := by
    rw [← hd]
    split <;> rfl
  omega

theorem State.freeMeets_outside (a b : List Range) : SameOutside t s
    (s.each a (fun s r => s.each (b.filter (meet r)) (fun s w => s.freeRange t (overlap r w)))) :=
  .each (.refl t s) _ _ (fun v _ _ => .each (.refl t v) _ _ (fun v _ _ => v.freeRange_outside rfl _))

theorem State.hazards_outside (c : TCmd) : SameOutside t s (s.hazards t c) := by
  refine .each (.refl t s) _ _ (fun v p hp => ?_)
  have hcluster := s.cluster_of_rival hp
  have hmeets := (v.freeMeets_outside (t := t) c.reads p.2.writes).trans (State.freeMeets_outside _ c.writes p.2.writes)
  dsimp only
  split
  · have hfree := hmeets.trans (.each (.refl t _) (fun s w => s.freeRange p.1 w) p.2.writes (fun v _ _ => v.freeRange_outside hcluster _))
    exact (hfree.trans (State.spoilOut_outside _ p.1 p.2)).trans (State.setTile_useFree_outside _ hcluster _ 16)
  · exact hmeets

/-! ### The effect of a command -/

theorem State.copyLine_outside (src dst : Space) (a b : Nat) : SameOutside t s (s.copyLine t src dst a b) := by
  cases dst with
  | tm => exact s.setTile_outside rfl _
  | cb => exact s.setClu_outside _

theorem State.openXfer_outside (c : TCmd) (w n : Bool) (sp : Space) (ps : List Piece) : SameOutside t s (s.openXfer t c w n sp ps) := by
  obtain ⟨l, k, h⟩ := s.openXfer_frame t c w n sp ps
  rw [h]
  exact .of_bare rfl rfl rfl rfl rfl

theorem State.startMove_outside {c : TCmd} {u : State} (h : s.startMove t c = .ok u) : SameOutside t s u := by
  unfold State.startMove at h
  dsimp only at h
  split at h
  · cases h
  · split at h
    · cases h
    · split at h
      · obtain rfl := Except.ok.inj h
        exact .each (.refl t s) _ _ (fun v _ _ => v.copyLine_outside _ _ _ _)
      · obtain rfl := Except.ok.inj h
        exact s.openXfer_outside _ _ _ _ _
      · obtain rfl := Except.ok.inj h
        exact s.openXfer_outside _ _ _ _ _
      · obtain rfl := Except.ok.inj h
        exact .refl t s

theorem State.startSectors_outside {c : TCmd} {w : Bool} {u : State} (h : s.startSectors t c w = .ok u) : SameOutside t s u := by
  unfold State.startSectors at h
  dsimp only at h
  split at h
  · cases h
  · obtain rfl := Except.ok.inj h
    exact s.openXfer_outside _ _ _ _ _

theorem State.startSend_outside {c : TCmd} {u : State} (h : s.startSend t c = .ok u) : SameOutside t s u := by
  unfold State.startSend at h
  dsimp only at h
  split at h
  · obtain rfl := Except.ok.inj h
    exact .of_bare rfl rfl rfl rfl rfl
  · obtain rfl := Except.ok.inj h
    exact .refl t s

theorem State.startRecv_outside {c : TCmd} {u : State} (h : s.startRecv t c = .ok u) : SameOutside t s u := by
  obtain rfl := Except.ok.inj h
  exact s.setTile_outside rfl _

theorem State.countCapped_outside (c : TCmd) : SameOutside t s (s.countCapped t c) := by
  unfold State.countCapped
  split
  · exact s.setClu_outside _
  · exact .refl t s

theorem State.onTile_outside {r : TileRes} {u : State} (h : s.onTile t r = .ok u) : SameOutside t s u := by
  cases r with
  | ok x =>
    obtain rfl := Except.ok.inj h
    exact s.setTile_outside rfl _
  | error e => cases h

theorem State.startEffect_outside {c : TCmd} {u : State} (h : s.startEffect t c = .ok u) : SameOutside t s u := by
  unfold State.startEffect at h
  split at h
  · exact s.startMove_outside h
  · exact s.startSectors_outside h
  · exact s.startSectors_outside h
  · exact s.startSend_outside h
  · exact s.startRecv_outside h
  · exact (s.countCapped_outside c).trans (State.onTile_outside _ h)

theorem State.perf_outside (c : TCmd) (x : Tile) : SameOutside t s (s.perf t c x) := by
  have hcounter : ∀ f ∈ [R.TIL_PERF_CUBE, R.TIL_PERF_VEC], f ∈ tilFlds := by decide
  rcases s.perf_cases t c x with h | ⟨f, hf, v, n, h⟩
  · rw [h]
    exact .refl t s
  · rw [h]
    exact (s.wrTil_outside (hcounter f hf) v).trans (.of_bare rfl rfl rfl rfl rfl)

/-! ### Faults, signals and starts -/

theorem State.faultFirst_outside (code index : Nat) : SameOutside t s (s.faultFirst t code index) := by
  unfold State.faultFirst
  dsimp only
  split
  · exact .refl t s
  · exact (((s.wrClu_outside (by decide) _).trans (State.wrClu_outside _ (by decide) _)).trans (State.wrClu_outside _ (by decide) _)).trans
      (State.wrClu_outside _ (by decide) _)

theorem State.faultShown_outside (code op index info : Nat) : SameOutside t s (s.faultShown t code op index info) := by
  unfold State.faultShown
  exact (((s.wrTil_outside (by decide) _).trans (State.wrTil_outside _ (by decide) _)).trans (State.wrTil_outside _ (by decide) _)).trans
    (State.wrTil_outside _ (by decide) _)

theorem State.stopTile_outside (st : Nat) : SameOutside t s (s.stopTile t st) := by
  obtain ⟨x, m, h⟩ := s.stopTile_frame t st
  rw [h]
  obtain ⟨hbare, hreqs, htile, hclu, hlook⟩ := s.setTile_outside (t := t) rfl { s.tile t with cmds := [], loops := [] }
  refine SameOutside.trans ?_ (State.wrTil_outside _ (by decide) st)
  exact ⟨hbare, hreqs, htile, hclu, hlook⟩

theorem State.withUnits_outside (us : List WUnit) : SameOutside t s (s.withUnits us) := .of_bare rfl rfl rfl rfl rfl

theorem State.tileFault_outside (code op index info : Nat) : SameOutside t s (s.tileFault t code op index info) := by
  obtain ⟨us, h⟩ := s.tileFault_eq t code op index info
  rw [h]
  exact (((s.stopTile_outside 9).trans (State.faultShown_outside _ code op index info)).trans (State.faultFirst_outside _ code index)).trans
    (State.withUnits_outside _ us)

/-- Signals go on their way, or one that overflows its counter faults its tile. -/
theorem State.signal_outside (op index : Nat) (sg : List (Nat × Nat × Nat)) : SameOutside t s (s.signal t op index sg) := by
  have hfold : ∀ (l : List (Nat × Nat × Nat)) (acc : State × Option Nat), SameOutside t s acc.1 → SameOutside t s (l.foldl (fun (acc : State × Option Nat) g =>
      let dst := t / 16 * 16 + g.1
      if 255 < acc.1.tokenDue dst g.2.1 + g.2.2 then (acc.1, acc.2.orElse (fun _ => some g.2.1))
      else ({ acc.1 with sigs := acc.1.sigs ++ [⟨dst, g.2.1, g.2.2, acc.1.unitOfTile t⟩] }, acc.2)) acc).1 := by
    intro l
    induction l with
    | nil => exact fun _ h => h
    | cons g l ih =>
      intro acc h
      refine ih _ ?_
      dsimp only
      split
      · exact h
      · exact h.trans (.of_bare rfl rfl rfl rfl rfl)
  have hsent := hfold sg (s, none) (.refl t s)
  unfold State.signal
  dsimp only at hsent ⊢
  split
  · exact hsent.trans (State.tileFault_outside _ _ _ _ _)
  · exact hsent

theorem State.settle_outside : SameOutside t s (s.settle t) := by
  unfold State.settle
  split
  · exact s.wrTil_outside (by decide) 8
  · exact .refl t s

theorem State.start_outside (c : TCmd) : SameOutside t s (s.start t c) := by
  unfold State.start
  extract_lets x d s1 s2
  have h2 : SameOutside t s s2 := (s.setTile_outside rfl _).trans (State.hazards_outside s1 d)
  split
  · exact h2.trans (State.tileFault_outside _ _ _ _ _)
  · next s3 heq =>
    refine .each ((h2.trans (State.startEffect_outside _ heq)).trans (State.perf_outside _ _ _)) _ _ (fun v p _ => ?_)
    exact v.freeMeets_outside d.writes p.2.writes

theorem State.issueNow_outside (op w0 w1 : Nat) (x : Tile) : SameOutside t s (s.issueNow t op w0 w1 x) := by
  unfold State.issueNow
  extract_lets c x3 s1 s2
  have h1 : SameOutside t s s1 := s.wrTil_outside (by decide) _
  split
  · exact ((h1.trans (State.setTile_outside _ rfl _)).trans (State.signal_outside _ _ _ _)).trans (State.settle_outside _)
  · have h2 : SameOutside t s s2 := h1.trans (State.setTile_outside _ rfl _)
    split
    · exact h2.trans (State.start_outside _ _)
    · exact h2

theorem State.issue_outside (p : Nat → Bool) : SameOutside t s (s.issue t p) := by
  have hstatus : ∀ (x : Tile) (st : Nat), SameOutside t s ((s.setTile t x).wrTil R.TIL_STATUS_STATE t st) := fun x st =>
    (s.setTile_outside rfl x).trans (State.wrTil_outside _ (by decide) st)
  unfold State.issue
  split
  · exact .refl t s
  · dsimp only
    split
    · exact hstatus _ _
    · split
      · exact .refl t s
      · split
        · exact (s.setTile_outside rfl _).trans (State.tileFault_outside _ _ _ _ _)
        · split
          · exact hstatus _ _
          · split
            · exact hstatus _ _
            · exact s.issueNow_outside _ _ _ _

end

/-- What the parts of a bare state say. -/
theorem SameOutside.fields {t : Nat} {s u : State} (h : SameOutside t s u) :
    u.dram = s.dram ∧ u.stcLines = s.stcLines ∧ u.ue = s.ue ∧ u.dirs = s.dirs ∧ u.descs = s.descs ∧ u.images = s.images ∧ u.shadow = s.shadow ∧
    u.tlbs = s.tlbs ∧ u.errs = s.errs ∧ u.out = s.out ∧ u.now = s.now :=
  have hb := h.bare
  ⟨congrArg (·.dram) hb, congrArg (·.stcLines) hb, congrArg (·.ue) hb, congrArg (·.dirs) hb, congrArg (·.descs) hb, congrArg (·.images) hb,
   congrArg (·.shadow) hb, congrArg (·.tlbs) hb, congrArg (·.errs) hb, congrArg (·.out) hb, congrArg (·.now) hb⟩

/-- Settles O16: a tile command changes its own cluster alone, and what it sends. -/
theorem tileCommandsFrame : Obligations.TileCommandsFrame := by
  unfold Obligations.TileCommandsFrame
  intro c t op s u hc hexec
  rw [exec_tileRow hc] at hexec
  obtain ⟨-, rfl⟩ := within_cases s _ u _ hexec
  have h := s.issue_outside (t := t) (· == op)
  generalize s.issue t (· == op) = v at h ⊢
  obtain ⟨hdram, hstc, hue, hdirs, hdescs, himages, hshadow, htlbs, herrs, hout, hnow⟩ := h.fields
  refine ⟨hdram, hstc, hue, hdirs, h.reqs, hdescs, himages, hshadow, htlbs, herrs, hout, hnow, rfl, h.tile, h.clu, fun k hk => h.look k (fun hin => ?_)⟩
  obtain ⟨hlow, hhigh⟩ := hin
  omega

end Sys2Proof.Machine
end

section
/-! SUPPORT. The dispatchers (R75, R78, R80, R81): loads, releases, refills, ends and stops of a unit's clusters. -/

namespace Sys2Proof.Machine

/-! ### The unit on the hub -/

/-- An update of a unit that keeps its number is what a lookup then finds. -/
theorem State.unit?_updUnit {s : State} {uid : Nat} {w : WUnit} (h : s.unit? uid = some w) (f : WUnit → WUnit) (hf : ∀ u, (f u).id = u.id) :
    (s.updUnit uid f).unit? uid = some (f w) := by
  have hid : ∀ u : WUnit, (if u.id == uid then f u else u).id = u.id := by
    intro u
    split
    · exact hf u
    · rfl
  have hw : w.id = uid := by simpa using List.find?_some h
  unfold State.unit? at h
  simp only [State.unit?, State.updUnit, List.find?_map, Function.comp_def, hid, h, Option.map_some]
  simp [hw]

/-! ### Steps over a list of places -/

/-- What the step of each place brings about there, and every step keeps, holds at every place of the list. -/
theorem State.each_establishes {α : Type} (P : α → State → Prop) (f : State → α → State) (hset : ∀ s a, P a (f s a)) (hkeep : ∀ s a b, P a s → P a (f s b))
    (l : List α) (s : State) : ∀ a ∈ l, P a (s.each l f) := by
  induction l generalizing s with
  | nil => exact fun a ha => absurd ha (List.not_mem_nil)
  | cons b l ih =>
    intro a ha
    rcases List.mem_cons.1 ha with rfl | ha
    · exact State.each_keeps (P a) f (fun s b => hkeep s a b) l _ (hset s a)
    · exact ih (f s b) a ha

/-- A fold that no step changes in some respect. -/
theorem foldl_same {α β γ : Type} (g : β → γ) (f : β → α → β) (hf : ∀ b a, g (f b a) = g b) : ∀ (l : List α) (b : β), g (l.foldl f b) = g b
  | [], _ => rfl
  | a :: l, b => (foldl_same g f hf l (f b a)).trans (hf b a)

/-! ### The load of an image (R80) -/

/-- One piece of a read: what went before goes on only if it succeeded. -/
def readPiece (acc : MemRes × State) (x : Option (Nat × Nat) × Req) : MemRes × State :=
  match acc with
  | (.ok bs, s) =>
    if x.1.isNone then (.decode, s)
    else (match s.askMem x.2 with
      | (.ok cs, s) => (.ok (bs ++ cs), s)
      | r => r)
  | r => r

/-- An answer taken changes the requests alone. -/
theorem State.askMem_ok {s v : State} {r : Req} {bs : List Byte} (h : s.askMem r = (.ok bs, v)) : ∃ q, v = { s with reqs := q } := by
  cases ha : s.answer? r with
  | none =>
    rw [State.askMem_unanswered s ha] at h
    cases h
  | some x =>
    rw [State.askMem_answered s ha] at h
    exact ⟨_, (Prod.mk.inj h).2.symm⟩

theorem readPiece_ok {acc : MemRes × State} {x : Option (Nat × Nat) × Req} {bs : List Byte} {v : State} (h : readPiece acc x = (.ok bs, v)) :
    ∃ cs, acc.1 = .ok cs ∧ ∃ q, v = { acc.2 with reqs := q } := by
  unfold readPiece at h
  split at h
  · next cs s =>
    refine ⟨cs, rfl, ?_⟩
    split at h
    · cases h
    · split at h
      · next ds u hask =>
        obtain rfl := (Prod.mk.inj h).2
        exact State.askMem_ok hask
      · next hbad => exact absurd h (fun h => hbad _ _ h)
  · next hbad => exact absurd h (hbad _ _)

theorem readPieces_ok (l : List (Option (Nat × Nat) × Req)) (acc : MemRes × State) (bs : List Byte) (v : State) (h : l.foldl readPiece acc = (.ok bs, v)) :
    ∃ cs, acc.1 = .ok cs ∧ ∃ q, v = { acc.2 with reqs := q } := by
  induction l generalizing acc with
  | nil =>
    obtain rfl : acc = (.ok bs, v) := h
    exact ⟨bs, rfl, v.reqs, rfl⟩
  | cons x l ih =>
    obtain ⟨cs, hcs, q, rfl⟩ := ih _ h
    obtain ⟨ds, hds, p, hp⟩ := readPiece_ok (Prod.ext hcs rfl : readPiece acc x = (.ok cs, (readPiece acc x).2))
    exact ⟨ds, hds, q, by rw [hp]⟩

/-- A read that succeeds had nothing asked for, and takes answers alone. -/
theorem State.physRead_ok {s s1 : State} {a : Agent} {dpa n : Nat} {d : List Byte} (h : s.physRead a dpa n = (.ok d, s1)) :
    s.ask = [] ∧ ∃ q, s1 = { s with reqs := q } := by
  unfold State.physRead at h
  split at h
  · cases h
  · next hask =>
    dsimp only at h
    split at h
    · exact ⟨not_not.1 hask, (readPieces_ok _ (.ok [], s) d s1 h).choose_spec.2⟩
    · cases h

/-- What a ring has of its program: its entries, their number and the head of issue. -/
def Tile.program (x : Tile) : Nat × Nat × Nat := (x.ringSize, x.codeLen, x.head)

/-- What the dispatcher knows of a cluster it has loaded. -/
def Cluster.load (k : Cluster) : Bool × Nat × Option Nat := (k.loaded, k.ringRegion, k.lastCtx)

theorem State.putEntries_frame (s : State) (c : Nat) (x : Tile) (lo hi : Nat) : ∃ k, s.putEntries c x lo hi = { s with clusters := k } :=
  State.each_keeps (fun u => ∃ k, u = { s with clusters := k }) _ (fun u i hu => by
    obtain ⟨k, rfl⟩ := hu
    exact ⟨_, rfl⟩) _ _ ⟨s.clusters, rfl⟩

@[simp] theorem State.tile_putEntries (s : State) (c : Nat) (x : Tile) (lo hi t : Nat) : (s.putEntries c x lo hi).tile t = s.tile t := by
  obtain ⟨k, h⟩ := s.putEntries_frame c x lo hi
  rw [h]
  rfl

theorem State.load_putEntries (s : State) (c : Nat) (x : Tile) (lo hi : Nat) : ((s.putEntries c x lo hi).clu c).load = (s.clu c).load :=
  State.each_keeps (fun u => (u.clu c).load = (s.clu c).load) _ (fun u i hu => by
    rw [State.clu_setClu_same]
    exact hu) _ _ rfl

/-- A tile's load gives it its program, and puts entries into its cluster's buffer. -/
theorem State.loadTile_eq (s : State) (c : Nat) (w : WUnit) (d : List Byte) (l t : Nat) :
    ∃ x : Tile, x.program = (2 ^ imgNat d (imgHeader d l t + 8) 1, imgNat d (imgHeader d l t + 4) 4, 0) ∧
      s.loadTile c w d l t = ((s.useFree (2 ^ 17)).setTile (16 * c + t) x).putEntries c x 0 x.written := by
  refine ⟨_, ?_, rfl⟩
  refine (foldl_same Tile.program _ ?_ _ _).trans ((foldl_same Tile.program _ ?_ _ _).trans (foldl_same Tile.program _ ?_ _ _)) <;>
  exact fun _ _ => rfl

section
variable {c : Nat} {w : WUnit} {d : List Byte} {l : Nat}

theorem State.program_loadTile (s : State) (t : Nat) : ((s.loadTile c w d l t).tile (16 * c + t)).program =
    (2 ^ imgNat d (imgHeader d l t + 8) 1, imgNat d (imgHeader d l t + 4) 4, 0) := by
  obtain ⟨x, hx, h⟩ := s.loadTile_eq c w d l t
  rw [h, State.tile_putEntries, State.tile_setTile_same, hx]

theorem State.program_loadTile_ne (s : State) {t v : Nat} (h : v ≠ 16 * c + t) : ((s.loadTile c w d l t).tile v).program = (s.tile v).program := by
  obtain ⟨x, -, hx⟩ := s.loadTile_eq c w d l t
  rw [hx, State.tile_putEntries, State.tile_setTile_ne _ _ _ _ h]
  rfl

theorem State.loadTile_keeps (s : State) (t : Nat) : (s.loadTile c w d l t).ask = s.ask ∧ ((s.loadTile c w d l t).clu c).load = (s.clu c).load := by
  obtain ⟨x, -, h⟩ := s.loadTile_eq c w d l t
  rw [h, State.load_putEntries]
  obtain ⟨k, hk⟩ := ((s.useFree (2 ^ 17)).setTile (16 * c + t) x).putEntries_frame c x 0 x.written
  rw [hk]
  exact ⟨rfl, rfl⟩

/-- The cluster and its masked tiles once a load is done. -/
theorem State.loadTiles (s : State) (ts : List Nat) :
    (s.each ts (fun s t => s.loadTile c w d l t)).ask = s.ask ∧ ((s.each ts (fun s t => s.loadTile c w d l t)).clu c).load = (s.clu c).load ∧
    ∀ t ∈ ts, ((s.each ts (fun s t => s.loadTile c w d l t)).tile (16 * c + t)).program =
      (2 ^ imgNat d (imgHeader d l t + 8) 1, imgNat d (imgHeader d l t + 4) 4, 0) := by
  obtain ⟨hask, hload⟩ := State.each_keeps (fun u => u.ask = s.ask ∧ (u.clu c).load = (s.clu c).load) (fun s t => s.loadTile c w d l t) (fun u t hu => by
    obtain ⟨hask, hload⟩ := u.loadTile_keeps (c := c) (w := w) (d := d) (l := l) t
    exact ⟨hask.trans hu.1, hload.trans hu.2⟩) ts s ⟨rfl, rfl⟩
  refine ⟨hask, hload, State.each_establishes (fun t u => (u.tile (16 * c + t)).program = _) _ (fun u t => u.program_loadTile t) (fun u t v hu => ?_) ts s⟩
  by_cases h : t = v
  · subst h
    exact u.program_loadTile t
  · exact (u.program_loadTile_ne (by omega)).trans hu

end

/-- A cluster and its tiles before the programs of a load: their memory undefined (R78), the command ring's region and the context the image's. -/
def State.blankCluster (s : State) (c region key : Nat) : State :=
  ((s.setClu c { s.clu c with
    buf := [], fill := some s.free, ringRegion := region, capped := 0, lastCtx := some key, loaded := true, ended := false }).useFree (2 ^ 20)).each
    (List.range 16) (fun s t => (s.setTile (16 * c + t) { Tile.idle with fill := some s.free }).useFree (2 ^ 17))

theorem State.blankCluster_keeps (s : State) (c region key : Nat) : (s.blankCluster c region key).ask = s.ask ∧
    ((s.blankCluster c region key).clu c).load = (true, region, some key) := by
  refine State.each_keeps (fun u => u.ask = s.ask ∧ (u.clu c).load = (true, region, some key)) _ ?_ _ _ ⟨rfl, ?_⟩
  · exact fun _ _ hu => hu
  · have huse : ∀ (u : State) (n : Nat), (u.useFree n).clu c = u.clu c := fun _ _ => rfl
    rw [huse, State.clu_setClu_same]
    rfl

/-- A load of an image that is read, of a unit without an argument block (R80). -/
theorem exec_dispatchLoad {c : Nat} {host : List Byte} {s s1 : State} {uid : Nat} {w : WUnit} {img : Image} {d : List Byte} (hc : c < 512)
    (hunit : (s.clu c).unit = some uid) (hw : s.unit? uid = some w) (hstate : s.rdClu R.CLU_STATUS_STATE c = 1) (hload : (s.clu c).loaded = false)
    (hstop : w.stopped = false)
    (himg : s.images.find? (fun (i : Image) => i.part == w.part && i.ctx == w.ctx && i.handle == w.image) = some img)
    (hctx : (s.clu c).lastCtx = some (16 * w.part + w.ctx)) (hread : s.physRead (Agent.loader w c) img.store img.data.length = (.ok d, s1))
    (hargs : imgNat d 0x24 4 = 0) :
    ∃ u, exec (.dispatchLoad c host) s = .next u ∧ (u.clu c).load = (true, imgNat d 0x20 4, some (16 * w.part + w.ctx)) ∧
      ∀ t ∈ maskTiles (imgMask d (s.clu c).logical), (u.tile (16 * c + t)).program =
        (2 ^ imgNat d (imgHeader d (s.clu c).logical t + 8) 1, imgNat d (imgHeader d (s.clu c).logical t + 4) 4, 0) := by
  obtain ⟨hask, q, hs1⟩ := State.physRead_ok hread
  have hclu : s1.clu c = s.clu c := by rw [hs1]; rfl
  have hload : s.dispatchLoad c host = (s1.blankCluster c (imgNat d 0x20 4) (16 * w.part + w.ctx)).each (maskTiles (imgMask d (s.clu c).logical))
      (fun s t => s.loadTile c w d (s1.clu c).logical t) := by
    unfold State.dispatchLoad
    rw [hunit, Option.bind_some, hw]
    dsimp only
    rw [if_neg (by simp [hstate, hload, hstop]), himg]
    dsimp only
    rw [if_pos hctx, hread]
    dsimp only
    rw [if_pos hargs]
    dsimp only
    rw [if_pos hargs, ← hclu]
    rfl
  obtain ⟨hbask, hbload⟩ := s1.blankCluster_keeps c (imgNat d 0x20 4) (16 * w.part + w.ctx)
  rw [hclu] at hload
  obtain ⟨htask, htload, htiles⟩ := (s1.blankCluster c (imgNat d 0x20 4) (16 * w.part + w.ctx)).loadTiles (c := c) (w := w) (d := d)
    (l := (s.clu c).logical) (maskTiles (imgMask d (s.clu c).logical))
  refine ⟨_, within_next s _ _ (by simpa using hc), ?_⟩
  rw [s.orWait_here _ (by rw [hload, htask, hbask, hs1]; exact hask), hload]
  exact ⟨htload.trans hbload, htiles⟩

/-! ### Release (R81) -/

/-- The admission window, to the last release (R210). -/
def State.noteWindow (s : State) (dt admitted : Nat) : State :=
  let s := s.at_ dt
  let w := min 65535 ((s.now - admitted) / 10)
  s.wrs 0 [] [(R.SHD_WINDOW_WINDOW_LAST, w), (R.SHD_WINDOW_WINDOW_MAX, max w (s.rd R.SHD_WINDOW_WINDOW_MAX 0))]

/-- The step of a release at one cluster. -/
def State.releaseAt (s : State) (c : Nat) : State :=
  let s := s.wrClu R.CLU_STATUS_STATE c 2
  let s := s.setClu c { s.clu c with metered := (s.clu c).metered || s.rdClu R.CLU_CTRL_PERF_ENABLE c == 1 }
  s.each (maskTiles (s.rdClu R.CLU_STATUS_TILE_MASK c)) (fun s t => s.wrTil R.TIL_STATUS_STATE (16 * c + t) 1)

theorem State.rdClu_each_wrTil {α : Type} (s : State) {f g : Fld} (hf : f ∈ tilFlds) (hg : g ∈ cluFlds) (l : List α) (i v : α → Nat) (c : Nat) :
    (s.each l (fun s a => s.wrTil f (i a) (v a))).rdClu g c = s.rdClu g c :=
  State.each_keeps (fun u => u.rdClu g c = s.rdClu g c) _ (fun u _ hu => (u.rdClu_wrTil hf hg _ _ _).trans hu) l s rfl

theorem State.status_releaseAt (s : State) (c e : Nat) :
    (s.releaseAt c).rdClu R.CLU_STATUS_STATE e = if e = c then 2 else s.rdClu R.CLU_STATUS_STATE e := by
  unfold State.releaseAt
  rw [State.rdClu_each_wrTil _ (by decide) (by decide), State.rdClu_setClu]
  split
  · next h =>
    subst h
    exact s.rdClu_wrClu_same _ _ _
  · next h => exact s.rdClu_wrClu_other (by decide) (by decide) h _

theorem State.units_releaseAt (s : State) (c : Nat) : (s.releaseAt c).units = s.units := by
  refine State.each_keeps (fun u => u.units = s.units) _ ?_ _ _ rfl
  exact fun _ _ hu => hu

theorem exec_startRelease {uid dt : Nat} {s : State} {w : WUnit} (hw : s.unit? uid = some w) (hkind : w.kind = .kernel) (hrel : w.released = false)
    (hend : w.ending = none) (hload : ∀ c ∈ w.clusters, (s.clu c).loaded = true) :
    ∃ u, exec (.startRelease uid dt) s = .next u ∧ (∀ c ∈ w.clusters, u.rdClu R.CLU_STATUS_STATE c = 2) ∧
      u.unit? uid = some { w with released := true } := by
  have hexec : exec (.startRelease uid dt) s = .next ((((s.noteWindow dt w.admitted).updUnit uid (fun u => { u with released := true })).each w.clusters
      State.releaseAt).withQueue s.pending) := by
    refine (within_next s _ true rfl).trans ?_
    rw [hw]
    dsimp only
    rw [if_neg (by simp [hkind, hrel, hend]; exact hload)]
    rfl
  have hv : ((s.noteWindow dt w.admitted).updUnit uid (fun u => { u with released := true })).unit? uid = some { w with released := true } :=
    State.unit?_updUnit hw (fun u => { u with released := true }) (fun _ => rfl)
  generalize (s.noteWindow dt w.admitted).updUnit uid (fun u => { u with released := true }) = v at hexec hv
  have hunits : (v.each w.clusters State.releaseAt).units = v.units :=
    State.each_keeps (fun u => u.units = v.units) State.releaseAt (fun u c hu => (u.units_releaseAt c).trans hu) w.clusters v rfl
  refine ⟨_, hexec, fun c hc => ?_, ?_⟩
  · refine State.each_establishes (fun c u => u.rdClu R.CLU_STATUS_STATE c = 2) State.releaseAt (fun u c => ?_) (fun u c e hu => ?_) w.clusters v c hc
    · rw [State.status_releaseAt, if_pos rfl]
    · rw [State.status_releaseAt, hu, ite_self]
  · show (v.each w.clusters State.releaseAt).units.find? _ = _
    rw [hunits]
    exact hv

/-! ### Refill (R80, step 7) -/

theorem exec_ringRefill {t : Nat} {s : State} (ht : t < 8192) (hrun : s.rdClu R.CLU_STATUS_STATE (t / 16) = 2)
    (hroom : (s.tile t).written < min (s.tile t).codeLen ((s.tile t).oldest + (s.tile t).ringSize)) :
    ∃ u, exec (.ringRefill t) s = .next u ∧ (u.tile t).written = min (s.tile t).codeLen ((s.tile t).oldest + (s.tile t).ringSize) := by
  refine ⟨_, within_next s _ _ (by simpa using ht), ?_⟩
  dsimp only
  rw [if_neg (by simp [hrun, Nat.not_le.2 hroom]), State.tile_withQueue, State.tile_putEntries, State.tile_setTile_same]

/-! ### The end of a cluster's part (R73, R75) -/

/-- A cluster whose part of the unit is over. -/
def State.cluEnding (s : State) (c : Nat) : State := (s.setClu c { s.clu c with ended := true }).wrClu R.CLU_STATUS_STATE c 3

theorem State.status_cluEnding (s : State) (c e : Nat) :
    (s.cluEnding c).rdClu R.CLU_STATUS_STATE e = if e = c then 3 else s.rdClu R.CLU_STATUS_STATE e := by
  split
  · next h =>
    subst h
    exact State.rdClu_wrClu_same _ _ _ _
  · next h => exact (State.rdClu_wrClu_other _ (by decide) (by decide) h _).trans rfl

theorem State.ended_cluEnding (s : State) (c e : Nat) : ((s.cluEnding c).clu e).ended = if e = c then true else (s.clu e).ended := by
  unfold State.cluEnding
  rw [State.clu_wrClu]
  split
  · next h =>
    subst h
    rw [State.clu_setClu_same]
  · next h => rw [State.clu_setClu_ne _ _ _ _ h]

theorem exec_clusterUnitEnd {c uid : Nat} {s : State} (hc : c < 512) (hunit : (s.clu c).unit = some uid) (hrun : s.rdClu R.CLU_STATUS_STATE c = 2)
    (hdone : ∀ t ∈ maskTiles (s.rdClu R.CLU_STATUS_TILE_MASK c), s.rdTil R.TIL_STATUS_STATE (16 * c + t) = 8) :
    ∃ u, exec (.clusterUnitEnd c) s = .next u ∧ (u.clu c).ended = true ∧ u.rdClu R.CLU_STATUS_STATE c = 3 := by
  refine ⟨_, within_next s _ _ (by simpa using hc), ?_⟩
  rw [hunit]
  dsimp only
  rw [if_neg (by simp [hrun]; exact hdone)]
  show ((s.cluEnding c).clu c).ended = true ∧ (s.cluEnding c).rdClu R.CLU_STATUS_STATE c = 3
  rw [State.ended_cluEnding, State.status_cluEnding, if_pos rfl, if_pos rfl]
  exact ⟨rfl, rfl⟩

/-- Tiles of a cluster that stop (R75). -/
def State.stopTiles (s : State) (c : Nat) : State :=
  s.each (maskTiles (s.rdClu R.CLU_STATUS_TILE_MASK c)) (fun s t =>
    let T := 16 * c + t
    if s.rdTil R.TIL_STATUS_STATE T = 8 ∨ s.rdTil R.TIL_STATUS_STATE T = 9 then s else s.stopTile T 8)

/-- They leave the clusters and the units. -/
theorem State.stopTiles_keeps (s : State) (c : Nat) : (s.stopTiles c).units = s.units ∧ (s.stopTiles c).clusters = s.clusters ∧
    ∀ e, (s.stopTiles c).rdClu R.CLU_STATUS_STATE e = s.rdClu R.CLU_STATUS_STATE e := by
  refine State.each_keeps (fun u => u.units = s.units ∧ u.clusters = s.clusters ∧ ∀ e, u.rdClu R.CLU_STATUS_STATE e = s.rdClu R.CLU_STATUS_STATE e) _
    (fun u t hu => ?_) _ _ ⟨rfl, rfl, fun _ => rfl⟩
  obtain ⟨hunits, hclusters, hstatus⟩ := hu
  dsimp only
  split
  · exact ⟨hunits, hclusters, hstatus⟩
  · refine ⟨hunits, hclusters, fun e => (State.rdClu_wrTil _ (by decide) (by decide) _ _ _).trans (hstatus e)⟩

/-- What holds of a cluster that has ended. -/
def ClusterEnded (c : Nat) (s : State) : Prop := (s.clu c).ended = true ∧ s.rdClu R.CLU_STATUS_STATE c = 3

theorem ClusterEnded.of_ending (s : State) (c : Nat) : ClusterEnded c (s.cluEnding c) := by
  rw [ClusterEnded, State.ended_cluEnding, State.status_cluEnding, if_pos rfl, if_pos rfl]
  exact ⟨rfl, rfl⟩

theorem ClusterEnded.ending {s : State} {c : Nat} (h : ClusterEnded c s) (e : Nat) : ClusterEnded c (s.cluEnding e) := by
  obtain ⟨hended, hstatus⟩ := h
  rw [ClusterEnded, State.ended_cluEnding, State.status_cluEnding, hended, hstatus, ite_self, ite_self]
  exact ⟨rfl, rfl⟩

theorem ClusterEnded.stopTiles {s : State} {c : Nat} (h : ClusterEnded c s) (e : Nat) : ClusterEnded c (s.stopTiles e) := by
  obtain ⟨-, hclusters, hstatus⟩ := s.stopTiles_keeps e
  rw [ClusterEnded, State.clu, hclusters, hstatus]
  exact h

theorem State.stopClusters_ends (s : State) (w : WUnit) : ∀ c ∈ w.clusters, ClusterEnded c (s.stopClusters w) :=
  State.each_establishes ClusterEnded (fun s c => (s.stopTiles c).cluEnding c) (fun _ _ => .of_ending _ _) (fun _ _ e h => (h.stopTiles e).ending e) w.clusters s

theorem State.units_stopClusters (s : State) (w : WUnit) : (s.stopClusters w).units = s.units :=
  State.each_keeps (fun u => u.units = s.units) (fun s c => (s.stopTiles c).cluEnding c) (fun u c hu => (u.stopTiles_keeps c).1.trans hu) w.clusters s rfl

theorem exec_unitStop {uid : Nat} {s : State} {w : WUnit} {e : Ending} (hw : s.unit? uid = some w) (hend : w.ending = some e) (hstop : w.stopped = false)
    (hdone : w.done = false) (hkind : w.kind = .kernel) :
    ∃ u, exec (.unitStop uid) s = .next u ∧ (∀ c ∈ w.clusters, (u.clu c).ended = true ∧ u.rdClu R.CLU_STATUS_STATE c = 3) ∧
      u.unit? uid = some { w with stopped := true, done := true } := by
  have hexec : exec (.unitStop uid) s =
      .next (((s.stopClusters w).updUnit uid (fun u => { u with stopped := true, done := true })).withQueue s.pending) := by
    refine (within_next s _ true rfl).trans ?_
    rw [hw]
    dsimp only
    rw [if_neg (by simp [hend, hstop, hdone]), hkind]
  have hunit : (s.stopClusters w).unit? uid = some w := by rw [State.unit?, s.units_stopClusters, ← hw, State.unit?]
  exact ⟨_, hexec, s.stopClusters_ends w, State.unit?_updUnit hunit (fun u => { u with stopped := true, done := true }) (fun _ => rfl)⟩

/-- Settles O17: what the dispatchers do with a unit's clusters. -/
theorem dispatcherCommandsComplete : Obligations.DispatcherCommandsComplete := by
  unfold Obligations.DispatcherCommandsComplete
  refine ⟨⟨?_, fun uid dt s w => exec_startRelease, fun t s => exec_ringRefill, fun c uid s => exec_clusterUnitEnd⟩, fun uid s w e => exec_unitStop⟩
  intro c host s s1 uid w img d hc hunit hw hstate hload hstop himg hctx hread hargs
  obtain ⟨u, hexec, hclu, htiles⟩ := exec_dispatchLoad (host := host) hc hunit hw hstate hload hstop himg hctx hread hargs
  simp only [Cluster.load, Tile.program, Prod.mk.injEq] at hclu htiles
  obtain ⟨hloaded, hregion, hlast⟩ := hclu
  exact ⟨u, hexec, hloaded, hregion, hlast, htiles⟩

end Sys2Proof.Machine
end

section
/-! SUPPORT. What the error engine leaves alone (R510, R541 to R548): the counts of disclosed contexts and who was counted in this tick. -/

namespace Sys2Proof.Machine

/-! ### States that agree on disclosures -/

/-- A bit of the DISCLOSURE counters (R510). -/
def InDisclose (k : Nat) : Prop := 8 * 0x701000 ≤ k ∧ k < 8 * 0x702000

/-- Two states with the same counters of disclosures and the same contexts counted. -/
structure SameDisclosure (s u : State) : Prop where
  disclosed : u.disclosed = s.disclosed
  look : ∀ k, InDisclose k → SMap.look u.regs k = SMap.look s.regs k

/-- A field that stands above the counters, or has one place, below them. -/
def Fld.offDisclose (f : Fld) : Bool := decide (0x702000 ≤ f.base) || (f.dims.isEmpty && decide (8 * f.base + f.lo < 8 * 0x701000))

theorem key_offDisclose {f : Fld} (hf : f.offDisclose = true) (d : Nat) (ix : List Nat) : ¬InDisclose (f.key d ix) := by
  simp only [Fld.offDisclose, Bool.or_eq_true, Bool.and_eq_true, decide_eq_true_eq] at hf
  simp only [InDisclose, Fld.key, Fld.offset]
  rcases hf with habove | ⟨hdims, hbelow⟩
  · omega
  · have hsum : strideSum f.dims ix = 0 := by
      rw [List.isEmpty_iff.1 hdims]
      rfl
    obtain rfl | hd := Nat.eq_zero_or_pos d
    · omega
    · have hdie : 2 ^ 26 ≤ d * 2 ^ 26 := Nat.le_mul_of_pos_left _ hd
      omega

namespace SameDisclosure

theorem refl (s : State) : SameDisclosure s s := ⟨rfl, fun _ _ => rfl⟩

theorem trans {s u v : State} (h : SameDisclosure s u) (g : SameDisclosure u v) : SameDisclosure s v :=
  ⟨g.disclosed.trans h.disclosed, fun k hk => (g.look k hk).trans (h.look k hk)⟩

/-- Changes of other parts of the state. -/
theorem of_rest {s u : State} (hdisclosed : u.disclosed = s.disclosed) (hregs : u.regs = s.regs) : SameDisclosure s u := ⟨hdisclosed, fun _ _ => by rw [hregs]⟩

theorem each {α : Type} {s u : State} (h : SameDisclosure s u) (f : State → α → State) (hf : ∀ v a, SameDisclosure v (f v a)) (l : List α) :
    SameDisclosure s (u.each l f) :=
  State.each_keeps (SameDisclosure s) f (fun v a hv => hv.trans (hf v a)) l u h

end SameDisclosure

section
variable (s : State)

theorem State.wr_discloses {f : Fld} {d : Nat} {ix : List Nat} (h : ¬InDisclose (f.key d ix)) (v : Nat) : SameDisclosure s (s.wr f d ix v) :=
  ⟨rfl, fun _ hk => SMap.look_ins_ne _ _ (fun he => h (he ▸ hk))⟩

theorem State.wr_offDisclose {f : Fld} (hf : f.offDisclose = true) (d : Nat) (ix : List Nat) (v : Nat) : SameDisclosure s (s.wr f d ix v) :=
  s.wr_discloses (key_offDisclose hf d ix) v

/-- A place below the counters on its die. -/
theorem State.wr_low {f : Fld} {ix : List Nat} (h : f.offset ix < 0x700000 ∧ f.lo < 64) (d v : Nat) : SameDisclosure s (s.wr f d ix v) := by
  refine s.wr_discloses (fun hin => ?_) v
  obtain ⟨hoff, hlo⟩ := h
  simp only [InDisclose, Fld.key] at hin
  omega

/-! ### Memory, the stack cache and the ports -/

theorem State.wr_memPort_discloses {f : Fld} (hf : f ∈ [R.MEM_PORT_UE, R.MEM_PORT_SECTORS, R.MEM_PORT_LAST_UE]) (d q v : Nat) :
    SameDisclosure s (s.wr f d (portIx q) v) := by
  have hport : q / 8 % 32 < 32 := Nat.mod_lt _ (by decide)
  have hplace : ∀ f ∈ [R.MEM_PORT_UE, R.MEM_PORT_SECTORS, R.MEM_PORT_LAST_UE], f.dims = [(32, 0x40)] ∧ f.base < 0x302000 ∧ f.lo < 64 := by decide
  obtain ⟨hdims, hbase, hlo⟩ := hplace f hf
  refine s.wr_low ⟨?_, hlo⟩ d v
  simp only [Fld.offset, hdims, portIx, strideSum]
  omega

theorem State.writeBack_discloses (l : StcLine) : SameDisclosure s (s.writeBack l) := by
  have heach := (SameDisclosure.refl s).each (fun s i => { s with ue := SMap.del s.ue ((qAddr l.q (l.gran * 256 + 32 * i)) / 32) })
    (fun v i => .of_rest rfl rfl) (maskList l.dirty)
  simp only [State.writeBack]
  split
  · exact heach.trans (State.wr_memPort_discloses _ (by decide) _ _ _)
  · exact heach.trans (State.wr_offDisclose _ (by decide) _ _ _)

theorem State.stcFill_discloses (q gran mask valid dirty rrpv : Nat) : SameDisclosure s (s.stcFill q gran mask valid dirty rrpv) := by
  simp only [State.stcFill]
  split
  · exact .of_rest rfl rfl
  · split
    · exact .of_rest rfl rfl
    · exact (s.writeBack_discloses _).trans (.of_rest rfl rfl)

theorem State.stcAccess_discloses (q gran mask dpa part : Nat) (hint write : Bool) : SameDisclosure s (s.stcAccess q gran mask dpa part hint write) := by
  have hbump : ∀ (t : State) (f : Fld) (d : Nat), f ∈ [R.STC_BYPASS, R.STC_HITS, R.STC_MISSES] → SameDisclosure t (t.bump f d [] 1) := by
    intro t f d hf
    exact t.wr_offDisclose (by revert f; decide) d [] _
  unfold State.stcAccess
  extract_lets d st m dm s1 s2 here
  have hs1 : SameDisclosure s s1 := by
    show SameDisclosure s (if _ then _ else _)
    split
    · exact hbump s _ d (by decide)
    · exact .refl s
  have hs2 : SameDisclosure s s2 := by
    refine hs1.trans ?_
    show SameDisclosure s1 (if _ then _ else _)
    split
    · split
      · split
        · exact hbump _ _ d (by decide)
        · exact .refl _
      · exact hbump _ _ d (by decide)
    · exact hbump _ _ d (by decide)
  split
  · exact .refl s
  · split
    · split <;> split <;> exact hs2.trans (State.stcFill_discloses _ _ _ _ _ _ _)
    · split
      · split
        · exact hs2.trans (.of_rest rfl rfl)
        · exact hs2
      · exact hs2.trans (State.stcFill_discloses _ _ _ _ _ _ _)

theorem State.qPut_discloses (q loc : Nat) (bs : List Byte) : SameDisclosure s (s.qPut q loc bs) := by
  simp only [State.qPut]
  split
  · exact s.wr_memPort_discloses (by decide) _ _ _
  · exact .of_rest rfl rfl

theorem State.knlMark_discloses (dpa q : Nat) : SameDisclosure s (s.knlMark dpa q) := by
  simp only [State.knlMark]
  split <;> exact .of_rest rfl rfl

/-! ### The Leash and posted writes -/

theorem State.fabricTake_discloses {m : Nat} (hm : m < 1024) (d : Nat) (links : List Nat) (n : Nat) (own : Bool) :
    SameDisclosure s (s.fabricTake d m links n own) := by
  obtain ⟨a, b, h | ⟨v, h⟩⟩ := s.fabricTake_cases d m links n own
  · rw [h]
    exact .of_rest rfl rfl
  · rw [h]
    refine SameDisclosure.trans ?_ (State.wr_low _ ?_ d v)
    · exact .of_rest rfl rfl
    · simp only [Fld.offset, strideSum, R.FLL_M_SLOTTED]
      omega

/-- A master port and a class that the package has. -/
def Req.ofPort (r : Req) : Prop := r.mport < 1024 ∧ r.cls < 4

theorem State.goes_discloses {r : Req} (hr : r.ofPort) (g : Bool) : SameDisclosure s (s.goes r g) := by
  obtain ⟨hm, hc⟩ := hr
  have hsend : SameDisclosure s (if g then s.sendGuar r.die r.mport r.cls r.units else s.sendBe r.die r.mport r.cls r.units) := by
    split
    · refine SameDisclosure.trans ?_ (State.wr_low _ ?_ _ _)
      · exact .of_rest rfl rfl
      · simp only [Fld.offset, strideSum, R.LSH_M_GUAR]
        omega
    · refine State.wr_low _ ?_ _ _
      simp only [Fld.offset, strideSum, R.LSH_M_BE]
      omega
  exact hsend.trans (State.fabricTake_discloses _ hm _ _ _ _)

theorem State.leash1_discloses {r : Req} (hr : r.ofPort) : SameDisclosure s (s.leash1 r) := by
  unfold State.leash1
  extract_lets u joined old drained r1 links ok r2
  have hr2 : r2.ofPort := by
    show (if drained then { r with drain := true, guar := true } else r : Req).mport < 1024 ∧ (if drained then { r with drain := true, guar := true } else r : Req).cls < 4
    split <;> exact hr
  split
  · exact (s.goes_discloses hr2 true).trans (.of_rest rfl rfl)
  · split
    · exact .of_rest rfl rfl
    · exact (s.goes_discloses hr2 false).trans (.of_rest rfl rfl)

theorem State.portServe_discloses {c : Nat} (hc : c < 4) (d m q units age : Nat) : SameDisclosure s (s.portServe d m q c units age) := by
  have hport : q / 8 % 32 < 32 := Nat.mod_lt _ (by decide)
  have hcount : ∀ (t : State) (f : Fld) (n : Nat), f ∈ [R.LSH_PORT_UNITS, R.LSH_PORT_LATE] → SameDisclosure t (t.bump f (qDie q) (portIx q ++ [c]) n) := by
    intro t f n hf
    have hplace : ∀ f ∈ [R.LSH_PORT_UNITS, R.LSH_PORT_LATE], (f.dims = [(32, 0x40), (4, 0x8)] ∨ f.dims = [(32, 0x40), (4, 0x4)]) ∧ f.base < 0x3C9000 ∧ f.lo < 64 := by
      decide
    obtain ⟨hdims, hbase, hlo⟩ := hplace f hf
    refine t.wr_low ⟨?_, hlo⟩ _ _
    rcases hdims with hdims | hdims <;>
      simp only [Fld.offset, hdims, portIx, List.cons_append, List.nil_append, strideSum] <;>
      omega
  unfold State.portServe
  extract_lets s1 s2
  have h2 : SameDisclosure s s2 := by
    refine (hcount s R.LSH_PORT_UNITS units (by decide)).trans ?_
    show SameDisclosure s1 (if _ then _ else _)
    split
    · exact hcount s1 R.LSH_PORT_LATE 1 (by decide)
    · exact .refl s1
  split
  · exact h2
  · exact h2.trans (.of_rest rfl rfl)

theorem State.quickPass_discloses {r : Req} (hr : r.ofPort) : SameDisclosure s (s.quickPass r) := by
  have hserve := (s.goes_discloses hr (s.covers r.die r.mport r.cls r.q r.units)).trans
    (State.portServe_discloses _ hr.2 r.die r.mport r.q r.units 0)
  simp only [State.quickPass]
  split
  · exact hserve.trans (State.wr_memPort_discloses _ (by decide) _ _ _)
  · exact hserve

/-- What the Collar of a die posts. -/
theorem State.post_discloses {d : Nat} {b : PostBy} {dpa : Nat} {bs : List Byte} {t : State} (h : s.post (Agent.collar d) b dpa bs = some t) :
    SameDisclosure s t := by
  unfold State.post at h
  dsimp only at h
  split at h
  · obtain rfl := Option.some.inj h
    refine (SameDisclosure.refl s).each _ (fun u p => ?_) _
    have hport : ∀ (v : State) (dpa n : Nat) (data : List Byte) (own : Owner), (v.agentReq (Agent.collar d) .wrInv dpa n data own).ofPort :=
      fun _ _ _ _ _ => ⟨show 135 < 1024 by decide, show 2 < 4 by decide⟩
    cases hq : u.quickWrite (Agent.collar d) p.1 ((bs.drop (p.1 - dpa)).take p.2) with
    | none => exact u.leash1_discloses (hport u _ _ _ _)
    | some v =>
      unfold State.quickWrite at hq
      split at hq
      · cases hq
      · dsimp only at hq
        split at hq
        · obtain rfl := Option.some.inj hq
          exact (((u.quickPass_discloses (hport u _ _ _ _)).trans (State.stcAccess_discloses _ _ _ _ _ _ _ _)).trans
            (State.knlMark_discloses _ _ _)).trans (State.qPut_discloses _ _ _ _)
        · cases hq
  · cases h

/-! ### The error engine -/

theorem State.hostWrite_discloses (fn addr : Nat) (bs : List Byte) (ro : Bool) : SameDisclosure s (s.hostWrite fn addr bs ro) := by
  unfold State.hostWrite
  split
  · exact .refl s
  · split
    · refine SameDisclosure.trans ?_ (State.wr_offDisclose _ (f := R.HEL_HELD) (by decide) _ _ _)
      exact .of_rest rfl rfl
    · exact ((SameDisclosure.refl s).each (fun s (p : Nat × List Byte) => s.send (.hostWrite ro fn p.1 p.2)) (fun _ _ => .of_rest rfl rfl) _).trans
        (State.wr_offDisclose _ (f := R.PCI_WR_BYTES) (by decide) _ _ _)

theorem State.irq_discloses (fn v : Nat) : SameDisclosure s (s.irq fn v) := by
  unfold State.irq
  split
  · exact .refl s
  · exact .of_rest rfl rfl

theorem State.msix_discloses (v : Nat) : SameDisclosure s (s.msix 0 v) := by
  unfold State.msix
  split
  · exact s.wr_offDisclose (f := R.PCI_MSIX_PBA) (by decide) 0 [] _
  · split
    · split
      · exact .refl s
      · exact .of_rest rfl rfl
    · split
      · exact .of_rest rfl rfl
      · exact .refl s

/-- Interrupts of the error engine are PF0's. -/
theorem State.errMsg_discloses (src code sev : Nat) : SameDisclosure s (s.errMsg src code sev) := by
  simp only [State.errMsg]
  split
  · exact s.irq_discloses _ _
  · exact s.msix_discloses _

theorem State.mirror_discloses (r : ErrRec) : SameDisclosure s (s.mirror r) := by
  unfold State.mirror
  split
  · split
    · exact s.wr_offDisclose (by decide) _ _ _
    · exact s.hostWrite_discloses _ _ _ _
  · exact .refl s

theorem State.keepErr_discloses (r : ErrRec) : SameDisclosure s (s.keepErr r) := .of_rest rfl rfl

theorem State.writeErr_discloses {r : ErrRec} {t : State} (h : s.writeErr r = some t) : SameDisclosure s t := by
  unfold State.writeErr at h
  dsimp only at h
  obtain ⟨u, hu, rfl⟩ := Option.map_eq_some_iff.1 h
  have hpost : SameDisclosure s u := by
    split at hu
    · cases hu
    · exact s.post_discloses hu
  have hcount : ∀ a b, SameDisclosure s ((u.wr R.ERR_Q_HEAD r.die [r.src] a).wr R.ERR_Q_STATUS_UNHANDLED r.die [r.src] b) := fun a b =>
    (hpost.trans (u.wr_offDisclose (by decide) _ _ a)).trans (State.wr_offDisclose _ (by decide) _ _ b)
  exact (((hcount _ _).trans (State.keepErr_discloses _ _)).trans (State.mirror_discloses _ _)).trans (State.errMsg_discloses _ _ _ _)

theorem State.putErr_discloses (r : ErrRec) : SameDisclosure s (s.putErr r) := by
  unfold State.putErr
  split
  · next t ht =>
    split at ht
    · exact s.writeErr_discloses ht
    · cases ht
  · refine SameDisclosure.trans ?_ (State.wr_offDisclose _ (f := R.ERR_EVENT_QWRITE_FAIL) (by decide) _ _ _)
    exact .of_rest rfl rfl

/-- An error leaves the counts of disclosures. -/
theorem State.err_discloses (d : Nat) (e : Err) : SameDisclosure s (s.err d e) := by
  unfold State.err
  extract_lets s0 r s1 s2
  have h0 : SameDisclosure s s0 := by
    show SameDisclosure s (if _ then _ else _)
    split
    · exact .of_rest rfl rfl
    · exact .refl s
  split
  · exact h0
  · split
    · next old _ =>
      extract_lets r'
      split
      · exact h0.trans (.of_rest rfl rfl)
      · split
        · next t ht => exact ((h0.trans (s0.post_discloses ht)).trans (State.keepErr_discloses _ _)).trans (State.mirror_discloses _ _)
        · exact h0.trans (.of_rest rfl rfl)
    · have h1 : SameDisclosure s s1 := (h0.trans (s0.wr_offDisclose (f := R.ERR_SEQ) (by decide) d [] _)).trans (State.putErr_discloses _ r)
      have h2 : SameDisclosure s s2 := (h0.trans (s0.wr_offDisclose (f := R.ERR_Q_STATUS_LOST) (by decide) d [e.src] _)).trans
        (State.wr_offDisclose _ (f := R.ERR_EVENT_LOST) (by decide) d [] _)
      have hwritten : SameDisclosure s (if e.sev = 3 then s1.sideSend 2 0xFF (leBytes 1 e.src ++ leBytes 1 e.code) else s1) := by
        split
        · exact h1.trans (.of_rest rfl rfl)
        · exact h1
      have hlost : SameDisclosure s (s2.wr R.ERR_Q_STATUS_LOST_SEV d [e.src] (max (s2.rd R.ERR_Q_STATUS_LOST_SEV d [e.src]) e.sev)) :=
        h2.trans (s2.wr_offDisclose (by decide) d [e.src] _)
      by_cases hroom : s0.unhandled d e.src + (s0.waiting d e.src).length < (if e.sev = 0 then 12 else 16)
      · rw [if_pos hroom]
        exact hwritten
      · rw [if_neg hroom]
        exact hlost

/-- An event of the security block is an error. -/
theorem State.secEvent_discloses {f : Fld} (hf : f.offDisclose = true) : SameDisclosure s (s.secEvent f) :=
  (s.wr_offDisclose hf 0 [] 1).trans (State.err_discloses _ 0 _)

end

end Sys2Proof.Machine
end

section
/-! SUPPORT. Control of a cluster (R83, R91 to R93, R510): release, scrub, counters and debug reads. -/

namespace Sys2Proof.Machine

/-! ### Scrub (R83) -/

section
variable (s : State) (c : Nat)

/-- The tiles of a cluster with nothing in them. -/
def State.clearTiles : State := s.each (List.range 16) (fun s t => s.setTile (16 * c + t) Tile.idle)

theorem State.tile_clearTiles : ∀ t ∈ List.range 16, (s.clearTiles c).tile (16 * c + t) = Tile.idle := by
  refine State.each_establishes (fun t u => u.tile (16 * c + t) = Tile.idle) _ (fun u t => u.tile_setTile_same _ _) (fun u t v hu => ?_) _ s
  by_cases h : 16 * c + t = 16 * c + v
  · rw [h, State.tile_setTile_same]
  · rw [State.tile_setTile_ne _ _ _ _ h, hu]

theorem State.clearTiles_keeps : (s.clearTiles c).clusters = s.clusters ∧ (s.clearTiles c).tlbs = s.tlbs :=
  State.each_keeps (fun u => u.clusters = s.clusters ∧ u.tlbs = s.tlbs) (fun s t => s.setTile (16 * c + t) Tile.idle) (fun _ _ hu => hu) (List.range 16) s ⟨rfl, rfl⟩

/-- The scrub of a cluster whose tiles are clear. -/
def State.scrubBuf (s : State) (c : Nat) : State :=
  { s.setClu c { s.clu c with buf := [], fill := none, ringRegion := 0, loaded := false } with tlbs := s.tlbs.filter (fun x => x.1 != 4 + c) }

theorem State.scrub_eq : s.scrub c = (s.clearTiles c).scrubBuf c := by
  unfold State.scrub
  extract_lets s1 k s2
  have h1 : s1 = s.clearTiles c := rfl
  rw [← h1]
  clear_value s1
  rfl

theorem State.tile_scrubBuf (t : Nat) : (s.scrubBuf c).tile t = s.tile t := rfl

theorem State.tlbs_scrubBuf : (s.scrubBuf c).tlbs = s.tlbs.filter (fun x => x.1 != 4 + c) := rfl

theorem State.tile_scrub {t : Nat} (ht : t < 16) : (s.scrub c).tile (16 * c + t) = Tile.idle := by
  rw [s.scrub_eq c, State.tile_scrubBuf, s.tile_clearTiles c t (List.mem_range.2 ht)]

theorem State.clu_scrubBuf : (s.scrubBuf c).clu c = { s.clu c with buf := [], fill := none, ringRegion := 0, loaded := false } :=
  s.clu_setClu_same c _

theorem State.clu_scrub : (s.scrub c).clu c = { s.clu c with buf := [], fill := none, ringRegion := 0, loaded := false } := by
  obtain ⟨hclusters, -⟩ := s.clearTiles_keeps c
  have hclu : (s.clearTiles c).clu c = s.clu c := by rw [State.clu, hclusters, State.clu]
  rw [s.scrub_eq c, State.clu_scrubBuf, hclu]

theorem State.tlbs_scrub : (s.scrub c).tlbs = s.tlbs.filter (fun x => x.1 != 4 + c) := by
  obtain ⟨-, htlbs⟩ := s.clearTiles_keeps c
  rw [s.scrub_eq c, State.tlbs_scrubBuf, htlbs]

/-- A cluster scrubbed, without a unit and without a last context. -/
def State.emptied : State := ((s.scrub c).noUnit c).setClu c { ((s.scrub c).noUnit c).clu c with lastCtx := none }

/-- The tiles of a cluster show IDLE (R95). -/
def State.idleTiles : State := s.each (List.range 16) (fun s t => s.wrTil R.TIL_STATUS_STATE (16 * c + t) 0)

theorem State.idleTiles_keeps : (s.idleTiles c).tiles = s.tiles ∧ (s.idleTiles c).clusters = s.clusters ∧ (s.idleTiles c).tlbs = s.tlbs :=
  State.each_keeps (fun u => u.tiles = s.tiles ∧ u.clusters = s.clusters ∧ u.tlbs = s.tlbs) (fun s t => s.wrTil R.TIL_STATUS_STATE (16 * c + t) 0)
    (fun _ _ hu => hu) (List.range 16) s ⟨rfl, rfl, rfl⟩

theorem State.rdClu_idleTiles {g : Fld} (hg : g ∈ cluFlds) : (s.idleTiles c).rdClu g c = s.rdClu g c :=
  s.rdClu_each_wrTil (by decide) hg (List.range 16) (fun t => 16 * c + t) (fun _ => 0) c

theorem State.mask_emptied : (s.emptied c).rdClu R.CLU_STATUS_TILE_MASK c = 0 := by
  have hnone : ∀ u : State, u.noUnit c = ((u.wrClu R.CLU_STATUS_TILE_MASK c 0).wrClu R.CLU_UNIT_RING c 0).wrClu R.CLU_UNIT_INDEX c 0 := fun _ => rfl
  rw [State.emptied, State.rdClu_setClu, hnone, State.rdClu_wrClu_ne _ (by decide) (by decide) (by decide), State.rdClu_wrClu_ne _ (by decide) (by decide) (by decide), State.rdClu_wrClu_same]
  rfl

theorem State.clu_emptied : (s.emptied c).clu c = { s.clu c with buf := [], fill := none, lastCtx := none, ringRegion := 0, loaded := false } := by
  have hclu : ∀ u : State, (u.noUnit c).clu c = u.clu c := fun _ => rfl
  rw [State.emptied, State.clu_setClu_same, hclu, s.clu_scrub c]

/-- What an emptied cluster whose tiles are IDLE holds. -/
theorem State.idleTiles_emptied : (∀ t < 16, ((s.emptied c).idleTiles c).tile (16 * c + t) = Tile.idle) ∧
    ((s.emptied c).idleTiles c).clu c = { s.clu c with buf := [], fill := none, lastCtx := none, ringRegion := 0, loaded := false } ∧
    ((s.emptied c).idleTiles c).rdClu R.CLU_STATUS_TILE_MASK c = 0 ∧ ((s.emptied c).idleTiles c).tlbs = s.tlbs.filter (fun x => x.1 != 4 + c) := by
  obtain ⟨htiles, hclusters, htlbs⟩ := (s.emptied c).idleTiles_keeps c
  have hkept : ∀ u : State, ((u.noUnit c).setClu c { (u.noUnit c).clu c with lastCtx := none }).tiles = u.tiles ∧
      ((u.noUnit c).setClu c { (u.noUnit c).clu c with lastCtx := none }).tlbs = u.tlbs := fun _ => ⟨rfl, rfl⟩
  obtain ⟨hetiles, hetlbs⟩ := hkept (s.scrub c)
  refine ⟨fun t ht => ?_, ?_, ?_, ?_⟩
  · rw [State.tile, htiles, State.emptied, hetiles]
    exact s.tile_scrub c ht
  · rw [State.clu, hclusters, ← State.clu, s.clu_emptied c]
  · rw [State.rdClu_idleTiles _ _ (by decide), s.mask_emptied c]
  · rw [htlbs, State.emptied, hetlbs, s.tlbs_scrub c]

/-- The end of a scrub (R83, R91). -/
theorem State.scrubNow_eq : s.scrubNow c = ((s.emptied c).idleTiles c).wrClu R.CLU_STATUS_STATE c (((s.emptied c).idleTiles c).idleState c) := by
  unfold State.scrubNow
  extract_lets s1 k s2 s3
  have h2 : s2 = s.emptied c := rfl
  have h3 : s3 = s2.idleTiles c := rfl
  rw [h3, h2]

end

theorem exec_clusterScrubDone {c : Nat} {s : State} (hc : c < 512) (hstate : s.rdClu R.CLU_STATUS_STATE c = 4) :
    ∃ u, exec (.clusterScrubDone c) s = .next u ∧ (∀ t < 16, u.tile (16 * c + t) = Tile.idle) ∧ (u.clu c).buf = [] ∧ u.rdClu R.CLU_STATUS_TILE_MASK c = 0 ∧
      (∀ x ∈ u.tlbs, x.1 ≠ 4 + c) ∧ u.rdClu R.CLU_STATUS_STATE c = (if (s.clu c).blocked then 6 else 0) := by
  have hexec : exec (.clusterScrubDone c) s = .next ((s.scrubNow c).withQueue s.pending) := by
    refine (within_next s _ _ (by simpa using hc)).trans ?_
    rw [if_neg (by simp [hstate])]
  rw [s.scrubNow_eq c] at hexec
  refine ⟨_, hexec, ?_⟩
  obtain ⟨htiles, hclu, hmask, htlbs⟩ := s.idleTiles_emptied c
  generalize (s.emptied c).idleTiles c = v at htiles hclu hmask htlbs ⊢
  refine ⟨fun t ht => ?_, ?_, ?_, fun x hx => ?_, ?_⟩
  · rw [State.tile_withQueue, State.tile_wrClu, htiles t ht]
  · rw [State.clu_withQueue, State.clu_wrClu, hclu]
  · rw [State.rdClu_withQueue, State.rdClu_wrClu_ne _ (by decide) (by decide) (by decide), hmask]
  · rw [State.withQueue_tlbs, State.wrClu, State.wr_tlbs, htlbs] at hx
    simpa using (List.mem_filter.1 hx).2
  · rw [State.rdClu_withQueue, State.rdClu_wrClu_same, State.idleState, hclu]
    dsimp only
    split <;> rfl

theorem exec_cluRelease {c : Nat} {s : State} (hc : c < 512) (hstate : s.rdClu R.CLU_STATUS_STATE c = 5) :
    ∃ u, exec (.cluRelease c) s = .next u ∧ u.rdClu R.CLU_STATUS_STATE c = 4 := by
  refine ⟨_, within_next s _ _ (by simpa using hc), ?_⟩
  rw [if_pos hstate]
  exact s.rdClu_wrClu_same R.CLU_STATUS_STATE c 4

/-! ### Counters (R91, R94) -/

section
variable (s : State) (c : Nat)

/-- The counters of one tile are cleared. -/
def State.clearCounts (t : Nat) : State := (s.wrTil R.TIL_PERF_CUBE (16 * c + t) 0).wrTil R.TIL_PERF_VEC (16 * c + t) 0

theorem State.rdTil_clearCounts_same (t : Nat) : (s.clearCounts c t).rdTil R.TIL_PERF_CUBE (16 * c + t) = 0 ∧
    (s.clearCounts c t).rdTil R.TIL_PERF_VEC (16 * c + t) = 0 := by
  rw [State.clearCounts, State.rdTil_wrTil_ne _ (by decide) (by decide) (by decide), State.rdTil_wrTil_same, State.rdTil_wrTil_same]
  exact ⟨rfl, rfl⟩

theorem State.rdTil_clearCounts_ne {f : Fld} (hf : f ∈ tilFlds) {t v : Nat} (h : t ≠ v) : (s.clearCounts c v).rdTil f (16 * c + t) = s.rdTil f (16 * c + t) := by
  have hne : 16 * c + t ≠ 16 * c + v := by omega
  rw [State.clearCounts, State.rdTil_wrTil_other _ (by decide) hf hne, State.rdTil_wrTil_other _ (by decide) hf hne]

theorem State.rdClu_clearCounts {f : Fld} (hf : f ∈ cluFlds) (t : Nat) : (s.clearCounts c t).rdClu f c = s.rdClu f c := by
  rw [State.clearCounts, State.rdClu_wrTil _ (by decide) hf, State.rdClu_wrTil _ (by decide) hf]

/-- The counters of a cluster's own are cleared. -/
def State.clearCluCounts : State :=
  ((((s.wrClu R.CLU_PERF_CUBE c 0).wrClu R.CLU_PERF_TOKEN c 0).wrClu R.CLU_PERF_CREDIT c 0).wrClu R.CLU_PERF_FETCH c 0).wrClu R.CLU_PERF_UNITS c 0

theorem State.rdClu_clearCluCounts : (s.clearCluCounts c).rdClu R.CLU_PERF_UNITS c = 0 ∧ (s.clearCluCounts c).rdClu R.CLU_PERF_CUBE c = 0 := by
  unfold State.clearCluCounts
  simp (disch := decide) only [State.rdClu_wrClu_ne, State.rdClu_wrClu_same]
  exact ⟨rfl, rfl⟩

theorem State.perfClear_eq : ∃ k, s.perfClear c = ((s.setClu c k).clearCluCounts c).each (List.range 16) (fun s t => s.clearCounts c t) := by
  unfold State.perfClear
  extract_lets k s1 s2
  have h2 : s2 = s1.clearCluCounts c := rfl
  rw [h2]
  exact ⟨_, rfl⟩

/-- PERF_CLEAR clears what a cluster and each of its tiles counted. -/
theorem State.perfClear_reads : (s.perfClear c).rdClu R.CLU_PERF_UNITS c = 0 ∧ (s.perfClear c).rdClu R.CLU_PERF_CUBE c = 0 ∧
    ∀ t ∈ List.range 16, (s.perfClear c).rdTil R.TIL_PERF_CUBE (16 * c + t) = 0 ∧ (s.perfClear c).rdTil R.TIL_PERF_VEC (16 * c + t) = 0 := by
  obtain ⟨k, hk⟩ := s.perfClear_eq c
  rw [hk]
  generalize (s.setClu c k) = v
  have hkeep : ∀ f ∈ cluFlds, ((v.clearCluCounts c).each (List.range 16) (fun s t => s.clearCounts c t)).rdClu f c = (v.clearCluCounts c).rdClu f c := fun f hf =>
    State.each_keeps (fun u => u.rdClu f c = (v.clearCluCounts c).rdClu f c) (fun s t => s.clearCounts c t)
      (fun u t hu => (u.rdClu_clearCounts c hf t).trans hu) (List.range 16) (v.clearCluCounts c) rfl
  obtain ⟨hunits, hcube⟩ := v.rdClu_clearCluCounts c
  refine ⟨(hkeep _ (by decide)).trans hunits, (hkeep _ (by decide)).trans hcube, ?_⟩
  refine State.each_establishes (fun t u => u.rdTil R.TIL_PERF_CUBE (16 * c + t) = 0 ∧ u.rdTil R.TIL_PERF_VEC (16 * c + t) = 0) (fun s t => s.clearCounts c t)
    (fun u t => u.rdTil_clearCounts_same c t) (fun u t x hu => ?_) (List.range 16) (v.clearCluCounts c)
  by_cases h : t = x
  · subst h
    exact u.rdTil_clearCounts_same c t
  · rw [State.rdTil_clearCounts_ne _ _ (by decide) h, State.rdTil_clearCounts_ne _ _ (by decide) h]
    exact hu

end

theorem exec_cluPerfClear {c : Nat} {s : State} (hc : c < 512) :
    ∃ u, exec (.cluPerfClear c) s = .next u ∧ u.rdClu R.CLU_PERF_UNITS c = 0 ∧ u.rdClu R.CLU_PERF_CUBE c = 0 ∧
      (∀ t < 16, u.rdTil R.TIL_PERF_CUBE (16 * c + t) = 0 ∧ u.rdTil R.TIL_PERF_VEC (16 * c + t) = 0) := by
  obtain ⟨hunits, hcube, htiles⟩ := s.perfClear_reads c
  have hexec : exec (.cluPerfClear c) s = .next ((s.perfClear c).withQueue s.pending) := within_next s _ _ (by simpa using hc)
  generalize s.perfClear c = v at hunits hcube htiles hexec
  refine ⟨_, hexec, ?_⟩
  rw [State.rdClu_withQueue, State.rdClu_withQueue]
  refine ⟨hunits, hcube, fun t ht => ?_⟩
  rw [State.rdTil_withQueue, State.rdTil_withQueue]
  exact htiles t (List.mem_range.2 ht)

/-! ### Debug reads (R93) -/

section
variable {s : State} {c : Nat}

/-- Where the words of CLU_DBG_DATA stand. -/
def dbgKey (c : Nat) : Nat := cluDie c * 2 ^ 26 + R.CLU_DBG_DATA.offset (cluIx c)

/-- The low word shows the low half and keeps the high one. -/
def State.dbgLow (s : State) (c : Nat) : State :=
  ({ s with latch := SMap.ins s.latch (dbgKey c) (s.dbgWord c / 2 ^ 32) } : State).send (.reg (s.dbgWord c % 2 ^ 32))

/-- The high word shows what the low one kept, and steps on. -/
def State.dbgHigh (s : State) (c : Nat) : State :=
  (({ s with latch := SMap.del s.latch (dbgKey c) } : State).wrClu R.CLU_DBG_ADDR_OFFSET c (s.rdClu R.CLU_DBG_ADDR_OFFSET c + 8)).send
    (.reg (if s.rdClu R.CLU_STATUS_STATE c = 5 then SMap.get (s.dbgWord c / 2 ^ 32) s.latch (dbgKey c) else 0))

section
variable (s c)

theorem State.out_dbgLow : (s.dbgLow c).out = s.out ++ [.reg (s.dbgWord c % 2 ^ 32)] := rfl

theorem State.out_dbgHigh : (s.dbgHigh c).out = s.out ++ [.reg (if s.rdClu R.CLU_STATUS_STATE c = 5 then
    SMap.get (s.dbgWord c / 2 ^ 32) s.latch (dbgKey c) else 0)] := rfl

theorem State.tiles_dbgHigh : (s.dbgHigh c).tiles = s.tiles := rfl

theorem State.offset_dbgHigh : (s.dbgHigh c).rdClu R.CLU_DBG_ADDR_OFFSET c = (s.rdClu R.CLU_DBG_ADDR_OFFSET c + 8) % 2 ^ R.CLU_DBG_ADDR_OFFSET.width :=
  State.rdClu_wrClu_same _ _ _ _

end

/-- The first touch of a confidential context of a HELD cluster comes before the read (R510). -/
def State.dbgTouch (s : State) (c : Nat) : State :=
  if s.rdClu R.CLU_STATUS_STATE c = 5 then s.touchCtx (s.rdClu R.CLU_STATUS_PARTITION c) (s.rdClu R.CLU_STATUS_CONTEXT c) else s

theorem exec_dbgLow (hc : c < 512) : exec (.cluDbgDataRead c false) s = .next (((s.dbgTouch c).dbgLow c).withQueue s.pending) :=
  within_next s _ _ (by simpa using hc)

theorem exec_dbgHigh (hc : c < 512) : exec (.cluDbgDataRead c true) s = .next (((s.dbgTouch c).dbgHigh c).withQueue s.pending) :=
  within_next s _ _ (by simpa using hc)

/-- Nothing is touched in a cluster that is not HELD, in a context that is not confidential or not enabled, or in one counted already. -/
theorem State.dbgTouch_none (h : s.rdClu R.CLU_STATUS_STATE c ≠ 5 ∨
    s.rdB R.PAR_CTX_CFG_CONFIDENTIAL 0 [s.rdClu R.CLU_STATUS_PARTITION c, s.rdClu R.CLU_STATUS_CONTEXT c] = false ∨
    s.rdB R.PAR_CTX_CFG_ENABLE 0 [s.rdClu R.CLU_STATUS_PARTITION c, s.rdClu R.CLU_STATUS_CONTEXT c] = false ∨
    16 * s.rdClu R.CLU_STATUS_PARTITION c + s.rdClu R.CLU_STATUS_CONTEXT c ∈ s.disclosed) : s.dbgTouch c = s := by
  unfold State.dbgTouch State.touchCtx
  split
  · next hheld =>
    rw [if_pos]
    rcases h with h | h | h | h
    · exact absurd hheld h
    · simp [h]
    · simp [h]
    · simp [h]
  · rfl

/-- What a debug read shows, by space (R93). -/
theorem State.dbgWord_other (h : s.rdClu R.CLU_STATUS_STATE c ≠ 5) : s.dbgWord c = 0 := by
  unfold State.dbgWord
  simp [h]

section
variable (hheld : s.rdClu R.CLU_STATUS_STATE c = 5) (halign : s.rdClu R.CLU_DBG_ADDR_OFFSET c % 8 = 0)
include hheld halign

theorem dbgWord_tm (hspace : s.rdClu R.CLU_DBG_ADDR_SPACE c = 0) : s.dbgWord c = if s.rdClu R.CLU_DBG_ADDR_OFFSET c ≤ 0x1FFF8 then
    (s.tile (16 * c + s.rdClu R.CLU_DBG_ADDR_TILE c)).tmNat (s.rdClu R.CLU_DBG_ADDR_OFFSET c) 8 else 0 := by
  have hoff : s.rdClu R.CLU_DBG_ADDR_OFFSET c / 8 * 8 = s.rdClu R.CLU_DBG_ADDR_OFFSET c := by omega
  unfold State.dbgWord
  simp [hheld, hoff, hspace]

/-- An INT48 entry is shown with its sign extended. -/
theorem dbgWord_int48 (hspace : s.rdClu R.CLU_DBG_ADDR_SPACE c = 1) (hin : s.rdClu R.CLU_DBG_ADDR_OFFSET c ≤ 0x1F8)
    (htype : ((s.tile (16 * c + s.rdClu R.CLU_DBG_ADDR_TILE c)).bank (s.rdClu R.CLU_DBG_ADDR_OFFSET c / 128)).type = some .int48) :
    s.dbgWord c = unsigned 64 (signed 48
      (((s.tile (16 * c + s.rdClu R.CLU_DBG_ADDR_TILE c)).bank (s.rdClu R.CLU_DBG_ADDR_OFFSET c / 128)).entries.getD
        (s.rdClu R.CLU_DBG_ADDR_OFFSET c % 128 / 8) 0)) := by
  have hoff : s.rdClu R.CLU_DBG_ADDR_OFFSET c / 8 * 8 = s.rdClu R.CLU_DBG_ADDR_OFFSET c := by omega
  unfold State.dbgWord
  simp [hheld, hoff, hspace, htype, Nat.not_lt.2 hin]

theorem dbgWord_cb (hspace : s.rdClu R.CLU_DBG_ADDR_SPACE c = 2) (hin : s.rdClu R.CLU_DBG_ADDR_OFFSET c ≤ 0xFFFF8) :
    s.dbgWord c = (s.clu c).cbNat (s.rdClu R.CLU_DBG_ADDR_OFFSET c) 8 := by
  have hoff : s.rdClu R.CLU_DBG_ADDR_OFFSET c / 8 * 8 = s.rdClu R.CLU_DBG_ADDR_OFFSET c := by omega
  unfold State.dbgWord
  simp [hheld, hoff, hspace, hin]

end

theorem dbgWord_noSpace (hspace : 2 < s.rdClu R.CLU_DBG_ADDR_SPACE c) : s.dbgWord c = 0 := by
  unfold State.dbgWord
  dsimp only
  split
  · rfl
  · split
    · omega
    · omega
    · omega
    · rfl

theorem exec_dbgLow_tm (hc : c < 512) (hheld : s.rdClu R.CLU_STATUS_STATE c = 5)
    (hplain : s.rdB R.PAR_CTX_CFG_CONFIDENTIAL 0 [s.rdClu R.CLU_STATUS_PARTITION c, s.rdClu R.CLU_STATUS_CONTEXT c] = false)
    (hspace : s.rdClu R.CLU_DBG_ADDR_SPACE c = 0) (hin : s.rdClu R.CLU_DBG_ADDR_OFFSET c ≤ 0x1FFF8) (halign : s.rdClu R.CLU_DBG_ADDR_OFFSET c % 8 = 0) :
    ∃ u, exec (.cluDbgDataRead c false) s = .next u ∧
      u.out = s.out ++ [.reg ((s.tile (16 * c + s.rdClu R.CLU_DBG_ADDR_TILE c)).tmNat (s.rdClu R.CLU_DBG_ADDR_OFFSET c) 8 % 2 ^ 32)] := by
  refine ⟨_, exec_dbgLow hc, ?_⟩
  rw [State.withQueue_out, State.dbgTouch_none (.inr (.inl hplain)), State.out_dbgLow, dbgWord_tm hheld halign hspace, if_pos hin]

theorem exec_dbgData_other (hc : c < 512) (hstate : s.rdClu R.CLU_STATUS_STATE c ≠ 5) :
    (∃ u, exec (.cluDbgDataRead c false) s = .next u ∧ u.out = s.out ++ [.reg 0]) ∧
    (∃ u, exec (.cluDbgDataRead c true) s = .next u ∧ u.out = s.out ++ [.reg 0]) := by
  refine ⟨⟨_, exec_dbgLow hc, ?_⟩, ⟨_, exec_dbgHigh hc, ?_⟩⟩
  · rw [State.withQueue_out, State.dbgTouch_none (.inl hstate), State.out_dbgLow, State.dbgWord_other hstate, Nat.zero_mod]
  · rw [State.withQueue_out, State.dbgTouch_none (.inl hstate), State.out_dbgHigh, if_neg hstate]

/-- The low word keeps the high one; the high word steps on (R91, R93). -/
theorem exec_dbgData_words (hc : c < 512) (h : s.rdClu R.CLU_STATUS_STATE c ≠ 5 ∨
    s.rdB R.PAR_CTX_CFG_CONFIDENTIAL 0 [s.rdClu R.CLU_STATUS_PARTITION c, s.rdClu R.CLU_STATUS_CONTEXT c] = false ∨
    s.rdB R.PAR_CTX_CFG_ENABLE 0 [s.rdClu R.CLU_STATUS_PARTITION c, s.rdClu R.CLU_STATUS_CONTEXT c] = false ∨
    16 * s.rdClu R.CLU_STATUS_PARTITION c + s.rdClu R.CLU_STATUS_CONTEXT c ∈ s.disclosed) :
    (∃ u, exec (.cluDbgDataRead c false) s = .next u ∧ u.out = s.out ++ [.reg (s.dbgWord c % 2 ^ 32)] ∧
      SMap.look u.latch (dbgKey c) = some (s.dbgWord c / 2 ^ 32) ∧ u.tiles = s.tiles ∧ u.regs = s.regs) ∧
    (∃ u, exec (.cluDbgDataRead c true) s = .next u ∧
      u.rdClu R.CLU_DBG_ADDR_OFFSET c = (s.rdClu R.CLU_DBG_ADDR_OFFSET c + 8) % 2 ^ R.CLU_DBG_ADDR_OFFSET.width ∧ u.tiles = s.tiles ∧
      u.out = s.out ++ [.reg (if s.rdClu R.CLU_STATUS_STATE c = 5 then SMap.get (s.dbgWord c / 2 ^ 32) s.latch (dbgKey c) else 0)]) := by
  have hlow := exec_dbgLow (s := s) hc
  have hhigh := exec_dbgHigh (s := s) hc
  rw [State.dbgTouch_none h] at hlow hhigh
  refine ⟨⟨_, hlow, ?_, SMap.look_ins_same _ _ _, rfl, rfl⟩, ⟨_, hhigh, ?_, ?_, ?_⟩⟩
  · rw [State.withQueue_out, State.out_dbgLow]
  · rw [State.rdClu_withQueue, State.offset_dbgHigh]
  · rw [State.withQueue_tiles, State.tiles_dbgHigh]
  · rw [State.withQueue_out, State.out_dbgHigh]

/-! ### Disclosure (R510) -/

theorem SameDisclosure.rd {s u : State} (h : SameDisclosure s u) {x : Nat} (hx : x < 1024) : u.rd R.SEC_DISCLOSE 0 [x] = s.rd R.SEC_DISCLOSE 0 [x] := by
  have hin : InDisclose (R.SEC_DISCLOSE.key 0 [x]) := by
    simp only [InDisclose, Fld.key, Fld.offset, strideSum, R.SEC_DISCLOSE]
    omega
  rw [State.rd, State.rd, SMap.get, SMap.get, h.look _ hin]

/-- The first touch of a confidential context in a tick is counted. -/
theorem State.touchCtx_counts {p k : Nat} (hp : p < 64) (hk : k < 16) (hconf : s.rdB R.PAR_CTX_CFG_CONFIDENTIAL 0 [p, k] = true)
    (hen : s.rdB R.PAR_CTX_CFG_ENABLE 0 [p, k] = true) (hnew : 16 * p + k ∉ s.disclosed) :
    (s.touchCtx p k).disclosed = s.disclosed ++ [16 * p + k] ∧
      (s.touchCtx p k).rd R.SEC_DISCLOSE 0 [16 * p + k] = min (2 ^ R.SEC_DISCLOSE.width - 1) (s.rd R.SEC_DISCLOSE 0 [16 * p + k] + 1) := by
  unfold State.touchCtx
  rw [if_neg (by simp [hconf, hen, hnew])]
  extract_lets s1
  have h1 : SameDisclosure s s1 := by
    show SameDisclosure s (if _ then _ else _)
    split
    · exact s.wr_offDisclose (by decide) 0 [] _
    · exact .refl s
  clear_value s1
  have hsec := State.secEvent_discloses (({ s1 with disclosed := s1.disclosed ++ [16 * p + k] } : State).bump R.SEC_DISCLOSE 0 [16 * p + k] 1)
    (f := R.SEC_EVENT_DEBUG_TOUCH) (by decide)
  refine ⟨hsec.disclosed.trans ?_, (hsec.rd (by omega)).trans ?_⟩
  · show s1.disclosed ++ [16 * p + k] = _
    rw [h1.disclosed]
  · refine (State.rd_bump_same _ R.SEC_DISCLOSE 0 [16 * p + k] 1).trans ?_
    show min _ (s1.rd R.SEC_DISCLOSE 0 [16 * p + k] + 1) = _
    rw [h1.rd (by omega)]

/-- A debug read itself counts nothing. -/
theorem State.dbgLow_discloses : SameDisclosure s (s.dbgLow c) := .of_rest rfl rfl

theorem State.dbgHigh_discloses : SameDisclosure s (s.dbgHigh c) := by
  have hdel : SameDisclosure s { s with latch := SMap.del s.latch (dbgKey c) } := .of_rest rfl rfl
  exact (hdel.trans (State.wr_offDisclose _ (by decide) _ _ _)).trans (.of_rest rfl rfl)

theorem exec_dbgData_touches {h : Bool} (hc : c < 512) (hheld : s.rdClu R.CLU_STATUS_STATE c = 5) (hp : s.rdClu R.CLU_STATUS_PARTITION c < 64)
    (hk : s.rdClu R.CLU_STATUS_CONTEXT c < 16)
    (hconf : s.rdB R.PAR_CTX_CFG_CONFIDENTIAL 0 [s.rdClu R.CLU_STATUS_PARTITION c, s.rdClu R.CLU_STATUS_CONTEXT c] = true)
    (hen : s.rdB R.PAR_CTX_CFG_ENABLE 0 [s.rdClu R.CLU_STATUS_PARTITION c, s.rdClu R.CLU_STATUS_CONTEXT c] = true)
    (hnew : 16 * s.rdClu R.CLU_STATUS_PARTITION c + s.rdClu R.CLU_STATUS_CONTEXT c ∉ s.disclosed) :
    ∃ u, exec (.cluDbgDataRead c h) s = .next u ∧
      u.disclosed = s.disclosed ++ [16 * s.rdClu R.CLU_STATUS_PARTITION c + s.rdClu R.CLU_STATUS_CONTEXT c] ∧
      u.rd R.SEC_DISCLOSE 0 [16 * s.rdClu R.CLU_STATUS_PARTITION c + s.rdClu R.CLU_STATUS_CONTEXT c] =
        min (2 ^ R.SEC_DISCLOSE.width - 1) (s.rd R.SEC_DISCLOSE 0 [16 * s.rdClu R.CLU_STATUS_PARTITION c + s.rdClu R.CLU_STATUS_CONTEXT c] + 1) := by
  obtain ⟨hdisc, hcount⟩ := s.touchCtx_counts hp hk hconf hen hnew
  have hread : ∃ v, exec (.cluDbgDataRead c h) s = .next (v.withQueue s.pending) ∧ SameDisclosure (s.dbgTouch c) v := by
    cases h with
    | false => exact ⟨_, exec_dbgLow hc, State.dbgLow_discloses⟩
    | true => exact ⟨_, exec_dbgHigh hc, State.dbgHigh_discloses⟩
  obtain ⟨v, hexec, hv⟩ := hread
  rw [State.dbgTouch, if_pos hheld] at hv
  refine ⟨_, hexec, ?_, ?_⟩
  · rw [State.withQueue_disclosed, hv.disclosed, hdisc]
  · rw [State.rd_withQueue, hv.rd (by omega), hcount]

end

/-- Settles O18: control and debug of a cluster. -/
theorem clusterControlCompletes : Obligations.ClusterControlCompletes := by
  unfold Obligations.ClusterControlCompletes
  refine ⟨fun c s => exec_cluRelease, fun c s => exec_clusterScrubDone, fun c s => exec_cluPerfClear, fun c s => exec_dbgLow_tm,
    fun c s => exec_dbgData_other, ?_, ?_, ?_⟩
  · rintro c p k s hc rfl rfl h
    exact exec_dbgData_words hc h
  · intro c s hheld halign
    refine ⟨dbgWord_int48 hheld halign, dbgWord_cb hheld halign, fun hspace hout => ?_, dbgWord_noSpace⟩
    rw [dbgWord_tm hheld halign hspace, if_neg (Nat.not_le.2 hout)]
  · rintro c p k h s hc hheld rfl rfl hp hk hconf hen hnew
    exact exec_dbgData_touches hc hheld hp hk hconf hen hnew

end Sys2Proof.Machine
end

section
/-! SUPPORT. Rotating BIST (R85, R86, R533 to R536): nomination, the block and the withdrawal of a target, and the end of a slice. -/

namespace Sys2Proof.Machine

section
variable (s : State)

@[simp] theorem State.bist_setBist_same (d : Nat) (b : BistDie) : (s.setBist d b).bist d = b := by
  simp only [State.bist, State.setBist, SMap.look_ins_same, Option.getD_some]

@[simp] theorem State.bist_wr (f : Fld) (d : Nat) (ix : List Nat) (v e : Nat) : (s.wr f d ix v).bist e = s.bist e := rfl

@[simp] theorem State.rd_setBist (d : Nat) (b : BistDie) (f : Fld) (e : Nat) (ix : List Nat) : (s.setBist d b).rd f e ix = s.rd f e ix := rfl

/-! ### Nomination (R533) -/

/-- The numbers of a die rise, so the first that satisfies a condition is the least. -/
theorem BistDie.find?_numbers {b : BistDie} {t : Nat} (ht : t ∈ b.numbers) (hn : b.next ≤ t) (hmin : ∀ i ∈ b.numbers, b.next ≤ i → t ≤ i) :
    b.numbers.find? (fun i => decide (b.next ≤ i)) = some t := by
  have hsorted : b.numbers.Pairwise (· < ·) := List.Pairwise.filter _ List.pairwise_lt_range
  cases hfind : b.numbers.find? (fun i => decide (b.next ≤ i)) with
  | none => exact absurd hn (by simpa using List.find?_eq_none.1 hfind t ht)
  | some i =>
    obtain ⟨hi, before, after, hl, hbefore⟩ := List.find?_eq_some_iff_append.1 hfind
    have hti : t ≤ i := hmin i (hl ▸ by simp) (by simpa using hi)
    rw [hl, List.pairwise_append, List.pairwise_cons] at hsorted
    obtain ⟨-, ⟨hafter, -⟩, -⟩ := hsorted
    rw [hl, List.mem_append, List.mem_cons] at ht
    rcases ht with ht | rfl | ht
    · exact absurd hn (by simpa using hbefore t ht)
    · rfl
    · exact absurd (hafter t ht) (Nat.not_lt.2 hti)

theorem State.nominate_next {d t : Nat} (hready : s.rdB R.PCI_STATUS_READY 0 = true) (hruns : s.dieRuns d = true) (hreason : s.rotReason d = 0)
    (htarget : (s.bist d).target = none) (htesting : (s.bist d).testing = none) (hlt : t < 128) (ht : t ∈ (s.bist d).numbers)
    (hn : (s.bist d).next ≤ t) (hmin : ∀ i ∈ (s.bist d).numbers, (s.bist d).next ≤ i → t ≤ i) :
    ∃ v : State, s.nominate d = v.rotShow d ∧ v.bist d = { s.bist d with target := some t, tries := 0, next := t + 1 } ∧ v.rd R.CLU_STANDIN_TARGET d = t := by
  refine ⟨(s.setBist d { s.bist d with target := some t, tries := 0, next := t + 1 }).wr R.CLU_STANDIN_TARGET d [] t, ?_, ?_, ?_⟩
  · unfold State.nominate
    dsimp only
    rw [if_neg (by simp [hready, hruns, hreason, htarget, htesting]), BistDie.find?_numbers ht hn hmin, Option.some_or]
  · rw [State.bist_wr, State.bist_setBist_same]
  · rw [State.rd_wr_same]
    exact Nat.mod_eq_of_lt hlt

/-! ### A target that no swap takes (R85, R86) -/

/-- A block is shown by an idle cluster alone (R92). -/
theorem State.setBlocked_shows (c : Nat) (b : Bool) : (s.setBlocked c b).clu c = { s.clu c with blocked := b } ∧
    ((s.rdClu R.CLU_STATUS_STATE c = 0 ∨ s.rdClu R.CLU_STATUS_STATE c = 6) → (s.setBlocked c b).rdClu R.CLU_STATUS_STATE c = if b then 6 else 0) ∧
    (s.rdClu R.CLU_STATUS_STATE c ≠ 0 → s.rdClu R.CLU_STATUS_STATE c ≠ 6 → (s.setBlocked c b).regs = s.regs) := by
  have hclu : (s.setClu c { s.clu c with blocked := b }).clu c = { s.clu c with blocked := b } := s.clu_setClu_same c _
  have hidle : (s.setClu c { s.clu c with blocked := b }).idleState c = if b then 6 else 0 := by rw [State.idleState, hclu]
  unfold State.setBlocked
  dsimp only
  rw [State.rdClu_setClu, hidle]
  by_cases h : s.rdClu R.CLU_STATUS_STATE c = 0 ∨ s.rdClu R.CLU_STATUS_STATE c = 6
  · rw [if_pos h]
    refine ⟨hclu, fun _ => ?_, fun h0 h6 => absurd h (by simp [h0, h6])⟩
    rw [State.rdClu_wrClu_same]
    cases b <;> rfl
  · rw [if_neg h]
    exact ⟨hclu, fun h' => absurd h' h, fun _ _ => rfl⟩

end

section
variable {d t : Nat} {s : State}

theorem exec_standinBlock_blocks (hd : d < 4) (htarget : (s.bist d).target = some t) (htries : 16 ≤ (s.bist d).tries) :
    exec (.standinBlock d) s = .next ((s.setBlocked (128 * d + t) true).withQueue s.pending) := by
  refine (within_next s _ _ (by simpa using hd)).trans ?_
  dsimp only
  rw [htarget]
  dsimp only
  rw [if_pos htries]

theorem exec_standinBlock_waits (hd : d < 4) (htries : (s.bist d).tries < 16) : exec (.standinBlock d) s = .next s := by
  refine (within_next s _ _ (by simpa using hd)).trans ?_
  dsimp only
  cases (s.bist d).target with
  | none => rfl
  | some t =>
    dsimp only
    rw [if_neg (Nat.not_le.2 htries)]
    rfl

theorem exec_bistNominationWithdraw_withdraws (hd : d < 4) (htarget : (s.bist d).target = some t) (htries : 64 ≤ (s.bist d).tries)
    (hheld : s.rdClu R.CLU_STATUS_STATE (128 * d + t) = 5) : exec (.bistNominationWithdraw d) s =
      .next ((((s.setBlocked (128 * d + t) false).setBist d { s.bist d with target := none, tries := 0 }).nominate d).withQueue s.pending) := by
  refine (within_next s _ _ (by simpa using hd)).trans ?_
  dsimp only
  rw [htarget]
  dsimp only
  rw [if_pos ⟨htries, hheld⟩]

theorem exec_bistNominationWithdraw_waits (hd : d < 4) (htarget : (s.bist d).target = some t)
    (h : (s.bist d).tries < 64 ∨ s.rdClu R.CLU_STATUS_STATE (128 * d + t) ≠ 5) : exec (.bistNominationWithdraw d) s = .next s := by
  refine (within_next s _ _ (by simpa using hd)).trans ?_
  dsimp only
  rw [htarget]
  dsimp only
  rw [if_neg (by omega)]
  rfl

/-! ### The end of a slice (R535) -/

/-- Spares are counted in registers. -/
theorem State.bist_countSpares (s : State) (d : Nat) : (s.countSpares d).bist d = s.bist d := rfl

theorem State.bist_failClu (s : State) (d i : Nat) : (s.failClu d i).bist d = s.bist d := by
  unfold State.failClu
  split
  · rfl
  · rfl

/-- The registers below the fail map of their die. -/
theorem State.failBit_wr (s : State) (d i : Nat) {f : Fld} (hf : f.dims = [] ∧ 8 * f.base + f.lo < 8 * R.BST_FAIL_MAP.base) (v : Nat) :
    (s.wr f d [] v).failBit d i = s.failBit d i := by
  obtain ⟨hdims, hbase⟩ := hf
  unfold State.failBit
  rw [State.rd_wr_ne]
  simp only [Fld.key, Fld.offset, hdims, strideSum, R.BST_FAIL_MAP] at hbase ⊢
  omega

/-- A physical cluster that has failed is in the fail map (R532). -/
theorem State.failBit_failClu (s : State) (d : Nat) {i : Nat} (hi : i < 144) : (s.failClu d i).failBit d i = true := by
  unfold State.failClu
  cases hbit : s.failBit d i with
  | true => rw [if_pos (by simp)]; exact hbit
  | false =>
    have hlt : i % 32 < 32 := Nat.mod_lt _ (by decide)
    rw [if_neg (by simp; omega), State.bump, State.failBit_wr _ _ _ (by decide), State.failBit, State.rd_wr_same]
    refine (Nat.testBit_mod_two_pow _ 32 (i % 32)).trans ?_
    rw [decide_eq_true hlt, Bool.true_and]
    exact (bit_setBits _ _ _).trans (by simp)

/-- What both outcomes of a slice count (R535). -/
def State.sliceEnds (s : State) (d : Nat) : State := (s.bump R.BST_SLICES d [] 1).wr R.CLU_STANDIN_ACTIVE d [] 0

theorem exec_bistSliceDone_passes {i dt : Nat} (hd : d < 4) (htesting : (s.bist d).testing = some (i, t)) :
    ∃ v : State, exec (.bistSliceDone d true dt) s = .next (((v.countSpares d).rotShow d).withQueue s.pending) ∧
      v.bist d = { s.bist d with testing := none, spares := (s.bist d).spares ++ [i], since := (s.at_ dt).now } ∧ v.rd R.CLU_STANDIN_ACTIVE d = 0 ∧
      v.rd R.BST_SLICES d = min (2 ^ R.BST_SLICES.width - 1) (s.rd R.BST_SLICES d + 1) := by
  refine ⟨(s.sliceEnds d).setBist d { s.bist d with testing := none, spares := (s.bist d).spares ++ [i], since := (s.at_ dt).now }, ?_,
    State.bist_setBist_same _ _ _, ?_, ?_⟩
  · refine (within_next s _ _ (by simpa using hd)).trans ?_
    dsimp only
    rw [htesting]
    rfl
  · rw [State.rd_setBist, State.sliceEnds, State.rd_wr_same, Nat.zero_mod]
  · rw [State.rd_setBist, State.sliceEnds, State.rd_wr_ne _ _ _ _ _ _ _ _ (by simp [Fld.key, Fld.offset, strideSum, R.BST_SLICES, R.CLU_STANDIN_ACTIVE]; omega),
      State.rd_bump_same]

theorem exec_bistSliceDone_fails {i dt : Nat} (hd : d < 4) (hi : i < 144) (htesting : (s.bist d).testing = some (i, t)) :
    ∃ v : State, exec (.bistSliceDone d false dt) s = .next ((((v.gateFailed d).bstErr d 4 (scopeOf 8 (128 * d + t))).rotShow d).withQueue s.pending) ∧
      v.bist d = { s.bist d with testing := none, since := (s.at_ dt).now } ∧ v.failBit d i = true ∧ v.rdB R.BST_EVENT_SLICE_FAIL d = true := by
  refine ⟨((((((s.sliceEnds d).setBist d { s.bist d with testing := none, since := (s.at_ dt).now }).countSpares d).failClu d i).wr
    R.BST_EVENT_SLICE_FAIL d [] 1).bump R.BST_SLICE_FAILS d [] 1), ?_, ?_, ?_, ?_⟩
  · refine (within_next s _ _ (by simpa using hd)).trans ?_
    dsimp only
    rw [htesting]
    rfl
  · rw [State.bump, State.bist_wr, State.bist_wr, State.bist_failClu, State.bist_countSpares, State.bist_setBist_same]
  · rw [State.bump, State.failBit_wr _ _ _ (by decide), State.failBit_wr _ _ _ (by decide), State.failBit_failClu _ _ hi]
  · rw [State.rdB, State.rd_bump_ne _ _ _ _ _ _ _ _ (by simp [Fld.key, Fld.offset, strideSum, R.BST_SLICE_FAILS, R.BST_EVENT_SLICE_FAIL]),
      State.rd_wr_same]
    rfl

theorem exec_bistSliceDone_idle {pass : Bool} {dt : Nat} (hd : d < 4) (htesting : (s.bist d).testing = none) :
    exec (.bistSliceDone d pass dt) s = .next s := by
  refine (within_next s _ _ (by simpa using hd)).trans ?_
  dsimp only
  rw [htesting]
  rfl

theorem exec_bstClearFails (hd : d < 4) : ∃ u, exec (.bstClearFails d) s = .next u ∧ d ∈ u.boot.clearFails ∧ u.regs = s.regs := by
  refine ⟨_, within_next s _ _ (by simpa using hd), ?_⟩
  rw [State.withQueue_boot, State.withQueue_regs]
  split
  · next h => exact ⟨by simpa using h, rfl⟩
  · exact ⟨List.mem_append_right _ (List.mem_singleton.2 rfl), rfl⟩

end

/-- Settles O57: the rotation of the built-in self-test. -/
theorem rotatingBistCommandsComplete : Obligations.RotatingBistCommandsComplete := by
  unfold Obligations.RotatingBistCommandsComplete
  refine ⟨fun d dt s hd hdue => ?_, fun d dt s hd hearly => ?_, fun d t s _ => s.nominate_next, fun d t s => exec_standinBlock_blocks,
    fun c b s _ => s.setBlocked_shows c b, fun d s => exec_standinBlock_waits, fun d t s => exec_bistNominationWithdraw_withdraws,
    fun d t s => exec_bistNominationWithdraw_waits, fun d i t dt s hd hi htesting => ⟨exec_bistSliceDone_passes hd htesting, exec_bistSliceDone_fails hd hi htesting⟩,
    fun d dt pass s => exec_bistSliceDone_idle, fun d s => exec_bstClearFails⟩
  · refine (within_next s _ _ (by simpa using hd)).trans ?_
    rw [if_neg (Nat.not_lt.2 hdue)]
  · refine (within_next s _ _ (by simpa using hd)).trans ?_
    rw [if_pos hearly]
    rfl

end Sys2Proof.Machine
end

section
/-! SUPPORT. Integer cube steps (R111): the sum of products a step adds, two's complement as the balanced residue, and how long an INT8 dot product stays in range. -/

namespace Sys2Proof.Machine

/-! ### Two's complement -/

theorem unsigned_cast (w : Nat) (v : Int) : (unsigned w v : Int) = v % (2 ^ w : Nat) :=
  Int.toNat_of_nonneg (Int.emod_nonneg v (by simp))

/-- Writing an integer into a word and reading it back wraps it to the balanced residue. -/
theorem signed_unsigned {w : Nat} (hw : 0 < w) (v : Int) : signed w (unsigned w v) = v.bmod (2 ^ w) := by
  have hpow : 2 ^ w = 2 * 2 ^ (w - 1) := (mul_pow_sub_one hw.ne' 2).symm
  have hcast := unsigned_cast w v
  have hlt : unsigned w v < 2 ^ w := by
    have := Int.emod_lt_of_pos v (b := ((2 ^ w : Nat) : Int)) (by simp)
    omega
  rw [signed, Int.bmod_def, Nat.mod_eq_of_lt hlt, hcast]
  exact if_congr (by omega) rfl rfl

/-! ### The sum a step adds -/

/-- A running sum over the inner depth is the start value and the sum of the products. -/
theorem foldl_add_eq_add_sum (f : Nat → Int) (l : List Nat) (acc : Int) : l.foldl (fun s e => s + f e) acc = acc + (l.map f).sum := by
  induction l generalizing acc with
  | nil => exact (add_zero acc).symm
  | cons e l ih => rw [List.foldl_cons, ih, List.map_cons, List.sum_cons, add_assoc]

/-! ### The range of an INT8 dot product -/

/-- The product of two INT8 elements is greatest at (-128) * (-128) and least at (-128) * 127. -/
theorem int8_mul_bounds {a b : Int} (ha : -128 ≤ a) (ha' : a ≤ 127) (hb : -128 ≤ b) (hb' : b ≤ 127) : -16256 ≤ a * b ∧ a * b ≤ 2 ^ 14 := by
  rcases le_total 0 b with h | h
  · constructor <;> nlinarith
  · constructor <;> nlinarith

/-- A sum of INT8 products grows by no more than the bounds of one product per term. -/
theorem int8_dot_bounds {l : List (Int × Int)} (hl : ∀ x ∈ l, -128 ≤ x.1 ∧ x.1 ≤ 127 ∧ -128 ≤ x.2 ∧ x.2 ≤ 127) :
    l.length * (-16256) ≤ (l.map (fun x => x.1 * x.2)).sum ∧ (l.map (fun x => x.1 * x.2)).sum ≤ l.length * 2 ^ 14 := by
  have hprod : ∀ y ∈ l.map (fun x => x.1 * x.2), -16256 ≤ y ∧ y ≤ 2 ^ 14 := by
    rintro y hy
    obtain ⟨x, hx, rfl⟩ := List.mem_map.1 hy
    obtain ⟨ha, ha', hb, hb'⟩ := hl x hx
    exact int8_mul_bounds ha ha' hb hb'
  constructor
  · simpa using List.card_nsmul_le_sum _ _ fun y hy => (hprod y hy).1
  · simpa using List.sum_le_card_nsmul _ _ fun y hy => (hprod y hy).2

/-- Settles O9: integer steps add exactly and wrap in their bank; 131,071 INT8 products stay in an INT32 bank and 131,072 need not. -/
theorem integerStepsAreExact : Obligations.IntegerStepsAreExact := by
  unfold Obligations.IntegerStepsAreExact
  refine ⟨?int32, ?int48, fun v => ⟨unsigned_cast 32 v, unsigned_cast 48 v⟩,
    fun x ha ha' hb hb' => int8_mul_bounds ha ha' hb hb', ?inRange, ?wraps⟩
  case int32 =>
    intro p rd aBase bBase sa sb r c acc hacc
    simp only [stepEntry, hacc, foldl_add_eq_add_sum]
  case int48 =>
    intro p rd aBase bBase sa sb r c acc hacc
    simp only [stepEntry, hacc, foldl_add_eq_add_sum]
  case inRange =>
    intro l hlen hl
    obtain ⟨hlow, hhigh⟩ := int8_dot_bounds hl
    refine ⟨by omega, ?_⟩
    rw [signed_unsigned (by decide)]
    exact Int.bmod_eq_of_le (by omega) (by omega)
  case wraps =>
    constructor
    · simp only [List.map_replicate, List.sum_replicate]
      decide
    · rw [signed_unsigned (by decide)]
      decide

end Sys2Proof.Machine
end

section
/-! SUPPORT. Management commands (R225 to R227, R581): what the Pack does with the oldest command of a partition, by the checks it meets in their order, and
when a response is held back. -/

namespace Sys2Proof.Machine

section
variable {s : State} {p : Nat} {m : Mgmt}

/-- A command of a partition the package has answers its effect. -/
theorem within_partition_next {t u : State} (hp : p < 64) (h : t = u) : within s (decide (p < 64)) t = .next (u.withQueue s.pending) :=
  h ▸ within_next s t _ (decide_eq_true hp)

/-! ### What a command meets before it is carried out -/

section
variable {sel : Nat → Bool} {bad : Mgmt → Bool} {named : Bool} {f : State → Mgmt → State}

theorem State.onMgmt_givenUp (hhead : s.mgmtHead? p = some m) (hpack : s.packFor p = 2) :
    s.onMgmt p sel bad named f = s.mgmtAnswer m 0xB 0 0xFFFF := by
  simp only [State.onMgmt, hhead, hpack, if_true]

/-- With the Packs RUNNING and the code its own, a command goes by its age and the checks of R581. -/
theorem State.onMgmt_running (hhead : s.mgmtHead? p = some m) (hpack : s.packFor p = 0) (hsel : sel m.code = true) :
    s.onMgmt p sel bad named f =
      if 64 ≤ m.age then s.mgmtBusy m
      else if bad m then s.mgmtAnswer m 9 0 2
      else if named && !s.ctxLive p m.ctx then s.mgmtAnswer m 9 0 0x10
      else s.orWait (fun s => f s m) := by
  simp [State.onMgmt, hhead, hpack, hsel]

theorem State.onMgmt_late (hhead : s.mgmtHead? p = some m) (hpack : s.packFor p = 0) (hsel : sel m.code = true) (hage : 64 ≤ m.age) :
    s.onMgmt p sel bad named f = s.mgmtBusy m := by
  rw [State.onMgmt_running hhead hpack hsel, if_pos hage]

theorem State.onMgmt_unusedSet (hhead : s.mgmtHead? p = some m) (hpack : s.packFor p = 0) (hsel : sel m.code = true) (hage : m.age < 64)
    (hbad : bad m = true) : s.onMgmt p sel bad named f = s.mgmtAnswer m 9 0 2 := by
  rw [State.onMgmt_running hhead hpack hsel, if_neg (Nat.not_le.2 hage), if_pos hbad]

theorem State.onMgmt_notLive (hhead : s.mgmtHead? p = some m) (hpack : s.packFor p = 0) (hsel : sel m.code = true) (hage : m.age < 64)
    (hbad : bad m = false) (hctx : s.ctxLive p m.ctx = false) : s.onMgmt p sel bad true f = s.mgmtAnswer m 9 0 0x10 := by
  rw [State.onMgmt_running hhead hpack hsel, if_neg (Nat.not_le.2 hage), if_neg (by simp [hbad]), if_pos (by simp [hctx])]

/-- A command that passes the checks and asks for nothing takes its effect. -/
theorem State.onMgmt_passes (hhead : s.mgmtHead? p = some m) (hpack : s.packFor p = 0) (hsel : sel m.code = true) (hage : m.age < 64)
    (hbad : bad m = false) (hctx : named = true → s.ctxLive p m.ctx = true) (hask : (f s m).ask = []) : s.onMgmt p sel bad named f = f s m := by
  have hlive : ¬ (named && !s.ctxLive p m.ctx) = true := by simpa using hctx
  rw [State.onMgmt_running hhead hpack hsel, if_neg (Nat.not_le.2 hage), if_neg (by simp [hbad]), if_neg hlive]
  exact s.orWait_here _ hask

/-- So a command that is ready completes with its own effect. -/
theorem within_onMgmt_ready {code : Nat} {t : State} (h : MgmtReady s p code m (bad m)) (hsel : sel code = true) (heffect : f s m = t) (hask : t.ask = []) :
    within s (decide (p < 64)) (s.onMgmt p sel bad named f) = .next (t.withQueue s.pending) := by
  obtain ⟨hp, hhead, rfl, hpack, hage, hbad, hctx⟩ := h
  subst heffect
  exact within_partition_next hp (State.onMgmt_passes hhead hpack hsel hage hbad (fun _ => hctx) hask)

end

/-! ### The commands that pass -/

theorem MemRes.good_iff {r : MemRes} : r.good = true ↔ ∃ bs, r = .ok bs := by
  cases r <;> simp [MemRes.good]

/-- An image that meets no reason of R187 is stored in the first room and takes a handle (R186, R226). -/
theorem State.registerImage_stores {host h d : List Byte} {at_ : Nat} {r : MemRes} {s1 s2 s3 : State} (hmin : 256 ≤ m.len) (hmax : m.len ≤ 2 ^ 28)
    (hread : s.virtReadH (s.packVirt m.part m.ctx) m.addr 256 host = (.ok h, s1)) (hlen : imgNat h 8 4 = m.len)
    (hbody : s1.virtReadH (s.packVirt m.part m.ctx) m.addr m.len host = (.ok d, s2)) (hgood : ∀ k, 1 ≤ k → k ≤ 8 → imgReason d m.len k = false)
    (hroom : s2.storeRoom m.part m.len = some at_) (hcount : (s2.images.filter (fun i => i.part == m.part && i.live)).length < 1024)
    (hwrite : s2.physWrite (Agent.mgmt m.part (s.packVirt m.part m.ctx).die) at_ d = (r, s3)) (hr : r.good = true) :
    s.registerImage m host = { s3.useFree 1 with images := s3.images ++
      [(⟨m.part, m.ctx, s3.newHandle m.part, at_, d, (d.drop 0x40).take 64, true⟩ : Image)] }.mgmtAnswer m 0 (s3.newHandle m.part) 0 := by
  have hheader : ¬ (imgNat h 8 4 != m.len || decide (2 ^ 28 < m.len)) = true := by simpa [hlen] using hmax
  have hchecks : ([1, 2, 3, 4, 5, 6, 7, 8] : List Nat).find? (imgReason d m.len) = none := by simp [hgood]
  obtain ⟨bs, rfl⟩ := MemRes.good_iff.1 hr
  simp only [State.registerImage, if_neg (Nat.not_lt.2 hmin), hread, if_neg hheader, hbody, hchecks, hroom, if_neg (Nat.not_le.2 hcount), hwrite]
  rfl

theorem exec_unregisterImage_drops {i : Image} (h : MgmtReady s p 2 m (m.unusedSet true false false 16 0x14))
    (himage : s.image? p m.ctx (m.nat 2 2) = some i) {t : State}
    (ht : t = ({ s with images := s.images.map (fun (x : Image) => if x == i then { x with live := false } else x) }.dropImages).mgmtAnswer m 0 0 0)
    (hask : t.ask = []) : exec (.unregisterImage p) s = .next (t.withQueue s.pending) :=
  within_onMgmt_ready h rfl (by simp only [himage, ht]) hask

/-- A context that is ACTIVE is not STOPPED yet: it stops at the boundary (R222, R226). -/
theorem exec_stopContext_waits (h : MgmtReady s p 3 m (m.unusedSet false false false 0 0x14)) (hctx : s.rd R.PAR_CTX_CFG_STATE 0 [p, m.ctx] = 1)
    (hask : s.ask = []) : exec (.stopContext p) s = .next (s.mgmtStage m 2) :=
  within_onMgmt_ready (t := s.mgmtStage m 2) h rfl (if_neg (by simp [hctx])) hask

theorem exec_resumeContext_waits (h : MgmtReady s p 4 m (m.unusedSet false false false 0 0x14)) (hctx : s.rd R.PAR_CTX_CFG_STATE 0 [p, m.ctx] = 2)
    (hask : s.ask = []) : exec (.resumeContext p) s = .next (s.mgmtStage m 2) :=
  within_onMgmt_ready (t := s.mgmtStage m 2) h rfl (if_neg (by simp [hctx])) hask

/-- INVALIDATE takes the whole address space where it names no pages (R313). -/
theorem exec_invalidate_drains (h : MgmtReady s p 0x20 m (m.unusedSet false true true 0 0x14)) (haligned : m.addr % 4096 = 0) {t : State}
    (ht : t = (s.mgmtStage m 1).invalidate p m.ctx (if m.len = 0 then 0 else m.addr) (if m.len = 0 then wholeSpace else m.len * 4096) (.mgmt p m.entry 0))
    (hask : t.ask = []) : exec (.invalidate p) s = .next (t.withQueue s.pending) := by
  have hready : MgmtReady s p 0x20 m (m.unusedSet false true true 0 0x14 || m.addr % 4096 != 0) := by simpa [haligned] using h
  refine within_onMgmt_ready hready rfl ?_ hask
  by_cases hlen : m.len = 0 <;> simp only [ht, hlen, if_true, if_false]

theorem exec_mgmtBusyTimeout_answers (hp : p < 64) (hfind : s.mgmts.find? (fun m => m.part == p && m.stage == 0 && m.answer.isNone) = some m)
    (hpack : s.pack ≠ 1) (hage : 64 ≤ m.age) : exec (.mgmtBusyTimeout p) s = .next ((s.mgmtBusy m).withQueue s.pending) := by
  refine within_partition_next hp ?_
  simp [hfind, hpack, hage]

end

/-! ### Responses keep the order of the commands (R225) -/

section
variable {s : State} {p : Nat} {m : Mgmt}

theorem State.mgmtFlush_waits (hfirst : s.mgmts.find? (fun (x : Mgmt) => x.part == p) = some m) (hopen : m.answer = none) : s.mgmtFlush p = s := by
  unfold State.mgmtFlush
  cases s.mgmts.length with
  | zero => rfl
  | succ n => simp only [State.mgmtFlush.go, hfirst, hopen]

/-- A command that ends behind an open one of its partition is noted in the list of commands, and nothing else changes. -/
theorem State.mgmtAnswer_waits (hfirst : s.mgmts.find? (fun (x : Mgmt) => x.part == p) = some m) (hopen : m.answer = none) {y : Mgmt}
    (hy : y.part = p) (hentry : y.entry ≠ m.entry) (st d0 d1 : Nat) : ∃ l, s.mgmtAnswer y st d0 d1 = { s with mgmts := l } := by
  subst hy
  refine ⟨_, State.mgmtFlush_waits (m := m) ?_ hopen⟩
  have hpart : ∀ x : Mgmt, (if x.part == y.part && x.entry == y.entry then { x with cmd := y.cmd, answer := some ⟨st, d0, d1⟩ } else x).part = x.part :=
    fun x => by split <;> rfl
  simp only [List.find?_map, Function.comp_def, hpart, hfirst, Option.map_some]
  simp [hentry.symm]

end

/-- Settles O23: a command of the management queue goes by its checks, one behind an open command leaves no response. -/
theorem managementCommandsComplete : Obligations.ManagementCommandsComplete := by
  unfold Obligations.ManagementCommandsComplete
  refine ⟨⟨?register, fun p m i s h himage => exec_unregisterImage_drops h himage rfl, fun p m s => exec_stopContext_waits,
      fun p m s => exec_resumeContext_waits, fun p m s h haligned => exec_invalidate_drains h haligned rfl, ?undefined,
      fun p m s => exec_mgmtBusyTimeout_answers⟩, ?unused, ?notLive, ?givenUp, ?late, ?order⟩
  case register =>
    rintro p at_ host h d r m s s1 s2 s3 hready hmin hmax hread hlen hbody hgood hroom hcount rfl hwrite hr t hask
    exact within_onMgmt_ready hready rfl (State.registerImage_stores hmin hmax hread hlen hbody hgood hroom hcount hwrite hr) hask
  case undefined =>
    intro p m s hp hhead hpack hage hcode hask
    exact within_partition_next hp (State.onMgmt_passes hhead hpack (by simp [hcode]) hage rfl nofun hask)
  case unused =>
    intro p m s hp hhead hpack hage hcode hbad
    exact within_partition_next hp (State.onMgmt_unusedSet hhead hpack (by simp [hcode]) hage hbad)
  case notLive =>
    intro p m s hp hhead hpack hage hcode hbad hctx
    exact within_partition_next hp (State.onMgmt_notLive hhead hpack (by simp [hcode]) hage hbad hctx)
  case givenUp =>
    intro p m s hp hhead hpack
    exact within_partition_next hp (State.onMgmt_givenUp hhead hpack)
  case late =>
    intro p m s hp hhead hpack hage hcode host
    exact within_partition_next hp (State.onMgmt_late hhead hpack (by simp [hcode]) hage)
  case order =>
    intro p m s hfirst _ hopen y st d0 d1 hy hentry
    obtain ⟨l, hl⟩ := State.mgmtAnswer_waits hfirst hopen hy hentry st d0 d1
    rw [hl]
    exact ⟨rfl, rfl⟩

end Sys2Proof.Machine
end

section
/-! SUPPORT. Completion records (R212, R213): their length, their status, and the byte of PHASE and OVERRAN. -/

namespace Sys2Proof.Machine

/-- A byte of a memory as a list of them shows it. -/
theorem getD_memBytes (m : SMap Byte) (a n i : Nat) (hi : i < n) : (memBytes m a n).getD i 0 = memRead m (a + i) := by
  induction n generalizing a i with
  | zero => exact absurd hi (Nat.not_lt_zero i)
  | succ n ih =>
    cases i with
    | zero => rfl
    | succ i =>
      have hnext := ih (a + 1) i (Nat.lt_of_succ_lt_succ hi)
      rw [Nat.add_right_comm] at hnext
      exact hnext

theorem Cpl.length_bytes (c : Cpl) (size n : Nat) : (c.bytes size n).length = 32 := rfl

theorem Cpl.status_bytes (c : Cpl) (size n : Nat) : (c.bytes size n).getD 2 0 = BitVec.ofNat 8 c.status := rfl

/-- Byte 3 holds PHASE in its highest bit and OVERRAN in its lowest (R212). -/
theorem Cpl.flags_bytes (c : Cpl) (size n : Nat) :
    ((c.bytes size n).getD 3 0).toNat = (if n / size % 2 = 0 then 128 else 0) + (if c.overran then 1 else 0) := by
  have hbyte : (c.bytes size n).getD 3 0 = BitVec.ofNat 8 ((if n / size % 2 = 0 then 128 else 0) + (if c.overran then 1 else 0)) := rfl
  rw [hbyte, BitVec.toNat_ofNat, Nat.mod_eq_of_lt]
  split <;> split <;> decide

/-- PHASE is 1 in the even passes through the ring and 0 in the odd ones (R213). -/
theorem Cpl.phase_bytes (c : Cpl) (size n : Nat) : ((c.bytes size n).getD 3 0).toNat / 128 = if n / size % 2 = 0 then 1 else 0 := by
  rw [c.flags_bytes]
  split <;> split <;> rfl

/-- Settles O6: PHASE goes by the parity of the pass, and a zeroed ring shows none until the record is written. -/
theorem phaseAlternatesByPass : Obligations.PhaseAlternatesByPass := by
  unfold Obligations.PhaseAlternatesByPass
  have hfirst : ∀ (c : Cpl) (size n : Nat), n < size → ((c.bytes size n).getD 3 0).toNat / 128 = 1 := by
    intro c size n h
    rw [c.phase_bytes, Nat.div_eq_of_lt h]
    rfl
  refine ⟨?parity, hfirst, ?second, ?next, ?zeroed⟩
  case parity =>
    intro c size n _
    rw [c.phase_bytes]
    simp
  case second =>
    intro c size n h h'
    rw [c.phase_bytes, Nat.div_eq_of_lt_le (k := 1) (by omega) (by omega)]
    rfl
  case next =>
    intro c size n h
    rw [c.phase_bytes, c.phase_bytes, Nat.add_div_right n h]
    split <;> split <;> omega
  case zeroed =>
    intro m a c size n hzero hn
    have hbefore := getD_memBytes m a 32 3 (by decide)
    have hafter := getD_memBytes (memPut m a (c.bytes size n)) a 32 3 (by decide)
    rw [← c.length_bytes size n, memBytes_memPut] at hafter
    rw [← hbefore, ← hafter, hzero]
    exact ⟨rfl, hfirst c size n hn⟩

end Sys2Proof.Machine
end

section
/-! SUPPORT. CLEAR_STATS (R229, R249, R274, R294, R322, R354, R387, R401, R422, R462, R518, R564): each row writes 0 at a list of places, which are the
counters of its block. -/

namespace Sys2Proof.Machine

/-! ### Places of a die set to 0 -/

/-- Fields of a die at their indices set to 0, one after the other. -/
def State.zero (s : State) (d : Nat) (ps : List (Fld × List Nat)) : State := s.each ps (fun s x => s.wr x.1 d x.2 0)

/-- Fields at every index they have. -/
def everyPlace (l : List Fld) : List (Fld × List Nat) := l.flatMap (fun f => f.indices.map (fun ix => (f, ix)))

theorem mem_everyPlace_iff {l : List Fld} {f : Fld} {ix : List Nat} : (f, ix) ∈ everyPlace l ↔ f ∈ l ∧ ix ∈ f.indices := by
  simp only [everyPlace, List.mem_flatMap, List.mem_map, Prod.mk.injEq]
  constructor
  · rintro ⟨g, hg, jx, hjx, rfl, rfl⟩
    exact ⟨hg, hjx⟩
  · exact fun h => ⟨f, h.1, ix, h.2, rfl, rfl⟩

theorem State.clearAll_eq_zero (s : State) (d : Nat) (l : List Fld) : s.clearAll d l = s.zero d (everyPlace l) := by
  simp only [State.clearAll, State.zero, State.each, everyPlace, List.foldl_flatMap, List.foldl_map]

/-- Nothing but registers changes. -/
theorem State.zero_frame (s : State) (d : Nat) (ps : List (Fld × List Nat)) : s.zero d ps = { s with regs := (s.zero d ps).regs } :=
  State.each_keeps (fun t => t = { s with regs := t.regs }) _ (fun t x ht => by rw [ht]; rfl) ps s rfl

/-- The registers at those places hold 0, and every other register what it held. -/
theorem State.held_zero_mem (s : State) (d : Nat) (ps : List (Fld × List Nat)) : ∀ x ∈ ps, (s.zero d ps).held (x.1.key d x.2) = some 0 := by
  refine State.each_establishes (fun x t => t.held (x.1.key d x.2) = some 0) _ (fun t x => ?_) (fun t x y ht => ?_) ps s
  · exact (SMap.look_ins_same _ _ _).trans (by rw [Nat.zero_mod])
  · by_cases h : x.1.key d x.2 = y.1.key d y.2
    · rw [h]
      exact (SMap.look_ins_same _ _ _).trans (by rw [Nat.zero_mod])
    · exact (t.held_wr_ne _ _ _ _ h).trans ht

theorem State.held_zero_ne (s : State) {d key : Nat} {ps : List (Fld × List Nat)} (h : ∀ x ∈ ps, x.1.key d x.2 ≠ key) :
    (s.zero d ps).held key = s.held key :=
  State.held_each_mem _ ps s (fun t x hx => t.held_wr_ne _ _ _ _ (h x hx).symm)

theorem State.rd_zero (s : State) {d : Nat} {ps : List (Fld × List Nat)} {f : Fld} {ix : List Nat} (h : (f, ix) ∈ ps) : (s.zero d ps).rd f d ix = 0 :=
  congrArg (Option.getD · _) (s.held_zero_mem d ps _ h)

/-! ### The rows -/

/-- A command sets places of a die to 0 and does nothing else. -/
def Zeroes (c : Instr) (d : Nat) (ps : List (Fld × List Nat)) : Prop := ∀ s, exec c s = .next (s.zero d ps)

theorem Zeroes.of_within {c : Instr} {d : Nat} {ps : List (Fld × List Nat)} {ok : Bool} (hok : ok = true)
    (h : ∀ s, exec c s = within s ok (s.zero d ps)) : Zeroes c d ps := by
  intro s
  rw [h, within_next s _ _ hok, s.zero_frame]
  rfl

/-- A row of CLEAR_STATS sets to 0 the counters of its block at the index it stands at, and nothing else; on HD0 the ATS counters go with those of
XLT (R322). -/
def ClearsRow (c : Instr) (d : Nat) (k : Option Nat) (l : List Fld) : Prop :=
  ∃ ps, Zeroes c d ps ∧ (∀ f ∈ l, ∀ ix ∈ f.indices, (∀ j, k = some j → ix.head? = some j) → (f, ix) ∈ ps) ∧
    ((∀ e, c = .xltClearStats e → e ≠ 0) → ∀ x ∈ ps, x.1 ∈ l ∧ x.2 ∈ x.1.indices)

section Rows
variable {c : Instr} {d j n : Nat} {k : Option Nat} {l m : List Fld}

/-- A block's row that clears its counters at every index, in whatever order. -/
theorem ClearsRow.of_every (hm : m.Perm l) (hz : Zeroes c d (everyPlace m)) : ClearsRow c d k l := by
  refine ⟨_, hz, fun f hf ix hix _ => mem_everyPlace_iff.2 ⟨hm.mem_iff.2 hf, hix⟩, fun _ x hx => ?_⟩
  obtain ⟨hf, hix⟩ := mem_everyPlace_iff.1 hx
  exact ⟨hm.mem_iff.1 hf, hix⟩

theorem Fld.mem_indices_single {f : Fld} {st : Nat} (h : f.dims = [(n, st)]) (ix : List Nat) : ix ∈ f.indices ↔ ∃ i < n, ix = [i] := by
  simp [Fld.indices, h]

/-- The row of a bay or a link, which clears its counters at its own index. -/
theorem ClearsRow.of_index (hdims : ∀ f ∈ l, f.dims.map Prod.fst = [n]) (hj : j < n) (hz : Zeroes c d (l.map (fun f => (f, [j])))) :
    ClearsRow c d (some j) l := by
  have hix : ∀ f ∈ l, ∀ ix, ix ∈ f.indices ↔ ∃ i < n, ix = [i] := by
    intro f hf
    obtain ⟨⟨m, st⟩, hx, rfl⟩ := List.map_eq_singleton_iff.1 (hdims f hf)
    exact Fld.mem_indices_single hx
  refine ⟨_, hz, fun f hf ix hmem hhead => ?_, fun _ x hx => ?_⟩
  · obtain ⟨i, -, rfl⟩ := (hix f hf ix).1 hmem
    obtain rfl : i = j := by simpa using hhead j rfl
    exact List.mem_map.2 ⟨f, hf, rfl⟩
  · obtain ⟨f, hf, rfl⟩ := List.mem_map.1 hx
    exact ⟨hf, (hix f hf _).2 ⟨j, hj, rfl⟩⟩

end Rows

/-- The counters of XLT that HD0 alone has (R322). -/
def atsCounters : List Fld := [R.XLT_ATS_REQS, R.XLT_PRI_REQS, R.XLT_PRI_LATE, R.XLT_ATS_INV]

theorem zeroes_shdClearStats : Zeroes .shdClearStats 0 (everyPlace [R.SHD_WINDOW_WINDOW_MAX, R.SHD_DB_LATE, R.SHD_DESC_LATE, R.SHD_ADMITTED]) :=
  .of_within rfl (fun _ => rfl)

theorem State.zero_append (s : State) (d : Nat) (ps qs : List (Fld × List Nat)) : s.zero d (ps ++ qs) = (s.zero d ps).zero d qs :=
  List.foldl_append

/-- XLT clears the ATS counters too where it has them (R322). -/
theorem zeroes_xltClearStats {d : Nat} (hd : d < 4) : Zeroes (.xltClearStats d) d
    (everyPlace [R.XLT_DTLB_HITS, R.XLT_DTLB_MISSES, R.XLT_WALK_READS, R.XLT_INVALS, R.XLT_CUT] ++ if d = 0 then everyPlace atsCounters else []) := by
  refine .of_within (decide_eq_true hd) (fun s => congrArg (within s _) ?_)
  rw [State.zero_append]
  by_cases h : d = 0
  · subst h
    rfl
  · simp only [if_neg h]
    rfl

theorem clearsRow_xltClearStats {d : Nat} (hd : d < 4) :
    ClearsRow (.xltClearStats d) d none [R.XLT_DTLB_HITS, R.XLT_DTLB_MISSES, R.XLT_WALK_READS, R.XLT_INVALS, R.XLT_CUT] := by
  refine ⟨_, zeroes_xltClearStats hd, fun f hf ix hix _ => List.mem_append_left _ (mem_everyPlace_iff.2 ⟨hf, hix⟩), fun hlead x hx => ?_⟩
  rw [if_neg (hlead d rfl), List.append_nil] at hx
  exact mem_everyPlace_iff.1 hx

/-- Every row of CLEAR_STATS does what its entry says. -/
theorem clearsRow_of_clearRow {c : Instr} {d : Nat} {k : Option Nat} {l : List Fld} (hc : clearRow c = some (d, k, l)) (hwf : c.wf = true) :
    ClearsRow c d k l := by
  have every : ∀ {ok : Bool}, c.wf = ok → (∀ s, exec c s = within s ok (s.zero d (everyPlace l))) → ClearsRow c d k l :=
    fun hok h => .of_every (.refl l) (.of_within (hok ▸ hwf) h)
  unfold clearRow at hc
  split at hc <;> cases hc
  case h_1 => exact .of_every (by decide) zeroes_shdClearStats
  case h_2 => exact every rfl (fun _ => rfl)
  case h_3 => exact every rfl (fun _ => rfl)
  case h_4 => exact every rfl (fun s => congrArg (within s _) (s.clearAll_eq_zero _ _))
  case h_5 => exact every rfl (fun s => congrArg (within s _) (s.clearAll_eq_zero _ _))
  case h_6 => exact clearsRow_xltClearStats (of_decide_eq_true hwf)
  case h_7 => exact every rfl (fun s => congrArg (within s _) (s.clearAll_eq_zero _ _))
  case h_8 => exact every rfl (fun _ => rfl)
  case h_9 b => exact .of_index (n := 2) (by decide) (Nat.mod_lt b (by decide)) (.of_within hwf (fun _ => rfl))
  case h_10 d j =>
    simp only [Instr.wf, Bool.and_eq_true, decide_eq_true_eq] at hwf
    exact .of_index (n := 2) (by decide) hwf.2 (.of_within (by simp [hwf]) (fun _ => rfl))
  case h_11 => exact every rfl (fun _ => rfl)
  case h_12 => exact every rfl (fun _ => rfl)
  case h_13 => exact every rfl (fun s => congrArg (within s true) (s.clearAll_eq_zero 0 _))
  case h_14 => exact every rfl (fun _ => rfl)
  case h_15 => exact every rfl (fun _ => rfl)
  case h_16 => exact every rfl (fun _ => rfl)

/-- What a row of CLEAR_STATS leaves: its counters at 0, every other register and the rest of the state as they were. -/
theorem exec_clearRow {c : Instr} {d : Nat} {k : Option Nat} {l : List Fld} (s : State) (hc : clearRow c = some (d, k, l)) (hwf : c.wf = true) :
    ∃ u, exec c s = .next u ∧
      (∀ f ∈ l, ∀ ix ∈ f.indices, (∀ j, k = some j → ix.head? = some j) → u.rd f d ix = 0) ∧
      (∀ key, (∀ f ∈ l, ∀ ix ∈ f.indices, f.key d ix ≠ key) → (∀ e, c = .xltClearStats e → e ≠ 0) → SMap.look u.regs key = SMap.look s.regs key) ∧
      u = { s with regs := u.regs } := by
  obtain ⟨ps, hz, hin, hout⟩ := clearsRow_of_clearRow hc hwf
  refine ⟨_, hz s, fun f hf ix hix hk => s.rd_zero (hin f hf ix hix hk), fun key hkey hlead => ?_, s.zero_frame d ps⟩
  refine s.held_zero_ne (fun x hx => ?_)
  obtain ⟨hf, hix⟩ := hout hlead x hx
  exact hkey x.1 hf x.2 hix

theorem exec_clearRow_reads {c : Instr} {d : Nat} {l : List Fld} (s : State) (hc : clearRow c = some (d, none, l)) (hwf : c.wf = true) :
    ∃ u, exec c s = .next u ∧ ∀ f ∈ l, ∀ ix ∈ f.indices, u.rd f d ix = 0 := by
  obtain ⟨u, hu, hreads, -, -⟩ := exec_clearRow s hc hwf
  exact ⟨u, hu, fun f hf ix hix => hreads f hf ix hix nofun⟩

/-- The ATS counters of HD0 (R322). -/
theorem exec_xltClearStats_ats (s : State) : ∃ u, exec (.xltClearStats 0) s = .next u ∧ ∀ f ∈ atsCounters, ∀ ix ∈ f.indices, u.rd f 0 ix = 0 :=
  ⟨_, zeroes_xltClearStats (by decide) s, fun _ hf _ hix => s.rd_zero (List.mem_append_right _ (mem_everyPlace_iff.2 ⟨hf, hix⟩))⟩

/-- The counters of a bay's or a link's registers, of which a die has two. -/
theorem exec_clearRow_index {c : Instr} {d j : Nat} {l : List Fld} (s : State) (hc : clearRow c = some (d, some j, l)) (hwf : c.wf = true) (hj : j < 2)
    (hdims : ∀ f ∈ l, f.dims.map Prod.fst = [2]) : ∃ u, exec c s = .next u ∧ ∀ f ∈ l, u.rd f d [j] = 0 := by
  obtain ⟨u, hu, hreads, -, -⟩ := exec_clearRow s hc hwf
  refine ⟨u, hu, fun f hf => hreads f hf [j] ?_ (fun i hi => by cases hi; rfl)⟩
  obtain ⟨⟨m, st⟩, hx, rfl⟩ := List.map_eq_singleton_iff.1 (hdims f hf)
  exact (Fld.mem_indices_single hx _).2 ⟨j, hj, rfl⟩

/-- Settles O27: each row writes 0 at the places of its block's counters, and nothing else. -/
theorem clearStatsClearsCounters : Obligations.ClearStatsClearsCounters := by
  unfold Obligations.ClearStatsClearsCounters
  refine ⟨fun c d k l s hc hwf => exec_clearRow s hc hwf, ?rows, ?bay, ?link⟩
  case rows =>
    intro d hd
    have hwf : decide (d < 4) = true := decide_eq_true hd
    rintro x hx s
    simp only [List.mem_cons, List.not_mem_nil, or_false] at hx
    rcases hx with rfl | rfl | rfl | rfl | rfl | rfl | rfl | rfl | rfl | rfl | rfl | rfl | rfl | rfl | rfl
    exacts [exec_clearRow_reads s rfl rfl, exec_clearRow_reads s rfl rfl, exec_clearRow_reads s rfl hwf, exec_clearRow_reads s rfl hwf,
      exec_clearRow_reads s rfl hwf, exec_clearRow_reads s rfl hwf, exec_xltClearStats_ats s, exec_clearRow_reads s rfl hwf, exec_clearRow_reads s rfl hwf,
      exec_clearRow_reads s rfl rfl, exec_clearRow_reads s rfl rfl, exec_clearRow_reads s rfl rfl, exec_clearRow_reads s rfl rfl,
      exec_clearRow_reads s rfl hwf, exec_clearRow_reads s rfl hwf]
  case bay => exact fun b s hb => exec_clearRow_index s rfl (decide_eq_true hb) (Nat.mod_lt b (by decide)) (by decide)
  case link =>
    intro d k s hd hk
    exact exec_clearRow_index s rfl (Bool.and_eq_true_iff.2 ⟨decide_eq_true hd, decide_eq_true hk⟩) hk (by decide)

end Sys2Proof.Machine
end

section
/-! SUPPORT. The registers of rings and queues (R220, R229, R390): what their fields read after a write, and what a write of a whole register puts into
each of its fields (R10 to R15). -/

namespace Sys2Proof.Machine

/-! ### Fields of one register block -/

/-- Two fields of one block that stand at different places of it. -/
def Fld.apart (f g : Fld) : Bool := decide (f.dims = g.dims) && decide (8 * f.base + f.lo ≠ 8 * g.base + g.lo)

theorem Fld.key_ne_of_apart {f g : Fld} (h : f.apart g = true) (d : Nat) (ix : List Nat) : f.key d ix ≠ g.key d ix := by
  simp only [Fld.apart, Bool.and_eq_true, decide_eq_true_eq] at h
  obtain ⟨hdims, hplace⟩ := h
  simp only [Fld.key, Fld.offset, hdims]
  omega

theorem State.rd_wr_apart (s : State) {f g : Fld} (h : g.apart f = true) (d : Nat) (ix : List Nat) (v : Nat) : (s.wr f d ix v).rd g d ix = s.rd g d ix :=
  s.rd_wr_ne f g d d ix ix v (Fld.key_ne_of_apart h d ix)

section Rings
variable (s : State) (p r : Nat)

/-- A ring's field reads what was written to it, as a work ring's or as a bay queue's. -/
theorem State.ringRd_ringWr_same {w b : Fld} (hwidth : b.width = w.width) (v : Nat) :
    (s.ringWr w b p r v).ringRd w b p r = v % 2 ^ w.width := by
  unfold State.ringWr State.ringRd
  split
  · exact s.rd_wr_same w 0 [p, r] v
  · rw [State.rd_wr_same, hwidth]

theorem State.ringRd_ringWr_apart {w b w' b' : Fld} (hw : w.apart w' = true) (hb : b.apart b' = true) (v : Nat) :
    (s.ringWr w' b' p r v).ringRd w b p r = s.ringRd w b p r := by
  unfold State.ringWr State.ringRd
  split
  · exact s.rd_wr_apart hw 0 [p, r] v
  · exact s.rd_wr_apart hb 0 [p, r - 64] v

@[simp] theorem State.rState_setRing (st reason : Nat) : (s.setRing p r st reason).rState p r = st % 16 := by
  rw [State.rState, State.setRing, State.ringRd_ringWr_apart _ _ _ (by decide) (by decide), State.ringRd_ringWr_same _ _ _ (by decide)]
  rfl

theorem State.ringRd_setRing {w b : Fld} (hw : w.apart R.WRK_RING_STATE_STATE = true ∧ w.apart R.WRK_RING_STATE_REASON = true)
    (hb : b.apart R.BAY_Q_STATE_STATE = true ∧ b.apart R.BAY_Q_STATE_REASON = true) (st reason : Nat) :
    (s.setRing p r st reason).ringRd w b p r = s.ringRd w b p r := by
  rw [State.setRing, State.ringRd_ringWr_apart _ _ _ hw.2 hb.2, State.ringRd_ringWr_apart _ _ _ hw.1 hb.1]

@[simp] theorem State.rFlight_setRing (st reason : Nat) : (s.setRing p r st reason).rFlight p r = s.rFlight p r :=
  s.ringRd_setRing p r (by decide) (by decide) st reason
@[simp] theorem State.rCtx_setRing (st reason : Nat) : (s.setRing p r st reason).rCtx p r = s.rCtx p r :=
  s.ringRd_setRing p r (by decide) (by decide) st reason
@[simp] theorem State.rSize_setRing (st reason : Nat) : (s.setRing p r st reason).rSize p r = s.rSize p r :=
  congrArg (2 ^ ·) (s.ringRd_setRing p r (by decide) (by decide) st reason)
@[simp] theorem State.rHead_setRing (st reason : Nat) : (s.setRing p r st reason).rHead p r = s.rHead p r :=
  s.ringRd_setRing p r (by decide) (by decide) st reason
@[simp] theorem State.rDone_setRing (st reason : Nat) : (s.setRing p r st reason).rDone p r = s.rDone p r :=
  s.ringRd_setRing p r (by decide) (by decide) st reason

/-- Only a drained ring whose last unit has ended goes on to STOPPED (R220). -/
theorem State.drained_idle (h : s.rState p r = 2) (hflight : s.rFlight p r = 0) :
    s.drained p r = s.ringWr R.WRK_RING_STATE_STATE R.BAY_Q_STATE_STATE p r 3 := if_pos ⟨h, hflight⟩

theorem State.drained_waits (h : ¬(s.rState p r = 2 ∧ s.rFlight p r = 0)) : s.drained p r = s := if_neg h

end Rings

/-! ### A write of a whole register -/

/-- One field takes its part of a register write. -/
def State.take (d : Nat) (ix : List Nat) (s : State) (x : Fld × Put) : State :=
  match x.2 with
  | .put v => if x.1.cls == .T then s.wrShadow x.1 d ix v else s.wr x.1 d ix v
  | _ => s

/-- What a live field that held `cur` holds after its part. -/
def Put.value (w cur : Nat) : Put → Nat
  | .put v => v % 2 ^ w
  | _ => cur

section RegWrite
variable {d : Nat} {ix : List Nat} {f : Fld}

theorem State.regWrite_cases (s : State) (b : Blk) (d : Nat) (ix : List Nat) (value : Nat) (blocked : Fld → Bool) (fs : List Fld) :
    (∃ off, s.regWrite b d ix value blocked fs =
      (s.each (fs.map (fun g => (g, s.putOf g d ix (bits value g.lo g.width) (blocked g)))) (State.take d ix)).cfgErr b d ix off) ∨
    s.regWrite b d ix value blocked fs = s.each (fs.map (fun g => (g, s.putOf g d ix (bits value g.lo g.width) (blocked g)))) (State.take d ix) := by
  unfold State.regWrite
  dsimp only
  split
  · exact .inl ⟨_, rfl⟩
  · exact .inr rfl

theorem State.rd_take_ne (s : State) {x : Fld × Put} (h : f.key d ix ≠ x.1.key d ix) : (s.take d ix x).rd f d ix = s.rd f d ix := by
  unfold State.take
  split
  · split
    · rfl
    · exact s.rd_wr_ne _ _ _ _ _ _ _ h
  · rfl

theorem State.rd_take_same (s : State) (hlive : f.cls ≠ .T) (q : Put) : (s.take d ix (f, q)).rd f d ix = q.value f.width (s.rd f d ix) := by
  cases q with
  | none => rfl
  | drop => rfl
  | put v =>
    simp only [State.take, Put.value, beq_eq_false_iff_ne.2 hlive, Bool.false_eq_true, if_false]
    exact s.rd_wr_same f d ix v

/-- Of a list of fields that each take a part, one field takes its own alone. -/
theorem State.rd_each_take (hlive : f.cls ≠ .T) (q : Fld → Put) (fs : List Fld) (hfs : ∀ g ∈ fs, g = f ∨ f.key d ix ≠ g.key d ix) (s : State) :
    (s.each (fs.map (fun g => (g, q g))) (State.take d ix)).rd f d ix = if f ∈ fs then (q f).value f.width (s.rd f d ix) else s.rd f d ix := by
  have hagain : ∀ x, (q f).value f.width ((q f).value f.width x) = (q f).value f.width x := by
    intro x
    cases q f <;> rfl
  induction fs generalizing s with
  | nil => rfl
  | cons g fs ih =>
    have hstep := ih (fun g hg => hfs g (List.mem_cons_of_mem _ hg)) (s.take d ix (g, q g))
    refine hstep.trans ?_
    rcases hfs g List.mem_cons_self with rfl | hne
    · rw [State.rd_take_same s hlive]
      simp [hagain]
    · have hgf : f ≠ g := fun h => hne (h ▸ rfl)
      rw [State.rd_take_ne (x := (g, q g)) s hne]
      simp [hgf]

/-- A dropped write shows in the error register of its block alone (R14). -/
theorem State.rd_cfgErr_ne (s : State) (b : Blk) (e : Nat) (jx : List Nat) (off : Nat)
    (h : ∀ g ∈ [b.err.1, b.err.2.1, b.err.2.2], f.key d ix ≠ g.key e (jx.take b.err.1.dims.length)) : (s.cfgErr b e jx off).rd f d ix = s.rd f d ix := by
  have hput : ∀ g ∈ [b.err.1, b.err.2.1, b.err.2.2], ∀ (t : State) v, (t.wr g e (jx.take b.err.1.dims.length) v).rd f d ix = t.rd f d ix :=
    fun g hg t v => t.rd_wr_ne _ _ _ _ _ _ _ (h g hg)
  simp only [List.mem_cons, List.not_mem_nil, or_false, forall_eq_or_imp, forall_eq] at hput
  obtain ⟨herr, hmulti, hoffset⟩ := hput
  unfold State.cfgErr
  dsimp only
  split
  · exact hmulti s 1
  · exact (hoffset _ off).trans (herr s 1)

/-- A dropped write sets CFG_ERR (R14). -/
theorem State.rdB_cfgErr (s : State) (b : Blk) (e : Nat) (jx : List Nat) (off : Nat) (hmulti : b.err.1.apart b.err.2.1 = true)
    (hoffset : b.err.1.apart b.err.2.2 = true) (hwidth : b.err.1.width = 1) :
    (s.cfgErr b e jx off).rdB b.err.1 e (jx.take b.err.1.dims.length) = true := by
  unfold State.cfgErr
  dsimp only
  split
  next hset => exact (congrArg (· != 0) (s.rd_wr_apart hmulti e _ 1)).trans hset
  next =>
    have hone := (s.wr b.err.1 e (jx.take b.err.1.dims.length) 1).rd_wr_apart hoffset e (jx.take b.err.1.dims.length) off
    rw [State.rd_wr_same, hwidth] at hone
    exact congrArg (· != 0) hone

variable {b : Blk} {value : Nat} {blocked : Fld → Bool} {fs : List Fld}

/-- A live RW field that is neither busy nor locked takes a value in its range (R10 to R15). -/
theorem State.rd_regWrite_takes (s : State) (hlive : f.cls ≠ .T) (hacc : f.acc = .RW) (hfree : blocked f = false) (hmem : f ∈ fs)
    (hmin : f.vmin ≤ bits value f.lo f.width) (hmax : bits value f.lo f.width ≤ f.vmax) (hfs : ∀ g ∈ fs, g = f ∨ f.key d ix ≠ g.key d ix)
    (herr : ∀ g ∈ [b.err.1, b.err.2.1, b.err.2.2], f.key d ix ≠ g.key d (ix.take b.err.1.dims.length)) :
    (s.regWrite b d ix value blocked fs).rd f d ix = bits value f.lo f.width := by
  have hput : (s.putOf f d ix (bits value f.lo f.width) (blocked f)).value f.width (s.rd f d ix) = bits value f.lo f.width := by
    simp only [State.putOf, hacc, hfree, beq_eq_false_iff_ne.2 hlive, Bool.and_false, Bool.false_eq_true, if_false, decide_eq_false (Nat.not_lt.2 hmin),
      decide_eq_false (Nat.not_lt.2 hmax), Bool.or_false]
    split
    next hsame => exact hsame.symm
    next => exact Nat.mod_eq_of_lt (bits_lt _ _ _)
  have heach := State.rd_each_take hlive (fun g => s.putOf g d ix (bits value g.lo g.width) (blocked g)) fs hfs s
  rw [if_pos hmem, hput] at heach
  rcases s.regWrite_cases b d ix value blocked fs with ⟨off, h⟩ | h
  · rw [h, State.rd_cfgErr_ne _ _ _ _ _ herr, heach]
  · rw [h, heach]

end RegWrite

end Sys2Proof.Machine
end

section
/-! SUPPORT. Ring controls (R198, R220, R221, R225, R228, R229): ENABLE, STOP and RESET by the state of the ring, and ENABLE of a management queue. -/

namespace Sys2Proof.Machine

/-! ### ENABLE (R220, R229) -/

/-- The fields of WRK_RING_CFG, and of WRK_MGMT_CFG. -/
def ringCfgFlds : List Fld := [R.WRK_RING_CFG_ENABLE, R.WRK_RING_CFG_IRQ_ALL, R.WRK_RING_CFG_CONTEXT, R.WRK_RING_CFG_SIZE_LOG2,
  R.WRK_RING_CFG_INT_BAY, R.WRK_RING_CFG_BAY, R.WRK_RING_CFG_VECTOR]
def mgmtCfgFlds : List Fld := [R.WRK_MGMT_CFG_ENABLE, R.WRK_MGMT_CFG_SIZE_LOG2, R.WRK_MGMT_CFG_VECTOR]

theorem live_ringCfgFlds : ∀ f ∈ ringCfgFlds, f.cls ≠ .T ∧ f.acc = .RW ∧ (∀ g ∈ ringCfgFlds, g = f ∨ f.apart g = true) ∧
    f.dims = R.WRK_RING_HEAD.dims ∧ 0x2001000 ≤ f.base ∧ f.base < 0x2001040 ∧ f.lo < 32 := by decide

theorem live_mgmtCfgFlds : ∀ f ∈ mgmtCfgFlds, f.cls ≠ .T ∧ f.acc = .RW ∧ (∀ g ∈ mgmtCfgFlds, g = f ∨ f.apart g = true) ∧
    ∀ g ∈ [Blk.WRK.err.1, Blk.WRK.err.2.1, Blk.WRK.err.2.2], f.apart g = true := by decide

/-- The registers of a partition's work rings stand above its own. -/
theorem key_workRing_ne_cfgErr {f g : Fld} (hf : f.dims = R.WRK_RING_HEAD.dims ∧ 0x2001000 ≤ f.base ∧ f.base < 0x2001040 ∧ f.lo < 32)
    (hg : g ∈ [Blk.WRK.err.1, Blk.WRK.err.2.1, Blk.WRK.err.2.2]) (p : Nat) {r : Nat} (hr : r < 64) :
    f.key 0 [p, r] ≠ g.key 0 ([p, r].take Blk.WRK.err.1.dims.length) := by
  obtain ⟨hdims, hlow, hhigh, hlo⟩ := hf
  simp only [Blk.err, List.mem_cons, List.not_mem_nil, or_false] at hg
  have hkey : f.key 0 [p, r] = (f.base + (p * 0x10000 + (r * 0x40 + 0))) * 8 + f.lo := by
    rw [Fld.key, Fld.offset, hdims, Nat.zero_mul, Nat.zero_add]
    rfl
  have herr : g.key 0 [p] = (0x200001C + (p * 0x10000 + 0)) * 8 + g.lo ∧ g.lo < 32 := by
    rcases hg with rfl | rfl | rfl
    · exact ⟨by rw [Fld.key, Nat.zero_mul, Nat.zero_add]; rfl, by decide⟩
    · exact ⟨by rw [Fld.key, Nat.zero_mul, Nat.zero_add]; rfl, by decide⟩
    · exact ⟨by rw [Fld.key, Nat.zero_mul, Nat.zero_add]; rfl, by decide⟩
  obtain ⟨hgkey, hglo⟩ := herr
  change f.key 0 [p, r] ≠ g.key 0 [p]
  rw [hkey, hgkey]
  omega

theorem bits_one_of_bit {v i : Nat} (h : bit v i = true) : bits v i 1 = 1 := by
  simpa [bit, bits, Nat.testBit_eq_decide_div_mod_eq, Nat.shiftRight_eq_div_pow] using h

section Enable
variable {p r v : Nat} {s : State}

theorem State.ringRd_work {w b : Fld} (hr : r < 64) : s.ringRd w b p r = s.rd w 0 [p, r] := if_pos hr

/-- A field of WRK_RING_CFG takes what ENABLE writes there. -/
theorem State.rd_ringCfg {f : Fld} (hf : f ∈ ringCfgFlds) (hr : r < 64) (hmin : f.vmin ≤ bits v f.lo f.width) (hmax : bits v f.lo f.width ≤ f.vmax) :
    (s.regWrite .WRK 0 [p, r] v (fun _ => false) ringCfgFlds).rd f 0 [p, r] = bits v f.lo f.width := by
  obtain ⟨hlive, hacc, hapart, hplace⟩ := live_ringCfgFlds f hf
  exact s.rd_regWrite_takes hlive hacc rfl hf hmin hmax (fun g hg => (hapart g hg).imp_right (fun h => Fld.key_ne_of_apart h 0 [p, r]))
    (fun g hg => key_workRing_ne_cfgErr hplace hg p hr)

theorem exec_ringEnable_active (hp : p < 64) (hr : r < 64) (hv : v < 2 ^ 32) (hen : bit v 31 = true) (hidle : s.rState p r = 0)
    (hctx : s.rd R.PAR_CTX_CFG_STATE 0 [p, bits v 24 4] = 1) (hmin : 6 ≤ bits v 16 5) (hmax : bits v 16 5 ≤ 16) :
    ∃ u, exec (.ringEnable p r v) s = .next u ∧ u.rState p r = 1 ∧ u.rCtx p r = bits v 24 4 ∧ u.rSize p r = 2 ^ bits v 16 5 := by
  refine ⟨((s.regWrite .WRK 0 [p, r] v (fun _ => false) ringCfgFlds).setRing p r 1 0).withQueue s.pending,
    (within_next s _ _ (by simp only [hp, hr, hv, decide_true, Bool.and_self])).trans ?_, ?_, ?_, ?_⟩
  · simp [hen, hidle, hctx, ringCfgFlds]
  · exact State.rState_setRing _ p r 1 0
  · refine (State.rCtx_setRing _ p r 1 0).trans ((State.ringRd_work hr).trans ?_)
    exact State.rd_ringCfg (by decide) hr (Nat.zero_le _) (Nat.le_of_lt_succ (bits_lt v 24 4))
  · refine (State.rSize_setRing _ p r 1 0).trans (congrArg (2 ^ ·) ((State.ringRd_work hr).trans ?_))
    exact State.rd_ringCfg (by decide) hr hmin hmax

theorem exec_ringEnable_refused (hp : p < 64) (hr : r < 64) (hv : v < 2 ^ 32) (hen : bit v 31 = true) (hidle : s.rState p r = 0)
    (hctx : s.rd R.PAR_CTX_CFG_STATE 0 [p, bits v 24 4] = 0 ∨ s.rd R.PAR_CTX_CFG_STATE 0 [p, bits v 24 4] = 3) :
    ∃ u, exec (.ringEnable p r v) s = .next u ∧ u.rState p r = 0 ∧ u.rdB R.WRK_CFG_ERR_CFG_ERR 0 [p] = true := by
  refine ⟨(s.cfgErr .WRK 0 [p, r] (R.WRK_RING_CFG_ENABLE.offset [p, r])).withQueue s.pending,
    (within_next s _ _ (by simp only [hp, hr, hv, decide_true, Bool.and_self])).trans ?_, ?_, ?_⟩
  · simp [hen, hidle, hctx]
  · refine (State.ringRd_work hr).trans ((s.rd_cfgErr_ne .WRK 0 [p, r] _ ?_).trans ((State.ringRd_work hr).symm.trans hidle))
    exact fun g hg => key_workRing_ne_cfgErr (by decide) hg p hr
  · exact s.rdB_cfgErr .WRK 0 [p, r] _ (by decide) (by decide) rfl

theorem exec_mgmtQueueEnable_starts (hp : p < 64) (hv : v < 2 ^ 32) (hen : bit v 31 = true) (hoff : s.rdB R.WRK_MGMT_CFG_ENABLE 0 [p] = false)
    (hmin : 6 ≤ bits v 16 5) (hmax : bits v 16 5 ≤ 12) :
    ∃ u, exec (.mgmtQueueEnable p v) s = .next u ∧ u.rdB R.WRK_MGMT_CFG_ENABLE 0 [p] = true ∧
      u.rd R.WRK_MGMT_CFG_SIZE_LOG2 0 [p] = bits v 16 5 ∧ SMap.get 0 u.mgmtHead p = 0 ∧ SMap.get 0 u.mgmtDone p = 0 := by
  have hcfg : ∀ f ∈ mgmtCfgFlds, f.vmin ≤ bits v f.lo f.width → bits v f.lo f.width ≤ f.vmax →
      (s.regWrite .WRK 0 [p] v (fun _ => false) mgmtCfgFlds).rd f 0 [p] = bits v f.lo f.width := by
    intro f hf hlow hhigh
    obtain ⟨hlive, hacc, hapart, herr⟩ := live_mgmtCfgFlds f hf
    exact s.rd_regWrite_takes hlive hacc rfl hf hlow hhigh (fun g hg => (hapart g hg).imp_right (fun h => Fld.key_ne_of_apart h 0 [p]))
      (fun g hg => Fld.key_ne_of_apart (herr g hg) 0 [p])
  have hone : bits v 31 1 = 1 := bits_one_of_bit hen
  refine ⟨({ s.regWrite .WRK 0 [p] v (fun _ => false) mgmtCfgFlds with
      mgmtHead := SMap.del (s.regWrite .WRK 0 [p] v (fun _ => false) mgmtCfgFlds).mgmtHead p,
      mgmtDone := SMap.del (s.regWrite .WRK 0 [p] v (fun _ => false) mgmtCfgFlds).mgmtDone p } : State).withQueue s.pending,
    (within_next s _ _ (by simp only [hp, hv, decide_true, Bool.and_self])).trans ?_, ?_, ?_, ?_, ?_⟩
  · simp [hen, hoff, mgmtCfgFlds]
  · refine bne_iff_ne.2 (((hcfg R.WRK_MGMT_CFG_ENABLE (by decide) (Nat.zero_le _) (Nat.le_of_lt_succ (bits_lt v 31 1))).trans hone).trans_ne (by decide))
  · exact hcfg R.WRK_MGMT_CFG_SIZE_LOG2 (by decide) hmin hmax
  · exact congrArg (Option.getD · 0) (SMap.look_del_same _ p)
  · exact congrArg (Option.getD · 0) (SMap.look_del_same _ p)

end Enable

/-! ### STOP and RESET (R221) -/

section Stop
variable {p r : Nat} {s : State}

/-- A ring with no descriptor fetched has none to end. -/
theorem State.endDescs_none (h : ∀ d ∈ s.descs, ¬(d.part = p ∧ d.ring = r)) (status d1 : Nat) (write : Bool) : s.endDescs p r status d1 write = s := by
  have hnone : s.descs.filter (fun d => d.part == p && d.ring == r) = [] := List.filter_eq_nil_iff.2 (fun d hd => by simpa using h d hd)
  rw [State.endDescs, hnone, State.each_nil]

/-- A STOP with nothing fetched only drains the ring. -/
theorem State.endDescs_stopping (h : ∀ d ∈ s.descs, ¬(d.part = p ∧ d.ring = r)) : (s.setRing p r 2 1).endDescs p r 5 6 true = s.setRing p r 2 1 := by
  refine State.endDescs_none ?_ 5 6 true
  have hdescs : (s.setRing p r 2 1).descs = s.descs := congrArg World.descs (s.world_setRing p r 2 1)
  rwa [hdescs]

theorem State.rState_stopped (h : ∀ d ∈ s.descs, ¬(d.part = p ∧ d.ring = r)) (hflight : s.rFlight p r = 0) :
    (((s.setRing p r 2 1).endDescs p r 5 6 true).drained p r).rState p r = 3 := by
  rw [State.endDescs_stopping h, State.drained_idle _ _ _ (State.rState_setRing s p r 2 1) ((State.rFlight_setRing s p r 2 1).trans hflight)]
  exact State.ringRd_ringWr_same _ p r (by decide) 3

theorem State.rState_stopping (h : ∀ d ∈ s.descs, ¬(d.part = p ∧ d.ring = r)) (hflight : s.rFlight p r ≠ 0) :
    (((s.setRing p r 2 1).endDescs p r 5 6 true).drained p r).rState p r = 2 := by
  rw [State.endDescs_stopping h, State.drained_waits]
  · exact State.rState_setRing s p r 2 1
  · exact fun hd => hflight ((State.rFlight_setRing s p r 2 1).symm.trans hd.2)

/-- An IDLE ring's counts start at 0 (R221). -/
theorem State.ringIdle_reads : (s.ringIdle p r).rState p r = 0 ∧ (s.ringIdle p r).rHead p r = 0 ∧ (s.ringIdle p r).rDone p r = 0 := by
  refine ⟨State.rState_setRing _ p r 0 0, (State.rHead_setRing _ p r 0 0).trans ?_, (State.rDone_setRing _ p r 0 0).trans ?_⟩
  · rw [State.rHead, State.ringRd_ringWr_apart _ _ _ (by decide) (by decide), State.ringRd_ringWr_apart _ _ _ (by decide) (by decide),
      State.ringRd_ringWr_same _ _ _ (by decide)]
    rfl
  · rw [State.rDone, State.ringRd_ringWr_apart _ _ _ (by decide) (by decide), State.ringRd_ringWr_same _ _ _ (by decide)]
    rfl

theorem exec_ringReset_idles (hp : p < 64) (hr : r < 64) (hstate : s.rState p r = 3 ∨ s.rState p r = 4) (hflight : s.rFlight p r = 0) :
    ∃ u, exec (.ringReset p r) s = .next u ∧ u.rState p r = 0 ∧ u.rHead p r = 0 ∧ u.rDone p r = 0 := by
  refine ⟨(s.ringIdle p r).withQueue s.pending, (within_next s _ _ (by simp [hp, hr])).trans ?_, State.ringIdle_reads⟩
  have hreset : s.ringReset p r = s.ringIdle p r := if_pos (by simpa [hflight] using hstate)
  rw [hreset]

end Stop

/-- Settles O22: the ring controls by the state of the ring, the enable of a management queue, and CLEAR_STATS of the Sheepdog. -/
theorem ringControlsComplete : Obligations.RingControlsComplete := by
  unfold Obligations.RingControlsComplete
  refine ⟨fun p r v s hp hr hv hen hidle hctx hmin hmax => exec_ringEnable_active hp hr hv hen hidle hctx hmin hmax,
    fun p r v s hp hr hv hen hidle hctx => exec_ringEnable_refused hp hr hv hen hidle hctx, ?stop,
    fun p r s hp hr hstate hflight => exec_ringReset_idles hp hr hstate hflight,
    fun p v s hp hv hen hoff hmin hmax => exec_mgmtQueueEnable_starts hp hv hen hoff hmin hmax, ?clear⟩
  case stop =>
    intro p r s hp hr hactive
    refine ⟨(within_next s _ _ (by simp [hp, hr])).trans ?_, State.rState_stopped, State.rState_stopping⟩
    have hstop : s.ringStop p r = ((s.setRing p r 2 1).endDescs p r 5 6 true).drained p r := if_neg (by simp [hactive])
    rw [hstop]
  case clear =>
    intro s
    obtain ⟨u, hu, hreads⟩ := exec_clearRow_reads (c := .shdClearStats) s rfl rfl
    exact ⟨u, hu, hreads R.SHD_ADMITTED (by decide) [] (by decide), hreads R.SHD_DB_LATE (by decide) [] (by decide),
      hreads R.SHD_DESC_LATE (by decide) [] (by decide), hreads R.SHD_WINDOW_WINDOW_MAX (by decide) [] (by decide)⟩

end Sys2Proof.Machine
end

section
/-! SUPPORT. Admission (R202 to R206): what a command does with the head of a ring in its turn, and the clusters of an admitted unit. -/

namespace Sys2Proof.Machine

/-! ### The head of a ring in its turn -/

section Turn
variable {s : State} {p r : Nat}

/-- Admission stands at a ring in its turn: the window is open and the first head that has a turn is to be acted on. -/
theorem State.turn_iff : s.turn p r = true ↔ 2 ≤ s.window p (queueOf r) ∧ ∃ d, s.turnHead p (queueOf r) = some (r, d) ∧ s.headDo p r d = .act := by
  unfold State.turn
  cases s.turnHead p (queueOf r) with
  | none => simp
  | some x =>
    obtain ⟨k, d⟩ := x
    simp only [Bool.and_eq_true, decide_eq_true_eq, beq_iff_eq, Option.some.injEq, Prod.mk.injEq]
    constructor
    · rintro ⟨hopen, rfl, hact⟩
      exact ⟨hopen, d, ⟨rfl, rfl⟩, hact⟩
    · rintro ⟨hopen, e, ⟨rfl, rfl⟩, hact⟩
      exact ⟨hopen, rfl, hact⟩

/-- There admission goes no further by itself. -/
theorem State.advance_turn (h : s.turn p r = true) : s.advance p (queueOf r) = s := by
  obtain ⟨hopen, d, hhead, hact⟩ := State.turn_iff.1 h
  rw [State.advance, if_pos hopen]
  show State.advance.go p (queueOf r) (s.descs.length + 63 + 1) s = s
  simp only [State.advance.go, hhead, hact]

variable {d : Desc} {dt kind : Nat} {f : State → Desc → State}

/-- A command of the head's TYPE takes its effect at its time once the head passes its checks (R202). -/
theorem State.onHead_passes (hhead : s.headDesc p r = some d) (hturn : s.turn p r = true) (hkind : d.kind = kind)
    (hgood : (s.at_ dt).badReason d = none) : s.onHead p r dt kind (fun _ => true) f = (f (s.at_ dt) d).advance p (queueOf r) := by
  simp only [State.onHead, State.advance_turn hturn, hhead, hturn, hkind, hgood, Bool.not_true, bne_self_eq_false, Bool.or_self, Bool.false_eq_true, if_false]

/-- A head that fails a check completes BAD_DESCRIPTOR with the reason (R202). -/
theorem State.onHead_bad {reason : Nat} (hhead : s.headDesc p r = some d) (hturn : s.turn p r = true) (hkind : d.kind = kind)
    (hbad : (s.at_ dt).badReason d = some reason) : s.onHead p r dt kind (fun _ => true) f =
      (((s.at_ dt).endDesc d 9 0 reason true).settleRing d.part d.ring).advance p (queueOf r) := by
  have hcomplete : (s.at_ dt).completeDesc d 9 reason = ((s.at_ dt).endDesc d 9 0 reason true).settleRing d.part d.ring := rfl
  simp only [State.onHead, State.advance_turn hturn, hhead, hturn, hkind, hbad, hcomplete, Bool.not_true, bne_self_eq_false, Bool.or_self,
    Bool.false_eq_true, if_false]

end Turn

/-! ### KERNEL and MARKER (R203 to R205, R379) -/

section Commands
variable {s : State} {p r dt : Nat} {d : Desc} {i : Image}

theorem within_ring (hp : p < 64) (hr : r < 80) (t : State) : within s (decide (p < 64) && decide (r < 80)) t = .next (t.withQueue s.pending) :=
  within_next s t _ (by simp only [hp, hr, decide_true, Bool.and_self])

theorem exec_marker_completes (hp : p < 64) (hr : r < 80) (hhead : s.headDesc p r = some d) (hturn : s.turn p r = true) (hkind : d.kind = 3)
    (hgood : (s.at_ dt).badReason d = none) :
    exec (.marker p r dt) s = .next ((((s.at_ dt).completeDesc d 0 0).advance p (queueOf r)).withQueue s.pending) := by
  refine (within_ring hp hr _).trans ?_
  rw [State.onHead_passes hhead hturn hkind hgood]

theorem exec_kernel_bad {reason : Nat} (hp : p < 64) (hr : r < 80) (hhead : s.headDesc p r = some d) (hturn : s.turn p r = true) (hkind : d.kind = 1)
    (hbad : (s.at_ dt).badReason d = some reason) : exec (.kernel p r dt) s =
      .next (((((s.at_ dt).endDesc d 9 0 reason true).settleRing d.part d.ring).advance p (queueOf r)).withQueue s.pending) := by
  refine (within_ring hp hr _).trans ?_
  rw [State.kernel, State.onHead_bad hhead hturn hkind hbad]

theorem exec_kernel_placed {cs : List Nat} (hp : p < 64) (hr : r < 64) (hhead : s.headDesc p r = some d) (hturn : s.turn p r = true) (hkind : d.kind = 1)
    (hgood : (s.at_ dt).badReason d = none) (himage : (s.at_ dt).image? p ((s.at_ dt).rCtx p r) (d.nat 0x10 2) = some i)
    (hplace : (s.at_ dt).place p i.data = some cs) : exec (.kernel p r dt) s =
      .next (((((s.at_ dt).takeUnit d .kernel cs).assign d s.nextUid i.data cs).advance p (queueOf r)).withQueue s.pending) := by
  refine (within_ring hp (by omega) _).trans ?_
  rw [State.kernel, State.onHead_passes hhead hturn hkind hgood]
  simp only [if_pos hr, himage, hplace]
  rfl

theorem exec_kernel_unplaced (hp : p < 64) (hr : r < 64) (hhead : s.headDesc p r = some d) (hturn : s.turn p r = true) (hkind : d.kind = 1)
    (hgood : (s.at_ dt).badReason d = none) (himage : (s.at_ dt).image? p ((s.at_ dt).rCtx p r) (d.nat 0x10 2) = some i)
    (hplace : (s.at_ dt).place p i.data = none) : exec (.kernel p r dt) s =
      .next (((((s.at_ dt).endDesc d 8 0 (((s.at_ dt).clustersOf p).length * 2 ^ 16 + imgClusters i.data) true).settleRing d.part d.ring).advance
        p (queueOf r)).withQueue s.pending) := by
  refine (within_ring hp (by omega) _).trans ?_
  rw [State.kernel, State.onHead_passes hhead hturn hkind hgood]
  simp only [if_pos hr, himage, hplace]
  rfl

theorem exec_kernel_bay (hp : p < 64) (hlow : 64 ≤ r) (hr : r < 80) (hhead : s.headDesc p r = some d) (hturn : s.turn p r = true) (hkind : d.kind = 1)
    (hgood : (s.at_ dt).badReason d = none) : exec (.kernel p r dt) s =
      .next (((((s.at_ dt).takeUnit d .bay []).bwSend (s.rd R.BAY_Q_BIND_BAY 0 [p, r - 64]) 0x30 ((s.at_ dt).bwId p r d.count)
        ((s.at_ dt).gen p) p ((s.at_ dt).rCtx p r) 0 (d.count % 2 ^ 32) 0 d.bytes).advance p (queueOf r)).withQueue s.pending) := by
  refine (within_ring hp hr _).trans ?_
  rw [State.kernel, State.onHead_passes hhead hturn hkind hgood]
  simp only [if_neg (Nat.not_lt.2 hlow)]
  rfl

end Commands

/-! ### The clusters of an admitted unit (R80, R205) -/

/-- What admission writes into a cluster and the status of its tiles. -/
def State.assignClu (d : Desc) (uid : Nat) (img : List Byte) (s : State) (x : Nat × Nat) : State :=
  ((s.setClu x.1 { s.clu x.1 with unit := some uid, logical := x.2, loaded := false, ended := false }).wrs (cluDie x.1) (cluIx x.1)
    [(R.CLU_STATUS_STATE, 1), (R.CLU_STATUS_CONTEXT, s.rCtx d.part d.ring), (R.CLU_STATUS_TILE_MASK, imgMask img x.2),
      (R.CLU_UNIT_RING, 64 * d.part + d.ring), (R.CLU_UNIT_INDEX, d.count % s.rSize d.part d.ring)]).each (List.range 16)
    (fun s t => s.wrTil R.TIL_STATUS_STATE (16 * x.1 + t) 0)

theorem State.assign_eq (s : State) (d : Desc) (uid : Nat) (img : List Byte) (cs : List Nat) :
    s.assign d uid img cs = s.each cs.zipIdx (State.assignClu d uid img) := rfl

/-- A cluster is marked busy with a unit. -/
def BusyWith (uid c : Nat) (s : State) : Prop := s.rdClu R.CLU_STATUS_STATE c = 1 ∧ (s.clu c).unit = some uid

theorem State.rdClu_wrClu_busy (s : State) {f : Fld} (hf : f ∈ cluFlds) (hne : f ≠ R.CLU_STATUS_STATE) (c e v : Nat) :
    (s.wrClu f c v).rdClu R.CLU_STATUS_STATE e = s.rdClu R.CLU_STATUS_STATE e :=
  s.rdClu_wrClu_ne hf (by decide) hne.symm c e v

/-- The writes of `assignClu` to the cluster's own registers, one by one. -/
theorem State.assignClu_eq (s : State) (d : Desc) (uid : Nat) (img : List Byte) (x : Nat × Nat) : s.assignClu d uid img x =
    ((((((s.setClu x.1 { s.clu x.1 with unit := some uid, logical := x.2, loaded := false, ended := false }).wrClu R.CLU_STATUS_STATE x.1 1).wrClu
      R.CLU_STATUS_CONTEXT x.1 (s.rCtx d.part d.ring)).wrClu R.CLU_STATUS_TILE_MASK x.1 (imgMask img x.2)).wrClu
      R.CLU_UNIT_RING x.1 (64 * d.part + d.ring)).wrClu R.CLU_UNIT_INDEX x.1 (d.count % s.rSize d.part d.ring)).each (List.range 16)
      (fun s t => s.wrTil R.TIL_STATUS_STATE (16 * x.1 + t) 0) := rfl

/-- What of `assignClu` follows the change of STATE leaves the status and the unit of every cluster alone. -/
theorem State.busy_assignClu (s : State) (d : Desc) (uid : Nat) (img : List Byte) (x : Nat × Nat) (e : Nat) :
    (s.assignClu d uid img x).rdClu R.CLU_STATUS_STATE e = (s.wrClu R.CLU_STATUS_STATE x.1 1).rdClu R.CLU_STATUS_STATE e ∧
    (s.assignClu d uid img x).clu e = (s.setClu x.1 { s.clu x.1 with unit := some uid, logical := x.2, loaded := false, ended := false }).clu e := by
  rw [State.assignClu_eq]
  constructor
  · rw [State.rdClu_each_wrTil _ (by decide) (by decide), State.rdClu_wrClu_busy _ (by decide) (by decide), State.rdClu_wrClu_busy _ (by decide) (by decide),
      State.rdClu_wrClu_busy _ (by decide) (by decide), State.rdClu_wrClu_busy _ (by decide) (by decide)]
    rfl
  · refine State.each_keeps (fun u => u.clu e = (s.setClu x.1 _).clu e) _ (fun u t hu => (u.clu_wrTil _ _ _ e).trans hu) _ _ ?_
    simp only [State.clu_wrClu]

theorem State.assignClu_sets (s : State) (d : Desc) (uid : Nat) (img : List Byte) (x : Nat × Nat) : BusyWith uid x.1 (s.assignClu d uid img x) := by
  obtain ⟨hstate, hclu⟩ := s.busy_assignClu d uid img x x.1
  exact ⟨hstate.trans (s.rdClu_wrClu_same R.CLU_STATUS_STATE x.1 1), by rw [hclu, State.clu_setClu_same]⟩

theorem State.assignClu_keeps (s : State) (d : Desc) (uid : Nat) (img : List Byte) (x y : Nat × Nat) (h : BusyWith uid x.1 s) :
    BusyWith uid x.1 (s.assignClu d uid img y) := by
  by_cases hxy : x.1 = y.1
  · rw [hxy]
    exact s.assignClu_sets d uid img y
  · obtain ⟨hstate, hclu⟩ := s.busy_assignClu d uid img y x.1
    obtain ⟨hs, hu⟩ := h
    refine ⟨hstate.trans ((s.rdClu_wrClu_other (by decide) (by decide) hxy 1).trans hs), ?_⟩
    rw [hclu, State.clu_setClu_ne _ _ _ _ hxy, hu]

/-- So every cluster of the unit is busy with it. -/
theorem State.assign_busy (s : State) (d : Desc) (uid : Nat) (img : List Byte) (cs : List Nat) : ∀ c ∈ cs, BusyWith uid c (s.assign d uid img cs) := by
  intro c hc
  obtain ⟨n, hn, hc⟩ := List.getElem_of_mem hc
  have hmem : (c, n) ∈ cs.zipIdx := List.mem_zipIdx_iff_getElem?.2 (by rw [List.getElem?_eq_getElem hn, hc])
  rw [State.assign_eq]
  exact State.each_establishes (fun (x : Nat × Nat) t => BusyWith uid x.1 t) (State.assignClu d uid img) (fun s x => State.assignClu_sets s d uid img x)
    (fun s x y h => State.assignClu_keeps s d uid img x y h) cs.zipIdx s (c, n) hmem

/-- A unit taken from a descriptor stands last among the units. -/
theorem State.units_takeUnit (s : State) (d : Desc) (kind : UnitKind) (cs : List Nat) :
    (s.takeUnit d kind cs).units = s.units ++ [s.newUnit d kind cs] := by
  rw [State.takeUnit, State.bump, State.wr_units]

/-- Settles O19: the head of a ring in its turn is admitted, completed or sent on. -/
theorem admissionCompletes : Obligations.AdmissionCompletes := by
  unfold Obligations.AdmissionCompletes
  refine ⟨?placed, fun p r dt s d hp hr hhead hturn hkind _ hgood => exec_marker_completes hp hr hhead hturn hkind hgood,
    fun p r dt reason s d hp hr hhead hturn hkind _ hbad => exec_kernel_bad hp hr hhead hturn hkind hbad,
    fun p r dt s d i hp hr hhead hturn hkind _ hgood himage hplace => exec_kernel_unplaced hp hr hhead hturn hkind hgood himage hplace,
    fun p r dt s d hp hlow hr hhead hturn hkind _ hgood => exec_kernel_bay hp hlow hr hhead hturn hkind hgood⟩
  case placed =>
    intro p r dt s d i cs hp hr hhead hturn hkind _ hgood himage hplace
    exact ⟨exec_kernel_placed hp hr hhead hturn hkind hgood himage hplace, State.units_takeUnit (s.at_ dt) d .kernel cs,
      State.assign_busy ((s.at_ dt).takeUnit d .kernel cs) d s.nextUid i.data cs⟩

end Sys2Proof.Machine
end

section
/-! SUPPORT. A sampling that finds another access still asked for: the read it sends for its descriptors takes that access along, and its count can fall on
a register of the ring. Between two commands nothing is asked for (log entry 119), but the sampling clause of O20 does not say so. -/

namespace Sys2Proof.Machine

/-- A read of one granule by a master port under a class far past the fourth: LSH_M_BE of that class has the address of RING_STATE of ring 0. -/
def strayRead : Req :=
  State.reset.agentReq { Agent.mgmt 0 0 with mport := 0, rcls := (R.WRK_RING_STATE_IN_FLIGHT.base - R.LSH_M_BE.base) / 8 } .rdCur 0 256 [] .agent

/-- Ring 0 of partition 0 ACTIVE, its descriptors read through the context's addresses, at most one in flight, with `strayRead` asked for. -/
def strayAsked : State := { State.reset with
  regs := [(R.WRK_RING_LO_LOC.key 0 [0, 0], 1), (R.WRK_RING_LIMIT_FETCH_MAX.key 0 [0, 0], 1), (R.WRK_RING_STATE_STATE.key 0 [0, 0], 1)]
  ask := [.mem strayRead] }

/-- One descriptor is fetched, and 8 units of the stray read are counted in the same place. -/
theorem rFlight_sampleRing_strayAsked : (strayAsked.sampleRing 0 0 1 0).rFlight 0 0 = 9 := by
  decide +kernel

/-- Refutes O20: its sampling clause bounds IN_FLIGHT by FETCH_MAX in every state, also in one with an access still asked for, which the read of the
descriptor sends along. With FETCH_MAX at 1 and nothing in flight, IN_FLIGHT comes to 9. The clause lacks the hypothesis that nothing is asked for. -/
theorem not_fetchCommandsComplete : ¬ Obligations.FetchCommandsComplete := by
  unfold Obligations.FetchCommandsComplete
  rintro ⟨-, hsample⟩
  obtain ⟨-, -, hfetch⟩ := hsample 0 0 1 0 strayAsked (by decide) (by decide) (by decide +kernel)
  obtain ⟨-, -, hbound⟩ := hfetch (by decide +kernel) (by decide +kernel) (by decide +kernel) (by decide +kernel)
  rw [rFlight_sampleRing_strayAsked] at hbound
  exact absurd hbound (by decide +kernel)

end Sys2Proof.Machine
end

section
/-! SUPPORT. Writing a record changes no unit: nothing of what carries it to the host or to DRAM, and nothing that follows it, touches the units. -/

namespace Sys2Proof.Machine

section UnitFrame
variable (s : State)

theorem State.units_of_world {s t : State} (h : t.world = s.world) : t.units = s.units := congrArg World.units h

theorem State.units_each {α : Type} (l : List α) (f : State → α → State) (hf : ∀ s a, (f s a).units = s.units) : (s.each l f).units = s.units :=
  foldl_same State.units f hf l s

@[simp] theorem State.units_bump (f : Fld) (d : Nat) (ix : List Nat) (n : Nat) : (s.bump f d ix n).units = s.units := rfl
@[simp] theorem State.units_roll (f : Fld) (d : Nat) (ix : List Nat) (n : Nat) : (s.roll f d ix n).units = s.units := rfl
@[simp] theorem State.units_addReq (r : Req) : (s.addReq r).units = s.units := rfl
@[simp] theorem State.units_stcSetLine (l : StcLine) : (s.stcSetLine l).units = s.units := rfl
@[simp] theorem State.units_tlbTouch (cache : Nat) (e : TlbEntry) : (s.tlbTouch cache e).units = s.units := rfl

/-! ### DRAM and the caches -/

@[simp] theorem State.units_qPut (q loc : Nat) (bs : List Byte) : (s.qPut q loc bs).units = s.units := by
  unfold State.qPut
  split <;> rfl

@[simp] theorem State.units_writeBack (l : StcLine) : (s.writeBack l).units = s.units := by
  unfold State.writeBack
  dsimp only
  split <;> exact s.units_each _ _ (fun _ _ => rfl)

@[simp] theorem State.units_stcFill (q gran mask valid dirty rrpv : Nat) : (s.stcFill q gran mask valid dirty rrpv).units = s.units := by
  unfold State.stcFill
  split
  · rfl
  · dsimp only
    split
    · rfl
    · exact s.units_writeBack _

@[simp] theorem State.units_stcAccess (q gran mask dpa part : Nat) (hint write : Bool) : (s.stcAccess q gran mask dpa part hint write).units = s.units := by
  unfold State.stcAccess
  split
  · rfl
  · extract_lets d st t dramMask s1 s2
    have h1 : s1.units = s.units := by
      simp only [s1]
      split <;> rfl
    have h2 : s2.units = s.units := by
      rw [← h1]
      simp only [s2]
      repeat' split
      all_goals rfl
    rw [← h2]
    split
    · split
      · split <;> exact s2.units_stcFill _ _ _ _ _ _
      · split <;> exact s2.units_stcFill _ _ _ _ _ _
    · split
      · split <;> rfl
      · exact s2.units_stcFill _ _ _ _ _ _

@[simp] theorem State.units_knlMark (dpa q : Nat) : (s.knlMark dpa q).units = s.units := by
  unfold State.knlMark
  split <;> rfl

@[simp] theorem State.units_atomicAt (q loc size op opnd cmp : Nat) : (s.atomicAt q loc size op opnd cmp).2.units = s.units := by
  unfold State.atomicAt
  dsimp only
  split
  · exact s.units_qPut _ _ _
  · exact State.units_qPut _ _ _ _

/-! ### Requests on their way -/

@[simp] theorem State.units_fabricTake (d m : Nat) (links : List Nat) (n : Nat) (own : Bool) : (s.fabricTake d m links n own).units = s.units := by
  unfold State.fabricTake
  dsimp only
  split
  · split <;> rfl
  · split
    · rfl
    · exact s.units_each _ _ (fun _ _ => rfl)

@[simp] theorem State.units_goes (r : Req) (g : Bool) : (s.goes r g).units = s.units := by
  unfold State.goes
  dsimp only
  rw [State.units_fabricTake]
  split <;> rfl

@[simp] theorem State.units_leash1 (r : Req) : (s.leash1 r).units = s.units := by
  unfold State.leash1
  extract_lets _ _ _ _ _ _ _ _
  split
  · rw [State.units_addReq, State.units_goes]
  · split
    · rfl
    · rw [State.units_addReq, State.units_goes]

@[simp] theorem State.units_portServe (d m q c units age : Nat) : (s.portServe d m q c units age).units = s.units := by
  unfold State.portServe
  dsimp only
  split <;> split <;> rfl

@[simp] theorem State.units_quickPass (r : Req) : (s.quickPass r).units = s.units := by
  unfold State.quickPass
  dsimp only
  split <;> simp

theorem State.units_quickWrite {t : State} {a : Agent} {dpa : Nat} {bs : List Byte} (h : s.quickWrite a dpa bs = some t) : t.units = s.units := by
  unfold State.quickWrite at h
  split at h
  · exact absurd h (by simp)
  · dsimp only at h
    split at h
    · rw [← Option.some.inj h]
      simp
    · exact absurd h (by simp)

theorem State.units_quickAtomic {t : State} {a : Agent} {dpa size op opnd cmp : Nat} {old : List Byte}
    (h : s.quickAtomic a dpa size op opnd cmp = some (old, t)) : t.units = s.units := by
  unfold State.quickAtomic at h
  split at h
  · exact absurd h (by simp)
  · dsimp only at h
    split at h
    · have ht : _ = t := congrArg Prod.snd (Option.some.inj h)
      rw [← ht]
      simp
    · exact absurd h (by simp)

theorem State.units_post {t : State} {a : Agent} {by_ : PostBy} {dpa : Nat} {bs : List Byte} (h : s.post a by_ dpa bs = some t) : t.units = s.units := by
  unfold State.post at h
  dsimp only at h
  split at h
  · rw [← Option.some.inj h]
    refine s.units_each _ _ (fun u p => ?_)
    cases hq : u.quickWrite a p.1 ((bs.drop (p.1 - dpa)).take p.2) with
    | none => exact u.units_leash1 _
    | some v => exact u.units_quickWrite hq
  · exact absurd h (by simp)

@[simp] theorem State.units_askMem (r : Req) : (s.askMem r).2.units = s.units := by
  obtain ⟨q, a, h⟩ := s.askMem_frame r
  rw [h]

@[simp] theorem State.units_physAtomic (a : Agent) (dpa size op opnd cmp : Nat) : (s.physAtomic a dpa size op opnd cmp).2.units = s.units := by
  rcases s.physAtomic_cases a dpa size op opnd cmp with ⟨_, h⟩ | ⟨_, _, h⟩ | ⟨_, _, old, t, hquick, h⟩ | ⟨_, _, h⟩
  · rw [h]
  · rw [h]
  · rw [h]
    exact s.units_quickAtomic hquick
  · rw [h]
    exact s.units_askMem _

/-! ### Translation -/

@[simp] theorem State.units_allow (die : Nat) (e : TlbEntry) (write : Bool) (uid : Nat) : (s.allow die e write uid).2.units = s.units := by
  unfold State.allow
  split
  · rfl
  · split
    · have h := s.units_physAtomic (walkerFor e.part die e.ctx uid 0) e.entryDpa 8 2 16 0
      split <;> next heq => rw [heq] at h; exact h
    · rfl

@[simp] theorem State.units_xlate (a : Virt) (va : Nat) (write : Bool) : (s.xlate a va write).2.units = s.units := by
  unfold State.xlate
  split
  · rfl
  · split
    · rfl
    · split
      · rw [State.units_allow, State.units_tlbTouch, State.units_bump]
      · split
        · split <;> rfl
        · split <;> rfl

theorem State.units_pumpAts_go (n : Nat) (s : State) : (State.pumpAts.go n s).units = s.units := by
  induction n generalizing s with
  | zero => rfl
  | succ n ih =>
    rw [State.pumpAts.go]
    split
    · rfl
    · split
      · rfl
      · exact (ih _).trans rfl

@[simp] theorem State.units_addMiss (m : Miss) : (s.addMiss m).units = s.units := by
  unfold State.addMiss
  split
  · rfl
  · exact State.units_pumpAts_go _ _

@[simp] theorem State.units_doAsk (left : List Req) (a : Ask) : (s.doAsk left a).units = s.units := by
  unfold State.doAsk
  split
  · split
    · rfl
    · exact s.units_leash1 _
  · split
    · rfl
    · exact State.units_addMiss _ _
  · rfl

/-! ### Host writes, and structures in either place -/

@[simp] theorem State.units_hostWrite (fn addr : Nat) (bs : List Byte) (ro : Bool) : (s.hostWrite fn addr bs ro).units = s.units := by
  unfold State.hostWrite
  split
  · rfl
  · split
    · rfl
    · exact s.units_each _ _ (fun _ _ => rfl)

@[simp] theorem State.units_virtPut (w : Parked) : (s.virtPut w).1.units = s.units := by
  unfold State.virtPut
  extract_lets park
  have hpark : ∀ t : State, (park t).units = t.units := fun _ => rfl
  split
  · rfl
  · split
    · rfl
    · split
      next e t heq =>
        have ht : t.units = s.units := (congrArg (fun x => x.2.units) heq).symm.trans (s.units_xlate _ _ _)
        split
        · exact (t.units_hostWrite _ _ _ _).trans ht
        · split
          next v hpost => exact (t.units_post hpost).trans ht
          next => split <;> exact ht
      next r t _ heq =>
        have ht : t.units = s.units := (congrArg (fun x => x.2.units) heq).symm.trans (s.units_xlate _ _ _)
        split
        · exact (hpark _).trans (s.units_each t.ask (State.doAsk t.reqs) (fun u k => u.units_doAsk t.reqs k))
        · split <;> exact ht

@[simp] theorem State.units_virtPost (a : Virt) (va : Nat) (bs : List Byte) (by_ : PostBy) : (s.virtPost a va bs by_).1.units = s.units := by
  unfold State.virtPost
  refine foldl_same (fun acc : State × Bool => acc.1.units) _ (fun acc pt => ?_) _ _
  exact acc.1.units_virtPut _

@[simp] theorem State.units_locWrite (loc : Bool) (p c addr : Nat) (bs : List Byte) (by_ : PostBy) :
    (s.locWrite loc p c addr bs by_).1.units = s.units := by
  unfold State.locWrite
  split
  · exact s.units_virtPost _ _ _ _
  · exact s.units_hostWrite _ _ _ _

/-! ### Rings, interrupts and events -/

@[simp] theorem State.units_ringWr (w b : Fld) (p r v : Nat) : (s.ringWr w b p r v).units = s.units := State.units_of_world (s.world_ringWr w b p r v)
@[simp] theorem State.units_setRing (p r st reason : Nat) : (s.setRing p r st reason).units = s.units :=
  State.units_of_world (s.world_setRing p r st reason)
@[simp] theorem State.units_addFlight (p r : Nat) (n : Int) : (s.addFlight p r n).units = s.units := s.units_ringWr _ _ _ _ _
@[simp] theorem State.units_countAbort (p r : Nat) : (s.countAbort p r).units = s.units := s.units_ringWr _ _ _ _ _

@[simp] theorem State.units_drained (p r : Nat) : (s.drained p r).units = s.units := by
  unfold State.drained
  split
  · exact s.units_ringWr _ _ _ _ _
  · rfl

@[simp] theorem State.units_irq (fn v : Nat) : (s.irq fn v).units = s.units := by
  unfold State.irq
  split <;> rfl

@[simp] theorem State.units_partIrq (p v : Nat) : (s.partIrq p v).units = s.units := by
  unfold State.partIrq
  dsimp only
  split <;> simp

@[simp] theorem State.units_bayIrq (p bay v : Nat) : (s.bayIrq p bay v).units = s.units := by
  unfold State.bayIrq
  dsimp only
  split <;> rfl

@[simp] theorem State.units_ringIrq (p r : Nat) : (s.ringIrq p r).units = s.units := by
  unfold State.ringIrq
  dsimp only
  split <;> simp

@[simp] theorem State.units_wrkEvent (p : Nat) (f : Fld) : (s.wrkEvent p f).units = s.units := by
  unfold State.wrkEvent State.eventIrq
  split
  · rfl
  · dsimp only
    split
    · rfl
    · split <;> rfl

/-- The counts of a ring after the write of record `n` (R211, R215). -/
def State.counted (s : State) (p r n : Nat) (c : Cpl) : State :=
  let t := (s.ringWr R.WRK_RING_DONE R.BAY_Q_DONE p r (n + 1)).addFlight p r (-1)
  if c.status = 5 then t.countAbort p r else t

/-- What follows the write of record `n`: the counts of its ring, the interrupt, and the ring's drain or error (R211, R218, R220, R223). -/
def State.recorded (s : State) (p r n : Nat) (c : Cpl) (ok : Bool) : State :=
  let s := s.counted p r n c
  let s := if ok && (c.irq || s.ringRd R.WRK_RING_CFG_IRQ_ALL R.BAY_Q_CFG_IRQ_ALL p r == 1) then s.ringIrq p r else s
  let s := s.drained p r
  if ok then s else s.ringError p r 8

@[simp] theorem State.units_counted (p r n : Nat) (c : Cpl) : (s.counted p r n c).units = s.units := by
  unfold State.counted
  dsimp only
  split <;> simp

@[simp] theorem State.units_recorded (p r n : Nat) (c : Cpl) (ok : Bool) : (s.recorded p r n c ok).units = s.units := by
  unfold State.recorded
  extract_lets s1 s2 s3
  have h2 : s2.units = s1.units := by
    simp only [s2]
    split
    · exact s1.units_ringIrq p r
    · rfl
  have h3 : s3.units = s.units := (s2.units_drained p r).trans (h2.trans (s.units_counted p r n c))
  split
  · exact h3
  · exact ((State.units_wrkEvent _ _ _).trans (s3.units_setRing p r 4 8)).trans h3

theorem State.record_eq (p r : Nat) (c : Cpl) : s.record p r c =
    (fun w : State × Bool => w.1.recorded p r (s.rDone p r) c w.2)
      (s.locWrite (s.rLoc p r) p (s.rCtx p r) (s.rCplBase p r + 32 * (s.rDone p r % s.rSize p r)) (c.bytes (s.rSize p r) (s.rDone p r)) (.ring p r)) := rfl

@[simp] theorem State.units_record (p r : Nat) (c : Cpl) : (s.record p r c).units = s.units := by
  rw [State.record_eq, State.units_recorded, State.units_locWrite]

@[simp] theorem State.units_endDesc (d : Desc) (status d0 d1 : Nat) (write : Bool) : (s.endDesc d status d0 d1 write).units = s.units := by
  unfold State.endDesc
  extract_lets s1
  split
  · split <;> simp [s1]
  · exact (State.units_record _ _ _ _).trans rfl

@[simp] theorem State.units_endDescs (p r status d1 : Nat) (write : Bool) : (s.endDescs p r status d1 write).units = s.units :=
  s.units_each _ _ (fun u d => u.units_endDesc d status 0 d1 write)

/-- Stopping a context changes the units only in ending those of it (R222). -/
theorem State.units_stopCtx (p c reason stopReason : Nat) : (s.stopCtx p c reason stopReason).units =
    (s.endUnits (fun u => u.part == p && u.ctx == c) ⟨5, 0, reason⟩).units := by
  unfold State.stopCtx
  extract_lets s1 rs moved s2 s3
  have h2 : s2.units = s1.units := s1.units_each _ _ (fun u r => u.units_endDescs p r 5 reason true)
  have h3 : s3.units = s2.units := s2.units_each _ _ (fun u r => by split <;> simp)
  split
  · exact h3.trans h2
  · exact h3.trans h2

end UnitFrame

end Sys2Proof.Machine
end

section
/-! SUPPORT. Ends of units (R211, R214, R215, R222, R224, R245, R246): the record of one, its budget end, and its hard limit. -/

namespace Sys2Proof.Machine

/-! ### A record in host memory (R211) -/

/-- The fields of a work ring that a record touches or asks for. -/
def recordFlds : List Fld := [R.WRK_RING_STATE_STATE, R.WRK_RING_STATE_IN_FLIGHT, R.WRK_RING_CFG_IRQ_ALL]

/-- A host write counts its bytes, or what is held of it, and touches no other register (R455, R462). -/
theorem State.rd_hostWrite (s : State) {f : Fld} {d : Nat} {ix : List Nat} (hheld : f.key d ix ≠ R.HEL_HELD.key 0 [])
    (hbytes : f.key d ix ≠ R.PCI_WR_BYTES.key 0 []) (fn addr : Nat) (bs : List Byte) (ro : Bool) : (s.hostWrite fn addr bs ro).rd f d ix = s.rd f d ix := by
  unfold State.hostWrite
  split
  · rfl
  · split
    · exact s.rd_wr_ne _ _ _ _ _ _ _ hheld
    · refine (State.rd_wr_ne _ _ _ _ _ _ _ _ hbytes).trans ?_
      exact State.each_keeps (fun u => u.rd f d ix = s.rd f d ix) (fun u (x : Nat × List Byte) => u.send (.hostWrite ro fn x.1 x.2)) (fun _ _ hu => hu) _ s rfl

/-- The registers of the work rings lie above those a host write counts in. -/
theorem Fld.ring_key_ne {f g : Fld} (hf : f ∈ recordFlds) (hg : g ∈ [R.HEL_HELD, R.PCI_WR_BYTES]) (p r : Nat) : f.key 0 [p, r] ≠ g.key 0 [] := by
  have hlow : g.key 0 [] < 8 * 0x2000000 := by
    revert g
    decide
  have hhigh : 8 * 0x2000000 ≤ f.key 0 [p, r] := by
    have hbase : 0x2000000 ≤ f.base := by
      revert f
      decide
    simp only [Fld.key, Fld.offset]
    omega
  omega

theorem State.rd_hostWrite_ring (s : State) {f : Fld} (hf : f ∈ recordFlds) (p r fn addr : Nat) (bs : List Byte) :
    (s.hostWrite fn addr bs).rd f 0 [p, r] = s.rd f 0 [p, r] :=
  s.rd_hostWrite (Fld.ring_key_ne hf (by decide) p r) (Fld.ring_key_ne hf (by decide) p r) fn addr bs false

section Record
variable (s : State) (p r : Nat)

/-- What the counts are not keeps its value. -/
theorem State.ringRd_counted {w b : Fld}
    (hw : w.apart R.WRK_RING_DONE = true ∧ w.apart R.WRK_RING_STATE_IN_FLIGHT = true ∧ w.apart R.WRK_RING_ABORTS = true)
    (hb : b.apart R.BAY_Q_DONE = true ∧ b.apart R.BAY_Q_STATE_IN_FLIGHT = true ∧ b.apart R.BAY_Q_ABORTS = true) (n : Nat) (c : Cpl) :
    (s.counted p r n c).ringRd w b p r = s.ringRd w b p r := by
  obtain ⟨hwdone, hwflight, hwaborts⟩ := hw
  obtain ⟨hbdone, hbflight, hbaborts⟩ := hb
  have hcount : ((s.ringWr R.WRK_RING_DONE R.BAY_Q_DONE p r (n + 1)).addFlight p r (-1)).ringRd w b p r = s.ringRd w b p r := by
    rw [State.addFlight, State.ringRd_ringWr_apart _ _ _ hwflight hbflight, State.ringRd_ringWr_apart _ _ _ hwdone hbdone]
  unfold State.counted
  dsimp only
  split
  · rw [State.countAbort, State.ringRd_ringWr_apart _ _ _ hwaborts hbaborts, hcount]
  · exact hcount

/-- An abort is counted apart from DONE and IN_FLIGHT. -/
theorem State.counts_countAbort : (s.countAbort p r).rDone p r = s.rDone p r ∧ (s.countAbort p r).rFlight p r = s.rFlight p r :=
  ⟨s.ringRd_ringWr_apart p r (by decide) (by decide) _, s.ringRd_ringWr_apart p r (by decide) (by decide) _⟩

theorem State.counts_counted (n : Nat) (c : Cpl) :
    (s.counted p r n c).rDone p r = (n + 1) % 2 ^ 32 ∧ (s.counted p r n c).rFlight p r = (s.rFlight p r - 1) % 128 := by
  have hdone : ((s.ringWr R.WRK_RING_DONE R.BAY_Q_DONE p r (n + 1)).addFlight p r (-1)).rDone p r = (n + 1) % 2 ^ 32 := by
    rw [State.rDone, State.addFlight, State.ringRd_ringWr_apart _ _ _ (by decide) (by decide), State.ringRd_ringWr_same _ _ _ (by decide)]
    rfl
  have hflight : ((s.ringWr R.WRK_RING_DONE R.BAY_Q_DONE p r (n + 1)).addFlight p r (-1)).rFlight p r = (s.rFlight p r - 1) % 128 := by
    have hbefore : (s.ringWr R.WRK_RING_DONE R.BAY_Q_DONE p r (n + 1)).rFlight p r = s.rFlight p r :=
      s.ringRd_ringWr_apart p r (by decide) (by decide) _
    have hless : ((s.rFlight p r : Int) + -1).toNat = s.rFlight p r - 1 := by omega
    rw [State.addFlight, hbefore, hless, State.rFlight, State.ringRd_ringWr_same _ _ _ (by decide)]
    rfl
  unfold State.counted
  dsimp only
  split
  · obtain ⟨hdone', hflight'⟩ := State.counts_countAbort ((s.ringWr R.WRK_RING_DONE R.BAY_Q_DONE p r (n + 1)).addFlight p r (-1)) p r
    exact ⟨hdone'.trans hdone, hflight'.trans hflight⟩
  · exact ⟨hdone, hflight⟩

/-- A record that succeeds, asks for no interrupt and belongs to an ACTIVE ring does no more than count. -/
theorem State.recorded_quiet {n : Nat} {c : Cpl} (hirq : c.irq = false) (hall : s.ringRd R.WRK_RING_CFG_IRQ_ALL R.BAY_Q_CFG_IRQ_ALL p r ≠ 1)
    (hactive : s.rState p r = 1) : s.recorded p r n c true = s.counted p r n c := by
  have hall' : (s.counted p r n c).ringRd R.WRK_RING_CFG_IRQ_ALL R.BAY_Q_CFG_IRQ_ALL p r ≠ 1 := by
    rwa [State.ringRd_counted _ _ _ (by decide) (by decide)]
  have hactive' : (s.counted p r n c).rState p r = 1 := (s.ringRd_counted p r (by decide) (by decide) n c).trans hactive
  have hquiet : (c.irq || (s.counted p r n c).ringRd R.WRK_RING_CFG_IRQ_ALL R.BAY_Q_CFG_IRQ_ALL p r == 1) = false := by
    rw [hirq, Bool.false_or, beq_eq_false_iff_ne]
    exact hall'
  show (if true && (c.irq || (s.counted p r n c).ringRd R.WRK_RING_CFG_IRQ_ALL R.BAY_Q_CFG_IRQ_ALL p r == 1) then (s.counted p r n c).ringIrq p r
    else s.counted p r n c).drained p r = s.counted p r n c
  rw [hquiet, Bool.and_false, if_neg Bool.false_ne_true, State.drained_waits]
  exact fun h => absurd (hactive'.symm.trans h.1) (by decide)

theorem State.record_host (c : Cpl) (hloc : s.rLoc p r = false) :
    ∃ fn addr bs, s.record p r c = (s.hostWrite fn addr bs).recorded p r (s.rDone p r) c true :=
  ⟨s.fnOf p, s.rCplBase p r + 32 * (s.rDone p r % s.rSize p r), c.bytes (s.rSize p r) (s.rDone p r), by rw [State.record_eq, hloc]; rfl⟩

/-- So the record of an ACTIVE work ring in host memory adds 1 to DONE and takes 1 from IN_FLIGHT. -/
theorem State.counts_record {c : Cpl} (hr : r < 64) (hloc : s.rLoc p r = false) (hirq : c.irq = false)
    (hall : s.rd R.WRK_RING_CFG_IRQ_ALL 0 [p, r] ≠ 1) (hactive : s.rState p r = 1) :
    (s.record p r c).rDone p r = (s.rDone p r + 1) % 2 ^ 32 ∧ (s.record p r c).rFlight p r = (s.rFlight p r - 1) % 128 := by
  have hkeeps : ∀ {f b : Fld}, f ∈ recordFlds → ∀ fn addr bs, (s.hostWrite fn addr bs).ringRd f b p r = s.ringRd f b p r := by
    intro f b hf fn addr bs
    rw [State.ringRd_work hr, State.ringRd_work hr, s.rd_hostWrite_ring hf]
  obtain ⟨fn, addr, bs, hrecord⟩ := s.record_host p r c hloc
  have hquiet : (s.hostWrite fn addr bs).recorded p r (s.rDone p r) c true = (s.hostWrite fn addr bs).counted p r (s.rDone p r) c := by
    refine State.recorded_quiet _ p r hirq ?_ ((hkeeps (by decide) fn addr bs).trans hactive)
    rwa [hkeeps (by decide), State.ringRd_work hr]
  obtain ⟨hdone, hflight⟩ := (s.hostWrite fn addr bs).counts_counted p r (s.rDone p r) c
  rw [hrecord, hquiet]
  exact ⟨hdone, hflight.trans (congrArg (fun n => (n - 1) % 128) (hkeeps (by decide) fn addr bs))⟩

end Record

/-! ### The hard limit (R215, R222, R245) -/

/-- An update of all units that keeps their numbers is what a lookup then finds. -/
theorem State.unit?_map {s t : State} {uid : Nat} {w : WUnit} (h : s.unit? uid = some w) {f : WUnit → WUnit} (hf : ∀ u, (f u).id = u.id)
    (ht : t.units = s.units.map f) : t.unit? uid = some (f w) := by
  unfold State.unit? at h ⊢
  simp only [ht, List.find?_map, Function.comp_def, hf, h, Option.map_some]

/-- What the hard limit of a unit makes of a unit: it ends those of the context that have come to it, and so does the stop the others (R215). -/
def limitEnd (w u : WUnit) : WUnit := if u.part == w.part && u.ctx == w.ctx && u.atLimit then hardEnd u else u
def stopEnd (w u : WUnit) : WUnit :=
  if (u.part == w.part && u.ctx == w.ctx) && u.ending.isNone && !u.done then { u with ending := some ⟨5, 0, 4⟩ } else u

theorem State.exec_hardLimit {s : State} {uid : Nat} {w : WUnit} (h : s.unit? uid = some w) (hlimit : w.atLimit = true) :
    exec (.hardLimit uid) s = .next (((({ s with units := s.units.map (limitEnd w) }).stopCtx w.part w.ctx 4 2).wrkEvent w.part
      R.WRK_EVENT_HARD_LIMIT).withQueue s.pending) := by
  refine (within_next s _ true rfl).trans ?_
  simp only [h, hlimit]
  rfl

theorem State.unit?_hardLimit {s : State} {uid : Nat} {w : WUnit} (h : s.unit? uid = some w) (hlimit : w.atLimit = true) (hrun : w.ending = none) :
    ∃ u x, exec (.hardLimit uid) s = .next u ∧ u.unit? uid = some x ∧ x.ending = some ⟨6, 0, 0⟩ ∧ x.overran = true := by
  have hself : limitEnd w w = { w with hard := true, overran := true, stopped := w.stopped || w.done, ending := some ⟨6, 0, 0⟩ } := by
    simp [limitEnd, hlimit, hardEnd, hrun]
  have hid : ∀ u, (stopEnd w (limitEnd w u)).id = u.id := by
    intro u
    unfold stopEnd limitEnd
    split <;> split <;> rfl
  refine ⟨_, _, State.exec_hardLimit h hlimit, State.unit?_map h hid ?_, ?_, ?_⟩
  · rw [State.withQueue_units, State.units_wrkEvent, State.units_stopCtx]
    exact List.map_map
  · rw [hself]
    simp [stopEnd]
  · rw [hself]
    simp [stopEnd]

theorem WUnit.atLimit_of {w : WUnit} (hhard : w.hard = false) (hfour : 4 ≤ w.boundaries) : w.atLimit = true := by
  simp [WUnit.atLimit, hhard, hfour]

theorem exec_completionRecordWrite {s : State} {uid : Nat} {w : WUnit} (h : s.unit? uid = some w) (hdone : w.done = true) (hlimit : w.atLimit = false)
    (hout : s.writesOut uid = false) (dt : Nat) : exec (.completionRecordWrite uid dt) s = .next (((s.at_ dt).finishUnit w).withQueue s.pending) := by
  refine (within_next s _ true rfl).trans ?_
  simp only [h, hdone, hlimit, hout]
  rfl

/-- A unit that passes its budget end is marked, at that time or later (R246). -/
theorem exec_budgetEnd {s : State} {uid : Nat} {w : WUnit} (h : s.unit? uid = some w) :
    ∃ u, exec (.budgetEnd uid) s = .next u ∧ u.unit? uid = some { w with overran := true } ∧ w.budgetEnd ≤ u.now := by
  have hstate : exec (.budgetEnd uid) s =
      .next ((({ s with now := max s.now w.budgetEnd }).updUnit uid (fun u => { u with overran := true })).withQueue s.pending) := by
    refine (within_next s _ true rfl).trans ?_
    simp only [h]
  exact ⟨_, hstate, State.unit?_updUnit (s := { s with now := max s.now w.budgetEnd }) h _ (fun _ => rfl), Nat.le_max_right _ _⟩

/-- Settles O21: a unit's record, its budget end, and its hard limit. -/
theorem unitEndsComplete : Obligations.UnitEndsComplete := by
  unfold Obligations.UnitEndsComplete
  refine ⟨⟨fun uid dt s w h hdone hlimit hout => exec_completionRecordWrite h hdone hlimit hout dt,
    fun p r c s _ hr hloc hirq hall hactive => s.counts_record p r hr hloc hirq hall hactive, ?bytes⟩,
    fun uid s w h => exec_budgetEnd h, fun uid s w h hhard hfour => State.exec_hardLimit h (WUnit.atLimit_of hhard hfour),
    fun uid s w h hhard hfour hrun => State.unit?_hardLimit h (WUnit.atLimit_of hhard hfour) hrun⟩
  case bytes =>
    intro c size n
    exact ⟨c.length_bytes size n, c.status_bytes size n, c.flags_bytes size n⟩

end Sys2Proof.Machine
end

section
/-! SUPPORT. A boundary of the tick (R231 to R233, R240, R249): its instant, and what the tick that begins takes. -/

namespace Sys2Proof.Machine

variable (s : State)

theorem exec_tickBoundary {s : State} {t : Nat} (hpower : s.boot.mainOff = false) (hdue : s.nextBoundary = some t) :
    exec .tickBoundary s = .next ((((s.beforeTick).tickSteps t).afterTick).withQueue s.pending) := by
  refine (within_next s _ true rfl).trans ?_
  simp only [hpower, hdue]
  rfl

/-- Without an edge or a frame that moves it, the next boundary comes P after the last one (R233, R237). -/
theorem State.nextBoundary_expected {s : State} (hsource : s.source ≠ 3) (hedge : s.tck.edgeAt = none) : s.nextBoundary = some s.expected := by
  simp [State.nextBoundary, hsource, hedge]

/-- Under PIN the edge marks it, until the package is LOST (R235). -/
theorem State.nextBoundary_pin {s : State} (hsource : s.source = 3) (hstate : s.tckState ≠ 4) : s.nextBoundary = s.tck.edgeAt :=
  if_pos ⟨hsource, hstate⟩

/-- A boundary without lock, which TCK_MISSED counts (R249). -/
def State.unlockedTick (s : State) : Bool := (s.source == 1 && s.tckState != 2) || (s.source == 3 && s.tckState == 4 && s.tck.edgeAt.isNone)

/-- The tick that begins takes its number, and is counted if its boundary came without lock. -/
def State.numbered (s : State) : State :=
  let u := s.wr R.TCK_NUMBER 0 [] (s.tck.numNext.getD (s.tick + 1))
  if u.unlockedTick then u.bump R.TCK_MISSED 0 [] 1 else u

/-- The boundary passes at `t`: the events that steered it are over, and one more of a HOLDOVER's ticks and P of the slew are behind it. -/
def State.turned (s : State) (t : Nat) : State :=
  ({ s with tck := { s.tck with masterNumber := none, numNext := none, edgeAt := none, holdTicks := if s.tckState = 3 then s.tck.holdTicks + 1 else 0,
                                slew := s.tck.slew - s.slewed (1000 * s.period) },
            now := t } : State).wr R.TCK_TOD 0 [] t

/-- A pending period takes effect at its number, or past it (R248). -/
def State.periodTaken (s : State) : State :=
  if s.rdB R.TCK_NEXT_PENDING 0 && decide (s.rd R.TCK_NEXT_AT 0 ≤ s.tick) then
    (s.wrs 0 [] [(R.TCK_PERIOD_CURRENT, s.rd R.TCK_NEXT_NEXT_PERIOD 0), (R.TCK_NEXT_PENDING, 0)]).tckEvent R.TCK_EVENT_PERIOD_CHANGED
  else s

theorem State.tickOver_own {s : State} (h : s.tck.masterNumber = none) (t : Nat) : s.tickOver t = (s.numbered.turned t).periodTaken := by
  unfold State.tickOver
  rw [h]
  rfl

theorem State.numbered_tck : s.numbered.tck = s.tck := by
  unfold State.numbered
  dsimp only
  split <;> rfl

theorem State.rd_numbered {f : Fld} (hnumber : f.apart R.TCK_NUMBER = true) (hmissed : f.apart R.TCK_MISSED = true) : s.numbered.rd f 0 = s.rd f 0 := by
  have hwr := s.rd_wr_apart hnumber 0 [] (s.tck.numNext.getD (s.tick + 1))
  unfold State.numbered
  dsimp only
  split
  · exact (State.rd_wr_apart _ hmissed 0 [] _).trans hwr
  · exact hwr

theorem State.tick_numbered : s.numbered.tick = s.tck.numNext.getD (s.tick + 1) % 2 ^ 64 := by
  have hwr := s.rd_wr_same R.TCK_NUMBER 0 [] (s.tck.numNext.getD (s.tick + 1))
  unfold State.numbered
  dsimp only
  split
  · exact (State.rd_wr_apart _ (by decide) 0 [] _).trans hwr
  · exact hwr

theorem State.period_numbered : s.numbered.period = s.period := congrArg (· * 10000) (s.rd_numbered (by decide) (by decide))

theorem State.rd_turned {f : Fld} (h : f.apart R.TCK_TOD = true) (t : Nat) : (s.turned t).rd f 0 = s.rd f 0 := State.rd_wr_apart _ h 0 [] t

/-- With no number to take from a master and no change of the period pending, a boundary numbers the tick and passes. -/
theorem State.tickOver_calm {s : State} (hmaster : s.tck.masterNumber = none) (hpending : s.rdB R.TCK_NEXT_PENDING 0 = false) (t : Nat) :
    s.tickOver t = s.numbered.turned t := by
  have hstill : (s.numbered.turned t).rdB R.TCK_NEXT_PENDING 0 = false :=
    (congrArg (· != 0) ((s.numbered.rd_turned (by decide) t).trans (s.rd_numbered (by decide) (by decide)))).trans hpending
  rw [State.tickOver_own hmaster, State.periodTaken, hstill]
  rfl

/-- Settles O25: the boundary's steps at its instant, what the tick that begins takes, and where the next boundary comes from. -/
theorem tickBoundaryCompletes : Obligations.TickBoundaryCompletes := by
  unfold Obligations.TickBoundaryCompletes
  refine ⟨fun t s hpower hdue => exec_tickBoundary hpower hdue, ?begins, ?slew, fun s hsource hedge => State.nextBoundary_expected hsource hedge,
    fun s hsource hstate => State.nextBoundary_pin hsource hstate⟩
  case begins =>
    intro t s hmaster hpending
    rw [State.tickOver_calm hmaster hpending]
    exact ⟨(State.rd_turned _ (by decide) t).trans s.tick_numbered, State.rd_wr_same _ _ _ _ _, rfl,
      (congrArg (· * 10000) (State.rd_turned _ (by decide) t)).trans s.period_numbered, rfl⟩
  case slew =>
    intro t s hmaster hpending
    have hslew : (s.numbered.turned t).tck.slew = s.numbered.tck.slew - s.numbered.slewed (1000 * s.numbered.period) := rfl
    rw [State.tickOver_calm hmaster hpending, hslew, s.period_numbered, State.slewed, s.numbered_tck]
    rfl

end Sys2Proof.Machine
end

section
/-! SUPPORT. What steers the next boundary (R234 to R238): edges on TICK_IN, and frames of the master followed. -/

namespace Sys2Proof.Machine

variable {s : State}

/-! ### TICK_IN (R235) -/

/-- An edge is taken: it marks the next boundary, and the package is LOCKED. -/
def State.edgeTaken (s : State) (t : Nat) : State := ({ s with tck := { s.tck with edgeAt := some t, edgeMiss := 0 } } : State).wr R.TCK_STATUS_STATE 0 [] 2

theorem State.source_edgeTaken (s : State) (t : Nat) : (s.edgeTaken t).source = s.source := State.rd_wr_apart _ (by decide) 0 [] 2
theorem State.tckState_edgeTaken (s : State) (t : Nat) : (s.edgeTaken t).tckState = 2 := State.rd_wr_same _ _ _ _ _

theorem exec_tickInEdge_near {dt : Nat} (hsource : s.source = 3) (hedge : s.tck.edgeAt = none) (hstate : s.tckState ≠ 4)
    (hearly : s.expected ≤ s.rd R.TCK_TOD 0 + dt + 1000) (hlate : s.rd R.TCK_TOD 0 + dt ≤ s.expected + 1000) :
    exec (.tickInEdge dt) s = .next ((s.edgeTaken (s.rd R.TCK_TOD 0 + dt)).withQueue s.pending) := by
  refine (within_next s _ true rfl).trans ?_
  simp [hsource, hedge, hstate, hearly, hlate, State.edgeTaken]

/-- The window closes without an edge: the boundary comes when it was expected, and is counted. -/
def State.edgeMissed (s : State) : State :=
  ({ s with tck := { s.tck with edgeAt := some s.expected, edgeMiss := s.tck.edgeMiss + 1 } } : State).bump R.TCK_MISSED 0 [] 1

theorem State.rd_edgeMissed (s : State) {f : Fld} (h : f.apart R.TCK_MISSED = true) : s.edgeMissed.rd f 0 = s.rd f 0 := State.rd_wr_apart _ h 0 [] _

theorem exec_tickInMissed_counted (hsource : s.source = 3) (hedge : s.tck.edgeAt = none) (hstate : s.tckState ≠ 4) (hmiss : s.tck.edgeMiss < 7) :
    exec .tickInMissed s = .next (s.edgeMissed.withQueue s.pending) := by
  refine (within_next s _ true rfl).trans ?_
  have hlocked : s.tck.edgeMiss + 1 < 8 := by omega
  simp [hsource, hedge, hstate, hlocked, State.edgeMissed]

/-! ### Sync frames (R236, R238) -/

theorem length_syncPayload (tickNo tod correction period nextAt src : Nat) : (syncPayload tickNo tod correction period nextAt src).length = 41 := by
  simp [syncPayload]

theorem exec_syncSend_sends (hsource : 2 ≤ s.source) (hup : s.sbrUp = true) :
    exec .syncSend s = .next ((({ s with sideSeq := s.sideSeq % 2 ^ 16 + 1 } : State).send (.side 1 (sideHead 1 s.sbrPos 0xFF 41 (s.sideSeq % 2 ^ 16) ++
      syncPayload s.tick (s.rd R.TCK_TOD 0) 0 (if s.rdB R.TCK_NEXT_PENDING 0 then s.rd R.TCK_NEXT_NEXT_PERIOD 0 else 0)
        (if s.rdB R.TCK_NEXT_PENDING 0 then s.rd R.TCK_NEXT_AT 0 else 0) s.sbrPos))).withQueue s.pending) := by
  refine (within_next s _ true rfl).trans ?_
  simp only [Nat.not_lt.2 hsource, hup, length_syncPayload, decide_false, Bool.not_true, Bool.or_self, Bool.false_eq_true, if_false]

/-- A frame that reaches an ACQUIRING follower whose hop is not measured is followed, and goes no further (R236, R427). -/
theorem exec_syncFrame_followed {src seq tickNo tod correction period nextAt residence k ps : Nat} (hsrc : src < 256) (htick : tickNo < 2 ^ 64)
    (htod : tod < 2 ^ 64) (hcorrection : correction < 2 ^ 64) (hperiod : period < 256) (hnext : nextAt < 2 ^ 64) (hup : s.sbrUp = true)
    (hother : src ≠ s.sbrPos) (hsource : s.source = 1) (hstate : s.tckState = 1) (hhop : s.rd R.TCK_HOP_DELAY 0 = 0) :
    exec (.syncFrame true src seq tickNo tod correction period nextAt residence k ps) s =
      .next ((((s.at_ (ps / 1000)).wrs 0 [] [(R.TCK_MASTER_DELAY, min (2 ^ 32 - 1) (correction / 1000)),
        (R.TCK_OFFSET, sat32 (s.syncOffset tod correction k ps))]).syncFollow
        ⟨src, tickNo, tod, period, nextAt, s.syncOffset tod correction k ps⟩ ps).withQueue s.pending) := by
  have hhop' : (s.at_ (ps / 1000)).rd R.TCK_HOP_DELAY 0 = 0 := hhop
  have hsource' : (s.at_ (ps / 1000)).source = 1 := hsource
  have hstate' : (s.at_ (ps / 1000)).tckState = 1 := hstate
  refine (within_next s _ _ (by simp only [hsrc, htick, htod, hcorrection, hperiod, hnext, decide_true, Bool.and_self])).trans ?_
  have hmaster : ¬ 2 ≤ 1 := by decide
  simp only [hup, hother, hhop', hsource', hstate', hmaster, Bool.not_true, Bool.false_eq_true, if_false, if_true, OfNat.one_ne_ofNat, one_ne_zero,
    or_self, false_and, Nat.add_zero]
  rfl

/-- The offset is the local time of day less the master's (R236). -/
theorem State.syncOffset_eq (s : State) (tod correction k ps : Nat) :
    s.syncOffset tod correction k ps = 1000 * (s.rd R.TCK_TOD 0 : Int) + ps + s.slewed ps - (1000 * (tod : Int) + 10000000 * k + correction) := by
  simp [State.syncOffset]

/-- A slew moves the time of day by at most 100 ppm (R238). -/
theorem State.natAbs_slewed_le (s : State) (ps : Nat) : (s.slewed ps).natAbs ≤ ps / 10000 := by
  unfold State.slewed
  omega

theorem State.syncSchedule_none {m : SyncMsg} (hperiod : m.period = 0) (hpending : s.rdB R.TCK_NEXT_PENDING 0 = false) : s.syncSchedule m = s := by
  simp [State.syncSchedule, hperiod, hpending]

/-- Whether a frame moves the next boundary: its offset is above 1 µs and the follower is not LOCKED (R238). -/
def State.syncJumps (s : State) (m : SyncMsg) : Bool := s.tckState != 2 && decide (1000000 < m.offset.natAbs)

/-- How many frames in a row from the master followed are within 20 ns, this one counted (R238). -/
def State.goodFrames (s : State) (m : SyncMsg) : Nat :=
  let near := decide (m.offset.natAbs ≤ 20000)
  if near && s.tck.masterPos.getD m.src == m.src then s.tck.syncGood + 1 else if near then 1 else 0

/-- A frame steers: what is left of its offset is to be slewed out, or none of it where the boundary moves instead. -/
def State.steered (s : State) (m : SyncMsg) (ps : Nat) : State :=
  { s with tck := { s.tck with syncAt := s.now, slew := if s.syncJumps m then 0 else s.slewed ps - m.offset } }

/-- A follower that is not LOCKED also counts the frame, and moves its boundary by one that is far off. -/
def State.acquired (s : State) (m : SyncMsg) (ps : Nat) : State :=
  let u := s.steered m ps
  { u with tck := { u.tck with syncGood := s.goodFrames m, masterPos := some m.src, edgeAt := if s.syncJumps m then some (s.syncNext m).2 else s.tck.edgeAt } }

/-- It is LOCKED, and the next boundary takes number `n`. -/
def State.syncLocked (s : State) (n : Nat) : State :=
  ({ s with tck := { s.tck with holdTicks := 0, masterNumber := if n = s.tick + 1 then none else some n } } : State).wr R.TCK_STATUS_STATE 0 [] 2

section Follow
variable {m : SyncMsg} (ps : Nat) (hperiod : m.period = 0) (hpending : s.rdB R.TCK_NEXT_PENDING 0 = false)
include hperiod hpending

theorem State.syncFollow_locked (hstate : s.tckState = 2) : s.syncFollow m ps = s.steered m ps := by
  unfold State.syncFollow
  rw [State.syncSchedule_none hperiod hpending]
  exact if_pos hstate

theorem State.syncFollow_acquires (hstate : s.tckState ≠ 2) (hgood : s.goodFrames m < 16) : s.syncFollow m ps = s.acquired m ps := by
  unfold State.syncFollow
  rw [State.syncSchedule_none hperiod hpending]
  exact (if_neg hstate).trans (if_pos hgood)

theorem State.syncFollow_locks (hstate : s.tckState ≠ 2) (hgood : 16 ≤ s.goodFrames m) :
    s.syncFollow m ps = (s.acquired m ps).syncLocked (s.syncNext m).1 := by
  unfold State.syncFollow
  rw [State.syncSchedule_none hperiod hpending]
  exact (if_neg hstate).trans (if_neg (Nat.not_lt.2 hgood))

/-- Whether the follower is LOCKED or not, a frame leaves this slew and this boundary. -/
theorem State.syncFollow_steers : (s.syncFollow m ps).tck.slew = (if s.syncJumps m then 0 else s.slewed ps - m.offset) ∧
    (s.syncFollow m ps).tck.edgeAt = if s.syncJumps m then some (s.syncNext m).2 else s.tck.edgeAt := by
  by_cases hstate : s.tckState = 2
  · have hstay : s.syncJumps m = false := by simp [State.syncJumps, hstate]
    rw [State.syncFollow_locked ps hperiod hpending hstate, hstay]
    exact ⟨congrArg (fun b : Bool => if b then (0 : Int) else s.slewed ps - m.offset) hstay, rfl⟩
  · obtain hgood | hgood := Nat.lt_or_ge (s.goodFrames m) 16
    · rw [State.syncFollow_acquires ps hperiod hpending hstate hgood]
      exact ⟨rfl, rfl⟩
    · rw [State.syncFollow_locks ps hperiod hpending hstate hgood]
      exact ⟨rfl, rfl⟩

theorem State.syncFollow_slews (h : s.tckState = 2 ∨ m.offset.natAbs ≤ 1000000) :
    (s.syncFollow m ps).tck.slew = s.slewed ps - m.offset ∧ (s.syncFollow m ps).tck.edgeAt = s.tck.edgeAt := by
  have hstay : s.syncJumps m = false := by rcases h with h | h <;> simp [State.syncJumps, h]
  have hsteers := State.syncFollow_steers ps hperiod hpending
  rwa [hstay] at hsteers

theorem State.syncFollow_jumps (hstate : s.tckState ≠ 2) (hfar : 1000000 < m.offset.natAbs) :
    (s.syncFollow m ps).tck.slew = 0 ∧ (s.syncFollow m ps).tck.edgeAt.isSome = true := by
  have hjump : s.syncJumps m = true := by simp [State.syncJumps, hstate, hfar]
  obtain ⟨hslew, hedge⟩ := State.syncFollow_steers (s := s) ps hperiod hpending
  rw [hslew, hedge, hjump]
  exact ⟨rfl, rfl⟩

/-- A near frame of the master followed counts, and the 16th in a row locks (R238). -/
theorem State.syncFollow_near (hstate : s.tckState ≠ 2) (hnear : m.offset.natAbs ≤ 20000) (hmaster : s.tck.masterPos = some m.src) :
    (s.tck.syncGood < 15 → (s.syncFollow m ps).tckState = s.tckState ∧ (s.syncFollow m ps).tck.syncGood = s.tck.syncGood + 1) ∧
    (15 ≤ s.tck.syncGood → (s.syncFollow m ps).tckState = 2) := by
  have hcount : s.goodFrames m = s.tck.syncGood + 1 := by simp [State.goodFrames, hnear, hmaster]
  refine ⟨fun hfew => ?_, fun hmany => ?_⟩
  · rw [State.syncFollow_acquires ps hperiod hpending hstate (by omega)]
    exact ⟨rfl, hcount⟩
  · rw [State.syncFollow_locks ps hperiod hpending hstate (by omega)]
    exact State.rd_wr_same _ _ _ _ _

end Follow

/-! ### HOLDOVER and LOST (R238) -/

theorem exec_syncHoldover_enters {dt : Nat} (hsource : s.source = 1) (hstate : s.tckState = 2)
    (hsilent : s.tck.syncAt + max 1000000 (2 * s.period) ≤ (s.at_ dt).now) :
    exec (.syncHoldover dt) s = .next (((({ s.at_ dt with tck := { s.tck with syncGood := 0, holdTicks := 0, slew := 0 } } : State).wr
      R.TCK_STATUS_STATE 0 [] 3).tckEvent R.TCK_EVENT_HOLDOVER).withQueue s.pending) := by
  refine (within_next s _ true rfl).trans ?_
  have htck : (s.at_ dt).tck = s.tck := rfl
  simp only [hsource, hstate, htck, Nat.not_lt.2 hsilent, bne_self_eq_false, Bool.or_self, Bool.false_eq_true, if_false]

theorem exec_syncLost_enters (hsource : s.source = 1) (hstate : s.tckState = 3) (hticks : 64 ≤ s.tck.holdTicks) :
    exec .syncLost s = .next (((s.wr R.TCK_STATUS_STATE 0 [] 4).tckEvent R.TCK_EVENT_TICK_LOST).withQueue s.pending) := by
  refine (within_next s _ true rfl).trans ?_
  simp only [hsource, hstate, Nat.not_lt.2 hticks]
  rfl

end Sys2Proof.Machine
end

section
/-! SUPPORT. A change of the period (R248): armed, dropped, and taken back. -/

namespace Sys2Proof.Machine

variable {s : State}

/-- The target an arming write names: the high word that stands, and the low word it writes. -/
def State.armTarget (s : State) (low : Nat) : Nat := s.rd R.TCK_NEXT_AT 0 / 2 ^ 32 * 2 ^ 32 + low

theorem State.armTarget_lt {low : Nat} (hlow : low < 2 ^ 32) (hat : s.rd R.TCK_NEXT_AT 0 < 2 ^ 64) : s.armTarget low < 2 ^ 64 := by
  unfold State.armTarget
  omega

/-- The arming write is dropped in RING mode, over a pending change, without a period, or less than 64 ticks ahead. -/
def State.armDropped (s : State) (low : Nat) : Bool :=
  s.source == 1 || s.rdB R.TCK_NEXT_PENDING 0 || s.rd R.TCK_NEXT_NEXT_PERIOD 0 == 0 || decide (s.armTarget low < s.tick + 64)

theorem exec_tckNextAtArm {low : Nat} (hlow : low < 2 ^ 32) :
    exec (.tckNextAtArm low) s = .next ((if s.armDropped low then s.cfgErr .TCK 0 [] R.TCK_NEXT_AT.base
      else (s.wr R.TCK_NEXT_AT 0 [] (s.armTarget low)).wr R.TCK_NEXT_PENDING 0 [] 1).withQueue s.pending) :=
  within_next s _ _ (decide_eq_true hlow)

theorem exec_tckNextAtArm_arms {low : Nat} (hlow : low < 2 ^ 32) (hsource : s.source ≠ 1) (hpending : s.rdB R.TCK_NEXT_PENDING 0 = false)
    (hperiod : s.rd R.TCK_NEXT_NEXT_PERIOD 0 ≠ 0) (hahead : s.tick + 64 ≤ s.armTarget low) :
    exec (.tckNextAtArm low) s = .next (((s.wr R.TCK_NEXT_AT 0 [] (s.armTarget low)).wr R.TCK_NEXT_PENDING 0 [] 1).withQueue s.pending) := by
  have htaken : s.armDropped low = false := by simp [State.armDropped, hsource, hpending, hperiod, hahead]
  rw [exec_tckNextAtArm hlow, htaken]
  rfl

theorem exec_tckNextAtArm_late {low : Nat} (hlow : low < 2 ^ 32) (hlate : s.armTarget low < s.tick + 64) :
    exec (.tckNextAtArm low) s = .next ((s.cfgErr .TCK 0 [] R.TCK_NEXT_AT.base).withQueue s.pending) := by
  have hdropped : s.armDropped low = true := by simp [State.armDropped, hlate]
  rw [exec_tckNextAtArm hlow, if_pos hdropped]

theorem exec_tckPeriodCancel_cancels (hsource : s.source ≠ 1) :
    exec .tckPeriodCancel s = .next (((s.wr R.TCK_NEXT_NEXT_PERIOD 0 [] 0).wr R.TCK_NEXT_PENDING 0 [] 0).withQueue s.pending) := by
  refine (within_next s _ true rfl).trans ?_
  rw [if_neg hsource]
  rfl

/-- A dropped write to the block leaves the schedule as it was (R14, R248). -/
theorem State.rd_cfgErr_schedule (s : State) {f : Fld} (hf : f ∈ [R.TCK_NEXT_PENDING, R.TCK_NEXT_AT]) (off : Nat) :
    (s.cfgErr .TCK 0 [] off).rd f 0 = s.rd f 0 := by
  refine s.rd_cfgErr_ne .TCK 0 [] off ?_
  revert f
  decide

/-- Settles O26: edges, frames, HOLDOVER and LOST; then arming, a late arming, and taking a change back. -/
theorem tickSourcesComplete : Obligations.TickSourcesComplete := by
  unfold Obligations.TickSourcesComplete
  refine ⟨⟨?edge, ?missed, ?send, ?frame, fun m ps s hstate hnear hmaster hperiod hpending => State.syncFollow_near ps hperiod hpending hstate hnear hmaster,
    fun m ps s hperiod hpending h => State.syncFollow_slews ps hperiod hpending h,
    fun m ps s hperiod hpending hstate hfar => State.syncFollow_jumps ps hperiod hpending hstate hfar, fun ps s => s.natAbs_slewed_le ps,
    fun dt s hsource hstate hsilent => exec_syncHoldover_enters hsource hstate hsilent,
    fun s hsource hstate hticks => exec_syncLost_enters hsource hstate hticks⟩, ?arm, ?late, ?cancel⟩
  case edge =>
    intro dt s hsource hedge hstate hearly hlate
    have hlocked := s.tckState_edgeTaken (s.rd R.TCK_TOD 0 + dt)
    exact ⟨_, exec_tickInEdge_near hsource hedge hstate hearly hlate, hlocked,
      State.nextBoundary_pin (s := s.edgeTaken _) ((s.source_edgeTaken _).trans hsource) (hlocked.trans_ne (by decide))⟩
  case missed =>
    intro s hsource hedge hstate hmiss
    have hstay : s.edgeMissed.tckState = s.tckState := s.rd_edgeMissed (by decide)
    exact ⟨_, exec_tickInMissed_counted hsource hedge hstate hmiss, hstay,
      State.nextBoundary_pin (s := s.edgeMissed) ((s.rd_edgeMissed (by decide)).trans hsource) (hstay.trans_ne hstate), rfl,
      State.rd_bump_same _ R.TCK_MISSED 0 [] 1⟩
  case send => exact fun s hsource hup => ⟨_, exec_syncSend_sends hsource hup, rfl, rfl⟩
  case frame =>
    intro src seq tickNo tod correction period nextAt residence k ps s hsrc htick htod hcorrection hperiod hnext hup hother hsource hstate hhop
    exact ⟨exec_syncFrame_followed hsrc htick htod hcorrection hperiod hnext hup hother hsource hstate hhop, s.syncOffset_eq tod correction k ps⟩
  case arm =>
    intro low s hlow hsource hpending hperiod hahead hat
    exact ⟨_, exec_tckNextAtArm_arms hlow hsource hpending hperiod hahead, congrArg (· != 0) (State.rd_wr_same _ R.TCK_NEXT_PENDING 0 [] 1),
      (State.rd_wr_apart _ (by decide) 0 [] 1).trans (s.rd_wr_fits R.TCK_NEXT_AT 0 [] _ (State.armTarget_lt hlow hat))⟩
  case late =>
    intro low s hlow hlate _
    exact ⟨_, exec_tckNextAtArm_late hlow hlate, s.rdB_cfgErr .TCK 0 [] _ rfl rfl rfl, congrArg (· != 0) (s.rd_cfgErr_schedule (by decide) _),
      s.rd_cfgErr_schedule (by decide) _⟩
  case cancel =>
    intro s hsource
    exact ⟨_, exec_tckPeriodCancel_cancels hsource, congrArg (· != 0) (State.rd_wr_same _ R.TCK_NEXT_PENDING 0 [] 0),
      (State.rd_wr_apart _ (by decide) 0 [] 0).trans (State.rd_wr_same _ R.TCK_NEXT_NEXT_PERIOD 0 [] 0)⟩

end Sys2Proof.Machine
end

section
/-! SUPPORT. The stack cache by itself (R263, R275): what a flush does to its lines and to DRAM, and the commands that flush. -/

namespace Sys2Proof.Machine

section Flush
variable (s : State)

/-- One dirty line of a flush: its sectors are written back and it stays, clean (R263). -/
def State.flushLine (s : State) (l : StcLine) : State := (s.writeBack l).stcSetLine { l with dirty := 0 }

theorem State.flushStc_eq (d : Nat) :
    s.flushStc d = s.each (s.stcLines.filter (fun (l : StcLine) => qDie l.q == d && l.dirty != 0)) State.flushLine := rfl

/-- A write-back counts, and heals sectors of DRAM: it moves no line and no byte. -/
theorem State.writeBack_frame (l : StcLine) : ∃ m r, s.writeBack l = { s with ue := m, regs := r } := by
  obtain ⟨m, hm⟩ : ∃ m, s.each (maskList l.dirty) (fun s i => { s with ue := SMap.del s.ue ((qAddr l.q (l.gran * 256 + 32 * i)) / 32) }) = { s with ue := m } :=
    State.each_keeps (fun u => ∃ m, u = { s with ue := m }) _ (fun u i hu => by
      obtain ⟨m, rfl⟩ := hu
      exact ⟨_, rfl⟩) _ s ⟨s.ue, rfl⟩
  unfold State.writeBack
  dsimp only
  rw [hm]
  split <;> exact ⟨_, _, rfl⟩

theorem State.stcLines_writeBack (l : StcLine) : (s.writeBack l).stcLines = s.stcLines := by
  obtain ⟨m, r, h⟩ := s.writeBack_frame l
  rw [h]

theorem State.dram_writeBack (l : StcLine) : (s.writeBack l).dram = s.dram := by
  obtain ⟨m, r, h⟩ := s.writeBack_frame l
  rw [h]

/-- The lines after one is flushed: those of other granules, and the line itself, clean. -/
theorem State.mem_flushLine (l x : StcLine) :
    x ∈ (s.flushLine l).stcLines ↔ (x ∈ s.stcLines ∧ ¬(x.q = l.q ∧ x.gran = l.gran)) ∨ x = { l with dirty := 0 } := by
  simp [State.flushLine, State.stcSetLine, State.stcLines_writeBack, imp_iff_not_or]

/-- A line stays where it is while another, or itself, is flushed. -/
theorem State.flushLine_keeps_line (l : StcLine) {q gran : Nat} (h : ∃ m ∈ s.stcLines, m.q = q ∧ m.gran = gran) :
    ∃ m ∈ (s.flushLine l).stcLines, m.q = q ∧ m.gran = gran := by
  obtain ⟨m, hm, rfl, rfl⟩ := h
  by_cases hsame : m.q = l.q ∧ m.gran = l.gran
  · exact ⟨_, (s.mem_flushLine l _).2 (.inr rfl), hsame.1.symm, hsame.2.symm⟩
  · exact ⟨m, (s.mem_flushLine l m).2 (.inl ⟨hm, hsame⟩), rfl, rfl⟩

/-- If the lines of a die that are dirty are all in a list, none is dirty once the list is flushed: a flushed line is clean, and no other becomes dirty. -/
theorem State.clean_each_flushLine (d : Nat) (ls : List StcLine) : ∀ s : State, (∀ x ∈ s.stcLines, qDie x.q = d → x.dirty ≠ 0 → x ∈ ls) →
    ∀ x ∈ (s.each ls State.flushLine).stcLines, qDie x.q = d → x.dirty = 0 := by
  induction ls with
  | nil => exact fun s h x hx hdie => not_not.1 (fun hdirty => List.not_mem_nil (h x hx hdie hdirty))
  | cons l ls ih =>
    refine fun s h => ih (s.flushLine l) (fun x hx hdie hdirty => ?_)
    rcases (s.mem_flushLine l x).1 hx with ⟨hold, hother⟩ | rfl
    · rcases List.mem_cons.1 (h x hold hdie hdirty) with rfl | htail
      · exact absurd ⟨rfl, rfl⟩ hother
      · exact htail
    · exact absurd rfl hdirty

theorem State.clean_flushStc (d : Nat) : ∀ l ∈ (s.flushStc d).stcLines, qDie l.q = d → l.dirty = 0 := by
  rw [State.flushStc_eq]
  exact State.clean_each_flushLine d _ s (fun x hx hdie hdirty => List.mem_filter.2 ⟨hx, by simp [hdie, hdirty]⟩)

theorem State.flushStc_keeps_lines (d : Nat) (l : StcLine) (hl : l ∈ s.stcLines) : ∃ m ∈ (s.flushStc d).stcLines, m.q = l.q ∧ m.gran = l.gran := by
  rw [State.flushStc_eq]
  exact State.each_keeps (fun t => ∃ m ∈ t.stcLines, m.q = l.q ∧ m.gran = l.gran) State.flushLine (fun t m h => t.flushLine_keeps_line m h) _ s ⟨l, hl, rfl, rfl⟩

theorem State.dram_flushStc (d : Nat) : (s.flushStc d).dram = s.dram := by
  rw [State.flushStc_eq]
  exact foldl_same State.dram State.flushLine (fun t l => t.dram_writeBack l) _ s

end Flush

section Commands
variable {d : Nat} {s : State}

theorem exec_stcFlush (hd : d < 4) : exec (.stcFlush d) s = .next (((s.flushStc d).wr R.STC_STATUS_FLUSH_BUSY d [] 1).withQueue s.pending) :=
  within_next s _ _ (decide_eq_true hd)

theorem exec_stcFlushDone (hd : d < 4) : exec (.stcFlushDone d) s = .next ((s.wr R.STC_STATUS_FLUSH_BUSY d [] 0).withQueue s.pending) :=
  within_next s _ _ (decide_eq_true hd)

/-- Outside SERVICE the cache is flushed and turned off (R275). -/
theorem exec_stcDisable_flushes (hd : d < 4) (hon : s.rdB R.STC_CTRL_ENABLE d = true) (hstate : s.rd R.MEM_STATUS_STATE d ≠ 2) :
    exec (.stcDisable d) s = .next (((s.flushStc d).wr R.STC_CTRL_ENABLE d [] 0).withQueue s.pending) := by
  refine (within_next s _ _ (decide_eq_true hd)).trans ?_
  rw [if_neg (by simp [hon]), if_neg hstate]

end Commands

/-- Settles O33: a flush by its lines, its end, and the ENABLE that is cleared outside SERVICE. -/
theorem stackCacheControlsComplete : Obligations.StackCacheControlsComplete := by
  unfold Obligations.StackCacheControlsComplete
  refine ⟨fun d s hd => ⟨exec_stcFlush hd, s.clean_flushStc d, s.flushStc_keeps_lines d, s.dram_flushStc d⟩, ?done, ?disable⟩
  case done => exact fun d s hd => ⟨_, exec_stcFlushDone hd, congrArg (· != 0) (State.rd_wr_same _ R.STC_STATUS_FLUSH_BUSY d [] 0)⟩
  case disable =>
    exact fun d s hd hon hstate => ⟨_, exec_stcDisable_flushes hd hon hstate, congrArg (· != 0) (State.rd_wr_same _ R.STC_CTRL_ENABLE d [] 0), rfl⟩

end Sys2Proof.Machine
end

section
/-! SUPPORT. The two codes of a sector and the patrol scrub (R267 to R270). A corrected error is recorded, and the record's way to memory passes the stack
cache, which can heal a sector and marks none. -/

namespace Sys2Proof.Machine

/-! ### The two codes -/

theorem eccResult_uncorrectable_iff (e : Ecc) : eccResult e = .uncorrectable ↔ 2 ≤ e.secDed := by
  unfold eccResult
  split_ifs <;> simp [*]

theorem eccResult_clean_iff (e : Ecc) : eccResult e = .clean ↔ e.secDed = 0 ∧ e.onDie ≤ 1 := by
  unfold eccResult
  split_ifs <;> simp [*]
  omega

section Read
variable (q loc : Nat) {e : Ecc} (s : State)

theorem State.eccRead_clean (h : eccResult e = .clean) : s.eccRead q loc e = s := by
  simp [State.eccRead, h]

theorem State.eccRead_corrected (h : eccResult e = .corrected) : s.eccRead q loc e = s.corrected q loc e.spareRow := by
  simp [State.eccRead, h]

theorem State.look_eccRead_uncorrectable (h : eccResult e = .uncorrectable) : SMap.look (s.eccRead q loc e).ue (qAddr q loc / 32) = some 1 := by
  simp [State.eccRead, h, SMap.look_ins_same]

theorem State.encode_eccRead_uncorrectable (h : eccResult e = .uncorrectable) : (s.eccRead q loc e).encode q loc = s.encode q loc := by
  simp only [State.eccRead, h]
  rfl

end Read

/-! ### Uncorrectable sectors while an error is recorded -/

/-- Every sector marked uncorrectable in `u` is marked in `s` (R269). -/
def NoNewMark (s u : State) : Prop := ∀ k, SMap.get 0 u.ue k = 1 → SMap.get 0 s.ue k = 1

namespace NoNewMark

theorem refl (s : State) : NoNewMark s s := fun _ h => h

theorem of_ue {s u : State} (h : u.ue = s.ue) : NoNewMark s u := fun _ hk => h ▸ hk

theorem trans {s u v : State} (h : NoNewMark s u) (g : NoNewMark u v) : NoNewMark s v := fun k hk => h k (g k hk)

theorem each {α : Type} (f : State → α → State) (hf : ∀ v a, NoNewMark v (f v a)) (l : List α) (s : State) : NoNewMark s (s.each l f) :=
  State.each_keeps (NoNewMark s) f (fun v a hv => hv.trans (hf v a)) l s (refl s)

end NoNewMark

/-- What is kept of a map reads as before where it is kept. -/
theorem SMap.look_keep {α : Type} (p : Nat → Bool) (k : Nat) (h : p k = true) : ∀ m : SMap α, SMap.look (SMap.keep p m) k = SMap.look m k
  | [] => rfl
  | (j, v) :: m => by
    have ih := SMap.look_keep p k h m
    by_cases hj : p j = true
    · rw [SMap.keep, List.filter_cons_of_pos (by exact hj), SMap.look, SMap.look]
      exact congrArg (ite _ _) ih
    · have hjk : j ≠ k := by
        rintro rfl
        exact hj h
      rw [SMap.keep, List.filter_cons_of_neg (by exact hj), SMap.look, if_neg hjk]
      exact ih

section Marks
variable (s : State)

theorem State.ue_each {α : Type} (l : List α) (f : State → α → State) (hf : ∀ t a, (f t a).ue = t.ue) : (s.each l f).ue = s.ue :=
  foldl_same State.ue f hf l s

/-- A sector that is healed is marked no more (R269). -/
theorem State.noNewMark_del (k : Nat) : NoNewMark s { s with ue := SMap.del s.ue k } := by
  intro i hi
  by_cases h : i = k
  · subst h
    simp [SMap.get, SMap.look_del_same] at hi
  · simpa [SMap.get, SMap.look_del_ne _ h] using hi

theorem State.noNewMark_keep (p : Nat → Bool) : NoNewMark s { s with ue := SMap.keep p s.ue } := by
  intro i hi
  cases h : p i with
  | true => simpa [SMap.get, SMap.look_keep p i h] using hi
  | false => simp [SMap.get, SMap.look_keep_not p i h] at hi

/-! The stack cache heals sectors and marks none. -/

theorem State.noNewMark_writeBack (l : StcLine) : NoNewMark s (s.writeBack l) := by
  have heach : NoNewMark s _ := NoNewMark.each _ (fun v i => v.noNewMark_del ((qAddr l.q (l.gran * 256 + 32 * i)) / 32)) (maskList l.dirty) s
  unfold State.writeBack
  dsimp only
  split <;> exact heach.trans (.of_ue rfl)

theorem State.noNewMark_stcFill (q gran mask valid dirty rrpv : Nat) : NoNewMark s (s.stcFill q gran mask valid dirty rrpv) := by
  unfold State.stcFill
  split
  · exact .of_ue rfl
  · dsimp only
    split
    · exact .of_ue rfl
    · exact (s.noNewMark_writeBack _).trans (.of_ue rfl)

theorem State.noNewMark_stcAccess (q gran mask dpa part : Nat) (hint write : Bool) : NoNewMark s (s.stcAccess q gran mask dpa part hint write) := by
  unfold State.stcAccess
  split
  · exact .refl s
  · extract_lets d st t dramMask s1 s2
    have hcounted : s2.ue = s.ue := by
      simp only [s2, s1]
      split_ifs <;> rfl
    have hfill : ∀ valid dirty rrpv mask, NoNewMark s (s2.stcFill q gran mask valid dirty rrpv) := fun valid dirty rrpv mask =>
      (NoNewMark.of_ue hcounted).trans (s2.noNewMark_stcFill q gran mask valid dirty rrpv)
    split
    · split_ifs <;> exact hfill _ _ _ _
    · split
      · split
        · exact (NoNewMark.of_ue hcounted).trans (s2.noNewMark_keep (fun k => !(decide (k / 8 = qAddr q (gran * 256) / 256) && bit (coveredM mask) (k % 8))))
        · exact .of_ue hcounted
      · exact hfill _ _ _ _

theorem State.ue_qPut (q loc : Nat) (bs : List Byte) : (s.qPut q loc bs).ue = s.ue := by
  unfold State.qPut
  split <;> rfl

theorem State.ue_knlMark (dpa q : Nat) : (s.knlMark dpa q).ue = s.ue := by
  unfold State.knlMark
  split <;> rfl

/-! The way of a request to its port takes no sector. -/

theorem State.ue_goes (r : Req) (g : Bool) : (s.goes r g).ue = s.ue := by
  have hsend : (if g then s.sendGuar r.die r.mport r.cls r.units else s.sendBe r.die r.mport r.cls r.units).ue = s.ue := by
    split <;> rfl
  have htake : ∀ (t : State) (d m n : Nat) (links : List Nat) (own : Bool), (t.fabricTake d m links n own).ue = t.ue := by
    intro t d m n links own
    obtain ⟨a, b, h | ⟨v, h⟩⟩ := t.fabricTake_cases d m links n own <;> rw [h]
    rfl
  exact (htake _ _ _ _ _ _).trans hsend

theorem State.ue_leash1 (r : Req) : (s.leash1 r).ue = s.ue := by
  unfold State.leash1
  extract_lets
  split
  · exact s.ue_goes _ _
  · split
    · rfl
    · exact s.ue_goes _ _

theorem State.ue_quickPass (r : Req) : (s.quickPass r).ue = s.ue := by
  have hserve : ∀ (t : State) (d m q c units age : Nat), (t.portServe d m q c units age).ue = t.ue := by
    intro t d m q c units age
    unfold State.portServe
    dsimp only
    split <;> split <;> rfl
  have hpass := (hserve _ r.die r.mport r.q r.cls r.units 0).trans (s.ue_goes r (s.covers r.die r.mport r.cls r.q r.units))
  unfold State.quickPass
  dsimp only
  split <;> exact hpass

theorem State.noNewMark_quickWrite {t : State} {a : Agent} {dpa : Nat} {bs : List Byte} (h : s.quickWrite a dpa bs = some t) : NoNewMark s t := by
  unfold State.quickWrite at h
  split at h
  · cases h
  · dsimp only at h
    split at h
    · obtain rfl := Option.some.inj h
      exact ((NoNewMark.of_ue (s.ue_quickPass _)).trans (State.noNewMark_stcAccess _ _ _ _ _ _ _ _)).trans
        (.of_ue ((State.ue_qPut _ _ _ _).trans (State.ue_knlMark _ _ _)))
    · cases h

theorem State.noNewMark_post {t : State} {a : Agent} {b : PostBy} {dpa : Nat} {bs : List Byte} (h : s.post a b dpa bs = some t) : NoNewMark s t := by
  unfold State.post at h
  dsimp only at h
  split at h
  · obtain rfl := Option.some.inj h
    refine NoNewMark.each _ (fun u p => ?_) _ s
    cases hq : u.quickWrite a p.1 ((bs.drop (p.1 - dpa)).take p.2) with
    | none => exact .of_ue (u.ue_leash1 _)
    | some v => exact u.noNewMark_quickWrite hq
  · cases h

/-! What the error engine sends to the host takes no sector. -/

theorem State.ue_mirror (r : ErrRec) : (s.mirror r).ue = s.ue := by
  have hwrite : ∀ (fn addr : Nat) (bs : List Byte) (ro : Bool), (s.hostWrite fn addr bs ro).ue = s.ue := by
    intro fn addr bs ro
    unfold State.hostWrite
    split
    · rfl
    · split
      · rfl
      · exact s.ue_each _ _ (fun _ _ => rfl)
  unfold State.mirror
  split
  · split
    · rfl
    · exact hwrite _ _ _ _
  · rfl

theorem State.ue_errMsg (src code sev : Nat) : (s.errMsg src code sev).ue = s.ue := by
  unfold State.errMsg State.irq State.msix State.setPending
  dsimp only
  split_ifs <;> rfl

theorem State.noNewMark_writeErr {r : ErrRec} {t : State} (h : s.writeErr r = some t) : NoNewMark s t := by
  unfold State.writeErr at h
  dsimp only at h
  obtain ⟨u, hu, rfl⟩ := Option.map_eq_some_iff.1 h
  have hpost : NoNewMark s u := by
    split at hu
    · cases hu
    · exact s.noNewMark_post hu
  exact hpost.trans (.of_ue ((State.ue_errMsg _ _ _ _).trans (State.ue_mirror _ _)))

theorem State.noNewMark_putErr (r : ErrRec) : NoNewMark s (s.putErr r) := by
  unfold State.putErr
  split
  · next t ht =>
    split at ht
    · exact s.noNewMark_writeErr ht
    · cases ht
  · exact .of_ue rfl

/-- An error that is recorded marks no sector: only a read of DRAM does (R269). -/
theorem State.noNewMark_err (d : Nat) (e : Err) : NoNewMark s (s.err d e) := by
  unfold State.err
  extract_lets s0 r s1 s2
  have h0 : NoNewMark s s0 := .of_ue (by simp only [s0]; split <;> rfl)
  refine h0.trans ?_
  split
  · exact .refl s0
  · split
    · dsimp only
      split
      · exact .of_ue rfl
      · split
        · next t ht => exact (s0.noNewMark_post ht).trans (.of_ue (State.ue_mirror _ _))
        · exact .of_ue rfl
    · have hput : NoNewMark s0 s1 := NoNewMark.trans (u := s0.roll R.ERR_SEQ d [] 1) (.of_ue rfl) (State.noNewMark_putErr _ r)
      by_cases hroom : s0.unhandled d e.src + (s0.waiting d e.src).length < (if e.sev = 0 then 12 else 16)
      · rw [if_pos hroom]
        split
        · exact hput.trans (.of_ue rfl)
        · exact hput
      · rw [if_neg hroom]
        exact .of_ue rfl

theorem State.noNewMark_repaired (port n : Nat) : NoNewMark s (s.repaired port n) := by
  unfold State.repaired
  extract_lets d s1
  exact NoNewMark.trans (u := s1) (.of_ue rfl) (s1.noNewMark_err d _)

/-- A corrected error, with the repair it may bring, marks no sector (R268). -/
theorem State.noNewMark_corrected (q loc : Nat) (spareRow : Bool) (part ctx : Nat) : NoNewMark s (s.corrected q loc spareRow part ctx) := by
  unfold State.corrected
  extract_lets d port s1 e s2 row n rest th spares
  have hrecorded : NoNewMark s s2 := (NoNewMark.of_ue (s.wr_ue _ _ _ _)).trans (s1.noNewMark_err d _)
  clear_value s2
  split
  · exact hrecorded.trans ((NoNewMark.of_ue (State.wr_ue { s2 with rowCe := rest } _ _ _ _)).trans (State.noNewMark_repaired _ port 1))
  · exact hrecorded.trans (.of_ue rfl)

end Marks

/-! ### The patrol scrub -/

/-- What the scrub does about the sector it has read: an uncorrectable one is reported (R269, R270). -/
def State.scrubFound (s : State) (q loc : Nat) : State :=
  if SMap.get 0 s.ue (qAddr q loc / 32) = 1 then
    match s.encode q loc with
    | some dpa => s.logUe q dpa true
    | none => (s.useFree 1).logUe q (Config.freeNat s.free % 2 ^ 44) true
  else s

section Scrub
variable (s : State) {q loc : Nat}

theorem State.scrubFound_unmarked (h : SMap.get 0 s.ue (qAddr q loc / 32) ≠ 1) : s.scrubFound q loc = s := if_neg h

theorem State.scrubFound_marked {dpa : Nat} (h : SMap.get 0 s.ue (qAddr q loc / 32) = 1) (hdpa : s.encode q loc = some dpa) :
    s.scrubFound q loc = s.logUe q dpa true := by
  rw [State.scrubFound, if_pos h, hdpa]

/-- The scrub reads a sector of a channel in service whose port has nothing to serve, at a temperature that allows it (R270). -/
theorem exec_patrolScrub_reads {s : State} {q sector : Nat} (dt : Nat) (e : Ecc) (hq : q < 1024) (hsector : sector < 768 * 2 ^ 15)
    (hruns : s.dieRuns (qDie q) = true) (hservice : s.rd R.MEM_STATUS_STATE (qDie q) = 2) (hhours : s.rd R.MEM_CTRL_SCRUB_HOURS (qDie q) ≠ 0)
    (hkept : s.retired q = false) (hcool : s.rd R.MEM_STACK_TEMP_BAND (qDie q) [qStack q % 4] ≠ 4) (hquiet : ∀ r ∈ s.reqs, ¬(r.q = q ∧ r.stage = .port)) :
    exec (.patrolScrub q sector dt [e]) s = .next ((((s.at_ dt).eccRead q (32 * sector) e).scrubFound q (32 * sector)).withQueue s.pending) := by
  have hidle : ∀ r ∈ s.reqs, r.q = q → r.stage ≠ .port := fun r hr hrq hstage => hquiet r hr ⟨hrq, hstage⟩
  refine (within_next s _ _ (Bool.and_eq_true_iff.2 ⟨decide_eq_true hq, decide_eq_true hsector⟩)).trans ?_
  rw [if_neg (by simpa [hruns, hservice, hhours, hkept, hcool] using hidle)]
  rfl

end Scrub

/-- Settles O34: the codes case by case, and the scrub by what its read says. -/
theorem errorCorrectionCompletes : Obligations.ErrorCorrectionCompletes := by
  unfold Obligations.ErrorCorrectionCompletes
  refine ⟨fun e => ⟨eccResult_uncorrectable_iff e, eccResult_clean_iff e⟩, fun q loc e s h => s.look_eccRead_uncorrectable q loc h,
    fun q loc e s h => s.eccRead_clean q loc h, ?scrub⟩
  case scrub =>
    intro q sector dt e s hq hsector hruns hservice hhours hkept hcool hquiet
    rw [exec_patrolScrub_reads dt e hq hsector hruns hservice hhours hkept hcool hquiet]
    refine ⟨fun hclean hunmarked => ?_, fun hcorrected hunmarked => ?_, fun dpa hlost hdpa => ?_⟩
    · rw [State.eccRead_clean _ _ _ hclean, (s.at_ dt).scrubFound_unmarked hunmarked]
      rfl
    · have hstill := fun hmarked => hunmarked ((s.at_ dt).noNewMark_corrected q (32 * sector) e.spareRow 255 255 _ hmarked)
      rw [State.eccRead_corrected _ _ _ hcorrected, State.scrubFound_unmarked _ hstill]
    · have hmarked : SMap.get 0 ((s.at_ dt).eccRead q (32 * sector) e).ue (qAddr q (32 * sector) / 32) = 1 := by
        rw [SMap.get, State.look_eccRead_uncorrectable _ _ _ hlost]
        rfl
      rw [State.scrubFound_marked _ hmarked ((State.encode_eccRead_uncorrectable _ _ _ hlost).trans hdpa)]

end Sys2Proof.Machine
end

section
/-! SUPPORT. The health of a stack: the temperature bands (R266), the retuning of channels (R272), and loop-back (R273). -/

namespace Sys2Proof.Machine

/-! ### Bands -/

theorem bandOf_le (t : Nat) : bandOf t ≤ 4 := by
  unfold bandOf
  split_ifs <;> decide

/-- A reading moves the band at once up to its own, and down no further than that (R266). -/
theorem bandOf_le_nextBand (t old : Nat) : bandOf t ≤ nextBand t old := by
  induction old with
  | zero => exact le_rfl
  | succ b ih =>
    rw [nextBand]
    split
    · exact ih
    · exact le_max_right _ _

theorem nextBand_le (t old : Nat) : nextBand t old ≤ max old (bandOf t) := by
  induction old with
  | zero => exact le_max_right _ _
  | succ b ih =>
    rw [nextBand]
    split
    · exact ih.trans (max_le_max_right _ (Nat.le_succ b))
    · exact le_rfl

/-- A band is left downwards only below its lower edge by 2 °C (R266). -/
theorem nextBand_drop (t old : Nat) (h : nextBand t old < old) : t + 2 ≤ bandEdge (nextBand t old + 1) := by
  induction old with
  | zero => exact absurd h (Nat.not_lt_zero _)
  | succ b ih =>
    rw [nextBand] at h ⊢
    split at h
    next hedge =>
      rw [if_pos hedge]
      rcases Nat.lt_or_eq_of_le (Nat.lt_succ_iff.1 h) with hlower | hsame
      · exact ih hlower
      · rwa [hsame]
    next => exact absurd h (Nat.not_lt.2 (le_max_left _ _))

theorem nextBand_stays (t old : Nat) (h : bandEdge old < t + 2) : old ≤ nextBand t old := by
  cases old with
  | zero => exact Nat.zero_le _
  | succ b =>
    rw [nextBand, if_neg (Nat.not_le.2 h)]
    exact le_max_left _ _

/-! ### A temperature reading -/

/-- A reading as the stack's register shows it: the temperature and the band (R266). -/
def State.tempShown (s : State) (st temp band : Nat) : State :=
  (s.wr R.MEM_STACK_TEMP_TEMP (st / 4) [st % 4] temp).wr R.MEM_STACK_TEMP_BAND (st / 4) [st % 4] band

section Temperature
variable {s : State} {st temp : Nat}

theorem State.temp_tempShown (s : State) {band : Nat} (h : temp < 256) :
    (s.tempShown st temp band).rd R.MEM_STACK_TEMP_TEMP (st / 4) [st % 4] = temp :=
  (State.rd_wr_apart _ (by decide) _ _ _).trans (s.rd_wr_fits _ _ _ _ h)

theorem State.band_tempShown (s : State) {band : Nat} (h : band ≤ 4) :
    (s.tempShown st temp band).rd R.MEM_STACK_TEMP_BAND (st / 4) [st % 4] = band :=
  State.rd_wr_fits _ _ _ _ _ (Nat.lt_of_le_of_lt h (by decide))

/-- The event bits of a die's memory stand apart from the registers of its stacks. -/
theorem State.rd_wr_throttle (s : State) {f : Fld} (hf : f ∈ [R.MEM_STACK_TEMP_TEMP, R.MEM_STACK_TEMP_BAND]) (d i v : Nat) :
    (s.wr R.MEM_EVENT_THROTTLE d [] v).rd f d [i] = s.rd f d [i] := by
  refine s.rd_wr_ne _ _ _ _ _ _ _ ?_
  simp only [List.mem_cons, List.not_mem_nil, or_false] at hf
  rcases hf with rfl | rfl <;>
    simp only [Fld.key, Fld.offset, strideSum, R.MEM_STACK_TEMP_TEMP, R.MEM_STACK_TEMP_BAND, R.MEM_EVENT_THROTTLE] <;> omega

variable (hst : st < 16) (htemp : temp < 256) (hruns : s.dieRuns (st / 4) = true) (hstate : s.rd R.MEM_STATUS_STATE (st / 4) ≠ 0)
  (hband : s.rd R.MEM_STACK_TEMP_BAND (st / 4) [st % 4] ≤ 4)
include hst htemp hruns hstate hband

theorem exec_stackTempRead_stays (hsame : nextBand temp (s.rd R.MEM_STACK_TEMP_BAND (st / 4) [st % 4]) = s.rd R.MEM_STACK_TEMP_BAND (st / 4) [st % 4]) :
    exec (.stackTempRead st temp) s =
      .next ((s.tempShown st temp (s.rd R.MEM_STACK_TEMP_BAND (st / 4) [st % 4])).withQueue s.pending) := by
  refine (within_next s _ _ (decide_eq_true hst)).trans ?_
  simp only [hruns, beq_eq_false_iff_ne.2 hstate, Nat.mod_eq_of_lt htemp, Nat.min_eq_right hband, hsame, Bool.not_true, Bool.or_false, Bool.false_eq_true,
    if_false, if_true]
  rfl

theorem exec_stackTempRead_moves (hother : nextBand temp (s.rd R.MEM_STACK_TEMP_BAND (st / 4) [st % 4]) ≠ s.rd R.MEM_STACK_TEMP_BAND (st / 4) [st % 4])
    {v : State} (hv : v = (s.tempShown st temp (nextBand temp (s.rd R.MEM_STACK_TEMP_BAND (st / 4) [st % 4]))).wr R.MEM_EVENT_THROTTLE (st / 4) [] 1) :
    exec (.stackTempRead st temp) s =
      .next (((v.err (st / 4) (.plain 0 7 0 (scopeOf 1 (8 * st)) (v.tempReg st))).recap st).withQueue s.pending) := by
  subst hv
  refine (within_next s _ _ (decide_eq_true hst)).trans ?_
  simp only [hruns, beq_eq_false_iff_ne.2 hstate, Nat.mod_eq_of_lt htemp, Nat.min_eq_right hband, hother, Bool.not_true, Bool.or_false, Bool.false_eq_true,
    if_false]
  rfl

end Temperature

/-! ### Retuning a channel -/

section Channel
variable {ch : Nat} {s : State} (hch : ch < 512) (hruns : s.dieRuns (ch / 128) = true) (hservice : s.rd R.MEM_STATUS_STATE (ch / 128) = 2)
  (hup : bit (s.rd R.MEM_PORT_STATUS_UP (ch / 128) [ch / 4 % 32]) (ch % 4) = true)
include hch hruns hservice hup

/-- A channel at full rate whose stack has spare lanes enough is repaired (R272). -/
theorem exec_channelRecal_spares {lanes : Nat} (half : Bool) (hfull : bit (s.rd R.MEM_PORT_STATUS_HALF (ch / 128) [ch / 4 % 32]) (ch % 4) = false)
    (hlanes : 0 < lanes) (hspares : lanes ≤ s.rd R.MEM_STACK_SPARES_LANES (ch / 128) [ch / 32 % 4]) :
    exec (.channelRecal ch lanes true half) s = .next (((s.wr R.MEM_STACK_SPARES_LANES (ch / 128) [ch / 32 % 4]
      (s.rd R.MEM_STACK_SPARES_LANES (ch / 128) [ch / 32 % 4] - lanes)).repaired (ch / 4) lanes).withQueue s.pending) := by
  refine (within_next s _ _ (decide_eq_true hch)).trans ?_
  simp [Nat.div_div_eq_div_mul, hruns, hservice, hup, hfull, hspares, Nat.ne_of_gt hlanes]

/-- A channel at half rate that does not calibrate is retired (R272). -/
theorem exec_channelRecal_retires (lanes : Nat) (spare : Bool) (hhalf : bit (s.rd R.MEM_PORT_STATUS_HALF (ch / 128) [ch / 4 % 32]) (ch % 4) = true) :
    exec (.channelRecal ch lanes spare false) s = .next ((s.retire ch).withQueue s.pending) := by
  refine (within_next s _ _ (decide_eq_true hch)).trans ?_
  simp [Nat.div_div_eq_div_mul, hruns, hservice, hup, hhalf]

/-- One that does goes on at half rate (R272). -/
theorem exec_channelRecal_stays (lanes : Nat) (spare : Bool) (hhalf : bit (s.rd R.MEM_PORT_STATUS_HALF (ch / 128) [ch / 4 % 32]) (ch % 4) = true) :
    exec (.channelRecal ch lanes spare true) s = .next s := by
  refine (within_next s _ _ (decide_eq_true hch)).trans ?_
  simp [Nat.div_div_eq_div_mul, hruns, hservice, hup, hhalf]

end Channel

/-! ### Loop-back -/

/-- A register write starts no loop-back and ends none. -/
theorem State.loopbacks_regWrite (s : State) (b : Blk) (d : Nat) (ix : List Nat) (value : Nat) (blocked : Fld → Bool) (fs : List Fld) :
    (s.regWrite b d ix value blocked fs).loopbacks = s.loopbacks := by
  have hcfg : ∀ (t : State) (off : Nat), (t.cfgErr b d ix off).loopbacks = t.loopbacks := by
    intro t off
    unfold State.cfgErr
    dsimp only
    split <;> rfl
  have htake : ∀ (t : State) (x : Fld × Put), (t.take d ix x).loopbacks = t.loopbacks := by
    intro t x
    unfold State.take
    split
    · split <;> rfl
    · rfl
  have heach := foldl_same State.loopbacks (State.take d ix) htake (fs.map (fun g => (g, s.putOf g d ix (bits value g.lo g.width) (blocked g)))) s
  rcases s.regWrite_cases b d ix value blocked fs with ⟨off, h⟩ | h
  · rw [h, hcfg]
    exact heach
  · rw [h]
    exact heach

/-- In TEST a write of START that no run of the port precedes starts one (R273). -/
theorem exec_loopbackStart_runs {p v : Nat} {s : State} (hp : p < 128) (htest : s.rd R.MEM_STATUS_STATE (p / 32) = 4) (hv : v < 2 ^ 32)
    (hstart : bit v 31 = true) (hidle : p ∉ s.loopbacks) : ∃ u, exec (.loopbackStart p v) s = .next u ∧ u.loopbacks = s.loopbacks ++ [p] := by
  refine ⟨_, within_next s _ _ (Bool.and_eq_true_iff.2 ⟨decide_eq_true hp, decide_eq_true hv⟩), ?_⟩
  simp [htest, hstart, hidle, State.loopbacks_regWrite]

/-- A run that is over: it is listed no more, and its port shows DONE and the errors (R273). -/
def State.loopbackShown (s : State) (p n : Nat) : State :=
  (({ s with loopbacks := s.loopbacks.filter (· != p) } : State).wr R.MEM_PORT_LB_STATUS_DONE (p / 32) [p % 32] 1).wr
    R.MEM_PORT_LB_ERR (p / 32) [p % 32] (min (2 ^ 32 - 1) n)

section Over
variable (s : State) (p n : Nat)

theorem State.not_mem_loopbackShown : p ∉ (s.loopbackShown p n).loopbacks := by
  simp [State.loopbackShown]

theorem State.done_loopbackShown : (s.loopbackShown p n).rdB R.MEM_PORT_LB_STATUS_DONE (p / 32) [p % 32] = true := by
  have hone : (s.loopbackShown p n).rd R.MEM_PORT_LB_STATUS_DONE (p / 32) [p % 32] = 1 :=
    (State.rd_wr_apart _ (by decide) _ _ _).trans (State.rd_wr_same _ R.MEM_PORT_LB_STATUS_DONE _ _ 1)
  rw [State.rdB, hone]
  rfl

theorem State.errors_loopbackShown : (s.loopbackShown p n).rd R.MEM_PORT_LB_ERR (p / 32) [p % 32] = min (2 ^ 32 - 1) n :=
  State.rd_wr_fits _ R.MEM_PORT_LB_ERR _ _ _ (Nat.lt_of_le_of_lt (min_le_left _ _) (by decide))

end Over

theorem exec_loopbackDone_shows {p : Nat} (n : Nat) {s : State} (hp : p < 128) (hrun : p ∈ s.loopbacks) :
    exec (.loopbackDone p n) s = .next ((s.loopbackShown p n).withQueue s.pending) := by
  refine (within_next s _ _ (decide_eq_true hp)).trans ?_
  rw [if_neg (by simp [hrun])]
  rfl

/-- Settles O35: the bands, a reading that moves one or not, the repair or retirement of a channel, and a loop-back run. -/
theorem stackHealthCommandsComplete : Obligations.StackHealthCommandsComplete := by
  unfold Obligations.StackHealthCommandsComplete
  refine ⟨⟨fun t old _ => ⟨bandOf_le_nextBand t old, nextBand_le t old, nextBand_drop t old, nextBand_stays t old⟩, ?reading⟩, ?repair, ?half,
    fun p v s hp htest hv hstart hidle => exec_loopbackStart_runs hp htest hv hstart hidle, ?done⟩
  case reading =>
    intro st temp s hst htemp hruns hstate hband
    refine ⟨fun hsame => ⟨_, exec_stackTempRead_stays hst htemp hruns hstate hband hsame, s.temp_tempShown htemp, s.band_tempShown hband, rfl⟩, fun hother => ?_⟩
    have hnew := (nextBand_le temp (s.rd R.MEM_STACK_TEMP_BAND (st / 4) [st % 4])).trans (max_le hband (bandOf_le temp))
    exact ⟨_, exec_stackTempRead_moves hst htemp hruns hstate hband hother rfl, (State.rd_wr_throttle _ (by decide) _ _ _).trans (s.temp_tempShown htemp),
      (State.rd_wr_throttle _ (by decide) _ _ _).trans (s.band_tempShown hnew), congrArg (· != 0) (State.rd_wr_same _ R.MEM_EVENT_THROTTLE _ [] 1)⟩
  case repair =>
    exact fun ch lanes half s hch hruns hservice hup hfull hlanes hspares => exec_channelRecal_spares hch hruns hservice hup half hfull hlanes hspares
  case half =>
    exact fun ch lanes s hch hruns hservice hup hhalf =>
      ⟨exec_channelRecal_retires hch hruns hservice hup lanes false hhalf, exec_channelRecal_stays hch hruns hservice hup lanes false hhalf⟩
  case done =>
    exact fun p n s hp hrun => ⟨_, exec_loopbackDone_shows n hp hrun, s.not_mem_loopbackShown p n, s.done_loopbackShown p n, s.errors_loopbackShown p n⟩

end Sys2Proof.Machine
end

section
/-! SUPPORT. The Leash: what leaves it is charged (R278, R284, R294, R326), slot frames refill its counters (R284, R287, R292), and the ways a request
takes through it (R282, R284 to R287). -/

namespace Sys2Proof.Machine

/-! ### The charge of a request (R278, R326) -/

/-- Data bytes are charged by the unit of 32, the last one whole. -/
theorem le_unitCharge_lt (len : Nat) : len ≤ 32 * unitCharge false len ∧ 32 * unitCharge false len < len + 32 := by
  simp only [unitCharge, Bool.false_eq_true, if_false]
  omega

/-- UPGRADE and EVICT_CLEAN move no data and are charged nothing. -/
theorem Req.units_dataless {r : Req} (h : r.op = .upgrade ∨ r.op = .evictClean) : r.units = 0 := by
  rcases h with h | h <;> simp [Req.units, h]

theorem Req.units_data {r : Req} (hupgrade : r.op ≠ .upgrade) (hevict : r.op ≠ .evictClean) : r.units = unitCharge r.narrow (popcount r.mask 256) := by
  simp [Req.units, hupgrade, hevict]

/-! ### What a request that leaves changes -/

section Goes
variable (s : State)

/-- Data flits that are taken change the slot frame's counts and FLL_M_SLOTTED of their master port (R336), and nothing else. -/
theorem State.fabricTake_frame (d m : Nat) (links : List Nat) (n : Nat) (own : Bool) :
    ∃ v a b, s.fabricTake d m links n own = { s with regs := v, slotUse := a, linkUse := b } := by
  obtain ⟨a, b, h | ⟨v, h⟩⟩ := s.fabricTake_cases d m links n own
  · exact ⟨s.regs, a, b, h⟩
  · exact ⟨_, a, b, h⟩

@[simp] theorem State.leash_fabricTake (d m : Nat) (links : List Nat) (n : Nat) (own : Bool) : (s.fabricTake d m links n own).leash = s.leash := by
  obtain ⟨v, a, b, h⟩ := s.fabricTake_frame d m links n own
  rw [h]

@[simp] theorem State.frameAt_fabricTake (d m : Nat) (links : List Nat) (n : Nat) (own : Bool) :
    (s.fabricTake d m links n own).frameAt = s.frameAt := by
  obtain ⟨v, a, b, h⟩ := s.fabricTake_frame d m links n own
  rw [h]

theorem State.rd_fabricTake {f : Fld} {e : Nat} {jx : List Nat} {d m : Nat} (h : f.key e jx ≠ R.FLL_M_SLOTTED.key d [m]) (links : List Nat) (n : Nat)
    (own : Bool) : (s.fabricTake d m links n own).rd f e jx = s.rd f e jx := by
  obtain ⟨a, b, hs | ⟨v, hs⟩⟩ := s.fabricTake_cases d m links n own
  · rw [hs]
    rfl
  · rw [hs]
    exact State.rd_wr_ne _ _ _ _ _ _ _ _ h

variable (r : Req)

/-- A guaranteed request takes its charge off the counter of its class (R284). -/
theorem State.leash_goes_guar : (s.goes r true).leash =
    SMap.put 0 s.leash (leashKey r.die r.mport r.cls) (SMap.get 0 s.leash (leashKey r.die r.mport r.cls) - r.units) :=
  State.leash_fabricTake _ _ _ _ _ _

/-- A best-effort request leaves every class counter alone (R284). -/
theorem State.leash_goes_be : (s.goes r false).leash = s.leash := State.leash_fabricTake _ _ _ _ _ _

@[simp] theorem State.frameAt_goes (g : Bool) : (s.goes r g).frameAt = s.frameAt := by
  refine (State.frameAt_fabricTake _ _ _ _ _ _).trans ?_
  cases g <;> rfl

/-- The counters of a master port's classes stand apart from its count of slotted flits. -/
theorem key_lshClass_ne_slotted {f : Fld} (hf : f ∈ [R.LSH_M_GUAR, R.LSH_M_BE]) (d : Nat) {m c : Nat} (hm : m < 137) (hc : c < 4) :
    f.key d [m, c] ≠ R.FLL_M_SLOTTED.key d [m] := by
  simp only [List.mem_cons, List.not_mem_nil, or_false] at hf
  rcases hf with rfl | rfl <;> simp only [Fld.key, Fld.offset, strideSum, R.LSH_M_GUAR, R.LSH_M_BE, R.FLL_M_SLOTTED] <;> omega

variable {r} (hm : r.mport < 137) (hc : r.cls < 4)
include hm hc

/-- LSH_M_GUAR counts what leaves as guaranteed (R294). -/
theorem State.guar_goes : (s.goes r true).rd R.LSH_M_GUAR r.die [r.mport, r.cls] =
    min (2 ^ R.LSH_M_GUAR.width - 1) (s.rd R.LSH_M_GUAR r.die [r.mport, r.cls] + r.units) :=
  (State.rd_fabricTake _ (key_lshClass_ne_slotted (by decide) r.die hm hc) _ _ _).trans (State.rd_bump_same _ _ _ _ _)

/-- LSH_M_BE counts what leaves as best effort (R294). -/
theorem State.be_goes : (s.goes r false).rd R.LSH_M_BE r.die [r.mport, r.cls] =
    min (2 ^ R.LSH_M_BE.width - 1) (s.rd R.LSH_M_BE r.die [r.mport, r.cls] + r.units) :=
  (State.rd_fabricTake _ (key_lshClass_ne_slotted (by decide) r.die hm hc) _ _ _).trans (s.rd_bump_same _ _ _ _)

end Goes

/-- Settles O10: the unit of 32 bytes, the requests that move none, and the counts of what leaves. -/
theorem requestsAreChargedByTheUnit : Obligations.RequestsAreChargedByTheUnit := by
  unfold Obligations.RequestsAreChargedByTheUnit
  refine ⟨le_unitCharge_lt, fun _ => rfl, fun _ hupgrade hevict => Req.units_data hupgrade hevict, fun _ h => Req.units_dataless h, ?leaves, by decide⟩
  case leaves =>
    intro r s _ hm hc
    refine ⟨s.guar_goes hm hc, ?_, s.be_goes hm hc⟩
    rw [s.leash_goes_guar r, SMap.get_put_same]

/-! ### A slot frame (R243, R284, R287, R292) -/

theorem State.frameAt_releaseHeld (s : State) : s.releaseHeld.frameAt = s.frameAt := by
  have hleave : ∀ (u : State) (r : Req) (g : Bool), u.frameAt = s.frameAt → (u.leave r g).frameAt = s.frameAt :=
    fun u r g hu => (State.frameAt_goes _ r g).trans hu
  refine State.each_keeps (fun u => u.frameAt = s.frameAt) _ (fun u r hu => ?_) _ s rfl
  split
  · exact hu
  · split
    · split
      · exact hleave u r true hu
      · exact hu
    · split
      · exact hleave u r false hu
      · exact hu

theorem State.frameAt_frame (s : State) : s.frame.frameAt = s.now := State.frameAt_releaseHeld _

theorem exec_slotFrameStart (dt : Nat) (s : State) : exec (.slotFrameStart dt) s = .next ((s.at_ dt).frame.withQueue s.pending) :=
  within_next s _ true rfl

theorem exec_lshReadmit (s : State) : exec .lshReadmit s = .next { s with wroteLeash := true } := within_next s _ true rfl

/-- With no EFF waiting, the frame refills with the EFF in use. -/
theorem State.effNow_none {s : State} (h : s.effDue = []) : s.effNow = (s.effUse, []) := by
  simp [State.effNow, h]

/-- A changed EFF comes into use once it is 1 µs old (R292). -/
theorem State.effNow_old {s : State} {t : Nat} {e : SMap Nat} (h : s.effDue = [(t, e)]) (hold : t + 1000 ≤ s.now) : s.effNow = (e, []) := by
  simp [State.effNow, h, hold]

theorem State.effNow_young {s : State} {t : Nat} {e : SMap Nat} (h : s.effDue = [(t, e)]) (hyoung : s.now < t + 1000) :
    s.effNow = (s.effUse, s.effDue) := by
  simp [State.effNow, h, hyoung]

/-! ### EFF of every class (R292) -/

theorem mem_leashIx {d m c : Nat} (hd : d < 4) (hm : m < 137) (hc : c < 4) : (d, m, c) ∈ leashIx := by
  simp only [leashIx, List.mem_flatMap, List.mem_map, List.mem_range]
  exact ⟨d, hd, m, hm, c, hc, rfl⟩

/-- No two classes share a counter. -/
theorem leashKey_inj {d m c e n b : Nat} (hm : m < 137) (hc : c < 4) (hn : n < 137) (hb : b < 4) (h : leashKey d m c = leashKey e n b) :
    d = e ∧ m = n ∧ c = b := by
  unfold leashKey at h
  omega

/-- A map listed from values that are not 0 reads each of them: every entry under `k` holds `v`, and there is one unless `v` is the default. -/
theorem SMap.get_filterMap {α : Type} (key val : α → Nat) (k v : Nat) (l : List α) (hall : ∀ x ∈ l, key x = k → val x = v)
    (hsome : v ≠ 0 → ∃ x ∈ l, key x = k) : SMap.get 0 (l.filterMap (fun x => if val x = 0 then none else some (key x, val x))) k = v := by
  induction l with
  | nil =>
    by_contra hne
    obtain ⟨x, hx, -⟩ := hsome (fun h0 => hne h0.symm)
    cases hx
  | cons y l ih =>
    have htail : ∀ x ∈ l, key x = k → val x = v := fun x hx => hall x (List.mem_cons_of_mem y hx)
    have hlater : (val y = v → key y = k → v = 0) → v ≠ 0 → ∃ x ∈ l, key x = k := by
      intro hhead hv
      obtain ⟨x, hx, hkey⟩ := hsome hv
      rcases List.mem_cons.1 hx with rfl | hx
      · exact absurd (hhead (hall x hx hkey) hkey) hv
      · exact ⟨x, hx, hkey⟩
    by_cases hzero : val y = 0
    · rw [List.filterMap_cons_none (by simp [hzero])]
      exact ih htail (hlater (fun hv _ => hv.symm.trans hzero))
    · rw [List.filterMap_cons_some (b := (key y, val y)) (by simp [hzero])]
      by_cases hkey : key y = k
      · rw [hkey, SMap.get_cons_same]
        exact hall y List.mem_cons_self hkey
      · rw [SMap.get_cons_ne _ _ _ hkey]
        exact ih htail (hlater (fun _ h => absurd h hkey))

theorem State.get_effMap (s : State) {d m c : Nat} (hd : d < 4) (hm : m < 137) (hc : c < 4) :
    SMap.get 0 s.effMap (leashKey d m c) = s.rd R.LSH_M_EFF_EFF d [m, c] := by
  have hall : ∀ x ∈ leashIx, leashKey x.1 x.2.1 x.2.2 = leashKey d m c → s.rd R.LSH_M_EFF_EFF x.1 [x.2.1, x.2.2] = s.rd R.LSH_M_EFF_EFF d [m, c] := by
    rintro ⟨e, n, b⟩ hx hkey
    obtain ⟨hn, hb⟩ := leashIx_bounds hx
    obtain ⟨rfl, rfl, rfl⟩ := leashKey_inj hn hb hm hc hkey
    rfl
  exact SMap.get_filterMap _ _ _ _ leashIx hall (fun _ => ⟨(d, m, c), mem_leashIx hd hm hc, rfl⟩)

/-! ### A request at the Leash (R282, R284 to R287) -/

section Leash
variable {s : State} {r : Req} (hcalm : s.invals = [])
include hcalm

/-- With no invalidation in progress a request is drained past no hold (R311): it leaves as its counter, its granule and its ports let it. -/
theorem State.leash1_eq : s.leash1 r =
    if !s.heldAt r.die r.mport (r.dpa / 256) && s.fabricOk r.die r.mport (s.reqLinks r) r.flits && s.covers r.die r.mport r.cls r.q r.units then
      (s.goes r true).addReq { r with stage := .sent, guar := true, slot := s.slotted r.die r.mport (s.reqLinks r) r.flits }
    else if !(!s.heldAt r.die r.mport (r.dpa / 256) && s.fabricOk r.die r.mport (s.reqLinks r) r.flits) || s.strictPort r.die r.mport || !s.beOpen (qPort r.q) then
      s.addReq { r with stage := .held, slot := false }
    else (s.goes r false).addReq { r with stage := .sent, slot := s.slotted r.die r.mport (s.reqLinks r) r.flits } := by
  simp only [State.leash1, hcalm, List.any_nil, Bool.and_false, Bool.false_or, Bool.not_false, Bool.and_true, Bool.false_eq_true, if_false]
  rfl

/-- Behind a held request of its granule a request is held (R285). -/
theorem State.leash1_joined (hheld : s.heldAt r.die r.mport (r.dpa / 256) = true) : s.leash1 r = s.addReq { r with stage := .held, slot := false } := by
  simp [State.leash1_eq hcalm, hheld]

/-- What its class counter does not cover is held in strict mode, and where the memory port takes no best effort (R282, R287). -/
theorem State.leash1_held (hbare : s.covers r.die r.mport r.cls r.q r.units = false)
    (hno : s.strictPort r.die r.mport = true ∨ s.beOpen (qPort r.q) = false) : s.leash1 r = s.addReq { r with stage := .held, slot := false } := by
  rcases hno with hstrict | hfull
  · simp [State.leash1_eq hcalm, hbare, hstrict]
  · simp [State.leash1_eq hcalm, hbare, hfull]

variable (hfree : s.heldAt r.die r.mport (r.dpa / 256) = false) (hroom : s.fabricOk r.die r.mport (s.reqLinks r) r.flits = true)
include hfree hroom

/-- What its class counter covers leaves as guaranteed (R284). -/
theorem State.leash1_guar (hcovers : s.covers r.die r.mport r.cls r.q r.units = true) : s.leash1 r =
    (s.goes r true).addReq { r with stage := .sent, guar := true, slot := s.slotted r.die r.mport (s.reqLinks r) r.flits } := by
  simp [State.leash1_eq hcalm, hfree, hroom, hcovers]

/-- What it does not cover leaves as best effort where nothing holds it (R284). -/
theorem State.leash1_be (hbare : s.covers r.die r.mport r.cls r.q r.units = false) (hloose : s.strictPort r.die r.mport = false)
    (hopen : s.beOpen (qPort r.q) = true) : s.leash1 r =
    (s.goes r false).addReq { r with stage := .sent, slot := s.slotted r.die r.mport (s.reqLinks r) r.flits } := by
  simp [State.leash1_eq hcalm, hfree, hroom, hbare, hloose, hopen]

end Leash

/-- Settles O36: the slot frame's refill and the time an EFF takes, READMIT, and the ways of a request. -/
theorem leashCommandsComplete : Obligations.LeashCommandsComplete := by
  unfold Obligations.LeashCommandsComplete
  refine ⟨fun dt s => ⟨exec_slotFrameStart dt s, rfl, s.frameAt_frame⟩, fun s _ _ _ hd hm hc => s.get_effMap hd hm hc, ?calm, ?changed, exec_lshReadmit,
    ?request, ?counters⟩
  case calm =>
    intro s hnone
    rw [State.refill, State.effNow_none hnone]
    exact ⟨rfl, rfl⟩
  case changed =>
    intro s t e hdue
    refine ⟨fun hold => ?_, fun hyoung => ?_⟩
    · rw [State.refill, State.effNow_old hdue hold]
      exact ⟨rfl, rfl, rfl⟩
    · rw [State.refill, State.effNow_young hdue hyoung]
      exact ⟨rfl, rfl⟩
  case request =>
    exact fun s r hcalm => ⟨State.leash1_joined hcalm, fun hfree hroom => ⟨State.leash1_guar hcalm hfree hroom,
      fun hbare => ⟨State.leash1_held hcalm hbare, State.leash1_be hcalm hfree hroom hbare⟩⟩⟩
  case counters =>
    refine fun s r => ⟨fun k hk => ?_, s.leash_goes_be r⟩
    rw [s.leash_goes_guar r, SMap.get_put_ne _ _ _ hk]

end Sys2Proof.Machine
end

section
/-! SUPPORT. A pseudo-channel chooses the least of the waiting requests in the order of their keys (R281), and serves it. -/

namespace Sys2Proof.Machine

/-! ### The order of keys -/

theorem lexLt_irrefl (l : List Nat) : lexLt l l = false := by
  induction l with
  | nil => rfl
  | cons a l ih => simp [lexLt, ih]

theorem lexLt_cons_iff (a b : Nat) (l m : List Nat) : lexLt (a :: l) (b :: m) = true ↔ a < b ∨ a = b ∧ lexLt l m = true := by
  simp [lexLt]

theorem lexLt_trans {l m n : List Nat} (hlm : lexLt l m = true) (hmn : lexLt m n = true) : lexLt l n = true := by
  induction l generalizing m n with
  | nil => cases hlm
  | cons a l ih =>
    match m, n with
    | [], _ => cases hlm
    | _ :: _, [] => cases hmn
    | b :: m, c :: n =>
      rw [lexLt_cons_iff] at hlm hmn ⊢
      rcases hlm with hab | ⟨rfl, hlm⟩
      · rcases hmn with hbc | ⟨rfl, -⟩
        · exact .inl (hab.trans hbc)
        · exact .inl hab
      · rcases hmn with hac | ⟨rfl, hmn⟩
        · exact .inl hac
        · exact .inr ⟨rfl, ih hlm hmn⟩

/-! ### The choice -/

/-- What a running least element ends with is an element of the list, or what it began with. -/
theorem mem_of_mem_foldl_argAux {α : Type} (r : α → α → Prop) [DecidableRel r] {m : α} (l : List α) (o : Option α) (h : m ∈ l.foldl (List.argAux r) o) :
    m ∈ l ∨ m ∈ o := by
  induction l generalizing o with
  | nil => exact .inr h
  | cons a l ih =>
    rcases ih _ h with hl | ho
    · exact .inl (List.mem_cons_of_mem a hl)
    · cases o with
      | none => exact .inl (List.mem_cons.2 (.inl (Option.some.inj ho).symm))
      | some c =>
        simp only [List.argAux] at ho
        split at ho
        · exact .inl (List.mem_cons.2 (.inl (Option.some.inj ho).symm))
        · exact .inr ho

section Choice
variable {s : State} {q : Nat} {openIds : List Nat}

/-- Request `x` comes before `y` in the order of R281. -/
abbrev State.servedBefore (s : State) (openIds : List Nat) (x y : Req) : Prop := lexLt (s.dramKey x openIds) (s.dramKey y openIds) = true

theorem State.dramChoice_eq_foldl : s.dramChoice q openIds = (s.dramWaiting q).foldl (List.argAux (s.servedBefore openIds)) none := by
  unfold State.dramChoice
  congr 1
  funext chosen r
  cases chosen with
  | none => rfl
  | some c => rfl

theorem State.dramChoice_waits {r : Req} (h : s.dramChoice q openIds = some r) : r ∈ s.dramWaiting q := by
  rw [State.dramChoice_eq_foldl] at h
  exact (mem_of_mem_foldl_argAux _ _ _ h).resolve_right (Option.not_mem_none r)

/-- No waiting request comes before the one chosen. -/
theorem State.dramChoice_least {r x : Req} (h : s.dramChoice q openIds = some r) (hx : x ∈ s.dramWaiting q) : ¬ s.servedBefore openIds x r := by
  rw [State.dramChoice_eq_foldl] at h
  exact List.not_of_mem_foldl_argAux (s.servedBefore openIds) ⟨fun y => by simp [lexLt_irrefl]⟩ ⟨fun _ _ _ => lexLt_trans⟩ hx h

/-- One is chosen where one waits. -/
theorem State.dramChoice_ne_none (h : s.dramWaiting q ≠ []) : s.dramChoice q openIds ≠ none := by
  rw [State.dramChoice_eq_foldl, ne_eq, List.foldl_argAux_eq_none]
  exact fun hnone => h hnone.1

/-- The chosen request is served, unless its stack is too hot (R266) or its home does not serve (R274, R352). -/
theorem exec_dramCommandIssue_serves {dt : Nat} {r : Req} (ecc : List Ecc) (hq : q < 1024) (hchoice : (s.at_ dt).dramChoice q openIds = some r)
    (hcool : s.rd R.MEM_STACK_TEMP_BAND (qStack q / 4) [qStack q % 4] ≠ 4) (hup : s.homeUp q = true) :
    exec (.dramCommandIssue q dt openIds ecc) s = .next (((s.at_ dt).dramServe r ecc).withQueue s.pending) := by
  have hserve : (s.at_ dt).dramIssue q openIds ecc = (s.at_ dt).dramServe r ecc := by
    have hband : (s.at_ dt).rd R.MEM_STACK_TEMP_BAND (qStack q / 4) [qStack q % 4] ≠ 4 := hcool
    have hhome : (s.at_ dt).homeUp q = true := hup
    simp [State.dramIssue, hchoice, hband, hhome]
  rw [← hserve]
  exact within_next s _ _ (decide_eq_true hq)

end Choice

/-- Settles O32: the choice is a waiting request, the least in the order of R281, and it is served. -/
theorem dramServesByKey : Obligations.DramServesByKey := by
  unfold Obligations.DramServesByKey
  refine ⟨fun _ _ _ ecc _ _ hq hchoice hcool hup => exec_dramCommandIssue_serves ecc hq hchoice hcool hup, fun _ _ _ _ hchoice => ?chosen,
    fun _ _ _ hwaits => State.dramChoice_ne_none hwaits⟩
  case chosen =>
    exact ⟨State.dramChoice_waits hchoice, fun _ hx => Bool.eq_false_of_not_eq_true (State.dramChoice_least hchoice hx)⟩

end Sys2Proof.Machine
end

section
/-! SUPPORT. The Retriever (R318 to R321): which unit a command of it acts on, when the operation is done, and where a COPY stops. -/

namespace Sys2Proof.Machine

/-! ### A command of the Retriever acts on one unit (R318) -/

section Commands
variable {s : State} {p r dt op : Nat} {d : Desc} {f : RtrOp}

/-- A command acts on the head of its TYPE in its turn that it selects, once that passes its checks (R202). -/
theorem State.onHead_selects {kind : Nat} {sel : Desc → Bool} {g : State → Desc → State} (hhead : s.headDesc p r = some d) (hturn : s.turn p r = true)
    (hkind : d.kind = kind) (hsel : sel d = true) (hgood : (s.at_ dt).badReason d = none) :
    s.onHead p r dt kind sel g = (g (s.at_ dt) d).advance p (queueOf r) := by
  simp only [State.onHead, State.advance_turn hturn, hhead, hturn, hkind, hsel, hgood, Bool.not_true, bne_self_eq_false, Bool.or_self, Bool.false_eq_true,
    if_false]

theorem State.rtr_admits (h : HeadTurn s p r 2 d) (hop : d.op = op) (hok : d.opOk = true) (hgood : (s.at_ dt).badReason d = none) :
    s.rtr p r dt op f = ((s.at_ dt).rtrUnit d f).advance p (queueOf r) := by
  obtain ⟨hhead, hturn, hkind, -⟩ := h
  have hmine : (d.op == op && d.opOk) = true := by simp [hop, hok]
  have hany : (s.headDesc p r).any (fun d => d.op == op && d.opOk) && s.turn p r := by simp [hhead, hturn, hmine]
  exact (if_pos hany).trans (State.onHead_selects hhead hturn hkind hmine hgood)

/-- With no descriptor at the head, the ring's waiting unit of the operation goes on. -/
theorem State.rtr_goesOn {u : WUnit} (hhead : s.headDesc p r = none) (hwaits : s.rtrWaiting p r op = some u) :
    s.rtr p r dt op f = (s.at_ dt).rtrRun u.id f := by
  simp [State.rtr, hhead, hwaits]

/-- An operation that asks for nothing more is done whole: the unit is over, or waits for its drain (R319). -/
theorem State.rtrRun_done {uid die : Nat} {u : WUnit} {s1 t : State} {e : Option Ending} {w : Bool} (hunit : s.unit? uid = some u)
    (hdie : s.rtrDie u.descr uid = (die, s1))
    (hdone : f u.descr s1 uid ⟨die, u.part, u.ctx, 9728 + die, bit (u.descr.nat 0x11 1) 0, uid, 0⟩ = (t, e, w)) (hask : t.ask = []) :
    s.rtrRun uid f = t.updUnit uid (fun u => { u with ending := e, done := !w, released := true }) := by
  simp only [State.rtrRun, hunit]
  refine (s.orWait_here _ ?_).trans ?_
  · simp only [hdie, hdone]
    exact hask
  · simp only [hdie, hdone]

theorem within_retriever (hp : p < 64) (hr : r < 64) (t : State) : within s (decide (p < 64) && decide (r < 64)) t = .next (t.withQueue s.pending) :=
  within_next s t _ (by simp only [hp, hr, decide_true, Bool.and_self])

/-- A command whose operation the head's descriptor names admits it as a unit and begins. -/
theorem within_rtr_admits (hp : p < 64) (hr : r < 64) (h : HeadTurn s p r 2 d) (hok : d.opOk = true) (hgood : (s.at_ dt).badReason d = none)
    (hop : d.op = op) : within s (decide (p < 64) && decide (r < 64)) (s.rtr p r dt op f) =
      .next ((((s.at_ dt).rtrUnit d f).advance p (queueOf r)).withQueue s.pending) := by
  rw [within_retriever hp hr, State.rtr_admits h hop hok hgood]

theorem exec_copy_goesOn {u : WUnit} {host : List Byte} (hp : p < 64) (hr : r < 64) (hhead : s.headDesc p r = none)
    (hwaits : s.rtrWaiting p r 1 = some u) : exec (.copy p r dt host) s = .next (((s.at_ dt).rtrRun u.id (copyOp host)).withQueue s.pending) := by
  refine (within_retriever hp hr _).trans ?_
  rw [State.rtr_goesOn hhead hwaits]

/-- A descriptor that fails the Retriever's own checks ends its unit with status 0x40 (R321). -/
theorem exec_rtrBadOp_ends (hp : p < 64) (hr : r < 64) (h : HeadTurn s p r 2 d) (hbad : d.opOk = false) (hgood : (s.at_ dt).badReason d = none) :
    exec (.rtrBadOp p r dt) s = .next (((((s.at_ dt).takeUnit d .retriever []).updUnit s.nextUid
      (fun u => { u with ending := some ⟨0x40, 0, 0⟩, done := true, released := true })).advance p (queueOf r)).withQueue s.pending) := by
  obtain ⟨hhead, hturn, hkind, -⟩ := h
  refine (within_retriever hp hr _).trans ?_
  rw [State.onHead_selects hhead hturn hkind (by simp [hbad]) hgood]
  rfl

end Commands

/-! ### The order of a COPY (R320) -/

/-- One line more of a COPY that goes on; one that has ended copies nothing more. -/
def copyNext (a : Virt) (src dst : Nat) (host : List Byte) (down : Bool) : State × Option Ending → Nat → State × Option Ending
  | (s, none), k => s.copyStep a src dst host k down
  | (s, some e), _ => (s, some e)

section Copy
variable {s s1 : State} {a : Virt} {src dst : Nat} {host : List Byte}

/-- The lines of a COPY in its order: downwards where the ranges overlap and the destination lies above the source. -/
theorem State.copyRange_eq (len : Nat) : s.copyRange a src dst len host =
    (if overlaps src len dst len && decide (src < dst) then (List.range (len / 64)).reverse else List.range (len / 64)).foldl
      (copyNext a src dst host (overlaps src len dst len && decide (src < dst))) (s, none) := by
  unfold State.copyRange
  dsimp only
  congr 1
  funext ⟨u, e⟩ k
  cases e <;> rfl

/-- Every line after the one that fails stays as it was. -/
theorem foldl_copyNext_ended {down : Bool} (e : Ending) (ks : List Nat) : ks.foldl (copyNext a src dst host down) (s, some e) = (s, some e) :=
  List.foldl_fixed' (fun _ => rfl) ks

/-- A first line that fails ends the COPY. -/
theorem foldl_copyNext_fails {down : Bool} {e : Option Ending} {k : Nat} (h : s.copyStep a src dst host k down = (s1, e)) (he : e.isSome = true)
    (ks : List Nat) : (k :: ks).foldl (copyNext a src dst host down) (s, none) = (s1, e) := by
  obtain ⟨e, rfl⟩ := Option.isSome_iff_exists.1 he
  rw [List.foldl_cons, show copyNext a src dst host down (s, none) k = (s1, some e) from h, foldl_copyNext_ended]

theorem State.copyRange_empty : s.copyRange a src dst 0 host = (s, none) := by
  rw [State.copyRange_eq]
  split <;> rfl

/-- Upwards the first line is line 0. -/
theorem State.copyRange_fails_up {n : Nat} {e : Option Ending} (hup : dst ≤ src ∨ src + 64 * (n + 1) ≤ dst)
    (h : s.copyStep a src dst host 0 false = (s1, e)) (he : e.isSome = true) : s.copyRange a src dst (64 * (n + 1)) host = (s1, e) := by
  have hdir : (overlaps src (64 * (n + 1)) dst (64 * (n + 1)) && decide (src < dst)) = false := by
    simp only [overlaps, Bool.and_eq_false_iff, decide_eq_false_iff_not]
    omega
  rw [State.copyRange_eq, hdir, Nat.mul_div_cancel_left _ (by decide), List.range_succ_eq_map]
  exact foldl_copyNext_fails h he _

/-- Downwards it is the last. -/
theorem State.copyRange_fails_down {n : Nat} {e : Option Ending} (habove : src < dst) (hmeet : dst < src + 64 * (n + 1))
    (h : s.copyStep a src dst host n true = (s1, e)) (he : e.isSome = true) : s.copyRange a src dst (64 * (n + 1)) host = (s1, e) := by
  have hdir : (overlaps src (64 * (n + 1)) dst (64 * (n + 1)) && decide (src < dst)) = true := by
    simp only [overlaps, Bool.and_eq_true, decide_eq_true_eq]
    omega
  rw [State.copyRange_eq, hdir, Nat.mul_div_cancel_left _ (by decide), if_pos rfl, List.range_succ, List.reverse_append]
  exact foldl_copyNext_fails h he _

end Copy

/-- Settles O24: the unit a command admits or goes on with, and the line a COPY ends at. -/
theorem retrieverCommandsComplete : Obligations.RetrieverCommandsComplete := by
  unfold Obligations.RetrieverCommandsComplete
  refine ⟨⟨?admits, fun _ _ _ _ _ _ _ _ _ hunit hdie hdone hask => State.rtrRun_done hunit hdie hdone hask,
      fun _ _ _ _ _ _ hp hr hhead hwaits => exec_copy_goesOn hp hr hhead hwaits,
      fun _ _ _ _ _ hp hr h hbad hgood => exec_rtrBadOp_ends hp hr h hbad hgood⟩,
    fun _ _ _ _ _ => State.copyRange_empty, fun _ _ _ _ _ _ _ _ hup h he => State.copyRange_fails_up hup h he,
    fun _ _ _ _ _ _ _ _ habove hmeet h he => State.copyRange_fails_down habove hmeet h he⟩
  case admits =>
    intro p r dt host d s hp hr h hok hgood after
    exact ⟨within_rtr_admits hp hr h hok hgood, within_rtr_admits hp hr h hok hgood, within_rtr_admits hp hr h hok hgood,
      within_rtr_admits hp hr h hok hgood, within_rtr_admits hp hr h hok hgood⟩

end Sys2Proof.Machine
end

section
/-! SUPPORT. A tile's requests, their misses and the walkers (R284, R298 to R308, R316, R492). -/

namespace Sys2Proof.Machine

/-- What is found first is found first under a stronger test that it passes. -/
theorem List.find?_and_of_find? {α : Type} {p q : α → Bool} {l : List α} {x : α} (h : l.find? p = some x) (hq : q x = true) :
    l.find? (fun y => p y && q y) = some x := by
  obtain ⟨hp, as, bs, rfl, has⟩ := List.find?_eq_some_iff_append.1 h
  exact List.find?_eq_some_iff_append.2 ⟨by simp [hp, hq], as, bs, rfl, fun y hy => by simp [by simpa using has y hy]⟩

/-! ### A piece of a transfer at its master port (R284, R307, R316) -/

section Piece
variable {s : State} {xid k dt : Nat} {x : Xfer} {p : Piece} {w : WUnit} (hxfer : s.xfers.find? (fun (x : Xfer) => x.id == xid) = some x)
  (hpiece : x.pieces[k]? = some p) (hunit : s.xferUnit x = some w) (hwhole : x.faulted = false)
include hxfer hpiece hunit hwhole

/-- A piece whose translation a TLB holds leaves under it. -/
theorem State.leashRequest_leaves {e e' : TlbEntry} {s1 s2 : State} (hturn : s.pieceTurn x k = true) (hstream : s.streamFull x.tile = false)
    (hout : s.tileOut x < (if x.narrow then 512 else 256)) (hhalf : s.halfOff w.part w.ctx p.va = none) (hmiss : s.missOf x.tile p.va = none)
    (hlook : s.tileLook (x.tile / 16) w.part w.ctx p.va = some (e, s1)) (hfirst : k = 0 ∨ x.write = false ∨ e.w = true)
    (hallow : s1.allow (cluDie (x.tile / 16)) e x.write w.id = (.hit e', s2)) : s.leashRequest xid k dt = s2.issuePiece x w k p e' dt := by
  have hroom : ¬ (if x.narrow then 512 else 256) ≤ s.tileOut x := Nat.not_le.2 hout
  have hmay : ¬ (k ≠ 0 ∧ x.write = true ∧ e.w = false) := by
    rintro ⟨hk, hwrite, hw⟩
    simp [hk, hwrite, hw] at hfirst
  simp only [State.leashRequest, hxfer, hpiece, hunit, hwhole, hturn, hstream, hroom, hhalf, hmiss, hlook, hallow, if_neg hmay, Bool.not_true, decide_false,
    Bool.or_self, Bool.false_eq_true, if_false]

/-- A page that no TLB holds becomes a miss of the stream. -/
theorem State.tlbMiss_adds (hturn : s.pieceTurn x k = true) (hhalf : s.halfOff w.part w.ctx p.va = none) (hmiss : s.missOf x.tile p.va = none)
    (hlook : s.tileLook (x.tile / 16) w.part w.ctx p.va = none) (hstream : s.streamFull x.tile = false) :
    s.tlbMiss xid k = (s.bump R.XLT_DTLB_MISSES (cluDie (x.tile / 16)) [] 1).addMiss ⟨0, x.tile, cluDie (x.tile / 16), x.tile / 16, x.id, w.part,
      w.ctx, s.epoch w.part w.ctx, p.va, x.write, p.trOff, if isHost p.va then (if s.heel then .failed 7 else .queued) else .device, w.id, false⟩ := by
  have hepoch : (s.bump R.XLT_DTLB_MISSES (cluDie (x.tile / 16)) [] 1).epoch w.part w.ctx = s.epoch w.part w.ctx :=
    s.rd_bump_ne _ _ _ _ _ _ _ (by
      simp only [Fld.key, Fld.offset, strideSum, R.XLT_DTLB_MISSES, R.XLT_CTX_EPOCH_EPOCH]
      omega)
  have hheel : (s.bump R.XLT_DTLB_MISSES (cluDie (x.tile / 16)) [] 1).heel = s.heel :=
    congrArg (· != 0) (s.rd_bump_ne _ _ _ _ _ _ _ (by
      simp only [Fld.key, Fld.offset, strideSum, R.XLT_DTLB_MISSES, R.HEL_HOST_STATUS_ACTIVE]
      omega))
  simp only [State.tlbMiss, hxfer, hpiece, hunit, hwhole, hturn, hhalf, hmiss, hlook, hstream, hepoch, hheel, Option.isSome_none, Bool.not_true, Bool.or_self,
    Bool.false_eq_true, if_false]

end Piece

/-- The first piece of a transfer always has its turn. -/
theorem State.pieceTurn_first (s : State) (x : Xfer) : s.pieceTurn x 0 = true := by
  simp [State.pieceTurn]

/-- A failed translation of the first piece ends the transfer, and the miss is over. -/
theorem State.leashRequest_fails {s : State} {xid dt : Nat} {x : Xfer} {p : Piece} {w : WUnit} {m : Miss} {r : XRes}
    (hxfer : s.xfers.find? (fun (x : Xfer) => x.id == xid) = some x) (hpiece : x.pieces[0]? = some p) (hunit : s.xferUnit x = some w)
    (hwhole : x.faulted = false) (hstream : s.streamFull x.tile = false) (hout : s.tileOut x < (if x.narrow then 512 else 256))
    (hhalf : s.halfOff w.part w.ctx p.va = none) (hmiss : s.missOf x.tile p.va = some m) (hres : m.res = some r) :
    s.leashRequest xid 0 dt = ({ s with misses := s.misses.erase m }).xferEnd x p.va p.trOff (r.atVa m.va) := by
  have hroom : ¬ (if x.narrow then 512 else 256) ≤ s.tileOut x := Nat.not_le.2 hout
  simp only [State.leashRequest, hxfer, hpiece, hunit, hwhole, s.pieceTurn_first, hstream, hroom, hhalf, hmiss, hres, Bool.not_true, decide_false, Bool.or_self,
    Bool.false_eq_true, if_false, if_true]

/-- A data mover's request takes the effect `t` that its piece has, if that asks for nothing. -/
theorem exec_leashRequest_piece {s t : State} {xid k dt : Nat} (h : s.leashRequest xid k dt = t) (hask : t.ask = []) :
    exec (.leashRequest (.piece xid k) dt) s = .next (t.withQueue s.pending) := by
  have hwait : s.orWait (fun s => s.leashRequest xid k dt) = t := (s.orWait_here _ (by rw [h]; exact hask)).trans h
  refine (within_next s _ true rfl).trans ?_
  exact congrArg (fun u : State => Host.Outcome.next (u.withQueue s.pending)) hwait

/-- A memory request of a Pack's core is answered UE and counted, and nothing is sent to memory (R492). -/
theorem exec_leashRequest_pack {die core : Nat} (hdie : die < 4) (hcore : core < 2) (dt : Nat) (s : State) :
    ∃ u, exec (.leashRequest (.pack die core) dt) s = .next u ∧ u.out = s.out ++ [.pack die core 1] ∧
      u.reqs = s.reqs ∧ u.rd R.SEC_PACK_DENIED 0 = min (2 ^ R.SEC_PACK_DENIED.width - 1) (s.rd R.SEC_PACK_DENIED 0 + 1) :=
  ⟨_, within_next s _ _ (by simp only [hdie, hcore, decide_true, Bool.and_self]), rfl, rfl, s.rd_bump_same R.SEC_PACK_DENIED 0 [] 1⟩

/-! ### Walkers (R302, R308) -/

section Walk
variable {s : State} {id : Nat} {m : Miss}

theorem State.takeWalker_waits (h : m.stage ≠ .device) : s.takeWalker m = s := by
  simp [State.takeWalker, h]

/-- In its stream's turn a miss takes a walker. -/
theorem State.takeWalker_takes (hstage : m.stage = .device) (hmay : s.mayWalk m.die m.stream = true) (hturn : s.walkNext m.die = m.stream) :
    s.takeWalker m = { s.setMiss m .walking with walkTurn := SMap.put 0 s.walkTurn m.die (m.stream + 1) } := by
  simp [State.takeWalker, hstage, hmay, hturn]

/-- A lookup of a miss whose stage has changed finds it in its new stage. -/
theorem State.find?_setMiss (hfind : s.misses.find? (fun (m : Miss) => m.id == id) = some m) (st : MissStage) :
    (s.setMiss m st).misses.find? (fun (m : Miss) => m.id == id) = some { m with stage := st } := by
  have hid : ∀ x : Miss, (if x.id == m.id then { x with stage := st } else x).id = x.id := fun x => by split <;> rfl
  simp only [State.setMiss, List.find?_map, Function.comp_def, hid, hfind, Option.map_some, beq_self_eq_true, if_true]

/-- What a walker does for its miss: it walks the tables, and what waits for the translation of a structure is tried again. -/
def State.serveMiss (m : Miss) (s : State) : State :=
  if (s.walkMiss m).parked.any (fun (w : Parked) => w.stream == m.stream) then (s.walkMiss m).unpark else s.walkMiss m

/-- The walker that a miss has serves it. -/
theorem exec_pageWalk_walking (hfind : s.misses.find? (fun (m : Miss) => m.id == id) = some m) (hstage : m.stage = .walking) :
    exec (.pageWalk id) s = .next ((s.orWait (State.serveMiss m)).withQueue s.pending) := by
  refine (within_next s _ true rfl).trans ?_
  have htaken : s.takeWalker m = s := State.takeWalker_waits (by simp [hstage])
  have hwalking := List.find?_and_of_find? hfind (q := fun m => m.stage == .walking) (by simp [hstage])
  simp only [hfind, htaken, hwalking]
  rfl

theorem exec_pageWalk_serves {t : State} (hfind : s.misses.find? (fun (m : Miss) => m.id == id) = some m) (hstage : m.stage = .walking)
    (ht : State.serveMiss m s = t) (hask : t.ask = []) : exec (.pageWalk id) s = .next (t.withQueue s.pending) := by
  rw [exec_pageWalk_walking hfind hstage, s.orWait_here _ (by rw [ht]; exact hask), ht]

/-- A miss that waits for a walker takes one and is served in the same step. -/
theorem exec_pageWalk_takeWalker (hfind : s.misses.find? (fun (m : Miss) => m.id == id) = some m) (hstage : m.stage = .device)
    (hmay : s.mayWalk m.die m.stream = true) (hturn : s.walkNext m.die = m.stream) :
    exec (.pageWalk id) s = exec (.pageWalk id) (s.takeWalker m) ∧
      (s.takeWalker m).misses.find? (fun (m : Miss) => m.id == id) = some { m with stage := .walking } := by
  have hnow : (s.takeWalker m).misses.find? (fun (m : Miss) => m.id == id) = some { m with stage := .walking } := by
    rw [State.takeWalker_takes hstage hmay hturn]
    exact State.find?_setMiss hfind .walking
  have hpending : (s.takeWalker m).pending = s.pending := by
    rw [State.takeWalker_takes hstage hmay hturn]
    rfl
  refine ⟨?_, hnow⟩
  rw [exec_pageWalk_walking hnow rfl, hpending]
  refine (within_next s _ true rfl).trans ?_
  simp only [hfind, List.find?_and_of_find? hnow (q := fun m => m.stage == .walking) (by simp)]
  rfl

/-- A walk that ends in an entry fills the die's TLB and the cluster's, and the miss is over. -/
theorem State.walkMiss_hit {e : TlbEntry} {s1 : State} (hcluster : m.cluster < 512) (h : s.walk m.die m.part m.ctx m.va m.uid m.id = (.hit e, s1)) :
    s.walkMiss m = { (s1.tlbFill m.die e).tlbFill (4 + m.cluster) e with misses := s1.misses.erase m } := by
  simp only [State.walkMiss, h, if_pos hcluster]
  rfl

/-- One that fails leaves the failure for the piece. -/
theorem State.walkMiss_fault {k : Nat} {s1 : State} (h : s.walk m.die m.part m.ctx m.va m.uid m.id = (.fault k, s1)) :
    s.walkMiss m = s1.setMiss m (.failed k) := by
  simp only [State.walkMiss, h]

end Walk

/-- Settles O37: a piece with its translation or its failure, a Pack's request, and misses from the TLBs to the walkers. -/
theorem translationCommandsComplete : Obligations.TranslationCommandsComplete := by
  unfold Obligations.TranslationCommandsComplete
  refine ⟨?leaves, ?fails, fun die core dt s hdie hcore => exec_leashRequest_pack hdie hcore dt s, ?miss, ?walk,
    fun id m s hfind hstage hmay hturn => exec_pageWalk_takeWalker hfind hstage hmay hturn,
    fun m e s s1 hcluster h => State.walkMiss_hit hcluster h, fun m k s s1 h => State.walkMiss_fault h⟩
  case leaves =>
    intro xid k x p w e e' dt s s1 s2 hxfer hpiece hunit hwhole hturn hstream hout hhalf hmiss hlook hfirst hallow hask
    exact exec_leashRequest_piece (State.leashRequest_leaves hxfer hpiece hunit hwhole hturn hstream hout hhalf hmiss hlook hfirst hallow) hask
  case fails =>
    intro xid dt x p w m r s hxfer hpiece hunit hwhole hstream hout hhalf hmiss hres hask
    exact exec_leashRequest_piece (State.leashRequest_fails hxfer hpiece hunit hwhole hstream hout hhalf hmiss hres) hask
  case miss =>
    intro xid k x p w s hxfer hpiece hunit hwhole hturn hhalf hmiss hlook hstream
    refine (within_next s _ true rfl).trans ?_
    rw [State.tlbMiss_adds hxfer hpiece hunit hwhole hturn hhalf hmiss hlook hstream]
  case walk =>
    intro id m s hfind hstage hask
    refine ⟨fun hnone => exec_pageWalk_serves hfind hstage (if_neg ?_) hask,
      fun hparked hunpark => exec_pageWalk_serves hfind hstage (if_pos hparked) hunpark⟩
    simp [hnone]

end Sys2Proof.Machine
end

section
/-! SUPPORT. The host's side of translation (R309, R310, R312) by the answer that comes, and an invalidation (R311, R312): its start, its end and its cut. -/

namespace Sys2Proof.Machine

/-! ### Answers of the host (R310) -/

/-- A completion that fails, grants no read, or no write where one is asked for, does not allow the access. -/
theorem ats_denied {ok r w write : Bool} (h : ok = false ∨ r = false ∨ (w = false ∧ write = true)) : (ok && r && (w || !write)) = false := by
  rcases h with rfl | rfl | ⟨rfl, rfl⟩ <;> simp

section Answers
variable {s : State} {id size pa : Nat} {w : Bool} {m : Miss}

section Completion
variable (hfind : s.misses.find? (fun (m : Miss) => m.id == id && (m.stage == .ats || m.stage == .again)) = some m)
include hfind

theorem exec_atsTranslationCompletion_late (ok r : Bool) :
    exec (.atsTranslationCompletion id true ok r w size pa) s = .next ((s.atsFail m 7).withQueue s.pending) := by
  refine (within_next s _ true rfl).trans ?_
  simp only [hfind, if_true]

/-- One that allows the access fills the TLBs, and the miss is over. -/
theorem exec_atsTranslationCompletion_fills (hclear : s.atsCovers m size = false) (hallows : w = true ∨ m.write = false) :
    exec (.atsTranslationCompletion id false true true w size pa) s =
      .next (({ s.atsFill m w size pa with misses := s.misses.erase m }.pumpAts.unpark).withQueue s.pending) := by
  have hgood : (w || !m.write) = true := by simpa using hallows
  refine (within_next s _ true rfl).trans ?_
  simp only [hfind, hclear, hgood, Bool.false_and, Bool.not_false, Bool.and_self, Bool.false_eq_true, if_false, if_true]

/-- One that an ATS invalidation in progress meets is asked for again. -/
theorem exec_atsTranslationCompletion_covered (ok r : Bool) (hmeets : s.atsCovers m size = true) (howned : m.orphan = false) :
    exec (.atsTranslationCompletion id false ok r w size pa) s =
      .next (((s.setMiss m (if m.stage = .again then .againQueued else .queued)).pumpAts).withQueue s.pending) := by
  refine (within_next s _ true rfl).trans ?_
  simp only [hfind, hmeets, howned, Bool.not_false, Bool.and_self, Bool.false_eq_true, if_false, if_true, beq_iff_eq]

section Denied
variable {ok r : Bool} (hclear : s.atsCovers m size = false) (hdenies : ok = false ∨ r = false ∨ (w = false ∧ m.write = true))
include hclear hdenies

/-- The first that does not allow the access asks for the page. -/
theorem exec_atsTranslationCompletion_asks (howned : m.orphan = false) (hstage : m.stage = .ats) :
    exec (.atsTranslationCompletion id false ok r w size pa) s = .next ((
      let u := (s.setMiss m .prg).bump R.XLT_PRI_REQS 0 [] 1
      (u.send (.hostMsg 1 m.id (u.hostName m.part m.ctx (m.va % 2 ^ 47 + (if m.write then 2 ^ 47 else 0))))).pumpAts).withQueue s.pending) := by
  refine (within_next s _ true rfl).trans ?_
  simp [hfind, hclear, ats_denied hdenies, howned, hstage]

/-- One that comes after a page request is a failure. -/
theorem exec_atsTranslationCompletion_fails (hstage : m.stage = .again) :
    exec (.atsTranslationCompletion id false ok r w size pa) s = .next ((s.atsFail m 6).withQueue s.pending) := by
  refine (within_next s _ true rfl).trans ?_
  simp [hfind, hclear, ats_denied hdenies, hstage]

end Denied

end Completion

/-- A PRG response asks for the translation again, or is a failure. -/
theorem exec_prgResponse_answers (hfind : s.misses.find? (fun (m : Miss) => m.id == id && m.stage == .prg) = some m) (howned : m.orphan = false)
    (ok : Bool) : exec (.prgResponse id ok) s =
      .next ((if ok then (s.setMiss m .againQueued).pumpAts else s.atsFail m 6).withQueue s.pending) := by
  refine (within_next s _ true rfl).trans ?_
  simp only [hfind, howned, Bool.false_eq_true, if_false]

/-- A response that no page request waits for is only counted. -/
theorem exec_prgResponse_late (hnone : s.misses.find? (fun (m : Miss) => m.id == id && m.stage == .prg) = none) (ok : Bool) :
    exec (.prgResponse id ok) s = .next (s.bump R.XLT_PRI_LATE 0 [] 1) := by
  refine (within_next s _ true rfl).trans ?_
  simp only [hnone]
  rfl

end Answers

/-! ### Invalidate Requests (R312) -/

/-- The contexts of a function that have a PASID. -/
def State.pasidCtxs (s : State) (fn pasid : Nat) : List (Nat × Nat) :=
  (List.range 64).flatMap (fun p => if s.fnOf p == fn then
    (List.range 16).filterMap (fun c => if s.rd R.XLT_CTX_CFG_PASID 0 [p, c] == pasid then some (p, c) else none) else [])

/-- A list of lists of which one is not empty is that one. -/
theorem List.flatMap_eq_of_unique {α β : Type} {f : α → List β} {l : List α} {x : α} (hnodup : l.Nodup) (hx : x ∈ l)
    (hother : ∀ y ∈ l, y ≠ x → f y = []) : l.flatMap f = f x := by
  obtain ⟨as, bs, rfl⟩ := List.append_of_mem hx
  have hside : x ∉ as ++ bs := (List.nodup_middle.1 hnodup).notMem
  have hempty : ∀ y ∈ as ++ bs, f y = [] := fun y hy =>
    hother y (List.mem_append.2 ((List.mem_append.1 hy).imp_right (List.mem_cons_of_mem x))) (fun h => hside (h ▸ hy))
  rw [List.flatMap_append, List.flatMap_cons, List.flatMap_eq_nil_iff.2 (fun y hy => hempty y (List.mem_append_left bs hy)),
    List.flatMap_eq_nil_iff.2 (fun y hy => hempty y (List.mem_append_right as hy)), List.append_nil, List.nil_append]

section Request
variable {s : State} {fn pasid : Nat}

theorem State.pasidCtxs_none (h : ∀ p < 64, s.fnOf p = fn → ∀ c < 16, s.rd R.XLT_CTX_CFG_PASID 0 [p, c] ≠ pasid) : s.pasidCtxs fn pasid = [] := by
  refine List.flatMap_eq_nil_iff.2 (fun p hp => ?_)
  split
  next hfn => exact List.filterMap_eq_nil_iff.2 (fun c hc => if_neg (by simpa using h p (List.mem_range.1 hp) (by simpa using hfn) c (List.mem_range.1 hc)))
  next => rfl

theorem State.pasidCtxs_one {p c : Nat} (hp : p < 64) (hc : c < 16)
    (h : ∀ q < 64, ∀ k < 16, (s.fnOf q = fn ∧ s.rd R.XLT_CTX_CFG_PASID 0 [q, k] = pasid) ↔ (q = p ∧ k = c)) : s.pasidCtxs fn pasid = [(p, c)] := by
  obtain ⟨hfn, hpasid⟩ := (h p hp c hc).2 ⟨rfl, rfl⟩
  have hpart : ∀ q ∈ List.range 64, q ≠ p → (if s.fnOf q == fn then
      (List.range 16).filterMap (fun k => if s.rd R.XLT_CTX_CFG_PASID 0 [q, k] == pasid then some (q, k) else none) else []) = [] := by
    intro q hq hne
    split
    next hqfn =>
      refine List.filterMap_eq_nil_iff.2 (fun k hk => if_neg (fun hread => hne ?_))
      exact ((h q (List.mem_range.1 hq) k (List.mem_range.1 hk)).1 ⟨by simpa using hqfn, by simpa using hread⟩).1
    next => rfl
  have hctx : ∀ k ∈ List.range 16, k ≠ c → (if s.rd R.XLT_CTX_CFG_PASID 0 [p, k] == pasid then some (p, k) else none).toList = [] := by
    intro k hk hne
    rw [if_neg (fun hread => hne ((h p hp k (List.mem_range.1 hk)).1 ⟨hfn, by simpa using hread⟩).2), Option.toList_none]
  rw [State.pasidCtxs, List.flatMap_eq_of_unique List.nodup_range (List.mem_range.2 hp) hpart, if_pos (by simpa using hfn), List.filterMap_eq_flatMap_toList,
    List.flatMap_eq_of_unique List.nodup_range (List.mem_range.2 hc) hctx, if_pos (by simpa using hpasid), Option.toList_some]

/-- The count of Invalidate Requests is no part of a context. -/
theorem State.pasidCtxs_bump (n : Nat) : (s.bump R.XLT_ATS_INV 0 [] n).pasidCtxs fn pasid = s.pasidCtxs fn pasid := by
  have hread : ∀ p c, (s.bump R.XLT_ATS_INV 0 [] n).rd R.XLT_CTX_CFG_PASID 0 [p, c] = s.rd R.XLT_CTX_CFG_PASID 0 [p, c] := fun p c =>
    s.rd_bump_ne _ _ _ _ _ _ _ (by
      simp only [Fld.key, Fld.offset, strideSum, R.XLT_ATS_INV, R.XLT_CTX_CFG_PASID]
      omega)
  simp only [State.pasidCtxs, hread]
  rfl

variable {tag va size : Nat} (hfn : fn < 65)
include hfn

/-- With no context of its PASID an Invalidate Request is answered at once. -/
theorem exec_atsInvalidateRequest_none (h : s.pasidCtxs fn pasid = []) :
    exec (.atsInvalidateRequest fn tag pasid va size) s = .next (((s.bump R.XLT_ATS_INV 0 [] 1).send (.hostMsg 3 tag 0)).withQueue s.pending) := by
  have hnone : ((s.bump R.XLT_ATS_INV 0 [] 1).pasidCtxs fn pasid).isEmpty = true := by rw [State.pasidCtxs_bump, h, List.isEmpty_nil]
  refine (within_next s _ _ (decide_eq_true hfn)).trans ?_
  exact congrArg (fun u : State => Host.Outcome.next (u.withQueue s.pending)) (if_pos hnone)

/-- With one it starts an invalidation of the host half there. -/
theorem exec_atsInvalidateRequest_one {p c : Nat} (h : s.pasidCtxs fn pasid = [(p, c)]) :
    exec (.atsInvalidateRequest fn tag pasid va size) s =
      .next (((s.bump R.XLT_ATS_INV 0 [] 1).invalidate p c (2 ^ 47 + va % 2 ^ 47) size (.ats tag)).withQueue s.pending) := by
  have hone : (s.bump R.XLT_ATS_INV 0 [] 1).pasidCtxs fn pasid = [(p, c)] := (State.pasidCtxs_bump 1).trans h
  have hsome : ¬ ((s.bump R.XLT_ATS_INV 0 [] 1).pasidCtxs fn pasid).isEmpty = true := by simp [hone]
  refine (within_next s _ _ (decide_eq_true hfn)).trans ?_
  refine congrArg (fun u : State => Host.Outcome.next (u.withQueue s.pending)) ((if_neg hsome).trans ?_)
  change (s.bump R.XLT_ATS_INV 0 [] 1).each ((s.bump R.XLT_ATS_INV 0 [] 1).pasidCtxs fn pasid) _ = _
  rw [hone]
  rfl

end Request

/-! ### An invalidation (R311, R312) -/

section Invalidation
variable {s : State} {id : Nat} {v : Inval} (hfind : s.invals.find? (fun v => v.id == id) = some v)
include hfind

theorem exec_invalidationComplete_done (hdone : s.invalDone v = true) : exec (.invalidationComplete id) s = .next ((s.finishInval v).withQueue s.pending) := by
  refine (within_next s _ true rfl).trans ?_
  simp only [hfind, hdone, if_true]

/-- It does not complete while something of an older epoch is left or a bay has not answered. -/
theorem exec_invalidationComplete_drains (hdrains : s.invalDone v = false) : exec (.invalidationComplete id) s = .next s := by
  refine (within_next s _ true rfl).trans ?_
  simp only [hfind, hdrains, Bool.false_eq_true, if_false, State.withQueue_self]

theorem exec_drainCut_cuts (hstarted : v.started = true) (hboundary : v.boundary = true) :
    exec (.drainCut id) s = .next ((s.cutInval v).withQueue s.pending) := by
  refine (within_next s _ true rfl).trans ?_
  simp only [hfind, hstarted, hboundary, Bool.and_self, if_true]

end Invalidation

/-! ### The start of an invalidation (R311) -/

/-- The counters of the Leash and of slotted flits stand apart from a context's epoch register. -/
theorem key_ctxEpoch_ne_leash {e f : Fld} {c m k : Nat} {ix : List Nat} (he : e = R.XLT_CTX_EPOCH_EPOCH ∨ e = R.XLT_CTX_EPOCH_DRAINS) (hc : c < 16)
    (hm : m < 137) (hk : k < 4) (hf : f = R.LSH_M_GUAR ∧ ix = [m, k] ∨ f = R.LSH_M_BE ∧ ix = [m, k] ∨ f = R.FLL_M_SLOTTED ∧ ix = [m]) (p d : Nat) :
    e.key 0 [p, c] ≠ f.key d ix := by
  rcases he with rfl | rfl <;> rcases hf with ⟨rfl, rfl⟩ | ⟨rfl, rfl⟩ | ⟨rfl, rfl⟩ <;>
    simp only [Fld.key, Fld.offset, strideSum, R.XLT_CTX_EPOCH_EPOCH, R.XLT_CTX_EPOCH_DRAINS, R.LSH_M_GUAR, R.LSH_M_BE, R.FLL_M_SLOTTED] <;> omega

/-- Two states agree on a context's epoch register, on the TLBs and on memory. -/
structure SameEpoch (p c : Nat) (s u : State) : Prop where
  epoch : u.rd R.XLT_CTX_EPOCH_EPOCH 0 [p, c] = s.rd R.XLT_CTX_EPOCH_EPOCH 0 [p, c]
  drains : u.rd R.XLT_CTX_EPOCH_DRAINS 0 [p, c] = s.rd R.XLT_CTX_EPOCH_DRAINS 0 [p, c]
  tlbs : u.tlbs = s.tlbs
  dram : u.dram = s.dram

namespace SameEpoch

variable {p c : Nat} {s t u : State}

/-- Registers, TLBs and memory are all it looks at. -/
theorem of_eq (hregs : u.regs = s.regs) (htlbs : u.tlbs = s.tlbs) (hdram : u.dram = s.dram) : SameEpoch p c s u :=
  ⟨by rw [State.rd, hregs, State.rd], by rw [State.rd, hregs, State.rd], htlbs, hdram⟩

theorem trans (h : SameEpoch p c s t) (k : SameEpoch p c t u) : SameEpoch p c s u :=
  ⟨k.epoch.trans h.epoch, k.drains.trans h.drains, k.tlbs.trans h.tlbs, k.dram.trans h.dram⟩

theorem after_eq (h : SameEpoch p c t u) (hregs : t.regs = s.regs) (htlbs : t.tlbs = s.tlbs) (hdram : t.dram = s.dram) : SameEpoch p c s u :=
  (of_eq hregs htlbs hdram).trans h

theorem wr {f : Fld} {d : Nat} {ix : List Nat} (hepoch : R.XLT_CTX_EPOCH_EPOCH.key 0 [p, c] ≠ f.key d ix)
    (hdrains : R.XLT_CTX_EPOCH_DRAINS.key 0 [p, c] ≠ f.key d ix) (s : State) (n : Nat) : SameEpoch p c s (s.wr f d ix n) :=
  ⟨s.rd_wr_ne _ _ _ _ _ _ _ hepoch, s.rd_wr_ne _ _ _ _ _ _ _ hdrains, rfl, rfl⟩

/-- Steps over a list each of whose elements keeps them. -/
theorem each {α : Type} {l : List α} {f : State → α → State} (hf : ∀ a ∈ l, ∀ s, SameEpoch p c s (f s a)) (s : State) :
    SameEpoch p c s (s.each l f) :=
  List.foldlRecOn l f (of_eq rfl rfl rfl) (fun _ ht a ha => ht.trans (hf a ha _))

/-- A message to a bay is only sent. -/
theorem bwSend (s : State) (b op tag gen part ctx epoch arg0 arg1 : Nat) (data : List Byte) :
    SameEpoch p c s (s.bwSend b op tag gen part ctx epoch arg0 arg1 data) := by
  unfold State.bwSend
  dsimp only
  split <;> exact of_eq rfl rfl rfl

section Leash
variable (hc : c < 16) {q : Req} (hm : q.mport < 137) (hk : q.cls < 4)
include hc hm hk

theorem wr_leash {f : Fld} {ix : List Nat}
    (hf : f = R.LSH_M_GUAR ∧ ix = [q.mport, q.cls] ∨ f = R.LSH_M_BE ∧ ix = [q.mport, q.cls] ∨ f = R.FLL_M_SLOTTED ∧ ix = [q.mport])
    (s : State) (n : Nat) : SameEpoch p c s (s.wr f q.die ix n) :=
  wr (key_ctxEpoch_ne_leash (.inl rfl) hc hm hk hf p q.die) (key_ctxEpoch_ne_leash (.inr rfl) hc hm hk hf p q.die) s n

theorem fabricTake (s : State) (links : List Nat) (n : Nat) (own : Bool) : SameEpoch p c s (s.fabricTake q.die q.mport links n own) := by
  obtain ⟨a, b, h | ⟨v, h⟩⟩ := s.fabricTake_cases q.die q.mport links n own
  · exact h ▸ of_eq rfl rfl rfl
  · rw [h]
    exact (wr_leash hc hm hk (.inr (.inr ⟨rfl, rfl⟩)) _ v).after_eq rfl rfl rfl

/-- A request that leaves the Leash is counted there. -/
theorem goes (s : State) (g : Bool) : SameEpoch p c s (s.goes q g) := by
  refine trans ?_ (fabricTake hc hm hk _ _ _ _)
  cases g
  case false => exact wr_leash hc hm hk (.inr (.inl ⟨rfl, rfl⟩)) s _
  case true => exact (wr_leash hc hm hk (.inl ⟨rfl, rfl⟩) _ _).after_eq rfl rfl rfl

theorem leave (s : State) (g : Bool) : SameEpoch p c s (s.leave q g) := by
  unfold State.leave
  exact (goes hc hm hk _ g).after_eq rfl rfl rfl

end Leash

end SameEpoch

/-- The context's epoch rises and one drain more is counted. -/
def State.raiseEpoch (s : State) (p c : Nat) : State :=
  let s := s.roll R.XLT_CTX_EPOCH_EPOCH 0 [p, c] 1
  s.wr R.XLT_CTX_EPOCH_DRAINS 0 [p, c] (s.rd R.XLT_CTX_EPOCH_DRAINS 0 [p, c] + 1)

section RaiseEpoch
variable (s : State) (p c : Nat)

theorem key_epoch_ne_drains : R.XLT_CTX_EPOCH_EPOCH.key 0 [p, c] ≠ R.XLT_CTX_EPOCH_DRAINS.key 0 [p, c] := by
  simp only [Fld.key, Fld.offset, strideSum, R.XLT_CTX_EPOCH_EPOCH, R.XLT_CTX_EPOCH_DRAINS]
  omega

theorem State.epoch_raiseEpoch : (s.raiseEpoch p c).epoch p c = (s.epoch p c + 1) % 16 :=
  (State.rd_wr_ne _ _ _ _ _ _ _ _ (key_epoch_ne_drains p c)).trans (s.rd_wr_same R.XLT_CTX_EPOCH_EPOCH 0 [p, c] _)

variable {s p c}

theorem State.drains_raiseEpoch (h : s.rd R.XLT_CTX_EPOCH_DRAINS 0 [p, c] < 8) :
    (s.raiseEpoch p c).rd R.XLT_CTX_EPOCH_DRAINS 0 [p, c] = s.rd R.XLT_CTX_EPOCH_DRAINS 0 [p, c] + 1 := by
  have hroll : (s.roll R.XLT_CTX_EPOCH_EPOCH 0 [p, c] 1).rd R.XLT_CTX_EPOCH_DRAINS 0 [p, c] = s.rd R.XLT_CTX_EPOCH_DRAINS 0 [p, c] :=
    s.rd_wr_ne _ _ _ _ _ _ _ (key_epoch_ne_drains p c).symm
  rw [State.raiseEpoch, State.rd_wr_same, hroll]
  exact Nat.mod_eq_of_lt (Nat.lt_of_lt_of_le (Nat.succ_lt_succ h) (by decide))

end RaiseEpoch

/-- Whether an invalidation covers an entry of a TLB. -/
def Inval.coversEntry (v : Inval) (e : TlbEntry) : Bool := e.part == v.part && e.ctx == v.ctx && overlaps e.va e.size v.va v.size

theorem Inval.coversEntry_eq_false {v : Inval} {e : TlbEntry} :
    v.coversEntry e = false ↔ ¬(e.part = v.part ∧ e.ctx = v.ctx ∧ overlaps e.va e.size v.va v.size = true) := by
  simp [Inval.coversEntry]

/-- The start of an invalidation as epoch and TLBs see it: the epoch has risen, and what it covers has left the TLBs (R311, steps 1 and 2). -/
def State.dropCovered (s : State) (v : Inval) : State :=
  { s.raiseEpoch v.part v.ctx with tlbs := s.tlbs.filter (fun x => !v.coversEntry x.2) }

theorem State.mem_tlbs_dropCovered {s : State} {v : Inval} {x : Nat × TlbEntry} :
    x ∈ (s.dropCovered v).tlbs ↔ x ∈ s.tlbs ∧ ¬(x.2.part = v.part ∧ x.2.ctx = v.ctx ∧ overlaps x.2.va x.2.size v.va v.size = true) := by
  rw [← Inval.coversEntry_eq_false, State.dropCovered, List.mem_filter, Bool.not_eq_true']

/-- The rest of the start, requests that leave the Leash and messages to the bays, changes none of these. -/
theorem State.startInval_same {s : State} {v : Inval} (hc : v.ctx < 16)
    (hheld : ∀ q ∈ s.reqs, q.part = v.part → q.ctx = v.ctx → q.stage = .held → q.mport < 137 ∧ q.cls < 4) :
    SameEpoch v.part v.ctx (s.dropCovered v) (s.startInval v) := by
  unfold State.startInval
  extract_lets p c s1 e s2 s3 mine s4 old s5 s6 bs s7
  have hdropped : SameEpoch v.part v.ctx (s.dropCovered v) s5 := .of_eq rfl rfl rfl
  have hleaves : SameEpoch v.part v.ctx s5 s6 := by
    refine .each (fun q hq u => ?_) s5
    have hplace : q.mport < 137 ∧ q.cls < 4 := by
      simp only [List.mem_filter, old, mine, Bool.and_eq_true, beq_iff_eq] at hq
      obtain ⟨⟨hreq, ⟨⟨⟨hpart, hctx⟩, -⟩, -⟩, -⟩, hstage⟩ := hq
      obtain ⟨r, hr, hrq⟩ := List.mem_map.1 hreq
      have hsame : q = { r with owner := q.owner } := by
        rw [← hrq]
        split <;> rfl
      rw [hsame] at hpart hctx hstage ⊢
      exact hheld r hr hpart hctx hstage
    exact .leave hc hplace.1 hplace.2 u _
  have hbays : SameEpoch v.part v.ctx s6 s7 := by
    refine .each (fun b _ u => ?_) s6
    split
    · exact .of_eq rfl rfl rfl
    · exact .bwSend u _ _ _ _ _ _ _ _ _ _
  exact hdropped.trans (hleaves.trans (hbays.trans (.of_eq rfl rfl rfl)))

/-- Settles O38: answers of the host, Invalidate Requests, and an invalidation's end, cut and start. -/
theorem addressServiceCommandsComplete : Obligations.AddressServiceCommandsComplete := by
  unfold Obligations.AddressServiceCommandsComplete
  refine ⟨⟨?completion, ?response, fun id ok s hnone => exec_prgResponse_late hnone ok, ?unbound, ?bound⟩,
    fun id v s hfind hdone => exec_invalidationComplete_done hfind hdone, fun id v s hfind hdrains => exec_invalidationComplete_drains hfind hdrains,
    fun id v s hfind hstarted hboundary => exec_drainCut_cuts hfind hstarted hboundary, ?start⟩
  case completion =>
    intro id size pa w m s hfind
    exact ⟨fun hclear hallows => exec_atsTranslationCompletion_fills hfind hclear hallows, fun ok r => exec_atsTranslationCompletion_late hfind ok r,
      fun ok r hmeets howned => exec_atsTranslationCompletion_covered hfind ok r hmeets howned,
      fun hclear howned hstage ok r hdenies => exec_atsTranslationCompletion_asks hfind hclear hdenies howned hstage,
      fun hclear hstage ok r hdenies => exec_atsTranslationCompletion_fails hfind hclear hdenies hstage⟩
  case response => exact fun id m s hfind howned => ⟨exec_prgResponse_answers hfind howned true, exec_prgResponse_answers hfind howned false⟩
  case unbound => exact fun fn tag pasid va size s hfn hnone => ⟨_, exec_atsInvalidateRequest_none hfn (State.pasidCtxs_none hnone), rfl, rfl⟩
  case bound => exact fun fn tag pasid va size p c s hfn hp hc hone => exec_atsInvalidateRequest_one hfn (State.pasidCtxs_one hp hc hone)
  case start =>
    intro v s _ hc hdrains hheld
    obtain ⟨hepoch, hcount, htlbs, hdram⟩ := State.startInval_same hc (fun q hq hpart hctx hstage => (hheld q hq hpart hctx hstage).2)
    refine ⟨hepoch.trans (s.epoch_raiseEpoch v.part v.ctx), hcount.trans (State.drains_raiseEpoch hdrains), fun x hx => ?_, fun x hx hclear => ?_, hdram⟩
    · exact State.mem_tlbs_dropCovered.1 (htlbs ▸ hx)
    · exact htlbs ▸ State.mem_tlbs_dropCovered.2 ⟨hx, hclear⟩

end Sys2Proof.Machine
end

section
/-! SUPPORT. Requests on their way to their home (R342, R371 to R373): each row reads what has arrived in the same way. -/

namespace Sys2Proof.Machine

/-- The rows of the requests of R343. -/
def requestRows : List ((Arrival → Nat → List Ecc → Instr) × ReqOp) :=
  [(Instr.rdCur, ReqOp.rdCur), (Instr.rdShared, ReqOp.rdShared), (Instr.rdOwn, ReqOp.rdOwn), (Instr.upgrade, ReqOp.upgrade),
    (Instr.wbDirty, ReqOp.wbDirty), (Instr.evictClean, ReqOp.evictClean), (Instr.wrInv, ReqOp.wrInv), (Instr.wrPlace, ReqOp.wrPlace),
    (Instr.atomic, ReqOp.atomic)]

theorem exec_of_mem_requestRows {x : (Arrival → Nat → List Ecc → Instr) × ReqOp} (hx : x ∈ requestRows) (a : Arrival) (dt : Nat) (ecc : List Ecc)
    (s : State) : exec (x.1 a dt ecc) s = .next ((s.homeRow x.2 a dt ecc).withQueue s.pending) := by
  simp only [requestRows, List.mem_cons, List.not_mem_nil, or_false] at hx
  rcases hx with rfl | rfl | rfl | rfl | rfl | rfl | rfl | rfl | rfl <;> rfl

theorem opcodeDefined_code (op : ReqOp) : opcodeDefined op.code = true := by
  cases op <;> decide

theorem ReqOp.code_inj {o p : ReqOp} : o.code = p.code ↔ o = p := by
  cases o <;> cases p <;> decide

/-- A request word that makes its stream a protocol error (R324, R350, R371, R372, R379). -/
def State.badRequest (s : State) (b : Nat) (f : ReqFlit) : Bool :=
  nodeOf f.dest == .reserved || nodeOf f.src == .reserved || !opcodeDefined f.opcode ||
    (s.bayRd R.BAY_STATUS_PROTO b == 1 && (f.opcode == ReqOp.code .wrPlace || f.opcode == ReqOp.code .atomic))

theorem State.badRequest_iff (s : State) (b : Nat) (f : ReqFlit) : s.badRequest b f = true ↔
    nodeOf f.dest = .reserved ∨ nodeOf f.src = .reserved ∨ opcodeDefined f.opcode = false ∨
      (s.bayRd R.BAY_STATUS_PROTO b = 1 ∧ (f.opcode = ReqOp.code .wrPlace ∨ f.opcode = ReqOp.code .atomic)) := by
  simp [State.badRequest, or_assoc]

/-- A request between defined nodes is good: in UCIe mode any of R343, in CXL mode those of R372. -/
theorem State.badRequest_of_op {s : State} {b : Nat} {f : ReqFlit} {op : ReqOp} (hop : f.opcode = op.code) (hdest : nodeOf f.dest ≠ .reserved)
    (hsrc : nodeOf f.src ≠ .reserved) (hcxl : ¬(s.bayRd R.BAY_STATUS_PROTO b = 1 ∧ (op = .wrPlace ∨ op = .atomic))) : s.badRequest b f = false := by
  rw [← Bool.not_eq_true, State.badRequest_iff, hop, opcodeDefined_code, ReqOp.code_inj, ReqOp.code_inj]
  simp [hdest, hsrc, hcxl]

section
variable {s : State} (op : ReqOp) (dt : Nat) (ecc : List Ecc)

/-- A request that no earlier one of its master port stands before arrives (R335, R342). -/
theorem State.homeRow_req {rid : Nat} {r : Req} (hr : s.req? rid = some r) (hstage : r.stage = .sent) (hop : r.op = op) (hfirst : s.overtakes r = false) :
    s.homeRow op (.req rid) dt ecc = (s.at_ dt).homeArrive rid ecc := by
  simp [State.homeRow, hr, hstage, hop, hfirst]

/-- A bay whose port takes nothing from it sends nothing (R384, R385). -/
theorem State.homeRow_bay_dead {b : Nat} (hdead : s.bayLive b = false) (stream : List Nat) : s.homeRow op (.bay b stream) dt ecc = s := by
  simp [State.homeRow, hdead]

/-- A stream with a request word is a protocol error, or the request of its opcode, or another row's. -/
theorem State.homeRow_bay {b k word : Nat} {stream : List Nat} {items : List (Nat × Nat)} (hb : b < 8) (hlive : s.bayLive b = true)
    (hitems : bayItems stream.length stream = some items) (hword : items.find? (fun y => y.1 == 0xA0) = some (k, word)) :
    s.homeRow op (.bay b stream) dt ecc =
      if s.badRequest b (reqFlit word) then
        (s.at_ dt).takeDown (s.island (b / 2)) 2 (reqFlit word).src ((reqFlit word).granule * 4 + (maskList (reqFlit word).smask).headD 0 / 2) (b / 2)
      else if (reqFlit word).opcode == op.code then (s.at_ dt).bayRequest op b word ((items.filter (fun y => y.1 == 0xA3)).map (·.2)) ecc
      else s := by
  have hport : ¬(decide (8 ≤ b) || !s.bayLive b) = true := by simp [hlive, hb]
  simp only [State.homeRow, if_neg hport, hitems, hword]
  rfl

end

/-- Settles O28: every row reads its arrival by `homeRow`, and a stream is judged by its request word. -/
theorem requestCommandsComplete : Obligations.RequestCommandsComplete := by
  unfold Obligations.RequestCommandsComplete
  intro x hx
  refine ⟨?sent, ?stream, ?protocol, ?dead⟩
  case sent =>
    intro rid dt ecc r s hr hstage hop hfirst
    rw [exec_of_mem_requestRows hx, State.homeRow_req x.2 dt ecc hr hstage hop hfirst]
  case stream =>
    intro b k word dt stream items ecc s hb hlive hitems hword hop hdest hsrc hcxl
    rw [exec_of_mem_requestRows hx, State.homeRow_bay x.2 dt ecc hb hlive hitems hword, State.badRequest_of_op hop hdest hsrc hcxl]
    simp [hop]
  case protocol =>
    intro b k word dt stream items ecc s hb hlive hitems hword hbad
    rw [exec_of_mem_requestRows hx, State.homeRow_bay x.2 dt ecc hb hlive hitems hword, if_pos ((s.badRequest_iff b _).2 hbad)]
  case dead =>
    intro b dt stream ecc s hdead
    rw [exec_of_mem_requestRows hx, State.homeRow_bay_dead x.2 dt ecc hdead, State.withQueue_self]

end Sys2Proof.Machine
end

section
/-! SUPPORT. The directory (R341, R343): what its updates list for a line, and the one holder of an entry that is owned. -/

namespace Sys2Proof.Machine

section
variable (s : State) (l : Nat) (owned : Bool) (bays : List Nat)

/-- Setting a line's entry touches no other line's. -/
theorem State.look_setDir_ne {m : Nat} (h : m ≠ l) : SMap.look (s.setDir l owned bays).dirs m = SMap.look s.dirs m := by
  unfold State.setDir
  split
  · exact SMap.look_del_ne _ h
  · split <;> exact SMap.look_ins_ne _ _ h

/-- A line with no holder left has no entry (R341). -/
theorem State.look_setDir_nil : SMap.look (s.setDir l owned []).dirs l = none := by
  simp [State.setDir, SMap.look_del_same]

/-- A new entry is the last allocated. -/
theorem State.look_setDir_new (hbays : bays ≠ []) (hnone : SMap.look s.dirs l = none) :
    SMap.look (s.setDir l owned bays).dirs l = some ⟨owned, bays, s.dirOrder⟩ := by
  simp [State.setDir, hbays, hnone, SMap.look_ins_same]

/-- An entry that is set shows its owner and holders, whether it is new or not. -/
theorem State.look_setDir_same (hbays : bays ≠ []) : ∃ o, SMap.look (s.setDir l owned bays).dirs l = some ⟨owned, bays, o⟩ := by
  cases hlook : SMap.look s.dirs l with
  | none => exact ⟨_, s.look_setDir_new l owned bays hbays hlook⟩
  | some e => exact ⟨e.order, by simp [State.setDir, hbays, hlook, SMap.look_ins_same]⟩

end

/-- Every entry that is owned has one holder (R341). -/
def State.OwnersAlone (s : State) : Prop := ∀ l e, SMap.look s.dirs l = some e → e.owned = true → e.bays.length = 1

section
variable {s : State} (h : s.OwnersAlone)
include h

theorem State.OwnersAlone.setDir (l : Nat) (owned : Bool) (bays : List Nat) (hone : owned = true → bays.length ≤ 1) : (s.setDir l owned bays).OwnersAlone := by
  intro m e hm howned
  by_cases hml : m = l
  · subst hml
    by_cases hbays : bays = []
    · subst hbays
      rw [s.look_setDir_nil] at hm
      cases hm
    · obtain ⟨o, ho⟩ := s.look_setDir_same m owned bays hbays
      obtain rfl := Option.some.inj (ho.symm.trans hm)
      exact Nat.le_antisymm (hone howned) (List.length_pos_of_ne_nil hbays)
  · rw [s.look_setDir_ne l owned bays hml] at hm
    exact h m e hm howned

/-- An owner that drops its line leaves no entry. -/
theorem State.OwnersAlone.dirDrop (l b : Nat) : (s.dirDrop l b).OwnersAlone := by
  unfold State.dirDrop
  split
  · next e he => exact h.setDir l e.owned _ (fun howned => (List.length_filter_le _ _).trans_eq (h l e he howned))
  · exact h

end

/-- What a request that succeeds does to the directory (R343): nothing, the sender drops its line, or the line's entry is set, to a requester that
holds it alone if it is owned. -/
theorem State.dirAfter_cases (s : State) (r : Req) : s.dirAfter r = s ∨ s.dirAfter r = s.dirDrop (r.dpa / 64) r.bay ∨
    ∃ owned bays, (owned = true → bays.length ≤ 1) ∧ s.dirAfter r = s.setDir (r.dpa / 64) owned bays := by
  unfold State.dirAfter
  extract_lets l b
  split
  · exact .inr (.inr ⟨_, [b], fun _ => Nat.le_refl 1, rfl⟩)
  · split
    · exact .inl rfl
    · exact .inr (.inr ⟨false, _, nofun, rfl⟩)
  · exact .inr (.inr ⟨true, [b], fun _ => Nat.le_refl 1, rfl⟩)
  · exact .inr (.inr ⟨true, [b], fun _ => Nat.le_refl 1, rfl⟩)
  · exact .inr (.inl rfl)
  · exact .inl rfl

theorem State.OwnersAlone.dirAfter {s : State} (h : s.OwnersAlone) (r : Req) : (s.dirAfter r).OwnersAlone := by
  obtain hsame | hdrop | ⟨owned, bays, hone, hset⟩ := s.dirAfter_cases r
  · rw [hsame]
    exact h
  · rw [hdrop]
    exact h.dirDrop _ _
  · rw [hset]
    exact h.setDir _ _ _ hone

section
variable {s : State} {r : Req}

theorem State.dirAfter_owns (hop : r.op = .rdOwn ∨ r.op = .upgrade) : s.dirAfter r = s.setDir (r.dpa / 64) true [r.bay] := by
  rcases hop with hop | hop <;> simp [State.dirAfter, hop]

theorem State.dirAfter_rdShared_none (hop : r.op = .rdShared) (hnone : SMap.look s.dirs (r.dpa / 64) = none) :
    s.dirAfter r = s.setDir (r.dpa / 64) (r.rsps == []) [r.bay] := by
  simp [State.dirAfter, hop, hnone]

theorem State.dirAfter_rdShared_held {e : DirEntry} (hop : r.op = .rdShared) (hlook : SMap.look s.dirs (r.dpa / 64) = some e) (howned : e.owned = false) :
    s.dirAfter r = s.setDir (r.dpa / 64) false (e.bays.filter (· != r.bay) ++ [r.bay]) := by
  simp [State.dirAfter, hop, hlook, howned]

end

/-- Settles O30: each request that changes the directory sets one entry or drops one holder, and both keep owners alone. -/
theorem directoryFollowsRequests : Obligations.DirectoryFollowsRequests := by
  unfold Obligations.DirectoryFollowsRequests
  refine ⟨?owns, ?first, ?joins, fun r s h => State.OwnersAlone.dirAfter h r⟩
  case owns =>
    intro r s hop
    rw [State.dirAfter_owns hop]
    exact s.look_setDir_same _ true [r.bay] (List.cons_ne_nil _ _)
  case first =>
    intro r s hop hnone hrsps
    rw [State.dirAfter_rdShared_none hop hnone, hrsps]
    exact s.look_setDir_new _ true [r.bay] (List.cons_ne_nil _ _) hnone
  case joins =>
    intro r s e hop hlook howned
    rw [State.dirAfter_rdShared_held hop hlook howned]
    obtain ⟨o, ho⟩ := s.look_setDir_same (r.dpa / 64) false (e.bays.filter (· != r.bay) ++ [r.bay]) (by simp)
    refine ⟨_, ho, rfl, by simp, fun b hb => ?_⟩
    by_cases hself : b = r.bay
    · simp [hself]
    · simp [hb, hself]

end Sys2Proof.Machine
end

section
/-! SUPPORT. Snoops and their answers (R343, R344, R346, R347), and the answers to requests (R326, R329, R335). -/

namespace Sys2Proof.Machine

/-! ### A bay answers a snoop -/

/-- An answer is given to the snoops of a tag; only M comes with data (R344). -/
def State.snoopAnswered (s : State) (tag answer : Nat) (data : List Byte) : State :=
  { s with snoops := s.snoops.map (fun (x : Snoop) =>
      if x.tag == tag then { x with answer := some answer, data := if answer = 2 then padTo 64 data else x.data } else x) }

theorem State.snoopAnswered_data (s : State) (tag : Nat) {answer : Nat} (h : answer ≠ 2) (data : List Byte) :
    s.snoopAnswered tag answer data = s.snoopAnswered tag answer [] := by
  simp only [State.snoopAnswered, if_neg h]

/-- What a bay holds is its answer to SNP_CUR and SNP_SHARE: nothing, E or S, or M (R344). -/
theorem holds_answer (holds : Nat) : (if holds = 0 then 0 else if holds = 1 then 1 else 2) = min 2 holds := by
  split_ifs <;> omega

/-- SNP_INV asks only whether the bay holds M (R344). -/
theorem holds_answer_inv (holds : Nat) : (if holds = 2 ∨ 2 < holds then 2 else 0) = if 2 ≤ holds then 2 else 0 :=
  if_congr (by omega) rfl rfl

/-- Of the snoops with one tag only one awaits an answer, so its operation does not matter to the search for it. -/
theorem find_snoop_op {l : List Snoop} {tag : Nat} {n : Snoop} {op : SnpOp} (hfind : l.find? (fun (x : Snoop) => x.tag == tag && x.answer.isNone) = some n)
    (honly : l.filter (fun (x : Snoop) => x.tag == tag) = [n]) (hop : n.op = op) :
    l.find? (fun (x : Snoop) => x.tag == tag && x.op == op && x.answer.isNone) = some n := by
  have hopen : n.answer.isNone = true := (Bool.and_eq_true _ _ ▸ List.find?_some hfind).2
  have hsplit : l.find? (fun (x : Snoop) => x.tag == tag && x.op == op && x.answer.isNone) =
      (l.filter (fun (x : Snoop) => x.tag == tag)).find? (fun (x : Snoop) => x.op == op && x.answer.isNone) := by
    rw [List.find?_filter]
    simp only [Bool.and_assoc, Bool.decide_and, Bool.decide_eq_true]
  rw [hsplit, honly]
  simp [hop, hopen]

section
variable {s : State} {tag : Nat} {n : Snoop}
  (hfind : s.snoops.find? (fun (x : Snoop) => x.tag == tag && x.answer.isNone) = some n)
  (honly : s.snoops.filter (fun (x : Snoop) => x.tag == tag) = [n]) (hlive : s.bayLive n.bay = true) (hgen : n.bgen = s.bayRd R.BAY_STATUS_BGEN n.bay)
include hfind honly hlive hgen

theorem State.bayAnswers_of_live {op : SnpOp} (hop : n.op = op) (answer : Nat) (data : List Byte) :
    s.bayAnswers op tag answer data = s.snoopAnswered tag answer data := by
  unfold State.bayAnswers
  rw [find_snoop_op hfind honly hop]
  simp [hlive, hgen, State.snoopAnswered]

/-- A snoop's row gives its answer to the snoop it is for. -/
theorem within_bayAnswers {op : SnpOp} (hop : n.op = op) {answer answer' : Nat} (hanswer : answer = answer') (data : List Byte) :
    within s true (s.bayAnswers op tag answer data) = .next (s.snoopAnswered tag answer' data) := by
  rw [State.bayAnswers_of_live hfind honly hlive hgen hop, hanswer]
  rfl

end

/-! ### The home acts on an answer -/

/-- The rows of the answers to a snoop, with what each says. -/
def snoopRows : List ((Nat → Nat → Instr) × Nat) := [(Instr.rspI, 0), (Instr.rspS, 1), (Instr.rspData, 2)]

theorem exec_of_mem_snoopRows {x : (Nat → Nat → Instr) × Nat} (hx : x ∈ snoopRows) (tag dt : Nat) (s : State) :
    exec (x.1 tag dt) s = .next ((s.rspRow x.2 tag dt).withQueue s.pending) := by
  simp only [snoopRows, List.mem_cons, List.not_mem_nil, or_false] at hx
  rcases hx with rfl | rfl | rfl <;> rfl

/-- An answer is acted on, unless it comes from an earlier admission of its bay (R329). -/
theorem State.rspRow_eq {s : State} {tag ans : Nat} {n : Snoop} (hfind : s.snoops.find? (fun (x : Snoop) => x.tag == tag && x.answer == some ans) = some n)
    (dt : Nat) : s.rspRow ans tag dt = if n.bgen = s.bayRd R.BAY_STATUS_BGEN n.bay then (s.at_ dt).snoopOver n ans else (s.at_ dt).rspDrop n := by
  simp [State.rspRow, hfind, State.rspStale]

section
variable {s : State} {tag : Nat} {n : Snoop} {q loc : Nat} (dt : Nat) (hgen : n.bgen = s.bayRd R.BAY_STATUS_BGEN n.bay)
  (hdecode : s.decode (n.line * 64) = some (q, loc))
include hgen hdecode

/-- An accepted push is counted, and the bay holds the line (R347). -/
theorem State.pushOver_accepted (hfind : s.snoops.find? (fun (x : Snoop) => x.tag == tag && x.answer == some 3) = some n) :
    s.pushOver tag dt true = ((({ s.at_ dt with snoops := s.snoops.filter (fun (x : Snoop) => x.tag != tag) } : State).bump R.COH_PUSH_ACK (qDie q) [] 1).setDir
      n.line false [n.bay]).pumpHome := by
  simp [State.pushOver, hfind, State.rspStale, hgen, hdecode, State.at_]

/-- A declined push is counted (R347). -/
theorem State.pushOver_declined (hfind : s.snoops.find? (fun (x : Snoop) => x.tag == tag && x.answer == some 4) = some n) :
    s.pushOver tag dt false = (({ s.at_ dt with snoops := s.snoops.filter (fun (x : Snoop) => x.tag != tag) } : State).bump R.COH_PUSH_DROP (qDie q) [] 1
      ).pumpHome := by
  simp [State.pushOver, hfind, State.rspStale, hgen, hdecode, State.at_]

end

/-! ### An answer reaches its requester -/

/-- The rows of the answers to requests, with the answer each delivers. -/
def answerRows : List ((Nat → Instr) × Nat) :=
  [(Instr.rdData, 0), (Instr.wrAck, 1), (Instr.grantE, 2), (Instr.grantS, 3), (Instr.grantUpg, 4), (Instr.wbAck, 5), (Instr.atomicData, 6)]

theorem exec_of_mem_answerRows {x : (Nat → Instr) × Nat} (hx : x ∈ answerRows) (rid : Nat) (s : State) :
    exec (x.1 rid) s = .next ((s.deliver rid x.2).withQueue s.pending) := by
  simp only [answerRows, List.mem_cons, List.not_mem_nil, or_false] at hx
  rcases hx with rfl | rfl | rfl | rfl | rfl | rfl | rfl <;> rfl

section
variable {s : State} {rid ans : Nat} {r : Req} (hfind : s.reqs.find? (fun (x : Req) => x.rid == rid && x.stage == .answered && x.ans == ans) = some r)
  (hfirst : s.answeredBefore r = false)
include hfind hfirst

section
variable (hgen : r.gen = s.ownerGen r)
include hgen

theorem State.deliver_xfer {xid : Nat} (howner : r.owner = .xfer xid) : s.deliver rid ans = (s.dropReq rid).deliverXfer r xid := by
  simp only [State.deliver, hfind, hfirst, hgen, howner, bne_self_eq_false, Bool.false_eq_true, if_false]

theorem State.deliver_bay {b tag : Nat} (howner : r.owner = .bay b tag) (hlive : s.bayLive b = true) :
    s.deliver rid ans = (s.dropReq rid).bayAnswer b r.ans (portNode (qPort r.q)) tag r.slot (min 3 r.status) r.gen
      (if r.answer = [] then 0 else touchedM r.mask) r.spread := by
  have hkept : (s.dropReq rid).bayLive b = true := hlive
  simp only [State.deliver, hfind, hfirst, ← hgen, howner, hkept, bne_self_eq_false, Bool.false_eq_true, if_false, if_true]

theorem State.deliver_agent (howner : r.owner = .agent) (hparked : s.parked = []) :
    s.deliver rid ans = s.updReq rid (fun r => { r with stage := .here }) := by
  simp [State.deliver, hfind, hfirst, hgen, howner, State.updReq, hparked]

theorem State.deliver_post {b : PostBy} (howner : r.owner = .post b) :
    s.deliver rid ans = if r.status = 0 then s.dropReq rid else (s.dropReq rid).putFailed b := by
  simp only [State.deliver, hfind, hfirst, hgen, howner, bne_self_eq_false, Bool.false_eq_true, if_false]

end

/-- An answer to a request of an earlier generation is discarded and counted (R329); a ZERO that waited for it has failed. -/
theorem State.deliver_stale (hgen : r.gen ≠ s.ownerGen r) : s.deliver rid ans = (s.dropReq rid).bump R.FLL_DISCARDS r.die [] 1 ∨
    ∃ p, r.owner = .post (.zero p) ∧ s.deliver rid ans = ((s.dropReq rid).bump R.FLL_DISCARDS r.die [] 1).wr R.PAR_STATUS_ZERO_FAIL 0 [p] 1 := by
  have hstale : (r.gen != s.ownerGen r) = true := bne_iff_ne.2 hgen
  simp only [State.deliver, hfind, hfirst, hstale, Bool.false_eq_true, if_false, if_true]
  split
  next p howner => exact .inr ⟨p, howner, rfl⟩
  next => exact .inl rfl

theorem State.deliver_stale_counts (hgen : r.gen ≠ s.ownerGen r) (hzero : ∀ p, r.owner = .post (.zero p) → p < 64) :
    (s.deliver rid ans).rd R.FLL_DISCARDS r.die = min (2 ^ 64 - 1) (s.rd R.FLL_DISCARDS r.die + 1) ∧ (s.deliver rid ans).tiles = s.tiles ∧
      (s.deliver rid ans).out = s.out := by
  have hcount : ((s.dropReq rid).bump R.FLL_DISCARDS r.die [] 1).rd R.FLL_DISCARDS r.die = min (2 ^ 64 - 1) (s.rd R.FLL_DISCARDS r.die + 1) :=
    (s.dropReq rid).rd_bump_same _ _ _ _
  obtain hplain | ⟨p, howner, hfailed⟩ := State.deliver_stale hfind hfirst hgen
  · rw [hplain]
    exact ⟨hcount, rfl, rfl⟩
  · have hp : p < 64 := hzero p howner
    have hkey : R.FLL_DISCARDS.key r.die [] ≠ R.PAR_STATUS_ZERO_FAIL.key 0 [p] := by
      simp only [Fld.key, Fld.offset, strideSum, R.FLL_DISCARDS, R.PAR_STATUS_ZERO_FAIL]
      omega
    rw [hfailed]
    exact ⟨(State.rd_wr_ne _ _ _ _ _ _ _ _ hkey).trans hcount, rfl, rfl⟩

end

/-! ### The bytes of a tile's transfer -/

/-- Bytes for tile memory are written there, unless a hazard has spoiled the command they are for (R55). -/
theorem State.tile_land {s : State} {x : Xfer} (hspace : x.space = .tm) (hclean : ∀ c ∈ (s.tile x.tile).cmds, ¬(c.seq = x.seq ∧ c.spoiled = true))
    (bs : List Byte) (off : Nat) : (s.land x bs off).tile x.tile = (s.tile x.tile).putTm off bs := by
  have hspoiled : ((s.tile x.tile).cmds.any (fun (c : TCmd) => c.seq == x.seq && c.spoiled)) = false := by
    simpa using hclean
  simp [State.land, hspoiled, hspace]

theorem State.tile_deliverXfer {s : State} {r : Req} {xid : Nat} {x : Xfer} (hfind : s.xfers.find? (fun (x : Xfer) => x.id == xid) = some x)
    (hunit : s.unitOfTile x.tile = some r.uid) (hgoing : x.faulted = false) (hok : r.status = 0) (hread : x.write = false) (hspace : x.space = .tm)
    (hclean : ∀ c ∈ (s.tile x.tile).cmds, ¬(c.seq = x.seq ∧ c.spoiled = true)) :
    (s.deliverXfer r xid).tile x.tile = (s.tile x.tile).putTm r.off r.seqBytes := by
  have hland : ∀ l, ({ s with xfers := l } : State).unitOfTile x.tile = some r.uid := fun _ => hunit
  unfold State.deliverXfer
  simp only [hfind, hland, hgoing, hok, hread, beq_self_eq_true, Bool.not_true, Bool.false_eq_true, if_false]
  refine State.tile_land hspace ?_ _ _
  exact hclean

/-- Settles O31: snoops are answered from what a bay holds, the home acts on each answer, and the answer to a request goes to its owner. -/
theorem snoopAndAnswerCommandsComplete : Obligations.SnoopAndAnswerCommandsComplete := by
  unfold Obligations.SnoopAndAnswerCommandsComplete
  refine ⟨⟨?snoops, ?responses, ?accepted, ?declined⟩, ?answers, ?bytes⟩
  case snoops =>
    intro tag holds accept data n s hfind honly hlive hgen
    have hpush : (if accept then 3 else 4) ≠ 2 := by cases accept <;> decide
    exact ⟨fun hop => within_bayAnswers hfind honly hlive hgen hop (holds_answer holds) data,
      fun hop => within_bayAnswers hfind honly hlive hgen hop (holds_answer holds) data,
      fun hop => within_bayAnswers hfind honly hlive hgen hop (holds_answer_inv holds) data,
      fun hop => (within_bayAnswers hfind honly hlive hgen hop rfl []).trans (congrArg _ (s.snoopAnswered_data tag hpush data).symm)⟩
  case responses =>
    intro x hx tag dt n s hfind
    rw [exec_of_mem_snoopRows hx, State.rspRow_eq hfind]
    exact ⟨fun hgen => by rw [if_pos hgen], fun hgen => by rw [if_neg hgen]⟩
  case accepted =>
    intro tag dt n s q loc hfind hgen hdecode
    exact congrArg (fun t : State => Host.Outcome.next (t.withQueue s.pending)) (State.pushOver_accepted dt hgen hdecode hfind)
  case declined =>
    intro tag dt n s q loc hfind hgen hdecode
    exact congrArg (fun t : State => Host.Outcome.next (t.withQueue s.pending)) (State.pushOver_declined dt hgen hdecode hfind)
  case answers =>
    intro x hx rid r s hfind hfirst
    rw [exec_of_mem_answerRows hx]
    refine ⟨fun hgen xid howner => ?_, fun hgen b tag howner hlive => ?_, fun hgen howner hparked => ?_, fun hgen b howner hok => ?_,
      fun hgen b howner hfailed => ?_, fun hgen _ hzero => ⟨_, rfl, State.deliver_stale_counts hfind hfirst hgen hzero⟩⟩
    · rw [State.deliver_xfer hfind hfirst hgen howner]
    · rw [State.deliver_bay hfind hfirst hgen howner hlive]
    · rw [State.deliver_agent hfind hfirst hgen howner hparked]
      rfl
    · rw [State.deliver_post hfind hfirst hgen howner, if_pos hok]
      rfl
    · rw [State.deliver_post hfind hfirst hgen howner, if_neg hfailed]
  case bytes =>
    intro r xid x s hfind hunit hgoing hok hread hspace hclean
    exact State.tile_deliverXfer hfind hunit hgoing hok hread hspace hclean

end Sys2Proof.Machine
end

section
/-! SUPPORT. Islands that go down and come back (R350 to R353), and the requests lost on the way. -/

namespace Sys2Proof.Machine

/-! ### Causes -/

theorem exec_snoopTimeout {s : State} {tag q loc : Nat} {n : Snoop} (hfind : s.snoops.find? (fun (x : Snoop) => x.tag == tag) = some n)
    (hdecode : s.decode (n.line * 64) = some (q, loc)) : exec (.snoopTimeout tag) s = .next
      (({ s with snoops := s.snoops.map (fun (x : Snoop) => if x.tag == tag then { x with answer := some 5 } else x) } : State).takeDown
        (s.island (qDie q)) 1 (bayNode n.bay) n.line (qDie q)) := by
  refine (within_next s _ _ rfl).trans ?_
  simp only [hfind, hdecode]
  rfl

theorem exec_cohForceDown {s : State} {i : Nat} (hi : i < 4) (hdies : s.islDies i ≠ []) :
    exec (.cohForceDown i) s = .next (s.takeDown i 8 0 0 (s.recDie i)) := by
  refine (within_next s _ _ (by simp [hi])).trans ?_
  rw [if_neg hdies]
  rfl

/-! ### Requests on a lost flit -/

theorem State.req?_rid {s : State} {rid : Nat} {r : Req} (h : s.req? rid = some r) : r.rid = rid := by
  simpa using List.find?_some h

/-- An update of requests that keeps their numbers is what a lookup then finds. -/
theorem State.req?_updReq (s : State) (rid k : Nat) (f : Req → Req) (hf : ∀ r, (f r).rid = r.rid) :
    (s.updReq rid f).req? k = (s.req? k).map (fun r => if r.rid == rid then f r else r) := by
  have hkept : ∀ r : Req, (if r.rid == rid then f r else r).rid = r.rid := by
    intro r
    split
    · exact hf r
    · rfl
  simp only [State.req?, State.updReq, List.find?_map, Function.comp_def, hkept]

theorem State.req?_answer (s : State) (rid ans status : Nat) (data : List Byte) (k : Nat) : (s.answer rid ans status data).req? k =
    (s.req? k).map (fun r => if r.rid == rid then { r with stage := .answered, ans := ans, status := status, answer := data, seq := s.nextId } else r) :=
  s.req?_updReq rid k _ (fun _ => rfl)

/-- A request that was on a flit with a parity error is answered ISLAND_DOWN (R351). -/
def State.loseReq (s : State) (rid : Nat) : State :=
  match s.req? rid with
  | some r => if r.stage == Stage.sent then s.answer rid r.op.ans 2 [] else s
  | none => s

/-- Losing requests changes nothing but requests. -/
theorem State.loseReq_frame (s : State) (rid : Nat) : ∃ rs n, s.loseReq rid = { s with reqs := rs, nextId := n } := by
  unfold State.loseReq
  split
  · split
    · exact ⟨_, _, rfl⟩
    · exact ⟨s.reqs, s.nextId, rfl⟩
  · exact ⟨s.reqs, s.nextId, rfl⟩

theorem State.each_loseReq_frame (s : State) (lost : List Nat) : ∃ rs n, s.each lost State.loseReq = { s with reqs := rs, nextId := n } := by
  refine State.each_keeps (fun t => ∃ rs n, t = { s with reqs := rs, nextId := n }) _ (fun t rid ht => ?_) lost s ⟨s.reqs, s.nextId, rfl⟩
  obtain ⟨rs, n, rfl⟩ := ht
  exact State.loseReq_frame _ rid

/-- A request has ended with STATUS ISLAND_DOWN. -/
def State.EndedDown (s : State) (rid : Nat) : Prop := ∃ r, s.req? rid = some r ∧ r.stage = .answered ∧ r.status = 2

theorem State.req?_loseReq_ne (s : State) {rid k : Nat} (h : k ≠ rid) : (s.loseReq rid).req? k = s.req? k := by
  unfold State.loseReq
  split
  · split
    · rw [s.req?_answer]
      cases hk : s.req? k with
      | none => rfl
      | some r => simp [State.req?_rid hk, h]
    · rfl
  · rfl

theorem State.loseReq_sent {s : State} {rid : Nat} {r : Req} (hr : s.req? rid = some r) (hsent : r.stage = .sent) : (s.loseReq rid).EndedDown rid := by
  have hlost : s.loseReq rid = s.answer rid r.op.ans 2 [] := by simp [State.loseReq, hr, hsent]
  rw [hlost]
  exact ⟨_, by rw [s.req?_answer, hr, Option.map_some, if_pos (beq_iff_eq.2 (State.req?_rid hr))], rfl, rfl⟩

theorem State.EndedDown.loseReq {s : State} {k : Nat} (h : s.EndedDown k) (rid : Nat) : (s.loseReq rid).EndedDown k := by
  obtain ⟨r, hr, hstage, hstatus⟩ := h
  by_cases hk : k = rid
  · subst hk
    have hsame : s.loseReq k = s := by simp [State.loseReq, hr, hstage]
    rw [hsame]
    exact ⟨r, hr, hstage, hstatus⟩
  · exact ⟨r, (s.req?_loseReq_ne hk).trans hr, hstage, hstatus⟩

/-- Every lost request that was on its way ends, wherever it stands in the list. -/
theorem State.each_loseReq_ends {k : Nat} {r : Req} (hsent : r.stage = .sent) : ∀ (lost : List Nat) (s : State), s.req? k = some r → k ∈ lost →
    (s.each lost State.loseReq).EndedDown k
  | [], _, _, hk => absurd hk List.not_mem_nil
  | rid :: lost, s, hr, hk => by
    by_cases heq : k = rid
    · subst heq
      exact State.each_keeps (fun t => t.EndedDown k) _ (fun t a ht => ht.loseReq a) lost _ (State.loseReq_sent hr hsent)
    · exact State.each_loseReq_ends hsent lost (s.loseReq rid) ((s.req?_loseReq_ne heq).trans hr) (List.mem_of_ne_of_mem heq hk)

/-- A write away from the islands' registers leaves every die on its island. -/
theorem State.island_wr_off (s : State) (f : Fld) (e : Nat) (ix : List Nat) (v d : Nat) (hf : f.off islandKeys = true) :
    (s.wr f e ix v).island d = s.island d := by
  have hkept : ∀ g : Fld, g.key 0 [] ∈ islandKeys → (s.wr f e ix v).rd g 0 = s.rd g 0 := fun g hg => State.rd_of_held (s.held_wr_off hg f e ix v hf)
  simp only [State.island, hkept R.HUB_ISLAND_HD0_ISL (by decide), hkept R.HUB_ISLAND_HD1_ISL (by decide), hkept R.HUB_ISLAND_HD2_ISL (by decide),
    hkept R.HUB_ISLAND_HD3_ISL (by decide)]

theorem exec_flitParityError {s : State} {d : Nat} (hd : d < 4) (lost : List Nat) :
    ∃ rs n, exec (.flitParityError d lost) s = .next (({ s.wr R.FLL_EVENT_PARITY d [] 1 with reqs := rs, nextId := n } : State).takeDown
        (s.island d) 3 (dieNode d) 0 d) ∧
      (s.wr R.FLL_EVENT_PARITY d [] 1).each lost State.loseReq = { s.wr R.FLL_EVENT_PARITY d [] 1 with reqs := rs, nextId := n } := by
  obtain ⟨rs, n, hlost⟩ := (s.wr R.FLL_EVENT_PARITY d [] 1).each_loseReq_frame lost
  refine ⟨rs, n, ?_, hlost⟩
  have hisl : ({ s.wr R.FLL_EVENT_PARITY d [] 1 with reqs := rs, nextId := n } : State).island d = s.island d :=
    s.island_wr_off R.FLL_EVENT_PARITY d [] 1 d (by decide)
  refine (within_next s (((s.wr R.FLL_EVENT_PARITY d [] 1).each lost State.loseReq).takeDown
    (((s.wr R.FLL_EVENT_PARITY d [] 1).each lost State.loseReq).island d) 3 (dieNode d) 0 d) _ (by simp [hd])).trans ?_
  rw [hlost, hisl]
  rfl

/-! ### The island acts -/

theorem exec_islandDownNotice {s : State} {i : Nat} {x : Down} (hi : i < 4) (hfind : s.downs.find? (fun (x : Down) => x.island == i) = some x) :
    exec (.islandDownNotice i) s = .next ((if s.rd R.COH_ISL_STATE_STATE 0 [i] = 1 then State.downRecord { s with downs := s.downs.erase x } x
      else State.islandDown { s with downs := s.downs.erase x } x).withQueue s.pending) := by
  refine (within_next s _ _ (by simp [hi])).trans ?_
  rw [hfind]
  rfl

/-! ### Re-initialisation -/

theorem State.mem_islDies {s : State} {i d : Nat} : d ∈ s.islDies i ↔ d < 4 ∧ s.island d = i := by
  simp [State.islDies]

/-- A bay is to be admitted afresh (R353, R367). -/
def State.readmit (s : State) (b : Nat) : State := (s.bayWr R.BAY_STATUS_STATE b 1).bayWr R.BAY_STATUS_HEEL_CAUSE b 0

theorem key_bayState_ne_cause (b c : Nat) : R.BAY_STATUS_STATE.key (b / 2) [b % 2] ≠ R.BAY_STATUS_HEEL_CAUSE.key (c / 2) [c % 2] := by
  simp only [Fld.key, Fld.offset, strideSum, R.BAY_STATUS_STATE, R.BAY_STATUS_HEEL_CAUSE]
  omega

theorem key_bayState_ne {b c : Nat} (h : b ≠ c) : R.BAY_STATUS_STATE.key (b / 2) [b % 2] ≠ R.BAY_STATUS_STATE.key (c / 2) [c % 2] := by
  simp only [Fld.key, Fld.offset, strideSum, R.BAY_STATUS_STATE]
  omega

theorem State.bayState_readmit_same (s : State) (b : Nat) : (s.readmit b).bayRd R.BAY_STATUS_STATE b = 1 :=
  (State.rd_wr_ne _ _ _ _ _ _ _ _ (key_bayState_ne_cause b b)).trans (State.rd_wr_fits _ _ _ _ _ (by decide))

theorem State.bayState_readmit_ne (s : State) {b c : Nat} (h : b ≠ c) : (s.readmit c).bayRd R.BAY_STATUS_STATE b = s.bayRd R.BAY_STATUS_STATE b :=
  (State.rd_wr_ne _ _ _ _ _ _ _ _ (key_bayState_ne_cause b c)).trans (State.rd_wr_ne _ _ _ _ _ _ _ _ (key_bayState_ne h))

/-- A bay that is being admitted stays so while others are to be admitted too. -/
theorem State.bayState_readmit_keeps {s : State} {b : Nat} (h : s.bayRd R.BAY_STATUS_STATE b = 1) (c : Nat) : (s.readmit c).bayRd R.BAY_STATUS_STATE b = 1 := by
  by_cases hb : b = c
  · subst hb
    exact s.bayState_readmit_same b
  · exact (s.bayState_readmit_ne hb).trans h

theorem State.admitAgain_eq (s : State) (d : Nat) :
    s.admitAgain d = s.each ([2 * d, 2 * d + 1].filter (fun b => s.population.getD b 0xFF != 0xFF)) State.readmit := rfl

theorem State.admitAgain_population (s : State) (d : Nat) : (s.admitAgain d).population = s.population :=
  State.each_keeps (fun t => t.population = s.population) State.readmit (fun _ _ ht => ht) _ s rfl

theorem State.each_admitAgain_population (s : State) (ds : List Nat) : (s.each ds State.admitAgain).population = s.population :=
  State.each_keeps (fun t => t.population = s.population) State.admitAgain (fun t d ht => (t.admitAgain_population d).trans ht) ds s rfl

theorem State.held_admitAgain (s : State) {k : Nat} (hk : k ∈ islandKeys) (d : Nat) : (s.admitAgain d).held k = s.held k :=
  s.held_each _ _ (fun t b => (State.held_wr_off _ hk _ _ _ _ (by decide)).trans (t.held_wr_off hk _ _ _ _ (by decide)))

/-- The first bay of a die, unless it is a thermal dummy, is being admitted. -/
def State.FirstBayAdmitted (d : Nat) (s : State) : Prop := s.population.getD (2 * d) 0xFF ≠ 0xFF → s.bayRd R.BAY_STATUS_STATE (2 * d) = 1

theorem State.firstBay_admitAgain (s : State) (d : Nat) : (s.admitAgain d).FirstBayAdmitted d := by
  intro hpop
  rw [s.admitAgain_population] at hpop
  exact State.each_establishes (fun b t => t.bayRd R.BAY_STATUS_STATE b = 1) State.readmit State.bayState_readmit_same
    (fun _ _ c ht => State.bayState_readmit_keeps ht c) _ s (2 * d) (List.mem_filter.2 ⟨List.mem_cons_self, bne_iff_ne.2 hpop⟩)

theorem State.FirstBayAdmitted.admitAgain {s : State} {d : Nat} (h : s.FirstBayAdmitted d) (e : Nat) : (s.admitAgain e).FirstBayAdmitted d := by
  intro hpop
  rw [s.admitAgain_population] at hpop
  exact State.each_keeps (fun t => t.bayRd R.BAY_STATUS_STATE (2 * d) = 1) State.readmit (fun _ c ht => State.bayState_readmit_keeps ht c) _ s (h hpop)

theorem exec_cohReinit {s : State} {i : Nat} (hi : i < 4) (hdown : s.rd R.COH_ISL_STATE_STATE 0 [i] = 1) :
    exec (.cohReinit i) s = .next (((s.wr R.COH_ISL_STATE_STATE 0 [i] 2).each ((s.islDies i).filter (fun d => s.dieRuns d)) State.admitAgain
      ).withQueue s.pending) := by
  refine (within_next s _ _ (by simp [hi])).trans ?_
  rw [if_pos hdown]

theorem key_islState_mem {i : Nat} (hi : i < 4) : R.COH_ISL_STATE_STATE.key 0 [i] ∈ islandKeys :=
  List.mem_append_right _ (List.mem_map.2 ⟨i, List.mem_range.2 hi, rfl⟩)

/-! ### The end of re-initialisation -/

theorem State.raiseGen_busy (s : State) (p : Nat) : (s.raiseGen p).rdB R.PAR_STATUS_RESET_BUSY 0 [p] = true :=
  congrArg (· != 0) (State.rd_wr_same _ _ _ _ _)

theorem State.raiseGen_keeps_busy (s : State) (p q : Nat) (h : s.rdB R.PAR_STATUS_RESET_BUSY 0 [p] = true) :
    (s.raiseGen q).rdB R.PAR_STATUS_RESET_BUSY 0 [p] = true := by
  by_cases hpq : p = q
  · subst hpq
    exact s.raiseGen_busy p
  · have hbusy : R.PAR_STATUS_RESET_BUSY.key 0 [p] ≠ R.PAR_STATUS_RESET_BUSY.key 0 [q] := by
      simp only [Fld.key, Fld.offset, strideSum, R.PAR_STATUS_RESET_BUSY]
      omega
    have hgen : R.PAR_STATUS_RESET_BUSY.key 0 [p] ≠ R.PAR_STATUS_GEN.key 0 [q] := by
      simp only [Fld.key, Fld.offset, strideSum, R.PAR_STATUS_RESET_BUSY, R.PAR_STATUS_GEN]
      omega
    exact (congrArg (· != 0) ((State.rd_wr_ne _ _ _ _ _ _ _ _ hbusy).trans (State.rd_wr_ne _ _ _ _ _ _ _ _ hgen))).trans h

/-- Nothing of an island holds up the end of its re-initialisation (R353, R459, R523). -/
structure State.ReinitReady (s : State) (i : Nat) : Prop where
  reinit : s.rd R.COH_ISL_STATE_STATE 0 [i] = 2
  waves : s.rd R.PCI_STATUS_DSTATE 0 = 0 → ∀ d < 4, s.island d = i → s.rd R.MEM_STATUS_STATE d = 1 → s.nextWave d = none
  dies : ∀ d < 4, s.island d = i → SMap.get 0 s.dies d = 0 ∧ s.bayRd R.BAY_STATUS_STATE (2 * d) ≠ 1 ∧ s.bayRd R.BAY_STATUS_STATE (2 * d + 1) ≠ 1
  causes : ∀ x ∈ s.downs, x.island ≠ i
  parts : ∀ p ∈ s.partsOf i, s.rdB R.PAR_STATUS_RESET_BUSY 0 [p] = false ∧ ∀ u ∈ s.units, u.part ≠ p

/-- What the end of re-initialisation tests, part by part. -/
theorem State.ReinitReady.guard {s : State} {i : Nat} (h : s.ReinitReady i) :
    (s.rd R.COH_ISL_STATE_STATE 0 [i] != 2 ||
      (s.rd R.PCI_STATUS_DSTATE 0 == 0 && ((s.islDies i).filter (fun d => s.rd R.MEM_STATUS_STATE d == 1)).any (fun d => (s.nextWave d).isSome)) ||
      (s.islDies i).any (fun d => SMap.get 0 s.dies d != 0) || s.downs.any (fun (x : Down) => x.island == i) ||
      (s.islDies i).any (fun d => s.bayRd R.BAY_STATUS_STATE (2 * d) == 1 || s.bayRd R.BAY_STATUS_STATE (2 * d + 1) == 1) ||
      s.units.any (fun u => (s.partsOf i).contains u.part) || (s.partsOf i).any (fun p => s.rdB R.PAR_STATUS_RESET_BUSY 0 [p])) = false := by
  have hwaves : (s.rd R.PCI_STATUS_DSTATE 0 == 0 &&
      ((s.islDies i).filter (fun d => s.rd R.MEM_STATUS_STATE d == 1)).any (fun d => (s.nextWave d).isSome)) = false := by
    simp only [Bool.and_eq_false_imp, beq_iff_eq, List.any_eq_false, List.mem_filter, State.mem_islDies]
    rintro hd0 d ⟨⟨hd, hisl⟩, htrains⟩
    simp [h.waves hd0 d hd hisl htrains]
  have hreset : (s.islDies i).any (fun d => SMap.get 0 s.dies d != 0) = false := by
    simp only [List.any_eq_false, State.mem_islDies]
    rintro d ⟨hd, hisl⟩
    simp [(h.dies d hd hisl).1]
  have hcauses : s.downs.any (fun (x : Down) => x.island == i) = false := by
    simpa using h.causes
  have hbays : (s.islDies i).any (fun d => s.bayRd R.BAY_STATUS_STATE (2 * d) == 1 || s.bayRd R.BAY_STATUS_STATE (2 * d + 1) == 1) = false := by
    simp only [List.any_eq_false, State.mem_islDies]
    rintro d ⟨hd, hisl⟩
    simp [(h.dies d hd hisl).2]
  have hunits : s.units.any (fun u => (s.partsOf i).contains u.part) = false := by
    simp only [List.any_eq_false, List.contains_iff_mem]
    exact fun u hu hp => (h.parts _ hp).2 u hu rfl
  have hbusy : (s.partsOf i).any (fun p => s.rdB R.PAR_STATUS_RESET_BUSY 0 [p]) = false := by
    simp only [List.any_eq_false]
    exact fun p hp => by simp [(h.parts p hp).1]
  simp only [h.reinit, hwaves, hreset, hcauses, hbays, hunits, hbusy, bne_self_eq_false, Bool.or_false]

/-- Re-initialisation ends by raising the generation of each of the island's partitions, and then the island is UP (R353, R481). -/
theorem exec_islandReinitDone {s : State} {i : Nat} (hi : i < 4) (hready : s.ReinitReady i) (chans clus ports mods bays engines : List Nat) :
    ∃ v : State, exec (.islandReinitDone i chans clus ports mods bays engines) s =
      .next (((v.each (s.partsOf i) State.raiseGen).wr R.COH_ISL_STATE_STATE 0 [i] 0).withQueue s.pending) := by
  show ∃ v : State, execIslandReinitDone i chans clus ports mods bays engines s = _
  unfold execIslandReinitDone
  extract_lets ds ps new s1 mine s2 boot s3 s4 s5 s6 s7
  rw [if_neg (ne_true_of_eq_false hready.guard)]
  exact ⟨s6, within_next s _ _ (decide_eq_true hi)⟩

theorem State.reinitDone_busy (v : State) (i : Nat) (ps : List Nat) (p : Nat) (hp : p ∈ ps) :
    ((v.each ps State.raiseGen).wr R.COH_ISL_STATE_STATE 0 [i] 0).rdB R.PAR_STATUS_RESET_BUSY 0 [p] = true := by
  have hkey : R.PAR_STATUS_RESET_BUSY.key 0 [p] ≠ R.COH_ISL_STATE_STATE.key 0 [i] := by
    simp only [Fld.key, Fld.offset, strideSum, R.PAR_STATUS_RESET_BUSY, R.COH_ISL_STATE_STATE]
    omega
  refine (congrArg (· != 0) (State.rd_wr_ne _ _ _ _ _ _ _ _ hkey)).trans ?_
  exact State.each_establishes (fun p t => t.rdB R.PAR_STATUS_RESET_BUSY 0 [p] = true) State.raiseGen State.raiseGen_busy State.raiseGen_keeps_busy
    ps v p hp

/-- A credit flit over Flial returns its credits as one over the response network does (R64). -/
theorem exec_credit (t ch : Nat) (s : State) : exec (.credit t ch) s = exec (.creditReturn t ch) s := rfl

/-- Settles O39: causes wait in order, the island acts on the oldest, and re-initialisation admits its bays and raises its generations. -/
theorem islandCommandsComplete : Obligations.IslandCommandsComplete := by
  unfold Obligations.IslandCommandsComplete
  refine ⟨?timeout, ?parity, ?protocol, ?force, ?acts, ?reinit, ?ends, fun t ch f s => exec_credit t ch s ▸ exec_creditReturn⟩
  case timeout =>
    intro tag q loc n s hfind hdecode
    refine ⟨_, exec_snoopTimeout hfind hdecode, rfl, ?_⟩
    simp only [State.takeDown, beq_iff_eq]
  case parity =>
    intro d lost s hd
    obtain ⟨rs, n, hexec, hlost⟩ := exec_flitParityError (s := s) hd lost
    refine ⟨_, hexec, rfl, congrArg (· != 0) (s.rd_wr_same R.FLL_EVENT_PARITY d [] 1), fun rid hrid r hr hsent => ?_⟩
    have hended := State.each_loseReq_ends hsent lost (s.wr R.FLL_EVENT_PARITY d [] 1) hr hrid
    rw [hlost] at hended
    exact hended
  case protocol => exact fun d node line s hd => ⟨_, within_next s _ _ (by simp [hd]), rfl⟩
  case force => exact fun i s hi hdies => ⟨_, exec_cohForceDown hi hdies, rfl⟩
  case acts =>
    intro i x s hi hfind
    rw [exec_islandDownNotice hi hfind]
    exact ⟨fun hup => by rw [if_neg hup], fun hdown => by rw [if_pos hdown]⟩
  case reinit =>
    intro i s hi hdown
    refine ⟨_, exec_cohReinit hi hdown, ?_, fun d hd hisl hruns hpop => ?_⟩
    · exact (State.rd_of_held (State.held_each _ _ _ (fun t d => t.held_admitAgain (key_islState_mem hi) d))).trans (State.rd_wr_fits _ _ _ _ _ (by decide))
    · refine State.each_establishes State.FirstBayAdmitted State.admitAgain State.firstBay_admitAgain (fun _ _ e ht => ht.admitAgain e)
        ((s.islDies i).filter (fun d => s.dieRuns d)) (s.wr R.COH_ISL_STATE_STATE 0 [i] 2) d ?_ ?_
      · exact List.mem_filter.2 ⟨State.mem_islDies.2 ⟨hd, hisl⟩, hruns⟩
      · rw [State.each_admitAgain_population]
        exact hpop
  case ends =>
    intro i chans clus ports mods bays engines s hi hreinit hwaves hdies hcauses hparts
    obtain ⟨v, hexec⟩ := exec_islandReinitDone hi ⟨hreinit, hwaves, hdies, hcauses, hparts⟩ chans clus ports mods bays engines
    exact ⟨_, hexec, State.rd_wr_same _ _ _ _ _, fun p hp => v.reinitDone_busy i _ p hp⟩

end Sys2Proof.Machine
end

section
/-! SUPPORT. The queue and the routes (R411). -/

open Sys2Proof Sys2Proof.Machine

/-- Settles O1: both are how `step` reads the queue. -/
theorem stepRunsFrontCommand : Obligations.StepRunsFrontCommand := by
  unfold Obligations.StepRunsFrontCommand
  refine ⟨fun _ _ _ => rfl, fun s h => ?_⟩
  simp [step, h]
end

section
/-! SUPPORT. Dimension-ordered routing (R409, R411). -/

namespace Sys2Proof.Machine

/-- Hops round one dimension of `n` places. -/
def ringDist (n a b : Nat) : Nat := min ((b + n - a) % n) (n - (b + n - a) % n)

/-- What is left to go forward from `a` to `b`. -/
theorem ahead_eq {n a b : Nat} (ha : a < n) (hb : b < n) : (b + n - a) % n = if a ≤ b then b - a else b + n - a := by
  split
  · rw [show b + n - a = b - a + n by omega, Nat.add_mod_right, Nat.mod_eq_of_lt (by omega)]
  · exact Nat.mod_eq_of_lt (by omega)

theorem succ_mod_eq {n a : Nat} (ha : a < n) : (a + 1) % n = if a + 1 = n then 0 else a + 1 := by
  split
  · next h => rw [h, Nat.mod_self]
  · exact Nat.mod_eq_of_lt (by omega)

theorem pred_mod_eq {n a : Nat} (ha : a < n) : (a + (n - 1)) % n = if a = 0 then n - 1 else a - 1 := by
  split
  · next h => rw [h, Nat.zero_add, Nat.mod_eq_of_lt (by omega)]
  · rw [show a + (n - 1) = a - 1 + n by omega, Nat.add_mod_right, Nat.mod_eq_of_lt (by omega)]

theorem ahead_zero_iff {n a b : Nat} (ha : a < n) (hb : b < n) : (b + n - a) % n = 0 ↔ a = b := by
  rw [ahead_eq ha hb]
  split <;> omega

/-- The positive way is the shorter one. -/
theorem ringDist_succ {n a b : Nat} (ha : a < n) (hb : b < n) (hne : (b + n - a) % n ≠ 0) (hshort : 2 * ((b + n - a) % n) ≤ n) :
    ringDist n ((a + 1) % n) b + 1 = ringDist n a b := by
  have hnext : (a + 1) % n < n := Nat.mod_lt _ (by omega)
  rw [ahead_eq ha hb] at hne hshort
  rw [ringDist, ringDist, ahead_eq ha hb, ahead_eq hnext hb, succ_mod_eq ha]
  split_ifs at * <;> omega

/-- The negative way is the shorter one. -/
theorem ringDist_pred {n a b : Nat} (ha : a < n) (hb : b < n) (hlong : n < 2 * ((b + n - a) % n)) :
    ringDist n ((a + (n - 1)) % n) b + 1 = ringDist n a b := by
  have hnext : (a + (n - 1)) % n < n := Nat.mod_lt _ (by omega)
  rw [ahead_eq ha hb] at hlong
  rw [ringDist, ringDist, ahead_eq ha hb, ahead_eq hnext hb, pred_mod_eq ha]
  split_ifs at * <;> omega

/-- The four coordinates of a coordinate word. -/
theorem bits_dims (c : Nat) : bits c 10 4 = c / 1024 % 16 ∧ bits c 6 4 = c / 64 % 16 ∧ bits c 1 5 = c / 2 % 32 ∧ bits c 0 1 = c % 2 := by
  simp [bits, Nat.shiftRight_eq_div_pow]

theorem setBits_eq (c lo w x : Nat) : setBits c lo w x = c - c / 2 ^ lo % 2 ^ w * 2 ^ lo + x % 2 ^ w * 2 ^ lo := by
  simp [setBits, bits, Nat.shiftRight_eq_div_pow, Nat.shiftLeft_eq]

theorem torDist_eq (c d : Nat) : torDist c d =
    ringDist 16 (c / 1024 % 16) (d / 1024 % 16) + ringDist 16 (c / 64 % 16) (d / 64 % 16) + ringDist 32 (c / 2 % 32) (d / 2 % 32) +
      ringDist 2 (c % 2) (d % 2) := by
  simp only [torDist, ringDist, (bits_dims c).1, (bits_dims c).2.1, (bits_dims c).2.2.1, (bits_dims c).2.2.2, (bits_dims d).1, (bits_dims d).2.1,
    (bits_dims d).2.2.1, (bits_dims d).2.2.2]
  rfl

/-- A hop in one dimension of `n` places from `a` towards `b`: positive or negative, and whether it crosses the dateline. -/
def hopIn (n a b i pos neg : Nat) : Option (Nat × Nat × Bool) :=
  if (b + n - a) % n = 0 then none else if 2 * ((b + n - a) % n) ≤ n then some (i, pos, a == n - 1) else some (i, neg, a == 0)

theorem hopIn_none_iff {n a b i pos neg : Nat} (ha : a < n) (hb : b < n) : hopIn n a b i pos neg = none ↔ a = b := by
  rw [hopIn, ← ahead_zero_iff ha hb]
  split_ifs <;> simp_all

/-- The dimensions in their order, the first that differs. -/
theorem hop_eq (c d : Nat) : hop c d =
    ((((hopIn 16 (c / 1024 % 16) (d / 1024 % 16) 0 1 5).or (hopIn 16 (c / 64 % 16) (d / 64 % 16) 1 2 6)).or
      (hopIn 32 (c / 2 % 32) (d / 2 % 32) 2 3 7)).or (hopIn 2 (c % 2) (d % 2) 3 0 0)) := by
  have hdims : (List.range 4).zip dims = [(0, 10, 4, 1, 5), (1, 6, 4, 2, 6), (2, 1, 5, 3, 7), (3, 0, 1, 0, 0)] := by decide
  obtain ⟨hcx, hcy, hcz, hcw⟩ := bits_dims c
  obtain ⟨hdx, hdy, hdz, hdw⟩ := bits_dims d
  rw [hop, hdims]
  simp only [List.findSome?_cons, List.findSome?_nil, hcx, hcy, hcz, hcw, hdx, hdy, hdz, hdw, hopIn, Nat.reducePow, Nat.reduceSub]
  split_ifs <;> rfl

/-- A hop shortens the way in its own dimension, in the positive or the negative direction. -/
theorem hopIn_some {n a b i pos neg j k : Nat} {date : Bool} (ha : a < n) (hb : b < n) (h : hopIn n a b i pos neg = some (j, k, date)) :
    j = i ∧ (k = pos ∧ ringDist n ((a + 1) % n) b + 1 = ringDist n a b ∨
      k = neg ∧ ringDist n ((a + (n - 1)) % n) b + 1 = ringDist n a b) := by
  rw [hopIn] at h
  split_ifs at h with hzero hshort
  · obtain ⟨rfl, rfl, -⟩ : i = j ∧ pos = k ∧ _ := by simpa using h
    exact ⟨rfl, .inl ⟨rfl, ringDist_succ ha hb hzero hshort⟩⟩
  · obtain ⟨rfl, rfl, -⟩ : i = j ∧ neg = k ∧ _ := by simpa using h
    exact ⟨rfl, .inr ⟨rfl, ringDist_pred ha hb (by omega)⟩⟩

/-- What a port's neighbour is, for the ports of each dimension. -/
theorem neighbour_ports (c : Nat) :
    neighbour c 1 = setBits c 10 4 ((c / 1024 % 16 + 1) % 16) ∧ neighbour c 5 = setBits c 10 4 ((c / 1024 % 16 + 15) % 16) ∧
      neighbour c 2 = setBits c 6 4 ((c / 64 % 16 + 1) % 16) ∧ neighbour c 6 = setBits c 6 4 ((c / 64 % 16 + 15) % 16) ∧
      neighbour c 3 = setBits c 1 5 ((c / 2 % 32 + 1) % 32) ∧ neighbour c 7 = setBits c 1 5 ((c / 2 % 32 + 31) % 32) ∧
      neighbour c 0 = setBits c 0 1 ((c % 2 + 1) % 2) := by
  obtain ⟨hx, hy, hz, hw⟩ := bits_dims c
  refine ⟨?_, ?_, ?_, ?_, ?_, ?_, ?_⟩ <;> simp [neighbour, portDim, dims, hx, hy, hz, hw]

/-- A new coordinate in one dimension changes no other. -/
theorem coords_setX {c : Nat} (hc : c < 2 ^ 14) (x : Nat) : setBits c 10 4 x / 1024 % 16 = x % 16 ∧ setBits c 10 4 x / 64 % 16 = c / 64 % 16 ∧
    setBits c 10 4 x / 2 % 32 = c / 2 % 32 ∧ setBits c 10 4 x % 2 = c % 2 ∧ setBits c 10 4 x < 2 ^ 14 := by
  rw [setBits_eq]
  omega
theorem coords_setY {c : Nat} (hc : c < 2 ^ 14) (x : Nat) : setBits c 6 4 x / 1024 % 16 = c / 1024 % 16 ∧ setBits c 6 4 x / 64 % 16 = x % 16 ∧
    setBits c 6 4 x / 2 % 32 = c / 2 % 32 ∧ setBits c 6 4 x % 2 = c % 2 ∧ setBits c 6 4 x < 2 ^ 14 := by
  rw [setBits_eq]
  omega
theorem coords_setZ {c : Nat} (hc : c < 2 ^ 14) (x : Nat) : setBits c 1 5 x / 1024 % 16 = c / 1024 % 16 ∧ setBits c 1 5 x / 64 % 16 = c / 64 % 16 ∧
    setBits c 1 5 x / 2 % 32 = x % 32 ∧ setBits c 1 5 x % 2 = c % 2 ∧ setBits c 1 5 x < 2 ^ 14 := by
  rw [setBits_eq]
  omega
theorem coords_setW {c : Nat} (hc : c < 2 ^ 14) (x : Nat) : setBits c 0 1 x / 1024 % 16 = c / 1024 % 16 ∧ setBits c 0 1 x / 64 % 16 = c / 64 % 16 ∧
    setBits c 0 1 x / 2 % 32 = c / 2 % 32 ∧ setBits c 0 1 x % 2 = x % 2 ∧ setBits c 0 1 x < 2 ^ 14 := by
  rw [setBits_eq]
  omega

/-- There is no hop only at the destination (R411). -/
theorem hop_none_iff {c d : Nat} (hc : c < 2 ^ 14) (hd : d < 2 ^ 14) : hop c d = none ↔ c = d := by
  rw [hop_eq]
  simp only [Option.or_eq_none_iff, hopIn_none_iff, Nat.mod_lt, Nat.zero_lt_succ]
  omega

/-- The neighbour a hop goes to is one hop closer (R411). -/
theorem hop_nearer {c d i k : Nat} {date : Bool} (hc : c < 2 ^ 14) (h : hop c d = some (i, k, date)) :
    torDist (neighbour c k) d + 1 = torDist c d ∧ neighbour c k < 2 ^ 14 ∧ k < 8 ∧ portDim k = i := by
  obtain ⟨xpos, xneg, ypos, yneg, zpos, zneg, w⟩ := neighbour_ports c
  have h16 : ∀ m, m % 16 < 16 := fun m => Nat.mod_lt _ (by decide)
  have h32 : ∀ m, m % 32 < 32 := fun m => Nat.mod_lt _ (by decide)
  have h2 : ∀ m, m % 2 < 2 := fun m => Nat.mod_lt _ (by decide)
  have near : ∀ {m : Nat}, (torDist m d + 1 = torDist c d ∧ m < 2 ^ 14) → neighbour c k = m → k < 8 → portDim k = i →
      torDist (neighbour c k) d + 1 = torDist c d ∧ neighbour c k < 2 ^ 14 ∧ k < 8 ∧ portDim k = i :=
    fun hm he hk hi => ⟨he ▸ hm.1, he ▸ hm.2, hk, hi⟩
  have setX : ∀ x, ringDist 16 (x % 16) (d / 1024 % 16) + 1 = ringDist 16 (c / 1024 % 16) (d / 1024 % 16) →
      torDist (setBits c 10 4 (x % 16)) d + 1 = torDist c d ∧ setBits c 10 4 (x % 16) < 2 ^ 14 := by
    intro x hx
    obtain ⟨e1, e2, e3, e4, hlt⟩ := coords_setX hc (x % 16)
    rw [torDist_eq, torDist_eq, e1, e2, e3, e4, Nat.mod_mod]
    exact ⟨by omega, hlt⟩
  have setY : ∀ x, ringDist 16 (x % 16) (d / 64 % 16) + 1 = ringDist 16 (c / 64 % 16) (d / 64 % 16) →
      torDist (setBits c 6 4 (x % 16)) d + 1 = torDist c d ∧ setBits c 6 4 (x % 16) < 2 ^ 14 := by
    intro x hx
    obtain ⟨e1, e2, e3, e4, hlt⟩ := coords_setY hc (x % 16)
    rw [torDist_eq, torDist_eq, e1, e2, e3, e4, Nat.mod_mod]
    exact ⟨by omega, hlt⟩
  have setZ : ∀ x, ringDist 32 (x % 32) (d / 2 % 32) + 1 = ringDist 32 (c / 2 % 32) (d / 2 % 32) →
      torDist (setBits c 1 5 (x % 32)) d + 1 = torDist c d ∧ setBits c 1 5 (x % 32) < 2 ^ 14 := by
    intro x hx
    obtain ⟨e1, e2, e3, e4, hlt⟩ := coords_setZ hc (x % 32)
    rw [torDist_eq, torDist_eq, e1, e2, e3, e4, Nat.mod_mod]
    exact ⟨by omega, hlt⟩
  have setW : ∀ x, ringDist 2 (x % 2) (d % 2) + 1 = ringDist 2 (c % 2) (d % 2) →
      torDist (setBits c 0 1 (x % 2)) d + 1 = torDist c d ∧ setBits c 0 1 (x % 2) < 2 ^ 14 := by
    intro x hx
    obtain ⟨e1, e2, e3, e4, hlt⟩ := coords_setW hc (x % 2)
    rw [torDist_eq, torDist_eq, e1, e2, e3, e4, Nat.mod_mod]
    exact ⟨by omega, hlt⟩
  rw [hop_eq, Option.or_eq_some_iff, Option.or_eq_some_iff, Option.or_eq_some_iff] at h
  rcases h with ((hX | ⟨-, hY⟩) | ⟨-, hZ⟩) | ⟨-, hW⟩
  · obtain ⟨rfl, ⟨rfl, hx⟩ | ⟨rfl, hx⟩⟩ := hopIn_some (h16 _) (h16 _) hX
    · exact near (setX _ hx) xpos (by decide) rfl
    · exact near (setX _ hx) xneg (by decide) rfl
  · obtain ⟨rfl, ⟨rfl, hy⟩ | ⟨rfl, hy⟩⟩ := hopIn_some (h16 _) (h16 _) hY
    · exact near (setY _ hy) ypos (by decide) rfl
    · exact near (setY _ hy) yneg (by decide) rfl
  · obtain ⟨rfl, ⟨rfl, hz⟩ | ⟨rfl, hz⟩⟩ := hopIn_some (h32 _) (h32 _) hZ
    · exact near (setZ _ hz) zpos (by decide) rfl
    · exact near (setZ _ hz) zneg (by decide) rfl
  · obtain ⟨rfl, ⟨rfl, hw⟩ | ⟨rfl, hw⟩⟩ := hopIn_some (h2 _) (h2 _) hW
    · exact near (setW _ hw) w (by decide) rfl
    · exact near (setW _ hw) w (by decide) rfl

/-- Settles O44: the hop is in the first dimension that differs, and goes the shorter way round it. -/
theorem routingMakesProgress : Obligations.RoutingMakesProgress := by
  unfold Obligations.RoutingMakesProgress
  exact ⟨fun c d hc hd => hop_none_iff hc hd, fun c d i k date hc _ h => hop_nearer hc h⟩

end Sys2Proof.Machine
end

section
/-! SUPPORT. What the error engine, interrupts and posted writes leave alone (R541 to R548): every part of the state but records, requests and memory,
and every register outside their counters. -/

namespace Sys2Proof.Machine

/-! ### Registers of the error path -/

/-- Bits of each die: the counters of memory ports, of the stack cache, of the Leash and of the links, WR_BYTES, PBA and HELD, and the error queues. -/
def logPath : List (Nat × Nat) :=
  [(8 * 0x301000, 8 * 0x301800), (8 * 0x380010, 8 * 0x380030), (8 * 0x3C1000, 8 * 0x3C5500), (8 * 0x3C8000, 8 * 0x3C8800), (8 * 0x481000, 8 * 0x482200),
   (8 * 0x640038, 8 * 0x640038 + 1), (8 * 0x649000, 8 * 0x649000 + 1), (8 * 0x680018, 8 * 0x680018 + 1), (8 * 0x800004, 8 * 0x800004 + 2),
   (8 * 0x80000C, 8 * 0x80000C + 1), (8 * 0x800100, 8 * 0x800200), (8 * 0x82000C + 1, 8 * 0x82000C + 2)]

/-- A bit of one of them, on whichever die. -/
def InLogPath (k : Nat) : Prop := ∃ r ∈ logPath, r.1 ≤ k % 2 ^ 29 ∧ k % 2 ^ 29 < r.2

/-- Indices a field has. -/
def idxFits : List (Nat × Nat) → List Nat → Prop
  | (n, _) :: ds, i :: is => i < n ∧ idxFits ds is
  | _, _ => True

/-- The address part of the last place of a field. -/
def strideMax (ds : List (Nat × Nat)) : Nat := (ds.map (fun x => (x.1 - 1) * x.2)).sum

theorem strideSum_le : ∀ {ds : List (Nat × Nat)} {ix : List Nat}, idxFits ds ix → strideSum ds ix ≤ strideMax ds
  | [], _, _ => by simp [strideSum]
  | _ :: _, [], _ => by simp [strideSum]
  | (n, st) :: ds, i :: is, h => by
    obtain ⟨hi, his⟩ := h
    have hmul : i * st ≤ (n - 1) * st := Nat.mul_le_mul_right _ (by omega)
    have hrest := strideSum_le his
    simp only [strideSum, strideMax, List.map_cons, List.sum_cons]
    simp only [strideMax] at hrest
    omega

/-- No place of a field is one of them. -/
def Fld.quiet (f : Fld) : Bool :=
  decide (8 * (f.base + strideMax f.dims) + f.lo < 2 ^ 29) &&
    logPath.all (fun r => decide (r.2 ≤ 8 * f.base + f.lo) || decide (8 * (f.base + strideMax f.dims) + f.lo < r.1))

/-- Every place of a field is one of them. -/
def Fld.logs (f : Fld) : Bool :=
  decide (8 * (f.base + strideMax f.dims) + f.lo < 2 ^ 29) &&
    logPath.any (fun r => decide (r.1 ≤ 8 * f.base + f.lo) && decide (8 * (f.base + strideMax f.dims) + f.lo < r.2))

/-- The place of a field on its die. -/
theorem key_mod {f : Fld} {ix : List Nat} (hfits : idxFits f.dims ix) (hsmall : 8 * (f.base + strideMax f.dims) + f.lo < 2 ^ 29) (d : Nat) :
    f.key d ix % 2 ^ 29 = 8 * (f.base + strideSum f.dims ix) + f.lo ∧ strideSum f.dims ix ≤ strideMax f.dims := by
  have hle := strideSum_le hfits
  refine ⟨?_, hle⟩
  simp only [Fld.key, Fld.offset]
  omega

theorem not_inLogPath_key {f : Fld} (hf : f.quiet = true) {ix : List Nat} (hfits : idxFits f.dims ix) (d : Nat) : ¬InLogPath (f.key d ix) := by
  simp only [Fld.quiet, Bool.and_eq_true, List.all_eq_true, Bool.or_eq_true, decide_eq_true_eq] at hf
  obtain ⟨hsmall, hout⟩ := hf
  obtain ⟨hplace, hle⟩ := key_mod hfits hsmall d
  rintro ⟨r, hr, hlo, hhi⟩
  have hr' := hout r hr
  omega

theorem inLogPath_key {f : Fld} (hf : f.logs = true) {ix : List Nat} (hfits : idxFits f.dims ix) (d : Nat) : InLogPath (f.key d ix) := by
  simp only [Fld.logs, Bool.and_eq_true, List.any_eq_true, decide_eq_true_eq] at hf
  obtain ⟨hsmall, r, hr, hlo, hhi⟩ := hf
  obtain ⟨hplace, hle⟩ := key_mod hfits hsmall d
  exact ⟨r, hr, by omega, by omega⟩

/-! ### States that differ in records, requests and memory only -/

/-- A state with nothing in the parts that errors, interrupts and posted writes change. -/
def State.calm (s : State) : State :=
  { s with regs := [], dram := [], stcLines := [], ue := [], knlDirty := [], slotUse := [], linkUse := [], leash := [], served := [], reqs := [], nextId := 0,
           heldWrites := [], heldMsix := [], irqs := [], errs := [], fatal := false, sideOut := [], sideSeq := 0, out := [] }

/-- `u` is `s` after errors, interrupts and posted writes. -/
structure LogsOnly (s u : State) : Prop where
  calm : u.calm = s.calm
  look : ∀ k, ¬InLogPath k → SMap.look u.regs k = SMap.look s.regs k

namespace LogsOnly

theorem refl (s : State) : LogsOnly s s := ⟨rfl, fun _ _ => rfl⟩

theorem trans {s u v : State} (h : LogsOnly s u) (g : LogsOnly u v) : LogsOnly s v :=
  ⟨g.calm.trans h.calm, fun k hk => (g.look k hk).trans (h.look k hk)⟩

/-- Changes of other parts of the state. -/
theorem of_calm {s u : State} (hcalm : u.calm = s.calm) (hregs : u.regs = s.regs) : LogsOnly s u := ⟨hcalm, fun _ _ => by rw [hregs]⟩

theorem each {α : Type} {s u : State} (h : LogsOnly s u) (f : State → α → State) (l : List α) (hf : ∀ v, ∀ a ∈ l, LogsOnly v (f v a)) :
    LogsOnly s (u.each l f) := by
  induction l generalizing u with
  | nil => exact h
  | cons a l ih => exact ih (h.trans (hf u a List.mem_cons_self)) (fun v b hb => hf v b (List.mem_cons_of_mem a hb))

/-- A register outside the counters reads as before. -/
theorem rd {s u : State} (h : LogsOnly s u) {f : Fld} (hf : f.quiet = true) (d : Nat) {ix : List Nat} (hfits : idxFits f.dims ix := by trivial) :
    u.rd f d ix = s.rd f d ix :=
  State.rd_of_held (h.look _ (not_inLogPath_key hf hfits d))

theorem rdB {s u : State} (h : LogsOnly s u) {f : Fld} (hf : f.quiet = true) (d : Nat) {ix : List Nat} (hfits : idxFits f.dims ix := by trivial) :
    u.rdB f d ix = s.rdB f d ix := by
  rw [State.rdB, State.rdB, h.rd hf d hfits]

/-- A part of the state that `State.calm` keeps. -/
theorem part {α : Type} {s u : State} (h : LogsOnly s u) (f : State → α) (hf : ∀ v : State, f v.calm = f v := by intro _; rfl) : f u = f s := by
  rw [← hf u, h.calm, hf]

theorem ask {s u : State} (h : LogsOnly s u) : u.ask = s.ask := h.part State.ask
theorem pending {s u : State} (h : LogsOnly s u) : u.pending = s.pending := h.part State.pending

end LogsOnly

section
variable (s : State)

/-- A write to one of the counters. -/
theorem State.wr_logs {f : Fld} (hf : f.logs = true) (d : Nat) (ix : List Nat) (v : Nat) (hfits : idxFits f.dims ix := by trivial) : LogsOnly s (s.wr f d ix v) :=
  ⟨rfl, fun _ hk => SMap.look_ins_ne _ _ (fun he => hk (he ▸ inLogPath_key hf hfits d))⟩

/-! ### Memory, the stack cache and the ports -/

theorem State.wr_memPort_logs {f : Fld} (hf : f ∈ [R.MEM_PORT_UE, R.MEM_PORT_SECTORS, R.MEM_PORT_LAST_UE]) (d q v : Nat) : LogsOnly s (s.wr f d (portIx q) v) := by
  have hplace : ∀ f ∈ [R.MEM_PORT_UE, R.MEM_PORT_SECTORS, R.MEM_PORT_LAST_UE], f.logs = true ∧ f.dims = [(32, 0x40)] := by decide
  obtain ⟨hlogs, hdims⟩ := hplace f hf
  exact s.wr_logs hlogs d _ v (by rw [hdims]; exact ⟨Nat.mod_lt _ (by decide), trivial⟩)

theorem State.writeBack_logs (l : StcLine) : LogsOnly s (s.writeBack l) := by
  have heach := (LogsOnly.refl s).each (fun s i => { s with ue := SMap.del s.ue ((qAddr l.q (l.gran * 256 + 32 * i)) / 32) }) (maskList l.dirty)
    (fun v i _ => .of_calm rfl rfl)
  simp only [State.writeBack]
  split
  · exact heach.trans (State.wr_memPort_logs _ (by decide) _ _ _)
  · exact heach.trans (State.wr_logs _ (by decide) _ _ _)

theorem State.stcFill_logs (q gran mask valid dirty rrpv : Nat) : LogsOnly s (s.stcFill q gran mask valid dirty rrpv) := by
  simp only [State.stcFill]
  split
  · exact .of_calm rfl rfl
  · split
    · exact .of_calm rfl rfl
    · exact (s.writeBack_logs _).trans (.of_calm rfl rfl)

theorem State.stcAccess_logs (q gran mask dpa part : Nat) (hint write : Bool) : LogsOnly s (s.stcAccess q gran mask dpa part hint write) := by
  have hbump : ∀ (t : State) (f : Fld) (d : Nat), f ∈ [R.STC_BYPASS, R.STC_HITS, R.STC_MISSES] → LogsOnly t (t.bump f d [] 1) := by
    intro t f d hf
    have hplace : ∀ f ∈ [R.STC_BYPASS, R.STC_HITS, R.STC_MISSES], f.logs = true ∧ f.dims = [] := by decide
    obtain ⟨hlogs, hdims⟩ := hplace f hf
    exact t.wr_logs hlogs d [] _ (by rw [hdims]; trivial)
  unfold State.stcAccess
  extract_lets d st m dm s1 s2 here
  have hs1 : LogsOnly s s1 := by
    show LogsOnly s (if _ then _ else _)
    split
    · exact hbump s _ d (by decide)
    · exact .refl s
  have hs2 : LogsOnly s s2 := by
    refine hs1.trans ?_
    show LogsOnly s1 (if _ then _ else _)
    split
    · split
      · split
        · exact hbump _ _ d (by decide)
        · exact .refl _
      · exact hbump _ _ d (by decide)
    · exact hbump _ _ d (by decide)
  split
  · exact .refl s
  · split
    · split <;> split <;> exact hs2.trans (State.stcFill_logs _ _ _ _ _ _ _)
    · split
      · split
        · exact hs2.trans (.of_calm rfl rfl)
        · exact hs2
      · exact hs2.trans (State.stcFill_logs _ _ _ _ _ _ _)

theorem State.qPut_logs (q loc : Nat) (bs : List Byte) : LogsOnly s (s.qPut q loc bs) := by
  simp only [State.qPut]
  split
  · exact s.wr_memPort_logs (by decide) _ _ _
  · exact .of_calm rfl rfl

theorem State.knlMark_logs (dpa q : Nat) : LogsOnly s (s.knlMark dpa q) := by
  simp only [State.knlMark]
  split <;> exact .of_calm rfl rfl

/-! ### The Leash and posted writes -/

theorem State.fabricTake_logs {m : Nat} (hm : m < 137) (d : Nat) (links : List Nat) (n : Nat) (own : Bool) : LogsOnly s (s.fabricTake d m links n own) := by
  obtain ⟨a, b, h | ⟨v, h⟩⟩ := s.fabricTake_cases d m links n own
  · rw [h]
    exact .of_calm rfl rfl
  · rw [h]
    refine LogsOnly.trans ?_ (State.wr_logs _ (by decide) d _ v ⟨hm, trivial⟩)
    exact .of_calm rfl rfl

/-- A master port and a class that a die has (R276, R278). -/
def Req.atPort (r : Req) : Prop := r.mport < 137 ∧ r.cls < 4

theorem State.goes_logs {r : Req} (hr : r.atPort) (g : Bool) : LogsOnly s (s.goes r g) := by
  obtain ⟨hm, hc⟩ := hr
  have hsend : LogsOnly s (if g then s.sendGuar r.die r.mport r.cls r.units else s.sendBe r.die r.mport r.cls r.units) := by
    split
    · refine LogsOnly.trans ?_ (State.wr_logs _ (by decide) _ _ _ ⟨hm, hc, trivial⟩)
      exact .of_calm rfl rfl
    · exact State.wr_logs _ (by decide) _ _ _ ⟨hm, hc, trivial⟩
  exact hsend.trans (State.fabricTake_logs _ hm _ _ _ _)

theorem State.leash1_logs {r : Req} (hr : r.atPort) : LogsOnly s (s.leash1 r) := by
  unfold State.leash1
  extract_lets u joined old drained r1 links ok r2
  have hr2 : r2.atPort := by
    show (if drained then { r with drain := true, guar := true } else r : Req).mport < 137 ∧ (if drained then { r with drain := true, guar := true } else r : Req).cls < 4
    split <;> exact hr
  split
  · exact (s.goes_logs hr2 true).trans (.of_calm rfl rfl)
  · split
    · exact .of_calm rfl rfl
    · exact (s.goes_logs hr2 false).trans (.of_calm rfl rfl)

theorem State.portServe_logs {c : Nat} (hc : c < 4) (d m q units age : Nat) : LogsOnly s (s.portServe d m q c units age) := by
  have hport : q / 8 % 32 < 32 := Nat.mod_lt _ (by decide)
  have hunits : ∀ t : State, LogsOnly t (t.bump R.LSH_PORT_UNITS (qDie q) (portIx q ++ [c]) units) :=
    fun t => t.wr_logs (by decide) _ _ _ ⟨hport, hc, trivial⟩
  have hlate : ∀ t : State, LogsOnly t (t.bump R.LSH_PORT_LATE (qDie q) (portIx q ++ [c]) 1) :=
    fun t => t.wr_logs (by decide) _ _ _ ⟨hport, hc, trivial⟩
  unfold State.portServe
  extract_lets s1 s2
  have h2 : LogsOnly s s2 := by
    refine (hunits s).trans ?_
    show LogsOnly s1 (if _ then _ else _)
    split
    · exact hlate s1
    · exact .refl s1
  split
  · exact h2
  · exact h2.trans (.of_calm rfl rfl)

theorem State.quickPass_logs {r : Req} (hr : r.atPort) : LogsOnly s (s.quickPass r) := by
  have hserve := (s.goes_logs hr (s.covers r.die r.mport r.cls r.q r.units)).trans (State.portServe_logs _ hr.2 r.die r.mport r.q r.units 0)
  simp only [State.quickPass]
  split
  · exact hserve.trans (State.wr_memPort_logs _ (by decide) _ _ _)
  · exact hserve

/-- An agent whose requests go through a master port of its die. -/
def Agent.atPort (a : Agent) : Prop := a.mport < 137 ∧ a.rcls < 4 ∧ a.wcls < 4

theorem State.agentReq_atPort {a : Agent} (ha : a.atPort) (op : ReqOp) (dpa n : Nat) (data : List Byte) (own : Owner) :
    (s.agentReq a op dpa n data own).atPort := by
  obtain ⟨hm, hr, hw⟩ := ha
  refine ⟨hm, ?_⟩
  simp only [State.agentReq]
  split
  · exact hr
  · exact hw

theorem State.quickWrite_logs {a : Agent} (ha : a.atPort) {dpa : Nat} {bs : List Byte} {t : State} (h : s.quickWrite a dpa bs = some t) : LogsOnly s t := by
  unfold State.quickWrite at h
  split at h
  · cases h
  · dsimp only at h
    split at h
    · obtain rfl := Option.some.inj h
      exact (((s.quickPass_logs (s.agentReq_atPort ha _ _ _ _ _)).trans (State.stcAccess_logs _ _ _ _ _ _ _ _)).trans (State.knlMark_logs _ _ _)).trans
        (State.qPut_logs _ _ _ _)
    · cases h

theorem State.post_logs {a : Agent} (ha : a.atPort) {b : PostBy} {dpa : Nat} {bs : List Byte} {t : State} (h : s.post a b dpa bs = some t) : LogsOnly s t := by
  unfold State.post at h
  dsimp only at h
  split at h
  · obtain rfl := Option.some.inj h
    refine (LogsOnly.refl s).each _ _ (fun u p _ => ?_)
    cases hq : u.quickWrite a p.1 ((bs.drop (p.1 - dpa)).take p.2) with
    | none => exact u.leash1_logs (u.agentReq_atPort ha _ _ _ _ _)
    | some v => exact u.quickWrite_logs ha hq
  · cases h

theorem Agent.collar_atPort (d : Nat) : (Agent.collar d).atPort := ⟨show 135 < 137 by decide, show 1 < 4 by decide, show 2 < 4 by decide⟩
theorem Agent.kennel_atPort (d : Nat) : (Agent.kennel d).atPort := ⟨show 134 < 137 by decide, show 3 < 4 by decide, show 3 < 4 by decide⟩
theorem Agent.pcie_atPort : Agent.pcie.atPort := ⟨by decide, by decide, by decide⟩

/-! ### Interrupts and the host -/

theorem State.hostWrite_logs (fn addr : Nat) (bs : List Byte) (ro : Bool) : LogsOnly s (s.hostWrite fn addr bs ro) := by
  unfold State.hostWrite
  split
  · exact .refl s
  · split
    · refine LogsOnly.trans ?_ (State.wr_logs _ (f := R.HEL_HELD) (by decide) _ _ _)
      exact .of_calm rfl rfl
    · exact ((LogsOnly.refl s).each (fun s (p : Nat × List Byte) => s.send (.hostWrite ro fn p.1 p.2)) _ (fun _ _ _ => .of_calm rfl rfl)).trans
        (State.wr_logs _ (f := R.PCI_WR_BYTES) (by decide) _ _ _)

theorem State.irq_logs (fn v : Nat) : LogsOnly s (s.irq fn v) := by
  unfold State.irq
  split
  · exact .refl s
  · exact .of_calm rfl rfl

theorem State.msix_logs (v : Nat) : LogsOnly s (s.msix 0 v) := by
  unfold State.msix
  split
  · exact s.wr_logs (f := R.PCI_MSIX_PBA) (by decide) 0 [] _
  · split
    · split
      · exact .refl s
      · exact .of_calm rfl rfl
    · split
      · exact .of_calm rfl rfl
      · exact .refl s

/-- Interrupts of the error engine are PF0's. -/
theorem State.errMsg_logs (src code sev : Nat) : LogsOnly s (s.errMsg src code sev) := by
  simp only [State.errMsg]
  split
  · exact s.irq_logs _ _
  · exact s.msix_logs _

theorem State.mirror_logs (r : ErrRec) : LogsOnly s (s.mirror r) := by
  unfold State.mirror
  split
  · split
    · exact s.wr_logs (by decide) _ _ _
    · exact s.hostWrite_logs _ _ _ _
  · exact .refl s

theorem State.keepErr_logs (r : ErrRec) : LogsOnly s (s.keepErr r) := .of_calm rfl rfl
theorem State.sideSend_logs (kind dest : Nat) (payload : List Byte) : LogsOnly s (s.sideSend kind dest payload) := .of_calm rfl rfl
theorem State.send_logs (o : Out) : LogsOnly s (s.send o) := .of_calm rfl rfl

/-! ### The error engine -/

theorem State.writeErr_logs {r : ErrRec} (hsrc : r.src < 11) {t : State} (h : s.writeErr r = some t) : LogsOnly s t := by
  unfold State.writeErr at h
  dsimp only at h
  obtain ⟨u, hu, rfl⟩ := Option.map_eq_some_iff.1 h
  have hpost : LogsOnly s u := by
    split at hu
    · cases hu
    · exact s.post_logs (Agent.collar_atPort _) hu
  have hcount : ∀ a b, LogsOnly s ((u.wr R.ERR_Q_HEAD r.die [r.src] a).wr R.ERR_Q_STATUS_UNHANDLED r.die [r.src] b) := fun a b =>
    (hpost.trans (u.wr_logs (f := R.ERR_Q_HEAD) (by decide) _ [r.src] a ⟨hsrc, trivial⟩)).trans
      (State.wr_logs _ (f := R.ERR_Q_STATUS_UNHANDLED) (by decide) _ [r.src] b ⟨hsrc, trivial⟩)
  exact (((hcount _ _).trans (State.keepErr_logs _ _)).trans (State.mirror_logs _ _)).trans (State.errMsg_logs _ _ _ _)

theorem State.putErr_logs {r : ErrRec} (hsrc : r.src < 11) : LogsOnly s (s.putErr r) := by
  unfold State.putErr
  split
  · next t ht =>
    split at ht
    · exact s.writeErr_logs hsrc ht
    · cases ht
  · refine LogsOnly.trans ?_ (State.wr_logs _ (f := R.ERR_EVENT_QWRITE_FAIL) (by decide) _ _ _)
    exact .of_calm rfl rfl

/-- An error of a source of R541. -/
theorem State.err_logs (d : Nat) {e : Err} (hsrc : e.src < 11) : LogsOnly s (s.err d e) := by
  unfold State.err
  extract_lets s0 r s1 s2
  have h0 : LogsOnly s s0 := by
    show LogsOnly s (if _ then _ else _)
    split
    · exact .of_calm rfl rfl
    · exact .refl s
  split
  · exact h0
  · split
    · next old _ =>
      extract_lets r'
      split
      · exact h0.trans (.of_calm rfl rfl)
      · split
        · next t ht => exact ((h0.trans (s0.post_logs (Agent.collar_atPort _) ht)).trans (State.keepErr_logs _ _)).trans (State.mirror_logs _ _)
        · exact h0.trans (.of_calm rfl rfl)
    · have h1 : LogsOnly s s1 := (h0.trans (s0.wr_logs (f := R.ERR_SEQ) (by decide) d [] _)).trans (State.putErr_logs _ hsrc)
      have h2 : LogsOnly s s2 := (h0.trans (s0.wr_logs (f := R.ERR_Q_STATUS_LOST) (by decide) d [e.src] _ ⟨hsrc, trivial⟩)).trans
        (State.wr_logs _ (f := R.ERR_EVENT_LOST) (by decide) d [] _)
      have hwritten : LogsOnly s (if e.sev = 3 then s1.sideSend 2 0xFF (leBytes 1 e.src ++ leBytes 1 e.code) else s1) := by
        split
        · exact h1.trans (s1.sideSend_logs _ _ _)
        · exact h1
      have hlost : LogsOnly s (s2.wr R.ERR_Q_STATUS_LOST_SEV d [e.src] (max (s2.rd R.ERR_Q_STATUS_LOST_SEV d [e.src]) e.sev)) :=
        h2.trans (s2.wr_logs (by decide) d [e.src] _ ⟨hsrc, trivial⟩)
      by_cases hroom : s0.unhandled d e.src + (s0.waiting d e.src).length < (if e.sev = 0 then 12 else 16)
      · rw [if_pos hroom]
        exact hwritten
      · rw [if_neg hroom]
        exact hlost

end

end Sys2Proof.Machine
end

section
/-! SUPPORT. Registers of different blocks, and lists of writes. -/

namespace Sys2Proof.Machine

/-- Two fields whose instances stand apart on a die, one block before the other. -/
def Fld.clear (f g : Fld) : Bool :=
  decide (8 * (f.base + strideMax f.dims) + f.lo < 2 ^ 29) && decide (8 * (g.base + strideMax g.dims) + g.lo < 2 ^ 29) &&
    (decide (8 * (f.base + strideMax f.dims) + f.lo < 8 * g.base + g.lo) || decide (8 * (g.base + strideMax g.dims) + g.lo < 8 * f.base + f.lo))

theorem Fld.key_ne_of_clear {f g : Fld} (h : f.clear g = true) {ix jx : List Nat} (hix : idxFits f.dims ix) (hjx : idxFits g.dims jx) (d e : Nat) :
    f.key d ix ≠ g.key e jx := by
  simp only [Fld.clear, Bool.and_eq_true, Bool.or_eq_true, decide_eq_true_eq] at h
  obtain ⟨⟨hf, hg⟩, hapart⟩ := h
  obtain ⟨hfp, hfle⟩ := key_mod hix hf d
  obtain ⟨hgp, hgle⟩ := key_mod hjx hg e
  intro heq
  rw [heq] at hfp
  omega

theorem State.rd_wr_clear (s : State) {f g : Fld} (h : g.clear f = true) {d e : Nat} {ix jx : List Nat} (v : Nat) (hjx : idxFits g.dims jx := by trivial)
    (hix : idxFits f.dims ix := by trivial) : (s.wr f d ix v).rd g e jx = s.rd g e jx :=
  s.rd_wr_ne f g d e ix jx v (Fld.key_ne_of_clear h hjx hix e d)

/-- Writes to other fields of a register leave a field of it alone. -/
theorem State.rd_wrs_apart {g : Fld} (d : Nat) (ix : List Nat) : ∀ (l : List (Fld × Nat)) (s : State), l.all (fun p => g.apart p.1) = true →
    (s.wrs d ix l).rd g d ix = s.rd g d ix
  | [], _, _ => rfl
  | p :: l, s, h => by
    simp only [List.all_cons, Bool.and_eq_true] at h
    obtain ⟨hp, hl⟩ := h
    exact (State.rd_wrs_apart d ix l _ hl).trans (s.rd_wr_apart hp d ix p.2)

/-- Steps that each leave a field alone. -/
theorem State.rd_each {α : Type} {g : Fld} {e : Nat} {jx : List Nat} (f : State → α → State) : ∀ (l : List α) (s : State),
    (∀ t, ∀ a ∈ l, (f t a).rd g e jx = t.rd g e jx) → (s.each l f).rd g e jx = s.rd g e jx
  | [], _, _ => rfl
  | a :: l, s, h => (State.rd_each f l (f s a) (fun t b hb => h t b (List.mem_cons_of_mem a hb))).trans (h s a List.mem_cons_self)

end Sys2Proof.Machine
end

section
/-! SUPPORT. Bays (R359 to R386). -/

namespace Sys2Proof.Machine

/-! ### What a bay's records and rings leave -/

section
variable (s : State)

theorem State.bayErr_logs (b code sev : Nat) : LogsOnly s (s.bayErr b code sev) := s.err_logs (b / 2) (e := .plain 2 code sev _ _) (by show 2 < 11; decide)

theorem bayIx_fits {f : Fld} (hf : f.dims = [(2, 0x1000)]) (b : Nat) : idxFits f.dims [b % 2] := by
  rw [hf]
  exact ⟨Nat.mod_lt _ (by decide), trivial⟩

/-- A bay's record leaves its registers. -/
theorem State.bayRd_bayErr {f : Fld} (hf : f.quiet = true) (hdims : f.dims = [(2, 0x1000)]) (b c code sev : Nat) :
    (s.bayErr c code sev).bayRd f b = s.bayRd f b :=
  (s.bayErr_logs c code sev).rd hf (b / 2) (bayIx_fits hdims b)

theorem State.bayInfo_bayErr (b c code sev : Nat) : (s.bayErr c code sev).bayInfo b = s.bayInfo b :=
  (s.bayErr_logs c code sev).part (fun t => t.bayInfo b)

@[simp] theorem State.bayInfo_setBay_same (b : Nat) (x : BayInfo) : (s.setBay b x).bayInfo b = x := SMap.get_put_same _ _ _ _

theorem State.bayRd_bayRail {f : Fld} (hf : f.clear R.PWR_STATUS_BAY_A_GOOD = true ∧ f.clear R.PWR_STATUS_BAY_B_GOOD = true) (hdims : f.dims = [(2, 0x1000)])
    (b c : Nat) (on : Bool) : (s.bayRail c on).bayRd f b = s.bayRd f b := by
  obtain ⟨ha, hb⟩ := hf
  simp only [State.bayRail]
  split
  · exact s.rd_wr_clear ha _ (bayIx_fits hdims b)
  · exact s.rd_wr_clear hb _ (bayIx_fits hdims b)

@[simp] theorem State.bayRd_ctl (f : Fld) (b c off v : Nat) : (s.ctl c off v).bayRd f b = s.bayRd f b := rfl

theorem State.mem_bayQueues {b : Nat} {x : Nat × Nat} (h : x ∈ s.bayQueues b) : x.1 < 64 ∧ 64 ≤ x.2 ∧ x.2 < 80 := by
  simp only [State.bayQueues, List.mem_flatMap, List.mem_range, List.mem_filterMap] at h
  obtain ⟨p, hp, k, hk, hx⟩ := h
  split at hx
  · obtain rfl := Option.some.inj hx
    exact ⟨hp, by omega, by omega⟩
  · cases hx

/-- A bay queue's state leaves the bay's own registers. -/
theorem State.bayRd_setRing {f : Fld} (hf : f.clear R.BAY_Q_STATE_STATE = true ∧ f.clear R.BAY_Q_STATE_REASON = true) (hdims : f.dims = [(2, 0x1000)]) (b : Nat)
    {p r : Nat} (hp : p < 64) (hr : 64 ≤ r ∧ r < 80) (st reason : Nat) : (s.setRing p r st reason).bayRd f b = s.bayRd f b := by
  obtain ⟨hstate, hreason⟩ := hf
  obtain ⟨hlo, hhi⟩ := hr
  have hfits : p < 64 ∧ r - 64 < 16 ∧ True := ⟨hp, by omega, trivial⟩
  have hwork : ¬r < 64 := by omega
  simp only [State.setRing, State.ringWr, hwork, if_false]
  exact (State.rd_wr_clear _ (ix := [p, r - 64]) hreason _ (bayIx_fits hdims b) hfits).trans
    (s.rd_wr_clear (ix := [p, r - 64]) hstate _ (bayIx_fits hdims b) hfits)

/-- A bay's own registers bind no queue. -/
theorem State.bayQueues_wrs {l : List (Fld × Nat)} (b : Nat)
    (hl : l.all (fun x => R.BAY_Q_STATE_STATE.clear x.1 && R.BAY_Q_BIND_BAY.clear x.1 && decide (x.1.dims = [(2, 0x1000)])) = true) :
    (s.wrs (b / 2) [b % 2] l).bayQueues b = s.bayQueues b := by
  induction l generalizing s with
  | nil => rfl
  | cons x l ih =>
    simp only [List.all_cons, Bool.and_eq_true, decide_eq_true_eq] at hl
    obtain ⟨⟨⟨hstate, hbind⟩, hdims⟩, hl⟩ := hl
    rw [State.wrs_cons, ih _ hl]
    have hkept : ∀ p ∈ List.range 64, ∀ k ∈ List.range 16, ∀ f ∈ [R.BAY_Q_STATE_STATE, R.BAY_Q_BIND_BAY],
        (s.wr x.1 (b / 2) [b % 2] x.2).rd f 0 [p, k] = s.rd f 0 [p, k] := by
      intro p hp k hk f hf
      have hfits : idxFits [(64, 0x10000), (16, 0x40)] [p, k] := ⟨List.mem_range.1 hp, List.mem_range.1 hk, trivial⟩
      simp only [List.mem_cons, List.not_mem_nil, or_false] at hf
      rcases hf with rfl | rfl
      · exact s.rd_wr_clear hstate _ hfits (bayIx_fits hdims b)
      · exact s.rd_wr_clear hbind _ hfits (bayIx_fits hdims b)
    unfold State.bayQueues
    refine List.flatMap_congr (fun p hp => List.filterMap_congr (fun k hk => ?_))
    have hqueue : ∀ t : State, t.rState p (64 + k) = t.rd R.BAY_Q_STATE_STATE 0 [p, k] := fun t => by
      rw [State.rState, State.ringRd, if_neg (by omega), Nat.add_sub_cancel_left]
    rw [hqueue, hqueue, hkept p hp k hk _ (by decide), hkept p hp k hk _ (by decide)]

theorem State.bayRd_moveQueues {f : Fld} (hf : f.clear R.BAY_Q_STATE_STATE = true ∧ f.clear R.BAY_Q_STATE_REASON = true) (hdims : f.dims = [(2, 0x1000)])
    (b c old new : Nat) : (s.each (s.bayQueues c) (fun s x => if s.rState x.1 x.2 = old then s.setRing x.1 x.2 new 0 else s)).bayRd f b = s.bayRd f b := by
  refine State.rd_each _ _ s (fun t x hx => ?_)
  obtain ⟨hp, hr⟩ := s.mem_bayQueues hx
  split
  · exact t.bayRd_setRing hf hdims b hp hr new 0
  · rfl

theorem State.bayRd_bayLanes {f : Fld} (hf : [R.BAY_LANES_TX_GROUPS, R.BAY_LANES_RX_GROUPS, R.BAY_LANES_SPARES].all (fun g => f.apart g) = true) (b : Nat) :
    (s.bayLanes b).bayRd f b = s.bayRd f b :=
  State.rd_wrs_apart _ _ [(R.BAY_LANES_TX_GROUPS, _), (R.BAY_LANES_RX_GROUPS, _), (R.BAY_LANES_SPARES, _)] s hf

theorem key_bayStatus_ne_digest {f : Fld} (hf : f ∈ [R.BAY_STATUS_STATE, R.BAY_STATUS_PROTO]) (b i : Nat) :
    f.key (b / 2) [b % 2] ≠ R.BAY_DIGEST.key (b / 2) [b % 2, i] := by
  simp only [List.mem_cons, List.not_mem_nil, or_false] at hf
  rcases hf with rfl | rfl <;> simp only [Fld.key, Fld.offset, strideSum, R.BAY_STATUS_STATE, R.BAY_STATUS_PROTO, R.BAY_DIGEST] <;> omega

/-! ### Admission (R367 to R370) -/

/-- An admission passes each check. -/
theorem Admit.ok_of_ite {c : Prop} [Decidable c] {k proto : Nat} {rate2 uncert mm : Bool} {a : Admit}
    (h : (if c then .refuse k else a) = .ok proto rate2 uncert mm) : ¬c ∧ a = .ok proto rate2 uncert mm := by
  split at h
  · cases h
  · next hc => exact ⟨hc, h⟩

/-- Only a bay that answers is admitted, and one of the two protocols is chosen. -/
theorem State.admit368_ok {b proto : Nat} {answers rate2 uncert mm : Bool} {r c : List Byte} {f4t f4r f2t f2r : List Nat}
    (h : s.admit368 b answers r c f4t f4r f2t f2r = .ok proto rate2 uncert mm) : answers = true ∧ (proto = 1 ∨ proto = 2) := by
  unfold State.admit368 at h
  extract_lets prod half cert fresh same chosen fits slow slow2 at h
  have hway : ∀ x y : Bool, (if x then 2 else if y then 1 else 0) ∈ [0, 1, 2] := by decide
  have hchosen : chosen ∈ [0, 1, 2] := hway _ _
  simp only [List.mem_cons, List.not_mem_nil, or_false] at hchosen
  obtain ⟨hans, h⟩ := Admit.ok_of_ite h
  obtain ⟨-, h⟩ := Admit.ok_of_ite h
  obtain ⟨-, h⟩ := Admit.ok_of_ite h
  obtain ⟨-, h⟩ := Admit.ok_of_ite h
  obtain ⟨-, h⟩ := Admit.ok_of_ite h
  obtain ⟨-, h⟩ := Admit.ok_of_ite h
  obtain ⟨-, h⟩ := Admit.ok_of_ite h
  obtain ⟨hnone, h⟩ := Admit.ok_of_ite h
  obtain ⟨-, h⟩ := Admit.ok_of_ite h
  obtain ⟨-, h⟩ := Admit.ok_of_ite h
  obtain ⟨rfl, -⟩ := Admit.ok.inj h
  exact ⟨by simpa using hans, by omega⟩

/-- STATE and PROTO of a bay that has been admitted: what Collar does after them leaves them. -/
theorem State.bayRd_admitBay {f : Fld} (hf : f ∈ [R.BAY_STATUS_STATE, R.BAY_STATUS_PROTO]) {b proto : Nat} {answers rate2 uncert mm : Bool} {record cert : List Byte}
    {f4t f4r f2t f2r : List Nat} (rt rr : List Nat) (hstate : s.bayRd R.BAY_STATUS_STATE b = 1) (hpop : s.population.getD b 0xFF ≠ 0xFF)
    (hup : s.islDown (s.island (b / 2)) = false) (hok : s.admit368 b answers record cert f4t f4r f2t f2r = .ok proto rate2 uncert mm) :
    (s.admitBay b answers record cert f4t f4r f2t f2r rt rr).bayRd f b = if f = R.BAY_STATUS_STATE then 2 else proto := by
  have hplace : ∀ f ∈ [R.BAY_STATUS_STATE, R.BAY_STATUS_PROTO], f.dims = [(2, 0x1000)] ∧ f.quiet = true ∧
      (f.clear R.PWR_STATUS_BAY_A_GOOD = true ∧ f.clear R.PWR_STATUS_BAY_B_GOOD = true) ∧
      (f.clear R.BAY_Q_STATE_STATE = true ∧ f.clear R.BAY_Q_STATE_REASON = true) ∧
      [R.BAY_LANES_TX_GROUPS, R.BAY_LANES_RX_GROUPS, R.BAY_LANES_SPARES].all (fun g => f.apart g) = true := by decide
  obtain ⟨hdims, hquiet, hrail, hring, hlanes⟩ := hplace f hf
  have hproto : proto % 4 = proto := Nat.mod_eq_of_lt (by have := (s.admit368_ok hok).2; omega)
  have hgo : (s.bayRd R.BAY_STATUS_STATE b != 1 || s.population.getD b 0xFF == 0xFF || s.islDown (s.island (b / 2))) = false := by
    rw [hstate, hup, beq_false_of_ne hpop]
    rfl
  have hmaybe : ∀ (t : State) (c : Bool) (code : Nat), (if c then t.bayErr b code 0 else t).bayRd f b = t.bayRd f b := by
    intro t c code
    split
    · exact t.bayRd_bayErr hquiet hdims b b code 0
    · rfl
  unfold State.admitBay
  rw [hgo, hok]
  dsimp only
  rw [if_neg Bool.false_ne_true, hmaybe, hmaybe, State.bayRd_moveQueues _ hring hdims]
  rw [State.bayRd_ctl, State.bayRd_ctl, State.bayRd_ctl, State.bayRd_ctl, State.bayRd_bayRail _ hrail hdims, State.bayRd_bayLanes _ hlanes]
  refine (State.rd_each _ _ _ (fun t i _ => t.rd_wr_ne _ _ _ _ _ _ _ (key_bayStatus_ne_digest hf b i))).trans ?_
  simp only [List.mem_cons, List.not_mem_nil, or_false] at hf
  rcases hf with rfl | rfl
  · rw [if_pos rfl, State.wrs_cons]
    exact (State.rd_wrs_apart _ _ _ _ (by rfl)).trans (State.rd_wr_same _ _ _ _ _)
  · rw [if_neg (show ¬R.BAY_STATUS_PROTO = R.BAY_STATUS_STATE by decide), State.wrs_cons, State.wrs_cons, State.wrs_cons]
    exact (State.rd_wrs_apart _ _ _ _ (by rfl)).trans ((State.rd_wr_same _ _ _ _ _).trans hproto)

end

theorem exec_bayAdmission_ok {b proto : Nat} {answers rate2 uncert mm : Bool} {record cert : List Byte} {f4t f4r f2t f2r : List Nat} (rt rr : List Nat)
    {s : State} (hb : b < 8) (hstate : s.bayRd R.BAY_STATUS_STATE b = 1) (hpop : s.population.getD b 0xFF ≠ 0xFF)
    (hup : s.islDown (s.island (b / 2)) = false) (hok : s.admit368 b answers record cert f4t f4r f2t f2r = .ok proto rate2 uncert mm) :
    exec (.bayAdmission b answers record cert f4t f4r f2t f2r rt rr) s = .next ((s.admitBay b answers record cert f4t f4r f2t f2r rt rr).withQueue s.pending) ∧
      answers = true ∧ (proto = 1 ∨ proto = 2) ∧ (s.admitBay b answers record cert f4t f4r f2t f2r rt rr).bayRd R.BAY_STATUS_STATE b = 2 ∧
      (s.admitBay b answers record cert f4t f4r f2t f2r rt rr).bayRd R.BAY_STATUS_PROTO b = proto := by
  obtain ⟨hans, hproto⟩ := s.admit368_ok hok
  refine ⟨within_next s _ _ (by simp [hb]), hans, hproto, ?_, ?_⟩
  · rw [s.bayRd_admitBay (by decide) rt rr hstate hpop hup hok, if_pos rfl]
  · rw [s.bayRd_admitBay (by decide) rt rr hstate hpop hup hok, if_neg (by decide)]

theorem exec_bayAdmission_refused {b k : Nat} {answers : Bool} {record cert : List Byte} {f4t f4r f2t f2r : List Nat} (rt rr : List Nat)
    {s : State} (hb : b < 8) (hstate : s.bayRd R.BAY_STATUS_STATE b = 1) (hpop : s.population.getD b 0xFF ≠ 0xFF)
    (hup : s.islDown (s.island (b / 2)) = false) (hrefuse : s.admit368 b answers record cert f4t f4r f2t f2r = .refuse k) (hnone : s.bayQueues b = []) :
    exec (.bayAdmission b answers record cert f4t f4r f2t f2r rt rr) s = .next (((State.bayErr ((s.setBay b { BayInfo.idle with ctl := 4 }).wrs (b / 2) [b % 2]
      [(R.BAY_STATUS_STATE, 4), (R.BAY_STATUS_HEEL_CAUSE, 1), (R.BAY_STATUS_REFUSE, k), (R.BAY_STATUS_PROTO, 0), (R.BAY_EVENT_REFUSED, 1), (R.BAY_EVENT_HEEL, 1)])
      b 1 0).bayRail b false).withQueue s.pending) := by
  have hgo : (s.bayRd R.BAY_STATUS_STATE b != 1 || s.population.getD b 0xFF == 0xFF || s.islDown (s.island (b / 2))) = false := by
    rw [hstate, hup, beq_false_of_ne hpop]
    rfl
  refine (within_next s _ _ (by simp [hb])).trans ?_
  unfold State.admitBay
  rw [hgo, hrefuse]
  dsimp only
  rw [if_neg Bool.false_ne_true, State.bayQueues_wrs _ b (by simp only [List.all_cons, List.all_nil]; rfl), show (s.setBay b { BayInfo.idle with ctl := 4 }).bayQueues b = [] from hnone, State.each_nil]

theorem exec_bayAdmission_down {b : Nat} {s : State} (answers : Bool) (record cert : List Byte) (f4t f4r f2t f2r rt rr : List Nat) (hb : b < 8)
    (hdown : s.islDown (s.island (b / 2)) = true) : exec (.bayAdmission b answers record cert f4t f4r f2t f2r rt rr) s = .next s := by
  refine (within_next s _ _ (by simp [hb])).trans ?_
  simp [State.admitBay, hdown]

/-! ### The link in service (R361) -/

theorem State.bayInfo_repaired (s : State) (b lanes : Nat) (x : BayInfo) :
    ((((s.setBay b x).bayBump R.BAY_REPAIRS b lanes).bayWr R.BAY_EVENT_REPAIR b 1).bayLanes b).bayInfo b = x :=
  s.bayInfo_setBay_same b x

theorem exec_bayParityPoll_repaired {b g lanes : Nat} {s : State} (hb : b < 8) (hg : g < 128) (hstate : s.bayRd R.BAY_STATUS_STATE b = 2)
    (hlive : g ∉ (s.bayInfo b).deadTx) (hlanes : 0 < lanes) (hspare : SMap.get 0 (s.bayInfo b).usedTx g + lanes ≤ 2) :
    ∃ v : State, exec (.bayParityPoll b true g lanes false) s = .next ((v.bayErr b 3 0).withQueue s.pending) ∧
      SMap.get 0 (v.bayInfo b).usedTx g = SMap.get 0 (s.bayInfo b).usedTx g + lanes ∧ (v.bayInfo b).deadTx = (s.bayInfo b).deadTx ∧
      v.bayRd R.BAY_EVENT_REPAIR b = 1 := by
  have hgo : (!s.bayLive b || (s.bayInfo b).deadTx.contains g || (lanes == 0 && !false)) = false := by
    simp [State.bayLive, hstate, hlive]
    omega
  refine ⟨((((s.setBay b { s.bayInfo b with usedTx := SMap.put 0 (s.bayInfo b).usedTx g (SMap.get 0 (s.bayInfo b).usedTx g + lanes) }).bayBump R.BAY_REPAIRS b
    lanes).bayWr R.BAY_EVENT_REPAIR b 1).bayLanes b), ?_, ?_, ?_, ?_⟩
  · refine (within_next s _ _ (by simp [hb, hg])).trans ?_
    dsimp only
    rw [if_neg (by rw [if_pos rfl, hgo]; decide)]
    simp [hspare]
  · rw [State.bayInfo_repaired]
    exact SMap.get_put_same _ _ _ _
  · rw [State.bayInfo_repaired]
  · rw [State.bayRd_bayLanes _ (by decide)]
    exact State.rd_wr_fits _ _ _ _ _ (by decide)

theorem exec_bayParityPoll_disabled {b g : Nat} {s : State} (hb : b < 8) (hg : g < 128) (hstate : s.bayRd R.BAY_STATUS_STATE b = 2)
    (hlive : g ∉ (s.bayInfo b).deadRx) :
    ∃ v : State, exec (.bayParityPoll b false g 0 true) s = .next ((if bayGroups (s.bayInfo b).half (s.bayInfo b).deadTx < 64 ∨
        bayGroups (s.bayInfo b).half ((s.bayInfo b).deadRx ++ [g]) < 64 then v.evacuate b 2 else v).withQueue s.pending) ∧
      v = (((s.setBay b { s.bayInfo b with deadRx := (s.bayInfo b).deadRx ++ [g] }).bayLanes b).bayWr R.BAY_EVENT_DEGRADE b 1).bayErr b 4 0 := by
  have hkept : ((((s.setBay b { s.bayInfo b with deadRx := (s.bayInfo b).deadRx ++ [g] }).bayLanes b).bayWr R.BAY_EVENT_DEGRADE b 1).bayErr b 4 0).bayRd
      R.BAY_STATUS_STATE b = 2 := by
    rw [State.bayRd_bayErr _ (by decide) rfl]
    exact (State.rd_wr_apart _ (by decide) _ _ _).trans ((State.bayRd_bayLanes _ (by decide) b).trans hstate)
  refine ⟨_, ?_, rfl⟩
  refine (within_next s _ _ (by simp [hb, hg])).trans ?_
  have hgo : (!s.bayLive b || (s.bayInfo b).deadRx.contains g || ((0 : Nat) == 0 && !true)) = false := by simp [State.bayLive, hstate, hlive]
  dsimp only
  rw [if_neg (show ¬(!s.bayLive b || (if false = true then (s.bayInfo b).deadTx else (s.bayInfo b).deadRx).contains g || ((0 : Nat) == 0 && !true)) = true by
    rw [if_neg Bool.false_ne_true, hgo]; decide)]
  simp only [Bool.not_true, Bool.false_and, Bool.false_eq_true, if_false, hkept, and_true]

theorem exec_bayLinkLost {b : Nat} {s : State} (hb : b < 8) (hlive : s.bayLive b = true) :
    exec (.bayLinkLost b) s = .next ((s.heelBay b 3 false).withQueue s.pending) := by
  refine (within_next s _ _ (by simp [hb])).trans ?_
  rw [if_pos hlive]

/-! ### Power and heat (R382, R383) -/

theorem exec_bayPowerPoll_calm {b temp rail rail10 : Nat} {s : State} (hb : b < 8) (hstate : s.bayRd R.BAY_STATUS_STATE b = 2) (htemp : temp < 95)
    (hrail : rail < 2 ^ 16) (hcool : (s.bayInfo b).cool = false) (hlimit : rail10 ≤ min (classLimit (s.bayInfo b).cls) (s.bayRd R.BAY_PLIMIT b)) :
    ∃ u, exec (.bayPowerPoll b temp rail rail10) s = .next u ∧ u.bayRd R.BAY_TEMP_TEMP b = temp ∧ u.bayRd R.BAY_TEMP_POWER b = rail ∧
      (u.bayInfo b).overMs = 0 ∧ (u.bayInfo b).hotMs = 0 ∧ u.out = s.out ∧ u.bayRd R.BAY_STATUS_STATE b = 2 := by
  have hlive : (!s.bayLive b) = false := by simp [State.bayLive, hstate]
  have hstays : ∀ x : BayInfo, (((s.wrs (b / 2) [b % 2] [(R.BAY_TEMP_TEMP, min 255 temp), (R.BAY_TEMP_POWER, min 65535 rail)]).setBay b x)).bayRd R.BAY_STATUS_STATE b =
      2 := fun _ => (State.rd_wrs_apart _ _ _ s (by rfl)).trans hstate
  refine ⟨(((s.wrs (b / 2) [b % 2] [(R.BAY_TEMP_TEMP, min 255 temp), (R.BAY_TEMP_POWER, min 65535 rail)]).setBay b
    { s.bayInfo b with cool := false, overMs := 0, hotMs := 0 }).withQueue s.pending), ?_, ?_, ?_, ?_, ?_, rfl, hstays _⟩
  · have hcold : ¬100 ≤ temp := by omega
    have hmild : ¬105 < temp := by omega
    have hwithin : ¬min (classLimit (s.bayInfo b).cls) (s.bayRd R.BAY_PLIMIT b) < rail10 := by omega
    refine (within_next s _ _ (by simp [hb])).trans ?_
    simp only [hlive, Bool.false_eq_true, if_false, hcold, htemp, if_true, hmild, hwithin, hcool, Nat.zero_ne_one, decide_false, Bool.or_false, hstays,
      show ¬(0 : Nat) = 3 by decide, show ¬2 ≤ 0 by decide, show ¬101 ≤ 0 by decide, ne_eq, not_true_eq_false]
  · exact (State.rd_wr_apart _ (show R.BAY_TEMP_TEMP.apart R.BAY_TEMP_POWER = true by decide) _ _ _).trans ((State.rd_wr_same _ _ _ _ _).trans
      (by simp only [R.BAY_TEMP_TEMP]; omega))
  · exact (State.rd_wr_same _ _ _ _ _).trans (by simp only [R.BAY_TEMP_POWER]; omega)
  · exact congrArg BayInfo.overMs (State.bayInfo_setBay_same _ b _)
  · exact congrArg BayInfo.hotMs (State.bayInfo_setBay_same _ b _)

/-! ### Evacuation, Heel and release (R384 to R386) -/

theorem exec_bayEvacDone {b : Nat} {s : State} (hb : b < 8) (hstate : s.bayRd R.BAY_STATUS_STATE b = 3) (hnone : ∀ e ∈ s.dirs, b ∉ e.2.bays) :
    exec (.bayEvacDone b) s = .next ((s.heelBay b (s.bayInfo b).cause ((s.bayInfo b).cause == 5 || (s.bayInfo b).cause == 6)).withQueue s.pending) := by
  refine (within_next s _ _ (by simp [hb])).trans ?_
  have hclear : ¬s.dirs.any (fun e => e.2.bays.contains b) = true := by
    simp only [List.any_eq_true, List.contains_iff_mem, not_exists, not_and]
    exact hnone
  rw [hstate, if_neg (by decide), if_neg hclear]
  rfl

theorem exec_bayEvacTimeout {b : Nat} {s : State} (hb : b < 8) (hstate : s.bayRd R.BAY_STATUS_STATE b = 3) :
    exec (.bayEvacTimeout b) s = .next ((s.heelBay b (s.bayInfo b).cause ((s.bayInfo b).cause == 5 || (s.bayInfo b).cause == 6)).withQueue s.pending) := by
  refine (within_next s _ _ (by simp [hb])).trans ?_
  rw [if_pos hstate]
  rfl

theorem exec_bayForceHeel {b : Nat} {s : State} (hb : b < 8) (hstate : s.bayRd R.BAY_STATUS_STATE b = 2) :
    exec (.bayForceHeel b) s = .next ((s.evacuate b 7).withQueue s.pending) := by
  refine (within_next s _ _ (by simp [hb])).trans ?_
  rw [if_pos hstate]

theorem exec_bayReadmit {b : Nat} {s : State} (hb : b < 8) (hstate : s.bayRd R.BAY_STATUS_STATE b = 4) (hcause : s.bayRd R.BAY_STATUS_HEEL_CAUSE b ≠ 8)
    (hup : s.islDown (s.island (b / 2)) = false) :
    ∃ u, exec (.bayReadmit b) s = .next u ∧ u.bayRd R.BAY_STATUS_STATE b = 1 ∧ u.bayRd R.BAY_STATUS_HEEL_CAUSE b = 0 := by
  refine ⟨(s.readmit b).withQueue s.pending, ?_, s.bayState_readmit_same b, State.rd_wr_same _ _ _ _ _⟩
  refine (within_next s _ _ (by simp [hb])).trans ?_
  rw [if_pos ⟨hstate, hcause, hup⟩]
  rfl

theorem exec_bayReadmit_stays {b : Nat} {s : State} (hb : b < 8) (hdown : s.bayRd R.BAY_STATUS_HEEL_CAUSE b = 8 ∨ s.islDown (s.island (b / 2)) = true) :
    exec (.bayReadmit b) s = .next s := by
  refine (within_next s _ _ (by simp [hb])).trans ?_
  rw [if_neg]
  · rfl
  · rintro ⟨-, hcause, hup⟩
    rcases hdown with h | h
    · exact hcause h
    · simp [hup] at h

/-- Settles O40: the bay's own registers stand apart from what its records, its rail and its queues write. -/
theorem bayCommandsComplete : Obligations.BayCommandsComplete := by
  unfold Obligations.BayCommandsComplete
  exact ⟨fun _ _ _ _ _ _ _ _ _ _ _ _ rt rr _ hb hstate hpop hup hok => exec_bayAdmission_ok rt rr hb hstate hpop hup hok,
    fun _ _ _ _ _ _ _ _ _ rt rr _ hb hstate hpop hup hrefuse hnone => exec_bayAdmission_refused rt rr hb hstate hpop hup hrefuse hnone,
    fun _ answers record cert f4t f4r f2t f2r rt rr _ hb hdown => exec_bayAdmission_down answers record cert f4t f4r f2t f2r rt rr hb hdown,
    fun _ _ _ _ hb hg hstate hlive hlanes hspare => exec_bayParityPoll_repaired hb hg hstate hlive hlanes hspare,
    fun _ _ _ hb hg hstate hlive => exec_bayParityPoll_disabled hb hg hstate hlive,
    fun _ _ hb hlive => exec_bayLinkLost hb hlive,
    fun _ _ _ _ _ hb hstate htemp hrail hcool hlimit => exec_bayPowerPoll_calm hb hstate htemp hrail hcool hlimit,
    fun _ _ hb hstate hnone => exec_bayEvacDone hb hstate hnone,
    fun _ _ hb hstate => exec_bayEvacTimeout hb hstate,
    fun _ _ hb hstate => exec_bayForceHeel hb hstate,
    fun _ _ hb hstate hcause hup => exec_bayReadmit hb hstate hcause hup,
    fun _ _ hb _ hdown => exec_bayReadmit_stays hb hdown⟩

end Sys2Proof.Machine
end

section
/-! SUPPORT. The work port and the bay queues (R374 to R381, R390, R391). -/

namespace Sys2Proof.Machine

section
variable {s : State}

/-! ### The work port (R374, R376, R379 to R381) -/

theorem exec_bwEnd {b uid gen st d0 d1 : Nat} (dt : Nat) {w : WUnit} (hb : b < 8) (hst : st = 0 ∨ st = 2 ∨ st = 4) (hunit : s.unit? uid = some w)
    (hkind : w.kind = .bay) (hbind : s.rd R.BAY_Q_BIND_BAY 0 [w.part, w.ring - 64] = b) (hdone : w.done = false) (hlive : s.bayLive b = true)
    (hgen : s.stale w.part gen = false) :
    exec (.bwEnd b uid gen st d0 d1 dt) s = .next ((((s.at_ dt).finishUnit
      { w with ending := (w.ending.orElse (fun _ => if st = 0 then none else some ⟨st, d0 % 2 ^ 64, d1 % 2 ^ 32⟩)), done := true }).cfgAnswer true 0 b (s.bwId w.part w.ring w.count) gen).withQueue s.pending) := by
  have hsmall : st < 256 := by omega
  have hgo : (w.kind != .bay || s.rd R.BAY_Q_BIND_BAY 0 [w.part, w.ring - 64] != b || w.done || !s.bayLive b) = false := by simp [hkind, hbind, hdone, hlive]
  have hknown : ¬(st ≠ 0 ∧ st ≠ 2 ∧ st ≠ 4) := by omega
  refine (within_next s _ _ (by simp [hb, hsmall])).trans ?_
  rw [State.bwEnd, hunit]
  dsimp only
  rw [hgo, hgen, if_neg Bool.false_ne_true, if_neg Bool.false_ne_true, if_neg hknown]
  cases w.ending <;> rfl

/-- A page's address stands for itself. -/
theorem pageAddr_eq {va : Nat} (hva : va < 2 ^ 48) (hpage : va % 4096 = 0) : va / 4096 % 2 ^ 36 * 4096 = va := by omega

/-- A translation request of a bay for a context of a queue it runs, in the state after the walk. -/
theorem bwXlate_hit {b wq p c va gen : Nat} {write : Bool} {e : TlbEntry} {s1 : State} (hva : va < 2 ^ 48) (hpage : va % 4096 = 0) (hlive : s.bayLive b = true)
    (hrun : (s.bayQueues b).any (fun x => x.1 == p && s.rCtx x.1 x.2 == c) = true) (hgen : s.bayRd R.BAY_STATUS_PROTO b = 1 ∨ s.stale p gen = false)
    (hhit : s.xlate ⟨b / 2, p, c, 8704 + 64 * b + wq, false, 0, 0⟩ va write = (.hit e, s1)) :
    s.bwXlate b wq p c va write gen = if s.bayRd R.BAY_STATUS_PROTO b = 1 then s1.send (.bayAts b 0 (s1.rd R.XLT_CTX_CFG_PASID 0 [p, c]) va (xlateWord e va))
      else s1.bayAnswer b 0 (masterNode (b / 2) 135) (wq * 64) false 0 gen 1 (leBytes 8 (xlateWord e va) ++ leBytes 2 (s1.epoch p c)) := by
  have hfresh : (!(s.bayRd R.BAY_STATUS_PROTO b == 1) && s.stale p gen) = false := by
    rcases hgen with h | h <;> simp [h]
  unfold State.bwXlate
  rw [pageAddr_eq hva hpage, hlive, hrun]
  dsimp only
  rw [if_neg (by decide), hfresh, if_neg Bool.false_ne_true, hhit]
  dsimp only
  simp only [beq_iff_eq]

theorem exec_bwXlate {b wq p c va gen : Nat} {write : Bool} {e : TlbEntry} {s1 : State} (hb : b < 8) (hwq : wq < 64) (hp : p < 64) (hc : c < 16)
    (hva : va < 2 ^ 48) (hpage : va % 4096 = 0) (hlive : s.bayLive b = true)
    (hrun : (s.bayQueues b).any (fun x => x.1 == p && s.rCtx x.1 x.2 == c) = true) (hgen : s.bayRd R.BAY_STATUS_PROTO b = 1 ∨ s.stale p gen = false)
    (hhit : s.xlate ⟨b / 2, p, c, 8704 + 64 * b + wq, false, 0, 0⟩ va write = (.hit e, s1)) (hask : s1.ask = []) :
    exec (.bwXlate b wq p c va write gen) s = .next ((if s.bayRd R.BAY_STATUS_PROTO b = 1 then
        s1.send (.bayAts b 0 (s1.rd R.XLT_CTX_CFG_PASID 0 [p, c]) va (xlateWord e va))
      else s1.bayAnswer b 0 (masterNode (b / 2) 135) (wq * 64) false 0 gen 1 (leBytes 8 (xlateWord e va) ++ leBytes 2 (s1.epoch p c))).withQueue s.pending) := by
  refine (within_next s _ _ (by simp [hb, hwq, hp, hc])).trans ?_
  have hit := bwXlate_hit (gen := gen) hva hpage hlive hrun hgen hhit
  rw [State.orWait_here, hit]
  rw [hit]
  split
  · exact hask
  · exact hask

theorem exec_bwInvalDone {b p c e gen : Nat} (hb : b < 8) (hp : p < 64) (hc : c < 16) (hlive : s.bayLive b = true)
    (hgen : s.bayRd R.BAY_STATUS_PROTO b = 1 ∨ s.stale p gen = false) :
    ∃ u, exec (.bwInvalDone b p c e gen) s = .next u ∧ u.invals = s.invals.map (fun (v : Inval) =>
      if v.part == p && v.ctx == c && v.epoch == e % 16 then { v with bays := v.bays.filter (· != b) } else v) ∧
      u.cfgs = s.cfgs ++ [⟨s.nextId, true, 0, b, 0, gen⟩] := by
  have hfresh : (s.bayRd R.BAY_STATUS_PROTO b != 1 && s.stale p gen) = false := by
    rcases hgen with h | h <;> simp [h]
  refine ⟨(({ s with invals := s.invals.map (fun (v : Inval) =>
      if v.part == p && v.ctx == c && v.epoch == e % 16 then { v with bays := v.bays.filter (· != b) } else v) } : State).cfgAnswer true 0 b 0 gen).withQueue s.pending,
    (within_next s _ _ (by simp [hb, hp, hc])).trans ?_, rfl, rfl⟩
  rw [hlive, hfresh]
  rfl

theorem exec_bayAbortTimeout {uid b : Nat} (dt : Nat) {w : WUnit} {e : Ending} (hunit : s.unit? uid = some w) (hkind : w.kind = .bay)
    (hending : w.ending = some e) (hstopped : w.stopped = true) (hdone : w.done = false) (hbind : s.rd R.BAY_Q_BIND_BAY 0 [w.part, w.ring - 64] = b) :
    exec (.bayAbortTimeout uid dt) s = .next ((let v := ((s.at_ dt).finishUnit { w with done := true }).bayWr R.BAY_EVENT_ABORT_TIMEOUT b 1
      if v.bayLive b then v.heelBay b 4 false else v).withQueue s.pending) := by
  have hgo : (w.kind != .bay || w.ending.isNone || !w.stopped || w.done) = false := by simp [hkind, hending, hstopped, hdone]
  refine (within_next s _ _ rfl).trans ?_
  rw [hunit]
  dsimp only
  rw [hgo, if_neg Bool.false_ne_true, hbind]

/-! ### Bay queues (R377, R390, R391) -/

theorem exec_bayQStop {p k : Nat} (hp : p < 64) (hk : k < 16) (hactive : s.rState p (64 + k) = 1) :
    exec (.bayQStop p k) s = .next ((((s.setRing p (64 + k) 2 1).endDescs p (64 + k) 5 6 true).drained p (64 + k)).withQueue s.pending) := by
  refine (within_next s _ _ (by simp [hp, hk])).trans ?_
  rw [State.ringStop, hactive]
  rfl

/-- A ring that has stopped, or is in ERROR, with no unit left, is reset (R221). -/
theorem State.ringReset_idles {p r : Nat} (hstate : s.rState p r = 3 ∨ s.rState p r = 4) (hflight : s.rFlight p r = 0) : s.ringReset p r = s.ringIdle p r :=
  if_pos (by simpa [hflight] using hstate)

theorem exec_bayQReset {p k : Nat} (hp : p < 64) (hk : k < 16) (hstate : s.rState p (64 + k) = 3 ∨ s.rState p (64 + k) = 4 ∨ s.rState p (64 + k) = 5)
    (hflight : s.rFlight p (64 + k) = 0) :
    ∃ u, exec (.bayQReset p k) s = .next u ∧ u.rState p (64 + k) = 0 ∧ u.rHead p (64 + k) = 0 ∧ u.rDone p (64 + k) = 0 := by
  by_cases hheld : s.rState p (64 + k) = 5
  · refine ⟨((s.setRing p (64 + k) 3 0).ringIdle p (64 + k)).withQueue s.pending, (within_next s _ _ (by simp [hp, hk])).trans ?_, State.ringIdle_reads⟩
    rw [if_pos ⟨hheld, hflight⟩, State.ringReset_idles (.inl (State.rState_setRing _ _ _ 3 0)) ((State.rFlight_setRing _ _ _ 3 0).trans hflight)]
  · refine ⟨(s.ringIdle p (64 + k)).withQueue s.pending, (within_next s _ _ (by simp [hp, hk])).trans ?_, State.ringIdle_reads⟩
    rw [if_neg (fun h => hheld h.1), State.ringReset_idles (by omega) hflight]

/-- A write of a register leaves a field that is neither of the register nor of its block's error register. -/
theorem State.rd_regWrite_ne {b : Blk} {d e : Nat} {ix jx : List Nat} {f : Fld} {value : Nat} {blocked : Fld → Bool} {fs : List Fld}
    (hfs : ∀ g ∈ fs, f.key e jx ≠ g.key d ix) (herr : ∀ g ∈ [b.err.1, b.err.2.1, b.err.2.2], f.key e jx ≠ g.key d (ix.take b.err.1.dims.length)) :
    (s.regWrite b d ix value blocked fs).rd f e jx = s.rd f e jx := by
  have htake : (s.each (fs.map (fun g => (g, s.putOf g d ix (bits value g.lo g.width) (blocked g)))) (State.take d ix)).rd f e jx = s.rd f e jx := by
    refine State.rd_each _ _ s (fun t x hx => ?_)
    obtain ⟨g, hg, rfl⟩ := List.mem_map.1 hx
    simp only [State.take]
    split
    · split
      · rfl
      · exact t.rd_wr_ne _ _ _ _ _ _ _ (hfs g hg)
    · rfl
  simp only [List.mem_cons, List.not_mem_nil, or_false, forall_eq_or_imp, forall_eq] at herr
  obtain ⟨hset, hmulti, hoffset⟩ := herr
  rcases s.regWrite_cases b d ix value blocked fs with ⟨off, h⟩ | h
  · rw [h]
    refine Eq.trans ?_ htake
    unfold State.cfgErr
    dsimp only
    split
    · exact State.rd_wr_ne _ _ _ _ _ _ _ _ hmulti
    · exact (State.rd_wr_ne _ _ _ _ _ _ _ _ hoffset).trans (State.rd_wr_ne _ _ _ _ _ _ _ _ hset)
  · rw [h, htake]

/-- The fields of BAY_Q_CFG (R390). -/
def bayCfgFlds : List Fld := [R.BAY_Q_CFG_ENABLE, R.BAY_Q_CFG_IRQ_ALL, R.BAY_Q_CFG_CONTEXT, R.BAY_Q_CFG_SIZE_LOG2, R.BAY_Q_CFG_INT_BAY, R.BAY_Q_CFG_BAY,
  R.BAY_Q_CFG_VECTOR]

/-- BAY_Q_CFG stands apart from the bays' own registers. -/
theorem State.bayState_bayCfg {p k v : Nat} (hp : p < 64) (hk : k < 16) (b : Nat) :
    (s.regWrite .BAY_P 0 [p, k] v (fun _ => false) bayCfgFlds).bayRd R.BAY_STATUS_STATE b = s.bayRd R.BAY_STATUS_STATE b := by
  have hplace : ∀ g ∈ bayCfgFlds, R.BAY_STATUS_STATE.clear g = true ∧ g.dims = [(64, 0x10000), (16, 0x40)] := by decide
  have herr : ∀ g ∈ [Blk.BAY_P.err.1, Blk.BAY_P.err.2.1, Blk.BAY_P.err.2.2], R.BAY_STATUS_STATE.clear g = true ∧ g.dims = [(64, 0x10000)] := by decide
  refine State.rd_regWrite_ne (fun g hg => ?_) (fun g hg => ?_)
  · obtain ⟨hclear, hdims⟩ := hplace g hg
    exact Fld.key_ne_of_clear hclear (bayIx_fits rfl b) (by rw [hdims]; exact ⟨hp, hk, trivial⟩) _ _
  · obtain ⟨hclear, hdims⟩ := herr g hg
    exact Fld.key_ne_of_clear hclear (bayIx_fits rfl b) (by rw [hdims]; exact ⟨hp, trivial⟩) _ _

theorem exec_bayQEnable {p k v : Nat} (hp : p < 64) (hk : k < 16) (hv : v < 2 ^ 32) (hen : bit v 31 = true) (hidle : s.rState p (64 + k) = 0)
    (hctx : s.rd R.PAR_CTX_CFG_STATE 0 [p, bits v 24 4] = 1)
    (howner : s.rd R.BAY_WQ_OWNER (s.rd R.BAY_Q_BIND_BAY 0 [p, k] / 2) [s.rd R.BAY_Q_BIND_BAY 0 [p, k] % 2, s.rd R.BAY_Q_BIND_WQ 0 [p, k]] = p)
    (hdepth : s.rd R.BAY_Q_LIMIT_FETCH_MAX 0 [p, k] ≤ (s.bayInfo (s.rd R.BAY_Q_BIND_BAY 0 [p, k])).depth) :
    ∃ u, exec (.bayQEnable p k v) s = .next u ∧ u.rState p (64 + k) = (if s.bayRd R.BAY_STATUS_STATE (s.rd R.BAY_Q_BIND_BAY 0 [p, k]) = 4 then 5 else 1) := by
  have hroom : ¬(s.bayInfo (s.rd R.BAY_Q_BIND_BAY 0 [p, k])).depth < s.rd R.BAY_Q_LIMIT_FETCH_MAX 0 [p, k] := by omega
  refine ⟨((s.regWrite .BAY_P 0 [p, k] v (fun _ => false) bayCfgFlds).setRing p (64 + k)
    (if s.bayRd R.BAY_STATUS_STATE (s.rd R.BAY_Q_BIND_BAY 0 [p, k]) = 4 then 5 else 1) 0).withQueue s.pending,
    (within_next s _ _ (by simp only [hp, hk, hv, decide_true, Bool.and_self])).trans ?_, ?_⟩
  · have hrefuse : (s.rd R.PAR_CTX_CFG_STATE 0 [p, bits v 24 4] == 0 || s.rd R.PAR_CTX_CFG_STATE 0 [p, bits v 24 4] == 3 ||
        s.rd R.BAY_WQ_OWNER (s.rd R.BAY_Q_BIND_BAY 0 [p, k] / 2) [s.rd R.BAY_Q_BIND_BAY 0 [p, k] % 2, s.rd R.BAY_Q_BIND_WQ 0 [p, k]] != p ||
        decide ((s.bayInfo (s.rd R.BAY_Q_BIND_BAY 0 [p, k])).depth < s.rd R.BAY_Q_LIMIT_FETCH_MAX 0 [p, k])) = false := by simp [hctx, howner, hroom]
    dsimp only
    rw [hen, hidle, hrefuse, hctx]
    rw [if_neg (by decide), if_neg (by decide), if_neg Bool.false_ne_true, if_neg (by decide)]
    change Host.Outcome.next (State.withQueue (if (s.regWrite .BAY_P 0 [p, k] v (fun _ => false) bayCfgFlds).bayRd R.BAY_STATUS_STATE _ = 4 then _ else _) _) = _
    rw [State.bayState_bayCfg hp hk]
    split <;> rfl
  · refine (State.rState_setRing _ p (64 + k) _ 0).trans ?_
    split <;> rfl

/-! ### Answers to register requests and work-port messages (R326) -/

theorem exec_cfgData {id : Nat} {x : CfgAns} (hfind : s.cfgs.find? (fun (x : CfgAns) => x.id == id && x.ack == false) = some x) (hown : x.bay = 8) :
    ∃ u, exec (.cfgData id) s = .next u ∧ u.out = s.out ++ [.reg x.value] ∧ u.cfgs = s.cfgs.erase x := by
  refine ⟨(State.send { s with cfgs := s.cfgs.erase x } (.reg x.value)).withQueue s.pending, (within_next s _ _ rfl).trans ?_, rfl, rfl⟩
  simp only [State.cfgTake, hfind, hown]
  rfl

theorem exec_cfgAck {id : Nat} {x : CfgAns} (hfind : s.cfgs.find? (fun (x : CfgAns) => x.id == id && x.ack == true) = some x) (hlive : s.bayLive x.bay = true)
    (hbay : x.bay ≠ 8) :
    ∃ u, exec (.cfgAck id) s = .next u ∧
      u.out = s.out ++ [.bayAns x.bay (rspWord 0x12 (bayNode x.bay) (masterNode (x.bay / 2) 135) x.tag false 0 x.gen x.value) []] ∧ u.cfgs = s.cfgs.erase x := by
  refine ⟨(State.send { s with cfgs := s.cfgs.erase x } (.bayAns x.bay (rspWord 0x12 (bayNode x.bay) (masterNode (x.bay / 2) 135) x.tag false 0 x.gen x.value) [])).withQueue
    s.pending, (within_next s _ _ rfl).trans ?_, rfl, rfl⟩
  have hkept : ({ s with cfgs := s.cfgs.erase x } : State).bayLive x.bay = true := hlive
  simp only [State.cfgTake, hfind, hbay, if_false, hkept, if_true]

end

/-- Settles O41: a command of the work port or of a bay queue whose checks pass is its effect. -/
theorem workPortCommandsComplete : Obligations.WorkPortCommandsComplete := by
  unfold Obligations.WorkPortCommandsComplete
  refine ⟨fun _ _ _ _ _ _ dt _ _ hb hst hunit hkind hbind hdone hlive hgen => exec_bwEnd dt hb hst hunit hkind hbind hdone hlive hgen, ?stream, ?cxl,
    fun _ _ _ _ _ _ hb hp hc hlive hgen => exec_bwInvalDone hb hp hc hlive hgen,
    fun _ dt _ _ _ _ hunit hkind hending hstopped hdone hbind => exec_bayAbortTimeout dt hunit hkind hending hstopped hdone hbind,
    fun _ _ _ hp hk hactive => exec_bayQStop hp hk hactive, fun _ _ _ hp hk hstate hflight => exec_bayQReset hp hk hstate hflight,
    fun _ _ _ _ hp hk hv hen hidle hctx howner hdepth => exec_bayQEnable hp hk hv hen hidle hctx howner hdepth,
    fun _ _ _ hfind hown => exec_cfgData hfind hown, fun _ _ _ hfind hlive hbay => exec_cfgAck hfind hlive hbay⟩
  case stream =>
    intro b wq p c va gen write e s s1 hb hwq hp hc hva hpage hlive hproto hrun hgen hhit hask
    rw [exec_bwXlate hb hwq hp hc hva hpage hlive hrun (.inr hgen) hhit hask, hproto, if_neg (by decide)]
  case cxl =>
    intro b wq p c va gen write e s s1 hb hwq hp hc hva hpage hlive hproto hrun hhit hask
    rw [exec_bwXlate hb hwq hp hc hva hpage hlive hrun (.inl hproto) hhit hask, if_pos hproto]

end Sys2Proof.Machine
end

section
/-! SUPPORT. The ring links between hub dies (R392 to R404). -/

namespace Sys2Proof.Machine

/-! ### Places on different dies, and the two ends of a link -/

/-- A field that stands within its die's register space. -/
def Fld.inDie (f : Fld) : Bool := decide (8 * (f.base + strideMax f.dims) + f.lo < 2 ^ 29)

theorem Fld.key_ne_of_die {f g : Fld} (hf : f.inDie = true) (hg : g.inDie = true) {ix jx : List Nat} (hix : idxFits f.dims ix) (hjx : idxFits g.dims jx) {d e : Nat}
    (hne : d ≠ e) : f.key d ix ≠ g.key e jx := by
  simp only [Fld.inDie, decide_eq_true_eq] at hf hg
  have hfle := strideSum_le hix
  have hgle := strideSum_le hjx
  simp only [Fld.key, Fld.offset]
  omega

theorem linkPeer_die_ne (d k : Nat) (hk : k < 2) : (linkPeer d k).1 ≠ d ∧ (linkPeer d k).1 < 4 ∧ (linkPeer d k).2 < 2 := by
  simp only [linkPeer]
  omega

/-- The registers of a link (R428). -/
theorem linkIx_fits {f : Fld} (hf : f.dims = [(2, 0x100)]) {k : Nat} (hk : k < 2) : idxFits f.dims [k] := by
  rw [hf]
  exact ⟨hk, trivial⟩

section
variable (s : State) {d k m : Nat}

/-- What is written at the other end leaves this end's registers. -/
theorem State.rd_wr_peer {f g : Fld} (hf : f.inDie = true ∧ f.dims = [(2, 0x100)]) (hg : g.inDie = true ∧ g.dims = [(2, 0x100)]) (hk : k < 2) (v : Nat) :
    (s.wr f (linkPeer d k).1 [(linkPeer d k).2] v).rd g d [k] = s.rd g d [k] := by
  obtain ⟨hne, -, hdir⟩ := linkPeer_die_ne d k hk
  exact s.rd_wr_ne _ _ _ _ _ _ _ (Fld.key_ne_of_die hg.1 hf.1 (linkIx_fits hg.2 hk) (linkIx_fits hf.2 hdir) hne.symm)

theorem State.linkErr_logs (d k code sev : Nat) : LogsOnly s (s.linkErr d k code sev) := s.err_logs d (e := .plain 3 code sev _ _) (by show 3 < 11; decide)

/-! ### Modules -/

@[simp] theorem State.ringMod_setRingMod_same (d k m : Nat) (x : RingMod) : (s.setRingMod d k m x).ringMod d k m = x := SMap.get_put_same _ _ _ _

theorem ringKey_ne {d k m e j n : Nat} (hk : k < 2) (hm : m < 16) (hj : j < 2) (hn : n < 16) (h : d ≠ e ∨ m ≠ n) : ringKey d k m ≠ ringKey e j n := by
  simp only [ringKey]
  omega

theorem State.ringMod_setRingMod_ne {e j n : Nat} (hk : k < 2) (hm : m < 16) (hj : j < 2) (hn : n < 16) (h : d ≠ e ∨ m ≠ n) (x : RingMod) :
    (s.setRingMod e j n x).ringMod d k m = s.ringMod d k m :=
  SMap.get_put_ne _ _ _ (ringKey_ne hk hm hj hn h)

/-! ### Beats (R393 to R395) -/

/-- What a hand-over changes: the credits due and outstanding of its module, and what is sent on. -/
structure Delivered (d k m : Nat) (s u : State) : Prop where
  regs : u.regs = s.regs
  mod : ∃ o w, u.ringMod d k m = { s.ringMod d k m with out := o, owed := w }

theorem State.ringDeliver_delivered (d k m : Nat) : ∀ (l : List (List Byte)) (s : State), Delivered d k m s (s.ringDeliver d k m l) ∧
    (s.ringDeliver d k m l).out = s.out ++ (l.filter itemFlit).map (fun i => .beat d k m (i.headD 0).toNat ((i.drop 1).map (·.toNat)))
  | [], s => ⟨⟨rfl, _, _, rfl⟩, (List.append_nil _).symm⟩
  | i :: l, s => by
    by_cases hflit : itemFlit i = true
    · obtain ⟨⟨hregs, o, w, hmod⟩, hout⟩ := State.ringDeliver_delivered d k m l ((s.setRingMod d k m { s.ringMod d k m with
        owed := SMap.put 0 (s.ringMod d k m).owed (itemVc i) (SMap.get 0 (s.ringMod d k m).owed (itemVc i) + 1) }).send
          (.beat d k m (i.headD 0).toNat ((i.drop 1).map (·.toNat))))
      have hstep : s.ringDeliver d k m (i :: l) = State.ringDeliver ((s.setRingMod d k m { s.ringMod d k m with
        owed := SMap.put 0 (s.ringMod d k m).owed (itemVc i) (SMap.get 0 (s.ringMod d k m).owed (itemVc i) + 1) }).send
          (.beat d k m (i.headD 0).toNat ((i.drop 1).map (·.toNat)))) d k m l := by
        simp only [State.ringDeliver, State.each, List.foldl_cons, hflit, if_true]
      rw [hstep]
      refine ⟨⟨hregs, o, w, hmod.trans ?_⟩, hout.trans ?_⟩
      · exact congrArg (fun x : RingMod => { x with out := o, owed := w }) (s.ringMod_setRingMod_same d k m _)
      · simp [State.send, State.setRingMod, hflit]
    · obtain ⟨⟨hregs, o, w, hmod⟩, hout⟩ := State.ringDeliver_delivered d k m l (s.setRingMod d k m { s.ringMod d k m with
        out := SMap.put 0 (s.ringMod d k m).out (itemVc i) (SMap.get 0 (s.ringMod d k m).out (itemVc i) - (i.getD 1 0).toNat) })
      have hstep : s.ringDeliver d k m (i :: l) = State.ringDeliver (s.setRingMod d k m { s.ringMod d k m with
        out := SMap.put 0 (s.ringMod d k m).out (itemVc i) (SMap.get 0 (s.ringMod d k m).out (itemVc i) - (i.getD 1 0).toNat) }) d k m l := by
        simp only [State.ringDeliver, State.each, List.foldl_cons, hflit, if_false, Bool.false_eq_true]
      rw [hstep]
      refine ⟨⟨hregs, o, w, hmod.trans ?_⟩, hout.trans ?_⟩
      · exact congrArg (fun x : RingMod => { x with out := o, owed := w }) (s.ringMod_setRingMod_same d k m _)
      · simp [State.setRingMod, hflit]

theorem State.rxMod_of_regs {s u : State} (h : u.regs = s.regs) (d k m : Nat) : u.rxMod d k m = s.rxMod d k m := by
  simp only [State.rxMod, State.rd, h]

/-- While a module in service has no MARK, nothing held back is delivered (R400). -/
theorem State.ringMarks_waits (hm : m < 16) (hon : s.rxMod d k m ≠ 0) (hmark : (s.ringMod d k m).marked = false) : s.ringMarks d k = s := by
  refine if_neg (fun hall => ?_)
  have hm' := List.all_eq_true.1 hall m (List.mem_filter.2 ⟨List.mem_range.2 hm, bne_iff_ne.2 hon⟩)
  rw [hmark] at hm'
  exact Bool.false_ne_true hm'

/-- The other end's next beat leaves the modules in service as they are. -/
theorem State.rxMod_ringSend {payload wire : List Byte} {s1 : State} (hk : k < 2) (h : s.ringSend (linkPeer d k).1 (linkPeer d k).2 m payload = some (s1, wire)) :
    s1.rxMod d k m = s.rxMod d k m := by
  suffices hrd : s1.rd R.DDL_RX_MODS d [k] = s.rd R.DDL_RX_MODS d [k] by rw [State.rxMod, State.rxMod, hrd]
  unfold State.ringSend at h
  dsimp only at h
  split at h
  · obtain ⟨rfl, -⟩ := Prod.mk.inj (Option.some.inj h)
    exact s.rd_wr_peer (by decide) (by decide) hk _
  · split at h
    · cases h
    · split at h
      · cases h
      · split at h
        · obtain ⟨x, -, hx⟩ := Option.map_eq_some_iff.1 h
          obtain ⟨rfl, -⟩ := Prod.mk.inj hx
          have hcount : ∀ (t : State) (g : Fld) (n : Nat), g ∈ [R.FLL_CW_FLITS, R.FLL_CW_SLOTTED, R.FLL_CCW_FLITS, R.FLL_CCW_SLOTTED] →
              (t.bump g (linkPeer d k).1 [] n).rd R.DDL_RX_MODS d [k] = t.rd R.DDL_RX_MODS d [k] := by
            intro t g n hg
            have hclear : ∀ g ∈ [R.FLL_CW_FLITS, R.FLL_CW_SLOTTED, R.FLL_CCW_FLITS, R.FLL_CCW_SLOTTED], R.DDL_RX_MODS.clear g = true ∧ g.dims = [] := by decide
            obtain ⟨hg', hdims⟩ := hclear g hg
            exact t.rd_wr_clear hg' _ (linkIx_fits rfl hk) (by rw [hdims]; trivial)
          show (s.countFlits (linkPeer d k).1 (linkPeer d k).2 _).rd R.DDL_RX_MODS d [k] = _
          simp only [State.countFlits]
          split
          · exact (hcount _ _ _ (by decide)).trans (hcount _ _ _ (by decide))
          · exact (hcount _ _ _ (by decide)).trans (hcount _ _ _ (by decide))
        · cases h

theorem exec_ringBeat (hd : d < 4) (hk : k < 2) (hm : m < 16) (payload noise : List Byte) (dt : Nat) :
    exec (.ringBeat d k m payload noise dt) s = .next (((s.at_ dt).ringBeat d k m payload noise).withQueue s.pending) :=
  within_next s _ _ (by simp [hd, hk, hm])

end

section
variable {s s1 : State} {d k m : Nat} {payload noise wire rest : List Byte} {items : List (List Byte)}

/-- What a beat that arrives does, by its CRC and its items. -/
theorem State.ringBeat_arrives (hup : s.linkUp d k = true) (hon : s.rxMod d k m ≠ 0)
    (hsend : s.ringSend (linkPeer d k).1 (linkPeer d k).2 m payload = some (s1, wire)) :
    s.ringBeat d k m payload noise =
      match (if beatCrc (withNoise wire noise) = leNat ((withNoise wire noise).take 4) % 2 ^ 16 then
        ringItems 300 ((s1.ringMod d k m).part ++ (withNoise wire noise).drop 4) else none) with
      | none => (s1.bump R.DDL_CRC_ERR d [k] 1).setRingMod d k m
          { s1.ringMod d k m with skip := true, nak := true, crcAt := (s1.now :: (s1.ringMod d k m).crcAt).take 65 }
      | some (items, rest) =>
        let w := leNat ((withNoise wire noise).take 4)
        let me := s1.ringMod d k m
        if me.skip && !bit w 30 then s1
        else if bit w 31 && bit w 30 && bit w 29 then s1.dieGone d k 4
        else
          let me := { (me.acks (bits w 16 12) (bit w 31)) with skip := false, good := (me.good + 1) % 4096, part := rest }
          if me.marked then s1.setRingMod d k m { me with held := me.held ++ items }
          else ((s1.setRingMod d k m { me with marked := bit w 29 }).ringDeliver d k m items).ringMarks d k := by
  have hgo : ¬(!s.linkUp d k || s.rxMod d k m == 0) = true := by simp [hup, hon]
  refine (if_neg hgo).trans ?_
  rw [hsend] <;> rfl

theorem RingMod.acks_marked (x : RingMod) (ack : Nat) (nak : Bool) : (x.acks ack nak).marked = x.marked := by
  unfold RingMod.acks
  dsimp only
  split <;> split <;> rfl

/-- A good beat is acknowledged and its items delivered. -/
theorem State.ringBeat_good (hup : s.linkUp d k = true) (hm : m < 16) (hk : k < 2) (hon : s.rxMod d k m ≠ 0)
    (hsend : s.ringSend (linkPeer d k).1 (linkPeer d k).2 m payload = some (s1, wire))
    (hcrc : beatCrc (withNoise wire noise) = leNat ((withNoise wire noise).take 4) % 2 ^ 16)
    (hitems : ringItems 300 ((s1.ringMod d k m).part ++ (withNoise wire noise).drop 4) = some (items, rest))
    (hskip : (s1.ringMod d k m).skip = false) (hmarked : (s1.ringMod d k m).marked = false) (hmark : bit (leNat ((withNoise wire noise).take 4)) 29 = false) :
    (s.ringBeat d k m payload noise).out = s1.out ++ (items.filter itemFlit).map (fun i => .beat d k m (i.headD 0).toNat ((i.drop 1).map (·.toNat))) ∧
      ((s.ringBeat d k m payload noise).ringMod d k m).good = ((s1.ringMod d k m).good + 1) % 4096 ∧
      ((s.ringBeat d k m payload noise).ringMod d k m).part = rest ∧ ((s.ringBeat d k m payload noise).ringMod d k m).skip = false := by
  rw [State.ringBeat_arrives hup hon hsend, if_pos hcrc, hitems]
  simp only [hskip, hmark, Bool.false_and, Bool.and_false, Bool.false_eq_true, if_false, RingMod.acks_marked, hmarked]
  obtain ⟨⟨hregs, o, w, hmod⟩, hout⟩ := State.ringDeliver_delivered d k m items (s1.setRingMod d k m
    { (s1.ringMod d k m).acks (bits (leNat ((withNoise wire noise).take 4)) 16 12) (bit (leNat ((withNoise wire noise).take 4)) 31) with
      skip := false, good := ((s1.ringMod d k m).good + 1) % 4096, part := rest, marked := false })
  rw [State.ringMod_setRingMod_same] at hmod
  rw [State.ringMarks_waits _ hm ?_ (by rw [hmod])]
  · exact ⟨hout, by rw [hmod], by rw [hmod], by rw [hmod]⟩
  · rw [← s.rxMod_ringSend hk hsend] at hon
    exact (State.rxMod_of_regs (s := s1) hregs d k m).trans_ne hon

end

/-! ### Acknowledgements and replays (R395) -/

theorem RingMod.acks_frees {x : RingMod} {ack : Nat} (hnew : 0 < (ack + 4096 - x.acked) % 4096) (hsent : (ack + 4096 - x.acked) % 4096 ≤ x.unacked.length) :
    (x.acks ack false).unacked = x.unacked.drop ((ack + 4096 - x.acked) % 4096) ∧ (x.acks ack false).acked = ack ∧ (x.acks ack false).replayed = 0 ∧
      ((ack + 4096 - x.acked) % 4096 < x.unacked.length →
        (x.acks ack true).resend = x.unacked.length - (ack + 4096 - x.acked) % 4096 ∧ (x.acks ack true).first = true) := by
  unfold RingMod.acks
  simp only [hnew, hsent, and_self, if_true, Bool.false_and, Bool.false_eq_true, if_false, Bool.true_and, true_and]
  intro hleft
  have hrest : (x.unacked.drop ((ack + 4096 - x.acked) % 4096)).isEmpty = false := by
    rw [List.isEmpty_eq_false_iff, ← List.length_pos_iff, List.length_drop]
    omega
  simp [hrest]

theorem State.ringSend_replays (s : State) {d k m : Nat} (payload : List Byte) (h : 0 < (s.ringMod d k m).resend) :
    s.ringSend d k m payload = some ((s.bump R.DDL_REPLAYS d [k] 1).setRingMod d k m ((s.ringMod d k m).sent ((s.ringMod d k m).next payload)),
      beatWire ((s.ringMod d k m).next payload).1 (s.ringMod d k m).good
        ((s.ringMod d k m).unacked.getD ((s.ringMod d k m).unacked.length - (s.ringMod d k m).resend) (0, [])).2) := by
  refine (if_pos h).trans ?_
  simp only [RingMod.next, h, if_true]

theorem State.ringSend_full (s : State) {d k m : Nat} (payload : List Byte) (h : (s.ringMod d k m).resend = 0) (hfull : 256 ≤ (s.ringMod d k m).unacked.length) :
    s.ringSend d k m payload = none := by
  refine (if_neg (by omega)).trans ?_
  rw [if_pos hfull]

/-! ### Degrade (R398 to R401) -/

section
variable {s : State} {d k m : Nat}

/-- A module direction that must retrain, with its counts cleared at both ends (R398). -/
def State.retrained (s : State) (d k m : Nat) : State :=
  (s.setRingMod (linkPeer d k).1 (linkPeer d k).2 m { s.ringMod (linkPeer d k).1 (linkPeer d k).2 m with crcAt := [] }).setRingMod d k m
    { (s.setRingMod (linkPeer d k).1 (linkPeer d k).2 m { s.ringMod (linkPeer d k).1 (linkPeer d k).2 m with crcAt := [] }).ringMod d k m with replayed := 0 }

theorem State.repaired_retrained (hk : k < 2) (hm : m < 16) : ((s.retrained d k m).ringMod d k m).repaired = (s.ringMod d k m).repaired := by
  obtain ⟨hne, -, hdir⟩ := linkPeer_die_ne d k hk
  rw [State.retrained, State.ringMod_setRingMod_same, State.ringMod_setRingMod_ne _ hk hm hdir hm (.inl hne.symm)]

/-- What a retrain comes to, by the lanes that fail. -/
theorem State.modRetrain_eq (hk : k < 2) (hm : m < 16) (hup : s.linkUp d k = true) (hon : s.txMod d k m ≠ 0) (hmust : s.mustRetrain d k m = true) (failing : List Nat) :
    s.modRetrain d k m failing =
      if ((failing.filter (· < 64)).dedup).isEmpty then s.retrained d k m
      else if (s.ringMod d k m).repaired + ((failing.filter (· < 64)).dedup).length ≤ 4 then
        ((((s.retrained d k m).setRingMod d k m { (s.retrained d k m).ringMod d k m with
          repaired := (s.ringMod d k m).repaired + ((failing.filter (· < 64)).dedup).length }).bump R.DDL_REPAIRS d [k] ((failing.filter (· < 64)).dedup).length).wr
            R.DDL_EVENT_REPAIR d [k] 1).linkErr d k 1 0
      else ((((((s.retrained d k m).setMod d k m (if ((failing.filter (· < 64)).dedup).all (fun l => decide (32 ≤ l)) ||
        ((failing.filter (· < 64)).dedup).all (fun l => decide (l < 32)) then 1 else 0)).wr R.DDL_EVENT_DEGRADE d [k] 1).linkErr d k 2 0).ringMarks
        (linkPeer d k).1 (linkPeer d k).2).linkEmpty d k) := by
  have hgo : ¬(!s.linkUp d k || s.txMod d k m == 0 || !s.mustRetrain d k m) = true := by simp [hup, hon, hmust]
  refine (if_neg hgo).trans ?_
  rw [← s.repaired_retrained hk hm]
  rfl

theorem exec_ringModuleRetrain (hd : d < 4) (hk : k < 2) (hm : m < 16) (hup : s.linkUp d k = true) (hon : s.txMod d k m ≠ 0)
    (hmust : s.mustRetrain d k m = true) (failing : List Nat) :
    ((failing.filter (· < 64)).dedup = [] → exec (.ringModuleRetrain d k m failing) s = .next ((s.retrained d k m).withQueue s.pending)) ∧
    ((failing.filter (· < 64)).dedup ≠ [] → (s.ringMod d k m).repaired + ((failing.filter (· < 64)).dedup).length ≤ 4 →
      ∃ v : State, exec (.ringModuleRetrain d k m failing) s = .next ((v.linkErr d k 1 0).withQueue s.pending) ∧
        (v.ringMod d k m).repaired = (s.ringMod d k m).repaired + ((failing.filter (· < 64)).dedup).length ∧ v.rdB R.DDL_EVENT_REPAIR d [k] = true) ∧
    (4 < (s.ringMod d k m).repaired + ((failing.filter (· < 64)).dedup).length → (failing.filter (· < 64)).dedup ≠ [] →
      exec (.ringModuleRetrain d k m failing) s = .next (((((((s.retrained d k m).setMod d k m (if ((failing.filter (· < 64)).dedup).all (fun l => decide (32 ≤ l)) ||
        ((failing.filter (· < 64)).dedup).all (fun l => decide (l < 32)) then 1 else 0)).wr R.DDL_EVENT_DEGRADE d [k] 1).linkErr d k 2 0).ringMarks
        (linkPeer d k).1 (linkPeer d k).2).linkEmpty d k).withQueue s.pending)) := by
  have hexec : exec (.ringModuleRetrain d k m failing) s = .next ((s.modRetrain d k m failing).withQueue s.pending) := within_next s _ _ (by simp [hd, hk, hm])
  rw [State.modRetrain_eq hk hm hup hon hmust] at hexec
  refine ⟨fun hnone => ?_, fun hsome hfew => ?_, fun hmany hsome => ?_⟩
  · rw [hexec, hnone]
    rfl
  · rw [if_neg (by simpa using hsome), if_pos hfew] at hexec
    exact ⟨_, hexec, congrArg RingMod.repaired (State.ringMod_setRingMod_same _ d k m _), bne_iff_ne.2 (by rw [State.rd_wr_same]; decide)⟩
  · rw [hexec, if_neg (by simpa using hsome), if_neg (by omega)]

end

end Sys2Proof.Machine
end

section
/-! SUPPORT. Ring links: restripe, loss, training and management frames (R396 to R404). -/

namespace Sys2Proof.Machine

section
variable {s : State} {d k : Nat}

theorem State.ringMod_withQueue (s : State) (q : List Instr) (d k m : Nat) : (s.withQueue q).ringMod d k m = s.ringMod d k m := rfl

/-! ### Restripe (R400, R401) -/

/-- A new C is recorded and shown (R401). -/
theorem State.linkScale_logs (s : State) (d k : Nat) :
    s.linkScale d k = s ∧ s.linkC d k = s.rd R.DDL_CAP_C_TX d [k] ∨
      LogsOnly ((s.wr R.DDL_CAP_C_TX d [k] (s.linkC d k)).wr R.DDL_EVENT_SCALED d [k] 1) (s.linkScale d k) := by
  by_cases hsame : s.linkC d k = s.rd R.DDL_CAP_C_TX d [k]
  · exact .inl ⟨if_pos hsame, hsame⟩
  · refine .inr ?_
    rw [State.linkScale, if_neg hsame]
    exact State.err_logs _ d (e := .plain 5 1 0 _ _) (by show 5 < 11; decide)

theorem State.cap_linkScale (s : State) (hk : k < 2) (hnew : s.linkC d k ≠ s.rd R.DDL_CAP_C_TX d [k]) :
    (s.linkScale d k).rd R.DDL_CAP_C_TX d [k] = s.linkC d k % 2 ^ R.DDL_CAP_C_TX.width := by
  rcases s.linkScale_logs d k with ⟨-, hsame⟩ | h
  · exact absurd hsame hnew
  · rw [h.rd (by decide) d (linkIx_fits rfl hk), State.rd_wr_apart _ (by decide), State.rd_wr_same]

theorem State.ringMod_linkScale (s : State) (d k e j m : Nat) : (s.linkScale d k).ringMod e j m = s.ringMod e j m := by
  rcases s.linkScale_logs d k with ⟨h, -⟩ | h
  · rw [h]
  · exact h.part (fun t => t.ringMod e j m)

/-- One module of a link changes: what holds of the others stays. -/
theorem State.ringMod_setRingMod_cases (s : State) (d k m n : Nat) (x : RingMod) :
    (s.setRingMod d k n x).ringMod d k m = x ∧ s.ringMod d k m = s.ringMod d k n ∨ (s.setRingMod d k n x).ringMod d k m = s.ringMod d k m := by
  by_cases h : ringKey d k m = ringKey d k n
  · refine .inl ⟨?_, ?_⟩
    · simp only [State.ringMod, State.setRingMod, h, SMap.get_put_same]
    · simp only [State.ringMod, h]
  · exact .inr (SMap.get_put_ne _ _ _ h)

/-- Changes of a module that keep a part of it keep that part of every module. -/
theorem State.ringMod_setRingMod_part {α : Type} (g : RingMod → α) (s : State) (d k m n : Nat) {x : RingMod} (h : g x = g (s.ringMod d k n)) :
    g ((s.setRingMod d k n x).ringMod d k m) = g (s.ringMod d k m) := by
  rcases s.ringMod_setRingMod_cases d k m n x with ⟨hx, hs⟩ | hne
  · rw [hx, hs, h]
  · rw [hne]

/-- A module that is OFF has nothing left to send. -/
def State.stripeOff (d k : Nat) (s : State) (m : Nat) : State := s.setRingMod d k m
  { s.ringMod d k m with unacked := [], resend := 0, first := false, replayed := 0, markDue := false, again := [], begun := [], txPart := [], out := [] }

/-- One flit of such a module goes to a module of the list. -/
def State.stripeMove (d k : Nat) (list srcs : List Nat) (s : State) (x : List Byte × Nat) : State :=
  let m := list.getD (ringHash ((s.flitKey x.1).getD (srcs.getD x.2 0 % 4096 * 2 ^ 12 + (dataFlit (leNat (x.1.drop 1))).dest)) % list.length) 0
  s.setRingMod d k m { s.ringMod d k m with again := (s.ringMod d k m).again ++ [x.1] }

/-- A module is to send MARK. -/
def State.stripeMark (d k : Nat) (s : State) (m : Nat) : State := s.setRingMod d k m { s.ringMod d k m with markDue := true }

/-- The flits of the modules that are OFF. -/
def State.stripeItems (s : State) (d k : Nat) : List (List Byte) :=
  ((List.range 16).filter (fun m => s.txMod d k m == 0)).flatMap (fun m =>
    let x := s.ringMod d k m
    let bs := x.begun ++ beatBytes x.unacked
    (((ringItems bs.length bs).map (·.1)).getD []).filter itemFlit ++ x.again)

/-- The flits have their new modules. -/
def State.stripeMoved (s : State) (d k : Nat) (srcs : List Nat) : State :=
  (s.each ((List.range 16).filter (fun m => s.txMod d k m == 0)) (State.stripeOff d k)).each
    ((s.stripeItems d k).zip (List.range (s.stripeItems d k).length)) (State.stripeMove d k (s.modList d k) srcs)

/-- Every module in service is to send MARK. -/
def State.striped (s : State) (d k : Nat) (srcs : List Nat) : State :=
  (s.stripeMoved d k srcs).each ((List.range 16).filter (fun m => (s.stripeMoved d k srcs).txMod d k m != 0)) (State.stripeMark d k)

theorem State.each_regs {α : Type} (f : State → α → State) (hf : ∀ t a, (f t a).regs = t.regs) (l : List α) (s : State) : (s.each l f).regs = s.regs :=
  State.each_keeps (fun u => u.regs = s.regs) f (fun u a hu => (hf u a).trans hu) l s rfl

theorem State.stripeMoved_regs (s : State) (d k : Nat) (srcs : List Nat) : (s.stripeMoved d k srcs).regs = s.regs :=
  (State.each_regs (State.stripeMove d k _ srcs) (fun _ _ => rfl) _ _).trans (State.each_regs (State.stripeOff d k) (fun _ _ => rfl) _ _)

theorem State.striped_regs (s : State) (d k : Nat) (srcs : List Nat) : (s.striped d k srcs).regs = s.regs :=
  (State.each_regs (State.stripeMark d k) (fun _ _ => rfl) _ _).trans (s.stripeMoved_regs d k srcs)

theorem State.txMod_of_regs {s u : State} (h : u.regs = s.regs) (d k m : Nat) : u.txMod d k m = s.txMod d k m := by
  simp only [State.txMod, State.rd, h]

theorem State.linkC_of_regs {s u : State} (h : u.regs = s.regs) (d k : Nat) : u.linkC d k = s.linkC d k := by
  simp only [State.linkC, State.txMod_of_regs h]

theorem State.striped_marks (s : State) (d k : Nat) (srcs : List Nat) {m : Nat} (hm : m < 16) (hon : s.txMod d k m ≠ 0) :
    ((s.striped d k srcs).ringMod d k m).markDue = true := by
  refine State.each_establishes (fun m u => (u.ringMod d k m).markDue = true) (State.stripeMark d k) (fun u n => ?_) (fun u m n hu => ?_) _ _ m
    (List.mem_filter.2 ⟨List.mem_range.2 hm, bne_iff_ne.2 ((State.txMod_of_regs (s.stripeMoved_regs d k srcs) d k m).trans_ne hon)⟩)
  · exact congrArg RingMod.markDue (u.ringMod_setRingMod_same d k n _)
  · rcases u.ringMod_setRingMod_cases d k m n { u.ringMod d k n with markDue := true } with ⟨hx, -⟩ | hne
    · exact congrArg RingMod.markDue hx
    · exact (congrArg RingMod.markDue hne).trans hu

theorem State.striped_clears (s : State) (d k : Nat) (srcs : List Nat) {m : Nat} (hm : m < 16) (hoff : s.txMod d k m = 0) :
    ((s.striped d k srcs).ringMod d k m).unacked = [] := by
  refine State.each_keeps (fun u => (u.ringMod d k m).unacked = []) (State.stripeMark d k)
    (fun u n hu => (State.ringMod_setRingMod_part RingMod.unacked u d k m n (by rfl)).trans hu) _ _ ?_
  refine State.each_keeps (fun u => (u.ringMod d k m).unacked = []) (State.stripeMove d k (s.modList d k) srcs)
    (fun u x hu => (State.ringMod_setRingMod_part RingMod.unacked u d k m _ (by rfl)).trans hu) _ _ ?_
  refine State.each_establishes (fun m u => (u.ringMod d k m).unacked = []) (State.stripeOff d k) (fun u n => ?_) (fun u m n hu => ?_) _ s m
    (List.mem_filter.2 ⟨List.mem_range.2 hm, beq_iff_eq.2 hoff⟩)
  · exact congrArg RingMod.unacked (u.ringMod_setRingMod_same d k n _)
  · rcases u.ringMod_setRingMod_cases d k m n { u.ringMod d k n with
      unacked := [], resend := 0, first := false, replayed := 0, markDue := false, again := [], begun := [], txPart := [], out := [] } with ⟨hx, -⟩ | hne
    · exact congrArg RingMod.unacked hx
    · exact (congrArg RingMod.unacked hne).trans hu

theorem exec_ringRestripe (hd : d < 4) (hk : k < 2) (hup : s.linkUp d k = true) (hnew : s.linkC d k ≠ s.rd R.DDL_CAP_C_TX d [k])
    (hmarks : ∀ m < 16, s.txMod d k m ≠ 0 → (s.ringMod d k m).markDue = false) (srcs : List Nat) :
    exec (.ringRestripe d k srcs) s = .next (((s.striped d k srcs).linkScale d k).withQueue s.pending) := by
  have hgo : ¬(!s.linkUp d k || s.linkC d k == s.rd R.DDL_CAP_C_TX d [k] ||
      (List.range 16).any (fun m => s.txMod d k m != 0 && (s.ringMod d k m).markDue)) = true := by
    simp only [hup, Bool.not_true, Bool.false_or, Bool.or_eq_true, beq_iff_eq, hnew, false_or, List.any_eq_true, List.mem_range, Bool.and_eq_true, bne_iff_ne, not_exists,
      not_and]
    intro m hm hon
    rw [hmarks m hm hon]
    exact Bool.false_ne_true
  refine (within_next s _ _ (by simp [hd, hk])).trans ?_
  rw [State.restripe, if_neg hgo]
  rfl

/-! ### Loss (R402, R403) -/

theorem exec_ringLinkLost {u : State} (goodbye : Bool) (hd : d < 4) (hk : k < 2) (hon : s.linkOn d k = true) (hu : u = s.edgeHeel d k)
    (hfar : SMap.get 0 u.dies (linkPeer d k).1 ≠ 1) :
    exec (.ringLinkLost goodbye d k) s = .next ((u.takeDown (u.island (linkPeer d k).1) (if goodbye then 4 else 5) (dieNode (linkPeer d k).1) 0
      (u.recDie (u.island (linkPeer d k).1))).withQueue s.pending) := by
  subst hu
  refine (within_next s _ _ (by simp [hd, hk])).trans ?_
  rw [State.dieGone, hon]
  exact congrArg (fun t : State => Host.Outcome.next (t.withQueue s.pending)) (if_neg hfar)

/-- A module's clock is gone, and another's is not. -/
theorem exec_ringModuleClockLoss {ms : List Nat} (hd : d < 4) (hk : k < 2) (hup : s.linkUp d k = true) (hsome : ∃ m < 16, m ∈ ms ∧ s.rxMod d k m ≠ 0)
    (hleft : ∃ m < 16, m ∉ ms ∧ s.rxMod d k m ≠ 0) :
    exec (.ringModuleClockLoss d k ms) s = .next ((((((s.each ((List.range 16).filter (fun m => ms.contains m && s.rxMod d k m != 0)) (fun s m =>
      s.setMod (linkPeer d k).1 (linkPeer d k).2 m 0)).wr R.DDL_EVENT_DEGRADE (linkPeer d k).1 [(linkPeer d k).2] 1).linkErr (linkPeer d k).1 (linkPeer d k).2 2 0)
      ).ringMarks d k).withQueue s.pending) := by
  obtain ⟨m, hm, hin, hmon⟩ := hsome
  obtain ⟨n, hn, hout, hnon⟩ := hleft
  have hany : ((List.range 16).filter (fun m => ms.contains m && s.rxMod d k m != 0)).isEmpty = false := by
    rw [List.isEmpty_eq_false_iff]
    exact List.ne_nil_of_mem (List.mem_filter.2 ⟨List.mem_range.2 hm, by simp [hin, hmon]⟩)
  have hsub : (List.range 16).filter (fun m => ms.contains m && s.rxMod d k m != 0) =
      ((List.range 16).filter (fun m => s.rxMod d k m != 0)).filter (fun m => ms.contains m) := by rw [List.filter_filter]
  have hfew : ((List.range 16).filter (fun m => ms.contains m && s.rxMod d k m != 0)).length ≠ ((List.range 16).filter (fun m => s.rxMod d k m != 0)).length := by
    rw [hsub]
    have hmem : n ∈ (List.range 16).filter (fun m => s.rxMod d k m != 0) := List.mem_filter.2 ⟨List.mem_range.2 hn, bne_iff_ne.2 hnon⟩
    exact (List.length_filter_lt_length_iff_exists.2 ⟨n, hmem, by simpa using hout⟩).ne
  have hgo : ¬(!s.linkUp d k || ((List.range 16).filter (fun m => ms.contains m && s.rxMod d k m != 0)).isEmpty ||
      ((List.range 16).filter (fun m => ms.contains m && s.rxMod d k m != 0)).length == ((List.range 16).filter (fun m => s.rxMod d k m != 0)).length) = true := by
    rw [hup, hany, beq_false_of_ne hfew]
    decide
  exact (within_next s _ _ (by simp [hd, hk])).trans (congrArg (fun t : State => Host.Outcome.next (t.withQueue s.pending)) (if_neg hgo))

/-! ### Training (R396, R397) -/

/-- The modules of a direction as training leaves them. -/
def cleanMods (v : Nat) : Nat := (List.range 16).foldl (fun n m => n + min 2 (bits v (2 * m) 2) * 4 ^ m) 0

theorem foldl_add_pos {f : Nat → Nat} : ∀ (l : List Nat) (n : Nat), (0 < n ∨ ∃ m ∈ l, 0 < f m) → 0 < l.foldl (fun n m => n + f m) n
  | [], n, h => by simpa using h
  | a :: l, n, h => by
    refine foldl_add_pos l (n + f a) ?_
    rcases h with hn | ⟨m, hm, hf⟩
    · exact .inl (by omega)
    · rcases List.mem_cons.1 hm with rfl | hm
      · exact .inl (by omega)
      · exact .inr ⟨m, hm, hf⟩

theorem cleanMods_ne_zero {v : Nat} (h : ∃ m < 16, bits v (2 * m) 2 ≠ 0) : cleanMods v ≠ 0 := by
  obtain ⟨m, hm, hv⟩ := h
  refine Nat.ne_of_gt (foldl_add_pos _ 0 (.inr ⟨m, List.mem_range.2 hm, Nat.mul_pos ?_ (Nat.pow_pos (by decide))⟩))
  omega

/-- One end of a link as training leaves it. -/
def State.trainEnd (s : State) (d k st gen tx rx lat : Nat) : State :=
  s.wrs d [k] [(R.DDL_STATUS_STATE, st), (R.DDL_STATUS_LINK_GEN, gen), (R.DDL_TX_MODS, tx), (R.DDL_RX_MODS, rx), (R.DDL_LATENCY, lat)]

theorem State.state_trainEnd_same (s : State) (d k st gen tx rx lat : Nat) : (s.trainEnd d k st gen tx rx lat).rd R.DDL_STATUS_STATE d [k] = st % 16 := by
  rw [State.trainEnd, State.wrs_cons]
  exact (State.rd_wrs_apart _ _ _ _ (by rfl)).trans (State.rd_wr_same _ _ _ _ _)

theorem State.state_trainEnd_peer (s : State) (hk : k < 2) (st gen tx rx lat : Nat) :
    (s.trainEnd (linkPeer d k).1 (linkPeer d k).2 st gen tx rx lat).rd R.DDL_STATUS_STATE d [k] = s.rd R.DDL_STATUS_STATE d [k] := by
  simp only [State.trainEnd, State.wrs_cons, State.wrs_nil]
  rw [State.rd_wr_peer _ (by decide) (by decide) hk, State.rd_wr_peer _ (by decide) (by decide) hk, State.rd_wr_peer _ (by decide) (by decide) hk,
    State.rd_wr_peer _ (by decide) (by decide) hk, State.rd_wr_peer _ (by decide) (by decide) hk]

/-- A change of C leaves the links UP. -/
theorem State.linkState_linkScale (s : State) (d k : Nat) {e j : Nat} (hj : j < 2) : (s.linkScale d k).rd R.DDL_STATUS_STATE e [j] = s.rd R.DDL_STATUS_STATE e [j] := by
  rcases s.linkScale_logs d k with ⟨h, -⟩ | h
  · rw [h]
  · rw [h.rd (by decide) e (linkIx_fits rfl hj), State.rd_wr_ne _ _ _ _ _ _ _ _ ?_, State.rd_wr_ne _ _ _ _ _ _ _ _ ?_] <;>
      simp only [Fld.key, Fld.offset, strideSum, R.DDL_STATUS_STATE, R.DDL_EVENT_SCALED, R.DDL_CAP_C_TX] <;> omega

/-- Both ends of a link as training leaves them, before C follows. -/
def State.trained (s : State) (d k st gen tx rx lat : Nat) : State :=
  { (s.trainEnd d k st gen tx rx lat).trainEnd (linkPeer d k).1 (linkPeer d k).2 st gen rx tx lat with
    ringMods := SMap.keep (fun n => n / 16 != d * 2 + k && n / 16 != (linkPeer d k).1 * 2 + (linkPeer d k).2) s.ringMods }

theorem State.rd_trained (s : State) (st gen tx rx lat : Nat) (f : Fld) (e : Nat) (jx : List Nat) : (s.trained d k st gen tx rx lat).rd f e jx =
    ((s.trainEnd d k st gen tx rx lat).trainEnd (linkPeer d k).1 (linkPeer d k).2 st gen rx tx lat).rd f e jx := rfl

/-- The generation that both ends take (R397). -/
def State.nextGen (s : State) (d k : Nat) : Nat :=
  (max (s.rd R.DDL_STATUS_LINK_GEN d [k]) (s.rd R.DDL_STATUS_LINK_GEN (linkPeer d k).1 [(linkPeer d k).2]) + 1) % 256

theorem State.linkTrain_eq (hdie : SMap.get 0 s.dies d ≠ 1) (hfar : SMap.get 0 s.dies (linkPeer d k).1 ≠ 1) (hstate : s.rd R.DDL_STATUS_STATE d [k] = 0)
    (hpeer : s.rd R.DDL_STATUS_STATE (linkPeer d k).1 [(linkPeer d k).2] = 0) (tx rx lat : Nat) :
    s.linkTrain d k tx rx lat = ((s.trained d k (if cleanMods tx != 0 && cleanMods rx != 0 then 2 else 0) (s.nextGen d k) (cleanMods tx) (cleanMods rx) lat).linkScale
      d k).linkScale (linkPeer d k).1 (linkPeer d k).2 := by
  have hgo : ∀ reinit : Bool, ¬(SMap.get 0 s.dies d == 1 || SMap.get 0 s.dies (linkPeer d k).1 == 1 ||
      ((s.rd R.DDL_STATUS_STATE d [k] == 3 || s.rd R.DDL_STATUS_STATE (linkPeer d k).1 [(linkPeer d k).2] == 3) && !reinit) ||
      (s.rd R.DDL_STATUS_STATE d [k] == 2 && s.rd R.DDL_STATUS_STATE (linkPeer d k).1 [(linkPeer d k).2] == 2)) = true := by
    intro reinit
    simp [hdie, hfar, hstate, hpeer]
  unfold State.linkTrain
  dsimp only
  rw [if_neg (hgo _)]
  rfl

/-- A link that both ends train, with a module each way, is UP. -/
theorem State.linkUp_linkTrain (hk : k < 2) (hdie : SMap.get 0 s.dies d ≠ 1) (hfar : SMap.get 0 s.dies (linkPeer d k).1 ≠ 1)
    (hstate : s.rd R.DDL_STATUS_STATE d [k] = 0) (hpeer : s.rd R.DDL_STATUS_STATE (linkPeer d k).1 [(linkPeer d k).2] = 0) {tx rx : Nat} (lat : Nat)
    (htx : ∃ m < 16, bits tx (2 * m) 2 ≠ 0) (hrx : ∃ m < 16, bits rx (2 * m) 2 ≠ 0) : (s.linkTrain d k tx rx lat).linkUp d k = true := by
  obtain ⟨-, -, hdir⟩ := linkPeer_die_ne d k hk
  have hup : (cleanMods tx != 0 && cleanMods rx != 0) = true := by simp [cleanMods_ne_zero htx, cleanMods_ne_zero hrx]
  have hnear : ∀ gen cx cr, (s.trained d k 2 gen cx cr lat).rd R.DDL_STATUS_STATE d [k] = 2 := by
    intro gen cx cr
    rw [State.rd_trained, State.state_trainEnd_peer _ hk, State.state_trainEnd_same]
  have hend : ∀ gen cx cr, (s.trained d k 2 gen cx cr lat).rd R.DDL_STATUS_STATE (linkPeer d k).1 [(linkPeer d k).2] = 2 := by
    intro gen cx cr
    rw [State.rd_trained, State.state_trainEnd_same]
  rw [State.linkTrain_eq hdie hfar hstate hpeer, if_pos hup, State.linkUp, State.linkState_linkScale _ _ _ hk, State.linkState_linkScale _ _ _ hk,
    State.linkState_linkScale _ _ _ hdir, State.linkState_linkScale _ _ _ hdir, hnear, hend]
  rfl

/-! ### Management frames (R404) -/

/-- A frame of the link's own generation is taken. -/
theorem State.dieFrame_current {gen : Nat} (kind src : Nat) (data : List Nat) (hdie : SMap.get 0 s.dies d ≠ 1)
    (hmine : s.rd R.DDL_STATUS_LINK_GEN d [k] = gen) :
    s.dieFrame d k gen kind src data =
      if kind = 0 then s.wr R.DDL_STATUS_LINK_GEN d [k] (gen % 256)
      else if kind = 1 && d == 0 && decide (src < 4) then
        (s.wrs 0 [src] [(R.SEC_DIE_STATE_STATE, data.getD 0 0), (R.SEC_DIE_STATE_DIE_GEN, data.getD 1 0), (R.SEC_DIE_SVN_COLLAR, data.getD 2 0),
          (R.SEC_DIE_SVN_PACK, data.getD 3 0)]).each (List.range 16) (fun s k =>
            (s.wr R.SEC_COLLAR_MEAS 0 [src, k] (data.getD (4 + k) 0)).wr R.SEC_PACK_MEAS 0 [src, k] (data.getD (20 + k) 0))
      else if kind = 2 && d == 0 then
        ({ s with deadChans := (s.deadChans ++ data.filter (fun c => decide (c < 512) && !s.deadChans.contains c)) }).each (List.range 4) State.showDead
      else s := by
  have hgo : ¬(SMap.get 0 s.dies d = 1 ∨ 0 < (s.rd R.DDL_STATUS_LINK_GEN d [k] + 256 - gen % 256) % 256 ∧
      (s.rd R.DDL_STATUS_LINK_GEN d [k] + 256 - gen % 256) % 256 < 128) := by
    rw [hmine]
    omega
  refine (if_neg ?_).trans rfl
  simpa using hgo

theorem exec_dieManagementFrame (hd : d < 4) (hk : k < 2) (gen kind src : Nat) (data : List Nat) :
    exec (.dieManagementFrame d k gen kind src data) s = .next ((s.dieFrame d k gen kind src data).withQueue s.pending) :=
  within_next s _ _ (by simp [hd, hk])

/-- A deputy's state and measurements reach the lead's registers (R34, R491). -/
theorem State.rd_measured (s : State) {src : Nat} (data : List Nat) :
    ((s.each (List.range 16) (fun s k =>
      (s.wr R.SEC_COLLAR_MEAS 0 [src, k] (data.getD (4 + k) 0)).wr R.SEC_PACK_MEAS 0 [src, k] (data.getD (20 + k) 0))).rd R.SEC_DIE_STATE_STATE 0 [src] =
        s.rd R.SEC_DIE_STATE_STATE 0 [src]) ∧
    ∀ i < 16, (s.each (List.range 16) (fun s k =>
      (s.wr R.SEC_COLLAR_MEAS 0 [src, k] (data.getD (4 + k) 0)).wr R.SEC_PACK_MEAS 0 [src, k] (data.getD (20 + k) 0))).rd R.SEC_COLLAR_MEAS 0 [src, i] =
        data.getD (4 + i) 0 % 2 ^ R.SEC_COLLAR_MEAS.width := by
  have hpack : ∀ (t : State) (j v : Nat), (t.wr R.SEC_PACK_MEAS 0 [src, j] v).rd R.SEC_DIE_STATE_STATE 0 [src] = t.rd R.SEC_DIE_STATE_STATE 0 [src] :=
    fun t j v => t.rd_wr_ne _ _ _ _ _ _ _ (by simp only [Fld.key, Fld.offset, strideSum, R.SEC_DIE_STATE_STATE, R.SEC_PACK_MEAS]; omega)
  have hcollar : ∀ (t : State) (j v : Nat), (t.wr R.SEC_COLLAR_MEAS 0 [src, j] v).rd R.SEC_DIE_STATE_STATE 0 [src] = t.rd R.SEC_DIE_STATE_STATE 0 [src] :=
    fun t j v => t.rd_wr_ne _ _ _ _ _ _ _ (by simp only [Fld.key, Fld.offset, strideSum, R.SEC_DIE_STATE_STATE, R.SEC_COLLAR_MEAS]; omega)
  refine ⟨State.rd_each _ _ s (fun t j _ => (hpack _ j _).trans (hcollar t j _)), ?_⟩
  intro i hi
  refine State.each_establishes (fun i u => i < 16 → u.rd R.SEC_COLLAR_MEAS 0 [src, i] = data.getD (4 + i) 0 % 2 ^ R.SEC_COLLAR_MEAS.width) _
    (fun t j hj => ?_) (fun t a j ht ha => ?_) _ s i (List.mem_range.2 hi) hi
  · rw [State.rd_wr_ne _ _ _ _ _ _ _ _ (by simp only [Fld.key, Fld.offset, strideSum, R.SEC_COLLAR_MEAS, R.SEC_PACK_MEAS]; omega), State.rd_wr_same]
  · rw [State.rd_wr_ne _ _ _ _ _ _ _ _ (by simp only [Fld.key, Fld.offset, strideSum, R.SEC_COLLAR_MEAS, R.SEC_PACK_MEAS]; omega)]
    by_cases h : a = j
    · rw [h, State.rd_wr_same]
    · rw [State.rd_wr_ne _ _ _ _ _ _ _ _ (by simp only [Fld.key, Fld.offset, strideSum, R.SEC_COLLAR_MEAS]; omega), ht ha]

theorem exec_dieManagementFrame_measures {gen src : Nat} {data : List Nat} (hk : k < 2) (hsrc : src < 4) (hdie : SMap.get 0 s.dies 0 ≠ 1)
    (hmine : s.rd R.DDL_STATUS_LINK_GEN 0 [k] = gen) :
    ∃ u, exec (.dieManagementFrame 0 k gen 1 src data) s = .next u ∧ u.rd R.SEC_DIE_STATE_STATE 0 [src] = data.getD 0 0 % 2 ^ R.SEC_DIE_STATE_STATE.width ∧
      (∀ i < 16, u.rd R.SEC_COLLAR_MEAS 0 [src, i] = data.getD (4 + i) 0 % 2 ^ R.SEC_COLLAR_MEAS.width) := by
  refine ⟨_, exec_dieManagementFrame (by decide) hk gen 1 src data, ?_⟩
  rw [State.dieFrame_current 1 src data hdie hmine, if_neg (by decide), if_pos (by simp [hsrc])]
  obtain ⟨hstate, hmeas⟩ := State.rd_measured (s.wrs 0 [src] [(R.SEC_DIE_STATE_STATE, data.getD 0 0), (R.SEC_DIE_STATE_DIE_GEN, data.getD 1 0),
    (R.SEC_DIE_SVN_COLLAR, data.getD 2 0), (R.SEC_DIE_SVN_PACK, data.getD 3 0)]) (src := src) data
  simp only [State.rd_withQueue]
  refine ⟨hstate.trans ?_, hmeas⟩
  rw [State.wrs_cons]
  exact (State.rd_wrs_apart _ _ _ _ (by rfl)).trans (State.rd_wr_same _ _ _ _ _)

theorem State.deadChans_showDead (s : State) (d : Nat) : (s.showDead d).deadChans = s.deadChans :=
  foldl_same State.deadChans (fun t p => t.wr R.MEM_PORT_STATUS_RETIRED d [p] (t.deadOf d p)) (fun _ _ => rfl) (List.range 32) s

theorem exec_dieManagementFrame_health {gen : Nat} (src : Nat) {data : List Nat} (hk : k < 2) (hdie : SMap.get 0 s.dies 0 ≠ 1)
    (hmine : s.rd R.DDL_STATUS_LINK_GEN 0 [k] = gen) :
    ∃ u, exec (.dieManagementFrame 0 k gen 2 src data) s = .next u ∧ (∀ c ∈ data, c < 512 → c ∈ u.deadChans) ∧ (∀ c ∈ s.deadChans, c ∈ u.deadChans) := by
  have hframe := State.dieFrame_current 2 src data hdie hmine
  rw [if_neg (by decide), if_neg (by simp), if_pos (by decide)] at hframe
  have hdead : (s.dieFrame 0 k gen 2 src data).deadChans = s.deadChans ++ data.filter (fun c => decide (c < 512) && !s.deadChans.contains c) := by
    rw [hframe]
    exact foldl_same State.deadChans State.showDead State.deadChans_showDead (List.range 4) _
  refine ⟨_, exec_dieManagementFrame (by decide) hk gen 2 src data, ?_⟩
  rw [State.withQueue_deadChans, hdead]
  refine ⟨fun c hc hsmall => ?_, fun c hc => List.mem_append_left _ hc⟩
  by_cases hold : c ∈ s.deadChans
  · exact List.mem_append_left _ hold
  · exact List.mem_append_right _ (List.mem_filter.2 ⟨hc, by simp [hsmall, hold]⟩)

end

/-- Settles O42: what a beat, a retrain, a restripe, a loss, training and a management frame come to, by the checks they pass. -/
theorem ringLinkCommandsComplete : Obligations.RingLinkCommandsComplete := by
  unfold Obligations.RingLinkCommandsComplete
  refine ⟨?beat, ?idle, fun d k m payload s => ⟨s.ringSend_replays payload, s.ringSend_full payload⟩, fun x ack hnew hsent => RingMod.acks_frees hnew hsent, ?retrain,
    ?restripe, fun goodbye d k s u hd hk hon hu hfar => exec_ringLinkLost goodbye hd hk hon hu hfar, ?train,
    fun d k ms s hd hk hup hsome hleft => exec_ringModuleClockLoss hd hk hup hsome hleft, ?generation,
    fun k gen src data s hk hsrc hdie _ hmine => exec_dieManagementFrame_measures hk hsrc hdie hmine,
    fun k gen src data s hk hdie _ hmine => exec_dieManagementFrame_health src hk hdie hmine, ?stale⟩
  case beat =>
    intro d k m dt payload noise wire s s1 hd hk hm hup hon hsend
    rw [exec_ringBeat s hd hk hm]
    refine ⟨fun hcrc => ?_, fun items rest hcrc hitems => ⟨fun hskip hreplay => ?_, fun hskip hmarked hmark => ?_⟩⟩
    · rw [State.ringBeat_arrives (s := s.at_ dt) hup hon hsend, if_neg hcrc]
    · rw [State.ringBeat_arrives (s := s.at_ dt) hup hon hsend, if_pos hcrc, hitems]
      simp only [hskip, hreplay, Bool.not_false, Bool.and_self, if_true]
    · exact ⟨_, rfl, State.ringBeat_good (s := s.at_ dt) hup hm hk hon hsend hcrc hitems hskip hmarked hmark⟩
  case idle =>
    intro d k m dt payload noise s hd hk hm hnone
    have hstays : (s.at_ dt).ringBeat d k m payload noise = s.at_ dt := by
      simp only [State.ringBeat, hnone, ite_self]
    rw [exec_ringBeat s hd hk hm, hstays]
    rfl
  case retrain =>
    intro d k m failing s s1 s2 hd hk hm hup hon hmust h1 h2
    subst h1 h2
    exact exec_ringModuleRetrain hd hk hm hup hon hmust failing
  case restripe =>
    intro d k srcs s hd hk hup hnew hmarks
    have hregs := s.striped_regs d k srcs
    have hcap : (s.striped d k srcs).rd R.DDL_CAP_C_TX d [k] = s.rd R.DDL_CAP_C_TX d [k] := by simp only [State.rd, hregs]
    refine ⟨_, exec_ringRestripe hd hk hup hnew hmarks srcs, ?_, fun m hm hon => ?_, fun m hm hoff => ?_⟩
    · rw [State.rd_withQueue]
      exact (State.cap_linkScale _ hk (by rw [State.linkC_of_regs hregs, hcap]; exact hnew)).trans (by rw [State.linkC_of_regs hregs])
    · rw [State.ringMod_withQueue]
      exact (congrArg RingMod.markDue (State.ringMod_linkScale _ d k d k m)).trans (s.striped_marks d k srcs hm hon)
    · rw [State.ringMod_withQueue]
      exact (congrArg RingMod.unacked (State.ringMod_linkScale _ d k d k m)).trans (s.striped_clears d k srcs hm hoff)
  case train =>
    intro d k tx rx lat s hd hk hdie hfar hstate hpeer
    exact ⟨within_next s _ _ (by simp [hd, hk]), fun htx hrx => State.linkUp_linkTrain hk hdie hfar hstate hpeer lat htx hrx⟩
  case generation =>
    intro d k gen src data s hd hk hdie hgen hmine
    refine ⟨_, exec_dieManagementFrame hd hk gen 0 src data, ?_⟩
    rw [State.dieFrame_current 0 src data hdie hmine, if_pos rfl]
    refine (State.rd_wr_same _ _ _ _ _).trans ?_
    simp only [R.DDL_STATUS_LINK_GEN]
    omega
  case stale =>
    intro d k gen kind src data s hd hk hdie hgen hmine
    have hold : s.dieFrame d k gen kind src data = s := by
      refine if_pos ?_
      have hage : (s.rd R.DDL_STATUS_LINK_GEN d [k] + 256 - gen % 256) % 256 = 1 := by
        rw [hmine]
        omega
      simp [hage]
    rw [exec_dieManagementFrame hd hk, hold]
    rfl

end Sys2Proof.Machine
end

section
/-! SUPPORT. Torus ports (R405 to R408, R411). -/

namespace Sys2Proof.Machine

section
variable {s : State} {k : Nat}

@[simp] theorem State.torPort_setTorPort_same (s : State) (k : Nat) (x : TorPort) : (s.setTorPort k x).torPort k = x := SMap.get_put_same _ _ _ _

theorem State.torPort_send (s : State) (o : Out) (k : Nat) : (s.send o).torPort k = s.torPort k := rfl

/-- What a pump changes: the ports' queues and what is sent; not what a port of the other end grants. -/
structure Pumped (k : Nat) (s u : State) : Prop where
  only : ∃ m o, u = { s with torPorts := m, out := o }
  served : (u.torPort k).served = (s.torPort k).served
  room : (u.torPort k).room = (s.torPort k).room

theorem Pumped.refl (k : Nat) (s : State) : Pumped k s s := ⟨⟨_, _, rfl⟩, rfl, rfl⟩

theorem State.torPump_go_pumped (k : Nat) : ∀ (n : Nat) (s : State), Pumped k s (State.torPump.go k n s)
  | 0, s => .refl k s
  | n + 1, s => by
    unfold State.torPump.go
    dsimp only
    split
    · exact .refl k s
    · next p _ =>
      split
      · exact .refl k s
      · obtain ⟨⟨m, o, hu⟩, hserved, hroom⟩ := State.torPump_go_pumped k n ((s.setTorPort k { s.torPort k with
          queue := (s.torPort k).queue.erase p, unacked := (s.torPort k).unacked ++ [((s.torPort k).txSeq, BitVec.ofNat 8 (0x10 + p.1) :: p.2)],
          txSeq := ((s.torPort k).txSeq + 1) % 4096,
          credits := SMap.put 0 (s.torPort k).credits p.1 (SMap.get 0 (s.torPort k).credits p.1 + units32 p.2) }).send
            (.torus k (s.torPort k).txSeq false (BitVec.ofNat 8 (0x10 + p.1) :: p.2)))
        rw [State.torPort_send, State.torPort_setTorPort_same] at hserved hroom
        exact ⟨⟨m, o, hu⟩, hserved, hroom⟩

theorem State.torPump_pumped (s : State) (k : Nat) : Pumped k s (s.torPump k) := State.torPump_go_pumped k _ s

theorem State.rd_torPump (s : State) (k : Nat) (f : Fld) (d : Nat) (ix : List Nat) : (s.torPump k).rd f d ix = s.rd f d ix := by
  obtain ⟨⟨m, o, h⟩, -, -⟩ := s.torPump_pumped k
  rw [h]
  rfl

theorem State.torRd_torWr_same (s : State) (f : Fld) (k v : Nat) : (s.torWr f k v).torRd f k = v % 2 ^ f.width := State.rd_wr_same _ _ _ _ _

theorem State.torRd_torWr_apart (s : State) {f g : Fld} (h : g.apart f = true) (k v : Nat) : (s.torWr f k v).torRd g k = s.torRd g k := s.rd_wr_apart h _ _ _

/-! ### Training (R406, R407) -/

theorem exec_torusPortTrain_full {room : Nat} (lo hi : Bool) (hk : k < 8) (hen : s.torRd R.TOR_PORT_CFG_ENABLE k ≠ 0)
    (hdown : s.torRd R.TOR_PORT_STATUS_STATE k ≠ 2) (hruns : s.dieRuns (k / 2) = true) :
    ∃ v : State, exec (.torusPortTrain k true lo hi true room) s = .next (v.buddy.withQueue s.pending) ∧ v.torRd R.TOR_PORT_STATUS_STATE k = 2 ∧
      v.torRd R.TOR_PORT_STATUS_HALF k = 0 ∧ (v.torPort k).served = true ∧ (v.torPort k).room = room := by
  have hgo : ¬(s.torRd R.TOR_PORT_CFG_ENABLE k = 0 || s.torRd R.TOR_PORT_STATUS_STATE k == 2 || !s.dieRuns (k / 2)) = true := by simp [hen, hdown, hruns]
  obtain ⟨-, hserved, hroom⟩ := State.torPump_pumped (((s.torWr R.TOR_PORT_STATUS_STATE k 2).torWr R.TOR_PORT_STATUS_HALF k 0).setTorPort k
    { s.torPort k with served := true, room := room, credits := [] }) k
  rw [State.torPort_setTorPort_same] at hserved hroom
  refine ⟨_, (within_next s _ _ (by simp [hk])).trans (congrArg (fun t : State => Host.Outcome.next (t.withQueue s.pending)) (if_neg hgo)), ?_, ?_, hserved, hroom⟩
  · exact (State.rd_torPump _ _ _ _ _).trans ((State.torRd_torWr_apart _ (by decide) k 0).trans (State.torRd_torWr_same _ _ _ _))
  · exact (State.rd_torPump _ _ _ _ _).trans (State.torRd_torWr_same _ _ _ _)

theorem exec_torusRetrain_stays (hk : k < 8) (hfew : (s.torPort k).replayed < 8) : exec (.torusRetrain k) s = .next s := by
  refine (within_next s _ _ (by simp [hk])).trans ?_
  rw [if_pos (by simp [hfew])]
  rfl

/-- A port that retrains, with its PORT_GEN raised and nothing to replay (R407). -/
def State.torAgain (s : State) (k : Nat) : State :=
  (((s.torWr R.TOR_PORT_STATUS_STATE k 1).torWr R.TOR_PORT_STATUS_PORT_GEN k (s.torRd R.TOR_PORT_STATUS_PORT_GEN k + 1)).setTorPort k
    { s.torPort k with txSeq := 0, unacked := [], replayed := 0, rxSeq := 0, skip := false, part := [] }).torWr R.TOR_PORT_EVENT_RETRAIN k 1

theorem State.torPort_torAgain (s : State) (k : Nat) :
    (s.torAgain k).torPort k = { s.torPort k with txSeq := 0, unacked := [], replayed := 0, rxSeq := 0, skip := false, part := [] } :=
  State.torPort_setTorPort_same _ k _

theorem exec_torusRetrain_again (hk : k < 8) (hup : s.torUp k = true) (hmany : 8 ≤ (s.torPort k).replayed) :
    exec (.torusRetrain k) s = .next ((((s.torAgain k).torErr k 4 0).buddy).withQueue s.pending) := by
  have hgo : ¬(!s.torUp k || decide ((s.torPort k).replayed < 8)) = true := by simp [hup, hmany]
  refine (within_next s _ _ (by simp [hk])).trans ?_
  rw [if_neg hgo]
  rfl

/-! ### Codewords (R407) -/

theorem exec_torusCodeword_lost {seq : Nat} (replay : Bool) (block : List Byte) (hk : k < 8) (hup : s.torUp k = true) :
    exec (.torusCodeword k false true seq replay block) s = .next ((((s.bump R.TOR_FEC_UNCORR (k / 2) [k % 2] 1).setTorPort k { s.torPort k with skip := true }).send
      (.torusCtl k 0x21 (s.torPort k).rxSeq)).withQueue s.pending) := by
  refine (within_next s _ _ (by simp [hk])).trans ?_
  rw [State.torCodeword, hup]
  rfl

theorem exec_torusCodeword_next {seq : Nat} {replay : Bool} {block : List Byte} (hk : k < 8) (hup : s.torUp k = true) (hseq : seq < 4096)
    (hnext : (s.torPort k).rxSeq = seq) (htake : (s.torPort k).skip = false ∨ replay = true) :
    exec (.torusCodeword k false false seq replay block) s = .next ((((s.setTorPort k { s.torPort k with
      rxSeq := (seq + 1) % 4096, skip := false, part := (torItems 640 ((s.torPort k).part ++ block.take 640)).2 }).send (.torusCtl k 0x20 seq)).each
      (torItems 640 ((s.torPort k).part ++ block.take 640)).1 (fun v i => v.torItem k i)).withQueue s.pending) := by
  have hcut : seq % 4096 = seq := Nat.mod_eq_of_lt hseq
  have htaken : ((s.torPort k).skip && !(replay && seq == (s.torPort k).rxSeq)) = false := by
    rcases htake with h | h <;> simp [h, hnext]
  refine (within_next s _ _ (by simp [hk])).trans ?_
  simp only [State.torCodeword, hup, hcut, htaken, Bool.not_true, Bool.false_eq_true, if_false]
  simp only [hnext, bne_self_eq_false, Bool.false_eq_true, if_false]

theorem exec_torusCodeword_skipped {seq : Nat} (block : List Byte) (hk : k < 8) (hup : s.torUp k = true) (hskip : (s.torPort k).skip = true) :
    exec (.torusCodeword k false false seq false block) s = .next s := by
  refine (within_next s _ _ (by simp [hk])).trans ?_
  simp only [State.torCodeword, hup, hskip, Bool.not_true, Bool.false_eq_true, if_false, Bool.false_and, Bool.not_false, Bool.and_self, if_true, State.withQueue_self]

theorem exec_packetForward {vc : Nat} {x : TorPacket} {t : State} (hk : k < 8) (hvc : vc < 8) (htake : s.torTake k vc = some (x, t))
    (hother : (Pkt.of x.bytes).dest ≠ s.coord) : exec (.packetForward k vc) s = .next ((t.torRoute 2 k vc x.bytes).withQueue s.pending) := by
  refine (within_next s _ _ (by simp [hk, hvc])).trans ?_
  simp only [htake, beq_iff_eq, hother, if_false]

end

/-- Settles O43: what trains, retrains, is received and goes on, by the port's state. -/
theorem torusPortCommandsComplete : Obligations.TorusPortCommandsComplete := by
  unfold Obligations.TorusPortCommandsComplete
  refine ⟨fun k room lo hi s hk hen hdown hruns => exec_torusPortTrain_full lo hi hk hen hdown hruns, ?lost,
    fun k seq replay block s hk hup hseq hnext htake => exec_torusCodeword_next hk hup hseq hnext htake,
    fun k seq block s hk hup hskip => exec_torusCodeword_skipped block hk hup hskip,
    fun k s hk _ hfew => exec_torusRetrain_stays hk hfew, ?again,
    fun k vc x s t hk hvc htake hother => exec_packetForward hk hvc htake hother⟩
  case lost =>
    intro k seq replay block s hk hup
    exact ⟨_, exec_torusCodeword_lost replay block hk hup, State.rd_bump_same _ _ _ _ _, congrArg TorPort.skip (State.torPort_setTorPort_same _ k _), rfl, rfl⟩
  case again =>
    intro k s hk hup hmany
    refine ⟨s.torAgain k, exec_torusRetrain_again hk hup hmany, ?_, ?_, ?_, ?_, ?_⟩
    · exact (State.torRd_torWr_apart _ (by decide) k 1).trans ((State.torRd_torWr_apart _ (by decide) k _).trans (State.torRd_torWr_same _ _ _ _))
    · rw [State.torPort_torAgain]
    · rw [State.torPort_torAgain]
    · rw [State.torPort_torAgain]
    · exact (State.torRd_torWr_apart _ (by decide) k 1).trans (State.torRd_torWr_same _ _ _ _)

end Sys2Proof.Machine
end

section
/-! SUPPORT. Packets at their target (R410, R412, R414 to R417). -/

namespace Sys2Proof.Machine

/-! ### Sending -/

/-- `u` is `s` after packets are sent on their way. -/
def Routed (s u : State) : Prop := ∃ m o rx r, u = { s with torPorts := m, out := o, torRx := rx, regs := r }

namespace Routed

theorem refl (s : State) : Routed s s := ⟨_, _, _, _, rfl⟩

theorem trans {s u v : State} : Routed s u → Routed u v → Routed s v
  | ⟨_, _, _, _, hu⟩, ⟨m, o, rx, r, hv⟩ => ⟨m, o, rx, r, by rw [hv, hu]⟩

theorem ask {s u : State} : Routed s u → u.ask = s.ask
  | ⟨_, _, _, _, hu⟩ => by rw [hu]

theorem ite {s u v : State} {c : Prop} [Decidable c] (hu : Routed s u) (hv : Routed s v) : Routed s (if c then u else v) := by
  split
  · exact hu
  · exact hv

theorem each {α : Type} {f : State → α → State} (hf : ∀ v a, Routed v (f v a)) (l : List α) (s : State) : Routed s (s.each l f) :=
  State.each_keeps (Routed s) f (fun v a hv => hv.trans (hf v a)) l s (refl s)

end Routed

section
variable (s : State)

theorem State.torSend_routed (k vc : Nat) (bs : List Byte) : Routed s (s.torSend k vc bs) := by
  obtain ⟨⟨m, o, h⟩, -, -⟩ := State.torPump_pumped (s.setTorPort k { s.torPort k with queue := (s.torPort k).queue ++ [(vc, bs)] }) k
  exact ⟨m, o, _, _, h⟩

theorem State.torRoute_routed : ∀ (n : Nat) (s : State) (k vc : Nat) (p : List Byte), Routed s (s.torRoute n k vc p)
  | 0, s, _, _, _ => .refl s
  | n + 1, s, k, vc, p => by
    unfold State.torRoute
    dsimp only
    split
    · exact ⟨_, _, _, _, rfl⟩
    · split
      · exact s.torSend_routed _ _ _
      · split
        · exact s.torSend_routed _ _ _
        · have hcount : ∀ port, Routed s (s.bump R.TOR_NOROUTE (port / 2) [port % 2] 1) := fun port => ⟨_, _, _, _, rfl⟩
          exact Routed.ite (hcount _) ((hcount _).trans (State.torRoute_routed n _ _ _ _))

theorem State.torEmit_routed (p : Pkt) : Routed s (s.torEmit p) := State.torRoute_routed 2 s 8 _ p.bytes

theorem State.torAnswer_routed (h : Pkt) (type status kind : Nat) (body : List Byte) : Routed s (s.torAnswer h type status kind body) := s.torEmit_routed _

theorem State.ask_torAnswer (h : Pkt) (type status kind : Nat) (body : List Byte) : (s.torAnswer h type status kind body).ask = s.ask :=
  (s.torAnswer_routed h type status kind body).ask

end

/-- A command that asks for nothing is its effect. -/
theorem State.orWait_eq {s t : State} {f : State → State} (h : f s = t) (hask : t.ask = []) : s.orWait f = t :=
  (s.orWait_here f (h.symm ▸ hask)).trans h

theorem within_orWait_next {s u : State} {ok : Bool} {f : State → State} (hok : ok = true) (hf : f s = u) (hask : u.ask = []) :
    within s ok (s.orWait f) = .next (u.withQueue s.pending) := by
  rw [within_next s _ ok hok, State.orWait_eq hf hask]

/-! ### The oldest packet of a row -/

theorem State.torTake_ask {s t : State} {k vc : Nat} {x : TorPacket} (h : s.torTake k vc = some (x, t)) : t.ask = s.ask := by
  unfold State.torTake at h
  obtain ⟨y, -, hy⟩ := Option.map_eq_some_iff.1 h
  obtain ⟨-, rfl⟩ := Prod.mk.inj hy
  split <;> rfl

section
variable {s t : State} {k vc type : Nat} {h : Pkt}

/-- A row acts on the packet that is here for it. -/
theorem torRow_here (hp : PacketHere s k vc type h t) (f : State → Pkt → State) : s.torRow k vc type f = f t h := by
  obtain ⟨-, -, x, htake, htype, rfl, hdest⟩ := hp
  simp only [State.torRow, htake, htype, hdest, beq_self_eq_true, Bool.and_self, if_true]

theorem ask_here (hp : PacketHere s k vc type h t) : t.ask = s.ask := by
  obtain ⟨-, -, x, htake, -⟩ := hp
  exact State.torTake_ask htake

/-- What a row's command answers when it asks for nothing. -/
theorem exec_here (hp : PacketHere s k vc type h t) {f : State → Pkt → State} {u : State} (hf : f t h = u) (hask : u.ask = []) :
    within s (decide (k < 9) && decide (vc < 8)) (s.orWait (fun s => s.torRow k vc type f)) = .next (u.withQueue s.pending) := by
  have hrow := (torRow_here hp f).trans hf
  obtain ⟨hk, hvc, -⟩ := hp
  exact within_orWait_next (by simp [hk, hvc]) hrow hask

end

/-! ### Requests (R414, R415) -/

section
variable {s t t1 : State} {k vc a b : Nat} {h : Pkt} {bs : List Byte}

theorem exec_put_answered {last : Bool} (hp : PacketHere s k vc 1 h t) (hacc : t.torAccepts h = true)
    (hdone : t.torAccess k h.part h.ctx h.addr (min h.len 256) (some (padTo (min h.len 256) h.body)) = ((0, a, b, bs), t1)) (hask : t1.ask = [])
    (hlast : last = true ∨ SMap.get 0 t1.torPuts (h.src * 2 ^ 16 + h.tag) = 15) :
    exec (.put k vc last) s = .next ((State.torAnswer { t1 with torPuts := SMap.del t1.torPuts (h.src * 2 ^ 16 + h.tag) } h 6 0 0 []).withQueue s.pending) := by
  have hput : t.putIn k last h = State.torAnswer { t1 with torPuts := SMap.del t1.torPuts (h.src * 2 ^ 16 + h.tag) } h 6 0 0 [] := by
    have hend : SMap.get 0 t1.torPuts (h.src * 2 ^ 16 + h.tag) + 1 = 16 ∨ last = true := hlast.symm.imp (fun h => by omega) id
    simp only [State.putIn, hacc, hdone, Bool.not_true, Bool.false_eq_true, if_false, hend, if_true]
  exact exec_here hp (f := fun s h => s.putIn k last h) hput ((State.ask_torAnswer _ _ _ _ _ _).trans hask)

theorem exec_put_counted {last : Bool} (hp : PacketHere s k vc 1 h t) (hacc : t.torAccepts h = true)
    (hdone : t.torAccess k h.part h.ctx h.addr (min h.len 256) (some (padTo (min h.len 256) h.body)) = ((0, a, b, bs), t1)) (hask : t1.ask = [])
    (hlast : last = false) (hfew : SMap.get 0 t1.torPuts (h.src * 2 ^ 16 + h.tag) ≠ 15) :
    exec (.put k vc last) s = .next (({ t1 with
      torPuts := SMap.put 0 t1.torPuts (h.src * 2 ^ 16 + h.tag) (SMap.get 0 t1.torPuts (h.src * 2 ^ 16 + h.tag) + 1) } : State).withQueue s.pending) := by
  have hput : t.putIn k last h = { t1 with
      torPuts := SMap.put 0 t1.torPuts (h.src * 2 ^ 16 + h.tag) (SMap.get 0 t1.torPuts (h.src * 2 ^ 16 + h.tag) + 1) } := by
    have hend : ¬(SMap.get 0 t1.torPuts (h.src * 2 ^ 16 + h.tag) + 1 = 16 ∨ last = true) := by
      rw [hlast]
      simp only [Bool.false_eq_true, or_false]
      omega
    simp only [State.putIn, hacc, hdone, Bool.not_true, Bool.false_eq_true, if_false, hend]
  exact exec_here hp (f := fun s h => s.putIn k last h) hput hask

theorem State.getIn_ends {r : TorRes} (hacc : t.torAccepts h = true) (hdone : t.torAccess k h.part h.ctx h.addr (min h.len 256) none = (r, t1)) :
    t.getIn k h = t1.torEnd h 3 r := by
  simp only [State.getIn, hacc, hdone, Bool.not_true, Bool.false_eq_true, if_false]

theorem State.ask_torEnd (s : State) (h : Pkt) (type : Nat) (r : TorRes) : (s.torEnd h type r).ask = s.ask := by
  unfold State.torEnd
  split
  · exact s.ask_torAnswer _ _ _ _ _
  · exact s.ask_torAnswer _ _ _ _ _

theorem exec_get_ends {r : TorRes} (hp : PacketHere s k vc 2 h t) (hacc : t.torAccepts h = true)
    (hdone : t.torAccess k h.part h.ctx h.addr (min h.len 256) none = (r, t1)) (hask : t1.ask = []) :
    exec (.get k vc) s = .next ((t1.torEnd h 3 r).withQueue s.pending) := by
  have hget := State.getIn_ends hacc hdone
  exact exec_here hp (f := fun s h => s.getIn k h) hget ((State.ask_torEnd _ _ _ _).trans hask)

theorem exec_get_denied (hp : PacketHere s k vc 2 h t) (hacc : t.torAccepts h = false) (hask : s.ask = []) :
    exec (.get k vc) s = .next ((t.torAnswer h 3 1 0 []).withQueue s.pending) := by
  have hget : t.getIn k h = t.torAnswer h 3 1 0 [] := by simp only [State.getIn, hacc, Bool.not_false, if_true]
  exact exec_here hp (f := fun s h => s.getIn k h) hget ((State.ask_torAnswer _ _ _ _ _ _).trans ((ask_here hp).trans hask))

theorem exec_torusAtomic_ends {old : List Byte} {size : Nat} (hp : PacketHere s k vc 4 h t) (hacc : t.torAccepts h = true) (hsize : size = (if bit h.aux 8 then 8 else 4))
    (hdone : t.torAtomic k h.part h.ctx (h.addr % 2 ^ 48 / size * size) size (h.aux % 256) (leNat (h.body.take 8)) (leNat ((h.body.drop 8).take 8)) = ((0, a, b, old), t1))
    (hask : t1.ask = []) : exec (.torusAtomic k vc) s = .next ((t1.torAnswer h 5 0 0 old).withQueue s.pending) := by
  subst hsize
  have hatomic : t.atomicIn k h = t1.torAnswer h 5 0 0 old := by
    simp only [State.atomicIn, hacc, Bool.not_true, Bool.false_eq_true, if_false, hdone]
    rfl
  exact exec_here hp (f := fun s h => s.atomicIn k h) hatomic ((State.ask_torAnswer _ _ _ _ _ _).trans hask)

/-! ### Answers (R415) -/

theorem exec_putAck {c : TorCmd} (hp : PacketHere s k vc 6 h t) (hof : t.torOf h 1 = some c) (hok : h.aux % 256 = 0) :
    exec (.putAck k vc) s =
      .next ((if c.done + 1 = putAcks c.len then t.torDone c 0 0 0 else t.updTor c.id (fun c => { c with done := c.done + 1 })).withQueue s.pending) := by
  have hrow := torRow_here hp (fun s h => s.putAckIn h)
  obtain ⟨hk, hvc, -⟩ := hp
  refine (within_next s _ _ (by simp [hk, hvc])).trans ?_
  rw [hrow]
  simp only [State.putAckIn, hof, hok, bne_self_eq_false, Bool.false_eq_true, if_false]

theorem exec_getData {c : TorCmd} (hp : PacketHere s k vc 3 h t) (hof : t.torOf h 2 = some c)
    (hask : (t.torData h (h.addr - c.nat 0x18 8 % 2 ^ 48) (min h.len 256) c.len c).ask = []) :
    exec (.getData k vc) s = .next ((t.torData h (h.addr - c.nat 0x18 8 % 2 ^ 48) (min h.len 256) c.len c).withQueue s.pending) := by
  have hdata : t.getDataIn h = t.torData h (h.addr - c.nat 0x18 8 % 2 ^ 48) (min h.len 256) c.len c := by simp only [State.getDataIn, hof]
  exact exec_here hp (f := fun s h => s.getDataIn h) hdata hask

theorem exec_torusAtomicData {n : Nat} {c : TorCmd} (hp : PacketHere s k vc 5 h t) (hof : t.torOf h 3 = some c) (hn : n = (if bit (c.nat 6 1) 4 then 8 else 4))
    (hask : (t.torData h 0 n n c).ask = []) : exec (.torusAtomicData k vc) s = .next ((t.torData h 0 n n c).withQueue s.pending) := by
  subst hn
  have hdata : t.atomicDataIn h = t.torData h 0 (if bit (c.nat 6 1) 4 then 8 else 4) (if bit (c.nat 6 1) 4 then 8 else 4) c := by simp only [State.atomicDataIn, hof]
  exact exec_here hp (f := fun s h => s.atomicDataIn h) hdata hask

theorem State.torData_writes {off n total : Nat} {c : TorCmd} (hok : h.aux % 256 = 0)
    (hwrite : s.virtWriteV (s.tqVirt c.part c.queue c.id) ((c.nat 0x10 8 + off) % 2 ^ 48) (padTo n h.body) = (.ok bs, t)) :
    s.torData h off n total c = (if total ≤ c.done + n then t.torDone c 0 0 0 else t.updTor c.id (fun c => { c with done := c.done + n })) := by
  simp only [State.torData, hok, bne_self_eq_false, Bool.false_eq_true, if_false, hwrite]

/-! ### Reductions and streams (R416, R417) -/

theorem exec_reduce_input (hp : PacketHere s k vc 8 h t) (hpart : h.part < 64) (hvalid : t.redRd R.TOR_RED_VALID h.part = 1) (hchild : k ∈ t.redChildren h.part)
    (hask : (t.redInput h.part h.addr k h.gen (padTo 256 h.body)).ask = []) :
    exec (.reduce k vc) s = .next ((t.redInput h.part h.addr k h.gen (padTo 256 h.body)).withQueue s.pending) := by
  have hin : t.reduceIn k h = t.redInput h.part h.addr k h.gen (padTo 256 h.body) := by
    refine if_pos ?_
    simp [hpart, hvalid, hchild]
  exact exec_here hp (f := fun s h => s.reduceIn k h) hin hask

theorem exec_reduce_denied (hp : PacketHere s k vc 8 h t) (hchild : k ∉ t.redChildren h.part) (hask : s.ask = []) :
    exec (.reduce k vc) s = .next ((t.torAnswer h 9 1 0 []).withQueue s.pending) := by
  have hin : t.reduceIn k h = t.torAnswer h 9 1 0 [] := by
    refine if_neg ?_
    simp [hchild]
  exact exec_here hp (f := fun s h => s.reduceIn k h) hin ((State.ask_torAnswer _ _ _ _ _ _).trans ((ask_here hp).trans hask))

theorem exec_reduceResult (hp : PacketHere s k vc 9 h t) (hpart : h.part < 64) (hgen : t.gen (t.redRd R.TOR_RED_PARTITION h.part) = h.gen)
    (hask : (t.redResult h.part h.addr (h.aux % 256) h.body).ask = []) :
    exec (.reduceResult k vc) s = .next ((t.redResult h.part h.addr (h.aux % 256) h.body).withQueue s.pending) := by
  have hin : t.reduceResultIn h = t.redResult h.part h.addr (h.aux % 256) h.body := by
    refine if_pos ?_
    simp [hpart, hgen]
  exact exec_here hp (f := fun s h => s.reduceResultIn h) hin hask

/-- A chunk that comes at its deadline or later is discarded and counted. -/
theorem State.streamIn_late (hpart : h.part < 64) (hen : s.chRd R.TOR_S_CFG_ENABLE h.part = 1) (hsource : s.chRd R.TOR_S_CFG_SOURCE h.part = h.src)
    (hlate : h.addr + s.chRd R.TOR_S_CFG_DEADLINE h.part ≤ s.tick) :
    s.streamIn k h = { s.bump R.TOR_S_LATE 0 [h.part] 1 with
      streamLate := if s.streamLate.contains h.part then s.streamLate else s.streamLate ++ [h.part] } := by
  have hgo : ¬(!(decide (h.part < 64) && s.chRd R.TOR_S_CFG_ENABLE h.part == 1 && s.chRd R.TOR_S_CFG_SOURCE h.part == h.src)) = true := by simp [hpart, hen, hsource]
  exact (if_neg hgo).trans (if_pos hlate)

/-- A status entry of a chunk of which nothing came. -/
theorem exec_streamChunkClose_empty {ch tk : Nat} {r : TorRes} (hch : ch < 64) (hfind : s.closes.find? (fun x => x.1 == ch) = some (ch, tk)) (hslots : s.slots = [])
    (hlate : s.streamLate = [])
    (hdone : ({ s with closes := s.closes.erase (ch, tk) } : State).torAccess 8 (s.chRd R.TOR_S_OWNER ch) (s.chRd R.TOR_S_CFG_CONTEXT ch)
      (s.chRd R.TOR_S_STATUS_RING ch + 16 * (tk % s.chSlots ch)) 16 (some (leBytes 8 tk ++ leBytes 4 0 ++ leBytes 4 0)) = (r, t)) (hask : t.ask = []) :
    exec (.streamChunkClose ch) s = .next (t.withQueue s.pending) := by
  have hempty : ({ s with closes := s.closes.erase (ch, tk), slots := [], streamLate := [] } : State) = { s with closes := s.closes.erase (ch, tk) } := by
    rw [← hslots, ← hlate]
  have hchunk : ¬(0 = s.chChunk ch) := by
    have hpos : 0 < 4096 * 2 ^ s.chRd R.TOR_S_CFG_CHUNK_LOG2 ch := Nat.mul_pos (by decide) (Nat.two_pow_pos _)
    exact hpos.ne
  refine within_orWait_next (by simp [hch]) ?_ hask
  simp only [hfind, hslots, hlate, List.find?_nil, List.contains_nil, hchunk, if_false, Bool.false_eq_true, List.filter_nil, Nat.add_zero]
  rw [hempty]
  exact congrArg Prod.snd hdone

end

/-- Settles O45: a packet that is here for its row is answered as its access, its command or its group says. -/
theorem torusPacketsComplete : Obligations.TorusPacketsComplete := by
  unfold Obligations.TorusPacketsComplete
  refine ⟨fun k vc a b last h bs s t t1 hp hacc hdone hask => ⟨exec_put_answered hp hacc hdone hask, fun hlast hfew => ⟨_, rfl, exec_put_counted hp hacc hdone hask hlast hfew⟩⟩,
    ?get, ?failed, fun k vc size a b h old s t t1 hp hacc hsize hdone hask => exec_torusAtomic_ends hp hacc hsize hdone hask,
    fun k vc h s t hp hacc hask => exec_get_denied hp hacc hask, fun k vc h c s t hp hof hok => exec_putAck hp hof hok,
    fun k vc h c s t hp hof hask => exec_getData hp hof hask, fun k vc n h c s t hp hof hn hask => exec_torusAtomicData hp hof hn hask,
    fun h off n total c bs s t hok hwrite => State.torData_writes hok hwrite,
    fun k vc h s t hp hpart hvalid hchild hask => exec_reduce_input hp hpart hvalid hchild hask,
    fun k vc h s t hp hchild hask => exec_reduce_denied hp hchild hask,
    fun k vc h s t hp hpart hgen hask => exec_reduceResult hp hpart hgen hask, fun k vc h s t hp hask => exec_here hp (f := fun s h => s.streamIn k h) rfl hask, ?late,
    fun ch tk r s t hch hfind hslots hlate hdone hask => exec_streamChunkClose_empty hch hfind hslots hlate hdone hask⟩
  case get =>
    intro k vc a b h bs s t t1 hp hacc hdone hask
    exact exec_get_ends hp hacc hdone hask
  case failed =>
    intro k vc st kind a h bs s t t1 hp hacc hst hdone hask
    rw [exec_get_ends hp hacc hdone hask, State.torEnd, if_neg hst]
  case late =>
    intro k h s hpart hen hsource hlate
    rw [State.streamIn_late hpart hen hsource hlate]
    refine ⟨rfl, ?_, s.rd_bump_same _ _ _ _⟩
    by_cases hin : h.part ∈ s.streamLate
    · simp [hin]
    · simp [hin]

end Sys2Proof.Machine
end

section
/-! SUPPORT. Torus queues (R413, R415, R416). -/

namespace Sys2Proof.Machine

/-! ### The packets of a length -/

theorem mem_packets {len : Nat} {x : Nat × Nat} (h : x ∈ packets len) : x.2 ≤ 256 ∧ x.1 + x.2 ≤ len ∧ 0 < x.2 := by
  obtain ⟨i, hi, rfl⟩ := List.mem_map.1 h
  have hlt := List.mem_range.1 hi
  dsimp only
  omega

theorem sum_packets_range (len : Nat) : ∀ n, ((List.range n).map (fun i => min 256 (len - 256 * i))).sum = min len (256 * n)
  | 0 => by simp
  | n + 1 => by
    rw [List.range_succ, List.map_append, List.sum_append, sum_packets_range len n]
    simp only [List.map_cons, List.map_nil, List.sum_cons, List.sum_nil]
    omega

theorem sum_packets (len : Nat) : ((packets len).map (·.2)).sum = len := by
  have hsnd : (packets len).map (·.2) = (List.range ((len + 255) / 256)).map (fun i => min 256 (len - 256 * i)) := by
    rw [packets, List.map_map]
    rfl
  rw [hsnd, sum_packets_range]
  omega

section
variable {s t : State} {p q : Nat} {c : TorCmd}

/-! ### The poll (R413) -/

/-- A tail that has not moved fetches nothing. -/
theorem State.torPoll_still {tail : Nat} (hen : s.tq R.TOR_Q_CFG_ENABLE p q ≠ 0) (htail : s.tqTail p q = (some tail, t))
    (hstill : tail = SMap.get 0 t.torHead (8 * p + q)) : s.torPoll p q = t := by
  have hnone : (tail + 2 ^ 32 - SMap.get 0 t.torHead (8 * p + q)) % 2 ^ 32 = 0 := by
    rw [← hstill, Nat.add_sub_cancel_left, Nat.mod_self]
  simp only [State.torPoll, hen, if_false, htail, hnone, Nat.min_zero, List.range_zero, State.each_nil, if_true]

/-! ### Commands whose turn has come (R413, R414) -/

/-- Sending asks memory nothing. -/
theorem State.ask_emits {α : Type} (f : State → α → Pkt) (l : List α) (s : State) : (s.each l (fun v x => v.torEmit (f v x))).ask = s.ask :=
  (Routed.each (f := fun v x => v.torEmit (f v x)) (fun v x => v.torEmit_routed (f v x)) l s).ask

theorem exec_tqPut {host bs : List Byte} (hp : p < 64) (hq : q < 8) (hnext : s.torNext p q 1 = some c) (hlen : lenOk c = true)
    (hread : s.virtReadH (s.tqVirt p q c.id) (c.nat 0x10 8 % 2 ^ 48) c.len host = (.ok bs, t)) (hask : t.ask = []) :
    exec (.tqPut p q host) s = .next (((t.updTor c.id (fun c => { c with started := true, sent := c.len })).each (packets c.len) (fun v x =>
      v.torEmit (v.torPkt c 1 (c.nat 0x18 8 + x.1) x.2 ((bs.drop x.1).take x.2)))).withQueue s.pending) := by
  refine within_orWait_next (by simp [hp, hq]) ?_ ((State.ask_emits _ _ _).trans hask)
  simp only [hnext, hlen, Bool.not_true, Bool.false_eq_true, if_false, hread]

theorem exec_tqGet (hp : p < 64) (hq : q < 8) (hnext : s.torNext p q 2 = some c) (hlen : lenOk c = true) :
    exec (.tqGet p q) s = .next (((s.updTor c.id (fun c => { c with started := true, sent := c.len })).each (packets c.len) (fun v x =>
      v.torEmit (v.torPkt c 2 (c.nat 0x18 8 + x.1) x.2 []))).withQueue s.pending) := by
  refine (within_next s _ _ (by simp [hp, hq])).trans ?_
  simp only [hnext, hlen, Bool.not_true, Bool.false_eq_true, if_false]

theorem exec_tqAtomic (hp : p < 64) (hq : q < 8) (hnext : s.torNext p q 3 = some c) :
    exec (.tqAtomic p q) s = .next (((s.updTor c.id (fun c => { c with started := true, sent := 1 })).torEmit
      { (s.updTor c.id (fun c => { c with started := true, sent := 1 })).torPkt c 4 (c.nat 0x18 8) 16 ((c.bytes.drop 0x20).take 16) with
        aux := c.nat 6 1 % 16 + (if bit (c.nat 6 1) 4 then 256 else 0) }).withQueue s.pending) := by
  refine (within_next s _ _ (by simp [hp, hq])).trans ?_
  simp only [hnext]

/-! ### Reductions (R416) -/

/-- A command has contributed its next chunk. -/
def State.contributed (t : State) (c : TorCmd) : State := t.updTor c.id (fun (x : TorCmd) => { x with started := true, sent := x.sent + 1, base := c.base })

theorem exec_tqReduce {host bs : List Byte} (hp : p < 64) (hq : q < 8) (hnext : s.torNext p q 4 = some c) (hgroup : c.nat 4 1 < 64)
    (hvalid : s.redRd R.TOR_RED_VALID (c.nat 4 1) = 1) (hpart : s.redRd R.TOR_RED_PARTITION (c.nat 4 1) = p) (hlen : lenOk c = true)
    (hchunks : c.len % 256 = 0) (hstarted : c.started = true) (hroom : (s.redChunks.filter (fun (x : RedChunk) => x.group == c.nat 4 1)).length < 64)
    (hread : s.virtReadH (s.tqVirt p q c.id) ((c.nat 0x10 8 + 256 * c.sent) % 2 ^ 48) 256 host = (.ok bs, t))
    (hask : ((t.contributed c).redInput (c.nat 4 1) (c.base + c.sent) 8 ((t.contributed c).gen p) bs).ask = []) :
    exec (.tqReduce p q host) s =
      .next (((t.contributed c).redInput (c.nat 4 1) (c.base + c.sent) 8 ((t.contributed c).gen p) bs).withQueue s.pending) := by
  have hmember : (!(decide (c.nat 4 1 < 64) && s.redRd R.TOR_RED_VALID (c.nat 4 1) == 1 && s.redRd R.TOR_RED_PARTITION (c.nat 4 1) == p)) = false := by
    simp [hgroup, hvalid, hpart]
  have hsize : (!(lenOk c && c.len % 256 == 0)) = false := by simp [hlen, hchunks]
  have hfew : decide (64 ≤ (s.redChunks.filter (fun (x : RedChunk) => x.group == c.nat 4 1)).length) = false := by simpa using hroom
  refine within_orWait_next (by simp [hp, hq]) ?_ hask
  simp only [hnext, hmember, hsize, hfew, Bool.false_and, Bool.false_eq_true, if_false, hread, hstarted, if_true]
  rfl

theorem exec_torusCmdTimeout {id : Nat} (hp : p < 64) (hq : q < 8)
    (hfind : s.torCmds.find? (fun (c : TorCmd) => c.id == id && c.part == p && c.queue == q && c.started) = some c) :
    exec (.torusCmdTimeout p q id) s = .next ((s.torDone c 6 0 0).withQueue s.pending) := by
  refine (within_next s _ _ (by simp [hp, hq])).trans ?_
  simp only [hfind]

end

/-- Settles O46: a poll is the model's, a command whose turn has come sends its packets, and one without an answer is done. -/
theorem torusQueueCommandsComplete : Obligations.TorusQueueCommandsComplete := by
  unfold Obligations.TorusQueueCommandsComplete
  refine ⟨?poll, fun p q s t tail hen htail hstill _ => State.torPoll_still hen htail hstill,
    fun p q host bs c s t hp hq hnext hlen hread hask => exec_tqPut hp hq hnext hlen hread hask, fun p q c s hp hq hnext hlen => exec_tqGet hp hq hnext hlen,
    fun p q c s hp hq hnext => ⟨_, exec_tqAtomic hp hq hnext, rfl⟩, ?reduce,
    fun p q id c s hp hq hfind => exec_torusCmdTimeout hp hq hfind, fun len x hx => mem_packets hx, sum_packets⟩
  case poll =>
    intro p q s hp hq _ hask
    exact within_orWait_next (f := fun s => s.torPoll p q) (by simp [hp, hq]) rfl hask
  case reduce =>
    intro p q host bs c s t hp hq hnext hgroup hvalid hpart hlen hchunks hstarted hroom hread v hv hask
    subst hv
    exact exec_tqReduce hp hq hnext hgroup hvalid hpart hlen hchunks hstarted hroom hread hask

end Sys2Proof.Machine
end

section
/-! SUPPORT. Kennel's checkpoints and restores (R418 to R422). -/

namespace Sys2Proof.Machine

section
variable (s : State)

theorem State.knlErr_logs : LogsOnly s s.knlErr := s.err_logs 0 (e := .plain 3 7 0 _ _) (by show 3 < 11; decide)

@[simp] theorem State.ask_knlErr : s.knlErr.ask = s.ask := s.knlErr_logs.ask

/-- A bitmap is that of the granules of the checkpoint. -/
theorem State.knlBitmap_of_ckpt {s u : State} (h : u.knlCkpt = s.knlCkpt) (d : Nat) : u.knlBitmap d = s.knlBitmap d := by
  unfold State.knlBitmap
  rw [h]

end

section
variable {s t u v : State}

/-! ### The checkpoint's turn (R419, R421) -/

/-- The bitmap a checkpoint that is too large returns to (R421). -/
def State.knlMerged (s : State) : SMap Nat := s.knlCkpt.foldl (fun (m : SMap Nat) (e : Nat × Nat) => SMap.put 0 m e.1 (SMap.get 0 m e.1 ||| e.2)) s.knlDirty

/-- A checkpoint whose turn comes runs what its record says. -/
theorem within_knlDue {tick : Nat} {skip : Bool} {f : State → Nat → Bool → State} (hdue : s.knlDue = some (tick, skip)) (hf : f s tick skip = u) (hask : u.ask = []) :
    within s true (s.orWait (fun s => match s.knlDue with
      | none => s
      | some (t, skip) => f s t skip)) = .next (u.withQueue s.pending) :=
  within_orWait_next rfl (by rw [hdue]; exact hf) hask

theorem exec_kennelCheckpoint_skipped {tick : Nat} (hdue : s.knlDue = some (tick, true)) (hask : s.ask = []) :
    exec .kennelCheckpoint s = .next (((({ s with knlDue := none } : State).wr R.KNL_EVENT_SKIPPED 0 [] 1).knlErr).withQueue s.pending) :=
  within_knlDue hdue (if_pos rfl) ((State.ask_knlErr _).trans hask)

/-- The package as a checkpoint of `tick` starts to stream. -/
def State.knlStreams (s : State) (tick : Nat) : State := ({ s with knlDue := none, knlTick := tick } : State).wr R.KNL_STATUS_STATE 0 [] 2

/-- The bitmaps of the dies, at their places of the staging area. -/
def State.knlBitmaps (s : State) : List (Nat × Nat × List Byte) := (List.range 4).map (fun d => (0, s.knlStageBase + d * 768 * 1024, s.knlBitmap d))

theorem State.knlStageBase_knlStreams (s : State) (tick : Nat) : (s.knlStreams tick).knlStageBase = s.knlStageBase :=
  congrArg (· * 2 ^ 16) (State.rd_wr_apart _ (by decide) 0 [] 2)

theorem State.knlBitmaps_knlStreams (s : State) (tick : Nat) : (s.knlStreams tick).knlBitmaps = s.knlBitmaps :=
  List.map_congr_left fun d _ => by rw [State.knlStageBase_knlStreams, State.knlBitmap_of_ckpt (s := s) (u := s.knlStreams tick) (by rfl) d]

theorem exec_kennelCheckpoint_streams {tick : Nat} {ok : Bool} (hdue : s.knlDue = some (tick, false)) (hfits : s.knlCkpt.length ≤ s.rd R.KNL_LOG_SIZE 0)
    (hwrites : (s.knlStreams tick).knlWrites s.knlBitmaps = (ok, v))
    (hu : u = if ok && (v.torUp 0 || v.torUp 4) then v else v.knlAbandon) (hask : u.ask = []) :
    exec .kennelCheckpoint s = .next (u.withQueue s.pending) := by
  have hsmall : ¬({ s with knlDue := none } : State).rd R.KNL_LOG_SIZE 0 < s.knlCkpt.length := Nat.not_lt.2 hfits
  rw [← State.knlBitmaps_knlStreams s tick, State.knlBitmaps] at hwrites
  refine within_knlDue hdue ((if_neg Bool.false_ne_true).trans ((if_neg hsmall).trans ?_)) hask
  extract_lets S
  have hS : S = s.knlStreams tick := rfl
  clear_value S
  subst hS
  rw [hwrites]
  exact hu.symm

theorem exec_kennelCheckpoint_overflows {tick : Nat} (hdue : s.knlDue = some (tick, false)) (hlarge : s.rd R.KNL_LOG_SIZE 0 < s.knlCkpt.length)
    (hu : u = ((({ s with knlDue := none, knlDirty := s.knlMerged, knlCkpt := [], knlFrozen := [], knlStage := [] } : State).wr R.KNL_EVENT_OVERFLOW 0 [] 1).knlErr).pumpHome)
    (hask : u.ask = []) : exec .kennelCheckpoint s = .next (u.withQueue s.pending) := by
  subst hu
  exact within_knlDue hdue ((if_neg Bool.false_ne_true).trans (if_pos hlarge)) hask

theorem exec_kennelGranuleStaged {g : Nat} {bs : List Byte} {s1 s2 : State} (hfrozen : g ∈ s.knlFrozen)
    (hroom : s.knlStage.length < s.rd R.KNL_STAGE_SIZE 0 - 48) (hread : s.knlRead g = (some bs, s1))
    (hwrites : s1.knlWrites [(g, s1.knlStageBase + (48 + s.knlStage.length) * 2 ^ 16, bs)] = (true, s2))
    (hu : u = ({ s2 with knlStage := s2.knlStage ++ [(g, bs)], knlFrozen := s2.knlFrozen.filter (· != g) } : State).pumpHome) (hask : u.ask = []) :
    exec (.kennelGranuleStaged g) s = .next (u.withQueue s.pending) := by
  have hgo : (!s.knlFrozen.contains g || decide (s.rd R.KNL_STAGE_SIZE 0 - 48 ≤ s.knlStage.length)) = false := by 
    rw [List.contains_iff_mem.2 hfrozen, decide_eq_false (Nat.not_le.2 hroom)]
    rfl
  subst hu
  refine within_orWait_next rfl ?_ hask
  simp only [hgo, Bool.false_eq_true, if_false, hread, hwrites, if_true]

/-! ### The end of the stream (R419, R421) -/

/-- What the end of the stream sends: the granules and the commit. -/
def State.knlSent (s : State) (l : List (Nat × List Byte)) : State :=
  ((s.each l (fun s x => s.send (.kennel (s.knlPort x.1) 0 x.1 s.knlTick x.2))).send (.kennel ((s.each l (fun s x => s.send (.kennel (s.knlPort x.1) 0 x.1 s.knlTick x.2))).knlPort 0) 1
    (s.each l (fun s x => s.send (.kennel (s.knlPort x.1) 0 x.1 s.knlTick x.2))).knlTick l.length (shake256 64 (l.flatMap (·.2))))).bump R.KNL_SENT 0 [] l.length

/-- The granules are sent one by one, and nothing else changes. -/
theorem State.each_kennel : ∀ (l : List (Nat × List Byte)) (s : State),
    s.each l (fun s x => s.send (.kennel (s.knlPort x.1) 0 x.1 s.knlTick x.2)) =
      { s with out := s.out ++ l.map (fun x => .kennel (s.knlPort x.1) 0 x.1 s.knlTick x.2) }
  | [], s => by simp [State.each]
  | x :: l, s => by
    refine (State.each_kennel l (s.send (.kennel (s.knlPort x.1) 0 x.1 s.knlTick x.2))).trans ?_
    simp only [State.send, List.map_cons, List.append_assoc, List.cons_append, List.nil_append]
    rfl

theorem State.out_knlSent (s : State) (l : List (Nat × List Byte)) : (s.knlSent l).out =
    s.out ++ l.map (fun x => .kennel (s.knlPort x.1) 0 x.1 s.knlTick x.2) ++ [.kennel (s.knlPort 0) 1 s.knlTick l.length (shake256 64 (l.flatMap (·.2)))] := by
  unfold State.knlSent
  rw [State.each_kennel]
  rfl

theorem State.knlTick_knlSent (s : State) (l : List (Nat × List Byte)) : (s.knlSent l).knlTick = s.knlTick := by
  unfold State.knlSent
  rw [State.each_kennel]
  rfl

/-- A checkpoint that the buddy has committed. -/
def State.knlCommitted (v : State) : State :=
  ({ v.wr R.KNL_LAST 0 [] v.knlTick with knlCkpt := [], knlFrozen := [], knlStage := [] } : State).wr R.KNL_STATUS_STATE 0 [] 1

theorem State.knlState_knlCommitted (v : State) : v.knlCommitted.knlState = 1 :=
  (State.rd_wr_same _ _ _ _ 1).trans (by decide)

theorem State.knlLast_knlCommitted (v : State) : v.knlCommitted.rd R.KNL_LAST 0 = v.knlTick % 2 ^ R.KNL_LAST.width :=
  (State.rd_wr_apart _ (by decide) 0 [] 1).trans (State.rd_wr_same v _ _ _ v.knlTick)

theorem exec_kennelStreamEnd {l : List (Nat × List Byte)} {s1 : State} (committed : Bool) (hstate : s.knlState = 2) (hup : s.torUp 0 = true)
    (hlog : s.knlLogOf (s.knlCkpt.map (·.1)) = (some l, s1))
    (hu : u = if committed then (s1.knlSent l).knlCommitted.pumpHome else (s1.knlSent l).knlAbandon) (hask : u.ask = []) :
    exec (.kennelStreamEnd committed) s = .next (u.withQueue s.pending) := by
  refine within_orWait_next rfl ?_ hask
  simp only [hstate, hup, Bool.true_or, Bool.not_true, Bool.false_eq_true, bne_self_eq_false, if_false, hlog, hu]
  cases committed <;> rfl

/-! ### The buddy (R419, R421) -/

/-- What the buddy checks of a log that arrived. -/
def State.knlGood (s : State) (count : Nat) (digest : List Byte) (gs : List Nat) (data : List Byte) : Bool :=
  gs.length == count && data.length == count * 2 ^ 16 && shake256 64 data == digest && decide (count ≤ s.rd R.KNL_LOG_SIZE 0) &&
    decide (2 * s.rd R.KNL_LOG_SIZE 0 ≤ s.rd R.KNL_STORE_SIZE 0) && gs.all (fun g => decide (g + 2 * s.rd R.KNL_LOG_SIZE 0 < s.rd R.KNL_STORE_SIZE 0))

theorem State.knlGood_eq_false (s : State) {count : Nat} {digest data : List Byte} {gs : List Nat}
    (hbad : gs.length ≠ count ∨ data.length ≠ count * 2 ^ 16 ∨ shake256 64 data ≠ digest) : s.knlGood count digest gs data = false := by
  unfold State.knlGood
  rcases hbad with h | h | h
  · rw [beq_false_of_ne h, Bool.false_and, Bool.false_and, Bool.false_and, Bool.false_and, Bool.false_and]
  · rw [beq_false_of_ne h, Bool.and_false, Bool.false_and, Bool.false_and, Bool.false_and, Bool.false_and]
  · rw [beq_false_of_ne h, Bool.and_false, Bool.false_and, Bool.false_and, Bool.false_and]

theorem State.knlGood_eq_true {data : List Byte} {gs : List Nat} (hlen : data.length = gs.length * 2 ^ 16) (hlogs : gs.length ≤ s.rd R.KNL_LOG_SIZE 0)
    (hsize : 2 * s.rd R.KNL_LOG_SIZE 0 ≤ s.rd R.KNL_STORE_SIZE 0) (hgs : ∀ g ∈ gs, g + 2 * s.rd R.KNL_LOG_SIZE 0 < s.rd R.KNL_STORE_SIZE 0) :
    s.knlGood gs.length (shake256 64 data) gs data = true := by
  unfold State.knlGood
  rw [hlen, beq_self_eq_true, beq_self_eq_true, beq_self_eq_true, decide_eq_true hlogs, decide_eq_true hsize,
    List.all_eq_true.2 (fun g hg => decide_eq_true (hgs g hg))]
  rfl

theorem exec_kennelCommit_bad {tick count : Nat} {digest data : List Byte} {gs : List Nat}
    (hbad : gs.length ≠ count ∨ data.length ≠ count * 2 ^ 16 ∨ shake256 64 data ≠ digest) (hask : s.ask = []) :
    exec (.kennelCommit tick count digest gs data) s =
      .next ((((s.wr R.KNL_EVENT_ABANDONED 0 [] 1).knlErr).send (.kennel (s.knlPort 0) 5 tick 0 [])).withQueue s.pending) := by
  have hlogs : LogsOnly (s.wr R.KNL_EVENT_ABANDONED 0 [] 1) (s.wr R.KNL_EVENT_ABANDONED 0 [] 1).knlErr := State.knlErr_logs _
  refine within_orWait_next rfl ?_ (hlogs.ask.trans hask)
  exact if_neg (Bool.eq_false_iff.1 (s.knlGood_eq_false hbad))

theorem exec_kennelCommit_good {tick : Nat} {data : List Byte} {gs : List Nat} {ok : Bool} (hgood : s.knlGood gs.length (shake256 64 data) gs data = true)
    (hwrites : s.knlWrites ((gs.zip (List.range gs.length)).map (fun x => (x.1, s.knlStoreBase + (s.rd R.KNL_STORE_SIZE 0 - 2 * s.rd R.KNL_LOG_SIZE 0 +
        s.knlLog * s.rd R.KNL_LOG_SIZE 0 + x.2) * 2 ^ 16, (data.drop (x.2 * 2 ^ 16)).take (2 ^ 16))) ++
      (gs.zip (List.range gs.length)).map (fun x => (x.1, s.knlStoreBase + x.1 * 2 ^ 16, (data.drop (x.2 * 2 ^ 16)).take (2 ^ 16)))) = (ok, v)) (hask : v.ask = []) :
    exec (.kennelCommit tick gs.length (shake256 64 data) gs data) s = .next (((({ v with knlLog := 1 - v.knlLog % 2 } : State).wr R.KNL_LAST 0 [] tick).send
      (.kennel (v.knlPort 0) 5 tick 1 [])).withQueue s.pending) := by
  refine within_orWait_next rfl ?_ hask
  refine (if_pos hgood).trans ?_
  simp only [hwrites]

/-! ### Restore (R422) -/

theorem State.knlPort_zero (hup : s.torUp 0 = true) : s.knlPort 0 = 0 := if_pos hup

theorem exec_knlRestore_asks (granules : Nat) (hup : s.torUp 0 = true) (hstate : s.knlState ≠ 3) (hask : s.ask = []) : exec (.knlRestore false true granules) s =
    .next (((s.send (.kennel 0 2 0 0 (s.knlRegions.flatMap (fun r => leBytes 8 r.1 ++ leBytes 8 r.2)))).wr R.KNL_STATUS_STATE 0 [] 3).withQueue s.pending) := by
  have hgo : ¬(!(s.torUp 0 || s.torUp 4) || s.knlState == 3) = true := by
    rw [hup, beq_false_of_ne hstate, Bool.true_or]
    exact Bool.false_ne_true
  refine within_orWait_next rfl ?_ hask
  refine (if_neg Bool.false_ne_true).trans ((if_neg hgo).trans ((if_pos rfl).trans ?_))
  rw [State.knlPort_zero hup]

theorem exec_knlRestore_refuses (granules : Nat) (hask : s.ask = []) :
    exec (.knlRestore true false granules) s = .next ((s.send (.kennel (s.knlPort 0) 4 0 0 [])).withQueue s.pending) :=
  within_orWait_next rfl ((if_pos rfl).trans (if_pos rfl)) hask

/-- What a restore that has ended shows. -/
def State.knlRestored (v : State) (tick : Nat) : State := v.wrs 0 [] [(R.KNL_EVENT_RESTORED, 1), (R.KNL_LAST, tick), (R.KNL_STATUS_STATE, 4)]

theorem exec_kennelRestoreDone_restored {tick : Nat} {image : List Byte} {ok : Bool} (hstate : s.knlState = 3)
    (hwrites : s.knlWrites ((List.range (s.knlRegions.foldl (fun k r => k + r.2) 0)).filterMap (fun g =>
      (knlPlace s.knlRegions g).map (fun a => (g, a, padTo (2 ^ 16) (image.drop (g * 2 ^ 16)))))) = (ok, v)) (hask : v.ask = []) :
    exec (.kennelRestoreDone false tick image) s = .next ((v.knlRestored tick).withQueue s.pending) := by
  have hgo : ¬(s.knlState != 3) = true := by
    rw [hstate]
    decide
  refine within_orWait_next rfl ((if_neg hgo).trans ((if_neg Bool.false_ne_true).trans ?_)) hask
  extract_lets n
  rw [hwrites] <;> rfl

theorem State.knlState_knlRestored (v : State) (tick : Nat) : (v.knlRestored tick).knlState = 4 :=
  (State.rd_wr_same _ _ _ _ 4).trans (by decide)

theorem State.knlLast_knlRestored (v : State) (tick : Nat) : (v.knlRestored tick).rd R.KNL_LAST 0 = tick % 2 ^ R.KNL_LAST.width :=
  (State.rd_wr_apart _ (by decide) 0 [] 4).trans (State.rd_wr_same _ _ _ _ tick)

theorem State.event_knlRestored (v : State) (tick : Nat) : (v.knlRestored tick).rdB R.KNL_EVENT_RESTORED 0 = true := by
  have hrd : (v.knlRestored tick).rd R.KNL_EVENT_RESTORED 0 = 1 :=
    (State.rd_wr_apart _ (by decide) 0 [] 4).trans ((State.rd_wr_apart _ (f := R.KNL_LAST) (by decide) 0 [] tick).trans ((State.rd_wr_same v _ _ _ 1).trans (by decide)))
  rw [State.rdB, hrd]
  rfl

/-- A restore that the buddy has refused. -/
def State.knlRefused (s : State) : State := (s.wr R.KNL_STATUS_STATE 0 [] (s.rd R.KNL_CTRL_ENABLE 0)).wr R.KNL_EVENT_MISMATCH 0 [] 1

theorem exec_kennelRestoreDone_refused (tick : Nat) (image : List Byte) (hstate : s.knlState = 3) (hask : s.ask = []) :
    exec (.kennelRestoreDone true tick image) s = .next (s.knlRefused.knlErr.withQueue s.pending) := by
  have hgo : ¬(s.knlState != 3) = true := by
    rw [hstate]
    decide
  exact within_orWait_next rfl ((if_neg hgo).trans (if_pos rfl)) ((State.ask_knlErr _).trans hask)

theorem State.event_knlRefused (s : State) : s.knlRefused.rdB R.KNL_EVENT_MISMATCH 0 = true := by
  have hrd : s.knlRefused.rd R.KNL_EVENT_MISMATCH 0 = 1 := (State.rd_wr_same _ _ _ _ 1).trans (by decide)
  rw [State.rdB, hrd]
  rfl

theorem State.knlState_knlRefused (henable : s.rd R.KNL_CTRL_ENABLE 0 < 2) : s.knlRefused.knlState = s.rd R.KNL_CTRL_ENABLE 0 :=
  (State.rd_wr_apart _ (by decide) 0 [] 1).trans (State.rd_wr_fits s _ _ _ _ (Nat.lt_of_lt_of_le henable (by decide)))

end

/-- Settles O47. -/
theorem kennelCommandsComplete : Obligations.KennelCommandsComplete := by
  refine ⟨?skipped, ?streams, ?overflows, ?staged, ?streamEnd, ?bad, ?good, ?asks, ?refuses, ?restored, ?refused⟩
  case skipped =>
    intro tick s hdue hask
    exact exec_kennelCheckpoint_skipped hdue hask
  case streams =>
    intro tick ok s v u hdue hfits hwrites hu hask
    exact exec_kennelCheckpoint_streams hdue hfits hwrites hu hask
  case overflows =>
    intro tick m s u hdue hlarge hm hu hask
    subst hm
    exact exec_kennelCheckpoint_overflows hdue hlarge hu hask
  case staged =>
    intro g bs s s1 s2 u hfrozen hroom hread hwrites hu hask
    exact exec_kennelGranuleStaged hfrozen hroom hread hwrites hu hask
  case streamEnd =>
    intro l s s1 hstate hup hlog
    refine ⟨s1.knlSent l, s1.out_knlSent l, fun hask => exec_kennelStreamEnd false hstate hup hlog rfl hask,
      (s1.knlSent l).knlCommitted, rfl, State.knlState_knlCommitted _, rfl, rfl, rfl, ?_, fun hask => exec_kennelStreamEnd true hstate hup hlog rfl hask⟩
    rw [State.knlLast_knlCommitted, State.knlTick_knlSent]
  case bad =>
    intro tick count digest data gs s hbad hask
    exact exec_kennelCommit_bad hbad hask
  case good =>
    intro tick gs data ok s v hlen hlogs hsize hgs hwrites hask
    exact exec_kennelCommit_good (State.knlGood_eq_true hlen hlogs hsize hgs) hwrites hask
  case asks =>
    intro g s hup hstate hask
    refine ⟨_, exec_knlRestore_asks g hup hstate hask, ?_, ?_⟩
    · exact (State.rd_wr_same _ _ _ _ 3).trans (by decide)
    · exact State.withQueue_out _ _
  case refuses =>
    intro g s hask
    exact exec_knlRestore_refuses g hask
  case restored =>
    intro tick image ok s v hstate hwrites hask
    refine ⟨_, exec_kennelRestoreDone_restored hstate hwrites hask, ?_, ?_, ?_, ?_⟩
    · exact State.knlState_knlRestored v tick
    · exact State.event_knlRestored v tick
    · exact State.knlLast_knlRestored v tick
    · rw [State.withQueue_dram]
      rfl
  case refused =>
    intro tick image s hstate hask henable
    exact ⟨s.knlRefused, exec_kennelRestoreDone_refused tick image hstate hask, s.event_knlRefused, State.knlState_knlRefused henable, rfl⟩
end Sys2Proof.Machine
end

section
/-! SUPPORT. The sideband ring (R424 to R427). -/

namespace Sys2Proof.Machine

section
variable {s u : State}

/-- A command whose indices the package has comes to what its effect comes to. -/
theorem within_next_eq {ok : Bool} (hok : ok = true) (h : s = u) (t : State) : within t ok s = .next (u.withQueue t.pending) :=
  h ▸ within_next t s ok hok

theorem sideIds {dest src : Nat} (hdest : dest < 256) (hsrc : src < 256) : (decide (dest < 256) && decide (src < 256)) = true := by
  rw [decide_eq_true hdest, decide_eq_true hsrc]
  rfl

theorem State.sbrErr_logs (s : State) : LogsOnly s s.sbrErr := s.err_logs 0 (e := .plain 3 6 0 _ _) (by show 3 < 11; decide)

/-! ### Frames (R424, R425) -/

theorem State.sbrFrame_here {src seq : Nat} (kind : Nat) (payload : List Byte) (f : State → State) (hup : s.sbrUp = true) (hpos : s.sbrPos < 255) :
    s.sbrFrame true kind src s.sbrPos seq payload f = (f s).send (.side 5 (sideHead 5 s.sbrPos src 0 seq)) :=
  (if_neg (by rw [hup]; decide)).trans ((if_neg (by decide)).trans ((if_neg (Nat.ne_of_lt hpos)).trans (if_pos rfl)))

theorem State.sbrFrame_forward {dest src seq : Nat} (kind : Nat) (payload : List Byte) (f : State → State) (hup : s.sbrUp = true) (hdest : dest < 255)
    (hother : dest ≠ s.sbrPos) : s.sbrFrame true kind src dest seq payload f = s.sbrForward kind src dest seq payload :=
  (if_neg (by rw [hup]; decide)).trans ((if_neg (by decide)).trans ((if_neg (Nat.ne_of_lt hdest)).trans (if_neg hother)))

theorem exec_mgmtFrame_here {src seq : Nat} (payload : List Byte) (same : Bool) (granules : Nat) (hsrc : src < 256) (hseq : seq < 2 ^ 16) (hup : s.sbrUp = true)
    (hpos : s.sbrPos < 255) (hlife : s.rd R.LCS_STATE_STATE 0 ≠ 3) (hask : s.ask = []) :
    exec (.mgmtFrame true s.sbrPos src seq payload false false same granules) s =
      .next (((s.send (.mgmt 0 2 src seq)).send (.side 5 (sideHead 5 s.sbrPos src 0 seq))).withQueue s.pending) := by
  refine within_orWait_next (sideIds (Nat.lt_of_lt_of_le hpos (by decide)) hsrc) ?_ hask
  rw [Nat.mod_eq_of_lt hseq, State.sbrFrame_here 2 payload _ hup hpos, if_neg Bool.false_ne_true, if_neg hlife, if_neg Bool.false_ne_true]

theorem exec_mgmtFrame_forward {dest src : Nat} (seq : Nat) (payload : List Byte) (query restore same : Bool) (granules : Nat) (hdest : dest < 255) (hsrc : src < 256)
    (hup : s.sbrUp = true) (hother : dest ≠ s.sbrPos) (hask : s.ask = []) :
    exec (.mgmtFrame true dest src seq payload query restore same granules) s = .next ((s.sbrForward 2 src dest (seq % 2 ^ 16) payload).withQueue s.pending) :=
  within_orWait_next (sideIds (Nat.lt_of_lt_of_le hdest (by decide)) hsrc) (State.sbrFrame_forward 2 payload _ hup hdest hother) hask

theorem exec_attestFrame_forward {dest src : Nat} (seq : Nat) (payload : List Byte) (hdest : dest < 255) (hsrc : src < 256) (hup : s.sbrUp = true)
    (hother : dest ≠ s.sbrPos) : exec (.attestFrame true dest src seq payload) s = .next ((s.sbrForward 3 src dest (seq % 2 ^ 16) payload).withQueue s.pending) :=
  within_next_eq (sideIds (Nat.lt_of_lt_of_le hdest (by decide)) hsrc) (State.sbrFrame_forward 3 payload _ hup hdest hother) s

theorem exec_mgmtAck_here {src : Nat} (seq : Nat) (hsrc : src < 256) (hup : s.sbrUp = true) (hpos : s.sbrPos < 256) : exec (.mgmtAck true s.sbrPos src seq) s =
    .next (({ s with sideOut := s.sideOut.filter (fun (x : SideFrame) => x.seq != seq % 2 ^ 16) } : State).withQueue s.pending) :=
  within_next_eq (sideIds hpos hsrc) ((if_neg (by rw [hup]; decide)).trans ((if_neg (by decide)).trans (if_pos rfl))) s

/-! ### Retries (R425) -/

theorem exec_sbrRetry_again {seq : Nat} {x : SideFrame} (hfind : s.sideOut.find? (fun (x : SideFrame) => x.seq == seq) = some x) (htries : x.tries < 3) :
    exec (.sbrRetry seq) s =
      .next ((({ s with sideOut := s.sideOut.map (fun (y : SideFrame) => if y.seq == seq then { y with tries := y.tries + 1 } else y) } : State).send
        (.side x.kind (sideHead x.kind s.sbrPos x.dest x.payload.length x.seq ++ x.payload))).withQueue s.pending) := by
  refine within_next_eq rfl ?_ s
  rw [hfind]
  exact if_pos htries

/-- The package without the frame no answer has come to, with RETRY_FAIL shown. -/
def State.sbrGivenUp (s : State) (seq : Nat) : State :=
  ({ s with sideOut := s.sideOut.filter (fun (y : SideFrame) => y.seq != seq) } : State).wr R.SBR_EVENT_RETRY_FAIL 0 [] 1

theorem exec_sbrRetry_fails {seq : Nat} {x : SideFrame} (hfind : s.sideOut.find? (fun (x : SideFrame) => x.seq == seq) = some x) (htries : 3 ≤ x.tries) :
    exec (.sbrRetry seq) s = .next ((s.sbrGivenUp seq).sbrErr.withQueue s.pending) := by
  refine within_next_eq rfl ?_ s
  rw [hfind]
  exact if_neg (Nat.not_lt.2 htries)

theorem State.event_sbrGivenUp (s : State) (seq : Nat) : (s.sbrGivenUp seq).rdB R.SBR_EVENT_RETRY_FAIL 0 = true := by
  have hrd : (s.sbrGivenUp seq).rd R.SBR_EVENT_RETRY_FAIL 0 = 1 := (State.rd_wr_same _ _ _ _ 1).trans (by decide)
  rw [State.rdB, hrd]
  rfl

/-! ### Training and the bypass (R426, R427) -/

/-- The package once it has a position and its hop. -/
def State.sbrTrained (s : State) (value hop : Nat) : State :=
  (((s.wr R.SBR_STATUS_POSITION 0 [] value).send (.side 4 (leBytes 1 0 ++ leBytes 1 (value + 1)))).wr R.SBR_HOP_DOWN 0 [] hop).send (.side 4 (leBytes 1 1 ++ leBytes 4 hop))

theorem exec_trainFrame_position {value : Nat} (hop : Nat) (hup : s.sbrUp = true) (hsource : s.rd R.TCK_CTRL_SOURCE 0 < 2 ∨ value = 0) :
    exec (.trainFrame 0 value true hop) s = .next ((s.sbrTrained value hop).withQueue s.pending) := by
  have hgo : ¬(decide (0 = 0) && decide (2 ≤ s.rd R.TCK_CTRL_SOURCE 0) && value != 0) = true := by
    rcases hsource with hsource | rfl
    · rw [decide_eq_false (Nat.not_le.2 hsource)]
      exact Bool.false_ne_true
    · rw [bne_self_eq_false, Bool.and_false]
      exact Bool.false_ne_true
  exact within_next_eq rfl ((if_neg (by rw [hup]; decide)).trans ((if_neg hgo).trans ((if_pos rfl).trans (if_pos rfl)))) s

theorem exec_trainFrame_master {value : Nat} (ok : Bool) (hop : Nat) (hup : s.sbrUp = true) (hsource : 2 ≤ s.rd R.TCK_CTRL_SOURCE 0) (hvalue : value ≠ 0) :
    exec (.trainFrame 0 value ok hop) s =
      .next (((s.wr R.SBR_STATUS_RING_SIZE 0 [] (value - 1)).send (.side 4 (leBytes 1 2 ++ leBytes 1 value))).withQueue s.pending) := by
  have hgo : (decide (0 = 0) && decide (2 ≤ s.rd R.TCK_CTRL_SOURCE 0) && value != 0) = true := by
    rw [decide_eq_true hsource, bne_iff_ne.2 hvalue]
    rfl
  exact within_next_eq rfl ((if_neg (by rw [hup]; decide)).trans (if_pos hgo)) s

theorem State.sbrPos_sbrTrained (s : State) {value : Nat} (hop : Nat) (hvalue : value < 2 ^ R.SBR_STATUS_POSITION.width) : (s.sbrTrained value hop).sbrPos = value :=
  (State.rd_wr_apart _ (by decide) 0 [] hop).trans (State.rd_wr_fits s _ _ _ value hvalue)

/-- The package as its bypass has opened. -/
def State.sbrOpened (s : State) (hop : Nat) : State :=
  ((s.wrs 0 [] [(R.SBR_STATUS_STATE, 2), (R.SBR_EVENT_RELOCK, 1), (R.TCK_HOP_DELAY, 0)]).wr R.SBR_HOP_DOWN 0 [] hop).send (.side 4 (leBytes 1 1 ++ leBytes 4 hop))

theorem exec_bypassOpen (hop : Nat) (hdown : s.sbrUp = false) : exec (.bypassOpen true hop) s = .next ((s.sbrOpened hop).withQueue s.pending) :=
  within_next_eq rfl ((if_neg (by rw [hdown]; decide)).trans (if_pos rfl)) s

theorem State.sbrUp_sbrOpened (s : State) (hop : Nat) : (s.sbrOpened hop).sbrUp = true := by
  have hrd : (s.sbrOpened hop).rd R.SBR_STATUS_STATE 0 = 2 :=
    (State.rd_wr_apart _ (by decide) 0 [] hop).trans ((State.rd_wrs_apart 0 [] [(R.SBR_EVENT_RELOCK, 1), (R.TCK_HOP_DELAY, 0)] _ (by rfl)).trans
      ((State.rd_wr_same s _ _ _ 2).trans (by decide)))
  rw [State.sbrUp, hrd]
  rfl

theorem exec_sbrLeave (s : State) : exec .sbrLeave s = .next (s.sbrBypass.withQueue s.pending) := within_next_eq rfl rfl s

theorem State.sbrUp_sbrBypass (s : State) : s.sbrBypass.sbrUp = false := by
  have hrd : s.sbrBypass.rd R.SBR_STATUS_STATE 0 = 0 := State.rd_wr_same _ _ _ _ 0
  rw [State.sbrUp, hrd]
  rfl

end

/-- Settles O48: a frame for this package is acted on or acknowledged, a retry ends or goes on, and training and the bypass set the ring's fields. -/
theorem sidebandCommandsComplete : Obligations.SidebandCommandsComplete := by
  refine ⟨?here, ?forward, ?attest, ?ack, ?retry, ?position, ?master, ?opened, ?closed⟩
  case here =>
    intro src seq g payload same s hsrc hseq hup hpos hlife hask
    refine ⟨_, exec_mgmtFrame_here payload same g hsrc hseq hup hpos hlife hask, ?_⟩
    rw [State.withQueue_out]
    exact List.append_assoc _ _ _
  case forward =>
    intro dest src seq g payload query restore same s hdest hsrc hup hother hask
    refine ⟨_, exec_mgmtFrame_forward seq payload query restore same g hdest hsrc hup hother hask, ?_, ?_⟩
    · exact State.withQueue_out _ _
    · exact State.rd_bump_same s R.SBR_FRAMES 0 [] 1
  case attest =>
    intro dest src seq payload s hdest hsrc hup hother
    exact ⟨_, exec_attestFrame_forward seq payload hdest hsrc hup hother, State.withQueue_out _ _⟩
  case ack =>
    intro src seq s hsrc hup hpos
    exact ⟨_, exec_mgmtAck_here seq hsrc hup hpos, State.withQueue_sideOut _ _⟩
  case retry =>
    intro seq x s hfind
    refine ⟨fun htries => ⟨_, exec_sbrRetry_again hfind htries, State.withQueue_out _ _⟩, fun htries => ?_⟩
    exact ⟨s.sbrGivenUp seq, exec_sbrRetry_fails hfind htries, s.event_sbrGivenUp seq, rfl⟩
  case position =>
    intro value hop s hvalue hup hsource
    refine ⟨_, exec_trainFrame_position hop hup hsource, ?_, ?_, ?_⟩
    · exact s.sbrPos_sbrTrained hop hvalue
    · exact State.rd_wr_same _ _ _ _ hop
    · rw [State.withQueue_out]
      exact List.append_assoc _ _ _
  case master =>
    intro value hop ok s hup hsource hvalue
    refine ⟨_, exec_trainFrame_master ok hop hup hsource hvalue, ?_, State.withQueue_out _ _⟩
    exact State.rd_wr_same _ _ _ _ (value - 1)
  case opened =>
    intro hop s hdown
    exact ⟨_, exec_bypassOpen hop hdown, s.sbrUp_sbrOpened hop, State.withQueue_out _ _⟩
  case closed =>
    intro s
    exact ⟨_, exec_sbrLeave s, s.sbrUp_sbrBypass, State.withQueue_sideOut _ _⟩

end Sys2Proof.Machine
end

section
/-! SUPPORT. Heel of the host port (R449, R455 to R458). -/

namespace Sys2Proof.Machine

section
variable {s u : State}

/-- A command that has no effect ends with the state it started in. -/
theorem within_next_same {ok : Bool} (hok : ok = true) (h : u = s) : within s ok u = .next s := by
  rw [h, within_next s s ok hok, State.withQueue_self]

theorem rdB_eq_true {f : Fld} {d : Nat} {ix : List Nat} (h : s.rd f d ix = 1) : s.rdB f d ix = true := by
  rw [State.rdB, h]
  rfl

theorem rdB_eq_false {f : Fld} {d : Nat} {ix : List Nat} (h : s.rd f d ix = 0) : s.rdB f d ix = false := by
  rw [State.rdB, h]
  rfl

/-- A bit set in a field that holds it is read there. -/
theorem bit_or_two_pow_mod (v : Nat) {k w : Nat} (hk : k < w) : bit ((v ||| 2 ^ k) % 2 ^ w) k = true := by
  rw [bit, Nat.testBit_mod_two_pow, Nat.testBit_or, Nat.testBit_two_pow_self, decide_eq_true hk, Bool.or_true]
  rfl

/-! ### The marks of Heel -/

/-- The marks of Heel are registers only. -/
theorem State.heelFlag_part {α : Type} (p : State → α) (hp : ∀ t f d ix v, p (State.wr t f d ix v) = p t) (s : State) (v : Nat) : p (s.heelFlag v) = p s := by
  unfold State.heelFlag
  exact State.each_keeps (fun t => p t = p s) _ (fun t n ht => (hp t _ _ _ _).trans ht) _ _ ((hp _ _ _ _ _).trans (hp s _ _ _ _))

/-- The flags of the virtual functions leave what lies before them. -/
theorem State.rd_heelFlag {g : Fld} {e : Nat} {jx : List Nat} (s : State) (v : Nat) (hg : g.clear R.PCI_VF_STATUS_HEEL = true) (hjx : idxFits g.dims jx) :
    (s.heelFlag v).rd g e jx = ((s.wr R.HEL_HOST_STATUS_ACTIVE 0 [] v).wr R.PCI_STATUS_HEEL 0 [] v).rd g e jx :=
  State.rd_each _ _ _ fun t _ hn => t.rd_wr_clear hg v hjx ⟨List.mem_range.1 hn, trivial⟩

theorem State.active_heelFlag (s : State) (v : Nat) : (s.heelFlag v).rd R.HEL_HOST_STATUS_ACTIVE 0 = v % 2 :=
  (s.rd_heelFlag v (g := R.HEL_HOST_STATUS_ACTIVE) (by decide) trivial).trans ((State.rd_wr_apart _ (by decide) 0 [] v).trans (State.rd_wr_same _ _ _ _ v))

theorem State.pciHeel_heelFlag (s : State) (v : Nat) : (s.heelFlag v).rd R.PCI_STATUS_HEEL 0 = v % 2 :=
  (s.rd_heelFlag v (g := R.PCI_STATUS_HEEL) (by decide) trivial).trans (State.rd_wr_same _ _ _ _ v)

theorem State.vfHeel_heelFlag (s : State) (v : Nat) {n : Nat} (hn : n < 64) : (s.heelFlag v).rd R.PCI_VF_STATUS_HEEL 0 [n] = v % 2 := by
  refine State.each_establishes (fun n t => t.rd R.PCI_VF_STATUS_HEEL 0 [n] = v % 2) _ (fun t m => State.rd_wr_same t _ _ _ v) (fun t m k ht => ?_) _ _ n (List.mem_range.2 hn)
  by_cases hmk : m = k
  · subst hmk
    exact State.rd_wr_same t _ _ _ v
  · refine (State.rd_wr_ne t _ _ _ _ _ _ v ?_).trans ht
    intro hkey
    simp only [Fld.key, Fld.offset, strideSum, R.PCI_VF_STATUS_HEEL] at hkey
    omega

/-- The host port with a cause of Heel. -/
def State.heelCaused (s : State) (k : Nat) : State := s.wr R.HEL_HOST_STATUS_CAUSE 0 [] (s.rd R.HEL_HOST_STATUS_CAUSE 0 ||| 2 ^ k)

/-- The host port as it enters Heel, before its record. -/
def State.heelEntered (s : State) (k : Nat) : State := ((s.heelCaused k).heelFlag 1).wr R.HEL_ENTRY_TICK 0 [] (s.heelCaused k).tick

theorem State.hostHeel_enters (k : Nat) (second : Bool) (hout : s.heel = false) :
    s.hostHeel k second = ((s.heelEntered k).err 0 (.plain 4 1 1 (scopeOf 5 0) (s.heelEntered k).heelStatus)).failReads :=
  if_neg (Bool.eq_false_iff.1 hout)

theorem State.hostHeel_again (k : Nat) (second : Bool) (hin : s.heel = true) : s.hostHeel k second = if second then (s.heelCaused k).hostEscalate else s.heelCaused k :=
  if_pos hin

theorem State.cause_heelCaused (s : State) {k : Nat} (hk : k < 5) : bit ((s.heelCaused k).rd R.HEL_HOST_STATUS_CAUSE 0) k = true := by
  rw [State.heelCaused, State.rd_wr_same]
  exact bit_or_two_pow_mod _ hk

theorem State.heel_heelCaused (s : State) (k : Nat) : (s.heelCaused k).heel = s.heel :=
  congrArg (· != 0) (State.rd_wr_apart s (g := R.HEL_HOST_STATUS_ACTIVE) (by decide) 0 [] _)

section
variable (s : State) (k : Nat)

theorem State.heel_heelEntered : (s.heelEntered k).heel = true :=
  rdB_eq_true ((State.rd_wr_apart _ (by decide) 0 [] _).trans (State.active_heelFlag _ 1))

theorem State.cause_heelEntered (hk : k < 5) : bit ((s.heelEntered k).rd R.HEL_HOST_STATUS_CAUSE 0) k = true := by
  have hrd : (s.heelEntered k).rd R.HEL_HOST_STATUS_CAUSE 0 = (s.heelCaused k).rd R.HEL_HOST_STATUS_CAUSE 0 :=
    (State.rd_wr_apart _ (by decide) 0 [] _).trans ((State.rd_heelFlag _ 1 (g := R.HEL_HOST_STATUS_CAUSE) (by decide) trivial).trans
      ((State.rd_wr_clear _ (by decide) 1).trans (State.rd_wr_apart _ (by decide) 0 [] 1)))
  rw [hrd]
  exact s.cause_heelCaused hk

theorem State.pciHeel_heelEntered : (s.heelEntered k).rdB R.PCI_STATUS_HEEL 0 = true :=
  rdB_eq_true ((State.rd_wr_clear _ (by decide) _).trans (State.pciHeel_heelFlag _ 1))

theorem State.vfHeel_heelEntered {n : Nat} (hn : n < 64) : (s.heelEntered k).rdB R.PCI_VF_STATUS_HEEL 0 [n] = true :=
  rdB_eq_true ((State.rd_wr_clear _ (g := R.PCI_VF_STATUS_HEEL) (jx := [n]) (by decide) _ ⟨hn, trivial⟩).trans (State.vfHeel_heelFlag _ 1 hn))

theorem State.entry_heelEntered : (s.heelEntered k).rd R.HEL_ENTRY_TICK 0 = s.tick % 2 ^ R.HEL_ENTRY_TICK.width := by
  have htick : (s.heelCaused k).tick = s.tick := State.rd_wr_clear _ (by decide) _
  rw [← htick]
  exact State.rd_wr_same _ _ _ _ _

theorem State.hreads_heelEntered : (s.heelEntered k).hreads = s.hreads := by
  rw [State.heelEntered, State.wr_hreads, State.heelFlag_part (·.hreads) (fun _ _ _ _ _ => rfl), State.heelCaused, State.wr_hreads]

end

/-! ### RELEASE (R457) -/

/-- What stands against RELEASE. -/
def State.heelStays (s : State) : Bool :=
  s.rd R.HEL_HOST_STATUS_CAUSE 0 != 0 || s.rd R.PCI_STATUS_SPEED 0 == 0 ||
    (List.range 65).any (fun fn => ((List.range 32).any (fun b => bit (s.cfgGet fn 4) b && !bit (s.cfgGet fn 5) b)))

theorem State.heelStays_eq_true (h : s.rd R.HEL_HOST_STATUS_CAUSE 0 ≠ 0 ∨ s.rd R.PCI_STATUS_SPEED 0 = 0 ∨
    ∃ fn < 65, ∃ b < 32, bit (s.cfgGet fn 4) b = true ∧ bit (s.cfgGet fn 5) b = false) : s.heelStays = true := by
  rw [State.heelStays, Bool.or_eq_true, Bool.or_eq_true]
  rcases h with hcause | hspeed | ⟨fn, hfn, b, hb, hset, hopen⟩
  · exact .inl (.inl (bne_iff_ne.2 hcause))
  · exact .inl (.inr (beq_iff_eq.2 hspeed))
  · refine .inr (List.any_eq_true.2 ⟨fn, List.mem_range.2 hfn, List.any_eq_true.2 ⟨b, List.mem_range.2 hb, ?_⟩⟩)
    rw [hset, hopen]
    rfl

theorem State.heelStays_eq_false (hcause : s.rd R.HEL_HOST_STATUS_CAUSE 0 = 0) (hspeed : s.rd R.PCI_STATUS_SPEED 0 ≠ 0)
    (hmasked : ∀ fn < 65, ∀ b < 32, bit (s.cfgGet fn 4) b = true → bit (s.cfgGet fn 5) b = true) : s.heelStays = false := by
  rw [State.heelStays, Bool.or_eq_false_iff, Bool.or_eq_false_iff]
  refine ⟨⟨bne_eq_false_iff_eq.2 hcause, beq_false_of_ne hspeed⟩, List.any_eq_false.2 fun fn hfn => ?_⟩
  rw [Bool.not_eq_true]
  refine List.any_eq_false.2 fun b hb => ?_
  have h := hmasked fn (List.mem_range.1 hfn) b (List.mem_range.1 hb)
  cases hset : bit (s.cfgGet fn 4) b with
  | false => exact Bool.false_ne_true
  | true =>
    rw [h hset]
    exact Bool.false_ne_true

/-- The host port out of Heel, with nothing held. -/
def State.heelLeft (s : State) : State := (({ s with heldWrites := [], heldMsix := [] } : State).heelFlag 0).wr R.HEL_HELD 0 [] 0

/-- What leaving Heel sends: the writes and the messages held, and the records kept. -/
def State.heelFlushed (s : State) : State :=
  let w := ((s.heelLeft).each s.heldWrites (fun (v : State) (o : Out) => match o with
    | .hostWrite ro fn a bs => v.hostWrite fn a bs ro
    | o => v.send o)).each s.heldMsix (fun v k => v.msix (k / 64) (k % 64))
  w.each (w.errs.filter (fun (r : ErrRec) => !r.wait)) State.mirror

theorem exec_helRelease_refused (hin : s.heel = true) (hstays : s.heelStays = true) :
    exec .helRelease s = .next ((s.wr R.HEL_HOST_STATUS_REFUSED 0 [] 1).withQueue s.pending) :=
  within_next_eq rfl ((if_neg (by rw [hin]; decide)).trans (if_pos hstays)) s

theorem exec_helRelease_leaves (hin : s.heel = true) (hstays : s.heelStays = false) :
    exec .helRelease s = .next (s.heelFlushed.pumpAts.unpark.withQueue s.pending) :=
  within_next_eq rfl ((if_neg (by rw [hin]; decide)).trans (if_neg (Bool.eq_false_iff.1 hstays))) s

theorem State.heel_heelLeft (s : State) : s.heelLeft.heel = false :=
  rdB_eq_false ((State.rd_wr_clear _ (by decide) 0).trans (State.active_heelFlag _ 0))

theorem State.heldWrites_heelLeft (s : State) : s.heelLeft.heldWrites = [] := by
  rw [State.heelLeft, State.wr_heldWrites, State.heelFlag_part (·.heldWrites) (fun _ _ _ _ _ => rfl)]

theorem State.heldMsix_heelLeft (s : State) : s.heelLeft.heldMsix = [] := by
  rw [State.heelLeft, State.wr_heldMsix, State.heelFlag_part (·.heldMsix) (fun _ _ _ _ _ => rfl)]

end

/-- Settles O49: a cause enters Heel, or is a second error there, and RELEASE leaves it once nothing stands against it. -/
theorem hostHeelCommandsComplete : Obligations.HostHeelCommandsComplete := by
  refine ⟨?force, ?protocol, ?lost, ?reset, ?enters, ?again, ?refused, ?leaves, ?outside⟩
  case force =>
    intro s
    exact within_next_eq rfl rfl s
  case protocol =>
    intro b s hb
    exact within_next_eq (decide_eq_true hb) rfl s
  case lost =>
    intro s
    exact within_next_eq rfl (congrArg ((s.aerSet 0 5).linkOff.hostHeel 0) (Bool.and_true _)) s
  case reset =>
    intro s
    exact within_next_eq rfl (congrArg (s.linkOff.hostHeel 0) (Bool.and_false _)) s
  case enters =>
    intro k second s hk hout
    exact ⟨s.heelEntered k, State.hostHeel_enters k second hout, s.heel_heelEntered k, s.cause_heelEntered k hk, s.pciHeel_heelEntered k,
      fun n hn => s.vfHeel_heelEntered k hn, s.entry_heelEntered k, s.hreads_heelEntered k⟩
  case again =>
    intro k s hk hin
    exact ⟨s.heelCaused k, State.hostHeel_again k false hin, State.hostHeel_again k true hin, s.cause_heelCaused hk, (s.heel_heelCaused k).trans hin, rfl, rfl⟩
  case refused =>
    intro s hin hstays
    refine ⟨_, exec_helRelease_refused hin (State.heelStays_eq_true hstays), ?_, ?_, ?_⟩
    · exact rdB_eq_true (State.rd_wr_same s _ _ _ 1)
    · exact (congrArg (· != 0) (State.rd_wr_apart s (g := R.HEL_HOST_STATUS_ACTIVE) (by decide) 0 [] 1)).trans hin
    · exact State.withQueue_heldWrites _ _
  case leaves =>
    intro s hin hcause hspeed hmasked
    exact ⟨s.heelLeft, s.heelFlushed, exec_helRelease_leaves hin (State.heelStays_eq_false hcause hspeed hmasked), s.heel_heelLeft, s.heldWrites_heelLeft,
      s.heldMsix_heelLeft, State.rd_wr_same _ _ _ _ 0, rfl⟩
  case outside =>
    intro s hout
    exact within_next_same rfl (if_pos (by rw [hout]; rfl))

end Sys2Proof.Machine
end

section
/-! SUPPORT. Completions of the host (R441, R447 to R450). -/

namespace Sys2Proof.Machine

section
variable {s u : State} {tag status : Nat} {ep : Bool} {data : List Byte} {h : HostRead}

/-- The bytes of a read once a completion has come. -/
def HostRead.took (h : HostRead) (status : Nat) (data : List Byte) : List Byte := if status = 0 then h.got ++ data.take (h.len - h.got.length) else h.got

/-- The reads once `got` has come for a tag: one that is whole is over. -/
def State.readTook (s : State) (tag : Nat) (h : HostRead) (got : List Byte) : State :=
  { s with hreads := if got.length == h.len then s.hreads.filter (fun (x : HostRead) => x.tag != tag)
    else s.hreads.map (fun (x : HostRead) => if x.tag == tag then { h with got := got } else x) }

/-- What a completion of a read comes to, by the state of the read. -/
theorem State.hostCpl_found (hfind : s.hreads.find? (fun (h : HostRead) => h.tag == tag) = some h) : s.hostCpl tag status ep data =
    if h.state = 1 then (s.readTook tag h (h.took status data)).lateCpl h.fn
    else if s.heel then (s.readTook tag h (h.took status data)).bump R.HEL_DISCARDED 0 [] 1
    else if h.state = 3 then (s.readTook tag h (h.took status data)).lateCpl h.fn
    else if h.fgen != s.rd R.PCI_FN_STATE_FGEN 0 [h.fn] then (s.readTook tag h (h.took status data)).bump R.PCI_DISCARDS 0 [] 1
    else if h.state != 0 then s.readTook tag h (h.took status data)
    else if ep then (s.aerSet h.fn 12).hostHeel 2 false
    else if status != 0 then (s.failRead h 4).setRead tag 2
    else if (h.took status data).length == h.len then
      ((s.readTook tag h (h.took status data)).bump R.PCI_RD_BYTES 0 [] ((h.took status data).length - h.got.length)).answer tag 0 0 (h.took status data)
    else (s.readTook tag h (h.took status data)).bump R.PCI_RD_BYTES 0 [] ((h.took status data).length - h.got.length) := by
  unfold State.hostCpl
  rw [hfind] <;> rfl

/-- A completion of a read that is waited for, in the generation of its function. -/
theorem State.hostCpl_live (hfind : s.hreads.find? (fun (h : HostRead) => h.tag == tag) = some h) (hstate : h.state = 0) (hout : s.heel = false)
    (hgen : h.fgen = s.rd R.PCI_FN_STATE_FGEN 0 [h.fn]) : s.hostCpl tag status ep data =
    if ep then (s.aerSet h.fn 12).hostHeel 2 false
    else if status != 0 then (s.failRead h 4).setRead tag 2
    else if (h.took status data).length == h.len then
      ((s.readTook tag h (h.took status data)).bump R.PCI_RD_BYTES 0 [] ((h.took status data).length - h.got.length)).answer tag 0 0 (h.took status data)
    else (s.readTook tag h (h.took status data)).bump R.PCI_RD_BYTES 0 [] ((h.took status data).length - h.got.length) := by
  have hne (n : Nat) (hn : n ≠ 0) : ¬h.state = n := fun he => hn (he.symm.trans hstate)
  rw [State.hostCpl_found hfind, if_neg (hne 1 (by decide)), if_neg (Bool.eq_false_iff.1 hout), if_neg (hne 3 (by decide)),
    if_neg (by rw [hgen, bne_self_eq_false]; decide), if_neg (by rw [hstate]; decide)]

theorem HostRead.took_success (hlen : h.got.length + data.length ≤ h.len) : h.took 0 data = h.got ++ data := by
  rw [HostRead.took, if_pos rfl, List.take_of_length_le (Nat.le_sub_of_add_le' hlen)]

theorem exec_hostCompletion (h : s.hostCpl tag status ep data = u) : exec (.hostCompletion tag status ep data) s = .next (u.withQueue s.pending) :=
  within_next_eq rfl h s

/-- What a successful completion brings to a read. -/
def State.readCounted (s : State) (tag : Nat) (h : HostRead) (data : List Byte) : State :=
  (s.readTook tag h (h.got ++ data)).bump R.PCI_RD_BYTES 0 [] ((h.got ++ data).length - h.got.length)

theorem exec_hostCompletion_ends (hfind : s.hreads.find? (fun (h : HostRead) => h.tag == tag) = some h) (hstate : h.state = 0) (hout : s.heel = false)
    (hgen : h.fgen = s.rd R.PCI_FN_STATE_FGEN 0 [h.fn]) (hlen : h.got.length + data.length = h.len) :
    exec (.hostCompletion tag 0 false data) s = .next (((s.readCounted tag h data).answer tag 0 0 (h.got ++ data)).withQueue s.pending) := by
  refine exec_hostCompletion ?_
  rw [State.hostCpl_live hfind hstate hout hgen, HostRead.took_success (Nat.le_of_eq hlen)]
  exact (if_neg Bool.false_ne_true).trans ((if_neg (by decide)).trans (if_pos (beq_iff_eq.2 ((List.length_append).trans hlen))))

theorem exec_hostCompletion_part (hfind : s.hreads.find? (fun (h : HostRead) => h.tag == tag) = some h) (hstate : h.state = 0) (hout : s.heel = false)
    (hgen : h.fgen = s.rd R.PCI_FN_STATE_FGEN 0 [h.fn]) (hlen : h.got.length + data.length < h.len) :
    exec (.hostCompletion tag 0 false data) s = .next ((s.readCounted tag h data).withQueue s.pending) := by
  have hne : ¬((h.got ++ data).length == h.len) = true := by
    rw [List.length_append, beq_false_of_ne (Nat.ne_of_lt hlen)]
    exact Bool.false_ne_true
  refine exec_hostCompletion ?_
  rw [State.hostCpl_live hfind hstate hout hgen, HostRead.took_success (Nat.le_of_lt hlen)]
  exact (if_neg Bool.false_ne_true).trans ((if_neg (by decide)).trans (if_neg hne))

theorem State.hreads_readCounted_whole (hlen : h.got.length + data.length = h.len) : (s.readCounted tag h data).hreads = s.hreads.filter (fun (x : HostRead) => x.tag != tag) :=
  if_pos (beq_iff_eq.2 ((List.length_append).trans hlen))

theorem State.hreads_readCounted_part (hlen : h.got.length + data.length < h.len) :
    (s.readCounted tag h data).hreads = s.hreads.map (fun (x : HostRead) => if x.tag == tag then { h with got := h.got ++ data } else x) :=
  if_neg (by rw [List.length_append, beq_false_of_ne (Nat.ne_of_lt hlen)]; exact Bool.false_ne_true)

theorem State.bytes_readCounted (s : State) (tag : Nat) (h : HostRead) (data : List Byte) :
    (s.readCounted tag h data).rd R.PCI_RD_BYTES 0 = min (2 ^ R.PCI_RD_BYTES.width - 1) (s.rd R.PCI_RD_BYTES 0 + data.length) := by
  rw [State.readCounted, State.rd_bump_same, List.length_append, Nat.add_sub_cancel_left]
  rfl

theorem State.hostCpl_unknown (hnone : ∀ h ∈ s.hreads, h.tag ≠ tag) (hout : s.heel = false) :
    s.hostCpl tag status ep data = (s.bump R.PCI_UNEXPECTED 0 [] 1).aerAdvisory 0 := by
  have hfind : s.hreads.find? (fun (h : HostRead) => h.tag == tag) = none := List.find?_eq_none.2 fun h hh he => hnone h hh (beq_iff_eq.1 he)
  unfold State.hostCpl
  rw [hfind]
  exact if_neg (Bool.eq_false_iff.1 hout)

theorem State.hostCpl_older (hfind : s.hreads.find? (fun (h : HostRead) => h.tag == tag) = some h) (hlive : h.state ≠ 1) (hcut : h.state ≠ 3) (hout : s.heel = false)
    (hgen : h.fgen ≠ s.rd R.PCI_FN_STATE_FGEN 0 [h.fn]) : s.hostCpl tag status ep data = (s.readTook tag h (h.took status data)).bump R.PCI_DISCARDS 0 [] 1 := by
  rw [State.hostCpl_found hfind, if_neg hlive, if_neg (Bool.eq_false_iff.1 hout), if_neg hcut, if_pos (bne_iff_ne.2 hgen)]

theorem State.hostCpl_late (hfind : s.hreads.find? (fun (h : HostRead) => h.tag == tag) = some h) (hstate : h.state = 1 ∨ (h.state = 3 ∧ s.heel = false)) :
    s.hostCpl tag status ep data = (s.readTook tag h (h.took status data)).lateCpl h.fn := by
  rw [State.hostCpl_found hfind]
  rcases hstate with hstate | ⟨hstate, hout⟩
  · exact if_pos hstate
  · rw [if_neg (by rw [hstate]; decide), if_neg (Bool.eq_false_iff.1 hout), if_pos hstate]

/-! ### Timeouts and tags (R448 to R450) -/

theorem exec_hostCompletionTimeout_comes {dt : Nat} (hfind : s.hreads.find? (fun (h : HostRead) => h.tag == tag && h.state == 0) = some h)
    (hwaited : s.waitedFor h (s.cplTimeout h.fn) dt = true) (hgen : h.fgen = s.rd R.PCI_FN_STATE_FGEN 0 [h.fn]) :
    exec (.hostCompletionTimeout tag dt) s = .next ((((s.aer h.fn 14).hostHeel 1 false).setRead tag 1).withQueue s.pending) := by
  refine within_next_eq rfl ?_ s
  rw [hfind]
  exact (if_neg (by rw [hwaited]; decide)).trans (if_neg (by rw [hgen, bne_self_eq_false]; decide))

theorem exec_hostCompletionTimeout_waits {dt : Nat} (hfind : s.hreads.find? (fun (h : HostRead) => h.tag == tag && h.state == 0) = some h)
    (hstays : s.waitedFor h (s.cplTimeout h.fn) dt = false ∨ h.fgen ≠ s.rd R.PCI_FN_STATE_FGEN 0 [h.fn]) : exec (.hostCompletionTimeout tag dt) s = .next s := by
  refine within_next_same rfl ?_
  rw [hfind]
  by_cases hwaited : s.waitedFor h (s.cplTimeout h.fn) dt = true
  · have hgen := hstays.resolve_left (Bool.not_eq_false _ ▸ hwaited)
    exact (if_neg (by rw [hwaited]; decide)).trans (if_pos (bne_iff_ne.2 hgen))
  · exact if_pos (by rw [Bool.eq_false_iff.2 hwaited]; rfl)

/-- What lets a tag be used again: its read is over, and twice the function's timeout has passed. -/
def State.tagReusable (s : State) (tag dt : Nat) (h : HostRead) : Bool :=
  h.tag == tag && s.waitedFor h (2 * s.cplTimeout h.fn) dt && (h.state != 0 || h.fgen != s.rd R.PCI_FN_STATE_FGEN 0 [h.fn])

theorem State.tagReusable_eq_false {dt : Nat} : s.tagReusable tag dt h = false ↔
    (h.tag = tag → s.waitedFor h (2 * s.cplTimeout h.fn) dt = true → h.state = 0 ∧ h.fgen = s.rd R.PCI_FN_STATE_FGEN 0 [h.fn]) := by
  rw [State.tagReusable, Bool.and_eq_false_imp, Bool.and_eq_true, Bool.or_eq_false_iff, bne_eq_false_iff_eq, bne_eq_false_iff_eq, beq_iff_eq, and_imp]

theorem exec_tagReuse (s : State) (tag dt : Nat) : exec (.tagReuse tag dt) s =
    .next (({ s with hreads := s.hreads.filter (fun h => !s.tagReusable tag dt h) } : State).withQueue s.pending) :=
  within_next_eq rfl rfl s

end

/-- Settles O50: what a completion does follows the state and the generation of its read. -/
theorem hostCompletionCommandsComplete : Obligations.HostCompletionCommandsComplete := by
  refine ⟨?ends, ?part, ?unknown, ?older, ?late, ?poisoned, ?failed, ?timeout, ?reuse, ?write, ?unsupported⟩
  case ends =>
    intro tag data h s hfind hstate hout hgen hlen
    exact ⟨s.readCounted tag h data, exec_hostCompletion_ends hfind hstate hout hgen hlen, State.hreads_readCounted_whole hlen, s.bytes_readCounted tag h data⟩
  case part =>
    intro tag data h s hfind hstate hout hgen hlen
    refine ⟨_, exec_hostCompletion_part hfind hstate hout hgen hlen, State.withQueue_reqs _ _, ?_⟩
    rw [State.withQueue_hreads]
    exact State.hreads_readCounted_part hlen
  case unknown =>
    intro tag st ep data s hnone hout
    exact exec_hostCompletion (State.hostCpl_unknown hnone hout)
  case older =>
    intro tag st ep data h s hfind hlive hcut hout hgen
    refine ⟨_, exec_hostCompletion (State.hostCpl_older hfind hlive hcut hout hgen), State.withQueue_reqs _ _, State.withQueue_out _ _, ?_⟩
    exact State.rd_bump_same (s.readTook tag h (h.took st data)) R.PCI_DISCARDS 0 [] 1
  case late =>
    intro tag st ep data h s hfind hstate
    exact ⟨s.readTook tag h (h.took st data), exec_hostCompletion (State.hostCpl_late hfind hstate), rfl, rfl⟩
  case poisoned =>
    intro tag st data h s hfind hstate hout hgen
    exact exec_hostCompletion ((State.hostCpl_live hfind hstate hout hgen).trans (if_pos rfl))
  case failed =>
    intro tag st data h s hfind hstate hout hgen hst
    exact exec_hostCompletion ((State.hostCpl_live hfind hstate hout hgen).trans ((if_neg Bool.false_ne_true).trans (if_pos (bne_iff_ne.2 hst))))
  case timeout =>
    intro tag dt h s hfind
    exact ⟨fun hwaited hgen => exec_hostCompletionTimeout_comes hfind hwaited hgen, fun hstays => exec_hostCompletionTimeout_waits hfind hstays⟩
  case reuse =>
    intro tag dt s
    refine ⟨_, exec_tagReuse s tag dt, fun h => ?_⟩
    rw [State.withQueue_hreads, List.mem_filter, Bool.not_eq_true', State.tagReusable_eq_false]
  case write =>
    intro fn s hfn
    exact within_next_eq (decide_eq_true hfn) rfl s
  case unsupported =>
    intro fn s hfn
    exact ⟨_, within_next_eq (decide_eq_true hfn) rfl s, State.withQueue_out _ _⟩

end Sys2Proof.Machine
end

section
/-! SUPPORT. Functions of the host port, their resets, vectors and configuration (R436, R446, R451 to R453, R459). -/

namespace Sys2Proof.Machine

section
variable {s u : State} {fn : Nat}

/-! ### Fields of numbers -/

theorem bit_setBits_zero (v i : Nat) : bit (setBits v i 1 0) i = false := by
  rw [bit, setBits_eq, Nat.zero_mod, Nat.zero_mul, Nat.add_zero, Nat.testBit_eq_decide_div_mod_eq, decide_eq_false_iff_not, Nat.pow_one,
    Nat.mul_comm, Nat.sub_mul_div]
  omega

theorem setBits_low_mod (v : Nat) {x : Nat} (hx : x < 4) : setBits v 0 2 x % 4 = x := by
  rw [setBits_eq]
  omega

/-! ### Functions (R436, R451 to R453) -/

theorem rd_fnState_other {f : Fld} (hf : f.dims = [(65, 0x4)]) (s : State) {g : Nat} (v : Nat) (hne : g ≠ fn) : (s.wr f 0 [fn] v).rd f 0 [g] = s.rd f 0 [g] := by
  refine s.rd_wr_ne f f 0 0 [fn] [g] v fun hkey => hne ?_
  simp only [Fld.key, Fld.offset, hf, strideSum] at hkey
  omega

theorem exec_bmeClear_falls (hfn : fn < 65) (hbme : s.rdB R.PCI_FN_STATE_BME 0 [fn] = true) : exec (.bmeClear fn) s = .next ((s.bmeClear fn).withQueue s.pending) :=
  within_next_eq (decide_eq_true hfn) (if_pos hbme) s

theorem exec_bmeClear_clear (hfn : fn < 65) (hbme : s.rdB R.PCI_FN_STATE_BME 0 [fn] = false) : exec (.bmeClear fn) s = .next s :=
  within_next_same (decide_eq_true hfn) (if_neg (Bool.eq_false_iff.1 hbme))

theorem vfIds (hvf : 1 ≤ fn) (hfn : fn < 65) : (decide (1 ≤ fn) && decide (fn < 65)) = true := by
  rw [decide_eq_true hvf, decide_eq_true hfn]
  rfl

theorem exec_flr (hvf : 1 ≤ fn) (hfn : fn < 65) (hexists : s.fnExists fn = true) :
    exec (.flr fn) s = .next (((s.flrOf fn).wr R.PCI_FN_STATE_FLR_BUSY 0 [fn] 1).withQueue s.pending) :=
  within_next_eq (vfIds hvf hfn) (if_pos hexists) s

theorem exec_flr_none (hvf : 1 ≤ fn) (hfn : fn < 65) (hnone : s.fnExists fn = false) : exec (.flr fn) s = .next s :=
  within_next_same (vfIds hvf hfn) (if_neg (Bool.eq_false_iff.1 hnone))

theorem exec_flrDone (hfn : fn < 65) : exec (.flrDone fn) s = .next ((s.wr R.PCI_FN_STATE_FLR_BUSY 0 [fn] 0).withQueue s.pending) :=
  within_next_eq (decide_eq_true hfn) rfl s

theorem exec_pf0Flr (s : State) : exec .pf0Flr s = .next ((s.flrPf0.wr R.PCI_FN_STATE_FLR_BUSY 0 [0] 1).withQueue s.pending) := within_next_eq rfl rfl s

theorem exec_vfDisable {on : Bool} {n : Nat} (hn : n < 65) (hon : s.vfEnable = true) (hdrops : on = false ∨ n ≤ s.numVfs) :
    exec (.vfDisable on n) s = .next ((s.dropVfs on n).withQueue s.pending) := by
  refine within_next_eq (decide_eq_true hn) (if_pos ?_) s
  rw [hon, Bool.true_and, Bool.or_eq_true, Bool.not_eq_true', decide_eq_true_eq]
  exact hdrops

theorem speed_linkOff (s : State) : s.linkOff.rd R.PCI_STATUS_SPEED 0 = 0 :=
  (State.rd_wrs_apart 0 [] [(R.PCI_STATUS_WIDTH, 0), (R.PCI_STATUS_FLIT, 0), (R.PCI_STATUS_LPOWER, 0)] _ (by decide)).trans (State.rd_wr_same s _ _ _ 0)

/-! ### Power states (R459) -/

theorem State.setPower_pf (s : State) (st : Nat) : s.setPower 0 st =
    { s.cfgSet 0 9 (setBits (s.cfgGet 0 9) 0 2 st) with host := { s.host with powerDue := some st } } := rfl

theorem exec_powerStateChange_pf {st : Nat} (hst : st < 4) : exec (.powerStateChange 0 st) s = .next ((s.setPower 0 st).withQueue s.pending) :=
  within_next_eq (by rw [decide_eq_true hst]; rfl) (if_neg (by simp [State.fnExists])) s

theorem exec_powerStateChange_vf (hvf : 1 ≤ fn) (hfn : fn < 65) (hexists : s.fnExists fn = true) (hold : s.cfgGet fn 9 % 4 ≠ 3) (v : State)
    (hv : v = s.cfgSet fn 9 (setBits (s.cfgGet fn 9) 0 2 3)) :
    exec (.powerStateChange fn 3) s = .next (((v.fgenUp fn).each (v.partsOfFn fn) State.partQuiet).withQueue s.pending) := by
  subst hv
  refine within_next_eq (by rw [decide_eq_true hfn]; rfl) ?_ s
  refine (if_neg ?_).trans ((if_neg (Nat.ne_of_gt hvf)).trans (if_pos ?_))
  · rw [hexists, bne_self_eq_false, Bool.and_false]
    decide
  · rw [bne_iff_ne.2 hold]
    rfl

/-! ### Vectors (R446) -/

theorem exec_msixUnmask_vector {v : Nat} (hfn : fn < 65) (hv : v < (if fn = 0 then 64 else 31)) : exec (.msixUnmask fn v) s = .next ((s.vecUnmask fn v).withQueue s.pending) := by
  have hlt : v < 64 := by
    split at hv
    · exact hv
    · exact Nat.lt_trans hv (by decide)
  refine within_next_eq ?_ (if_neg (Nat.ne_of_lt hlt)) s
  rw [decide_eq_true hfn, decide_eq_true hv, Bool.or_true]
  rfl

theorem exec_msixUnmask_function (hfn : fn < 65) : exec (.msixUnmask fn 64) s = .next ((s.fnUnmask fn).withQueue s.pending) :=
  within_next_eq (by rw [decide_eq_true hfn]; rfl) (if_pos rfl) s

/-- PF0 with a vector that is masked no more, and its Pending Bit gone. -/
def State.vecCleared (s : State) (v : Nat) : State := (s.wr R.PCI_MSIX_MASK 0 [v] 0).setPending 0 v false

theorem State.pba_vecCleared (s : State) (v : Nat) : bit ((s.vecCleared v).rd R.PCI_MSIX_PBA 0) v = false := by
  have hrd : (s.vecCleared v).rd R.PCI_MSIX_PBA 0 = _ := State.rd_wr_same (s.wr R.PCI_MSIX_MASK 0 [v] 0) R.PCI_MSIX_PBA 0 [] _
  rw [hrd, if_neg Bool.false_ne_true, bit, Nat.testBit_mod_two_pow, ← bit, bit_setBits_zero, Bool.and_false]

section
variable (s : State) {v : Nat} (hv : v < 64)
include hv

/-- A field that stands apart from the masks and the Pending Bits. -/
theorem State.rd_vecCleared {g : Fld} {e : Nat} {jx : List Nat} (hmask : g.clear R.PCI_MSIX_MASK = true) (hpba : g.clear R.PCI_MSIX_PBA = true) (hjx : idxFits g.dims jx) :
    (s.vecCleared v).rd g e jx = s.rd g e jx :=
  (State.rd_wr_clear _ hpba _ hjx).trans (State.rd_wr_clear _ hmask _ hjx ⟨hv, trivial⟩)

theorem State.mask_vecCleared : (s.vecCleared v).rd R.PCI_MSIX_MASK 0 [v] = 0 :=
  (State.rd_wr_clear _ (g := R.PCI_MSIX_MASK) (by decide) _ (jx := [v]) ⟨hv, trivial⟩).trans (State.rd_wr_same s _ _ _ 0)

theorem State.addr_vecCleared : (s.vecCleared v).rd R.PCI_MSIX_ADDR 0 [v] = s.rd R.PCI_MSIX_ADDR 0 [v] :=
  (State.rd_wr_clear _ (g := R.PCI_MSIX_ADDR) (by decide) _ (jx := [v]) ⟨hv, trivial⟩).trans (State.rd_wr_apart s (by decide) 0 [v] 0)

theorem State.data_vecCleared : (s.vecCleared v).rd R.PCI_MSIX_DATA 0 [v] = s.rd R.PCI_MSIX_DATA 0 [v] :=
  (State.rd_wr_clear _ (g := R.PCI_MSIX_DATA) (by decide) _ (jx := [v]) ⟨hv, trivial⟩).trans (State.rd_wr_apart s (by decide) 0 [v] 0)

theorem State.vecUnmask_sends (hopen : s.fnMask 0 = false) (hout : s.heel = false) (hbme : s.bme 0 = true) (hpending : bit (s.rd R.PCI_MSIX_PBA 0) v = true) :
    s.vecUnmask 0 v = (s.vecCleared v).send (.msix 0 v (s.rd R.PCI_MSIX_ADDR 0 [v]) (s.rd R.PCI_MSIX_DATA 0 [v])) := by
  have hmask : (s.wr R.PCI_MSIX_MASK 0 [v] 0).msixMasked 0 v = false := rdB_eq_false (State.rd_wr_same s _ _ _ 0)
  have hmask' : (s.vecCleared v).msixMasked 0 v = false := rdB_eq_false (s.mask_vecCleared hv)
  have hpend : (s.wr R.PCI_MSIX_MASK 0 [v] 0).msixPending 0 v = true :=
    (congrArg (fun x => bit x v) (State.rd_wr_clear s (g := R.PCI_MSIX_PBA) (f := R.PCI_MSIX_MASK) (ix := [v]) (by decide) 0 trivial ⟨hv, trivial⟩)).trans hpending
  have hopen' : (s.vecCleared v).fnMask 0 = false := hopen
  have hout' : (s.vecCleared v).heel = false :=
    (congrArg (· != 0) (s.rd_vecCleared hv (g := R.HEL_HOST_STATUS_ACTIVE) (by decide) (by decide) trivial)).trans hout
  have hbme' : (s.vecCleared v).bme 0 = true :=
    (congrArg (fun x => x != 0 && true) (s.rd_vecCleared hv (g := R.PCI_FN_STATE_BME) (jx := [0]) (by decide) (by decide) ⟨by decide, trivial⟩)).trans hbme
  have hunmask : s.vecUnmask 0 v = (s.wr R.PCI_MSIX_MASK 0 [v] 0).sendPending 0 v := by
    rw [State.vecUnmask, if_pos rfl]
  have hmsg : (s.vecCleared v).msixMsg 0 v = .msix 0 v (s.rd R.PCI_MSIX_ADDR 0 [v]) (s.rd R.PCI_MSIX_DATA 0 [v]) := by
    rw [State.msixMsg, if_pos rfl, s.addr_vecCleared hv, s.data_vecCleared hv]
  have hsends : (s.wr R.PCI_MSIX_MASK 0 [v] 0).sendPending 0 v = (s.vecCleared v).msix 0 v :=
    if_pos (by rw [hpend, hmask, show (s.wr R.PCI_MSIX_MASK 0 [v] 0).fnMask 0 = false from hopen]; rfl)
  rw [hunmask, hsends, State.msix, hmask', hopen', hout', hbme', hmsg]
  rfl

end

/-! ### Configuration requests (R436, R462) -/

section
variable {key value : Nat} {write : Bool} (hfn : fn < 65) (hkey : key < 4096) (hvalue : value < 2 ^ 32)
include hfn hkey hvalue

theorem exec_configRequest (h : (if s.crs fn then s.send (.hostCpl fn 2 [])
    else if !s.fnExists fn then s.send (.hostCpl fn 1 [])
    else if write then (s.cfgWrite fn key value).send (.hostCpl fn 0 [])
    else (s.useFree 1).send (.hostCpl fn 0 (leBytes 4 (s.cfgRead fn key)))) = u) : exec (.configRequest fn key write value) s = .next (u.withQueue s.pending) :=
  within_next_eq (by rw [decide_eq_true hfn, decide_eq_true hkey, decide_eq_true hvalue]; rfl) h s

theorem exec_configRequest_crs (hcrs : s.crs fn = true) : exec (.configRequest fn key write value) s = .next ((s.send (.hostCpl fn 2 [])).withQueue s.pending) :=
  exec_configRequest hfn hkey hvalue (if_pos hcrs)

theorem exec_configRequest_ur (hcrs : s.crs fn = false) (hnone : s.fnExists fn = false) :
    exec (.configRequest fn key write value) s = .next ((s.send (.hostCpl fn 1 [])).withQueue s.pending) :=
  exec_configRequest hfn hkey hvalue ((if_neg (Bool.eq_false_iff.1 hcrs)).trans (if_pos (by rw [hnone]; rfl)))

theorem exec_configRequest_here (hcrs : s.crs fn = false) (hexists : s.fnExists fn = true) (h : (if write then (s.cfgWrite fn key value).send (.hostCpl fn 0 [])
    else (s.useFree 1).send (.hostCpl fn 0 (leBytes 4 (s.cfgRead fn key)))) = u) : exec (.configRequest fn key write value) s = .next (u.withQueue s.pending) :=
  exec_configRequest hfn hkey hvalue ((if_neg (Bool.eq_false_iff.1 hcrs)).trans ((if_neg (by rw [hexists]; decide)).trans h))

end

theorem State.cfgWrite_flr (s : State) {v : Nat} (hbit : bit v 15 = true) : s.cfgWrite 0 2 v = s.flrPf0.wr R.PCI_FN_STATE_FLR_BUSY 0 [0] 1 :=
  (if_neg (by decide)).trans ((if_neg (by decide)).trans ((if_pos rfl).trans ((if_pos hbit).trans (if_pos rfl))))

end

/-- Settles O51: resets of functions, power states, vectors and configuration requests do what their rows say. -/
theorem functionCommandsComplete : Obligations.FunctionCommandsComplete := by
  refine ⟨?bmeFalls, ?bmeClear, ?flr, ?flrNone, ?flrDone, ?pf0, ?vfs, ?host, ?powerPf, ?powerVf, ?vector, ?function, ?sends, ?config, ?initiate⟩
  case bmeFalls =>
    intro fn s hfn hbme
    exact ⟨_, exec_bmeClear_falls hfn hbme, rfl⟩
  case bmeClear =>
    intro fn s hfn hbme
    exact exec_bmeClear_clear hfn hbme
  case flr =>
    intro fn s hvf hfn hexists
    exact exec_flr hvf hfn hexists
  case flrNone =>
    intro fn s hvf hfn hnone
    exact exec_flr_none hvf hfn hnone
  case flrDone =>
    intro fn s hfn
    refine ⟨_, exec_flrDone hfn, State.rd_wr_same s _ _ _ 0, fun g _ hne => rd_fnState_other rfl s 0 hne⟩
  case pf0 =>
    intro s
    exact ⟨_, exec_pf0Flr s, rfl, rdB_eq_true (State.rd_wr_same s.flrPf0 _ _ _ 1)⟩
  case vfs =>
    intro on n s hn hon hdrops
    exact ⟨_, exec_vfDisable hn hon hdrops, rfl, State.withQueue_vfEnable _ _, State.withQueue_numVfs _ _⟩
  case host =>
    intro s
    refine ⟨s.hostReset.withQueue s.pending, within_next_eq rfl rfl s, within_next_eq rfl rfl s, ?_, ?_, ?_, rfl⟩
    · exact State.withQueue_heldWrites _ _
    · exact State.withQueue_heldMsix _ _
    · exact speed_linkOff _
  case powerPf =>
    intro st s hst
    refine ⟨_, exec_powerStateChange_pf hst, ?_, ?_, ?_⟩
    · rw [State.withQueue_host, State.setPower_pf]
    · rw [State.setPower_pf]
      exact (congrArg (· % 4) (State.cfgGet_cfgSet_same s 0 9 _)).trans (setBits_low_mod _ hst)
    · rw [State.withQueue_regs, State.setPower_pf]
      rfl
  case powerVf =>
    intro fn s hvf hfn hexists hold
    refine ⟨_, exec_powerStateChange_vf hvf hfn hexists hold _ rfl, ?_, rfl⟩
    rw [State.cfgGet_cfgSet_same]
    exact setBits_low_mod _ (by decide)
  case vector =>
    intro fn v s hfn hv
    exact exec_msixUnmask_vector hfn hv
  case function =>
    intro fn s hfn
    exact exec_msixUnmask_function hfn
  case sends =>
    intro v s hv hopen hout hbme hpending
    refine ⟨_, exec_msixUnmask_vector (fn := 0) (by decide) hv, ?_⟩
    rw [s.vecUnmask_sends hv hopen hout hbme hpending]
    exact ⟨s.mask_vecCleared hv, s.pba_vecCleared v, State.withQueue_out _ _⟩
  case config =>
    intro fn key value write s hfn hkey hvalue
    refine ⟨fun hcrs => ⟨_, exec_configRequest_crs hfn hkey hvalue hcrs, State.withQueue_out _ _, State.withQueue_regs _ _, State.withQueue_config _ _⟩,
      fun hcrs hnone => ⟨_, exec_configRequest_ur hfn hkey hvalue hcrs hnone, State.withQueue_out _ _, State.withQueue_config _ _⟩, fun hcrs hexists hwrite => ?_,
      fun hcrs hexists hread => ⟨_, exec_configRequest_here hfn hkey hvalue hcrs hexists (if_neg (Bool.eq_false_iff.1 hread)), State.withQueue_out _ _,
        State.withQueue_config _ _⟩⟩
    exact exec_configRequest_here hfn hkey hvalue hcrs hexists (if_pos hwrite)
  case initiate =>
    intro v s _ hbit
    exact s.cfgWrite_flr hbit

end Sys2Proof.Machine
end

section
/-! SUPPORT. Attestation, keys, weights and the test port (R499 to R510, R574, R575). -/

namespace Sys2Proof.Machine

section
variable {s t u v : State} {m : Mgmt} {p : Nat}

/-! ### Signed answers (R501, R502, R504) -/

section
variable {len : Nat} {keyMissing : Bool} {f : State → Nat → Nat → List Byte} (hnew : m.out = [])
include hnew

theorem State.signed_short (hlen : m.len < len) : s.signed m len keyMissing f = s.mgmtAnswer m 9 0 0x12 := by
  rw [State.signed, if_neg (not_not.2 hnew), if_pos hlen]

theorem State.signed_spent (hlen : len ≤ m.len) (hspent : s.signSpent = true) : s.signed m len keyMissing f = s.mgmtAnswer m 9 0 0x13 := by
  rw [State.signed, if_neg (not_not.2 hnew), if_neg (Nat.not_lt.2 hlen), if_pos hspent]

theorem State.signed_noSigner (hlen : len ≤ m.len) (hspent : s.signSpent = false) (hsigner : s.signer = none) :
    s.signed m len keyMissing f = s.mgmtAnswer m 9 0 0x18 := by
  rw [State.signed, if_neg (not_not.2 hnew), if_neg (Nat.not_lt.2 hlen), if_neg (Bool.eq_false_iff.1 hspent), hsigner]

/-- A command that could be signed waits for a token, then for its buffer. -/
theorem State.signed_signer {k : Nat} (hlen : len ≤ m.len) (hspent : s.signSpent = false) (hsigner : s.signer = some k) (hcert : s.sec.cert ≠ .none)
    (hactive : s.rdB R.SEC_STATUS_ACTIVATING 0 = false) :
    (s.tokens = 0 → s.signed m len false f = s.attBusy m (s.ticksTo s.nextToken)) ∧
    (∀ r t, s.tokens ≠ 0 → s.probe (s.packVirt m.part m.ctx) m.addr len = (.ok r, t) → s.signed m len false f =
      State.signedOut { t.takeIndex.2 with mgmts := t.takeIndex.2.mgmts.map (fun (x : Mgmt) =>
        if x.part == m.part && x.entry == m.entry then { x with out := f t.takeIndex.2 t.takeIndex.1 k } else x) } m (f t.takeIndex.2 t.takeIndex.1 k)) := by
  unfold State.signed
  rw [if_neg (not_not.2 hnew), if_neg (Nat.not_lt.2 hlen), if_neg (Bool.eq_false_iff.1 hspent), hsigner]
  cases hc : s.sec.cert with
  | none => exact absurd hc hcert
  | factory | installed _ =>
    simp only [hactive, Bool.false_eq_true, if_false]
    refine ⟨fun hnone => if_pos hnone, fun r t htokens hprobe => ?_⟩
    rw [if_neg htokens, hprobe]

end

theorem State.signedOut_written {bs r : List Byte} (hwrite : s.virtWriteV (s.packVirt m.part m.ctx) m.addr bs = (.ok r, t)) (hask : (t.mgmtAnswer m 0 bs.length 0).ask = []) :
    s.signedOut m bs = t.mgmtAnswer m 0 bs.length 0 :=
  State.orWait_eq (by rw [hwrite]) hask

/-- The package with index `i` of the block in use recorded, and a token taken. -/
def State.indexTaken (s : State) (i : Nat) : State :=
  (({ s with sec := { s.sec with signNext := some (i + 1), tokens := s.tokens - 1 } } : State).bump R.SEC_ATT_COUNT 0 [] 1).wr R.SEC_SIGN_LEFT_LEFT 0 []
    (({ s with sec := { s.sec with signNext := some (i + 1), tokens := s.tokens - 1 } } : State).blocksUsed * 2 ^ 16 - (i + 1))

theorem State.takeIndex_snd (s : State) : s.takeIndex.2 =
    if ((if s.sec.signNext.getD 0 = s.blocksUsed * 2 ^ 16 then s.burnBlock else s).indexTaken (s.sec.signNext.getD 0)).signSpent then
      ((if s.sec.signNext.getD 0 = s.blocksUsed * 2 ^ 16 then s.burnBlock else s).indexTaken (s.sec.signNext.getD 0)).secEvent R.SEC_EVENT_SIGN_EXHAUSTED
    else (if s.sec.signNext.getD 0 = s.blocksUsed * 2 ^ 16 then s.burnBlock else s).indexTaken (s.sec.signNext.getD 0) := rfl

/-- In a block that goes on nothing is burned. -/
theorem State.takeIndex_within (hblock : s.sec.signNext.getD 0 ≠ s.blocksUsed * 2 ^ 16) : s.takeIndex.2 =
    if (s.indexTaken (s.sec.signNext.getD 0)).signSpent then (s.indexTaken (s.sec.signNext.getD 0)).secEvent R.SEC_EVENT_SIGN_EXHAUSTED
    else s.indexTaken (s.sec.signNext.getD 0) := by
  rw [State.takeIndex_snd, if_neg hblock]

/-- A token comes once its time has passed. -/
theorem exec_signTokenRefill_gains {dt : Nat} (hdue : s.nextToken ≤ (s.at_ dt).now) : exec (.signTokenRefill dt) s =
    .next (({ s with now := (s.at_ dt).now, sec := { s.sec with tokens := min (s.rd R.SEC_ATT_RATE_BURST 0) (s.sec.tokens + 1), tokenAt := (s.at_ dt).now } } : State).withQueue s.pending) :=
  within_next_eq rfl (if_neg (Nat.not_lt.2 hdue)) s

theorem exec_signTokenRefill_early {dt : Nat} (hearly : (s.at_ dt).now < s.nextToken) : exec (.signTokenRefill dt) s = .next s :=
  within_next_same rfl (if_pos hearly)

/-! ### Keys (R506, R507) -/

theorem exec_ekGenerated {c : Nat} {i : CtxInfo} (hp : p < 64) (hc : c < 16) (hctx : SMap.look s.ctxs (16 * p + c) = some i) (hconf : s.confidential p c = true)
    (hnone : i.key = none) : exec (.ekGenerated p c) s =
      .next (({ (s.setInfo p c { i with key := some s.nextKey }) with nextKey := s.nextKey + 1 } : State).withQueue s.pending) := by
  refine within_next_eq (by rw [decide_eq_true hp, decide_eq_true hc]; rfl) ?_ s
  rw [hctx]
  exact if_pos (by rw [hconf, hnone]; rfl)

theorem State.loadKey_open (host : List Byte) (hopen : s.confidential m.part m.ctx = false) : s.loadKey m host = s.mgmtAnswer m 9 0 0x11 :=
  if_pos (by rw [hopen]; rfl)

theorem State.loadKey_keeps {k : Nat} {host blob key : List Byte} (hconf : s.confidential m.part m.ctx = true) (hkey : (s.ctxInfo m.part m.ctx).key = some k)
    (hlen : m.len = 1628) (hread : s.virtReadH (s.packVirt m.part m.ctx) m.addr 1628 host = (.ok blob, t))
    (hunwrap : t.unwrap m.part m.ctx k (s.ctxInfo m.part m.ctx).inst blob = some key) : s.loadKey m host =
      (t.setInfo m.part m.ctx { s.ctxInfo m.part m.ctx with slots := SMap.ins (s.ctxInfo m.part m.ctx).slots (m.nat 2 2 % 8) key }).mgmtAnswer m 0 0 0 := by
  unfold State.loadKey
  extract_lets p c i
  have hi : i.key = some k := hkey
  have hopen : ¬(!s.confidential p c) = true := by
    rw [show s.confidential p c = true from hconf]
    decide
  rw [if_neg hopen, hi]
  simp only [hlen, ne_eq, not_true_eq_false, if_false]
  rw [show s.virtReadH (s.packVirt p c) m.addr 1628 host = (.ok blob, t) from hread]
  simp only
  rw [show t.unwrap p c k i.inst blob = some key from hunwrap]

/-! ### Weights (R508, R509) -/

theorem exec_decryptWeights_starts {host key : List Byte} (hready : MgmtReady s m.part 0x42 m (m.unusedSet true true true 3 0x40 || m.len == 0 || m.len % 64 != 0 ||
      m.nat 0x14 8 % 64 != 0 || decide (2 ^ 47 ≤ m.nat 0x14 8))) (hidle : s.decryptJob m.part = none) (hconf : s.confidential m.part m.ctx = true)
    (hroom : (s.ctxInfo m.part m.ctx).weights.length < 1024) (hslot : SMap.look (s.ctxInfo m.part m.ctx).slots (m.nat 2 2 % 8) = some key) (hask : s.ask = []) :
    exec (.decryptWeights m.part host) s = .next ((s.mgmtStage m (if s.rd R.PAR_CTX_CFG_STATE 0 [m.part, m.ctx] = 1 then 3 else 4)).withQueue s.pending) := by
  have hstart : s.decryptStart m = s.mgmtStage m (if s.rd R.PAR_CTX_CFG_STATE 0 [m.part, m.ctx] = 1 then 3 else 4) := by
    rw [State.decryptStart, if_neg (by rw [hconf]; decide), if_neg (Nat.not_le.2 hroom), if_neg (by rw [hslot]; exact Bool.false_ne_true)]
  show execDecryptWeights m.part host s = _
  rw [execDecryptWeights, hidle]
  exact within_onMgmt_ready (bad := fun m => m.unusedSet true true true 3 0x40 || m.len == 0 || m.len % 64 != 0 || m.nat 0x14 8 % 64 != 0 || decide (2 ^ 47 ≤ m.nat 0x14 8))
    hready rfl hstart hask

theorem exec_decryptWeights_job {host : List Byte} (hp : p < 64) (hjob : s.decryptJob p = some m) (hdo : s.decryptWeights m host = u) (hask : u.ask = []) :
    exec (.decryptWeights p host) s = .next (u.withQueue s.pending) := by
  refine within_partition_next hp ?_
  rw [hjob]
  exact State.orWait_eq hdo hask

theorem State.part_of_decryptJob (hjob : s.decryptJob p = some m) : m.part = p := by
  have h := List.find?_some hjob
  simp only [Bool.and_eq_true, beq_iff_eq] at h
  exact h.1.1

theorem State.decryptWeights_cut {host : List Byte} (hstate : s.rd R.PAR_CTX_CFG_STATE 0 [m.part, m.ctx] ≠ 1)
    (hstage : s.rd R.PAR_CTX_CFG_STATE 0 [m.part, m.ctx] ≠ 2 ∨ m.stage ≠ 4) : s.decryptWeights m host = s.mgmtAnswer m 5 0 3 := by
  refine if_pos ?_
  rw [bne_iff_ne.2 hstate, Bool.true_and, Bool.not_eq_true', Bool.and_eq_false_iff, beq_eq_false_iff_ne, beq_eq_false_iff_ne]
  exact hstage

/-- A job whose memory answers writes what it decrypts, then keeps it or clears it by the tag. -/
theorem State.decryptWeights_runs {n die : Nat} {host key ct r r' : List Byte} {s0 : State} (hstate : s.rd R.PAR_CTX_CFG_STATE 0 [m.part, m.ctx] = 1)
    (hslot : SMap.look (s.ctxInfo m.part m.ctx).slots (m.nat 2 2 % 8) = some key) (hengine : s.engineDie m.part m.ctx (m.nat 0x14 8) = (die, s0))
    (hread : s0.readSome (.dog die m.part m.ctx) m.addr m.len host = (ct, .ok r, t))
    (hwrite : t.writeSome (.dog die m.part m.ctx) (m.nat 0x14 8) (gcmPlain key ((m.cmd.drop 0x1C).take 12) ct) = (n, .ok r', v)) :
    s.decryptWeights m host = if gcmTag key ((m.cmd.drop 0x1C).take 12) ((m.cmd.drop 0x38).take 8) ct != (m.cmd.drop 0x28).take 16 then
        (((v.writeSome (.dog die m.part m.ctx) (m.nat 0x14 8) (List.replicate m.len 0)).2.2).secEvent R.SEC_EVENT_AUTH_FAIL).mgmtAnswer m 9 0 0x15
      else (v.setInfo m.part m.ctx { s.ctxInfo m.part m.ctx with weights := (s.ctxInfo m.part m.ctx).weights ++
        [(shake256 32 (gcmPlain key ((m.cmd.drop 0x1C).take 12) ct), m.len, m.nat 0x38 8)] }).mgmtAnswer m 0
        (leNat ((shake256 32 (gcmPlain key ((m.cmd.drop 0x1C).take 12) ct)).take 8)) (s.ctxInfo m.part m.ctx).weights.length := by
  unfold State.decryptWeights
  simp only [hstate, bne_self_eq_false, Bool.false_and, Bool.false_eq_true, if_false, hslot, hengine, hread, hwrite]

/-! ### The test port (R387, R574, R575) -/

section
variable {d g : Nat} (hd : d < 4) (hg : g < 3)
include hd hg

theorem jtagIds {k : Nat} (hk : k < 3) : (decide (d < 4) && decide (g < 3) && decide (k < 3)) = true := by
  rw [decide_eq_true hd, decide_eq_true hg, decide_eq_true hk]
  rfl

/-- The place of the test port's target among the dies and bays. -/
def jtagPlace (d g : Nat) : Nat := if g = 0 then d else 3 + 2 * d + g

theorem exec_jtagInstruction_unreached {k : Nat} (hk : k < 3) (hreach : s.jtagReach d g = false) : exec (.jtagInstruction d g k) s = .next s :=
  within_next_same (jtagIds hd hg hk) (if_pos (by rw [hreach]; rfl))

theorem exec_jtagInstruction_reached {k : Nat} (hk : k < 3) (hreach : s.jtagReach d g = true) (h : (if k = 1 then (s.useFree 1).send (.jtag (jtagPlace d g) [1, Config.freeNat s.free % 2 ^ 32])
    else if s.lcs = 3 then s
    else if k = 0 then s.send (.jtag (jtagPlace d g) [0])
    else (s.touchAll.useFree 1).send (.jtag (jtagPlace d g) [2, Config.freeNat s.free])) = u) : exec (.jtagInstruction d g k) s = .next (u.withQueue s.pending) :=
  within_next_eq (jtagIds hd hg hk) ((if_neg (by rw [hreach]; decide)).trans h) s

end

end

/-- Settles O54: the signing operation refuses or answers, keys and weights are kept where their tags hold, and the test port reaches what it may. -/
theorem attestationCommandsComplete : Obligations.AttestationCommandsComplete := by
  refine ⟨?attest, ?identity, ?signed, ?written, ?index, ?refill, ?generated, ?keeps, ?loadOpen, ?starts, ?runs, ?cut, ?reached, ?unreached⟩
  case attest =>
    intro p m s hready hask
    exact within_onMgmt_ready (bad := fun m => m.unusedSet false true true 0 0x34) hready rfl rfl hask
  case identity =>
    intro p m s hready hask
    exact within_onMgmt_ready (bad := fun m => m.unusedSet false true true 0 0x14) hready rfl rfl hask
  case signed =>
    intro m len f s hnew
    exact ⟨fun hlen => State.signed_short hnew hlen, fun hlen hspent => State.signed_spent hnew hlen hspent,
      fun hlen hspent hsigner => State.signed_noSigner hnew hlen hspent hsigner,
      fun k hlen hspent hsigner hcert hactive => State.signed_signer hnew hlen hspent hsigner hcert hactive⟩
  case written =>
    intro m bs r s t hwrite hask
    exact State.signedOut_written hwrite hask
  case index =>
    intro s hblock _
    exact ⟨s.indexTaken (s.sec.signNext.getD 0), rfl, State.takeIndex_within hblock, rfl, rfl⟩
  case refill =>
    intro dt s
    refine ⟨fun hdue => ⟨_, exec_signTokenRefill_gains hdue, ?_, ?_⟩, fun hearly => exec_signTokenRefill_early hearly⟩
    · rw [State.withQueue_sec]
    · rw [State.withQueue_sec]
  case generated =>
    intro p c i s hp hc hctx hconf hnone
    refine ⟨_, exec_ekGenerated hp hc hctx hconf hnone, ?_, State.withQueue_nextKey _ _⟩
    rw [State.withQueue_ctxs]
    exact SMap.look_ins_same _ _ _
  case keeps =>
    intro p k host blob key m s t u hready hpart hconf hkey hlen hread hunwrap hu hask
    subst hpart
    exact within_onMgmt_ready (bad := fun m => m.unusedSet true true true 3 0x14) hready rfl ((State.loadKey_keeps hconf hkey hlen hread hunwrap).trans hu.symm) hask
  case loadOpen =>
    intro p host m s hready hpart hopen hask
    subst hpart
    exact within_onMgmt_ready (bad := fun m => m.unusedSet true true true 3 0x14) hready rfl (State.loadKey_open host hopen) hask
  case starts =>
    intro p host key m s hready hidle hpart hconf hroom hslot hask
    subst hpart
    exact exec_decryptWeights_starts hready hidle hconf hroom hslot hask
  case runs =>
    intro p n die host key ct r r' m s s0 t v u w hp hjob hstate hslot hengine hread hwrite hu hw
    obtain rfl := State.part_of_decryptJob hjob
    have hruns := State.decryptWeights_runs hstate hslot hengine hread hwrite
    refine ⟨fun htag hask => exec_decryptWeights_job hp hjob (hruns.trans ?_) hask, fun htag hask => exec_decryptWeights_job hp hjob (hruns.trans ?_) hask⟩
    · rw [if_neg (by rw [htag, bne_self_eq_false]; decide), hu]
    · rw [if_pos (bne_iff_ne.2 htag), hw]
  case cut =>
    intro p host m s hp hjob hstate hstage hask
    obtain rfl := State.part_of_decryptJob hjob
    exact exec_decryptWeights_job hp hjob (State.decryptWeights_cut hstate hstage) hask
  case reached =>
    intro d g place s hd hg hreach hplace
    subst hplace
    refine ⟨⟨_, exec_jtagInstruction_reached hd hg (by decide) hreach (if_pos rfl), State.withQueue_out _ _, State.withQueue_regs _ _⟩,
      fun hlife => ⟨_, exec_jtagInstruction_reached hd hg (by decide) hreach ((if_neg (by decide)).trans ((if_neg hlife).trans (if_pos rfl))), State.withQueue_out _ _,
        State.withQueue_regs _ _⟩, fun hlife => ⟨?_, ?_⟩, fun hlife => ?_⟩
    · exact exec_jtagInstruction_reached hd hg (by decide) hreach ((if_neg (by decide)).trans (if_pos hlife))
    · exact exec_jtagInstruction_reached hd hg (by decide) hreach ((if_neg (by decide)).trans (if_pos hlife))
    · exact exec_jtagInstruction_reached hd hg (by decide) hreach ((if_neg (by decide)).trans ((if_neg hlife).trans (if_neg (by decide))))
  case unreached =>
    intro d g k s hd hg hk hreach
    exact exec_jtagInstruction_unreached hd hg hk hreach

end Sys2Proof.Machine
end

section
/-! SUPPORT. Firmware and the life cycle (R495 to R497, R511 to R517). -/

namespace Sys2Proof.Machine

section
variable {s t u v : State}

/-! ### Events and words of measurements -/

@[simp] theorem State.ask_secEvent (s : State) (f : Fld) : (s.secEvent f).ask = s.ask :=
  (State.err_logs _ 0 (e := .plain 8 1 _ _ _) (by show 8 < 11; decide)).ask

/-- What no register write changes, no list of words changes. -/
theorem State.putWords_part {α : Type} (p : State → α) (hp : ∀ t f d ix v, p (State.wr t f d ix v) = p t) (s : State) (f : Fld) (d : Nat) (bs : List Byte) :
    p (s.putWords f d bs) = p s :=
  State.each_keeps (fun t => p t = p s) _ (fun t _ ht => (hp t _ _ _ _).trans ht) _ _ rfl

/-- The words of a measurement leave the fields before them. -/
theorem State.rd_putWords {f g : Fld} (hf : f.dims = [(4, 0x100), (16, 0x4)]) (hclear : g.clear f = true) {d : Nat} (hd : d < 4) (s : State) (bs : List Byte)
    (hg : g.dims = []) : (s.putWords f d bs).rd g 0 = s.rd g 0 := by
  refine State.rd_each _ _ _ fun t i hi => t.rd_wr_clear hclear _ ?_ ?_
  · rw [hg]
    trivial
  · rw [hf]
    exact ⟨hd, List.mem_range.1 hi, trivial⟩

/-! ### STAGE (R496) -/

theorem exec_packStage (hidle : s.staging = false) (hsteady : s.activating = false) : exec .packStage s =
    .next ((({ s with sec := { s.sec with staging := some (s.rd R.SEC_PACK_SRC_SRC 0, s.rd R.SEC_PACK_LEN_LEN 0) } } : State).wr R.SEC_STATUS_STAGING 0 [] 1).withQueue s.pending) :=
  within_next_eq rfl (if_neg (by rw [hidle, hsteady]; decide)) s

theorem exec_packStage_refused (hbusy : s.staging = true ∨ s.activating = true) :
    exec .packStage s = .next ((s.cfgErr .SEC 0 [] R.SEC_CTRL_STAGE.base).withQueue s.pending) :=
  within_next_eq rfl (if_pos (by rw [Bool.or_eq_true]; exact hbusy)) s

/-- The package once a stage has ended with a code of SEC_PACK_RESULT. -/
def State.stageEnded (t : State) (k : Nat) : State :=
  ({ t with sec := { t.sec with staging := none } } : State).wrs 0 [] [(R.SEC_STATUS_STAGING, 0), (R.SEC_PACK_RESULT, k)]

/-- The image of a stage goes to the other slot. -/
def State.stageKept (s : State) (f : Firmware) : State :=
  if Config.fwIsCollar (f.bytes false) then { s with sec := { s.sec with collarSlots := s.sec.collarSlots.set (1 - s.sec.collarSlot) (some f) } }
  else { s with sec := { s.sec with packSlots := s.sec.packSlots.set (1 - s.sec.packSlot) (some f), staged := true } }

/-- The measurement of the staged image is shown for every die. -/
def State.stageShown (s : State) (f : Firmware) : State :=
  s.each (List.range 4) (fun s d => s.putWords R.SEC_PACK_STAGED d (f.measure (Config.fwIsCollar (f.bytes false))))

theorem State.stageShown_part {α : Type} (p : State → α) (hp : ∀ t f d ix v, p (State.wr t f d ix v) = p t) (s : State) (f : Firmware) : p (s.stageShown f) = p s :=
  State.each_keeps (fun t => p t = p s) _ (fun t _ ht => (State.putWords_part p hp t _ _ _).trans ht) _ _ rfl

theorem State.staging_stageEnded (t : State) (k : Nat) : (t.stageEnded k).rd R.SEC_STATUS_STAGING 0 = 0 :=
  (State.rd_wr_apart _ (f := R.SEC_PACK_RESULT) (by decide) 0 [] k).trans (State.rd_wr_same _ _ _ _ 0)

theorem State.result_stageEnded (t : State) (k : Nat) : (t.stageEnded k).rd R.SEC_PACK_RESULT 0 = k % 2 ^ R.SEC_PACK_RESULT.width :=
  State.rd_wr_same _ _ _ _ k

theorem State.staging_stageShown (s : State) (f : Firmware) : ((s.stageKept f).stageShown f).rd R.SEC_STATUS_STAGING 0 = s.rd R.SEC_STATUS_STAGING 0 := by
  refine (State.rd_each _ _ _ fun t d hd => State.rd_putWords rfl (by decide) (List.mem_range.1 hd) t _ rfl).trans ?_
  unfold State.stageKept
  split <;> rfl

theorem State.ask_stageKept (s : State) (f : Firmware) : (s.stageKept f).ask = s.ask := by
  unfold State.stageKept
  split <;> rfl

theorem exec_packStageDone_rejected {a n k : Nat} (hstaging : s.sec.staging = some (a, n)) (houtcome : s.stageOutcome a n = (t, k, none)) (hask : t.ask = []) :
    exec .packStageDone s = .next (((t.stageEnded k).secEvent R.SEC_EVENT_PACK_REJECT).withQueue s.pending) := by
  refine within_orWait_next rfl ?_ ((State.ask_secEvent _ _).trans hask)
  simp only [hstaging, houtcome]
  rfl

theorem exec_packStageDone_kept {a n k : Nat} {f : Firmware} (hstaging : s.sec.staging = some (a, n)) (houtcome : s.stageOutcome a n = (t, k, some f))
    (hask : t.ask = []) : exec .packStageDone s = .next ((((t.stageEnded k).stageKept f).stageShown f).withQueue s.pending) := by
  refine within_orWait_next rfl ?_ ((State.stageShown_part (·.ask) (fun _ _ _ _ _ => rfl) _ f).trans ((State.ask_stageKept _ f).trans hask))
  simp only [hstaging, houtcome]
  rfl

theorem State.stageOutcome_length {a n : Nat} (hn : n = 0 ∨ 2 ^ 23 < n) : s.stageOutcome a n = (s, 4, none) := if_pos hn

theorem State.stageOutcome_misaligned {a n : Nat} (hpos : 0 < n) (hmax : n ≤ 2 ^ 23) (ha : a % 64 ≠ 0) : s.stageOutcome a n = (s, 3, none) := by
  refine (if_neg ?_).trans (if_pos ?_)
  · rintro (h | h)
    · exact Nat.ne_of_gt hpos h
    · exact Nat.not_lt.2 hmax h
  · rw [decide_eq_true ha, Bool.true_or]

/-! ### ACTIVATE and COMMIT_SVN (R496, R497) -/

theorem exec_packActivate (hstaged : s.sec.staged = true) (hsteady : s.activating = false) :
    exec .packActivate s = .next (({ s with sec := { s.sec with activateDue := true } } : State).withQueue s.pending) :=
  within_next_eq rfl (if_pos (by rw [hstaged, hsteady]; rfl)) s

theorem exec_packActivate_refused (hnone : s.sec.staged = false) :
    exec .packActivate s = .next ((s.cfgErr .SEC 0 [] R.SEC_CTRL_ACTIVATE.base).withQueue s.pending) :=
  within_next_eq rfl (if_neg (by rw [hnone]; exact Bool.false_ne_true)) s

/-- The slots swapped, and every die's Pack measured. -/
def State.packSwapped (s : State) : State :=
  (({ s with sec := { s.sec with packSlot := 1 - s.sec.packSlot, staged := false } } : State).wrs 0 [] [(R.SEC_STATUS_ACTIVATING, 0), (R.SEC_STATUS_PACK_UNSIGNED, 0)]).each (List.range 4)
    (fun s d => let s := s.putWords R.SEC_PACK_STAGED d []; if s.dieRuns d then s.measurePack d else s)

theorem State.sec_putWords (s : State) (f : Fld) (d : Nat) (bs : List Byte) : (s.putWords f d bs).sec = s.sec :=
  State.putWords_part (·.sec) (fun _ _ _ _ _ => rfl) s f d bs

theorem State.sec_measurePack (s : State) (d : Nat) : (s.measurePack d).sec = s.sec := by
  unfold State.measurePack
  split
  · rfl
  · split
    · rfl
    · dsimp only
      split <;> simp only [State.wr_sec, State.sec_putWords]

theorem State.sec_packSwapped (s : State) : s.packSwapped.sec = { s.sec with packSlot := 1 - s.sec.packSlot, staged := false } := by
  refine State.each_keeps (fun t => t.sec = { s.sec with packSlot := 1 - s.sec.packSlot, staged := false }) _ (fun t d ht => ?_) _ _ rfl
  dsimp only
  split
  · exact (State.sec_measurePack _ d).trans ((State.sec_putWords t _ d _).trans ht)
  · exact (State.sec_putWords t _ d _).trans ht

theorem exec_packActivateDone (hactive : s.rdB R.SEC_STATUS_ACTIVATING 0 = true) :
    exec .packActivateDone s = .next ((s.packSwapped.secEvent R.SEC_EVENT_PACK_ACTIVE).withQueue s.pending) :=
  within_next_eq rfl (if_neg (by rw [hactive]; decide)) s

theorem exec_commitSvn {f : Firmware} (hslot : s.slotPack s.sec.packSlot = some f) : exec .commitSvn s =
    .next (({ s with sec := { s.sec with packFloor := max s.sec.packFloor (f.svn false) } } : State).withQueue s.pending) :=
  within_next_eq rfl (by rw [hslot]) s

/-! ### Commands of the life cycle (R511) -/

theorem exec_lcsArm {v : Nat} (dt : Nat) (hv : v < 2 ^ 32) : exec (.lcsArm v dt) s =
    .next (({ s.at_ dt with sec := { s.sec with lcsArmed := if v / 16 = 0x4C43530 then some (v % 16, (s.at_ dt).now) else none } } : State).withQueue s.pending) :=
  within_next_eq (decide_eq_true hv) rfl s

section
variable {k dt : Nat} {allowed : Bool} {pre : State → Nat} {go : State → State}

/-- Whether the command is armed as it is written. -/
def State.lcsIsArmed (s : State) (k dt : Nat) : Bool :=
  match s.sec.lcsArmed with | some (c, t) => c == k && decide ((s.at_ dt).now ≤ t + 10 ^ 9) | none => false

/-- A write of LCS_CMD leaves none armed. -/
def State.lcsDisarmed (s : State) (dt : Nat) : State := { s.at_ dt with sec := { s.sec with lcsArmed := none } }

/-- A command that runs. -/
def State.lcsRuns (s : State) (k dt : Nat) : State := { s.at_ dt with sec := { s.sec with lcsArmed := none, lcsRun := some k } }

theorem State.lcsIsArmed_eq_true {t : Nat} (harmed : s.sec.lcsArmed = some (k, t)) (htime : (s.at_ dt).now ≤ t + 10 ^ 9) : s.lcsIsArmed k dt = true := by
  unfold State.lcsIsArmed
  rw [harmed]
  exact Bool.and_eq_true_iff.2 ⟨beq_self_eq_true k, decide_eq_true htime⟩

theorem State.lcsIsArmed_eq_false (hnot : ∀ a t, s.sec.lcsArmed = some (a, t) → a ≠ k ∨ t + 10 ^ 9 < (s.at_ dt).now) : s.lcsIsArmed k dt = false := by
  unfold State.lcsIsArmed
  split
  · next a t h =>
    rw [Bool.and_eq_false_iff, beq_eq_false_iff_ne, decide_eq_false_iff_not, Nat.not_le]
    exact hnot a t h
  · rfl

theorem State.lcsCmd_eq : s.lcsCmd k dt allowed pre go =
    if !s.lcsIsArmed k dt then (s.lcsDisarmed dt).lcsResult 1
    else if (s.lcsDisarmed dt).lcsBusy then (s.lcsDisarmed dt).lcsResult 8
    else if !allowed then (s.lcsDisarmed dt).lcsResult 2
    else if pre (s.lcsDisarmed dt) ≠ 0 then (s.lcsDisarmed dt).lcsResult (pre (s.lcsDisarmed dt)) else go (s.lcsRuns k dt) := rfl

theorem State.lcsCmd_unarmed (hnot : s.lcsIsArmed k dt = false) : s.lcsCmd k dt allowed pre go = (s.lcsDisarmed dt).lcsResult 1 := by
  rw [State.lcsCmd_eq, hnot]
  rfl

theorem State.lcsCmd_runs (harmed : s.lcsIsArmed k dt = true) (hidle : s.lcsBusy = false) (hallowed : allowed = true) (hpre : pre (s.lcsDisarmed dt) = 0) :
    s.lcsCmd k dt allowed pre go = go (s.lcsRuns k dt) := by
  have hidle' : (s.lcsDisarmed dt).lcsBusy = false := hidle
  rw [State.lcsCmd_eq, harmed, hidle', hallowed, if_neg (by decide), if_neg (by decide), if_neg (by decide), if_neg (not_not.2 hpre)]

theorem State.done_lcsResult (s : State) (reason : Nat) : (s.lcsResult reason).rdB R.LCS_RESULT_DONE 0 = true :=
  rdB_eq_true ((State.rd_wr_apart _ (f := R.LCS_RESULT_REASON) (by decide) 0 [] reason).trans (State.rd_wr_same s _ _ _ 1))

theorem State.reason_lcsResult (s : State) {reason : Nat} (hreason : reason < 256) : (s.lcsResult reason).rd R.LCS_RESULT_REASON 0 = reason :=
  State.rd_wr_fits _ _ _ _ _ hreason

/-- The result of a command stands apart from what it is about. -/
theorem State.rd_lcsResult {g : Fld} (s : State) (reason : Nat) (hdone : g.apart R.LCS_RESULT_DONE = true) (hreason : g.apart R.LCS_RESULT_REASON = true) :
    (s.lcsResult reason).rd g 0 = s.rd g 0 :=
  (State.rd_wr_apart _ hreason 0 [] reason).trans (State.rd_wr_apart s hdone 0 [] 1)

end

theorem toProduction_pre (hparts : ∀ p < 64, s.rdB R.PAR_CFG_ENABLE 0 [p] = false) (hid : s.rdB R.LCS_STATE_ID_READY 0 = true) (hcert : s.sec.cert ≠ .none) :
    (if (List.range 64).any (fun p => s.rdB R.PAR_CFG_ENABLE 0 [p]) then 3 else if !s.rdB R.LCS_STATE_ID_READY 0 then 4 else if s.sec.cert == .none then 5 else 0) = 0 := by
  have hnone : (List.range 64).any (fun p => s.rdB R.PAR_CFG_ENABLE 0 [p]) = false :=
    List.any_eq_false.2 fun p hp => Bool.eq_false_iff.1 (hparts p (List.mem_range.1 hp))
  rw [hnone, hid, beq_false_of_ne hcert]
  rfl

/-- The package as TO_END_OF_LIFE has burned its first mark. -/
def State.scrapBegun (s : State) : State := s.wrs 0 [] [(R.LCS_STATE_TARGET, 3), (R.LCS_STATE_LAST_MARK, 1)]

/-! ### The end of a command and the marks of a transition (R511 to R517) -/

theorem exec_lcsCommandDone (hdone : s.lcsDone = u) (hask : u.ask = []) : exec .lcsCommandDone s = .next (u.withQueue s.pending) :=
  within_orWait_next rfl hdone hask

/-- The package with no command running. -/
def State.lcsEnded (s : State) : State := { s with sec := { s.sec with lcsRun := none } }

/-- The digest of the identity's key is shown. -/
def State.identityShown (s : State) : State :=
  s.each (List.range 8) (fun s i => s.wr R.LCS_ID_DIGEST 0 [i] (leNat ((s.keyDigest.drop (4 * i)).take 4)))

theorem State.identityShown_part {α : Type} (p : State → α) (hp : ∀ t f d ix v, p (State.wr t f d ix v) = p t) (s : State) : p s.identityShown = p s :=
  State.each_keeps (fun t => p t = p s) _ (fun t _ ht => (hp t _ _ _ _).trans ht) _ _ rfl

theorem State.rd_identityShown {g : Fld} (hg : g.clear R.LCS_ID_DIGEST = true) (hdims : g.dims = []) (s : State) : s.identityShown.rd g 0 = s.rd g 0 :=
  State.rd_each _ _ _ fun t i hi => t.rd_wr_clear hg _ (by rw [hdims]; trivial) ⟨List.mem_range.1 hi, trivial⟩

/-- The package with an identity in bank `b`. -/
def State.identified (s : State) (b : Nat) : State :=
  ({ s with sec := { s.sec with lcsRun := none, banks := s.sec.banks.set b 2 } } : State).wrs 0 [] [(R.LCS_STATE_ID_READY, 1), (R.LCS_STATE_ID_BANK, b)]

theorem State.lcsDone_identity {b : Nat} (hrun : s.sec.lcsRun = some 1) (hbank : (List.range 2).find? (fun b => s.sec.banks.getD b 0 == 1) = some b) :
    s.lcsDone = (s.identified b).identityShown.lcsResult 0 := by
  unfold State.lcsDone
  rw [hrun]
  refine (if_pos rfl).trans ?_
  rw [hbank] <;> rfl

theorem State.lcsDone_cert {b : List Byte} (hrun : s.sec.lcsRun = some 2) (hblob : s.lcsEnded.lcsBlob = (t, some b)) : s.lcsDone =
    if t.certOk b then (({ t with sec := { t.sec with cert := .installed (b.take (leNat ((b.drop 4).take 4))) } } : State).wr R.LCS_STATE_CERT 0 [] 1).lcsResult 0
    else t.lcsResult 5 := by
  unfold State.lcsDone
  rw [hrun]
  refine (if_neg (by decide)).trans ((if_pos rfl).trans ?_)
  rw [State.lcsEnded] at hblob
  simp only [hblob]

theorem State.lcsDone_token {b : List Byte} (hrun : s.sec.lcsRun = some 3) (hsteady : s.boot.starting = false) (htarget : s.rd R.LCS_STATE_TARGET 0 = 15)
    (hblob : s.lcsBlob = (t, some b)) : s.lcsDone =
    if t.tokenOk b then t.wrs 0 [] [(R.LCS_STATE_TARGET, 2), (R.LCS_STATE_LAST_MARK, 1)] else t.lcsEnded.lcsResult 6 := by
  unfold State.lcsDone
  rw [hrun]
  refine (if_neg (by decide)).trans ((if_neg (by decide)).trans ((if_pos rfl).trans ((if_neg (Bool.eq_false_iff.1 hsteady)).trans ((if_pos htarget).trans ?_))))
  rw [hblob] <;> rfl

/-- The package as the test identity is gone and the signing record begins afresh. -/
def State.testIdGone (s : State) : State :=
  (({ s with sec := { s.sec with testId := false, signNext := none } } : State).wr R.SEC_STATUS_BLOCKS_USED 0 [] 0).mark 2

theorem State.lcsDone_mark (hrun : s.sec.lcsRun = some 3) (hsteady : s.boot.starting = false) (htarget : s.rd R.LCS_STATE_TARGET 0 ≠ 15)
    (hmark : s.rd R.LCS_STATE_LAST_MARK 0 = 1) : s.lcsDone = s.testIdGone := by
  unfold State.lcsDone
  rw [hrun]
  exact (if_neg (by decide)).trans ((if_neg (by decide)).trans ((if_pos rfl).trans ((if_neg (Bool.eq_false_iff.1 hsteady)).trans ((if_neg htarget).trans (if_pos hmark)))))

theorem State.lcsDone_scrap (hrun : s.sec.lcsRun = some 4) : s.lcsDone = s.scrapStep := by
  unfold State.lcsDone
  rw [hrun]
  exact (if_neg (by decide)).trans ((if_neg (by decide)).trans (if_neg (by decide)))

theorem State.lcsDone_idle (hrun : s.sec.lcsRun = none) : s.lcsDone = s := by
  unfold State.lcsDone
  rw [hrun]

end

end Sys2Proof.Machine
end

section
namespace Sys2Proof.Machine

section
variable {s t u v : State}

/-! ### What the commands of the life cycle leave -/

/-- A command of the life cycle that is not armed is refused with reason 1. -/
theorem exec_lcs_unarmed {c : Instr} {dt k : Nat} (hc : (c = .genIdentity dt ∧ k = 1) ∨ (c = .installCert dt ∧ k = 2) ∨ (c = .toProduction dt ∧ k = 3) ∨
    (c = .toEndOfLife dt ∧ k = 4)) (hnot : s.lcsIsArmed k dt = false) : exec c s = .next (((s.lcsDisarmed dt).lcsResult 1).withQueue s.pending) := by
  rcases hc with ⟨rfl, rfl⟩ | ⟨rfl, rfl⟩ | ⟨rfl, rfl⟩ | ⟨rfl, rfl⟩
  · exact within_next_eq rfl (State.lcsCmd_unarmed hnot) s
  · exact within_next_eq rfl (State.lcsCmd_unarmed hnot) s
  · exact within_next_eq rfl (State.lcsCmd_unarmed hnot) s
  · exact within_next_eq rfl (State.lcsCmd_unarmed hnot) s

section
variable {dt t : Nat} (hidle : s.lcsBusy = false)
include hidle

theorem exec_genIdentity (harmed : s.lcsIsArmed 1 dt = true) (hlife : s.lcs = 1) (hburned : s.sec.banks.contains 2 = false) (hfree : s.sec.banks.contains 0 = true) :
    exec (.genIdentity dt) s = .next (({ s.lcsRuns 1 dt with sec := { (s.lcsRuns 1 dt).sec with
      banks := s.sec.banks.set (if s.sec.banks.getD 0 0 = 0 then 0 else 1) 1 } } : State).withQueue s.pending) :=
  within_next_eq rfl (State.lcsCmd_runs harmed hidle (by rw [hlife, hburned]; rfl) (if_pos hfree)) s

theorem exec_installCert (harmed : s.lcsIsArmed 2 dt = true) (hlife : s.lcs = 1) (hid : s.rdB R.LCS_STATE_ID_READY 0 = true) :
    exec (.installCert dt) s = .next ((s.lcsRuns 2 dt).withQueue s.pending) :=
  within_next_eq rfl (State.lcsCmd_runs harmed hidle (by rw [hlife]; rfl) (if_pos hid)) s

theorem exec_toProduction (harmed : s.lcsIsArmed 3 dt = true) (hlife : s.lcs = 1) (hparts : ∀ p < 64, s.rdB R.PAR_CFG_ENABLE 0 [p] = false)
    (hid : s.rdB R.LCS_STATE_ID_READY 0 = true) (hcert : s.sec.cert ≠ .none) : exec (.toProduction dt) s = .next ((s.lcsRuns 3 dt).withQueue s.pending) :=
  within_next_eq rfl (State.lcsCmd_runs harmed hidle (by rw [hlife]; rfl) (toProduction_pre (s := s.lcsDisarmed dt) hparts hid hcert)) s

theorem exec_toEndOfLife (harmed : s.lcsIsArmed 4 dt = true) (hlife : s.lcs ≠ 3) : exec (.toEndOfLife dt) s =
    .next (((s.lcsRuns 4 dt).scrapBegun.each ((List.range 64).filter (fun p => (s.lcsRuns 4 dt).scrapBegun.rdB R.PAR_CFG_ENABLE 0 [p])) State.partReset).withQueue s.pending) :=
  within_next_eq rfl (State.lcsCmd_runs harmed hidle (bne_iff_ne.2 hlife) rfl) s

end

theorem State.target_scrapBegun (s : State) : s.scrapBegun.rd R.LCS_STATE_TARGET 0 = 3 :=
  (State.rd_wr_apart _ (f := R.LCS_STATE_LAST_MARK) (by decide) 0 [] 1).trans (State.rd_wr_fits s _ _ _ 3 (by decide))

theorem State.mark_scrapBegun (s : State) : s.scrapBegun.rd R.LCS_STATE_LAST_MARK 0 = 1 := State.rd_wr_fits _ _ _ _ 1 (by decide)

section
variable (s : State) {b : Nat}

theorem State.ready_identified : ((s.identified b).identityShown.lcsResult 0).rdB R.LCS_STATE_ID_READY 0 = true :=
  rdB_eq_true ((State.rd_lcsResult _ 0 (by decide) (by decide)).trans ((State.rd_identityShown (by decide) rfl _).trans
    ((State.rd_wr_apart _ (f := R.LCS_STATE_ID_BANK) (by decide) 0 [] b).trans (State.rd_wr_fits _ _ _ _ 1 (by decide)))))

theorem State.bank_identified (hb : b < 2) : ((s.identified b).identityShown.lcsResult 0).rd R.LCS_STATE_ID_BANK 0 = b :=
  (State.rd_lcsResult _ 0 (by decide) (by decide)).trans ((State.rd_identityShown (by decide) rfl _).trans (State.rd_wr_fits _ _ _ _ b hb))

theorem State.sec_identified : ((s.identified b).identityShown.lcsResult 0).sec = { s.sec with lcsRun := none, banks := s.sec.banks.set b 2 } :=
  State.identityShown_part (·.sec) (fun _ _ _ _ _ => rfl) (s.identified b)

theorem State.ask_identified : ((s.identified b).identityShown.lcsResult 0).ask = s.ask :=
  State.identityShown_part (·.ask) (fun _ _ _ _ _ => rfl) (s.identified b)

end

theorem State.tokenOk_iff (s : State) (b : List Byte) : s.tokenOk b = true ↔ ∃ i < 4, Config.xmssVerify (Config.authorityKey 2 i) s.tokenBody b = true := by
  simp only [State.tokenOk, List.any_eq_true, List.mem_range]

end

/-- Settles O55: firmware goes to the other slot and is swapped in, and a command of the life cycle runs once armed and carries its marks to the end. -/
theorem lifeCycleCommandsComplete : Obligations.LifeCycleCommandsComplete := by
  refine ⟨?stage, ?stageBusy, ?stageDone, ?outcome, ?activate, ?activateNone, ?activated, ?commit, ?arm, ?unarmed, ?identity, ?cert, ?production, ?scrap, ?identityDone,
    ?certDone, ?tokenDone, ?token, ?mark, ?scrapDone, ?idle⟩
  case stage =>
    intro s hidle hsteady
    refine ⟨_, exec_packStage hidle hsteady, ?_, rdB_eq_true (State.rd_wr_fits _ _ _ _ 1 (by decide))⟩
    rw [State.withQueue_sec]
    rfl
  case stageBusy =>
    intro s hbusy
    exact exec_packStage_refused hbusy
  case stageDone =>
    intro a n k o s t hstaging houtcome hask
    cases o with
    | none =>
      exact ⟨_, exec_packStageDone_rejected hstaging houtcome hask, t.stageEnded k, rfl, rfl, rdB_eq_false (t.staging_stageEnded k), t.result_stageEnded k⟩
    | some f =>
      refine ⟨_, exec_packStageDone_kept hstaging houtcome hask, ?_, ?_⟩
      · rw [State.rdB, State.rd_withQueue, State.staging_stageShown, State.staging_stageEnded]
        rfl
      · rw [State.withQueue_sec, State.stageShown_part (·.sec) (fun _ _ _ _ _ => rfl), State.stageKept]
        split <;> rfl
  case outcome =>
    intro a n s
    exact ⟨fun hn => State.stageOutcome_length hn, fun hpos hmax ha => State.stageOutcome_misaligned hpos hmax ha⟩
  case activate =>
    intro s hstaged hsteady
    refine ⟨_, exec_packActivate hstaged hsteady, ?_, State.withQueue_regs _ _⟩
    rw [State.withQueue_sec]
  case activateNone =>
    intro s hnone
    exact exec_packActivate_refused hnone
  case activated =>
    intro s hactive
    exact ⟨s.packSwapped, exec_packActivateDone hactive, s.sec_packSwapped⟩
  case commit =>
    intro f s hslot
    exact ⟨_, exec_commitSvn hslot, State.withQueue_sec _ _, State.withQueue_regs _ _⟩
  case arm =>
    intro v dt s hv
    refine ⟨_, exec_lcsArm dt hv, State.withQueue_regs _ _, ?_⟩
    rw [State.withQueue_sec]
    rfl
  case unarmed =>
    intro c dt k s hc hnot
    refine ⟨_, exec_lcs_unarmed hc (State.lcsIsArmed_eq_false hnot), State.done_lcsResult _ 1, State.reason_lcsResult _ (by decide), ?_⟩
    exact State.withQueue_sec _ _
  case identity =>
    intro dt t s harmed htime hidle hlife hburned hfree
    refine ⟨_, exec_genIdentity hidle (State.lcsIsArmed_eq_true harmed htime) hlife hburned hfree, ?_, ?_, State.withQueue_regs _ _⟩
    · rw [State.withQueue_sec]
    · rw [State.withQueue_sec]
      rfl
  case cert =>
    intro dt t s harmed htime hidle hlife hid
    refine ⟨_, exec_installCert hidle (State.lcsIsArmed_eq_true harmed htime) hlife hid, ?_, State.withQueue_regs _ _⟩
    rw [State.withQueue_sec]
    rfl
  case production =>
    intro dt t s harmed htime hidle hlife hparts hid hcert
    refine ⟨_, exec_toProduction hidle (State.lcsIsArmed_eq_true harmed htime) hlife hparts hid hcert, ?_, State.withQueue_regs _ _⟩
    rw [State.withQueue_sec]
    rfl
  case scrap =>
    intro dt t s harmed htime hidle hlife
    exact ⟨(s.lcsRuns 4 dt).scrapBegun, exec_toEndOfLife hidle (State.lcsIsArmed_eq_true harmed htime) hlife, State.target_scrapBegun _, State.mark_scrapBegun _, rfl⟩
  case identityDone =>
    intro b s hrun hask hbank
    refine ⟨_, exec_lcsCommandDone (State.lcsDone_identity hrun hbank) (s.ask_identified.trans hask), ?_, ?_, ?_, ?_, ?_⟩
    · rw [State.withQueue_sec]
      exact s.sec_identified
    · rw [State.rdB, State.rd_withQueue]
      exact s.ready_identified
    · rw [State.rd_withQueue]
      exact s.bank_identified (List.mem_range.1 (List.mem_of_find?_eq_some hbank))
    · rw [State.rdB, State.rd_withQueue]
      exact State.done_lcsResult _ 0
    · rw [State.rd_withQueue]
      exact State.reason_lcsResult _ (by decide)
  case certDone =>
    intro b s t hrun hblob hask
    have hdone := State.lcsDone_cert hrun hblob
    cases hok : t.certOk b with
    | true =>
      rw [if_pos hok] at hdone
      refine ⟨_, exec_lcsCommandDone hdone hask, State.done_lcsResult _ 0, fun _ => ⟨?_, ?_, State.reason_lcsResult _ (by decide)⟩, fun h => Bool.noConfusion h⟩
      · rw [State.withQueue_sec]
        rfl
      · exact (State.rd_lcsResult _ 0 (by decide) (by decide)).trans (State.rd_wr_fits _ _ _ _ 1 (by decide))
    | false =>
      rw [if_neg (Bool.eq_false_iff.1 hok)] at hdone
      refine ⟨_, exec_lcsCommandDone hdone hask, State.done_lcsResult _ 5, fun h => Bool.noConfusion h, fun _ => ⟨?_, State.reason_lcsResult _ (by decide)⟩⟩
      rw [State.withQueue_sec]
      rfl
  case tokenDone =>
    intro b s t hrun hsteady htarget hblob hask
    have hdone := State.lcsDone_token hrun hsteady htarget hblob
    cases hok : t.tokenOk b with
    | true =>
      rw [if_pos hok] at hdone
      refine ⟨_, exec_lcsCommandDone hdone hask, fun _ => ⟨?_, State.rd_wr_fits _ _ _ _ 1 (by decide), ?_⟩, fun h => Bool.noConfusion h⟩
      · exact (State.rd_wr_apart _ (f := R.LCS_STATE_LAST_MARK) (by decide) 0 [] 1).trans (State.rd_wr_fits t _ _ _ 2 (by decide))
      · rw [State.withQueue_sec]
        rfl
    | false =>
      rw [if_neg (Bool.eq_false_iff.1 hok)] at hdone
      refine ⟨_, exec_lcsCommandDone hdone hask, fun h => Bool.noConfusion h, fun _ => ⟨State.done_lcsResult _ 6, State.reason_lcsResult _ (by decide), ?_⟩⟩
      rw [State.withQueue_sec]
      rfl
  case token =>
    intro b s
    exact s.tokenOk_iff b
  case mark =>
    intro s hrun hask hsteady htarget hmark
    refine ⟨_, exec_lcsCommandDone (State.lcsDone_mark hrun hsteady htarget hmark) hask, State.rd_wr_fits _ _ _ _ 2 (by decide), ?_, ?_⟩
    · rw [State.withQueue_sec]
      rfl
    · exact (State.rd_wr_clear _ (f := R.LCS_STATE_LAST_MARK) (by decide) 2).trans (State.rd_wr_same _ _ _ _ 0)
  case scrapDone =>
    intro s hrun hask
    exact exec_lcsCommandDone (State.lcsDone_scrap hrun) hask
  case idle =>
    intro s hrun hask
    exact exec_lcsCommandDone (State.lcsDone_idle hrun) hask

end Sys2Proof.Machine
end

section
/-! SUPPORT. The error engine and resets (R541 to R552, R556, R558, R559, R569). -/

namespace Sys2Proof.Machine

section
variable {s t u v : State} {d : Nat}

/-! ### New records (R543, R546) -/

/-- The record of an error that is the first of its class. -/
def State.errNew (s : State) (d : Nat) (e : Err) : ErrRec :=
  { die := d, src := e.src, code := e.code, sev := e.sev, scope := e.scope, n := 0, seq := s.rd R.ERR_SEQ d,
    island := s.island d, part := e.part, ctx := e.ctx, tick := s.tick, time := s.now, addr := e.addr, d0 := e.d0,
    d1 := e.d1, escalated := e.escalated, held := false, count := 0, folded := false, lastTick := 0, wait := false }

theorem State.err_new {e : Err} (hsev : e.sev < 3) (hdie : SMap.get 0 s.dies d ≠ 1)
    (hfirst : ∀ r ∈ s.errs, ¬(r.die = d ∧ r.src = e.src ∧ r.code = e.code ∧ r.scope = e.scope ∧ r.sev = e.sev))
    (hroom : s.unhandled d e.src + (s.waiting d e.src).length < (if e.sev = 0 then 12 else 16)) :
    s.err d e = (s.roll R.ERR_SEQ d [] 1).putErr (s.errNew d e) := by
  have hnone : s.errs.find? (fun r => r.die == d && r.src == e.src && r.code == e.code && r.scope == e.scope && r.sev == e.sev) = none := by
    refine List.find?_eq_none.2 fun r hr h => hfirst r hr ?_
    simp only [Bool.and_eq_true, beq_iff_eq] at h
    obtain ⟨⟨⟨⟨hd, hsrc⟩, hcode⟩, hscope⟩, hsev⟩ := h
    exact ⟨hd, hsrc, hcode, hscope, hsev⟩
  have hfatal : ¬e.sev = 3 := Nat.ne_of_lt hsev
  unfold State.err
  rw [if_neg hfatal]
  dsimp only
  rw [if_neg hdie, hnone]
  exact (if_pos hroom).trans (if_neg hfatal)

theorem State.err_inReset {e : Err} (hsev : e.sev < 3) (hdie : SMap.get 0 s.dies d = 1) : s.err d e = s := by
  unfold State.err
  rw [if_neg (Nat.ne_of_lt hsev)]
  exact if_pos hdie

/-! ### What the mirror and the messages leave -/

theorem State.regs_irq (s : State) (fn v : Nat) : (s.irq fn v).regs = s.regs := by
  unfold State.irq
  split <;> rfl

section
variable {g : Fld} {e : Nat} {jx : List Nat} (hjx : idxFits g.dims jx)
include hjx

theorem State.rd_mirror_clear (hheld : g.clear R.HEL_HELD = true) (hbytes : g.clear R.PCI_WR_BYTES = true) (hgap : g.clear R.ERR_PKG_EVENT_MIRROR_GAP = true) (s : State)
    (r : ErrRec) : (s.mirror r).rd g e jx = s.rd g e jx := by
  unfold State.mirror
  split
  · split
    · exact State.rd_wr_clear _ hgap _ hjx
    · exact s.rd_hostWrite (Fld.key_ne_of_clear hheld hjx trivial e 0) (Fld.key_ne_of_clear hbytes hjx trivial e 0) _ _ _ _
  · rfl

theorem State.rd_msix_clear (hpba : g.clear R.PCI_MSIX_PBA = true) (s : State) (v : Nat) : (s.msix 0 v).rd g e jx = s.rd g e jx := by
  unfold State.msix
  split
  · exact State.rd_wr_clear _ hpba _ hjx
  · split
    · split <;> rfl
    · split <;> rfl

theorem State.rd_errMsg_clear (hpba : g.clear R.PCI_MSIX_PBA = true) (s : State) (src code sev : Nat) : (s.errMsg src code sev).rd g e jx = s.rd g e jx := by
  unfold State.errMsg
  extract_lets v
  split
  · rw [State.rd, State.regs_irq, State.rd]
  · exact State.rd_msix_clear hjx hpba s v

end

theorem State.rd_keepErr (s : State) (r : ErrRec) (f : Fld) (e : Nat) (ix : List Nat) : (s.keepErr r).rd f e ix = s.rd f e ix := rfl

/-- A record with the entry of its queue it is to take. -/
def State.errEntered (s : State) (r : ErrRec) : ErrRec := { r with n := s.rd R.ERR_Q_HEAD r.die [r.src], held := r.wait, wait := false }

/-- The queue once the bytes of a record stand in its entry. -/
def State.errShown (p : State) (q : ErrRec) : State :=
  (((((p.roll R.ERR_Q_HEAD q.die [q.src] 1).wr R.ERR_Q_STATUS_UNHANDLED q.die [q.src] ((p.roll R.ERR_Q_HEAD q.die [q.src] 1).unhandled q.die q.src))).keepErr q).mirror
    q).errMsg q.src q.code q.sev

theorem State.head_errShown (p : State) {q : ErrRec} (hsrc : q.src < 11) :
    (p.errShown q).rd R.ERR_Q_HEAD q.die [q.src] = (p.rd R.ERR_Q_HEAD q.die [q.src] + 1) % 2 ^ R.ERR_Q_HEAD.width := by
  rw [State.errShown, State.rd_errMsg_clear (g := R.ERR_Q_HEAD) (jx := [q.src]) ⟨hsrc, trivial⟩ (by decide),
    State.rd_mirror_clear (g := R.ERR_Q_HEAD) (jx := [q.src]) ⟨hsrc, trivial⟩ (by decide) (by decide) (by decide), State.rd_keepErr,
    State.rd_wr_apart _ (f := R.ERR_Q_STATUS_UNHANDLED) (by decide), State.roll, State.rd_wr_same]

theorem State.writeErr_eq (s : State) (r : ErrRec) : s.writeErr r = (if s.rd R.MEM_STATUS_STATE r.die != 2 then none else
    s.post (Agent.collar r.die) (.err r.die r.seq) (s.errAddr (s.errEntered r)) (s.errEntered r).bytes).map (fun p => p.errShown (s.errEntered r)) := rfl

/-- A record that is written takes the next entry of its queue. -/
theorem State.writeErr_some {r : ErrRec} (hsrc : r.src < 11) (h : s.writeErr r = some v) : ∃ p,
    s.post (Agent.collar r.die) (.err r.die r.seq) (s.errAddr (s.errEntered r)) (s.errEntered r).bytes = some p ∧
    v.rd R.ERR_Q_HEAD r.die [r.src] = (p.rd R.ERR_Q_HEAD r.die [r.src] + 1) % 2 ^ R.ERR_Q_HEAD.width := by
  rw [State.writeErr_eq] at h
  obtain ⟨p, hpost, rfl⟩ := Option.map_eq_some_iff.1 h
  split at hpost
  · cases hpost
  · exact ⟨p, hpost, p.head_errShown (q := s.errEntered r) hsrc⟩

theorem State.putErr_written {r : ErrRec} (hfree : s.waiting r.die r.src = []) (h : s.writeErr r = some v) : s.putErr r = v := by
  unfold State.putErr
  rw [hfree, h]
  rfl

theorem State.putErr_kept {r : ErrRec} (h : s.writeErr r = none) : s.putErr r = (s.keepErr { r with wait := true }).wr R.ERR_EVENT_QWRITE_FAIL r.die [] 1 := by
  unfold State.putErr
  rw [h, ite_self]

/-- The head of a queue is not among the events of its die. -/
theorem State.rd_head_event (s : State) (die src v : Nat) : (s.wr R.ERR_EVENT_QWRITE_FAIL die [] v).rd R.ERR_Q_HEAD die [src] = s.rd R.ERR_Q_HEAD die [src] := by
  refine s.rd_wr_ne _ _ _ _ _ _ v ?_
  simp only [Fld.key, Fld.offset, strideSum, R.ERR_EVENT_QWRITE_FAIL, R.ERR_Q_HEAD]
  omega

/-! ### ERR_Q_ACK (R543) -/

theorem errIds {src val : Nat} (hd : d < 4) (hsrc : src < 11) (hval : val < 2 ^ 32) : (decide (d < 4) && decide (src < 11) && decide (val < 2 ^ 32)) = true := by
  rw [decide_eq_true hd, decide_eq_true hsrc, decide_eq_true hval]
  rfl

/-- The records of a queue that an acknowledgement has not counted. -/
def State.errsLeft (s : State) (d src val : Nat) : List ErrRec :=
  s.errs.filter (fun (r : ErrRec) => !(r.die == d && r.src == src && !r.wait && decide ((r.n + 2 ^ 32 - s.rd R.ERR_Q_ACK d [src]) % 2 ^ 32 <
    (val + 2 ^ 32 - s.rd R.ERR_Q_ACK d [src]) % 2 ^ 32)))

/-- The queue as its acknowledgement has moved. -/
def State.errAcked (s : State) (d src val : Nat) : State := { s.wr R.ERR_Q_ACK d [src] val with errs := s.errsLeft d src val }

theorem exec_errQAck {src val : Nat} (hd : d < 4) (hsrc : src < 11) (hval : val < 2 ^ 32) (hruns : s.dieRuns d = true)
    (hroom : (val + 2 ^ 32 - s.rd R.ERR_Q_ACK d [src]) % 2 ^ 32 ≤ s.unhandled d src) : exec (.errQAck d src val) s =
      .next (((s.errAcked d src val).wr R.ERR_Q_STATUS_UNHANDLED d [src] ((s.errAcked d src val).unhandled d src)).withQueue s.pending) := by
  refine within_next_eq (errIds hd hsrc hval) ((if_pos hruns).trans ?_) s
  unfold State.errAck
  rw [Nat.mod_eq_of_lt hval]
  exact if_neg (Nat.not_lt.2 hroom)

theorem exec_errQAck_beyond {src val : Nat} (hd : d < 4) (hsrc : src < 11) (hval : val < 2 ^ 32) (hruns : s.dieRuns d = true)
    (hbeyond : s.unhandled d src < (val + 2 ^ 32 - s.rd R.ERR_Q_ACK d [src]) % 2 ^ 32) :
    exec (.errQAck d src val) s = .next ((s.cfgErr .ERR d [] (R.ERR_Q_ACK.offset [src])).withQueue s.pending) := by
  refine within_next_eq (errIds hd hsrc hval) ((if_pos hruns).trans ?_) s
  unfold State.errAck
  rw [Nat.mod_eq_of_lt hval]
  exact if_pos hbeyond

/-! ### Causes of reset (R550, R551) -/

theorem State.askReset_hd0 (s : State) (cause : Nat) : s.askReset 0 cause = s.packageReset := by
  unfold State.askReset
  exact if_pos rfl

theorem State.askReset_waits {cause : Nat} (hlead : d ≠ 0) (hdie : SMap.get 0 s.dies d ≠ 1) (hnone : ∀ x ∈ s.heat.resets, x.1 ≠ d) :
    s.askReset d cause = { s with heat := { s.heat with resets := s.heat.resets ++ [(d, cause)] } } := by
  have hfree : s.heat.resets.any (fun x => x.1 == d) = false := List.any_eq_false.2 fun x hx he => hnone x hx (beq_iff_eq.1 he)
  unfold State.askReset
  rw [if_neg hlead, hfree]
  exact if_neg (by rw [decide_eq_false hdie]; decide)

theorem exec_deputySilent (hd : d < 4) (hlead : d ≠ 0) (hruns : s.dieRuns d = true) :
    exec (.deputySilent d) s = .next ((s.askReset d (10 * 256 + 3)).withQueue s.pending) :=
  within_next_eq (decide_eq_true hd) (if_neg (by rw [decide_eq_false hlead, hruns]; decide)) s

theorem exec_deputySilent_none (hd : d < 4) (h : d = 0 ∨ s.dieRuns d = false) : exec (.deputySilent d) s = .next s := by
  refine within_next_same (decide_eq_true hd) (if_pos ?_)
  rw [Bool.or_eq_true, decide_eq_true_eq, Bool.not_eq_true']
  exact h

theorem exec_dieReset {x : Nat × Nat} (hd : d < 4) (hfind : s.heat.resets.find? (fun x => x.1 == d) = some x) :
    exec (.dieReset d) s = .next ((s.dieReset d x.2).withQueue s.pending) :=
  within_next_eq (decide_eq_true hd) (by rw [hfind]) s

theorem exec_dieReset_none (hd : d < 4) (hnone : ∀ x ∈ s.heat.resets, x.1 ≠ d) : exec (.dieReset d) s = .next s := by
  have hfind : s.heat.resets.find? (fun x => x.1 == d) = none := List.find?_eq_none.2 fun x hx he => hnone x hx (beq_iff_eq.1 he)
  exact within_next_same (decide_eq_true hd) (by rw [hfind])

/-! ### Rails (R549, R569) -/

section
variable {rail n : Nat} (hmain : s.boot.mainOff = false)
include hmain

theorem exec_railFault (hrail : rail < 6) (hn : n < 8) (hlive : s.boot.starting = false ∨ rail = 5) (h : (if rail ≤ 1 then
      if 4 ≤ n ∨ s.dieRuns n = false then s
      else if n = 0 then ((s.wr (if rail = 0 then R.PWR_STATUS_CORE_GOOD else R.PWR_STATUS_HBM_GOOD) n [] 0).railRecord 0 0 (scopeOf 9 0)).packageReset
      else ((s.wr (if rail = 0 then R.PWR_STATUS_CORE_GOOD else R.PWR_STATUS_HBM_GOOD) n [] 0).railRecord n 0 (scopeOf 9 n)).askReset n (10 * 256 + 3)
    else if rail = 4 then
      if !s.dieRuns (n / 2) then s
      else
        let s := (s.wr (if n % 2 = 0 then R.PWR_STATUS_BAY_A_GOOD else R.PWR_STATUS_BAY_B_GOOD) (n / 2) [] 0).railRecord (n / 2) (n / 2) (scopeOf 2 n)
        if s.bayRd R.BAY_STATUS_STATE n ≠ 4 ∨ s.rd R.COH_ISL_STATE_STATE 0 [s.island (n / 2)] = 1 then s
        else (s.err (n / 2) { (Err.plain 2 6 2 (scopeOf 2 n) (s.bayStatus n)) with escalated := true }).takeDown (s.island (n / 2)) 7 (bayNode n) 0 (n / 2)
    else if rail = 5 then { s.packageReset with boot := { s.packageReset.boot with vauxLost := true, storeGood := false }, sec := { s.packageReset.sec with signNext := none } }
    else s.packageReset) = u) : exec (.railFault rail n) s = .next (u.withQueue s.pending) := by
  refine within_next_eq (by rw [decide_eq_true hrail, decide_eq_true hn]; rfl) ((if_neg ?_).trans h) s
  rw [hmain, Bool.false_or]
  rcases hlive with hlive | hrail
  · rw [hlive, Bool.false_and, Bool.false_and]
    exact Bool.false_ne_true
  · rw [hrail, bne_self_eq_false, Bool.and_false]
    exact Bool.false_ne_true

theorem exec_railFault_package (hrail : rail = 2 ∨ rail = 3) (hn : n < 8) (hsteady : s.boot.starting = false) :
    exec (.railFault rail n) s = .next (s.packageReset.withQueue s.pending) := by
  refine exec_railFault hmain (by omega) hn (.inl hsteady) ?_
  exact (if_neg (by omega)).trans ((if_neg (by omega)).trans (if_neg (by omega)))

theorem exec_railFault_die (hrail : rail < 2) (hn : n < 4) (hsteady : s.boot.starting = false) (hruns : s.dieRuns n = true)
    (hv : v = (s.wr (if rail = 0 then R.PWR_STATUS_CORE_GOOD else R.PWR_STATUS_HBM_GOOD) n [] 0).railRecord n 0 (scopeOf 9 n)) :
    exec (.railFault rail n) s = .next ((if n = 0 then v.packageReset else v.askReset n (10 * 256 + 3)).withQueue s.pending) := by
  subst hv
  have hlive : ¬(4 ≤ n ∨ s.dieRuns n = false) := by
    rw [hruns, not_or]
    exact ⟨Nat.not_le.2 hn, by decide⟩
  refine exec_railFault hmain (Nat.lt_trans hrail (by decide)) (Nat.lt_trans hn (by decide)) (.inl hsteady) ?_
  refine (if_pos (Nat.le_of_lt_succ hrail)).trans ((if_neg hlive).trans ?_)
  by_cases hlead : n = 0
  · subst hlead
    rw [if_pos rfl]
  · rw [if_neg hlead, if_neg hlead]

theorem exec_railFault_bay (hn : n < 8) (hsteady : s.boot.starting = false) (hruns : s.dieRuns (n / 2) = true)
    (hv : v = (s.wr (if n % 2 = 0 then R.PWR_STATUS_BAY_A_GOOD else R.PWR_STATUS_BAY_B_GOOD) (n / 2) [] 0).railRecord (n / 2) (n / 2) (scopeOf 2 n))
    (hout : v.bayRd R.BAY_STATUS_STATE n ≠ 4) : exec (.railFault 4 n) s = .next (v.withQueue s.pending) := by
  subst hv
  refine exec_railFault hmain (by decide) hn (.inl hsteady) ?_
  exact (if_neg (by decide)).trans ((if_pos rfl).trans ((if_neg (by rw [hruns]; decide)).trans (if_pos (.inl hout))))

theorem exec_railFault_vaux (hn : n < 8) : exec (.railFault 5 n) s =
    .next (({ s.packageReset with boot := { s.packageReset.boot with vauxLost := true, storeGood := false }, sec := { s.packageReset.sec with signNext := none } } : State).withQueue
      s.pending) := by
  refine exec_railFault hmain (by decide) hn (.inr rfl) ?_
  exact (if_neg (by decide)).trans ((if_neg (by decide)).trans (if_pos rfl))

end

end

end Sys2Proof.Machine
end

section
namespace Sys2Proof.Machine

section
variable {s t u v : State} {d : Nat}

/-! ### Clusters in service (R556) -/

/-- A cluster is marked as failed, once. -/
def State.cluMarked (t : State) (c : Nat) : State :=
  if c ∈ t.boot.failed then t else { t with boot := { t.boot with failed := t.boot.failed ++ [c] } }

section
variable {c : Nat} (hc : c < 512) (hruns : s.dieRuns (c / 128) = true) (hexists : s.cluExists c = true)
include hc hruns hexists

theorem exec_sramError {corrected : Bool} (h : (if corrected then s.err (c / 128) (s.cluErr c 1 0) else
    State.cluMarked (match (s.clu c).unit.bind s.unit? with
      | some u => (s.err (c / 128) (s.cluErr c 2 1)).endUnit u.id ⟨4, 0x00000FFFFFFFFFFF, 0⟩
      | none => s.err (c / 128) (s.cluErr c 2 1)) c) = u) : exec (.sramError c corrected) s = .next (u.withQueue s.pending) := by
  refine within_next_eq (decide_eq_true hc) ((if_neg ?_).trans (Eq.trans ?_ h)) s
  · rw [show s.dieRuns (cluDie c) = true from hruns, hexists]
    decide
  · cases corrected with
    | true => rfl
    | false =>
      rw [if_neg Bool.false_ne_true, if_neg Bool.false_ne_true]
      simp only [State.cluMarked, List.contains_iff_mem]
      rfl

end

theorem exec_clusterWithdraw {c : Nat} (hc : c < 512) (hfailed : c ∈ s.boot.failed) (hunit : (s.clu c).unit = none)
    (hidle : s.rdClu R.CLU_STATUS_STATE c = 0 ∨ s.rdClu R.CLU_STATUS_STATE c = 6) : exec (.clusterWithdraw c) s = .next ((s.withdraw c).withQueue s.pending) := by
  refine within_next_eq (decide_eq_true hc) (if_pos ?_) s
  rw [List.contains_iff_mem.2 hfailed, hunit, Bool.true_and, Option.isNone_none, Bool.true_and, Bool.or_eq_true, beq_iff_eq, beq_iff_eq]
  exact hidle

theorem exec_clusterWithdraw_none {c : Nat} (hc : c < 512) (hfine : c ∉ s.boot.failed) : exec (.clusterWithdraw c) s = .next s := by
  refine within_next_same (decide_eq_true hc) (if_neg fun h => hfine ?_)
  simp only [Bool.and_eq_true, List.contains_iff_mem] at h
  exact h.1.1

/-! ### The Pack's watchdog (R558, R559) -/

/-- The expiries of a die's watchdog within 600 s. -/
def State.wdtMine (s : State) (d dt : Nat) : List (Nat × Nat) := s.heat.wdtTimes.filter (fun x => x.1 == d && decide ((s.at_ dt).now ≤ x.2 + 600 * 10 ^ 9))

/-- A die whose Pack is reset by its watchdog, for the third time or not. -/
def State.wdtReset (s : State) (d dt state : Nat) : State :=
  (({ s.at_ dt with heat := { s.heat with wdtTimes := s.heat.wdtTimes.filter (fun (x : Nat × Nat) => x.1 != d) ++ s.wdtMine d dt ++ [(d, (s.at_ dt).now)] } } : State).bump
    R.ERR_WDT_RESETS d [] 1).wrs d [] [(R.ERR_EVENT_PACK_WDT, 1), (R.ERR_WDT_PACK_STATE, state)]

/-- The record of an expiry. -/
def State.wdtErr (v : State) (d : Nat) : State := v.err d (.plain 10 1 0 (scopeOf 9 d) (v.wdtReg d))

theorem exec_packWdtExpire {dt : Nat} (hd : d < 4) (hstate : s.rd R.ERR_WDT_PACK_STATE d = 0) (hruns : s.dieRuns d = true)
    (hu : (if decide (3 ≤ (s.wdtMine d dt).length + 1) then
        ((s.wdtReset d dt (if decide (3 ≤ (s.wdtMine d dt).length + 1) then 2 else 1)).wdtErr d).err d (.plain 10 2 1 (scopeOf 9 d)
          (((s.wdtReset d dt (if decide (3 ≤ (s.wdtMine d dt).length + 1) then 2 else 1)).wdtErr d).wdtReg d))
      else (s.wdtReset d dt (if decide (3 ≤ (s.wdtMine d dt).length + 1) then 2 else 1)).wdtErr d) = u) :
    exec (.packWdtExpire d dt) s = .next ((u.packCut d).withQueue s.pending) := by
  have hgo : ¬(s.rd R.ERR_WDT_PACK_STATE d != 0 || !s.dieRuns d) = true := by
    rw [hstate, hruns]
    decide
  refine within_next_eq (decide_eq_true hd) ?_ s
  rw [if_neg hgo, ← hu]
  rfl

theorem exec_packWdtExpire_first {dt : Nat} (hd : d < 4) (hstate : s.rd R.ERR_WDT_PACK_STATE d = 0) (hruns : s.dieRuns d = true)
    (hfirst : s.wdtMine d dt = []) : exec (.packWdtExpire d dt) s = .next ((((s.wdtReset d dt 1).wdtErr d).packCut d).withQueue s.pending) := by
  have hfew : decide (3 ≤ (s.wdtMine d dt).length + 1) = false := by
    rw [hfirst]
    rfl
  refine exec_packWdtExpire hd hstate hruns ?_
  rw [hfew, if_neg Bool.false_ne_true, if_neg Bool.false_ne_true]

theorem exec_packWdtExpire_third {dt : Nat} (hd : d < 4) (hstate : s.rd R.ERR_WDT_PACK_STATE d = 0) (hruns : s.dieRuns d = true)
    (hmany : 2 ≤ (s.wdtMine d dt).length) : exec (.packWdtExpire d dt) s =
      .next (((((s.wdtReset d dt 2).wdtErr d).err d (.plain 10 2 1 (scopeOf 9 d) (((s.wdtReset d dt 2).wdtErr d).wdtReg d))).packCut d).withQueue s.pending) := by
  refine exec_packWdtExpire hd hstate hruns ?_
  rw [decide_eq_true (Nat.succ_le_succ hmany), if_pos rfl, if_pos rfl]

theorem State.state_wdtReset (s : State) (d dt : Nat) {state : Nat} (hstate : state < 4) : (s.wdtReset d dt state).rd R.ERR_WDT_PACK_STATE d = state :=
  State.rd_wr_fits _ _ _ _ _ hstate

theorem State.event_wdtReset (s : State) (d dt state : Nat) : (s.wdtReset d dt state).rdB R.ERR_EVENT_PACK_WDT d = true :=
  rdB_eq_true ((State.rd_wr_apart _ (f := R.ERR_WDT_PACK_STATE) (by decide) d [] state).trans (State.rd_wr_fits _ _ _ _ 1 (by decide)))

theorem State.resets_wdtReset (s : State) (d dt state : Nat) :
    (s.wdtReset d dt state).rd R.ERR_WDT_RESETS d = min (2 ^ R.ERR_WDT_RESETS.width - 1) (s.rd R.ERR_WDT_RESETS d + 1) :=
  (State.rd_wr_apart _ (f := R.ERR_WDT_PACK_STATE) (by decide) d [] state).trans ((State.rd_wr_apart _ (f := R.ERR_EVENT_PACK_WDT) (by decide) d [] 1).trans
    (State.rd_bump_same ({ s.at_ dt with heat := _ } : State) R.ERR_WDT_RESETS d [] 1))

theorem State.wdtMine_first (dt : Nat) (hfirst : ∀ x ∈ s.heat.wdtTimes, x.1 ≠ d) : s.wdtMine d dt = [] :=
  List.filter_eq_nil_iff.2 fun x hx h => hfirst x hx (beq_iff_eq.1 (Bool.and_eq_true_iff.1 h).1)

theorem State.times_wdtReset (dt state : Nat) (hfirst : ∀ x ∈ s.heat.wdtTimes, x.1 ≠ d) :
    (s.wdtReset d dt state).heat.wdtTimes = s.heat.wdtTimes ++ [(d, (s.at_ dt).now)] := by
  show s.heat.wdtTimes.filter (fun (x : Nat × Nat) => x.1 != d) ++ s.wdtMine d dt ++ [(d, (s.at_ dt).now)] = _
  rw [State.wdtMine_first dt hfirst, List.append_nil, List.filter_eq_self.2 fun x hx => bne_iff_ne.2 (hfirst x hx)]

theorem exec_packRestartDone (hd : d < 4) (hstate : s.rd R.ERR_WDT_PACK_STATE d = 1) :
    exec (.packRestartDone d) s = .next ((s.wr R.ERR_WDT_PACK_STATE d [] 0).withQueue s.pending) :=
  within_next_eq (decide_eq_true hd) (if_pos hstate) s

theorem exec_packRestartDone_none (hd : d < 4) (hstate : s.rd R.ERR_WDT_PACK_STATE d ≠ 1) : exec (.packRestartDone d) s = .next s :=
  within_next_same (decide_eq_true hd) (if_neg hstate)

end

/-- Settles O58: a record takes the next entry of its queue, an acknowledgement handles what it counts, and causes of reset, rails, clusters and the watchdog
do what their rows say. -/
theorem errorCommandsComplete : Obligations.ErrorCommandsComplete := by
  refine ⟨?new, ?written, ?kept, ?inReset, ?retry, ?ack, ?ackBeyond, ?waits, ?package, ?clock, ?deputy, ?deputyNone, ?resetWrite, ?dieReset, ?dieResetNone, ?railPackage,
    ?railDie, ?railBay, ?railVaux, ?corrected, ?uncorrected, ?withdraw, ?withdrawNone, ?wdtFirst, ?wdtThird, ?restart, ?restartNone⟩
  case new =>
    intro d e s _ _ hsev hdie hfirst hroom
    exact ⟨s.roll R.ERR_SEQ d [] 1, s.errNew d e, State.err_new hsev hdie hfirst hroom, rfl, rfl, rfl, rfl, rfl, rfl, rfl, rfl, State.rd_wr_same s _ _ _ _, rfl, rfl⟩
  case written =>
    intro r s v _ hsrc hfree hwrite
    obtain ⟨p, hpost, hhead⟩ := State.writeErr_some hsrc hwrite
    exact ⟨State.putErr_written hfree hwrite, p, _, rfl, hpost, hhead⟩
  case kept =>
    intro r s _ hnone
    exact ⟨_, State.putErr_kept hnone, rdB_eq_true (State.rd_wr_fits _ _ _ _ 1 (by decide)), rfl, (State.rd_head_event _ _ _ _).trans rfl⟩
  case inReset =>
    intro d e s _ _ hsev hdie
    exact State.err_inReset hsev hdie
  case retry =>
    intro d s hd
    exact within_next_eq (decide_eq_true hd) rfl s
  case ack =>
    intro d src val s hd hsrc hval hruns hroom
    refine ⟨_, exec_errQAck hd hsrc hval hruns hroom, ?_, State.withQueue_errs _ _⟩
    exact (State.rd_wr_apart _ (f := R.ERR_Q_STATUS_UNHANDLED) (by decide) d [src] _).trans (State.rd_wr_fits s _ _ _ _ hval)
  case ackBeyond =>
    intro d src val s hd hsrc hval hruns hbeyond
    exact exec_errQAck_beyond hd hsrc hval hruns hbeyond
  case waits =>
    intro d cause s _ hlead hdie hnone
    exact State.askReset_waits hlead hdie hnone
  case package =>
    intro cause s
    exact s.askReset_hd0 cause
  case clock =>
    intro d s hd
    exact within_next_eq (decide_eq_true hd) rfl s
  case deputy =>
    intro d s hd hlead hruns
    exact exec_deputySilent hd hlead hruns
  case deputyNone =>
    intro d s hd h
    exact exec_deputySilent_none hd h
  case resetWrite =>
    intro val s hval
    exact within_next_eq (decide_eq_true hval) rfl s
  case dieReset =>
    intro d x s hd hfind
    exact exec_dieReset hd hfind
  case dieResetNone =>
    intro d s hd hnone
    exact exec_dieReset_none hd hnone
  case railPackage =>
    intro rail n s hrail hn hmain hsteady
    exact exec_railFault_package hmain hrail hn hsteady
  case railDie =>
    intro rail n s v hrail hn hmain hsteady hruns hv
    exact exec_railFault_die hmain hrail hn hsteady hruns hv
  case railBay =>
    intro b s v hb hmain hsteady hruns hv hout
    exact exec_railFault_bay hmain hb hsteady hruns hv hout
  case railVaux =>
    intro n s hn hmain
    refine ⟨_, exec_railFault_vaux hmain hn, ?_, ?_, ?_⟩
    · rw [State.withQueue_boot]
    · rw [State.withQueue_boot]
    · rw [State.withQueue_sec]
  case corrected =>
    intro c s hc hruns hexists
    exact exec_sramError hc hruns hexists (if_pos rfl)
  case uncorrected =>
    intro c s t hc hruns hexists ht
    subst ht
    exact exec_sramError hc hruns hexists (if_neg Bool.false_ne_true)
  case withdraw =>
    intro c s hc hfailed hunit hidle
    exact exec_clusterWithdraw hc hfailed hunit hidle
  case withdrawNone =>
    intro c s hc hfine
    exact exec_clusterWithdraw_none hc hfine
  case wdtFirst =>
    intro d dt s hd hstate hruns hfirst
    exact ⟨s.wdtReset d dt 1, exec_packWdtExpire_first hd hstate hruns (State.wdtMine_first dt hfirst), s.state_wdtReset d dt (by decide), s.event_wdtReset d dt 1,
      State.times_wdtReset dt 1 hfirst, s.resets_wdtReset d dt 1⟩
  case wdtThird =>
    intro d dt s hd hstate hruns hmany
    exact ⟨s.wdtReset d dt 2, (s.wdtReset d dt 2).wdtErr d, rfl, s.state_wdtReset d dt (by decide), exec_packWdtExpire_third hd hstate hruns hmany⟩
  case restart =>
    intro d s hd hstate
    exact ⟨_, exec_packRestartDone hd hstate, State.rd_wr_same s _ _ _ 0⟩
  case restartNone =>
    intro d s hd hstate
    exact exec_packRestartDone_none hd hstate

end Sys2Proof.Machine
end

section
/-! SUPPORT. Heat, power, telemetry and ageing (R551, R553, R554, R560 to R563). -/

namespace Sys2Proof.Machine

section
variable {s t u v : State} {d : Nat}

/-! ### The level of a die (R553) -/

section
variable {old temp throttle : Nat}

theorem nextLevel_hold (h : 100 ≤ temp ∨ (old = 2 ∧ 97 ≤ temp)) : nextLevel old temp throttle = 2 := if_pos h

theorem nextLevel_throttle (h : ¬(100 ≤ temp ∨ (old = 2 ∧ 97 ≤ temp))) (hwarm : throttle ≤ temp ∨ (1 ≤ old ∧ throttle ≤ temp + 3)) : nextLevel old temp throttle = 1 :=
  (if_neg h).trans (if_pos hwarm)

theorem nextLevel_normal (h : ¬(100 ≤ temp ∨ (old = 2 ∧ 97 ≤ temp))) (hcool : ¬(throttle ≤ temp ∨ (1 ≤ old ∧ throttle ≤ temp + 3))) : nextLevel old temp throttle = 0 :=
  (if_neg h).trans (if_neg hcool)

theorem nextLevel_le (old temp throttle : Nat) : nextLevel old temp throttle ≤ 2 := by
  unfold nextLevel
  split
  · exact Nat.le_refl 2
  · split <;> decide

end

/-! ### TCLK (R553, R554) -/

/-- TCLK changes only its own field. -/
theorem State.tclkShow_part {α : Type} (p : State → α) (hp : ∀ t f d ix v, p (State.wr t f d ix v) = p t) (s : State) (d : Nat) : p (s.tclkShow d) = p s := by
  unfold State.tclkShow
  extract_lets v
  split
  · rfl
  · exact hp _ _ _ _ _

theorem State.rd_tclkShow {g : Fld} (hg : g.apart R.ERR_THERMAL_TCLK_16 = true) (s : State) (d : Nat) : (s.tclkShow d).rd g d = s.rd g d := by
  unfold State.tclkShow
  extract_lets v
  split
  · rfl
  · exact State.rd_wr_apart s hg d [] _

theorem State.tclk_tclkShow (hmin : min (s.tclkDie d) s.heat.tclkCap ≤ 16) :
    (s.tclkShow d).rd R.ERR_THERMAL_TCLK_16 d = if s.rd R.ERR_THERMAL_LEVEL d = 2 then 4 else min (s.tclkDie d) s.heat.tclkCap := by
  have hfits : (if s.rd R.ERR_THERMAL_LEVEL d = 2 then 4 else min (s.tclkDie d) s.heat.tclkCap) < 2 ^ R.ERR_THERMAL_TCLK_16.width := by
    refine Nat.lt_of_le_of_lt (m := 16) ?_ (by decide)
    split
    · decide
    · exact hmin
  unfold State.tclkShow
  extract_lets v
  split
  · next h => exact h
  · exact State.rd_wr_fits s _ _ _ _ hfits

/-! ### Readings (R551, R553) -/

/-- A die with a reading and the level it comes to. -/
def State.heatRead (s : State) (d temp : Nat) : State :=
  ({ s with heat := { s.heat with hotReads := SMap.put 0 s.heat.hotReads d (if 105 ≤ temp then SMap.get 0 s.heat.hotReads d + 1 else 0) } } : State).wrs d []
    [(R.ERR_THERMAL_TEMP, min 255 temp), (R.ERR_THERMAL_LEVEL, nextLevel (s.rd R.ERR_THERMAL_LEVEL d) temp (s.rd R.ERR_THERMAL_THROTTLE_C d))]

/-- Half of what a bay may take. -/
def State.halfLimit (s : State) (b : Nat) : Nat := min (classLimit (s.bayInfo b).cls) (s.bayRd R.BAY_PLIMIT b) / 2

/-- A bay is told half of its limit. -/
def State.bayHalved (s : State) (b : Nat) : State := (s.setBay b { s.bayInfo b with plimit := s.halfLimit b }).ctl b 0x8C (s.halfLimit b)

/-- The bays of a die at HOLD are told half of their limit. -/
def State.baysHalved (s : State) (d : Nat) : State := s.each ([2 * d, 2 * d + 1].filter s.bayLive) State.bayHalved

/-- The event of a level that rises, before its record. -/
def State.heatEvent (s : State) (d : Nat) : State := s.wr R.ERR_EVENT_THERMAL d [] 1

/-- The record of a level that rises. -/
def State.heatErr (v : State) (d : Nat) : State := v.err d (.plain 9 3 0 (scopeOf 9 d) (v.thermalReg d))

theorem State.thermalSample_runs (temp : Nat) (hdie : SMap.get 0 s.dies d ≠ 1) : s.thermalSample d temp =
    if s.rd R.ERR_THERMAL_LEVEL d < nextLevel (s.rd R.ERR_THERMAL_LEVEL d) temp (s.rd R.ERR_THERMAL_THROTTLE_C d) then
      ((if nextLevel (s.rd R.ERR_THERMAL_LEVEL d) temp (s.rd R.ERR_THERMAL_THROTTLE_C d) = 2 ∧ s.rd R.ERR_THERMAL_LEVEL d ≠ 2 then
        ((s.heatRead d temp).tclkShow d).baysHalved d else (s.heatRead d temp).tclkShow d).heatEvent d).heatErr d
    else if nextLevel (s.rd R.ERR_THERMAL_LEVEL d) temp (s.rd R.ERR_THERMAL_THROTTLE_C d) = 2 ∧ s.rd R.ERR_THERMAL_LEVEL d ≠ 2 then
      ((s.heatRead d temp).tclkShow d).baysHalved d else (s.heatRead d temp).tclkShow d := by
  unfold State.thermalSample
  rw [if_neg hdie]
  rfl

theorem State.thermalSample_held {temp : Nat} (hdie : SMap.get 0 s.dies d = 1) : s.thermalSample d temp =
    if temp < 90 then { s with heat := { s.heat with tripped := s.heat.tripped.filter (· != d) } } else s := by
  unfold State.thermalSample
  rw [if_pos hdie]

theorem State.thermalSample_falls {temp : Nat} (hdie : SMap.get 0 s.dies d ≠ 1) (hold : s.rd R.ERR_THERMAL_LEVEL d ≤ 2)
    (hfalls : nextLevel (s.rd R.ERR_THERMAL_LEVEL d) temp (s.rd R.ERR_THERMAL_THROTTLE_C d) ≤ s.rd R.ERR_THERMAL_LEVEL d) :
    s.thermalSample d temp = (s.heatRead d temp).tclkShow d := by
  have hsame : ¬(nextLevel (s.rd R.ERR_THERMAL_LEVEL d) temp (s.rd R.ERR_THERMAL_THROTTLE_C d) = 2 ∧ s.rd R.ERR_THERMAL_LEVEL d ≠ 2) := by omega
  rw [State.thermalSample_runs temp hdie, if_neg (Nat.not_lt.2 hfalls), if_neg hsame]

theorem State.thermalSample_throttles {temp : Nat} (hdie : SMap.get 0 s.dies d ≠ 1) (hold : s.rd R.ERR_THERMAL_LEVEL d = 0)
    (hnew : nextLevel (s.rd R.ERR_THERMAL_LEVEL d) temp (s.rd R.ERR_THERMAL_THROTTLE_C d) = 1) :
    s.thermalSample d temp = (((s.heatRead d temp).tclkShow d).heatEvent d).heatErr d := by
  rw [State.thermalSample_runs temp hdie, hnew, if_pos (by rw [hold]; decide), if_neg (fun h => absurd h.1 (by decide))]

theorem State.thermalSample_holds {temp : Nat} (hdie : SMap.get 0 s.dies d ≠ 1) (hold : s.rd R.ERR_THERMAL_LEVEL d < 2)
    (hnew : nextLevel (s.rd R.ERR_THERMAL_LEVEL d) temp (s.rd R.ERR_THERMAL_THROTTLE_C d) = 2) :
    s.thermalSample d temp = ((((s.heatRead d temp).tclkShow d).baysHalved d).heatEvent d).heatErr d := by
  rw [State.thermalSample_runs temp hdie, hnew, if_pos hold, if_pos ⟨rfl, Nat.ne_of_lt hold⟩]

theorem State.temp_heatRead (s : State) (d temp : Nat) : (s.heatRead d temp).rd R.ERR_THERMAL_TEMP d = min 255 temp :=
  (State.rd_wr_apart _ (f := R.ERR_THERMAL_LEVEL) (by decide) d [] _).trans (State.rd_wr_fits _ R.ERR_THERMAL_TEMP _ _ _ (Nat.lt_of_le_of_lt (Nat.min_le_left _ _) (by decide)))

theorem State.level_heatRead (s : State) (d temp : Nat) : (s.heatRead d temp).rd R.ERR_THERMAL_LEVEL d =
    nextLevel (s.rd R.ERR_THERMAL_LEVEL d) temp (s.rd R.ERR_THERMAL_THROTTLE_C d) :=
  State.rd_wr_fits _ R.ERR_THERMAL_LEVEL _ _ _ (Nat.lt_of_le_of_lt (nextLevel_le _ _ _) (by decide))

theorem State.level_heatEvent (s : State) (d : Nat) : (s.heatEvent d).rd R.ERR_THERMAL_LEVEL d = s.rd R.ERR_THERMAL_LEVEL d :=
  State.rd_wr_apart s (by decide) d [] 1

theorem State.event_heatEvent (s : State) (d : Nat) : (s.heatEvent d).rdB R.ERR_EVENT_THERMAL d = true := rdB_eq_true (State.rd_wr_fits s _ _ _ 1 (by decide))

theorem State.regs_baysHalved (s : State) (d : Nat) : (s.baysHalved d).regs = s.regs := State.each_regs State.bayHalved (fun _ _ => rfl) _ s

theorem State.bayInfo_bayHalved_ne (s : State) {b c : Nat} (hne : b ≠ c) : (s.bayHalved c).bayInfo b = s.bayInfo b := SMap.get_put_ne _ _ _ hne

theorem State.plimit_bayHalved (s : State) (b : Nat) : ((s.bayHalved b).bayInfo b).plimit = s.halfLimit b := congrArg BayInfo.plimit (SMap.get_put_same _ _ _ _)

/-- A step for another bay leaves a bay and what it may take. -/
theorem State.halfLimit_bayHalved_ne (s : State) {b c : Nat} (hne : b ≠ c) : (s.bayHalved c).halfLimit b = s.halfLimit b := by
  unfold State.halfLimit
  rw [s.bayInfo_bayHalved_ne hne]
  rfl

theorem State.bayInfo_each_bayHalved {b : Nat} : ∀ (l : List Nat) (s : State), b ∉ l → (s.each l State.bayHalved).bayInfo b = s.bayInfo b
  | [], _, _ => rfl
  | c :: l, s, hb => by
    rw [List.mem_cons, not_or] at hb
    exact (State.bayInfo_each_bayHalved l (s.bayHalved c) hb.2).trans (s.bayInfo_bayHalved_ne hb.1)

theorem State.plimit_each_bayHalved {b : Nat} (l : List Nat) (s : State) (hl : l.Nodup) (hb : b ∈ l) : ((s.each l State.bayHalved).bayInfo b).plimit = s.halfLimit b := by
  induction l generalizing s with
  | nil => exact absurd hb List.not_mem_nil
  | cons c l ih =>
    obtain ⟨hc, hl⟩ := List.nodup_cons.1 hl
    rw [show s.each (c :: l) State.bayHalved = (s.bayHalved c).each l State.bayHalved from rfl]
    by_cases hbc : b = c
    · subst hbc
      rw [State.bayInfo_each_bayHalved l _ hc, State.plimit_bayHalved]
    · rw [ih (s.bayHalved c) hl ((List.mem_cons.1 hb).resolve_left hbc), State.halfLimit_bayHalved_ne s hbc]

/-- Each live bay of the die is told half of what it may take. -/
theorem State.plimit_baysHalved (s : State) {b : Nat} (hb : b / 2 = d) (hlive : s.bayLive b = true) : ((s.baysHalved d).bayInfo b).plimit = s.halfLimit b := by
  refine State.plimit_each_bayHalved _ s (List.Nodup.filter _ ?_) ?_
  · rw [List.nodup_cons, List.mem_singleton]
    exact ⟨by omega, List.nodup_singleton _⟩
  · rw [List.mem_filter, List.mem_cons, List.mem_singleton]
    exact ⟨by omega, hlive⟩

/-- The registers of a bay stand apart from those of heat. -/
theorem State.bayRd_tclkShow_heatRead (s : State) {f : Fld} (hdims : f.dims = [(2, 0x1000)])
    (hf : f.clear R.ERR_THERMAL_TEMP = true ∧ f.clear R.ERR_THERMAL_LEVEL = true ∧ f.clear R.ERR_THERMAL_TCLK_16 = true) (d temp b : Nat) :
    ((s.heatRead d temp).tclkShow d).bayRd f b = s.bayRd f b := by
  obtain ⟨htemp, hlevel, htclk⟩ := hf
  have hread : (s.heatRead d temp).bayRd f b = s.bayRd f b :=
    (State.rd_wr_clear _ hlevel _ (bayIx_fits hdims b)).trans (State.rd_wr_clear _ htemp _ (bayIx_fits hdims b))
  unfold State.tclkShow
  extract_lets v
  split
  · exact hread
  · exact (State.rd_wr_clear _ htclk _ (bayIx_fits hdims b)).trans hread

theorem State.bayInfo_tclkShow_heatRead (s : State) (d temp b : Nat) : ((s.heatRead d temp).tclkShow d).bayInfo b = s.bayInfo b :=
  State.tclkShow_part (·.bayInfo b) (fun _ _ _ _ _ => rfl) (s.heatRead d temp) d

theorem State.plimit_hold (s : State) (temp : Nat) {b : Nat} (hb : b / 2 = d) (hlive : s.bayLive b = true) :
    ((((s.heatRead d temp).tclkShow d).baysHalved d).bayInfo b).plimit = min (classLimit (s.bayInfo b).cls) (s.bayRd R.BAY_PLIMIT b) / 2 := by
  have hlive' : ((s.heatRead d temp).tclkShow d).bayLive b = true := by
    rw [State.bayLive, s.bayRd_tclkShow_heatRead rfl (by decide)]
    exact hlive
  rw [State.plimit_baysHalved _ hb hlive', State.halfLimit, State.bayInfo_tclkShow_heatRead, s.bayRd_tclkShow_heatRead rfl (by decide)]

end

end Sys2Proof.Machine
end

section
namespace Sys2Proof.Machine

section
variable {s t u v : State} {d : Nat}

/-! ### The timers of TCLK (R553, R554) -/

section
variable {k wait dt : Nat} {f : State → State}

/-- The package as a timer of TCLK has run. -/
def State.tclkMoved (s : State) (k dt : Nat) : State := { s with now := (s.at_ dt).now, heat := { s.heat with tclkAt := SMap.ins s.heat.tclkAt k (s.at_ dt).now } }

theorem State.tclkStep_due (hdue : ∀ l, SMap.look s.heat.tclkAt k = some l → l + wait ≤ (s.at_ dt).now) : s.tclkStep k wait dt f = f (s.tclkMoved k dt) := by
  unfold State.tclkStep
  extract_lets now
  split
  · next l hl => exact if_neg (Nat.not_lt.2 (hdue l hl))
  · rfl

theorem State.tclkStep_early {l : Nat} (hlast : SMap.look s.heat.tclkAt k = some l) (hearly : (s.at_ dt).now < l + wait) : s.tclkStep k wait dt f = s := by
  unfold State.tclkStep
  rw [hlast]
  exact if_pos hearly

end

/-- A die whose own TCLK asks for `x` sixteenths. -/
def State.tclkAsked (s : State) (d x : Nat) : State := { s with heat := { s.heat with tclkDie := SMap.put 16 s.heat.tclkDie d x } }

/-- What a die's controller asks for next. -/
def State.tclkNext (s : State) (d : Nat) : Nat := if 1 ≤ s.rd R.ERR_THERMAL_LEVEL d then max 8 (s.tclkDie d - 1) else min 16 (s.tclkDie d + 1)

theorem exec_tclkAdjust_die {dt : Nat} (hd : d < 4) (hruns : s.dieRuns d = true)
    (hdue : ∀ l, SMap.look s.heat.tclkAt d = some l → l + (if 1 ≤ s.rd R.ERR_THERMAL_LEVEL d then 10 ^ 5 else 10 ^ 6) ≤ (s.at_ dt).now) :
    exec (.tclkAdjust false d dt) s = .next ((((s.tclkMoved d dt).tclkAsked d (s.tclkNext d)).tclkShow d).withQueue s.pending) :=
  within_next_eq (decide_eq_true hd) ((if_neg Bool.false_ne_true).trans ((if_neg (by rw [hruns]; decide)).trans (State.tclkStep_due hdue))) s

theorem exec_tclkAdjust_dieEarly {dt l : Nat} (hd : d < 4) (hlast : SMap.look s.heat.tclkAt d = some l)
    (hearly : (s.at_ dt).now < l + (if 1 ≤ s.rd R.ERR_THERMAL_LEVEL d then 10 ^ 5 else 10 ^ 6)) : exec (.tclkAdjust false d dt) s = .next s := by
  refine within_next_same (decide_eq_true hd) ((if_neg Bool.false_ne_true).trans ?_)
  by_cases hruns : s.dieRuns d = true
  · exact (if_neg (by rw [hruns]; decide)).trans (State.tclkStep_early hlast hearly)
  · exact if_pos (by rw [Bool.eq_false_iff.2 hruns]; rfl)

/-- The cap of the package at `x` sixteenths. -/
def State.tclkCapped (s : State) (x : Nat) : State := { s with heat := { s.heat with tclkCap := x } }

/-- The cap that the package asks for next. -/
def State.capNext (s : State) : Nat := if s.heat.capOn then max 8 (s.heat.tclkCap - 1) else min 16 (s.heat.tclkCap + 1)

theorem exec_tclkAdjust_package {dt : Nat} (hd : d < 4) (hpin : s.heat.prochot = false)
    (hdue : ∀ l, SMap.look s.heat.tclkAt 4 = some l → l + (if s.heat.capOn then 10 ^ 6 else 10 ^ 7) ≤ (s.at_ dt).now) : exec (.tclkAdjust true d dt) s =
      .next ((((s.tclkMoved 4 dt).tclkCapped s.capNext).each ((s.tclkMoved 4 dt).tclkCapped s.capNext).upDies State.tclkShow).withQueue s.pending) :=
  within_next_eq (decide_eq_true hd) ((if_pos rfl).trans ((if_neg (Bool.eq_false_iff.1 hpin)).trans (State.tclkStep_due hdue))) s

theorem exec_tclkAdjust_prochot {dt : Nat} (hd : d < 4) (hpin : s.heat.prochot = true) : exec (.tclkAdjust true d dt) s = .next s :=
  within_next_same (decide_eq_true hd) ((if_pos rfl).trans (if_pos hpin))

/-! ### The trip, the power cap and PROCHOT_N (R551, R554) -/

/-- A die held after THERMAL_TRIP, once. -/
def State.heatTripped (s : State) (d : Nat) : State :=
  { s with heat := { s.heat with tripped := if s.heat.tripped.contains d then s.heat.tripped else s.heat.tripped ++ [d] } }

theorem State.mem_heatTripped (s : State) (d : Nat) : d ∈ (s.heatTripped d).heat.tripped := by
  show d ∈ if s.heat.tripped.contains d then s.heat.tripped else s.heat.tripped ++ [d]
  split
  · next h => exact List.contains_iff_mem.1 h
  · exact List.mem_append_right _ List.mem_cons_self

theorem not_cool {n : Nat} (hhot : 10 ≤ n) {runs : Bool} (hruns : runs = true) : ¬(decide (n < 10) || !runs) = true := by
  rw [decide_eq_false (Nat.not_lt.2 hhot), hruns]
  decide

theorem exec_thermalTrip_die (hlead : 1 ≤ d) (hd : d < 4) (hhot : 10 ≤ SMap.get 0 s.heat.hotReads d) (hruns : s.dieRuns d = true) (hnone : ∀ x ∈ s.heat.resets, x.1 ≠ d) :
    exec (.thermalTrip d) s =
      .next (({ s.heatTripped d with heat := { (s.heatTripped d).heat with resets := s.heat.resets ++ [(d, 9 * 256 + 4)] } } : State).withQueue s.pending) := by
  have hdie : SMap.get 0 s.dies d ≠ 1 := by
    rw [beq_iff_eq.1 hruns]
    decide
  exact within_next_eq (decide_eq_true hd) ((if_neg (not_cool hhot hruns)).trans ((if_neg (Nat.ne_of_gt hlead)).trans
    (State.askReset_waits (s := s.heatTripped d) (Nat.ne_of_gt hlead) hdie hnone))) s

theorem exec_thermalTrip_package (hhot : 10 ≤ SMap.get 0 s.heat.hotReads 0) (hruns : s.dieRuns 0 = true) :
    exec (.thermalTrip 0) s = .next ((s.err 0 (.plain 9 4 3 (scopeOf 9 0) (s.thermalReg 0))).packageReset.withQueue s.pending) := by
  refine within_next_eq rfl ?_ s
  rw [if_neg (not_cool hhot hruns), if_pos rfl]

theorem exec_thermalTrip_cool (hd : d < 4) (hcool : SMap.get 0 s.heat.hotReads d < 10) : exec (.thermalTrip d) s = .next s :=
  within_next_same (decide_eq_true hd) (if_pos (by rw [decide_eq_true hcool]; rfl))

/-- The package with a millisecond's power, and the milliseconds above the limit. -/
def State.powerRead (s : State) (p n : Nat) : State := { s.wr R.ERR_PKG_POWER_POWER_W 0 [] (min 65535 p) with heat := { s.heat with overMs := n } }

theorem State.limit_power (s : State) (p : Nat) : (s.wr R.ERR_PKG_POWER_POWER_W 0 [] p).rd R.ERR_PKG_POWER_LIMIT_W 0 = s.rd R.ERR_PKG_POWER_LIMIT_W 0 :=
  State.rd_wr_apart s (by decide) 0 [] p

theorem State.power_powerRead (s : State) (p n : Nat) : (s.powerRead p n).rd R.ERR_PKG_POWER_POWER_W 0 = min 65535 p :=
  State.rd_wr_fits s R.ERR_PKG_POWER_POWER_W _ _ _ (Nat.lt_of_le_of_lt (Nat.min_le_left _ _) (by decide))

theorem exec_pkgPowerSample {p n : Nat} (hn : n = if s.rd R.ERR_PKG_POWER_LIMIT_W 0 < p then s.heat.overMs + 1 else 0)
    (hu : (if s.heat.capOn then (if p < s.rd R.ERR_PKG_POWER_LIMIT_W 0 then { s.powerRead p n with heat := { (s.powerRead p n).heat with capOn := false } } else s.powerRead p n)
      else if 10 ≤ n then ({ s.powerRead p n with heat := { (s.powerRead p n).heat with capOn := true } } : State).capRecord else s.powerRead p n) = u) :
    exec (.pkgPowerSample p) s = .next (u.withQueue s.pending) := by
  subst hn
  refine within_next_eq rfl (Eq.trans ?_ hu) s
  rw [← s.limit_power (min 65535 p)]
  rfl

theorem exec_pkgPowerSample_counts {p : Nat} (hcap : s.heat.capOn = false) (hover : s.rd R.ERR_PKG_POWER_LIMIT_W 0 < p) (hfew : s.heat.overMs < 9) :
    exec (.pkgPowerSample p) s = .next ((s.powerRead p (s.heat.overMs + 1)).withQueue s.pending) :=
  exec_pkgPowerSample (if_pos hover).symm ((if_neg (Bool.eq_false_iff.1 hcap)).trans (if_neg (by omega)))

theorem exec_pkgPowerSample_caps {p : Nat} (hcap : s.heat.capOn = false) (hover : s.rd R.ERR_PKG_POWER_LIMIT_W 0 < p) (hmany : 9 ≤ s.heat.overMs) : exec (.pkgPowerSample p) s =
    .next (({ s.powerRead p (s.heat.overMs + 1) with heat := { (s.powerRead p (s.heat.overMs + 1)).heat with capOn := true } } : State).capRecord.withQueue s.pending) :=
  exec_pkgPowerSample (if_pos hover).symm ((if_neg (Bool.eq_false_iff.1 hcap)).trans (if_pos (by omega)))

/-- A package below its limit, whatever came before. -/
theorem exec_pkgPowerSample_below {p : Nat} (hbelow : p < s.rd R.ERR_PKG_POWER_LIMIT_W 0) :
    ∃ u, exec (.pkgPowerSample p) s = .next u ∧ u.heat = { s.heat with overMs := 0, capOn := false } := by
  have hn : 0 = if s.rd R.ERR_PKG_POWER_LIMIT_W 0 < p then s.heat.overMs + 1 else 0 := (if_neg (Nat.not_lt.2 (Nat.le_of_lt hbelow))).symm
  cases hcap : s.heat.capOn with
  | true =>
    refine ⟨_, exec_pkgPowerSample hn ((if_pos hcap).trans (if_pos hbelow)), ?_⟩
    rw [State.withQueue_heat]
    rfl
  | false =>
    refine ⟨_, exec_pkgPowerSample hn ((if_neg (Bool.eq_false_iff.1 hcap)).trans (if_neg (by decide))), ?_⟩
    rw [State.withQueue_heat, ← hcap]
    rfl

/-- The package with PROCHOT_N low. -/
def State.prochotLow (s : State) : State := { s with heat := { s.heat with prochot := true, tclkCap := min 8 s.heat.tclkCap } }

theorem exec_prochot (hpin : s.heat.prochot = false) : exec .prochot s = .next ((s.prochotLow.each s.prochotLow.upDies State.tclkShow).capRecord.withQueue s.pending) :=
  within_next_eq rfl (if_neg (Bool.eq_false_iff.1 hpin)) s

/-! ### Telemetry (R560) -/

theorem State.perfTime_part {α : Type} (p : State → α) (hwr : ∀ t f d ix v, p (State.wr t f d ix v) = p t) (hfree : ∀ t n, p (State.useFree t n) = p t)
    (hclu : ∀ t c x, p (State.setClu t c x) = p t) (s : State) (c : Nat) : p (s.perfTime c) = p s := by
  unfold State.perfTime
  split
  · rfl
  · extract_lets w
    have hw : p w = p s := State.each_keeps (fun t => p t = p s) _ (fun t _ ht => ((hfree _ _).trans (hwr t _ _ _ _)).trans ht) _ _ rfl
    exact (hclu _ _ _).trans hw

theorem State.waited_part {α : Type} (p : State → α) (hwr : ∀ t f d ix v, p (State.wr t f d ix v) = p t) (hfree : ∀ t n, p (State.useFree t n) = p t)
    (s : State) (f : Fld) (d : Nat) (ix : List Nat) : p (s.waited f d ix) = p s := by
  unfold State.waited
  split
  · exact (hfree _ _).trans (hwr s _ _ _ _)
  · split
    · exact (hfree _ _).trans (hwr s _ _ _ _)
    · rfl

theorem State.tick_perfTime (s : State) (c : Nat) : (s.perfTime c).tick = s.tick := by
  have hflds : ∀ f ∈ [R.CLU_PERF_CUBE, R.CLU_PERF_TOKEN, R.CLU_PERF_CREDIT, R.CLU_PERF_FETCH], R.TCK_NUMBER.clear f = true ∧ f.dims = [(128, 0x10000)] := by decide
  unfold State.perfTime
  split
  · rfl
  · refine State.rd_each (g := R.TCK_NUMBER) (e := 0) (jx := []) _ _ _ fun t f hf => ?_
    obtain ⟨hclear, hdims⟩ := hflds f hf
    refine State.rd_wr_clear t hclear _ trivial ?_
    rw [hdims]
    exact ⟨Nat.mod_lt _ (by decide), trivial⟩

theorem State.tick_waited {f : Fld} (hclear : R.TCK_NUMBER.clear f = true) {ix : List Nat} (hix : idxFits f.dims ix) (s : State) (d : Nat) : (s.waited f d ix).tick = s.tick := by
  unfold State.waited
  split
  · exact State.rd_wr_clear s hclear _ trivial hix
  · split
    · exact State.rd_wr_clear s hclear _ trivial hix
    · rfl

/-- The counters of a die as they are sampled. -/
def State.telReady (s : State) (d : Nat) : State :=
  (s.each ((List.range 128).map (· + 128 * d)) State.perfTime).each ([R.PWR_CORE_POWER_W, R.FLL_M_STALL] : List Fld) (fun s f => s.each f.indices (fun s ix => s.waited f d ix))

theorem State.telReady_part {α : Type} (p : State → α) (hwr : ∀ t f d ix v, p (State.wr t f d ix v) = p t) (hfree : ∀ t n, p (State.useFree t n) = p t)
    (hclu : ∀ t c x, p (State.setClu t c x) = p t) (s : State) (d : Nat) : p (s.telReady d) = p s := by
  unfold State.telReady
  refine State.each_keeps (fun t => p t = p s) _ (fun t f ht => ?_) _ _ ?_
  · exact State.each_keeps (fun t => p t = p s) _ (fun t _ ht => (State.waited_part p hwr hfree t f d _).trans ht) _ _ ht
  · exact State.each_keeps (fun t => p t = p s) _ (fun t c ht => (State.perfTime_part p hwr hfree hclu t c).trans ht) _ _ rfl

/-- The indices of the two counters that wait are within their fields. -/
theorem telWaits_fits : ∀ f ∈ ([R.PWR_CORE_POWER_W, R.FLL_M_STALL] : List Fld), R.TCK_NUMBER.clear f = true ∧ ∀ ix ∈ f.indices, idxFits f.dims ix := by
  intro f hf
  rcases List.mem_pair.1 hf with rfl | rfl
  · refine ⟨by decide, fun ix hix => ?_⟩
    rw [List.mem_singleton.1 hix]
    trivial
  · refine ⟨by decide, fun ix hix => ?_⟩
    obtain ⟨i, hi, rfl⟩ := (Fld.mem_indices_single (n := 137) rfl ix).1 hix
    exact ⟨hi, trivial⟩

theorem State.tick_telReady (s : State) (d : Nat) : (s.telReady d).tick = s.tick := by
  refine (State.rd_each (g := R.TCK_NUMBER) (e := 0) (jx := []) _ _ _ fun t f hf => ?_).trans
    (State.rd_each (g := R.TCK_NUMBER) (e := 0) (jx := []) _ _ _ fun t c _ => t.tick_perfTime c)
  obtain ⟨hclear, hfits⟩ := telWaits_fits f hf
  exact State.rd_each (g := R.TCK_NUMBER) (e := 0) (jx := []) _ _ _ fun t ix hix => State.tick_waited hclear (hfits ix hix) t d

theorem State.telSample_due (hevery : s.rd R.ERR_TEL_CFG_TEL_EVERY d ≠ 0) (hdue : s.tick % s.rd R.ERR_TEL_CFG_TEL_EVERY d = 0) (hruns : s.dieRuns d = true) :
    s.telSample d = { s.telReady d with heat := { (s.telReady d).heat with telDue := (s.telReady d).heat.telDue ++ [(d, (s.telReady d).telBytes d)] } } := by
  refine if_neg ?_
  rw [hdue, hruns, decide_eq_false hevery]
  decide

theorem State.telSample_none (h : s.rd R.ERR_TEL_CFG_TEL_EVERY d = 0 ∨ s.tick % s.rd R.ERR_TEL_CFG_TEL_EVERY d ≠ 0) : s.telSample d = s := by
  refine if_pos ?_
  rw [Bool.or_eq_true, Bool.or_eq_true, decide_eq_true_eq, bne_iff_ne]
  exact .inl h

theorem exec_telSnapshot {x : Nat × List Byte} (hd : d < 4) (hfind : s.heat.telDue.find? (fun x => x.1 == d) = some x)
    (hv : v = { s with heat := { s.heat with telDue := s.heat.telDue.erase x, telSlots := SMap.ins s.heat.telSlots d (SMap.get 0 s.heat.telSlots d + 1) } }) :
    exec (.telSnapshot d) s = .next (((v.post { Agent.collar d with wcls := 3 } .none_ (s.rd R.ERR_TEL_BASE_BASE d * 2 ^ 16 +
      SMap.get 0 s.heat.telSlots d % 2 ^ s.rd R.ERR_TEL_CFG_TEL_LOG2 d * 2 ^ 16) x.2).getD v).withQueue s.pending) := by
  subst hv
  refine within_next_eq (decide_eq_true hd) ?_ s
  rw [hfind] <;> rfl

theorem exec_telSnapshot_none (hd : d < 4) (hnone : ∀ x ∈ s.heat.telDue, x.1 ≠ d) : exec (.telSnapshot d) s = .next s := by
  have hfind : s.heat.telDue.find? (fun x => x.1 == d) = none := List.find?_eq_none.2 fun x hx he => hnone x hx (beq_iff_eq.1 he)
  exact within_next_same (decide_eq_true hd) (by rw [hfind])

end

end Sys2Proof.Machine
end

section
namespace Sys2Proof.Machine

section
variable {s t u v : State} {d : Nat}

/-! ### Ageing (R561) -/

/-- Writes to fields that stand apart from a field, at indices they have. -/
theorem State.rd_wrs_clear {g : Fld} {e : Nat} {jx ix : List Nat} {dims : List (Nat × Nat)} (hjx : idxFits g.dims jx) (hix : idxFits dims ix) (d : Nat) :
    ∀ (l : List (Fld × Nat)) (s : State), l.all (fun p => g.clear p.1 && p.1.dims == dims) = true → (s.wrs d ix l).rd g e jx = s.rd g e jx
  | [], _, _ => rfl
  | p :: l, s, h => by
    simp only [List.all_cons, Bool.and_eq_true, beq_iff_eq] at h
    obtain ⟨⟨hclear, hdims⟩, hl⟩ := h
    exact (State.rd_wrs_clear hjx hix d l _ (by simpa only [Bool.and_eq_true, List.all_eq_true, beq_iff_eq] using hl)).trans
      (s.rd_wr_clear hclear p.2 hjx (hdims ▸ hix))

/-- A die with the day's minimum of each sensor. -/
def State.ageSensors (s : State) (d : Nat) (mins : List Nat) : State :=
  s.each (List.range 64) (fun s k => s.wr R.AGE_SENSOR_MARGIN d [k] (min 65535 (mins.getD k 0)))

/-- A die with the hours and the corrected errors of its stacks, and its worst eye margins. -/
def State.ageStacks (s : State) (d : Nat) (hours85 hours90 ret lanes : List Nat) : State :=
  (s.each (List.range 4) (fun s k => s.wrs d [k] [(R.AGE_STACK_HOURS_85, min 65535 (hours85.getD k 0)), (R.AGE_STACK_HOURS_90, min 65535 (hours90.getD k 0)),
    (R.AGE_STACK_RET, ret.getD k 0)])).wrs d [] [(R.AGE_LANE_HBM, lanes.getD 0 0), (R.AGE_LANE_RING, lanes.getD 1 0), (R.AGE_LANE_BAY, lanes.getD 2 0),
    (R.AGE_LANE_TORUS, lanes.getD 3 0)]

theorem State.ageDay_eq (s : State) (d : Nat) (mins hours85 hours90 ret lanes : List Nat) :
    s.ageDay d mins hours85 hours90 ret lanes = ((s.bump R.AGE_STATUS_DAYS d [] 1).ageSensors d mins).ageStacks d hours85 hours90 ret lanes := rfl

theorem State.days_ageSensors (s : State) (d : Nat) (mins : List Nat) : (s.ageSensors d mins).rd R.AGE_STATUS_DAYS d = s.rd R.AGE_STATUS_DAYS d :=
  State.rd_each _ _ _ fun t _ hk => t.rd_wr_clear (f := R.AGE_SENSOR_MARGIN) (by decide) _ trivial ⟨List.mem_range.1 hk, trivial⟩

theorem State.margin_ageSensors (s : State) (d : Nat) (mins : List Nat) {k : Nat} (hk : k < 64) :
    (s.ageSensors d mins).rd R.AGE_SENSOR_MARGIN d [k] = min 65535 (mins.getD k 0) := by
  have hsame (t : State) (a : Nat) : (t.wr R.AGE_SENSOR_MARGIN d [a] (min 65535 (mins.getD a 0))).rd R.AGE_SENSOR_MARGIN d [a] = min 65535 (mins.getD a 0) :=
    State.rd_wr_fits t R.AGE_SENSOR_MARGIN _ _ _ (Nat.lt_of_le_of_lt (Nat.min_le_left _ _) (by decide))
  refine State.each_establishes (fun k t => t.rd R.AGE_SENSOR_MARGIN d [k] = min 65535 (mins.getD k 0)) _ hsame (fun t a b ha => ?_) _ s k (List.mem_range.2 hk)
  by_cases hab : a = b
  · subst hab
    exact hsame t a
  · refine (State.rd_wr_ne t _ _ _ _ _ _ _ fun hkey => hab ?_).trans ha
    simp only [Fld.key, Fld.offset, strideSum, R.AGE_SENSOR_MARGIN] at hkey
    omega

/-- The stacks and lanes leave the days and the sensors. -/
theorem State.rd_ageStacks {g : Fld} {jx : List Nat} (hjx : idxFits g.dims jx)
    (hg : [R.AGE_STACK_HOURS_85, R.AGE_STACK_HOURS_90, R.AGE_STACK_RET, R.AGE_LANE_HBM, R.AGE_LANE_RING, R.AGE_LANE_BAY, R.AGE_LANE_TORUS].all (g.clear ·) = true)
    (s : State) (d : Nat) (hours85 hours90 ret lanes : List Nat) : (s.ageStacks d hours85 hours90 ret lanes).rd g d jx = s.rd g d jx := by
  simp only [List.all_cons, List.all_nil, Bool.and_true, Bool.and_eq_true] at hg
  obtain ⟨h85, h90, hret, hhbm, hring, hbay, htorus⟩ := hg
  refine (State.rd_wrs_clear (dims := []) hjx trivial d _ _ ?_).trans (State.rd_each _ _ _ fun t k hk =>
    State.rd_wrs_clear (dims := [(4, 0x8)]) (ix := [k]) hjx ⟨List.mem_range.1 hk, trivial⟩ d _ t ?_)
  · simp only [List.all_cons, List.all_nil, hhbm, hring, hbay, htorus, Bool.true_and, Bool.and_true]
    decide
  · simp only [List.all_cons, List.all_nil, h85, h90, hret, Bool.true_and, Bool.and_true]
    decide

theorem State.days_ageDay (s : State) (d : Nat) (mins hours85 hours90 ret lanes : List Nat) :
    (s.ageDay d mins hours85 hours90 ret lanes).rd R.AGE_STATUS_DAYS d = min (2 ^ R.AGE_STATUS_DAYS.width - 1) (s.rd R.AGE_STATUS_DAYS d + 1) := by
  rw [State.ageDay_eq, State.rd_ageStacks (g := R.AGE_STATUS_DAYS) (jx := []) trivial (by decide), State.days_ageSensors, State.rd_bump_same]

theorem State.margin_ageDay (s : State) (d : Nat) (mins hours85 hours90 ret lanes : List Nat) {k : Nat} (hk : k < 64) :
    (s.ageDay d mins hours85 hours90 ret lanes).rd R.AGE_SENSOR_MARGIN d [k] = min 65535 (mins.getD k 0) := by
  rw [State.ageDay_eq, State.rd_ageStacks (g := R.AGE_SENSOR_MARGIN) (jx := [k]) ⟨hk, trivial⟩ (by decide), State.margin_ageSensors _ d mins hk]

theorem exec_ageDailyFit {mins h85 h90 ret lanes : List Nat} {eol low high kind index : Nat} {w : State} (hd : d < 4) (hruns : s.dieRuns d = true)
    (hw : w = (s.ageDay d mins h85 h90 ret lanes).ageMargins d) : exec (.ageDailyFit d mins h85 h90 ret lanes eol low high kind index) s =
      .next ((if w.rd R.AGE_STATUS_DAYS d < 30 then w else w.agePredict d eol low high kind index).withQueue s.pending) := by
  have hgo : ¬(!s.dieRuns d) = true := by rw [hruns]; decide
  refine within_next_eq (decide_eq_true hd) ?_ s
  rw [if_neg hgo, hw]

/-! ### Readings as commands -/

theorem exec_thermalSample {temp : Nat} (hd : d < 4) (h : s.thermalSample d temp = u) : exec (.thermalSample d temp) s = .next (u.withQueue s.pending) :=
  within_next_eq (decide_eq_true hd) h s

theorem State.errs_heatEvent (s : State) (d temp : Nat) : (((s.heatRead d temp).tclkShow d).heatEvent d).errs = s.errs :=
  State.tclkShow_part (·.errs) (fun _ _ _ _ _ => rfl) (s.heatRead d temp) d

theorem State.level_shown (s : State) (d temp : Nat) : ((s.heatRead d temp).tclkShow d).rd R.ERR_THERMAL_LEVEL d =
    nextLevel (s.rd R.ERR_THERMAL_LEVEL d) temp (s.rd R.ERR_THERMAL_THROTTLE_C d) :=
  (State.rd_tclkShow (by decide) _ d).trans (s.level_heatRead d temp)

theorem State.level_halved (s : State) (d temp : Nat) : (((s.heatRead d temp).tclkShow d).baysHalved d).rd R.ERR_THERMAL_LEVEL d =
    nextLevel (s.rd R.ERR_THERMAL_LEVEL d) temp (s.rd R.ERR_THERMAL_THROTTLE_C d) := by
  rw [State.rd, State.regs_baysHalved, ← State.rd, State.level_shown]

theorem nextLevel_cases (old temp throttle : Nat) (hthrottle : throttle ≤ 100) : (100 ≤ temp → nextLevel old temp throttle = 2) ∧
    (temp < 100 → throttle ≤ temp → old < 2 → nextLevel old temp throttle = 1) ∧
    (temp + 3 < throttle → nextLevel old temp throttle = if old = 2 ∧ 97 ≤ temp then 2 else 0) ∧ (old = 2 → 97 ≤ temp → nextLevel old temp throttle = 2) ∧
    (old = 1 → temp < 100 → throttle ≤ temp + 3 → nextLevel old temp throttle = 1) ∧ (old = 0 → temp < throttle → temp < 100 → nextLevel old temp throttle = 0) := by
  refine ⟨fun h => nextLevel_hold (.inl h), fun h hwarm hold => nextLevel_throttle (by omega) (.inl hwarm), fun h => ?_, fun hold h => nextLevel_hold (.inr ⟨hold, h⟩),
    fun hold h hwarm => nextLevel_throttle (by omega) (.inr ⟨by omega, hwarm⟩), fun hold hcool h => nextLevel_normal (by omega) (by omega)⟩
  rw [if_neg (by omega)]
  exact nextLevel_normal (by omega) (by omega)

end

/-- Settles O59: the level follows the reading, TCLK follows the level and the caps, and trips, power, telemetry and ageing do what their rows say. -/
theorem heatCommandsComplete : Obligations.HeatCommandsComplete := by
  refine ⟨?levels, ?falls, ?throttles, ?holds, ?tclk, ?released, ?held, ?die, ?dieEarly, ?package, ?packagePin, ?trip, ?tripPackage, ?cool, ?power, ?below, ?prochot,
    ?prochotHigh, ?sample, ?noSample, ?snapshot, ?noSnapshot, ?fit, ?day⟩
  case levels =>
    intro old t throttle hthrottle _
    exact nextLevel_cases old t throttle hthrottle
  case falls =>
    intro d t s hd hdie hold hfalls
    exact ⟨s.heatRead d t, exec_thermalSample hd (State.thermalSample_falls hdie hold hfalls), s.temp_heatRead d t, s.level_heatRead d t, rfl, rfl⟩
  case throttles =>
    intro d t s hd hdie hold ht hwarm
    have hnew : nextLevel (s.rd R.ERR_THERMAL_LEVEL d) t (s.rd R.ERR_THERMAL_THROTTLE_C d) = 1 := nextLevel_throttle (by omega) (.inl hwarm)
    exact ⟨((s.heatRead d t).tclkShow d).heatEvent d, exec_thermalSample hd (State.thermalSample_throttles hdie hold hnew),
      (State.level_heatEvent _ d).trans ((s.level_shown d t).trans hnew), State.event_heatEvent _ d, s.errs_heatEvent d t⟩
  case holds =>
    intro d t s hd hdie hold ht
    have hnew : nextLevel (s.rd R.ERR_THERMAL_LEVEL d) t (s.rd R.ERR_THERMAL_THROTTLE_C d) = 2 := nextLevel_hold (.inl ht)
    exact ⟨(((s.heatRead d t).tclkShow d).baysHalved d).heatEvent d, exec_thermalSample hd (State.thermalSample_holds hdie hold hnew),
      (State.level_heatEvent _ d).trans ((s.level_halved d t).trans hnew), State.event_heatEvent _ d, fun b hb hlive => s.plimit_hold t hb hlive⟩
  case tclk =>
    intro d s _ hmin
    exact State.tclk_tclkShow hmin
  case released =>
    intro d t s hd hdie ht
    refine ⟨_, exec_thermalSample hd ((State.thermalSample_held hdie).trans (if_pos ht)), ?_, State.withQueue_regs _ _⟩
    rw [State.withQueue_heat]
    simp
  case held =>
    intro d t s hd hdie ht
    exact within_next_same (decide_eq_true hd) ((State.thermalSample_held hdie).trans (if_neg (Nat.not_lt.2 ht)))
  case die =>
    intro d dt s hd hruns hdue
    exact ⟨(s.tclkMoved d dt).tclkAsked d (s.tclkNext d), exec_tclkAdjust_die hd hruns hdue, rfl, SMap.get_put_same _ _ _ _⟩
  case dieEarly =>
    intro d dt l s hd hlast hearly
    exact exec_tclkAdjust_dieEarly hd hlast hearly
  case package =>
    intro d dt s hd hpin hdue
    exact ⟨(s.tclkMoved 4 dt).tclkCapped s.capNext, exec_tclkAdjust_package hd hpin hdue, rfl, rfl⟩
  case packagePin =>
    intro d dt s hd hpin
    exact exec_tclkAdjust_prochot hd hpin
  case trip =>
    intro d s hlead hd hhot hruns hnone
    refine ⟨_, exec_thermalTrip_die hlead hd hhot hruns hnone, ?_, ?_, State.withQueue_regs _ _⟩
    · rw [State.withQueue_heat]
      exact s.mem_heatTripped d
    · rw [State.withQueue_heat]
  case tripPackage =>
    intro s hhot hruns
    exact exec_thermalTrip_package hhot hruns
  case cool =>
    intro d s hd hcool
    exact exec_thermalTrip_cool hd hcool
  case power =>
    intro p s hcap hover
    refine ⟨fun hfew => ⟨_, exec_pkgPowerSample_counts hcap hover hfew, s.power_powerRead p (s.heat.overMs + 1), ?_⟩,
      fun hmany => ⟨_, exec_pkgPowerSample_caps hcap hover hmany, rfl, s.power_powerRead p (s.heat.overMs + 1)⟩⟩
    rw [State.withQueue_heat]
    rfl
  case below =>
    intro p s hbelow
    exact exec_pkgPowerSample_below hbelow
  case prochot =>
    intro s hpin
    exact ⟨s.prochotLow, exec_prochot hpin, rfl, rfl⟩
  case prochotHigh =>
    intro s
    exact ⟨_, within_next_eq rfl rfl s, State.withQueue_heat _ _, State.withQueue_regs _ _⟩
  case sample =>
    intro d s _ hevery hdue hruns
    refine ⟨s.telReady d, ?_, s.tick_telReady d, State.telReady_part (·.dram) (fun _ _ _ _ _ => rfl) (fun _ _ => rfl) (fun _ _ _ => rfl) s d⟩
    rw [State.telSample_due hevery hdue hruns, State.telReady_part (·.heat) (fun _ _ _ _ _ => rfl) (fun _ _ => rfl) (fun _ _ _ => rfl) s d]
  case noSample =>
    intro d s h
    exact State.telSample_none h
  case snapshot =>
    intro d x s v hd hfind hv
    exact exec_telSnapshot hd hfind hv
  case noSnapshot =>
    intro d s hd hnone
    exact exec_telSnapshot_none hd hnone
  case fit =>
    intro d mins h85 h90 ret lanes eol low high kind index s w hd hruns hw
    exact exec_ageDailyFit hd hruns hw
  case day =>
    intro d mins h85 h90 ret lanes s _
    exact ⟨s.days_ageDay d mins h85 h90 ret lanes, fun k hk => s.margin_ageDay d mins h85 h90 ret lanes hk⟩

end Sys2Proof.Machine
end
